-- ==== Sys2Proof/Word.lean ====
section
/-!
DEFINITION. Word.lean: the byte type and the small containers that every file uses.

A value that the manual only counts or compares is a `Nat`; bit vectors stand for what travels on a
line as bits (frames, headers, bytes). A dictionary payload of several bytes is the `Nat` whose
least significant byte is sent first (R7).
-/

namespace Sys2Proof

/-- One byte on a line or in a memory. -/
abbrev Byte := BitVec 8

/-- The four emitter ports (R13). -/
inductive Port where
  | a | b | c | d
  deriving DecidableEq, Repr

/-- The port's number, A = 0 to D = 3 (R263). -/
def Port.num : Port → Nat
  | .a => 0 | .b => 1 | .c => 2 | .d => 3

/-- All ports in order. -/
def Port.all : List Port := [.a, .b, .c, .d]

/-- The port of a number below 4. -/
def Port.ofNum : Nat → Port
  | 0 => .a | 1 => .b | 2 => .c | _ => .d

/-- One value for each port. -/
structure PerPort (α : Type) where
  a : α
  b : α
  c : α
  d : α
  deriving DecidableEq, Repr

/-- The value of port `p`. -/
def PerPort.get {α : Type} (x : PerPort α) : Port → α
  | .a => x.a | .b => x.b | .c => x.c | .d => x.d

/-- `x` with the value of port `p` replaced. -/
def PerPort.set {α : Type} (x : PerPort α) (p : Port) (v : α) : PerPort α :=
  match p with
  | .a => { x with a := v }
  | .b => { x with b := v }
  | .c => { x with c := v }
  | .d => { x with d := v }

/-- The same value for every port. -/
def PerPort.const {α : Type} (v : α) : PerPort α := ⟨v, v, v, v⟩

/-- `x` with the value of every port sent through `f`. -/
def PerPort.map {α β : Type} (x : PerPort α) (f : Port → α → β) : PerPort β :=
  ⟨f .a x.a, f .b x.b, f .c x.c, f .d x.d⟩

/-- `x` with the value of port `p` sent through `f`. -/
def PerPort.modify {α : Type} (x : PerPort α) (p : Port) (f : α → α) : PerPort α :=
  x.set p (f (x.get p))

end Sys2Proof
end

