-- ==== Sys2Proof/Syntax.lean ====
section
/-!
DEFINITION. Syntax.lean: the commands of the block, one constructor for each row of
spec/opcode_table.json, in the table's order, and the data that a command carries.

The table gives its rows no operand fields. The operands here are what the rule named by each row
needs from outside: which port, sensor or sink, the bits received, what an ADC conversion gave, what a
read-back found. An elapsed time or a bound is not an operand: the command is the moment itself.
-/

namespace Sys2Proof

/-- The power domains (R13, R14). -/
inductive Domain where
  | aon | safe | core | pix | link | dram | aux
  deriving DecidableEq, Repr

/-- The two dies (R13). -/
inductive Die where
  | ld | ad
  deriving DecidableEq, Repr

/-- What a negative acknowledge of the die-to-die bridge says has failed, by the number of the frame among those of the
sender that are not known to have got through, oldest first (R17, R357): the frame, or the Waybill record of which it
is a part. The manual gives the acknowledge's payload no layout, so this comes beside it (log 63). -/
inductive DdbFailure where
  | frame (i : Nat)
  | record (i : Nat)
  deriving DecidableEq, Repr

/-- A negative acknowledge of the die-to-die bridge (R17): its frame, and what it says has failed. -/
structure DdbNak where
  frame : BitVec 80
  failed : DdbFailure
  deriving DecidableEq, Repr

/-- A write of BlockAck: its data, and the bits of the unit's kinds that are raised on its clock (R373). -/
structure BlockAckWrite where
  data : List Byte
  raised : BitVec 16
  deriving DecidableEq, Repr

/-- What the short comparator of a sink channel sees in an on-run (R408): the channel and its pin voltage in mV. -/
structure SinkTrip where
  channel : Nat
  pin : Nat
  deriving DecidableEq, Repr

/-- The supervised supplies (R432). -/
inductive Supply where
  | adVin | vddCore | vddPll | vddaLane | vdd2 | vddq
  deriving DecidableEq, Repr

/-- Where a thermal state is kept: a die or the array of a port (R300). -/
inductive Location where
  | die (d : Die)
  | array (p : Port)
  deriving DecidableEq, Repr

/-- The CAN buses (R252). -/
inductive Bus where
  | a | b
  deriving DecidableEq, Repr

/-- The way a dictionary request reached the device (R229, R464): SHP with its tag, CAN with its bus
and tag, SBP, a record of a UHL OD_WRITE with its number, or the Caravan with its tag. -/
inductive Via where
  | shp (tag : Nat)
  | can (bus : Bus) (tag : Nat)
  | sbp
  | uhl (record : Nat)
  | caravan (tag : Nat)
  deriving DecidableEq, Repr

/-- The two sources of an update session (R482). -/
inductive Source where
  | svc | caravan
  deriving DecidableEq, Repr

/-- A character of the 8b/10b lanes: data, or one of the five special characters (R188). -/
inductive Character where
  | data (b : Byte)
  /-- /K28.5/. -/
  | idle
  /-- /K27.7/. -/
  | sop
  /-- /K29.7/. -/
  | eop
  /-- /K28.3/, the first symbol of an alignment marker. -/
  | marker
  /-- /K23.7/. -/
  | hold
  deriving DecidableEq, Repr

/-- A symbol as a receiver decodes it (R189): a character, a special character not in the table, an invalid code group, or
a running disparity error. -/
inductive Symbol where
  | char (c : Character)
  | otherSpecial
  | invalid
  | disparity
  deriving DecidableEq, Repr

/-- A packet of a host lane or a return lane as received (R193, R235): the symbols between its SOP and its EOP, with any
alignment marker that fell inside it, and on a host lane whether its SOP came before the last change of the control lane
(R232). -/
structure RxPacket where
  symbols : List Symbol
  early   : Bool := false
  deriving DecidableEq, Repr

/-- What the receiver of a host lane has counted (R231): code errors in a row, bad markers in a row, and the code errors of
the last 1 ms. -/
structure LaneReport where
  lane        : Nat
  consecutive : Nat
  markers     : Nat
  perMs       : Nat
  deriving DecidableEq, Repr

/-- The words that ECC has corrected in the last second: in DRAM, and in the SRAM regions (R27, R289). -/
structure CorrectedWords where
  dram : Nat
  sram : Nat
  deriving DecidableEq, Repr

/-- An SHP frame as received (R248, R249): the fields of the command word, its op being the command's unless it is a reserved
one, the length and data that follow it (after a reserved op all of it data), the CRC-8 byte (none when the frame ended
before it), and how many bytes the host clocked in the frame. -/
structure ShpFrame where
  reserved : Option Nat := none
  tag     : Nat
  index   : Nat
  sub     : Nat
  length  : Nat
  data    : List Byte
  crc     : Option Byte
  clocked : Nat
  deriving DecidableEq, Repr

/-- A CAN FD frame as received: its 29-bit identifier and its bytes (R253, R254). -/
structure CanFrame where
  bus  : Bus
  id   : BitVec 29
  data : List Byte
  deriving DecidableEq, Repr

/-- A request frame of the session protocol as received (R481): tag, payload and CRC; the op is the
command's. -/
structure SvcFrame where
  source  : Source
  tag     : Nat
  payload : List Byte
  crc     : BitVec 32
  deriving DecidableEq, Repr

/-- A message reassembled from the ring (R458): the position of its sender, its tag and its words. -/
structure RingMessage where
  source : Nat
  tag    : Nat
  words  : List (BitVec 16)
  deriving DecidableEq, Repr

/-- A Caravan frame as CARAVAN_IN is sampled on CLK_CORE (R450 to R452): for each rising edge from the sync edge on, the high
time and the clocks to the next rising edge; the CLK_CORE count since the start of the present eighth at which its sync edge
was sampled, and at the head the CLK_CORE since that frame's own sync edge was sent. -/
structure RingLine where
  edges : List (Nat × Nat)
  clock : Nat
  delay : Nat
  deriving DecidableEq, Repr

/-- What the reading of the two slots' images met at a boot check: a read that fails its retries in slot 0
or slot 1 (R477, reason 0x09). -/
structure ImageReads where
  fail0 : Bool
  fail1 : Bool
  deriving DecidableEq, Repr

/-- The raw codes of the strap measurement: ground, band-gap and up to three conversions of STRAP
(R428). -/
structure StrapCodes where
  gnd : Nat
  bg  : Nat
  c1  : Nat
  c2  : Nat
  c3  : Nat
  deriving DecidableEq, Repr

/-- A surface of the beam and symbol libraries as the CP loads it from flash: its number, its descriptor
values and whether the CP pins it (R99, R114). The libraries' contents are external (R473). -/
structure LibrarySurface where
  surface : Nat
  format  : Nat
  width   : Nat
  height  : Nat
  table   : Nat
  tag     : Nat
  palette : Nat
  pin     : Bool
  deriving DecidableEq, Repr

/-- One pixel of the master calibration record (R170, R171, R329): the pixel index, its calibration word,
its status code, its reference forward voltage in mV and temperature in 1/16 °C, and its factory
correction as a multiple of 1/2,048. -/
structure MasterPixel where
  pixel      : Nat
  word       : BitVec 32
  status     : Nat
  vf0        : Nat
  t0         : Int
  correction : Nat
  deriving DecidableEq, Repr

/-- What the CP reads from external flash before full service: library surfaces, the DRAM bytes that hold
them, and the pixels of the master calibration record that differ from the default word (R170, R473). -/
structure ServiceLoad where
  surfaces : List LibrarySurface
  dram     : List (Nat × Byte)
  pixels   : List MasterPixel
  deriving DecidableEq, Repr

/-- A flaw that a read path adds to what a memory holds: at position `pos` the value is XORed with
`flip`. An empty list is a clean read. -/
structure Flaw where
  pos  : Nat
  flip : Nat
  deriving DecidableEq, Repr

/-- The SRAM regions of R359; of the pixel maps the calibration map, or the status map. -/
inductive SramRegion where
  | outputBuffers (port : Port) (tile : Nat)
  | layerCaches (port : Port) (layer : Nat) (tile : Nat)
  | pixelMaps (status : Bool) (pixel : Nat)
  | tables
  | cpData
  | safeBeamCopy (port : Port)
  deriving DecidableEq, Repr

/-- A command of the block: one constructor for each row of the table. -/
inductive Instr where
  /-- POR_ASSERT (R416). -/
  | porAssert
  /-- POR_RELEASE (R420); whether RESET_N was released within the same AON cycle. -/
  | porRelease (sameCycle : Bool)
  /-- RESET_N_ASSERT (R417): a recognised low level. -/
  | resetNAssert
  /-- RESET_N_RELEASE (R420); whether POR was released within the same AON cycle, and the AON ticks of the
  reset. -/
  | resetNRelease (sameCycle : Bool) (leap : Nat)
  /-- OPTION_LOAD_COMMIT (R425) with the strap conversions (R428). -/
  | optionLoadCommit (strap : StrapCodes)
  /-- DOMAIN_POWER_DOWN_START (R438). -/
  | domainPowerDownStart (d : Domain)
  /-- DOMAIN_MIN_OFF_END (R439). -/
  | domainMinOffEnd (d : Domain)
  /-- DOMAIN_POWER_UP_DONE (R440), with the AON ticks since the last count. -/
  | domainPowerUpDone (d : Domain) (leap : Nat)
  /-- CP_BOOT_DONE (R430). -/
  | cpBootDone (reads : ImageReads)
  /-- SM_START_CHECKS_DONE (R430). -/
  | smStartChecksDone (reads : ImageReads)
  /-- SM_REBOOT_DONE (R442). -/
  | smRebootDone (reads : ImageReads)
  /-- LS_BOOT_DONE (R214). -/
  | lsBootDone (p : Port) (reads : ImageReads)
  /-- CTRL_ACK_TIMEOUT (R215). -/
  | ctrlAckTimeout (p : Port)
  /-- DRAM_TRAINING_DONE (R430). -/
  | dramTrainingDone
  /-- FULL_SERVICE (R430), with what the CP loads from flash. -/
  | fullService (load : ServiceLoad)
  /-- WAKE_RECOGNISED (R443), with the AON ticks since the last count. -/
  | wakeRecognised (leap : Nat)
  /-- HOST_VOTE_WRITE (R436). -/
  | hostVoteWrite (via : Via) (data : List Byte)
  /-- STOP_ENTRY_TASKS_DONE (R444). -/
  | stopEntryTasksDone
  /-- SUPPLY_WARNING (R433). -/
  | supplyWarning (supply : Supply)
  /-- SUPPLY_OUT_OF_WINDOW (R433). -/
  | supplyOutOfWindow (supply : Supply)
  /-- CORE_SUPPLY_WAIT_TIMEOUT (R434). -/
  | coreSupplyWaitTimeout
  /-- CLOCK_FALLBACK (R15). -/
  | clockFallback
  /-- DDB_READ_REQUEST (R16), received by the die. -/
  | ddbReadRequest (die : Die) (frame : BitVec 80)
  /-- DDB_READ_RESPONSE (R16). -/
  | ddbReadResponse (die : Die) (frame : BitVec 80)
  /-- DDB_WRITE (R16). -/
  | ddbWrite (die : Die) (frame : BitVec 80)
  /-- DDB_WRITE_ACKNOWLEDGE (R16). -/
  | ddbWriteAcknowledge (die : Die) (frame : BitVec 80)
  /-- DDB_WAYBILL (R357). -/
  | ddbWaybill (die : Die) (frame : BitVec 80)
  /-- DDB_EVENT (R16). -/
  | ddbEvent (die : Die) (frame : BitVec 80)
  /-- DDB_NEGATIVE_ACKNOWLEDGE (R17). -/
  | ddbNegativeAcknowledge (die : Die) (nak : DdbNak)
  /-- DDB_SILENCE_TIMEOUT (R17), on the die that heard nothing. -/
  | ddbSilenceTimeout (die : Die)
  /-- EIGHTH_BOUNDARY (R42), with the AON ticks counted in the eighth and, at a frame boundary, whether the
  ceiling table fails its CRC (R130). -/
  | eighthBoundary (leap : Nat) (badLut : Bool)
  /-- SYNC_OUT_PULSE_END (R61). -/
  | syncOutPulseEnd
  /-- SAMPLE_HK_CONVERSION_DONE (R295), with the raw code. -/
  | sampleHkConversionDone (raw : Nat)
  /-- ALMANAC_RELOAD_DONE (R68), with the firmware entries that the CP builds. -/
  | almanacReloadDone (firmware : List (Nat × BitVec 96))
  /-- ALMANAC_ONESHOT_JOURNAL_RETRY (R68). -/
  | almanacOneshotJournalRetry
  /-- ALMANAC_MASK_RESTART (R63). -/
  | almanacMaskRestart (via : Via) (data : List Byte)
  /-- SYNC_IN_EDGE (R46): the filtered edge and its place in the present eighth in 1/256. -/
  | syncInEdge (rising : Bool) (fraction : Nat)
  /-- UHL_TIME_SYNC (R245): the packet on a lane and the place of its end in the present eighth in 1/256. -/
  | uhlTimeSync (lane : Nat) (packet : RxPacket) (fraction : Nat)
  /-- REFERENCE_HOLDOVER (R48). -/
  | referenceHoldover
  /-- REFERENCE_PRIMARY_RETURN (R48). -/
  | referencePrimaryReturn
  /-- FRAME_RATE_WRITE (R52). -/
  | frameRateWrite (via : Via) (data : List Byte)
  /-- RC_MEASURE_WINDOW (R69), with the REFCLK count. -/
  | rcMeasureWindow (count : Nat)
  /-- LEAP_WRAPPED (R72). -/
  | leapWrapped
  /-- TILE_DECODE_DONE (R87): the source tile of a layer for a port. -/
  | tileDecodeDone (p : Port) (layer : Nat) (tile : Nat) (flaws : List Flaw)
  /-- TILE_REFETCH_DONE (R88). -/
  | tileRefetchDone (p : Port) (layer : Nat) (tile : Nat) (flaws : List Flaw)
  /-- TILE_LATE_TIMEOUT (R91). -/
  | tileLateTimeout (p : Port) (layer : Nat) (tile : Nat)
  /-- SURFACE_PIN (R97). -/
  | surfacePin (via : Via) (surface : Nat)
  /-- SURFACE_UNPIN (R98). -/
  | surfaceUnpin (via : Via) (surface : Nat)
  /-- PIN_COPY_DONE (R97). -/
  | pinCopyDone (surface : Nat)
  /-- WARP_MESH_WRITE (R102). -/
  | warpMeshWrite (via : Via) (p : Port) (data : List Byte)
  /-- MESH_INVERSION_DONE (R102). -/
  | meshInversionDone (p : Port)
  /-- PLANNER_RECOMPUTE_DONE (R113). -/
  | plannerRecomputeDone
  /-- MANIFEST_COMMIT (R133). -/
  | manifestCommit (via : Via) (data : List Byte)
  /-- MANIFEST_REFILL_DONE (R135). -/
  | manifestRefillDone
  /-- SHADE_SWAP_REQUEST (R124). -/
  | shadeSwapRequest (via : Via) (data : List Byte)
  /-- STAGED_BANK_REFILL_DONE (R125). -/
  | stagedBankRefillDone
  /-- SHADE_STALE (R128). -/
  | shadeStale
  /-- COMPOSITION_MODE_WRITE (R145). -/
  | compositionModeWrite (via : Via) (data : List Byte)
  /-- ZONE_ROW_STAGING_DONE (R26), with the ceiling cell rows that failed their CRC when they were loaded
  (R130). -/
  | zoneRowStagingDone (p : Port) (zoneRow : Nat) (badCells : List Nat)
  /-- TILE_COMPOSED (R146): tile row, tile column, the half of the tile in racing mode, and whether the ceiling
  cell row of the half-tile failed its CRC when it was loaded (R130). -/
  | tileComposed (p : Port) (row : Nat) (col : Nat) (lower : Bool) (badCell : Bool)
  /-- CEILING_MAP_RELOAD_DONE (R130). -/
  | ceilingMapReloadDone
  /-- SCAN_OUT_TILE_CHECK (R147), with the flaws of the read. -/
  | scanOutTileCheck (p : Port) (row : Nat) (col : Nat) (lower : Bool) (flaws : List Flaw)
  /-- FRAME_COMPOSITION_DONE (R153). -/
  | frameCompositionDone
  /-- COMPOSER_STALL (R358). -/
  | composerStall
  /-- COMPOSER_RESTART_DONE (R442). -/
  | composerRestartDone
  /-- TOLL_COMPUTATION_DONE (R317). -/
  | tollComputationDone
  /-- AGE_AVERAGING_PERIOD (R172). -/
  | ageAveragingPeriod
  /-- AGE_WRITEBACK (R173). -/
  | ageWriteback
  /-- FULL_SCALE_ESTIMATE (R174). -/
  | fullScaleEstimate (p : Port)
  /-- HOUSEKEEPING_SLOT (R293): the raw code of the slot's conversion, the LD sensors (slot 26), the AON
  ticks counted. -/
  | housekeepingSlot (raw : Nat) (ld : List Int) (leap : Nat)
  /-- PORT_SUPPLY_INSUFFICIENT (R181). -/
  | portSupplyInsufficient (p : Port)
  /-- SENSOR_DISQUALIFY (R297): sensors 0 to 7 are LD0 to LD7, 8 to 11 AD0 to AD3. -/
  | sensorDisqualify (sensor : Nat)
  /-- DIE_SHUTDOWN_DECISION (R303). -/
  | dieShutdownDecision (die : Die)
  /-- DIE_RESTART (R305). -/
  | dieRestart (die : Die)
  /-- THERMAL_STATE_FALL (R302). -/
  | thermalStateFall (loc : Location)
  /-- ARRAY_THERMAL_SHUTDOWN (R307). -/
  | arrayThermalShutdown (p : Port)
  /-- ARRAY_RESTART (R307). -/
  | arrayRestart (p : Port)
  /-- REFERENCE_DISAGREEMENT (R296). -/
  | referenceDisagreement
  /-- ARRAY_SENSOR_DISQUALIFY (R312). -/
  | arraySensorDisqualify (p : Port) (quadrant : Nat)
  /-- TOLL_MODEL_DIVERGENCE (R313). -/
  | tollModelDivergence (p : Port)
  /-- MODEL_DIVERGENCE_CLEAR (R313). -/
  | modelDivergenceClear (p : Port)
  /-- BAND_STATUS (R208). -/
  | bandStatus (p : Port) (packet : RxPacket)
  /-- VF_SAMPLE (R209). -/
  | vfSample (p : Port) (packet : RxPacket)
  /-- TEMP (R210). -/
  | temp (p : Port) (packet : RxPacket)
  /-- ACK (R211). -/
  | ack (p : Port) (packet : RxPacket)
  /-- LANE_FAIL (R219). -/
  | laneFail (p : Port) (packet : RxPacket)
  /-- HOLD_EXPIRED (R217). -/
  | holdExpired (p : Port) (packet : RxPacket)
  /-- LANE_TX_FAULT (R219). -/
  | laneTxFault (p : Port) (lane : Nat)
  /-- RETURN_LANE_LOST (R212). -/
  | returnLaneLost (p : Port)
  /-- RETURN_LANE_GRACE_EXPIRY (R212). -/
  | returnLaneGraceExpiry (p : Port)
  /-- RETURN_RECEIVER_RETRAINED (R212). -/
  | returnReceiverRetrained (p : Port)
  /-- BAND_STATUS_MISSED (R339). -/
  | bandStatusMissed (p : Port) (band : Nat)
  /-- LANE_RETRAIN (R223). -/
  | laneRetrain (p : Port) (lane : Nat)
  /-- LANE_RETRAIN_DONE (R223), with the lane's error count. -/
  | laneRetrainDone (p : Port) (lane : Nat) (errors : Nat)
  /-- LS_RESUME_TIMEOUT (R35). -/
  | lsResumeTimeout (p : Port)
  /-- PORT_FLT_ASSERT (R225). -/
  | portFltAssert (p : Port)
  /-- CONFIRMATION_STEP_START (R332). -/
  | confirmationStepStart (p : Port)
  /-- EMITTER_DISABLE_CLEAR (R335). -/
  | emitterDisableClear (via : Via) (p : Port) (data : List Byte)
  /-- PORT_ECHO_REENABLE (R338). -/
  | portEchoReenable (p : Port)
  /-- SM_TILE_JUDGED (R340): the tile and the flaws of the data as it arrived. -/
  | smTileJudged (tile : Nat) (flaws : List Flaw)
  /-- UHL_VIDEO_LINE (R238). -/
  | uhlVideoLine (lane : Nat) (packet : RxPacket)
  /-- VIDEO_TILE_ROW_ENCODED (R239). -/
  | videoTileRowEncoded (stream : Nat)
  /-- VIDEO_PICTURE_COMPLETE (R240). -/
  | videoPictureComplete (stream : Nat)
  /-- VIDEO_STREAM_BIND (R236). -/
  | videoStreamBind (via : Via) (stream : Nat) (data : List Byte)
  /-- UHL_SHADE_LIST (R241). -/
  | uhlShadeList (lane : Nat) (packet : RxPacket)
  /-- UHL_MANIFEST_COMMIT (R242). -/
  | uhlManifestCommit (lane : Nat) (packet : RxPacket)
  /-- UHL_OD_WRITE (R243). -/
  | uhlOdWrite (lane : Nat) (packet : RxPacket)
  /-- OD_WRITE_APPLY (R244). -/
  | odWriteApply
  /-- HOST_LANE_TRAINED (R231). -/
  | hostLaneTrained (lane : Nat)
  /-- HOST_LANE_FAIL (R231). -/
  | hostLaneFail (report : LaneReport)
  /-- HOST_LANE_RETRAIN (R231). -/
  | hostLaneRetrain (lane : Nat)
  /-- CONTROL_LANE_CHANGE (R232). -/
  | controlLaneChange
  /-- HOST_IRQ_CLEAR (R246). -/
  | hostIrqClear (via : Via) (data : List Byte)
  /-- SHP_READ (R249). -/
  | shpRead (frame : ShpFrame)
  /-- SHP_WRITE (R249). -/
  | shpWrite (frame : ShpFrame)
  /-- SHP_POLL (R250). -/
  | shpPoll (frame : ShpFrame)
  /-- SHP_BURST_READ (R249). -/
  | shpBurstRead (frame : ShpFrame)
  /-- SHP_BURST_WRITE (R249). -/
  | shpBurstWrite (frame : ShpFrame)
  /-- DICTIONARY_REQUEST_DONE (R251): the oldest request of SHP, or of the CAN buses. -/
  | dictionaryRequestDone (shp : Bool)
  /-- OD_OBJECT_WRITE (R279). -/
  | odObjectWrite (via : Via) (index : Nat) (sub : Nat) (data : List Byte)
  /-- CAN_SINGLE_FRAME (R254). -/
  | canSingleFrame (frame : CanFrame)
  /-- CAN_FIRST_FRAME (R254). -/
  | canFirstFrame (frame : CanFrame)
  /-- CAN_CONSECUTIVE_FRAME (R255). -/
  | canConsecutiveFrame (frame : CanFrame)
  /-- CAN_ABORT_FRAME (R254). -/
  | canAbortFrame (frame : CanFrame)
  /-- CAN_TRANSFER_TIMEOUT (R255). -/
  | canTransferTimeout (bus : Bus)
  /-- CAN_BUS_OFF (R252). -/
  | canBusOff (bus : Bus)
  /-- SBP_SET_POINTER (R258): index, subindex and the CRC-8 received. -/
  | sbpSetPointer (index : Nat) (sub : Nat) (crc : Byte)
  /-- SBP_WRITE (R258). -/
  | sbpWrite (index : Nat) (sub : Nat) (data : List Byte) (crc : Byte)
  /-- SBP_READ (R258). -/
  | sbpRead
  /-- SBP_FETCH_DONE (R258). -/
  | sbpFetchDone
  /-- SBP_WAKE_MATCH (R259), with the AON ticks since the last count. -/
  | sbpWakeMatch (leap : Nat)
  /-- HOST_LINK_LOSS (R260). -/
  | hostLinkLoss
  /-- SESSION_CHALLENGE (R271). -/
  | sessionChallenge (via : Via)
  /-- SESSION_RESPONSE (R271). -/
  | sessionResponse (via : Via) (data : List Byte)
  /-- SESSION_CLOSE (R272). -/
  | sessionClose (via : Via) (data : List Byte)
  /-- SESSION_IDLE_TIMEOUT (R272). -/
  | sessionIdleTimeout
  /-- CHALLENGE_LOCKOUT_END (R273). -/
  | challengeLockoutEnd
  /-- COMMISSIONER_KEY_WRITE (R274). -/
  | commissionerKeyWrite (via : Via) (data : List Byte)
  /-- RESTORE_DEFAULTS_CUSTOMER (R278). -/
  | restoreDefaultsCustomer (via : Via)
  /-- RESTORE_DEFAULTS_SAFETY (R278). -/
  | restoreDefaultsSafety (via : Via)
  /-- JOURNAL_RECORD_COMMITTED (R488): whether the first programming and its one retry read back. -/
  | journalRecordCommitted (first : Bool) (retry : Bool)
  /-- JOURNAL_SCAN_DONE (R489). -/
  | journalScanDone
  /-- JOURNAL_COMPACTION_DONE (R490). -/
  | journalCompactionDone
  /-- JOURNAL_BUDGET_REFILL (R492). -/
  | journalBudgetRefill
  /-- OPTION_BLOCK_IMAGE_WRITE (R288). -/
  | optionBlockImageWrite (via : Via) (data : List Byte)
  /-- OPTION_IMAGE_PROGRAMMED (R288). -/
  | optionImageProgrammed
  /-- BLOCK_ACK (R285): the unit, the bits, and those of its kinds that are raised on the same clock (R373). -/
  | blockAck (via : Via) (unit : Nat) (data : BlockAckWrite)
  /-- FAULT_LATCH_CLEAR (R365). -/
  | faultLatchClear (via : Via) (data : List Byte)
  /-- STATUS_MAP_ROW_SELECT (R346). -/
  | statusMapRowSelect (via : Via) (p : Port) (data : List Byte)
  /-- STATUS_MAP_SNAPSHOT_DONE (R346). -/
  | statusMapSnapshotDone (p : Port)
  /-- DRAM_ERROR_RATE_WINDOW (R289), with the corrected words of the second. -/
  | dramErrorRateWindow (corrected : CorrectedWords)
  /-- WAYBILL_ACK_TIMEOUT (R355), of a unit. -/
  | waybillAckTimeout (unit : Nat)
  /-- ESCALATION_EXPIRY (R363): the kind code and, for kind 0x35, the port. -/
  | escalationExpiry (kind : Nat) (p : Port)
  /-- HOLD_SAFE_BEAM_TIMEOUT (R360). -/
  | holdSafeBeamTimeout
  /-- QUIET_PERIOD_END (R364): the kind code and the unit that raised it. -/
  | quietPeriodEnd (kind : Nat) (unit : Nat)
  /-- FAULT_N_PULSE_END (R351). -/
  | faultNPulseEnd
  /-- CP_WATCHDOG_EXPIRY (R358). -/
  | cpWatchdogExpiry
  /-- SM_WATCHDOG_EXPIRY (R358). -/
  | smWatchdogExpiry
  /-- LS_WATCHDOG_EXPIRY (R358). -/
  | lsWatchdogExpiry (p : Port)
  /-- DRAM_FAILURE (R358). -/
  | dramFailure
  /-- DRAM_READ_TIMEOUT (R358). -/
  | dramReadTimeout
  /-- DRAM_RETRAIN_DONE (R442). -/
  | dramRetrainDone
  /-- SRAM_UNCORRECTABLE (R359). -/
  | sramUncorrectable (region : SramRegion)
  /-- SAFE_BEAM_COPY_DONE (R28). -/
  | safeBeamCopyDone
  /-- BLACK_BOX_COMMIT_DONE (R369): whether the verification passed. -/
  | blackBoxCommitDone (verified : Bool)
  /-- COMMIT_ALLOWANCE_REFILL (R371). -/
  | commitAllowanceRefill
  /-- BEAM_REQ_CHANGE (R377): the filtered levels of BEAM_REQ_A and BEAM_REQ_B. -/
  | beamReqChange (a : Bool) (b : Bool)
  /-- BEAM_REQ_DISCREPANCY (R379). -/
  | beamReqDiscrepancy
  /-- DISCREPANCY_EXIT (R379). -/
  | discrepancyExit
  /-- SAFE_OUT_TEST (R384): the pin level read high at step 2 and at step 4, and whether a real demand came
  during steps 1 to 3. -/
  | safeOutTest (highAt2 : Bool) (highAt4 : Bool) (demand : Bool)
  /-- COMMISSIONING_CHECK_COMPUTED (R388). -/
  | commissioningCheckComputed
  /-- COMMISSIONING_CHECK_CONFIRM (R389). -/
  | commissioningCheckConfirm (via : Via) (data : List Byte)
  /-- SINK_PERIOD_BOUNDARY (R399), of a group. -/
  | sinkPeriodBoundary (group : Nat)
  /-- SINK_OPEN_PROBE (R407): the channel and the pin voltage in mV. -/
  | sinkOpenProbe (channel : Nat) (pin : Nat)
  /-- SINK_SHORT_TRIP (R408): the channel and the pin voltage in mV that its comparator sees. -/
  | sinkShortTrip (trip : SinkTrip)
  /-- SINK_SHORT_RETRY (R408), with the pin voltage in mV of the retry. -/
  | sinkShortRetry (channel : Nat) (pin : Nat)
  /-- CHANNEL_RETRY_CLEAR (R408), with the pin voltage in mV of the retry. -/
  | channelRetryClear (via : Via) (channel : Nat) (data : List Byte) (pin : Nat)
  /-- SINK_NEIGHBOUR_TEST (R409): the lower channel of the pair and the pin of the off channel in mV. -/
  | sinkNeighbourTest (channel : Nat) (pin : Nat)
  /-- SINK_HEADROOM_CYCLE_END (R405). -/
  | sinkHeadroomCycleEnd (group : Nat)
  /-- SINK_GROUP_SHUTDOWN (R413). -/
  | sinkGroupShutdown (group : Nat)
  /-- SINK_GROUP_RESTART (R413). -/
  | sinkGroupRestart (group : Nat)
  /-- CARAVAN_FRAME_SEND (R452), with the fraction of the present eighth in 1/16. -/
  | caravanFrameSend (fraction : Nat)
  /-- CARAVAN_FRAME_RECEIVED (R456). -/
  | caravanFrameReceived (frame : RingLine)
  /-- CARAVAN_DICTIONARY_REQUEST (R464). -/
  | caravanDictionaryRequest (m : RingMessage)
  /-- CARAVAN_DICTIONARY_RESPONSE (R464). -/
  | caravanDictionaryResponse (m : RingMessage)
  /-- CARAVAN_WAYBILL (R463). -/
  | caravanWaybill (m : RingMessage)
  /-- CARAVAN_IMAGE_STREAM (R465). -/
  | caravanImageStream (m : RingMessage)
  /-- CARAVAN_STREAM_CREDIT (R465). -/
  | caravanStreamCredit (m : RingMessage)
  /-- CARAVAN_ANNOUNCE (R459). -/
  | caravanAnnounce (m : RingMessage)
  /-- CARAVAN_MESSAGE_TIMEOUT (R458), of a source position. -/
  | caravanMessageTimeout (source : Nat)
  /-- CARAVAN_RING_BREAK (R468). -/
  | caravanRingBreak
  /-- CARAVAN_TOKEN_LOST (R468). -/
  | caravanTokenLost
  /-- CARAVAN_CLOSING (R467). -/
  | caravanClosing
  /-- CARAVAN_RELAY_TIMEOUT (R464). -/
  | caravanRelayTimeout
  /-- CARAVAN_VOTE_RELEASE (R466). -/
  | caravanVoteRelease
  /-- SVC_OPEN (R482). -/
  | svcOpen (frame : SvcFrame)
  /-- SLOT_ERASE_DONE (R482). -/
  | slotEraseDone
  /-- SVC_WRITE (R481). -/
  | svcWrite (frame : SvcFrame)
  /-- SVC_FINISH (R482). -/
  | svcFinish (frame : SvcFrame)
  /-- SVC_ACTIVATE (R484). -/
  | svcActivate (frame : SvcFrame)
  /-- PROGRAM_STORE_COPY_DONE (R484). -/
  | programStoreCopyDone
  /-- SVC_STATUS (R481). -/
  | svcStatus (frame : SvcFrame)
  /-- SVC_CLOSE (R481). -/
  | svcClose (frame : SvcFrame)
  /-- SVC_SET_RATE (R480). -/
  | svcSetRate (frame : SvcFrame)
  /-- SVC_RELAY_SELECT (R485). -/
  | svcRelaySelect (frame : SvcFrame)
  /-- SVC_IDLE_TIMEOUT (R480). -/
  | svcIdleTimeout
  /-- SVC_EN_RISE (R482). -/
  | svcEnRise
  /-- LIFE_CYCLE_MAKER_TOKEN (R494). -/
  | lifeCycleMakerToken (via : Via) (data : List Byte)
  /-- LIFE_CYCLE_CUSTOMER_TOKEN (R494). -/
  | lifeCycleCustomerToken (via : Via) (data : List Byte)
  /-- LIFE_CYCLE_CONSENT_TOKEN (R494). -/
  | lifeCycleConsentToken (via : Via) (data : List Byte)
  /-- CONSENT_EXPIRY (R494). -/
  | consentExpiry
  /-- SAFE_BEAM_AREA_BLOCK_WRITE (R486). -/
  | safeBeamAreaBlockWrite (via : Via) (block : Nat) (data : List Byte)
  /-- SAFE_BEAM_AREA_COMMIT (R486). -/
  | safeBeamAreaCommit (via : Via) (data : List Byte)
  /-- SAFE_BEAM_AREA_PROGRAMMED (R486): whether the read-back passed. -/
  | safeBeamAreaProgrammed (readBack : Bool)
  /-- DDB_IDLE_FRAME (R16). -/
  | ddbIdleFrame (die : Die) (frame : BitVec 80)
  /-- CP_INTERRUPT_ACKNOWLEDGE (R350), of a unit. -/
  | cpInterruptAcknowledge (unit : Nat)
  /-- CALIBRATION_STEP_DONE (R435). -/
  | calibrationStepDone
  /-- PORT_FLT_RELEASE (R222). -/
  | portFltRelease (p : Port)
  /-- SVC_EN_FALL (R480). -/
  | svcEnFall
  /-- CARAVAN_SESSION_IDLE_TIMEOUT (R482). -/
  | caravanSessionIdleTimeout
  /-- RELAY_SELECT_TIMEOUT (R481). -/
  | relaySelectTimeout
  deriving DecidableEq, Repr

end Sys2Proof
end

