-- ==== Sys2Proof/Decode.lean ====
section
/-!
DEFINITION. Decode.lean: the command that a word of the table spells. No row of the table gives bits, so no
word spells a command: a command reaches the block by its transport or its pin (log 3).
-/

namespace Sys2Proof

/-- The command of a word of `nbits` bits by the table: no row gives bits. -/
def decodeTableWord (nbits w : Nat) : Option Instr :=
  match nbits, w with
  | _, _ => none

end Sys2Proof
end

