-- ==== Sys2Proof/Config.lean ====
section
/-!
DEFINITION. Config.lean: the values that the spec leaves to the part, to its maker or to chance.

Each is a constant without a body: no proof can learn its value, so a statement that mentions it
holds whatever it is. Values that must be fresh at each use take the counter `free` of the state.
-/

namespace Sys2Proof.Config

/-- Where value `i` (0 to 4,095) is put among the values below it in the factory dither matrix (R163): the
manual fixes only that each value occurs once. -/
opaque ditherPlace : Nat → Nat

/-- Byte `i` of the challenge drawn with the counter `n` (R271: fresh bytes of a random number
generator). -/
opaque challengeByte : Nat → Nat → BitVec 8

/-- Proportional gain of the loop filter in 2⁻³² parts per 10⁹ for each 1/256 eighth, from the bandwidth code and the
CLK_CORE between compared events (R47 names the filter's kind and bandwidths and gives no gains). -/
opaque loopGain : Nat → Nat → Int

/-- The integral part of the loop filter after a compared event, in parts per 10⁹, from the bandwidth code, the CLK_CORE
between compared events, the phase error in 1/256 eighth and the integral part before (R47 gives neither its gain nor how
it is limited). -/
opaque loopIntegral : Nat → Nat → Int → Int → Int

/-- The canvas position, in 1/256 sample from the port's corner, that a forward mesh gives an array position outside its
image where the nearest cell's own map cannot be continued to it; the mesh is named by its 4,488-byte value (R103 names the
extrapolation and gives no formula). -/
opaque meshExtrapolation : Nat → Int × Int → Int × Int

/-- Where the eight line buffers begin among the source rows or columns that the taps of eight output
pixels span, from the first of them and their number (R108 does not say which stay in the window). -/
opaque lineBufferStart : Int → Nat → Nat

/-- Efficacy in 0.1 lm/W at a code that is not a point of an efficacy curve (R154, R155: only the points
have one). -/
opaque curveEfficacy : Nat → Nat → BitVec 16

/-- Forward voltage in mV at a code below the first point of an efficacy curve (R155 interpolates between
points only). -/
opaque curveVf : Nat → Nat → BitVec 16

/-- A converted result whose ground and band-gap codes are equal (R294 and R519 divide by their difference),
from the raw code and the ground code. -/
opaque adcUnstated : Int → Int → Int

/-- Temperature in 1/16 °C of AD sensor `q` from its input voltage in µV: the transfer lies in factory
trims (R519). -/
opaque adSensorTemp : Nat → Int → Int

/-- Temperature in 1/16 °C of the LD7 remote diode from its input voltage in µV (R519). -/
opaque remoteDiodeTemp : Int → Int

/-- Factory trim of the DAC of sink `c`, in 0.1 % (R415). -/
opaque sinkDacTrim : Nat → Int

/-- The domains that a running step of a calibration task holds, as a vote byte (R435). -/
opaque calibrationDomains : Nat → BitVec 8

/-- The trim image that the SBG trim table holds for a pixel index (R27, R214 step 7). -/
opaque sbgTrim : Nat → BitVec 6

/-- The serial number of the part (R281, R520). -/
opaque serialNumber : BitVec 64

/-- The silicon revision (R281, R520). -/
opaque siliconRevision : BitVec 16

/-- The public key of the maker for images, as the two coordinates of a point (R472, R477). -/
opaque imageKey : Nat × Nat

/-- The public key of the maker for tokens (R472, R495). -/
opaque tokenKey : Nat × Nat

/-- The maker key of the part, set by the maker (R274). -/
opaque makerKey : BitVec 256

/-- Field `i` of the package that ships in slot 0 (R517: a signed package, its contents are not
given): 0 package version, 1 package length, 2 to 4 provided epochs of CP, SM, LS, 5 to 7 their image
versions. -/
opaque shippedField : Nat → BitVec 32

/-- A dictionary or link value that the spec leaves unstated, drawn with the counter `n`. -/
opaque freeValue : Nat → BitVec 64

end Sys2Proof.Config
end

