-- ==== Sys2Proof/Machine/State.lean ====
section
/-!
DEFINITION. State.lean: the state of the SL-2M as plain data, and the state right after reset.

The parts are grouped by what holds them: the AON, NVM and the units of SAFE, CORE, PIX, LINK, DRAM and
AUX (R13). The default of each field is its value when its domain is powered up or reset (R275, R280),
so a power-up of a domain puts its parts back to `{}`. Sparse tables are lists of (key, value) with keys
rising and no entry equal to the default.
-/

namespace Sys2Proof.Machine

open Sys2Proof

/-- A sparse table of numbers: keys strictly rising, no value equal to the default of its key. -/
abbrev Table := List (Nat × Nat)

/-! ## Small types -/

/-- The fused variant (R1). -/
inductive Variant where
  | sl2ma | sl2ml | sl1ma
  deriving DecidableEq, Repr

/-- The power state of a domain (R438 to R440): off, in its minimum off time, its switch closed and its
rail settling, or on. -/
inductive DomainState where
  | off | minOff | rising | on
  deriving DecidableEq, Repr

/-- A processor (R12): not started, booting, or ready. -/
inductive BootState where
  | off | booting | ready
  deriving DecidableEq, Repr

/-- The lock state of the line DPLL (R48, R73). -/
inductive LockState where
  | freeRun | acquiring | locked | holdover
  deriving DecidableEq, Repr

/-- The state of a port (R228). -/
inductive PortState where
  | off | bringUp | service | halfRate | hold | lost
  deriving DecidableEq, Repr

/-- The state of a transmit lane (R228). -/
inductive LaneState where
  | untrained | working | spare | failed | failedForGood
  deriving DecidableEq, Repr

/-- The thermal state of a location (R301). -/
inductive Thermal where
  | normal | warning | throttle | shutdown
  deriving DecidableEq, Repr

/-- The agreed beam request (R378, R396). -/
inductive BeamRequest where
  | notRequested | requested | safeSide
  deriving DecidableEq, Repr

/-- The safe states, in rising order of restriction (R360, R361). -/
inductive SafeState where
  | none | hold | safeBeam | blanking | dark
  deriving DecidableEq, Repr

/-- The life-cycle states (R494). -/
inductive LifeCycle where
  | blank | maker | develop | field | ret
  deriving DecidableEq, Repr

/-- A role of a session (R271). -/
inductive Role where
  | commissioner | maker
  deriving DecidableEq, Repr

/-- A transport that can hold a session (R271). -/
inductive Transport where
  | shp
  | can (bus : Bus)
  deriving DecidableEq, Repr

/-- What a slot of flash or a program store bank holds (R473, R479): nothing, bytes in writing, a complete
package, or the package that ships with the part (R517). -/
inductive Package where
  | empty
  | writing (bytes : List Byte)
  | complete (bytes : List Byte)
  | shipped
  deriving DecidableEq, Repr

/-! ## AON -/

/-- The option shadow registers (R424); the defaults are the safe defaults. -/
structure Options where
  strapCompat   : Bool := false
  crystal       : Bool := false
  beamHoldsRun  : Bool := false
  legacy        : Bool := false
  nodeId        : Nat := 0
  canBase       : Nat := 0x5C
  sbpAddress    : Nat := 0x2A
  bootSource    : Nat := 2
  vsetSafe      : PerPort Nat := PerPort.const 0xFFFF
  auxEnable     : Nat := 0
  /-- Per group: reference, current code, duty, divider. -/
  auxGroups     : List (Nat × Nat × Nat × Nat) := [(0, 0, 0, 1), (0, 0, 0, 1), (0, 0, 0, 1), (0, 0, 0, 1)]
  wakeActiveLow : Bool := false
  wakeFilter    : Nat := 0
  deriving DecidableEq, Repr

/-- The vote bytes of the clients, in domain bits (R435, R436). -/
structure Votes where
  cp      : BitVec 8 := 0
  wake    : BitVec 8 := 0
  sbp     : BitVec 8 := 0
  sm      : BitVec 8 := 0
  cal     : BitVec 8 := 0
  caravan : BitVec 8 := 0
  host    : BitVec 8 := 0
  deriving DecidableEq, Repr

/-- The shadow of DT, Epoch and Leap in the AON, with N_ref (R55, R69). -/
structure Shadow where
  dt    : BitVec 48 := 0
  epoch : BitVec 32 := 0
  leap  : BitVec 40 := 0
  nRef  : Nat := 25000000
  /-- A measuring window has completed since POR (R69, R71). -/
  measured : Bool := false
  /-- The Leap counter has come round in Stop to the value of this shadow (R72). -/
  wrapped : Bool := false
  deriving DecidableEq, Repr

/-- One kind's recovery record (R364, R365): its DTs of the last seven recoveries, its count, its latch. -/
structure Recovery where
  kind    : Nat
  times   : List Nat := []
  count   : Nat := 0
  latched : Bool := false
  deriving DecidableEq, Repr

/-- What the AON keeps across RESET_N and loses at POR (R418). -/
structure Aon where
  ring           : List (Nat × BitVec 256) := []
  newest         : Nat := 0xFFFF
  leap           : BitVec 40 := 0
  shadow         : Shadow := {}
  leapWrapped    : Bool := false
  options        : Options := {}
  recoveries     : List Recovery := []
  resetCause     : BitVec 16 := 0x8000
  wakeCause      : BitVec 8 := 0
  waybillSequence : BitVec 16 := 0
  bootCount      : BitVec 16 := 0
  escalationCount : Nat := 0
  commitCount    : Nat := 0
  commitSkipped  : Nat := 0
  commitAllowance : Nat := 1
  stopEntryCount : Nat := 0
  thermalShutdownCount : Nat := 0
  journalBudget  : Nat := 65536
  /-- The votes frozen by a die shutdown or a supply out of window (R304, R433). -/
  frozen         : Option Votes := none
  ldShutdown     : Bool := false
  adShutdown     : Bool := false
  supplyOff      : Bool := false
  /-- LINK is forced off for VDDA_LANE, with whether it was voted for then (R433). -/
  laneOff        : Option Bool := none
  /-- The SM's context is retained for a wake (R444). -/
  smContext      : Bool := false
  /-- The Waybill of a black box commit that RESET_N interrupted and that starts again (R370). -/
  commitInterrupted : Option (BitVec 64) := none
  /-- Consecutive wrong responses since a session opened, and the lockout (R273). -/
  wrongRun       : Nat := 0
  lockout        : Bool := false
  deriving DecidableEq, Repr

/-! ## Reset, supplies and power -/

/-- One supervised supply (R432, R433). -/
structure SupplyState where
  warning : Bool := false
  outside : Bool := false
  /-- Consecutive rounds inside and beyond the warning limits. -/
  inside  : Nat := 2
  beyond  : Nat := 0
  /-- It lies below its lower warning limit (R434). -/
  low     : Bool := false
  deriving DecidableEq, Repr

/-- Reset sources, domains, votes and supplies. -/
structure Power where
  por          : Bool := false
  resetPin     : Bool := false
  /-- Which sources have been asserted in this reset, and which was released first. -/
  seenPor      : Bool := true
  seenPin      : Bool := false
  firstPor     : Bool := false
  firstPin     : Bool := false
  loadRunning  : Bool := true
  loadAborted  : Bool := false
  inStopReset  : Bool := false
  inShutReset  : Bool := false
  options      : Options := {}
  /-- What the next power-up of CORE follows, as the boot entry codes it (R367). -/
  bootCause    : Nat := 1
  optionCopyUsed : Nat := 2
  strapCode    : Nat := 0xFF
  safe         : DomainState := .on
  core         : DomainState := .off
  pix          : DomainState := .off
  link         : DomainState := .off
  dram         : DomainState := .off
  aux          : DomainState := .off
  votes        : Votes := { host := 0x7C }
  sleepStatus  : Nat := 0
  stopTasks    : Bool := false
  backupClock  : Bool := false
  supplies     : List SupplyState := [{}, {}, {}, {}, {}, {}]
  coreWaitFault : Bool := false
  fullService  : Bool := false
  deriving DecidableEq, Repr

/-- The processors and restartable units (R442). -/
structure Units where
  cp              : BootState := .off
  cpRecoveryBoot  : Bool := false
  /-- The boot under way follows a power-up of CORE (R277, R311). -/
  cpColdBoot      : Bool := false
  sm              : BootState := .booting
  smRebooting     : Bool := false
  ls              : PerPort BootState := PerPort.const .off
  dramTrained     : Bool := false
  dramFailed      : Bool := false
  composerRestart : Bool := false
  /-- A CP boot has ended since the reset (R18). -/
  bootSinceReset  : Bool := false
  /-- A background calibration step is running (R435). -/
  calStep         : Bool := false
  /-- The slot that each processor runs (R476). -/
  runCp           : Nat := 0
  runSm           : Nat := 0
  runLs           : PerPort Nat := PerPort.const 0
  deriving DecidableEq, Repr

/-! ## Scan time -/

/-- The reference settings in force (R51). -/
structure RefConfig where
  primary   : Nat := 0
  fallback  : Nat := 0
  edge      : Nat := 0
  frames    : Nat := 1
  events    : Nat := 1
  phase     : Nat := 0
  bandwidth : Nat := 1
  clamp     : Nat := 20000
  deriving DecidableEq, Repr

/-- Scan position, counters and the line DPLL (R40 to R56). -/
structure Scan where
  running     : Bool := false
  pos         : BitVec 12 := 0
  epoch       : BitVec 32 := 0
  /-- The first frame boundary after the power-up has yet to come (R55). -/
  firstFrame  : Bool := true
  dt          : BitVec 48 := 0
  /-- CLK_CORE counted since the last whole microsecond (R54). -/
  clkRest     : Nat := 0
  /-- Eighths since the power-up, for the intervals of R46. -/
  eighths     : Nat := 0
  /-- The eighth period in 2⁻²⁴ CLK_CORE: I × 2²⁴ + F (R40). -/
  period      : Nat := 0
  /-- The fraction of the accumulator (R40). -/
  phi         : BitVec 24 := 0
  /-- The clocks of the eighth under way (R40, R49). -/
  clocks      : Nat := 0
  rate        : Nat := 4
  /-- Rates written, oldest first, each with the frame boundaries that are left until it takes effect (R52). -/
  rateNext    : List (Nat × Nat) := []
  ref         : RefConfig := {}
  lock        : LockState := .freeRun
  active      : Nat := 0
  onFallback  : Bool := false
  eventCount  : Nat := 0
  goodRun     : Nat := 0
  badRun      : Nat := 0
  phaseError  : Int := 0
  /-- The filter's output and its integral part, in parts per 10⁹ (R47). -/
  delta       : Int := 0
  integral    : Int := 0
  rejectCount : Nat := 0
  /-- When the last accepted event came, in 1/256 eighth since the power-up. -/
  lastEvent   : Option Nat := none
  /-- The same for the last token, in CLK_CORE since the power-up (R461). -/
  lastToken   : Option Nat := none
  /-- The DPLL has reached locked on the Caravan token since the power-up of CORE (R50). -/
  everLocked  : Bool := false
  hostTime    : BitVec 64 := 0
  dtAtSync    : BitVec 48 := 0
  /-- CLK_CORE since the power-up, for the intervals of R461. -/
  clkTotal    : Nat := 0
  deriving DecidableEq, Repr

/-- Figures published about the Leap (R69 to R72). -/
structure LeapInfo where
  lastStop       : Nat := 0
  uncertaintyPpm : Nat := 0
  uncertaintyUs  : Nat := 0
  deriving DecidableEq, Repr

/-- The Almanac (R57 to R68). -/
structure Almanac where
  /-- Entries that differ from the default entry. -/
  entries    : List (Nat × BitVec 96) := []
  enabled    : Bool := true
  maskCount  : BitVec 32 := 0
  /-- The count restarts at the next frame boundary (R63). -/
  restart    : Bool := true
  ready      : Bool := false
  lateCount  : Nat := 0
  maxLate    : Nat := 0
  tollSkips  : Nat := 0
  /-- Entries still waiting for their clock: number, the CLK_CORE, since the power-up, at which their eighth ended, and
  the content that was due (R66). -/
  waiting    : List (Nat × Nat × BitVec 96) := []
  lateThisFrame : Bool := false
  /-- OneShot entries whose cleared Enable has yet to be journalled (R68). -/
  unsaved    : List Nat := []
  syncOut    : Bool := false
  /-- Eighths left of a running pulse (R61). -/
  pulse      : Option Nat := none
  irqCause   : Nat := 0
  deriving DecidableEq, Repr

/-! ## Dictionary and access -/

/-- Who waits for the answer to a dictionary request. -/
structure Waiter where
  via    : Via
  index  : Nat
  sub    : Nat
  /-- Its record is the last of the request, so its commit brings the answer. -/
  last   : Bool := true
  /-- The first failure among the request's other objects (R249); 0 for none. -/
  status : Nat := 0
  deriving DecidableEq, Repr

/-- The canvas: layout, pitch in 0.01°, origin in 0.01°, pairing (R18). -/
structure Canvas where
  layout  : Nat := 0
  pitch   : Nat := 2
  originH : Int := -2048
  originV : Int := 1024
  pairing : Bool := false
  deriving DecidableEq, Repr

/-- The values held for RW, RWC and RWM objects. -/
structure Dict where
  /-- Values that differ from the default, by index × 256 + subindex. -/
  values         : Table := []
  restoreCount   : Nat := 0
  /-- The canvas in force (R18). -/
  canvas         : Canvas := {}
  deriving DecidableEq, Repr

/-- Sessions, challenge and life-cycle tokens (R271 to R274, R494). -/
structure Access where
  challenge   : Option (Nat × Transport) := none
  session     : Option (Role × Transport) := none
  /-- DT of the read that drew the challenge (R271). -/
  challengeAt : Nat := 0
  failCount   : Nat := 0
  tokenResult : Nat := 0
  consent     : Bool := false
  /-- A transition to RETURN waits for the end of a compaction (R497). -/
  returnDue   : Bool := false
  deriving DecidableEq, Repr

/-! ## Stage 1 -/

/-- A source tile in the decoded tile store of a frame (R87, R88): samples of its first or of its second decode, failed
once and being read again, or failed. -/
inductive TileStatus where
  | decoded (samples : List Nat)
  | decodedAgain (samples : List Nat)
  | failedOnce
  | failed
  deriving DecidableEq, Repr

/-- An entry of the decoded tile store: a tile of a surface, for a layer and a port, in a frame (R87, R112). -/
structure StoredTile where
  frame   : BitVec 32
  port    : Port
  layer   : Nat
  surface : Nat
  tile    : Nat
  status  : TileStatus
  deriving DecidableEq, Repr

/-- A surface's pinning (R97, R98). -/
structure Pin where
  surface : Nat
  /-- 1 pinning, 2 pinned, 3 refused (R114). -/
  state   : Nat
  /-- The tiles of the copy in use, each as its bytes; none before the first frame boundary after a copy. -/
  inUse   : Option (List (List Byte)) := none
  /-- A finished copy that comes into use at the next frame boundary. -/
  next    : Option (List (List Byte)) := none
  bytes   : Nat := 0
  /-- The copy in use goes at the next frame boundary. -/
  leaving : Bool := false
  deriving DecidableEq, Repr

/-- Fetch engines and surfaces (R74 to R114). -/
structure Fetch where
  store        : List StoredTile := []
  /-- The buffer latched for each surface that the frame in composition reads (R79). -/
  buffers      : List (Nat × Nat) := []
  pins         : List Pin := []
  refetchCount : Nat := 0
  transparentCount : Nat := 0
  heldCount    : Nat := 0
  lateCount    : Nat := 0
  aliasCount   : Nat := 0
  lastFailed   : BitVec 32 := 0
  /-- Frame, kind code and layer of what has been raised for the frames in composition (R92). -/
  raised       : List (BitVec 32 × Nat × Nat) := []
  /-- Frame and number of the output tiles flagged aliasing in the frames in composition (R109). -/
  aliasTiles   : List (BitVec 32 × Nat) := []
  deriving DecidableEq, Repr

/-- The planner's figures (R112, R113, R142). -/
structure Figures where
  fetchArea  : Nat := 0
  engineArea : List Nat := [0, 0, 0, 0]
  coverage   : List Nat := [0, 0, 0, 0]
  workingSet : Nat := 0
  rowDecode  : Nat := 0
  layerArea  : List Nat := [0, 0, 0, 0, 0, 0, 0, 0]
  deriving DecidableEq, Repr

/-- One port's warp mesh (R101 to R103). -/
structure Warp where
  /-- The forward mesh as its 4,488-byte value whose inverse is in force; none for the identity. -/
  inForce   : Option Nat := none
  pending   : Option (Option Nat) := none
  /-- The inversion has ended and waits for the frame boundary. -/
  done      : Bool := false
  inverting : Bool := false
  refused   : Bool := false
  deriving DecidableEq, Repr

/-- The Manifest and the composition mode (R132 to R145). -/
structure Manifest where
  staged       : Table := []
  committed    : Table := []
  pending      : Bool := false
  refilling    : Bool := false
  /-- The planner's figures do not yet cover the last write (R113). -/
  recompute    : Bool := false
  sequence     : BitVec 32 := 0
  lastResult   : Nat := 0
  commitEpoch  : BitVec 32 := 0
  commitPos    : BitVec 12 := 0
  refusedCount : Nat := 0
  budgetRefusals : Nat := 0
  stagedFigures    : Figures := {}
  committedFigures : Figures := {}
  racing       : Bool := true
  /-- A change of mode under way: target racing?, frame boundaries left (R145). -/
  modeChange   : Option (Bool × Nat) := none
  /-- The safe beam stands until a commit executes, then until the next frame boundary (R137). -/
  safeUntilCommit : Bool := true
  commitSeen   : Bool := false
  /-- The calibration map is loaded, so commits may execute (R170). -/
  calLoaded    : Bool := false
  deriving DecidableEq, Repr

/-- Shade banks (R119 to R128). -/
structure Shade where
  active      : List (BitVec 128) := []
  staged      : List (BitVec 128) := []
  activeBank  : Bool := false
  swapRequested : Bool := false
  /-- The staged bank was written since the last swap. -/
  written     : Bool := false
  /-- ShadeSwapRequest froze the staged bank (R124). -/
  frozen      : Bool := false
  /-- The staged bank is being refilled (R125). -/
  refilling   : Bool := false
  waiting     : Option (List (BitVec 128)) := none
  source      : Nat := 0
  armed       : Bool := false
  freshAt     : Nat := 0
  stale       : Bool := false
  swapCount   : BitVec 32 := 0
  superseded  : Nat := 0
  rejected    : Nat := 0
  overflow    : Nat := 0
  /-- Frame and number of the generated tiles that left objects out in the frames in composition (R122). -/
  overflowTiles : List (BitVec 32 × Nat) := []
  deriving DecidableEq, Repr

/-- What the ceiling clamp checks with a CRC of its own: a cell row of a port, or the table (R130). -/
inductive CeilingPart where
  | row (port : Port) (row : Nat)
  | table
  deriving DecidableEq, Repr

/-- A part of the ceiling whose CRC has failed (R130). -/
structure BadCeiling where
  part     : CeilingPart
  /-- The CP's reload of it is done and waits for the frame boundary. -/
  reloaded : Bool := false
  /-- A frame boundary has passed before the reload completed. -/
  overdue  : Bool := false
  deriving DecidableEq, Repr

/-- The ceiling clamp and the SM's copy (R129 to R131, R390, R391). -/
structure Ceiling where
  /-- Rows and table of the written set in force, by key of the object (R131). -/
  written    : Table := []
  /-- 0 written set, 1 factory, 2 none (R396). -/
  source     : Nat := 1
  sourceNext : Nat := 1
  /-- The parts that the clamp replaces by a ceiling of 0 (R130). -/
  bad        : List BadCeiling := []
  /-- Keys of the cell rows written since the last frame boundary (R335). -/
  rewritten  : List Nat := []
  errorCount : Nat := 0
  deriving DecidableEq, Repr

/-- The safe-beam copy in SRAM and what the SBG holds (R27 to R29): the area's bytes as one number; none
until the loader is ready. -/
structure SafeBeam where
  copy     : Option Nat := none
  copying  : Bool := true
  /-- The pattern was valid when it was copied. -/
  valid    : Bool := false
  /-- The factory ceiling was valid when it was copied (R391). -/
  ceilingValid : Bool := false
  /-- Pixels excluded from the next frame boundary on (R29). -/
  excluded : List Nat := []
  /-- Ports whose PORTx_EN waits for a copy under way (R359). -/
  repairing : List Port := []
  deriving DecidableEq, Repr

/-! ## Stages 2 to 7 and scan-out -/

/-- The code and n latched for a zone (R157). -/
structure ZonePair where
  code : Nat := 0
  n    : Nat := 0
  deriving DecidableEq, Repr

/-- One port's zones in the frame in composition and in the frame before (R153 to R159). -/
structure Zones where
  /-- The frame whose pairs and figures stand for each zone row; those named prev are of the frame before it. -/
  rowFrame   : List (BitVec 32) := []
  pairs      : List ZonePair := []
  prevPairs  : List ZonePair := []
  peaks      : List Nat := []
  prevPeaks  : List Nat := []
  dutySums   : List Nat := []
  prevSums   : List Nat := []
  /-- Demand per zone and owning class, zone × 4 + class (R316). -/
  classSums  : List Nat := []
  prevClass  : List Nat := []
  /-- Codes sent last for each zone (R160), those of the frame being scanned, and those of the last scanned frame
  (R159). -/
  sent       : List Nat := []
  scanning   : List Nat := []
  scanned    : List Nat := []
  clipCount  : Nat := 0
  /-- Step table in force and the table that takes over at the next frame (R156, R157). -/
  steps      : List ZonePair := []
  stepsNext  : List ZonePair := []
  /-- Published figures of the last composed frame (R183). -/
  pubPeaks   : List Nat := []
  pubSums    : List Nat := []
  pubClass   : List Nat := []
  deriving DecidableEq, Repr

/-- A tile or half-tile in the output frame buffer of its frame, with the pair of its zone (R138, R146). -/
structure OutTile where
  frame  : BitVec 32
  port   : Port
  tile   : Nat
  lower  : Bool
  duties : List Nat
  code   : Nat
  n      : Nat
  /-- The calibration word that stage 5 used for each pixel (R340). -/
  words  : List (BitVec 32)
  deriving DecidableEq, Repr

/-- An entry of the TST (R146). -/
structure TstEntry where
  entry     : Nat
  valid     : Bool
  held      : Bool
  signature : BitVec 32
  deriving DecidableEq, Repr

/-- A tile in the check buffer, ready to be sent (R147), with the n and the words that its ceiling_duty is computed
from (R375). -/
structure Checked where
  frame  : BitVec 32
  port   : Port
  tile   : Nat
  lower  : Bool
  duties : List Nat
  n      : Nat
  words  : List (BitVec 32)
  deriving DecidableEq, Repr

/-- An output tile in the staging area (R26): its frame, whether it is held, the u0.16 results of stage 4 and each
pixel's owning class (R316). -/
structure Staged where
  frame   : BitVec 32
  port    : Port
  tile    : Nat
  held    : Bool
  levels  : List Nat
  classes : List Nat
  deriving DecidableEq, Repr

/-- What governs a frame, or in racing mode a band, while it is composed. -/
structure Run where
  frame     : BitVec 32
  band      : Nat
  racing    : Bool
  freshMode : Bool
  manifest  : Table
  bank      : List (BitVec 128)
  scales    : List Nat
  /-- The calibration words that its stages 5 and 6 use (R169). -/
  words     : List (Nat × BitVec 32)
  /-- The buffer latched for each surface (R79). -/
  buffers   : List (Nat × Nat)
  deriving DecidableEq, Repr

/-- The composer, the TST and the scan-out engine. -/
structure Compose where
  /-- Epoch of the frame in composition, and in racing mode the band in composition (R140). -/
  frame      : BitVec 32 := 0
  band       : Nat := 0
  busy       : Bool := false
  /-- A frame has begun since the power-up of PIX or a composer restart. -/
  begun      : Bool := false
  /-- No frame before the one in composition has been composed for the light (R159). -/
  noPrevious : Bool := true
  /-- The frame in composition is the first in its mode (R90, R145). -/
  freshMode  : Bool := false
  /-- The frame in composition is composed in racing mode (R145). -/
  racing     : Bool := true
  /-- The band or the frame before, while tiles of it are still to be written (R139, R140). -/
  older      : Option Run := none
  /-- A frame whose composition was still running when the next one began, with its class scales: its figures wait to be
  published (R153, R182). -/
  unpublished : Option (BitVec 32 × List Nat) := none
  /-- The half-tiles in the four slots of the band ring (R140); a band has the slot of its number mod 4. -/
  ring       : List OutTile := []
  /-- Zone rows of each port whose stages 1 to 4 are done in this frame (R139). -/
  stagedRows : PerPort Nat := PerPort.const 0
  /-- Port × 512 + tile of output tiles whose next read meets an uncorrectable word (R359). -/
  badTiles   : List Nat := []
  /-- A frame boundary has passed while stages 1 to 4 of the frame before still ran (R139). -/
  due        : Bool := false
  /-- The Manifest and the shade bank of the band or frame in composition (R125, R132). -/
  manifest   : Table := []
  bank       : List (BitVec 128) := []
  /-- Class scales latched for the frame (R111, R318). -/
  scales     : List Nat := [0x8000, 0x8000, 0x8000, 0x8000]
  staged     : List Staged := []
  out        : List OutTile := []
  tst        : List TstEntry := []
  checked    : List Checked := []
  mismatchCount : Nat := 0
  fallbackCount : Nat := 0
  /-- Ports that met a mismatch in the frame being scanned (R148). -/
  mismatched : List Port := []
  conflictCount : Nat := 0
  zones      : PerPort Zones := PerPort.const {}
  deriving DecidableEq, Repr

/-! ## Drive, calibration and port supply -/

/-- A calibration word waiting in the update queue (R169). -/
structure CalUpdate where
  pixel : Nat
  word  : BitVec 32
  deriving DecidableEq, Repr

/-- Full-scale estimation of a port (R174, R175): the sums of the window, exact. -/
structure FullScale where
  /-- Samples taken in the frame being scanned: y, and whether the port showed the safe beam. -/
  samples    : List (Int × Bool) := []
  rounds     : Nat := 0
  sumE       : Int := 0
  sumY       : Int := 0
  sumEE      : Int := 0
  sumEY      : Int := 0
  minE       : Nat := 0
  maxE       : Nat := 0
  estimate   : Nat := 0x8000
  frozen     : Bool := false
  correction : Nat := 0x8000
  /-- The last correction journalled before a divergence (R362). -/
  lastGood   : Nat := 0x8000
  deriving DecidableEq, Repr

/-- The port supply loop (R177 to R181). -/
structure Headroom where
  /-- The 10-bit code that the loop has reached. -/
  code       : Nat := 0
  /-- The lowest report since the previous round. -/
  lowest     : Option Nat := none
  /-- H of the last round (R178); none before the first report. -/
  reported   : Nat := 0
  started    : Bool := false
  sinceDown  : Nat := 0
  noDown     : Nat := 0
  lowRounds  : Nat := 0
  lowCount   : Nat := 0
  lowFrame   : Bool := false
  deriving DecidableEq, Repr

/-- Per-pixel ageing data (R171): pixel, sum of dvf in mV, samples. -/
structure AgeSum where
  pixel : Nat
  sum   : Int
  count : Nat
  deriving DecidableEq, Repr

/-- Drive state that lives in PIX and LINK (R150 to R175). -/
structure Drive where
  /-- Calibration words that differ from the default word (R150). -/
  calMap      : List (Nat × BitVec 32) := []
  queue       : List CalUpdate := []
  /-- Words whose trims were sent in this frame and whose Gain applies from the next (R169). -/
  applying    : List CalUpdate := []
  appliedCount : Nat := 0
  /-- The master calibration record (R170, R171). -/
  master      : List MasterPixel := []
  ages        : List AgeSum := []
  ageUpdated  : PerPort Nat := PerPort.const 0
  lfsr        : BitVec 16 := 0xACE1
  seed        : BitVec 8 := 0
  /-- The seed that the SEED packets of this sub-period carried for the next (R165). -/
  nextSeed    : BitVec 8 := 0
  /-- Exposure windows in force (R166). -/
  windows     : List (BitVec 32) := [0, 0, 0, 0]
  fullScale   : PerPort FullScale := PerPort.const {}
  ledEnergy   : PerPort Nat := PerPort.const 0
  /-- Powers of the last frames, newest first, at most 256 (R182), in 10⁻¹⁰ W / (255 × 4,095). -/
  ledPower    : PerPort (List Nat) := PerPort.const []
  /-- Zone powers of the last frame (R309), in the same unit. -/
  zonePower   : PerPort (List Nat) := PerPort.const []
  /-- Pixels driven at duty 0 for the frame after an uncorrectable word (R359). -/
  darkPixels  : List Nat := []
  /-- Uncorrectable words of the maps that the CP has still to write again (R359): of the status map or the calibration map,
  with the pixel. -/
  repairs     : List (Bool × Nat) := []
  deriving DecidableEq, Repr

/-! ## Links -/

/-- A packet sent on a port (R193 to R205): its header, its payload, and the physical lanes it left on. -/
structure TxPacket where
  header  : BitVec 64
  payload : List Byte
  lanes   : List Nat
  deriving DecidableEq, Repr

/-- A CTRL that waits for its ACK (R205): sequence, opcode. -/
structure Ctrl where
  sequence : BitVec 16
  opcode   : Nat
  deriving DecidableEq, Repr

/-- Counters of a port (R228). -/
structure LinkCounts where
  laneErrors     : List Nat := [0, 0, 0, 0, 0]
  returnErrors   : Nat := 0
  rowsNotLatched : Nat := 0
  trimResends    : Nat := 0
  remaps         : Nat := 0
  halfRateFrames : Nat := 0
  holds          : Nat := 0
  losses         : Nat := 0
  attempts       : Nat := 0
  returnGaps     : Nat := 0
  deriving DecidableEq, Repr

/-- The transmitter of a port's lanes (R185, R190). -/
structure Transmitter where
  /-- The training has ended, so that markers are sent; the symbols since then, or since the start of the training. -/
  trained   : Bool := false
  index     : Nat := 0
  /-- CLK_CORE count up to which symbols have been sent. -/
  clock     : Nat := 0
  /-- Characters of packets that each lane still has to send. -/
  waiting   : List (List Character) := [[], [], [], [], []]
  /-- Running disparity of each lane, positive or not (R188). -/
  disparity : List Bool := [false, false, false, false, false]
  /-- The code groups that each lane sent in the last line. -/
  groups    : List (List (BitVec 10)) := [[], [], [], [], []]
  deriving DecidableEq, Repr

/-- One port's link (R184 to R226). -/
structure LinkPort where
  state       : PortState := .off
  /-- Step of the bring-up, 1 to 9 (R214), and the CTRL of the step that waits for its ACK. -/
  step        : Nat := 0
  sub         : Nat := 0
  /-- Error counts read in the de-emphasis sweep, newest first (R214 step 4). -/
  sweep       : List Nat := []
  failures    : Nat := 0
  /-- Physical lane of each logical lane, and the spare (R184). -/
  map         : List Nat := []
  spare       : Option Nat := none
  lanes       : List LaneState := [.untrained, .untrained, .untrained, .untrained, .untrained]
  errorRuns   : List Nat := [0, 0, 0, 0, 0]
  /-- Failures of each lane since the last reset (R223). -/
  laneFails   : List Nat := [0, 0, 0, 0, 0]
  retraining  : Option Nat := none
  /-- A failed lane waits for the remap at the next band boundary (R220). -/
  remap       : Bool := false
  /-- A lane is regained, or the frame rate lets the port change between full and half rate (R221, R223). -/
  regained    : Bool := false
  /-- The band that is held while the remap completes. -/
  heldBand    : Option Nat := none
  half        : Bool := false
  deemphasis  : List Nat := [0, 0, 0, 0, 0]
  ctle        : Nat := 0
  skew        : List Nat := [0, 0, 0, 0, 0]
  arrayId     : BitVec 32 := 0
  enable      : Bool := false
  fault       : Bool := false
  /-- The cause of a loss stands; the quiet period runs when it is clear. -/
  lostCause   : Bool := false
  /-- HOLD has been sent; it is acknowledged. -/
  holdSent    : Bool := false
  /-- The array has ended its hold and is dark (R217). -/
  expired     : Bool := false
  startAt     : Option (BitVec 32) := none
  sequence    : BitVec 16 := 0
  returnSeq   : Option (BitVec 16) := none
  ctrls       : List Ctrl := []
  /-- CTRLs waiting for room in a line: opcode and payload. -/
  deferred    : List (Nat × List Byte) := []
  returnLost  : Bool := false
  /-- No valid BAND_STATUS has come since the return lane was lost (R212). -/
  returnGrace : Bool := false
  /-- An emitter record was cleared by EmitterDisableClear; the enable waits for the next bring-up (R335). -/
  waitBringUp : Bool := false
  /-- The duties last sent for each row (R208). -/
  rowsSent    : List (Nat × List Nat) := []
  /-- Rows whose trims were sent in this frame (R202), and rows to send again (R203). -/
  trimRows    : List Nat := []
  resend      : List Nat := []
  sent        : List TxPacket := []
  tx          : Transmitter := {}
  /-- Code errors that the return receiver has counted (R189). -/
  codeErrors  : Nat := 0
  /-- The configuration objects taken over at the start of the bring-up (R228). -/
  settings    : Table := []
  /-- A HOLD waits for the next line start (R35, R218). -/
  holdDue     : Bool := false
  /-- Blocks of trim rows that are still to leave in this frame, as row and block (R202). -/
  trimQueue   : List (Nat × Nat) := []
  /-- ZONE waits for the next line, because TRIM_COMMIT fills this one (R206, log 72). -/
  zoneDue     : Bool := false
  /-- A line begins whose ROW has yet to leave (R206). -/
  rowDue      : Bool := false
  /-- Content of the port: composed or safe beam (R137, R360). -/
  safeContent : Bool := true
  /-- The rows whose content last sent is the safe beam (R360). -/
  safeRows    : BitVec 512 := 0
  counts      : LinkCounts := {}
  deriving DecidableEq, Repr

/-! ## Pixel check unit -/

/-- A pixel under confirmation (R332): its ProbeList entry, step 0 A, 1 B, 2 C, and tries made. -/
structure Confirm where
  entry : Nat
  pixel : Nat
  step  : Nat
  tries : Nat
  /-- The entry is written and its window opened (R332). -/
  started : Bool
  /-- Stage 6 has raised the pixel for this step, and the frame in composition that it leaves out. -/
  raised  : Bool
  skip    : Option (BitVec 32)
  deriving DecidableEq, Repr

/-- What a BAND_STATUS brought, until the TEMP of its band is judged (R337): band, rows latched, candidates
added, and the flags of the report before. -/
structure BandReport where
  band    : Nat
  mask    : Nat
  added   : List Nat
  flagged : List Nat
  counted : Bool
  deriving DecidableEq, Repr

/-- A probe window (R328): the frame in which it opens, its start and length. -/
structure ProbeWindow where
  frame  : BitVec 32
  start  : Nat
  length : Nat
  deriving DecidableEq, Repr

/-- One port's pixel checks (R323 to R346). -/
structure PixelCheck where
  /-- Status codes other than 0, by pixel within the port. -/
  status      : Table := []
  /-- Epoch of the last sample of a band and phase, by band × 64 + phase (R330). -/
  samples     : List (Nat × BitVec 32) := []
  /-- Pixels flagged in the last counted report of their row (R331). -/
  flagged     : List Nat := []
  candidates  : List Nat := []
  confirms    : List Confirm := []
  dropped     : Nat := 0
  falseAlarms : Nat := 0
  storms      : Nat := 0
  stormFrame  : Bool := false
  echoErrors  : Nat := 0
  /-- Frames in a row with a mismatch, whether this frame had one, and matching reports in a row. -/
  echoRun     : Nat := 0
  echoFrame   : Bool := false
  echoGood    : Nat := 0
  /-- "Band echo persistent" stands on the port (R338). -/
  echoHeld    : Bool := false
  missed      : Nat := 0
  displaced   : Nat := 0
  raises      : Nat := 0
  lastFailed  : BitVec 32 := 0xFFFFFFFF
  windows     : List ProbeWindow := []
  selectedRow : Nat := 0
  pendingRow  : Option Nat := none
  snapshot    : Nat := 0
  sweepPhase  : Nat := 0
  /-- The last BAND_STATUS. -/
  report      : Option BandReport := none
  /-- Duties of the content that each row has latched, by its reports. -/
  latched     : List (Nat × List Nat) := []
  /-- Pixels of new status whose exclusion and concealment wait for the CP (R345). -/
  untreated   : List Nat := []
  /-- Pixels whose neighbours have taken their boost (R336). -/
  concealed   : List Nat := []
  /-- Bands whose BAND_STATUS has come in good time, since each could (R339). -/
  reported    : BitVec 32 := 0
  /-- LitSampleEnable as last written (R327). -/
  litSample   : Bool := true
  /-- CompVfLow, CompVfHigh, ConductLevel, FlagStormLimit, ConcealEnable, ConcealBoost in force
  (R346). -/
  limits      : Table := []
  deriving DecidableEq, Repr

/-- The SM's tile checker (R340, R341, R381). -/
structure TileChecker where
  checked    : BitVec 32 := 0
  disagreed  : Nat := 0
  violations : Nat := 0
  shortfalls : Nat := 0
  /-- Epochs of the latest disagreements. -/
  recent     : List (BitVec 32) := []
  /-- The tiles of this frame's sample that have been judged (R340). -/
  judged     : List Nat := []
  deriving DecidableEq, Repr

/-! ## Housekeeping and heat -/

/-- The housekeeping converter and temperature sensors (R291 to R308, R519). -/
structure Housekeeping where
  slot        : Nat := 0
  round       : Nat := 0
  /-- Ground and band-gap codes of the round under way and of the previous round (R294). -/
  gnd         : Nat := 0
  bg          : Nat := 3072
  gndPrev     : Nat := 0
  bgPrev      : Nat := 3072
  /-- Corrected codes of the last round, by channel. -/
  codes       : Table := []
  /-- Channels that wait for an extra conversion (R295). -/
  queue       : List Nat := []
  result      : BitVec 32 := 0
  ring        : List (BitVec 32) := []
  ringNext    : Nat := 0
  ringNewest  : Nat := 0xFF
  dropCount   : Nat := 0
  /-- Measured and used temperatures in 1/16 °C: LD0 to LD7, AD0 to AD3. -/
  raw         : List Int := [0, 0, 0, 0, 0, 0, 0, 0, 0, 0, 0, 0]
  used        : List Int := [0, 0, 0, 0, 0, 0, 0, 0, 0, 0, 0, 0]
  diode       : Int := 0
  disagree    : List Nat := [0, 0, 0, 0, 0, 0, 0, 0, 0, 0, 0, 0]
  disqualified : BitVec 16 := 0
  shiftLd     : Bool := false
  shiftAd     : Bool := false
  /-- Thermal state and consecutive rounds below the clear level, at shutdown and at restart: LD, AD,
  arrays A to D. -/
  thermal     : List Thermal := [.normal, .normal, .normal, .normal, .normal, .normal]
  below       : List Nat := [0, 0, 0, 0, 0, 0]
  hot         : List Nat := [0, 0, 0, 0, 0, 0]
  cool        : List Nat := [0, 0, 0, 0, 0, 0]
  m           : Nat := 0x8000
  refBad      : Nat := 0
  /-- Latest TEMP of each port: four temperatures in 1/16 °C, and the DT of its receipt. -/
  tempIn      : PerPort (List Int) := PerPort.const []
  tempInAt    : PerPort (Option Nat) := PerPort.const none
  /-- The same as slot 27 took it for the round (R293). -/
  arrayTemps  : PerPort (List Int) := PerPort.const []
  tempAt      : PerPort (Option Nat) := PerPort.const none
  overTemp    : PerPort Bool := PerPort.const false
  deriving DecidableEq, Repr

/-- One port's thermal model, in binary32 (R309 to R314). -/
structure ThermalModel where
  ready     : Bool := false
  tj        : List (BitVec 32) := []
  ts        : List (BitVec 32) := []
  th        : BitVec 32 := 0
  ta        : BitVec 32 := 0
  /-- Consecutive rounds of disagreement of each sensor, and sensors no longer used (R312). -/
  sensorBad : List Nat := [0, 0, 0, 0]
  sensorOut : List Bool := [false, false, false, false]
  diverge   : Nat := 0
  agree     : Nat := 0
  divergent : Bool := false
  /-- Reinitialise at the next round with a fresh TEMP, and good rounds since (R313, R362). -/
  reinit    : Bool := false
  reinited  : Bool := false
  goodSince : Nat := 0
  deriving DecidableEq, Repr

/-- What the CP receives of a composed frame for the Toll (R315 to R317): the effective scales that it was composed
with, and of each port p[z] in 2⁻¹⁶ mW and the demand of each zone and class. -/
structure Measured where
  frame  : BitVec 32
  scales : List Nat
  power  : PerPort (List Nat)
  demand : PerPort (List Nat)
  deriving DecidableEq, Repr

/-- The Toll (R315 to R319). -/
structure Toll where
  models      : PerPort ThermalModel := PerPort.const {}
  /-- Unscaled power estimates w, in 2⁻¹⁶ mW, by port × 128 + zone × 4 + class (R317). -/
  w           : Table := []
  /-- The CP's scales s of P0 to P3 now in force (R308, R318). -/
  scales      : List Nat := [0x8000, 0x8000, 0x8000, 0x8000]
  /-- Solutions for coming frames: the frame whose composition takes one, and its scales (R318). -/
  coming      : List (BitVec 32 × List Nat) := []
  /-- The frames whose energies wait for the Toll computation, oldest first (R315, R317). -/
  measured    : List Measured := []
  /-- The Toll of each port and of the device in the last computation, in mW (R315). -/
  portToll    : PerPort Nat := PerPort.const 0
  total       : Nat := 0
  /-- Model parameters and limits in force, by key (R283). -/
  settings    : Table := []
  state       : Nat := 0
  stateNext   : Nat := 0
  scaledFrames : Nat := 0
  deriving DecidableEq, Repr

/-! ## Faults -/

/-- A fault kind that is active (R348). -/
structure ActiveKind where
  kind      : Nat
  unit      : Nat
  port      : Nat := 7
  /-- The Waybill of its raise (R352). -/
  waybill   : BitVec 64 := 0
  /-- DT of the raise. -/
  since     : Nat := 0
  /-- The condition is absent (R364). -/
  absent    : Bool := false
  /-- A privileged kind's timer runs, or has expired (R362, R363). -/
  timing    : Bool := false
  /-- The timer's value in ms, as it was at the raise (R362). -/
  timer     : Nat := 0
  escalated : Bool := false
  deriving DecidableEq, Repr

/-- A raise that the CP has not acknowledged (R350, R355). -/
structure RaiseRecord where
  unit    : Nat
  kind    : Nat
  waybill : BitVec 64
  deriving DecidableEq, Repr

/-- A unit's BlockStatus but for its derived fields (R349). -/
structure Block where
  unit     : Nat
  lastKind : Nat := 0
  bits     : BitVec 16 := 0
  deriving DecidableEq, Repr

/-- One end of the die-to-die bridge (R16, R17). -/
structure DdbEnd where
  /-- Sequence of the last non-idle frame received and of the last one sent; both start at 0x0 (R16). -/
  heard : BitVec 4 := 0
  seq   : BitVec 4 := 0
  /-- The non-idle frames sent since the bridge came up, oldest first. -/
  sent  : List (BitVec 80) := []
  /-- The frames of these that are not known to have got through, oldest first, each with its failed sends (R17). -/
  waiting : List (BitVec 80 × Nat) := []
  /-- Parts of a Waybill record that this die has received (R357). -/
  parts : List (BitVec 52) := []
  /-- Type and payload of the last frame accepted. -/
  last  : BitVec 60 := 0
  deriving DecidableEq, Repr

/-- Fault reporting and reactions (R347 to R365). -/
structure Faults where
  active       : List ActiveKind := []
  blocks       : List Block := []
  unacked      : List RaiseRecord := []
  /-- 10 ms assertions of FAULT_N under way (R351). -/
  pulses       : Nat := 0
  /-- Waybills that wait for CAN_A: NodeId and Waybill (R356). -/
  canQueue     : List (Nat × BitVec 64) := []
  waybillsSent : Nat := 0
  waybillsDropped : Nat := 0
  /-- DT of the last entry written for a Corrected kind (R368). -/
  lastEntry    : Table := []
  /-- The safe state applied and the kind that set it (R361). -/
  safeState    : SafeState := .none
  safeKind     : Nat := 0
  /-- The hold safe state has run out and the safe beam stands (R360). -/
  holdDone     : Bool := false
  /-- Ports blanked until each of their rows holds the safe beam (R360). -/
  blanked      : PerPort Bool := PerPort.const false
  /-- The violating tile of kind 0x41 was a safe-beam tile (R360). -/
  safeBeamViolation : Bool := false
  /-- The two ends of the die-to-die bridge, and the frames repeated (R16, R17). -/
  ddbLd        : DdbEnd := {}
  ddbAd        : DdbEnd := {}
  ddbRetries   : Nat := 0
  deriving DecidableEq, Repr

/-! ## Safety functions -/

/-- Beam request, SAFE_OUT_N and commissioning (R375 to R391). -/
structure Safety where
  reqA        : Bool := false
  reqB        : Bool := false
  agreed      : Option Bool := none
  discrepancyCount : Nat := 0
  /-- The retest waits for both bits (R384). -/
  retestDue   : Bool := false
  testCount   : Nat := 0
  abandoned   : Nat := 0
  computed    : BitVec 32 := 0
  state       : Nat := 0
  startPassed : Bool := false
  /-- DT at which the SM started; none before DT is known (R382). -/
  smStart     : Option Nat := none
  deriving DecidableEq, Repr

/-! ## Host ports -/

/-- A host lane (R230 to R235). -/
structure HostLane where
  /-- 0 untrained, 1 in service, 2 failed. -/
  state   : Nat := 0
  lastSeq : Option (BitVec 16) := none
  errors  : Nat := 0
  /-- Code errors counted (R189, R231). -/
  codeErrors : Nat := 0
  /-- The CTLE code in force (R231). -/
  ctle    : Nat := 0
  deriving DecidableEq, Repr

/-- A video stream (R236 to R240). -/
structure Stream where
  picture  : Option Nat := none
  buffer   : Nat := 0
  /-- The tile row to encode next, whether the one after it is encoded already, and the lines held: line number
  and payload. -/
  row      : Nat := 0
  ahead    : Bool := false
  lines    : List (Nat × List Byte) := []
  /-- The picture was discarded, or it is complete. -/
  discarded : Bool := false
  complete : Bool := false
  count    : BitVec 32 := 0
  discards : Nat := 0
  last     : Nat := 0
  deriving DecidableEq, Repr

/-- A queued packet of the control lane: an OD_WRITE with its records, or a commit, a shade list or a time pair that waits
behind it (R242, R244). -/
inductive ControlItem where
  | odWrite (count : Nat) (payload : List Byte)
  | commit
  | shades (objects : List (BitVec 128))
  | timePair (time : BitVec 64) (dt : BitVec 48)
  deriving DecidableEq, Repr

/-- A queued SHP request (R249). -/
structure ShpRequest where
  /-- 1 read, 2 write, 4 burst read, 5 burst write. -/
  op     : Nat
  tag    : Nat
  index  : Nat
  sub    : Nat
  length : Nat
  data   : List Byte
  /-- The session that was open when it came, if that has since timed out (R290). -/
  inside : Option (Role × Transport) := none
  deriving DecidableEq, Repr

/-- An SHP response (R250). -/
structure ShpResponse where
  status : Nat
  tag    : Nat
  data   : List Byte
  deriving DecidableEq, Repr

/-- A CAN request ready for the CP, or a segmented transfer in progress (R254, R255). -/
structure CanRequest where
  bus   : Bus
  write : Bool
  tag   : Nat
  index : Nat
  sub   : Nat
  total : Nat
  next  : Nat
  data  : List Byte
  /-- The session that was open when it was complete, if that has since timed out (R290). -/
  inside : Option (Role × Transport) := none
  deriving DecidableEq, Repr

/-- A frame sent on CAN (R253, R254, R356). -/
structure CanTx where
  bus  : Bus
  id   : BitVec 29
  data : List Byte
  /-- BRS is set on every frame that the device sends (R252). -/
  brs  : Bool := true
  deriving DecidableEq, Repr

/-- A complete CAN request that is executed, kept to recognise its double on the other bus: whether that has come, and the
frames of its answer once it is answered (R256). -/
structure CanRecent where
  bus    : Bus
  id     : BitVec 29
  data   : List Byte
  dt     : Nat
  doubled : Bool := false
  frames : List (List Byte) := []
  deriving DecidableEq, Repr

/-- The sideband port, a unit of the AON (R13, R256 to R259). -/
structure Sideband where
  pointer : Option (Nat × Nat) := none
  /-- Status that the next read returns, if a write or a failed CRC set one (R258). -/
  status  : Option Nat := none
  fetched : Option (Nat × List Byte) := none
  errors  : Nat := 0
  /-- What the last read returned: status, length and data. -/
  out     : List Byte := []
  deriving DecidableEq, Repr

/-- The control ports (R229 to R260). -/
structure HostPorts where
  lanes        : List HostLane := [{}, {}, {}, {}]
  control      : Option Nat := none
  /-- The control lane before the last change (R232). -/
  former       : Option Nat := none
  /-- Lanes in service for less than 1 ms, oldest first, which cannot be the control lane yet (R232). -/
  fresh        : List Nat := []
  irq          : BitVec 32 := 0
  queue        : List ControlItem := []
  odStatus     : BitVec 32 := 0
  odObject     : BitVec 32 := 0
  odDiscards   : Nat := 0
  gaps         : Nat := 0
  duplicates   : Nat := 0
  misrouted    : Nat := 0
  linkArmed    : Bool := false
  linkLost     : Bool := false
  stream0      : Stream := {}
  stream1      : Stream := {}
  shpRequests  : List ShpRequest := []
  shpResponses : List ShpResponse := []
  shpErrors    : Nat := 0
  /-- What SHP_MISO carried in the last frame. -/
  miso         : List Byte := []
  canRequests  : List CanRequest := []
  transferA    : Option CanRequest := none
  transferB    : Option CanRequest := none
  /-- Complete requests of the last 10 ms (R256). -/
  canRecent    : List CanRecent := []
  /-- Frames sent on CAN since the power-up of CORE. -/
  canOut       : List CanTx := []
  /-- What is left of each bus's recovery from bus-off, in housekeeping slots; 0 for a bus in service (R252, log 55). -/
  recoveringA  : Nat := 0
  recoveringB  : Nat := 0
  /-- Frames that wait for the recovery of their bus (log 55). -/
  canHeld      : List CanTx := []
  busOffA      : Nat := 0
  busOffB      : Nat := 0
  canAborts    : Nat := 0
  canDuplicates : Nat := 0
  sbp          : Sideband := {}
  deriving DecidableEq, Repr

/-! ## Sinks -/

/-- One sink (R397 to R411). -/
structure Sink where
  /-- Settings in force. -/
  enable    : Bool := false
  code      : Nat := 0
  duty      : Nat := 0
  /-- Code, reference and trim until the first off-tick of the period (R399). -/
  oldCode   : Nat := 0
  oldRef    : Nat := 0
  oldTrim   : Option Int := none
  /-- 0 OK, 1 open, 2 short to supply; a neighbour short is that of a pair (R411). -/
  status    : Nat := 0
  /-- The pair with the next channel is short (R409), and its results in a row. -/
  pairShort : Bool := false
  nShorts   : Nat := 0
  nCleans   : Nat := 0
  pin       : Nat := 0
  /-- It had an on-run of 300 ns since its last conversion, so that it holds a lowest voltage (R404); the voltage itself is seen
  only in the code of its conversion. -/
  ran       : Bool := false
  opens     : Nat := 0
  goods     : Nat := 0
  /-- Periods without a probe, and without a neighbour test while enabled (R411). -/
  noProbe   : Nat := 0
  noTest    : Nat := 0
  /-- It has been probed in this period (R411). -/
  probed    : Bool := false
  /-- Periods since a probe last fell due, and one that is due and has not been made (R407). -/
  sinceProbe : Nat := 0
  probeDue  : Bool := false
  /-- The same of the test of its pair with the next channel (R409). -/
  sinceTest : Nat := 0
  testDue   : Bool := false
  skips     : Nat := 0
  /-- The DAC trim that the background calibration has put in force, in 0.1 %; none for the factory trim (R176). -/
  trim      : Option Int := none
  deriving DecidableEq, Repr

/-- One sink group (R397, R405, R413). -/
structure SinkGroup where
  reference : Nat := 0
  divider   : Nat := 1
  hrctl     : Nat := 0
  lowest    : Option Nat := none
  headroom  : Nat := 0
  noRise    : Nat := 0
  lowCount  : Nat := 0
  off       : Bool := false
  /-- It has restarted, and its channels wait for the next period boundary (R413). -/
  resuming  : Bool := false
  hot       : Nat := 0
  cool      : Nat := 0
  shutdowns : Nat := 0
  deriving DecidableEq, Repr

/-- The sink channels (R397 to R415). -/
structure Sinks where
  groups   : List SinkGroup := [{}, {}, {}, {}]
  channels : List Sink := List.replicate 48 {}
  /-- The CP has restored the journalled settings, which apply from the next period boundary (R402). -/
  restored : Bool := false
  /-- AuxSettingsSource (R402): that boundary has come. -/
  applied  : Bool := false
  deriving DecidableEq, Repr

/-! ## Caravan -/

/-- A message in reassembly (R458). -/
structure Partial where
  source : Nat
  cls    : Nat
  tag    : Nat
  count  : Nat
  words  : List (BitVec 16)
  deriving DecidableEq, Repr

/-- A message waiting for the ring (R457): destination and words still to send, the first being the start
payload. -/
structure Outgoing where
  dest    : Nat
  started : Bool
  words   : List (BitVec 16)
  deriving DecidableEq, Repr

/-- A relayed CAN request that waits for its response (R464). -/
structure Relay where
  bus   : Bus
  write : Bool
  tag   : Nat
  index : Nat
  sub   : Nat
  node  : Nat
  deriving DecidableEq, Repr

/-- The ring (R448 to R471). -/
structure Caravan where
  enabled    : Bool := false
  /-- 0 not in a Caravan, 1 waiting, 2 in service, 3 closed, 4 broken. -/
  state      : Nat := 0
  position   : Option Nat := none
  size       : Nat := 0
  loopDelay  : Nat := 0
  nodeMap    : List Nat := [0xFF, 0xFF, 0xFF, 0xFF, 0xFF, 0xFF, 0xFF, 0xFF]
  tokenSeq   : BitVec 8 := 0
  loopValid  : Bool := false
  goodFrames : Nat := 0
  closing    : Bool := false
  frameErrors : Nat := 0
  dropped    : Nat := 0
  partials   : List Partial := []
  waybills   : List Outgoing := []
  dictionary : List Outgoing := []
  announces  : List Outgoing := []
  stream     : List Outgoing := []
  credits    : Nat := 0
  relays     : List Relay := []
  mismatches : Nat := 0
  adopt      : Option (BitVec 32) := none
  /-- The last frame sent: its slots, and the high and low times of its cells on CARAVAN_OUT (R450, R452). -/
  sent       : List (BitVec 24) := []
  cells      : List (Nat × Nat) := []
  /-- Session bytes received and not yet a whole frame (R465). -/
  streamIn   : List Byte := []
  /-- NodeIds announced from two positions, or 0 from a Waystation (R459). -/
  banned     : List Nat := []
  deriving DecidableEq, Repr

/-! ## Update, NVM and journal -/

/-- A slot of the flash (R473, R479). -/
structure Slot where
  package : Package := .empty
  /-- 0 not yet checked, 1 good, 2 failed, 3 unsigned. -/
  signature : Nat := 0
  deriving DecidableEq, Repr

/-- An open update session (R482). -/
structure Session where
  source  : Source
  slot    : Nat
  length  : Nat
  crc     : BitVec 32
  /-- The tag of the OPEN that waits for the erase. -/
  opening : Option Nat
  deriving DecidableEq, Repr

/-- A response frame of the session protocol (R481). -/
structure SvcResponse where
  source  : Source
  op      : Nat
  tag     : Nat
  payload : List Byte
  deriving DecidableEq, Repr

/-- The update session and activation (R480 to R485), volatile. -/
structure Update where
  svcEnabled : Bool := false
  baud       : Nat := 115200
  session    : Option Session := none
  out        : List SvcResponse := []
  relayTarget : Nat := 0
  relayBusy  : Bool := false
  relayTag   : Nat := 0
  /-- ActivationState in the last STATUS of the target (R485). -/
  relayState : Nat := 0
  /-- ActivationState (R484). -/
  activation : Nat := 0
  slot       : Nat := 0
  /-- The move goes back to the slot from which the activation started. -/
  back       : Bool := false
  /-- The port whose LS restarts. -/
  port       : Option Port := none
  staging    : Table := []
  lastRejection : BitVec 32 := 0
  deriving DecidableEq, Repr

/-- A journal record (R487). -/
structure JRecord where
  index    : Nat
  sub      : Nat
  kind     : Nat
  length   : Nat
  sequence : Nat
  value    : Nat
  deriving DecidableEq, Repr

/-- A write that waits in the journal's queue (R488). -/
structure JWrite where
  index  : Nat
  sub    : Nat
  kind   : Nat
  length : Nat
  value  : Nat
  waiter : Option Waiter
  deriving DecidableEq, Repr

/-- A bank of the journal (R487 to R490). -/
structure Bank where
  generation : Nat := 0
  header     : Bool := false
  done       : Bool := false
  /-- Sequences of the header and of the compaction-done record. -/
  headerSeq  : Nat := 0
  doneSeq    : Nat := 0
  records    : List JRecord := []
  /-- Bytes programmed. -/
  used       : Nat := 0
  /-- The first invalid record, by the number of records before it (R489). -/
  torn       : Option Nat := none
  deriving DecidableEq, Repr

/-- The commit record of the black box (R369, R371). -/
structure CommitRecord where
  newest : Nat
  cause  : BitVec 32
  crc    : BitVec 32
  erases : Nat
  deriving DecidableEq, Repr

/-- What NVM, program store and flash keep across power loss (R472, R473). -/
structure Nvm where
  optionA    : BitVec 1024
  optionB    : BitVec 1024
  /-- The five life-cycle words: 0 erased, 1 programmed, 2 neither (R494). -/
  life       : List Nat := [1, 1, 1, 0, 0]
  commissionerKey : Option (BitVec 256) := none
  selCp      : Nat := 0
  selSm      : Nat := 0
  selSmNext  : Option Nat := none
  selLs      : PerPort Nat := PerPort.const 0
  /-- EmitterDisabled and StuckLitPixel (R334, R338). -/
  disabled   : PerPort Nat := PerPort.const 0
  stuckPixel : PerPort (BitVec 32) := PerPort.const 0xFFFFFFFF
  area       : Nat := 0
  bank0      : Bank := { header := true, done := true, used := 56 }
  bank1      : Bank := {}
  boxArea    : List (Nat × BitVec 256) := []
  boxRecord  : Option CommitRecord := none
  /-- The CRC of the standing commit record matches the area (R369). -/
  boxGood    : Bool := false
  bankA      : Package := .shipped
  bankB      : Package := .empty
  slot0      : Slot := { package := .shipped }
  slot1      : Slot := {}
  deriving DecidableEq, Repr

/-- The NVM controller's work (R486 to R493), in SAFE. -/
structure Journal where
  active     : Nat := 0
  scanned    : Bool := false
  sequence   : Nat := 0
  queue      : List JWrite := []
  compacting : Bool := false
  compactions : Nat := 0
  tornCount  : Nat := 0
  /-- A commit of the black box: under way with its cause's Waybill, and one more due. -/
  commit     : Option (BitVec 64) := none
  commitNext : Option (BitVec 64) := none
  /-- Newest entry of the ring that the commit under way copies. -/
  commitNewest : Nat := 0xFFFF
  /-- Option image being programmed, with its writer. -/
  optionWrite : Option (BitVec 1024 × Waiter) := none
  optionRead : Option (BitVec 1024) := none
  /-- The safe-beam area being programmed. -/
  areaWrite  : Option Nat := none
  areaState  : Nat := 0
  areaResult : Nat := 0
  deriving DecidableEq, Repr

/-! ## The whole state -/

/-- The state of the block. -/
structure State where
  variant  : Variant
  aon      : Aon
  power    : Power
  units    : Units
  scan     : Scan
  leap     : LeapInfo
  almanac  : Almanac
  dict     : Dict
  access   : Access
  fetch    : Fetch
  warp     : PerPort Warp
  manifest : Manifest
  shade    : Shade
  ceiling  : Ceiling
  safeBeam : SafeBeam
  compose  : Compose
  drive    : Drive
  headroom : PerPort Headroom
  link     : PerPort LinkPort
  pixels   : PerPort PixelCheck
  checker  : TileChecker
  hk       : Housekeeping
  toll     : Toll
  faults   : Faults
  safety   : Safety
  host     : HostPorts
  sinks    : Sinks
  caravan  : Caravan
  update   : Update
  journal  : Journal
  nvm      : Nvm
  /-- DRAM: bytes that differ from 0, addresses rising (R30). -/
  dram     : List Host.Cell
  dramCorrected : Nat
  dramRate : Nat
  sramCorrected : Nat
  /-- The model's own counter: each draw of a free value takes the next number. -/
  free     : Nat
  /-- The commands that wait, first in first out. -/
  pending  : List Instr
  deriving DecidableEq, Repr

/-- Reasons to stop with a fault. The spec names no event that stops the block, so there is none: a fault
of the part is state, and the block goes on under its reaction (R347, R358). -/
inductive Fault where
  deriving DecidableEq, Repr

/-- Reasons to refuse a command. -/
inductive Refusal where
  /-- Raised by a dispatch arm whose command has no meaning yet; safe, because nothing is claimed. -/
  | notModelled (mnemonic : String)
  deriving DecidableEq, Repr

/-- The option block as it ships (R517): the safe defaults of R424 with BootSource 0x00, with its CRC-32C
in bytes 124 to 127. Byte `i` is bits 8i + 7 to 8i. -/
def shippedOption : BitVec 1024 :=
  BitVec.ofNat 1024
    (0xA9EE6798 * 2 ^ 992 + 0x01 * 2 ^ 328 + 0x01 * 2 ^ 288 + 0x01 * 2 ^ 248 + 0x01 * 2 ^ 208
      + 0xFFFFFFFFFFFFFFFF * 2 ^ 64 + 0x002A5C0000010A5C)

/-- The safe-beam area as it ships (R517): a dark pattern and ceiling 0 in every cell, in the layout of
R29 with both CRCs. Byte `i` is bits 8i + 7 to 8i. -/
def shippedArea : Nat :=
  0x0000000141454253 + 0x9F43BF7E * 2 ^ (8 * 0x6398) + 0xE2F00BF7 * 2 ^ (8 * 0x859C)

/-- NVM, program store and flash as the part ships (R517): life cycle DEVELOP, no commissioner key, a
signed package in slot 0 and bank 0, slot 1 empty, both option copies valid. -/
def shippedNvm : Nvm :=
  { optionA := shippedOption, optionB := shippedOption, area := shippedArea }

/-- The state at the release of POR (R416, R420 case 1): AON cleared with ResetCause 0x8000 (R423), SAFE
released with the option load running (R425), every other domain off, NVM as shipped (R517). The variant is
a DESIGN CHOICE (log 1); so is a part that has not run before (log 2). -/
def State.reset : State where
  variant  := .sl2ma
  aon      := {}
  power    := {}
  units    := {}
  scan     := {}
  leap     := {}
  almanac  := {}
  dict     := {}
  access   := {}
  fetch    := {}
  warp     := PerPort.const {}
  manifest := {}
  shade    := {}
  ceiling  := {}
  safeBeam := {}
  compose  := {}
  drive    := {}
  headroom := PerPort.const {}
  link     := PerPort.const {}
  pixels   := PerPort.const {}
  checker  := {}
  hk       := {}
  toll     := {}
  faults   := {}
  safety   := {}
  host     := {}
  sinks    := {}
  caravan  := {}
  update   := {}
  journal  := {}
  nvm      := shippedNvm
  dram     := []
  dramCorrected := 0
  dramRate := 0
  sramCorrected := 0
  free     := 0
  pending  := []

end Sys2Proof.Machine
end

