-- ==== Sys2Proof/Machine/Ops.lean ====
section
/-!
DEFINITION. Ops.lean: the named operations over tables, memory, bytes and numbers that the meanings share.
-/

namespace Sys2Proof.Machine

open Sys2Proof

/-! ## Sparse tables -/

/-- The value of key `k`, `d` where the table does not list it. -/
def tableGet (d : Nat) (k : Nat) : Table → Nat
  | [] => d
  | (k', v) :: t => if k' = k then v else tableGet d k t

/-- The table with `k` set to `v`; a value equal to the default `d` is not listed. -/
def tablePut (d : Nat) (k v : Nat) : Table → Table
  | [] => if v = d then [] else [(k, v)]
  | (k', v') :: t =>
    if k < k' then (if v = d then (k', v') :: t else (k, v) :: (k', v') :: t)
    else if k = k' then (if v = d then t else (k, v) :: t)
    else (k', v') :: tablePut d k v t

/-- The table without the keys for which `p` holds. -/
def tableDrop (p : Nat → Bool) (t : Table) : Table :=
  t.filter fun e => !p e.1

/-! ## DRAM -/

/-- What an unlisted DRAM byte reads as. DESIGN CHOICE (log 5): the manual gives no contents at power-up. -/
def unlistedByte : Byte := 0

/-- Bytes of DRAM fitted: the largest the part accepts (R30). DESIGN CHOICE (log 5). -/
def dramSize : Nat := 4294967296

/-- The byte at address `a` (R30). -/
def memRead (a : Nat) : List Host.Cell → Byte
  | [] => unlistedByte
  | (a', b) :: m => if a' = a then b else memRead a m

/-- The memory with byte `b` at address `a`; an address outside the fitted DRAM holds nothing. -/
def memInsert (a : Nat) (b : Byte) : List Host.Cell → List Host.Cell
  | [] => if b = unlistedByte then [] else [(a, b)]
  | (a', b') :: m =>
    if a < a' then (if b = unlistedByte then (a', b') :: m else (a, b) :: (a', b') :: m)
    else if a = a' then (if b = unlistedByte then m else (a, b) :: m)
    else (a', b') :: memInsert a b m

/-- Store of one byte. -/
def memWrite (a : Nat) (b : Byte) (m : List Host.Cell) : List Host.Cell :=
  if a < dramSize then memInsert a b m else m

/-- Store of bytes at rising addresses. -/
def memWriteAll (a : Nat) : List Byte → List Host.Cell → List Host.Cell
  | [], m => m
  | b :: bs, m => memWriteAll (a + 1) bs (memWrite a b m)

/-- `n` bytes from address `a` on. -/
def memReadAll (a n : Nat) (m : List Host.Cell) : List Byte :=
  (List.range n).map fun i => memRead (a + i) m

/-- Addresses above `lo` strictly rising, each in the fitted DRAM, no byte equal to the unlisted byte. -/
def memSorted (lo : Nat) : List Host.Cell → Bool
  | [] => true
  | (a, b) :: m => decide (lo ≤ a) && decide (a < dramSize) && (b != unlistedByte) && memSorted (a + 1) m

/-- The canonical form of a memory. -/
def Memory.wf (m : List Host.Cell) : Bool := memSorted 0 m

/-! ## Bytes and numbers -/

/-- The number whose least significant byte comes first (R7). -/
def leNat : List Byte → Nat
  | [] => 0
  | b :: bs => b.toNat + 256 * leNat bs

/-- The lowest `n` bytes of a number, least significant first (R7). -/
def leBytes : Nat → Nat → List Byte
  | 0, _ => []
  | n + 1, v => BitVec.ofNat 8 v :: leBytes n (v / 256)

/-- The number whose most significant byte comes first. -/
def beNat (bs : List Byte) : Nat := leNat bs.reverse

/-- The lowest `n` bytes of a number, most significant first. -/
def beBytes (n v : Nat) : List Byte := (leBytes n v).reverse

/-- Bits `lo` to `lo + len - 1` of a number. -/
def bitsOf (v lo len : Nat) : Nat := v >>> lo % 2 ^ len

/-- Bit `i` of a number. -/
def bitOf (v i : Nat) : Bool := v >>> i % 2 == 1

/-- Byte `i` of a little-endian value. -/
def byteOf (v i : Nat) : Nat := bitsOf v (8 * i) 8

/-- 16-bit entry `i` of a little-endian value. -/
def halfOf (v i : Nat) : Nat := bitsOf v (16 * i) 16

/-- 32-bit entry `i` of a little-endian value. -/
def wordOf (v i : Nat) : Nat := bitsOf v (32 * i) 32

/-- A little-endian value from entries of `w` bits. -/
def packLe (w : Nat) : List Nat → Nat
  | [] => 0
  | x :: xs => x % 2 ^ w + 2 ^ w * packLe w xs

/-- The two's complement number of `w` bits (R8). -/
def toSigned (w v : Nat) : Int :=
  if v % 2 ^ w < 2 ^ (w - 1) then (v % 2 ^ w : Nat) else (v % 2 ^ w : Nat) - (2 ^ w : Nat)

/-- The `w`-bit two's complement code of a number (R8). -/
def ofSigned (w : Nat) (x : Int) : Nat := (x % (2 ^ w : Nat)).toNat

/-- 1 or 0. -/
def ofBool (b : Bool) : Nat := if b then 1 else 0

/-- Saturation (R9). -/
def clampInt (lo hi x : Int) : Int := max lo (min hi x)

/-- The two's complement code of `x` saturated to `w` bits. -/
def satSigned (w : Nat) (x : Int) : Nat :=
  ofSigned w (clampInt (-(2 ^ (w - 1) : Nat)) ((2 ^ (w - 1) : Nat) - 1) x)

/-- Saturating counter of `w` bits (R280). -/
def satAdd (w v n : Nat) : Nat := min (v + n) (2 ^ w - 1)

/-- A saturating 32-bit counter counts one. -/
def count32 (v : Nat) : Nat := satAdd 32 v 1

/-- Round half up of `a / b` with `b > 0` (R9). -/
def roundDiv (a : Int) (b : Nat) : Int := (2 * a + b) / (2 * b : Nat)

/-- round(a / b) for a divisor of either sign (R9). -/
def roundQuot (a b : Int) : Int := if b < 0 then roundDiv (-a) (-b).toNat else roundDiv a b.toNat

/-- Round half up on non-negative numbers (R9). -/
def roundDivNat (a b : Nat) : Nat := (2 * a + b) / (2 * b)

/-- Division that rounds toward zero (R9). -/
def truncDiv (a b : Int) : Int := Int.tdiv a b

/-- Largest of a list, `d` for the empty list. -/
def maxOf (d : Nat) (xs : List Nat) : Nat := xs.foldl max d

/-- Sum of a list. -/
def sumOf (xs : List Nat) : Nat := xs.foldl (· + ·) 0

/-! ## Lists -/

/-- The list with element `i` sent through `f`. -/
def modifyAt {α : Type} (f : α → α) : Nat → List α → List α
  | _, [] => []
  | 0, x :: xs => f x :: xs
  | i + 1, x :: xs => x :: modifyAt f i xs

/-- Element `i`, or `d` past the end. -/
def nth {α : Type} (d : α) (xs : List α) (i : Nat) : α := xs.getD i d

/-- Entries put in rising order of their numbers, a new value replacing the old one. -/
def putEntry {α : Type} (k : Nat) (v : α) : List (Nat × α) → List (Nat × α)
  | [] => [(k, v)]
  | (k', v') :: t =>
    if k < k' then (k, v) :: (k', v') :: t
    else if k = k' then (k, v) :: t
    else (k', v') :: putEntry k v t

/-- The entry of number `k`, or `d`. -/
def getEntry {α : Type} (d : α) (k : Nat) : List (Nat × α) → α
  | [] => d
  | (k', v) :: t => if k' = k then v else getEntry d k t

/-- Insertion sort of numbers, for the medians of R312 and R313. -/
def insertSorted (x : Int) : List Int → List Int
  | [] => [x]
  | y :: ys => if x ≤ y then x :: y :: ys else y :: insertSorted x ys

/-- The numbers in rising order. -/
def sortInts (xs : List Int) : List Int := xs.foldr insertSorted []

/-! ## Ports and domains -/

/-- Ports of the fused variant (R1). -/
def portsOf (v : Variant) : List Port :=
  match v with
  | .sl1ma => [.a, .b]
  | _ => Port.all

/-- The variant has the port (R3). -/
def hasPort (s : State) (p : Port) : Bool := (portsOf s.variant).contains p

/-- The power state of a domain; AON is on while POR is released (R14). -/
def domainState (s : State) : Domain → DomainState
  | .aon => .on
  | .safe => s.power.safe
  | .core => s.power.core
  | .pix => s.power.pix
  | .link => s.power.link
  | .dram => s.power.dram
  | .aux => s.power.aux

/-- The domain is powered. -/
def isOn (s : State) (d : Domain) : Bool := domainState s d == .on

/-- The domain bit of R436. -/
def domainBit : Domain → Nat
  | .aon => 0 | .safe => 1 | .core => 2 | .pix => 3 | .link => 4 | .dram => 5 | .aux => 6

/-- The domains that a domain depends on directly (R14). -/
def dependsOn : Domain → List Domain
  | .aon => []
  | .safe => [.aon]
  | .core => [.safe]
  | .pix => [.core]
  | .dram => [.core]
  | .aux => [.core]
  | .link => [.pix]

/-- The domains that depend on a domain directly (R14). -/
def dependants : Domain → List Domain
  | .aon => [.safe]
  | .safe => [.core]
  | .core => [.pix, .dram, .aux]
  | .pix => [.link]
  | .link => []
  | .dram => []
  | .aux => []

/-- A reset holds the part: POR or RESET_N is asserted (R419). -/
def inReset (s : State) : Bool := s.power.por || s.power.resetPin

/-- The CP has reported ready and no reset holds (R430). -/
def cpReady (s : State) : Bool := isOn s .core && s.units.cp == .ready

/-- A draw of a free value: the number and the state that has counted it. -/
def drawFree (s : State) : Nat × State :=
  ((Config.freeValue s.free).toNat, { s with free := s.free + 1 })

end Sys2Proof.Machine
end

