-- ==== Sys2Proof/Machine/Crc.lean ====
section
/-!
DEFINITION. Crc.lean: the checks of the manual: CRC-8 (R82), CRC-16 (R16) and CRC-32C (R83).
-/

namespace Sys2Proof.Machine

open Sys2Proof

/-- One bit into a register that shifts left, most significant bit first. -/
def crcBitLeft (w poly : Nat) (r : Nat) (b : Bool) : Nat :=
  let top := bitOf r (w - 1) != b
  let r' := r * 2 % 2 ^ w
  if top then r' ^^^ poly else r'

/-- The bits of a number of `n` bits, most significant first. -/
def msbBits : Nat → Nat → List Bool
  | 0, _ => []
  | n + 1, v => bitOf v n :: msbBits n v

/-- The bits of bytes, each from bit 7 down. -/
def byteBits : List Byte → List Bool
  | [] => []
  | b :: bs => msbBits 8 b.toNat ++ byteBits bs

/-- CRC-16 of R16 over bits in the order they are fed: polynomial 0x1021, start 0xFFFF, no reflection, no
final XOR. -/
def crc16Bits (bits : List Bool) : Nat := bits.foldl (crcBitLeft 16 0x1021) 0xFFFF

/-- CRC-16 of R16 over bytes. -/
def crc16 (bs : List Byte) : Nat := crc16Bits (byteBits bs)

/-- CRC-8 of R82 over bytes: polynomial 0x07, start 0xFF, no reflection, no final XOR. -/
def crc8 (bs : List Byte) : Nat := (byteBits bs).foldl (crcBitLeft 8 0x07) 0xFF

/-- One bit of the reflected CRC-32C register. -/
def crc32Step : Nat → Nat → Nat
  | 0, r => r
  | n + 1, r => crc32Step n (if r % 2 = 1 then (r / 2) ^^^ 0x82F63B78 else r / 2)

/-- One byte into the reflected CRC-32C register. -/
def crc32Byte (r : Nat) (b : Byte) : Nat := crc32Step 8 (r ^^^ b.toNat)

/-- CRC-32C (R83): polynomial 0x1EDC6F41 reflected, start 0xFFFFFFFF, final XOR 0xFFFFFFFF. -/
def crc32c (bs : List Byte) : Nat := (bs.foldl crc32Byte 0xFFFFFFFF) ^^^ 0xFFFFFFFF

/-- CRC-32C over the `n` bytes of a little-endian value. -/
def crc32Of (n v : Nat) : Nat := crc32c (leBytes n v)

end Sys2Proof.Machine
end

