-- ==== Sys2Proof/Machine/Kinds.lean ====
section
/-!
DEFINITION. Kinds.lean: the fault kinds and the source units (R353, R358).
-/

namespace Sys2Proof.Machine

open Sys2Proof

/-- How a kind ends (R348, R358): an event is raised and done; a condition kind exits when its rule says;
a quiet kind after the quiet period; a privileged kind by R362 to R364. -/
inductive Exit where
  | event | condition | quiet | privileged
  deriving DecidableEq, Repr

/-- A row of the kind table: code, source unit (port A's for the kinds of a link port), class (0 Corrected,
1 Contained, 2 Fatal), exit, default of SafeStateChoice where the kind has a safe state, and whether a write
of SafeStateChoice is refused. -/
structure KindRow where
  code   : Nat
  unit   : Nat
  cls    : Nat
  exit   : Exit
  choice : Option Nat
  fixed  : Bool
  deriving DecidableEq, Repr

/-- The kind table, codes 0x01 to 0x25 (R358). -/
def kindRows0 : List KindRow := [
  ⟨0x01, 0x01, 1, .event, none, true⟩,
  ⟨0x02, 0x01, 0, .event, none, true⟩,
  ⟨0x03, 0x02, 2, .quiet, (some 0), false⟩,
  ⟨0x04, 0x03, 1, .condition, none, true⟩,
  ⟨0x05, 0x04, 2, .quiet, (some 0), true⟩,
  ⟨0x06, 0x05, 0, .event, none, true⟩,
  ⟨0x07, 0x05, 0, .event, none, true⟩,
  ⟨0x08, 0x05, 1, .event, none, true⟩,
  ⟨0x09, 0x05, 0, .event, none, true⟩,
  ⟨0x0A, 0x06, 0, .event, none, true⟩,
  ⟨0x0B, 0x06, 1, .privileged, (some 0), false⟩,
  ⟨0x0C, 0x06, 1, .condition, none, true⟩,
  ⟨0x0D, 0x07, 1, .condition, none, true⟩,
  ⟨0x0E, 0x08, 1, .event, none, true⟩,
  ⟨0x0F, 0x09, 0, .event, none, true⟩,
  ⟨0x10, 0x09, 1, .condition, none, true⟩,
  ⟨0x11, 0x09, 0, .event, none, true⟩,
  ⟨0x12, 0x09, 0, .event, none, true⟩,
  ⟨0x13, 0x09, 1, .condition, none, true⟩,
  ⟨0x14, 0x0A, 0, .event, none, true⟩,
  ⟨0x15, 0x0A, 0, .event, none, true⟩,
  ⟨0x16, 0x0A, 0, .event, none, true⟩,
  ⟨0x17, 0x0A, 1, .condition, none, true⟩,
  ⟨0x18, 0x0A, 1, .condition, none, true⟩,
  ⟨0x19, 0x0A, 1, .event, none, true⟩,
  ⟨0x1A, 0x0A, 0, .event, none, true⟩,
  ⟨0x1B, 0x0A, 1, .quiet, none, true⟩,
  ⟨0x1C, 0x0B, 1, .quiet, none, true⟩,
  ⟨0x1D, 0x0C, 1, .quiet, none, true⟩,
  ⟨0x1E, 0x0D, 1, .quiet, none, true⟩,
  ⟨0x1F, 0x0A, 1, .quiet, none, true⟩,
  ⟨0x20, 0x0B, 1, .quiet, none, true⟩,
  ⟨0x21, 0x0C, 1, .quiet, none, true⟩,
  ⟨0x22, 0x0D, 1, .quiet, none, true⟩,
  ⟨0x23, 0x0E, 0, .event, none, true⟩,
  ⟨0x24, 0x0E, 1, .privileged, (some 0), false⟩,
  ⟨0x25, 0x0F, 0, .event, none, true⟩]

/-- The kind table, codes 0x26 to 0x4A (R358). -/
def kindRows1 : List KindRow := [
  ⟨0x26, 0x10, 1, .privileged, (some 0), false⟩,
  ⟨0x27, 0x10, 1, .quiet, none, true⟩,
  ⟨0x28, 0x11, 1, .event, none, true⟩,
  ⟨0x29, 0x12, 0, .event, none, true⟩,
  ⟨0x2A, 0x13, 0, .event, none, true⟩,
  ⟨0x2B, 0x13, 1, .condition, none, true⟩,
  ⟨0x2C, 0x13, 0, .event, none, true⟩,
  ⟨0x2D, 0x13, 1, .condition, none, true⟩,
  ⟨0x2E, 0x13, 2, .condition, (some 0), false⟩,
  ⟨0x2F, 0x13, 2, .condition, (some 2), true⟩,
  ⟨0x30, 0x13, 0, .event, none, true⟩,
  ⟨0x31, 0x13, 1, .condition, none, true⟩,
  ⟨0x32, 0x13, 1, .condition, none, true⟩,
  ⟨0x33, 0x13, 1, .condition, none, true⟩,
  ⟨0x34, 0x13, 1, .condition, none, true⟩,
  ⟨0x35, 0x13, 1, .privileged, (some 0), false⟩,
  ⟨0x36, 0x14, 2, .quiet, (some 0), false⟩,
  ⟨0x37, 0x15, 1, .condition, none, true⟩,
  ⟨0x38, 0x15, 2, .condition, (some 2), true⟩,
  ⟨0x39, 0x16, 1, .event, none, true⟩,
  ⟨0x3A, 0x16, 0, .event, none, true⟩,
  ⟨0x3B, 0x17, 0, .event, none, true⟩,
  ⟨0x3C, 0x17, 1, .condition, none, true⟩,
  ⟨0x3D, 0x18, 1, .condition, none, true⟩,
  ⟨0x3E, 0x18, 1, .condition, none, true⟩,
  ⟨0x3F, 0x19, 1, .event, none, true⟩,
  ⟨0x40, 0x19, 2, .quiet, (some 0), false⟩,
  ⟨0x41, 0x19, 2, .quiet, (some 0), true⟩,
  ⟨0x42, 0x1C, 1, .privileged, (some 0), false⟩,
  ⟨0x43, 0x1D, 0, .event, none, true⟩,
  ⟨0x44, 0x1D, 0, .event, none, true⟩,
  ⟨0x45, 0x1A, 0, .event, none, true⟩,
  ⟨0x46, 0x1A, 0, .event, none, true⟩,
  ⟨0x47, 0x1A, 0, .event, none, true⟩,
  ⟨0x48, 0x1A, 1, .condition, none, true⟩,
  ⟨0x49, 0x1B, 1, .condition, none, true⟩,
  ⟨0x4A, 0x1B, 0, .event, none, true⟩]

/-- The kind table (R358). -/
def kindTable : List KindRow := kindRows0 ++ kindRows1

/-- The row of a code; a code that is not defined gets an inert row. -/
def kindRow (k : Nat) : KindRow :=
  if k = 0 then ⟨0, 0, 0, .event, none, true⟩ else kindTable.getD (k - 1) ⟨0, 0, 0, .event, none, true⟩

/-- The code is a defined kind (R358). -/
def isKind (k : Nat) : Bool := decide (1 ≤ k) && decide (k ≤ 0x4A)

/-- The code is a source unit (R353). -/
def isUnit (u : Nat) : Bool := decide (1 ≤ u) && decide (u ≤ 0x1D)

/-- The kinds 0x14 to 0x1A, which every link port has (R349). -/
def isLinkKind (k : Nat) : Bool := decide (0x14 ≤ k) && decide (k ≤ 0x1A)

/-- The source unit of a raise of kind `k` for port `p` (R353, R358). -/
def unitOf (k p : Nat) : Nat :=
  if isLinkKind k then 0x0A + p else (kindRow k).unit

/-- The kind has an exit, so it stays active (R348). -/
def isStateKind (k : Nat) : Bool := (kindRow k).exit != .event

/-- The kinds of a unit in ascending order (R349). -/
def kindsOf (u : Nat) : List Nat :=
  if 0x0A ≤ u ∧ u ≤ 0x0D then
    [0x14, 0x15, 0x16, 0x17, 0x18, 0x19, 0x1A, 0x1B + (u - 0x0A), 0x1F + (u - 0x0A)]
  else (kindTable.filter fun r => r.unit == u).map (·.code)

/-- The KindBits bit of a kind in its unit (R349). -/
def kindBit (u k : Nat) : Nat := (kindsOf u).idxOf k

/-- The unit's fault logic lies on the AD, so the SM stamps its events (R353, R368). -/
def unitOnAd (u : Nat) : Bool :=
  [0x02, 0x04, 0x13, 0x14, 0x15, 0x16, 0x17, 0x18, 0x19, 0x1A].contains u

/-- The domain whose isolation isolates a unit (R353). -/
def unitDomain (u : Nat) : Domain :=
  if [0x01, 0x03, 0x0E, 0x0F, 0x1B, 0x1C].contains u then .core
  else if [0x05, 0x06, 0x07, 0x11, 0x12, 0x1D].contains u then .pix
  else if [0x08, 0x09, 0x0A, 0x0B, 0x0C, 0x0D].contains u then .link
  else if u = 0x10 then .dram
  else if u = 0x1A then .aux
  else .safe

end Sys2Proof.Machine
end

