-- ==== Sys2Proof/Machine/Objects.lean ====
section
/-!
DEFINITION. Objects.lean: the attribute tables of the object dictionary (R263 to R265 and the tables of
R18, R73, R114, R149, R183, R228, R262, R281, R282, R284, R286, R287, R289, R346, R374, R396, R415, R471, R498).

A row covers like units (an index range) and like entries (a subindex range). Defaults that depend on the
variant, the options or the layer stand in Values.lean.
-/

namespace Sys2Proof.Machine

/-- Access codes (R268). -/
inductive AccessCode where
  | ro | rw | wo | rwc | rwm
  deriving DecidableEq, Repr

/-- The range of an object's value (R266): any value of the size, bounds on the unsigned or the two's
complement value, a single value or bounds, or multiples. -/
inductive Range where
  | any
  | upTo (lo hi : Nat)
  | ints (lo hi : Int)
  | oneOr (x lo hi : Nat)
  | multiple (m : Nat)
  deriving DecidableEq, Repr

/-- A row: first index and number of units, first subindex and number of entries, size in bytes, access,
whether it is journalled, default and range. -/
structure ObjectRow where
  index   : Nat
  units   : Nat
  sub     : Nat
  subs    : Nat
  size    : Nat
  access  : AccessCode
  journal : Bool
  default : Nat
  range   : Range
  deriving DecidableEq, Repr

/-- Rows of the dictionary, 1000.01 to 1210.01. -/
def objectRows0 : List ObjectRow := [
  ⟨0x1000, 1, 0x01, 1, 1, .ro, false, 0, .any⟩, -- DeviceVariant
  ⟨0x1000, 1, 0x02, 1, 16, .ro, false, 0, .any⟩, -- DeviceName
  ⟨0x1000, 1, 0x03, 1, 2, .ro, false, 0, .any⟩, -- SiliconRevision
  ⟨0x1000, 1, 0x04, 1, 8, .ro, false, 0, .any⟩, -- SerialNumber
  ⟨0x1000, 1, 0x05, 1, 4, .ro, false, 0, .any⟩, -- CpFirmwareVersion
  ⟨0x1000, 1, 0x06, 1, 4, .ro, false, 0, .any⟩, -- SmFirmwareVersion
  ⟨0x1000, 1, 0x07, 1, 16, .ro, false, 0, .any⟩, -- LsFirmwareVersion
  ⟨0x1000, 1, 0x08, 1, 2, .ro, false, 0, .any⟩, -- InterfaceEpoch
  ⟨0x1000, 1, 0x09, 1, 2, .ro, false, 0x100, .any⟩, -- DictionaryRevision
  ⟨0x1000, 1, 0x0A, 1, 24, .ro, false, 0, .any⟩, -- VendorName
  ⟨0x1010, 1, 0x01, 1, 16, .ro, false, 0, .any⟩, -- SessionChallenge
  ⟨0x1010, 1, 0x02, 1, 20, .wo, false, 0, .any⟩, -- SessionResponse
  ⟨0x1010, 1, 0x03, 1, 1, .ro, false, 0, .any⟩, -- SessionState
  ⟨0x1010, 1, 0x04, 1, 1, .ro, false, 0, .any⟩, -- SessionTransport
  ⟨0x1010, 1, 0x05, 1, 1, .wo, false, 0, .upTo 0 1⟩, -- SessionClose
  ⟨0x1010, 1, 0x06, 1, 2, .rw, true, 0x3C, .upTo 10 600⟩, -- SessionIdleTimeout
  ⟨0x1010, 1, 0x07, 1, 4, .ro, false, 0, .any⟩, -- SessionFailCount
  ⟨0x1010, 1, 0x08, 1, 32, .wo, false, 0, .any⟩, -- CommissionerKey
  ⟨0x1010, 1, 0x09, 1, 1, .ro, false, 0, .any⟩, -- CommissionerKeySet
  ⟨0x1020, 1, 0x01, 1, 4, .wo, false, 0, .any⟩, -- RestoreDefaults
  ⟨0x1020, 1, 0x02, 1, 1, .ro, false, 0, .any⟩, -- RestorePending
  ⟨0x1100, 1, 0x01, 1, 1, .rw, true, 1, .upTo 0 1⟩, -- CanNominalRate
  ⟨0x1100, 1, 0x02, 1, 1, .rw, true, 2, .upTo 0 3⟩, -- CanDataRate
  ⟨0x1100, 1, 0x03, 1, 1, .ro, false, 0x5C, .any⟩, -- CanServiceBase
  ⟨0x1100, 1, 0x04, 1, 1, .ro, false, 0, .any⟩, -- NodeId
  ⟨0x1100, 1, 0x05, 1, 1, .rw, true, 2, .upTo 0 2⟩, -- CanMode
  ⟨0x1100, 1, 0x06, 1, 8, .ro, false, 0, .any⟩, -- CanBusOffCount
  ⟨0x1100, 1, 0x07, 1, 4, .ro, false, 0, .any⟩, -- CanAbortCount
  ⟨0x1100, 1, 0x08, 1, 4, .ro, false, 0, .any⟩, -- CanDuplicateCount
  ⟨0x1200, 1, 0x01, 1, 1, .rw, true, 0, .upTo 0 1⟩, -- HostCtleMode
  ⟨0x1200, 1, 0x02, 1, 1, .rw, true, 8, .upTo 0 15⟩, -- HostCtleFixed
  ⟨0x1200, 1, 0x03, 1, 4, .ro, false, 0, .any⟩, -- HostLaneState
  ⟨0x1200, 1, 0x04, 1, 1, .ro, false, 0xFF, .any⟩, -- HostControlLane
  ⟨0x1200, 1, 0x05, 1, 1, .rw, true, 0x10, .upTo 1 255⟩, -- HostLaneFailThreshold
  ⟨0x1200, 1, 0x06, 1, 1, .rw, true, 1, .upTo 0 2⟩, -- HostLinkMonitor
  ⟨0x1200, 1, 0x07, 1, 2, .rw, true, 0x64, .upTo 10 10000⟩, -- HostLinkTimeout
  ⟨0x1200, 1, 0x08, 1, 1, .ro, false, 0, .any⟩, -- HostLinkLost
  ⟨0x1200, 1, 0x09, 1, 16, .ro, false, 0, .any⟩, -- HostPacketErrorCount
  ⟨0x1200, 1, 0x0A, 1, 4, .ro, false, 0, .any⟩, -- HostSequenceGapCount
  ⟨0x1200, 1, 0x0B, 1, 4, .ro, false, 0, .any⟩, -- HostDuplicateCount
  ⟨0x1200, 1, 0x0C, 1, 4, .ro, false, 0, .any⟩, -- HostMisroutedCount
  ⟨0x1200, 1, 0x0D, 1, 4, .ro, false, 0, .any⟩, -- OdWriteLastStatus
  ⟨0x1200, 1, 0x0E, 1, 4, .ro, false, 0, .any⟩, -- OdWriteLastObject
  ⟨0x1200, 1, 0x0F, 1, 4, .ro, false, 0, .any⟩, -- OdWriteDiscardCount
  ⟨0x1210, 2, 0x01, 1, 1, .rw, true, 0xFF, .oneOr 0xFF 0 63⟩] -- VideoStreamSurface

/-- Rows of the dictionary, 1210.02 to 3000.09. -/
def objectRows1 : List ObjectRow := [
  ⟨0x1210, 2, 0x02, 1, 4, .ro, false, 0, .any⟩, -- VideoPictureCount
  ⟨0x1210, 2, 0x03, 1, 4, .ro, false, 0, .any⟩, -- VideoPictureDiscardCount
  ⟨0x1210, 2, 0x04, 1, 1, .ro, false, 0, .any⟩, -- VideoLastPicture
  ⟨0x1300, 1, 0x01, 1, 4, .ro, false, 0, .any⟩, -- HostIrqStatus
  ⟨0x1300, 1, 0x02, 1, 4, .rw, true, 0x81, .any⟩, -- HostIrqMask
  ⟨0x1300, 1, 0x03, 1, 4, .wo, false, 0, .any⟩, -- HostIrqClear
  ⟨0x1300, 1, 0x04, 1, 4, .ro, false, 0, .any⟩, -- ShpErrorCount
  ⟨0x1400, 1, 0x01, 1, 1, .ro, false, 0x2A, .any⟩, -- SbpAddress
  ⟨0x1400, 1, 0x03, 1, 1, .rw, true, 1, .upTo 0 1⟩, -- SbpWakeEnable
  ⟨0x1400, 1, 0x04, 1, 4, .ro, false, 0, .any⟩, -- SbpErrorCount
  ⟨0x2000, 1, 0x01, 1, 1, .rw, true, 0, .upTo 0 3⟩, -- CanvasLayout
  ⟨0x2000, 1, 0x02, 1, 1, .rw, true, 2, .upTo 1 30⟩, -- CanvasPitch
  ⟨0x2000, 1, 0x03, 1, 2, .rw, true, 0xF800, .ints (-32768) 32767⟩, -- CanvasOriginH
  ⟨0x2000, 1, 0x04, 1, 2, .rw, true, 0x400, .ints (-32768) 32767⟩, -- CanvasOriginV
  ⟨0x2000, 1, 0x05, 1, 1, .rw, true, 0, .upTo 0 1⟩, -- PortPairing
  ⟨0x2100, 4, 0x01, 1, 4488, .rw, true, 0, .any⟩, -- WarpMesh
  ⟨0x2100, 4, 0x03, 1, 1, .ro, false, 0, .any⟩, -- WarpMeshState
  ⟨0x2100, 4, 0x04, 1, 4, .ro, false, 0, .any⟩, -- UncoveredPixelCount
  ⟨0x2100, 4, 0x05, 1, 4, .ro, false, 0, .any⟩, -- WarpMeshCrc
  ⟨0x2100, 4, 0x06, 1, 2, .ro, false, 0, .any⟩, -- InverseMeshError
  ⟨0x2200, 4, 0x01, 1, 1, .rw, true, 1, .upTo 0 1⟩, -- PortInUse
  ⟨0x2200, 4, 0x02, 1, 1, .ro, false, 0, .any⟩, -- PortState
  ⟨0x2200, 4, 0x03, 1, 4, .ro, false, 0xFFFFF, .any⟩, -- LaneMap
  ⟨0x2200, 4, 0x04, 1, 1, .ro, false, 0, .any⟩, -- WorkingLanes
  ⟨0x2200, 4, 0x05, 1, 5, .ro, false, 0, .any⟩, -- LaneState
  ⟨0x2200, 4, 0x06, 1, 1, .rw, true, 0, .upTo 0 1⟩, -- DeemphasisMode
  ⟨0x2200, 4, 0x07, 1, 1, .rw, true, 3, .upTo 0 7⟩, -- DeemphasisFixed
  ⟨0x2200, 4, 0x08, 1, 5, .ro, false, 0, .any⟩, -- DeemphasisInUse
  ⟨0x2200, 4, 0x09, 1, 1, .rw, true, 0, .upTo 0 1⟩, -- CtleMode
  ⟨0x2200, 4, 0x0A, 1, 1, .rw, true, 8, .upTo 0 15⟩, -- CtleFixed
  ⟨0x2200, 4, 0x0B, 1, 1, .ro, false, 0, .any⟩, -- CtleInUse
  ⟨0x2200, 4, 0x0C, 1, 1, .rw, true, 8, .upTo 1 255⟩, -- LaneFailThreshold
  ⟨0x2200, 4, 0x0D, 1, 2, .rw, true, 0x20, .upTo 8 256⟩, -- ReturnLaneGrace
  ⟨0x2200, 4, 0x0E, 1, 5, .ro, false, 0, .any⟩, -- LaneSkew
  ⟨0x2200, 4, 0x0F, 1, 4, .ro, false, 0, .any⟩, -- ArrayId
  ⟨0x2200, 4, 0x10, 1, 1, .rw, true, 1, .upTo 0 1⟩, -- LaneRetrainEnable
  ⟨0x3000, 1, 0x01, 1, 1, .wo, false, 0, .upTo 0 1⟩, -- ManifestCommit
  ⟨0x3000, 1, 0x02, 1, 1, .ro, false, 0, .any⟩, -- ManifestState
  ⟨0x3000, 1, 0x03, 1, 4, .ro, false, 0, .any⟩, -- ManifestSequence
  ⟨0x3000, 1, 0x04, 1, 1, .ro, false, 0, .any⟩, -- ManifestLastResult
  ⟨0x3000, 1, 0x05, 1, 1, .rw, true, 1, .upTo 0 1⟩, -- CompositionMode
  ⟨0x3000, 1, 0x06, 1, 1, .ro, false, 0, .any⟩, -- ActiveMode
  ⟨0x3000, 1, 0x07, 1, 4, .ro, false, 0, .any⟩, -- CommitEpoch
  ⟨0x3000, 1, 0x08, 1, 2, .ro, false, 0, .any⟩, -- CommitPosition
  ⟨0x3000, 1, 0x09, 1, 4, .ro, false, 0, .any⟩] -- ManifestRefusedCount

/-- Rows of the dictionary, 3000.0A to 3302.00. -/
def objectRows2 : List ObjectRow := [
  ⟨0x3000, 1, 0x0A, 1, 4, .ro, false, 0, .any⟩, -- TileSignatureMismatchCount
  ⟨0x3000, 1, 0x0B, 1, 4, .ro, false, 0, .any⟩, -- TileSignatureFallbackCount
  ⟨0x3010, 1, 0x01, 1, 4, .ro, false, 0, .any⟩, -- StagedFetchArea
  ⟨0x3010, 1, 0x02, 1, 4, .ro, false, 0, .any⟩, -- CommittedFetchArea
  ⟨0x3010, 1, 0x03, 1, 4, .ro, false, 0, .any⟩, -- FetchBudgetRefusals
  ⟨0x3010, 1, 0x04, 1, 4, .ro, false, 0, .any⟩, -- TileRefetchCount
  ⟨0x3010, 1, 0x05, 1, 4, .ro, false, 0, .any⟩, -- TileTransparentCount
  ⟨0x3010, 1, 0x06, 1, 4, .ro, false, 0, .any⟩, -- TileHeldCount
  ⟨0x3010, 1, 0x07, 1, 4, .ro, false, 0, .any⟩, -- TileLateCount
  ⟨0x3010, 1, 0x08, 1, 4, .ro, false, 0, .any⟩, -- AliasTileCount
  ⟨0x3010, 1, 0x09, 1, 4, .ro, false, 0, .any⟩, -- LastFailedTile
  ⟨0x3010, 1, 0x0A, 1, 4, .ro, false, 0, .any⟩, -- PinnedBytesUsed
  ⟨0x3010, 1, 0x0B, 4, 4, .ro, false, 0, .any⟩, -- StagedEngineArea
  ⟨0x3010, 1, 0x0F, 1, 2, .ro, false, 0, .any⟩, -- StagedWorkingSetMax
  ⟨0x3010, 1, 0x10, 4, 4, .ro, false, 0, .any⟩, -- StagedEngineCoverage
  ⟨0x3010, 1, 0x14, 1, 4, .ro, false, 0, .any⟩, -- StagedTileRowDecodeMax
  ⟨0x3100, 8, 0x01, 1, 1, .rw, false, 0xFF, .oneOr 0xFF 0 63⟩, -- LayerSurface
  ⟨0x3100, 8, 0x02, 1, 1, .rw, false, 0, .upTo 0 1⟩, -- PlacementMode
  ⟨0x3100, 8, 0x03, 1, 2, .rw, false, 0xF800, .any⟩, -- PlacePosH
  ⟨0x3100, 8, 0x04, 1, 2, .rw, false, 0x400, .any⟩, -- PlacePosV
  ⟨0x3100, 8, 0x05, 1, 2, .rw, false, 0x100, .upTo 64 2048⟩, -- PlaceScaleH
  ⟨0x3100, 8, 0x06, 1, 2, .rw, false, 0x100, .upTo 64 2048⟩, -- PlaceScaleV
  ⟨0x3100, 8, 0x07, 1, 36, .rw, false, 0x100000000000000000000000000000001000000000000000000000000000000010000, .any⟩, -- PlaceMatrix
  ⟨0x3100, 8, 0x08, 1, 2, .rw, false, 0x100, .upTo 0 1024⟩, -- LayerGain
  ⟨0x3100, 8, 0x09, 1, 1, .rw, false, 0, .upTo 0 1⟩, -- KeyEnable
  ⟨0x3100, 8, 0x0A, 1, 2, .rw, false, 0, .any⟩, -- KeyCode
  ⟨0x3100, 8, 0x0B, 1, 4, .ro, false, 0, .any⟩, -- LayerFetchArea
  ⟨0x3100, 8, 0x0C, 1, 1, .rw, false, 0, .upTo 0 3⟩, -- LayerBlend
  ⟨0x3100, 8, 0x0D, 1, 1, .rw, false, 0, .upTo 0 3⟩, -- LayerClass
  ⟨0x3100, 8, 0x0E, 1, 1, .rw, false, 0, .upTo 0 1⟩, -- LayerSource
  ⟨0x3200, 8, 0x01, 1, 2048, .rw, false, 0, .any⟩, -- ToneLut
  ⟨0x3300, 1, 0x01, 1, 1, .rw, true, 0, .upTo 0 1⟩, -- ShadeSource
  ⟨0x3300, 1, 0x02, 1, 2, .rw, true, 0x64, .upTo 10 1000⟩, -- ShadeStaleTime
  ⟨0x3300, 1, 0x03, 1, 1, .wo, false, 0, .upTo 0 1⟩, -- ShadeSwapRequest
  ⟨0x3300, 1, 0x04, 1, 1, .ro, false, 0, .any⟩, -- ShadeActiveBank
  ⟨0x3300, 1, 0x05, 1, 4, .ro, false, 0, .any⟩, -- ShadeSwapCount
  ⟨0x3300, 1, 0x06, 1, 4, .ro, false, 0, .any⟩, -- ShadeListSupersededCount
  ⟨0x3300, 1, 0x07, 1, 4, .ro, false, 0, .any⟩, -- ShadeListRejectedCount
  ⟨0x3300, 1, 0x08, 1, 4, .ro, false, 0, .any⟩, -- ShadeOverflowCount
  ⟨0x3300, 1, 0x09, 1, 1, .ro, false, 0, .any⟩, -- ShadeStale
  ⟨0x3300, 1, 0x0A, 1, 2, .ro, false, 0, .any⟩, -- ShadeAgeMs
  ⟨0x3300, 1, 0x0B, 1, 1, .ro, false, 0, .any⟩, -- ShadeStagedState
  ⟨0x3300, 1, 0x0D, 1, 1, .rw, true, 0, .upTo 0 1⟩, -- ShadeSwapTrigger
  ⟨0x3301, 1, 0x00, 64, 16, .rw, false, 0, .any⟩, -- ShadeObjectStaged
  ⟨0x3302, 1, 0x00, 64, 16, .ro, false, 0, .any⟩] -- ShadeObjectActive

/-- Rows of the dictionary, 3400.01 to 4300.07. -/
def objectRows3 : List ObjectRow := [
  ⟨0x3400, 64, 0x01, 1, 1, .rw, false, 0, .upTo 1 6⟩, -- SurfaceFormat
  ⟨0x3400, 64, 0x02, 1, 2, .rw, false, 0, .upTo 1 4096⟩, -- SurfaceWidth
  ⟨0x3400, 64, 0x03, 1, 2, .rw, false, 0, .upTo 1 4096⟩, -- SurfaceHeight
  ⟨0x3400, 64, 0x04, 1, 4, .rw, false, 0, .multiple 64⟩, -- TileTableAddress
  ⟨0x3400, 64, 0x05, 1, 1, .rw, false, 1, .upTo 1 3⟩, -- BufferCount
  ⟨0x3400, 64, 0x06, 1, 4, .rw, false, 0, .multiple 64⟩, -- BufferStride
  ⟨0x3400, 64, 0x07, 1, 1, .rw, false, 0, .any⟩, -- CurrentBuffer
  ⟨0x3400, 64, 0x08, 1, 1, .rw, false, 0, .any⟩, -- SurfaceTag
  ⟨0x3400, 64, 0x09, 1, 1, .ro, false, 0, .any⟩, -- SurfaceLocation
  ⟨0x3400, 64, 0x0A, 1, 1, .wo, false, 0, .upTo 0 1⟩, -- PinRequest
  ⟨0x3400, 64, 0x0B, 1, 1, .ro, false, 0, .any⟩, -- PinState
  ⟨0x3400, 64, 0x0C, 1, 32, .rw, false, 0xFFFFEEEEDDDDCCCCBBBBAAAA9999888877776666555544443333222211110000, .any⟩, -- Palette
  ⟨0x4000, 1, 0x01, 1, 1, .rw, true, 0, .upTo 0 1⟩, -- DitherMode
  ⟨0x4000, 1, 0x02, 1, 8192, .ro, false, 0, .any⟩, -- DitherMatrix
  ⟨0x4000, 1, 0x03, 1, 1, .rw, true, 1, .upTo 0 1⟩, -- DitherHoldInGuard
  ⟨0x4000, 1, 0x04, 1, 1, .rw, true, 0, .upTo 0 1⟩, -- SeedMode
  ⟨0x4000, 1, 0x05, 1, 1, .rw, true, 0, .any⟩, -- SeedFixed
  ⟨0x4000, 1, 0x06, 1, 2, .ro, false, 0, .any⟩, -- CalUpdatePending
  ⟨0x4000, 1, 0x07, 1, 4, .ro, false, 0, .any⟩, -- CalUpdateAppliedCount
  ⟨0x4000, 1, 0x08, 1, 1, .ro, false, 0, .any⟩, -- CurrentSeed
  ⟨0x4010, 4, 0x01, 1, 128, .rwc, true, 0, .any⟩, -- EfficacyCurve
  ⟨0x4010, 4, 0x02, 1, 2, .rwc, true, 0x7D0, .upTo 10 10000⟩, -- ArrayFullScaleCurrent
  ⟨0x4010, 4, 0x03, 1, 64, .ro, false, 0, .any⟩, -- OperatingSteps
  ⟨0x4010, 4, 0x04, 1, 1, .ro, false, 0x10, .any⟩, -- OperatingStepCount
  ⟨0x4010, 4, 0x05, 1, 2, .ro, true, 0x8000, .upTo 0x6666 0xA000⟩, -- FullScaleCorrection
  ⟨0x4010, 4, 0x06, 1, 2, .rw, true, 0, .any⟩, -- ImonScale
  ⟨0x4010, 4, 0x07, 1, 2, .ro, false, 0x8000, .any⟩, -- FullScaleEstimate
  ⟨0x4010, 4, 0x08, 1, 4, .ro, false, 0, .any⟩, -- PortLedEnergy
  ⟨0x4010, 4, 0x09, 1, 4, .ro, false, 0, .any⟩, -- PortLedPowerMw
  ⟨0x4100, 4, 0x01, 1, 1, .rw, true, 0, .upTo 0 1⟩, -- ZoneCodeMode
  ⟨0x4100, 4, 0x02, 1, 32, .ro, false, 0, .any⟩, -- ZoneCurrentCode
  ⟨0x4100, 4, 0x03, 1, 1, .rw, true, 0xFF, .any⟩, -- ZoneFixedCode
  ⟨0x4100, 4, 0x04, 1, 128, .ro, false, 0, .any⟩, -- ZonePeakDemand
  ⟨0x4100, 4, 0x05, 1, 4, .ro, false, 0, .any⟩, -- ZoneClipCount
  ⟨0x4100, 4, 0x06, 1, 128, .ro, false, 0, .any⟩, -- ZoneDutySum
  ⟨0x4200, 4, 0x01, 1, 2, .rw, true, 0, .oneOr 0 1 10000⟩, -- AgeSlope
  ⟨0x4200, 4, 0x02, 1, 2, .rw, true, 0xF830, .ints (-10000) 0⟩, -- VfTempCoeff
  ⟨0x4200, 4, 0x03, 1, 1, .rw, true, 0x78, .upTo 4 255⟩, -- AgeLossWeak
  ⟨0x4200, 4, 0x04, 1, 4, .ro, false, 0, .any⟩, -- AgeUpdatedPixels
  ⟨0x4300, 4, 0x01, 1, 2, .rw, true, 0x96, .upTo 50 1000⟩, -- HeadroomTarget
  ⟨0x4300, 4, 0x02, 1, 2, .rw, true, 0x3C, .upTo 20 1000⟩, -- HeadroomMin
  ⟨0x4300, 4, 0x03, 1, 2, .ro, false, 0, .any⟩, -- VsetCode
  ⟨0x4300, 4, 0x04, 1, 2, .rw, true, 0, .upTo 0 1023⟩, -- VsetMin
  ⟨0x4300, 4, 0x05, 1, 2, .rw, true, 0x3FF, .upTo 0 1023⟩, -- VsetMax
  ⟨0x4300, 4, 0x07, 1, 2, .rw, true, 0xFA0, .upTo 100 60000⟩] -- SupplyPerLsb

/-- Rows of the dictionary, 4300.08 to 6010.08. -/
def objectRows4 : List ObjectRow := [
  ⟨0x4300, 4, 0x08, 1, 2, .ro, false, 0, .any⟩, -- ReportedHeadroom
  ⟨0x4300, 4, 0x09, 1, 4, .ro, false, 0, .any⟩, -- HeadroomLowCount
  ⟨0x4400, 1, 0x01, 4, 4, .rw, false, 0, .any⟩, -- ExposureWindow
  ⟨0x4400, 1, 0x05, 1, 1, .rw, true, 0, .any⟩, -- GuardSeed
  ⟨0x4400, 1, 0x06, 1, 2, .ro, false, 0, .any⟩, -- GuardedSubPeriods
  ⟨0x5000, 1, 0x01, 1, 1, .rw, true, 0, .upTo 0 1⟩, -- AuxOnSafeState
  ⟨0x5000, 1, 0x02, 1, 2, .rw, true, 0x190, .upTo 300 2000⟩, -- AuxHeadroomTarget
  ⟨0x5000, 1, 0x03, 1, 1, .rw, true, 0x40, .upTo 16 255⟩, -- AuxProbeInterval
  ⟨0x5000, 1, 0x04, 1, 2, .rw, true, 0xFA0, .upTo 1000 20000⟩, -- AuxShortLevel
  ⟨0x5000, 1, 0x05, 1, 2, .rw, true, 0xC8, .upTo 100 1000⟩, -- AuxOpenLevel
  ⟨0x5000, 1, 0x06, 1, 2, .rw, true, 0x3E8, .upTo 200 5000⟩, -- AuxNeighbourLevel
  ⟨0x5000, 1, 0x07, 1, 8, .ro, false, 0, .any⟩, -- AuxUntestedMask
  ⟨0x5000, 1, 0x08, 1, 8, .ro, false, 0, .any⟩, -- AuxFaultMask
  ⟨0x5000, 1, 0x09, 1, 1, .ro, false, 0, .any⟩, -- AuxSettingsSource
  ⟨0x5010, 4, 0x01, 1, 1, .rw, true, 0, .upTo 0 63⟩, -- GroupReference
  ⟨0x5010, 4, 0x02, 1, 1, .rw, true, 1, .upTo 1 16⟩, -- GroupPwmDivider
  ⟨0x5010, 4, 0x03, 1, 1, .ro, false, 0, .any⟩, -- HrctlCode
  ⟨0x5010, 4, 0x04, 1, 2, .ro, false, 0, .any⟩, -- GroupHeadroomMin
  ⟨0x5010, 4, 0x05, 1, 1, .ro, false, 0, .any⟩, -- GroupThermalState
  ⟨0x5010, 4, 0x06, 1, 4, .ro, false, 0, .any⟩, -- GroupShutdownCount
  ⟨0x5010, 4, 0x07, 1, 1, .rw, true, 0xFF, .upTo 0 255⟩, -- HrctlMax
  ⟨0x5010, 4, 0x08, 1, 4, .ro, false, 0, .any⟩, -- GroupHeadroomLowCount
  ⟨0x5100, 48, 0x01, 1, 1, .rw, false, 0, .upTo 0 1⟩, -- ChannelEnable
  ⟨0x5100, 48, 0x02, 1, 1, .rw, true, 0, .upTo 0 255⟩, -- ChannelCurrentCode
  ⟨0x5100, 48, 0x03, 1, 2, .rw, false, 0, .upTo 0 4095⟩, -- ChannelDuty
  ⟨0x5100, 48, 0x04, 1, 1, .rw, true, 0, .upTo 0 1⟩, -- ChannelFaultAction
  ⟨0x5100, 48, 0x05, 1, 1, .ro, false, 0, .any⟩, -- ChannelStatus
  ⟨0x5100, 48, 0x06, 1, 2, .ro, false, 0, .any⟩, -- ChannelPinVoltage
  ⟨0x5100, 48, 0x07, 1, 4, .ro, false, 0, .any⟩, -- ChannelProbeSkipCount
  ⟨0x5100, 48, 0x08, 1, 1, .wo, false, 0, .upTo 0 1⟩, -- ChannelRetryClear
  ⟨0x5100, 48, 0x09, 1, 2, .ro, false, 0, .any⟩, -- ChannelDacTrim
  ⟨0x6000, 1, 0x01, 1, 4, .rw, true, 0, .oneOr 0 1000 2000000⟩, -- SupplyPowerLimit
  ⟨0x6000, 1, 0x02, 1, 4, .ro, false, 0, .any⟩, -- TollTotal
  ⟨0x6000, 1, 0x03, 1, 1, .ro, false, 0, .any⟩, -- TollState
  ⟨0x6000, 1, 0x04, 1, 8, .ro, false, 0, .any⟩, -- ClassScale
  ⟨0x6000, 1, 0x05, 1, 1, .rw, true, 8, .upTo 2 30⟩, -- ModelDivergenceLimit
  ⟨0x6000, 1, 0x06, 1, 4, .ro, false, 0, .any⟩, -- TollScaledFrameCount
  ⟨0x6010, 4, 0x01, 1, 2, .rw, true, 0xFA, .upTo 1 10000⟩, -- ThermalResJS
  ⟨0x6010, 4, 0x02, 1, 4, .rw, true, 0x32, .upTo 1 1000000⟩, -- ThermalCapJ
  ⟨0x6010, 4, 0x03, 1, 2, .rw, true, 0x190, .upTo 1 10000⟩, -- ThermalResSH
  ⟨0x6010, 4, 0x04, 1, 4, .rw, true, 0x7D0, .upTo 1 1000000⟩, -- ThermalCapS
  ⟨0x6010, 4, 0x05, 1, 2, .rw, true, 0x96, .upTo 1 10000⟩, -- ThermalResHA
  ⟨0x6010, 4, 0x06, 1, 4, .rw, true, 0x249F0, .upTo 1 10000000⟩, -- ThermalCapH
  ⟨0x6010, 4, 0x07, 1, 4, .rw, true, 0x61A8, .upTo 100 500000⟩, -- PortTollLimit
  ⟨0x6010, 4, 0x08, 1, 4, .ro, false, 0, .any⟩] -- PortToll

/-- Rows of the dictionary, 6010.09 to 7200.05. -/
def objectRows5 : List ObjectRow := [
  ⟨0x6010, 4, 0x09, 1, 64, .ro, false, 0, .any⟩, -- JunctionEstimate
  ⟨0x6010, 4, 0x0A, 1, 2, .rw, true, 0x69, .ints 40 150⟩, -- ArrayWarnSet
  ⟨0x6010, 4, 0x0B, 1, 2, .rw, true, 0x64, .ints 40 150⟩, -- ArrayWarnClear
  ⟨0x6010, 4, 0x0C, 1, 2, .rw, true, 0x78, .ints 40 150⟩, -- ArrayThrottleSet
  ⟨0x6010, 4, 0x0D, 1, 2, .rw, true, 0x73, .ints 40 150⟩, -- ArrayThrottleClear
  ⟨0x6010, 4, 0x0E, 1, 2, .rw, true, 0x87, .ints 40 150⟩, -- ArrayShutdown
  ⟨0x6010, 4, 0x0F, 1, 2, .rw, true, 0x6E, .ints 40 150⟩, -- ArrayRestart
  ⟨0x6100, 1, 0x01, 1, 16, .ro, false, 0, .any⟩, -- LdTemperature
  ⟨0x6100, 1, 0x02, 1, 8, .ro, false, 0, .any⟩, -- AdTemperature
  ⟨0x6100, 1, 0x03, 1, 2, .ro, false, 0, .any⟩, -- SensorDisqualified
  ⟨0x6100, 1, 0x04, 1, 1, .ro, false, 0, .any⟩, -- ThresholdShift
  ⟨0x6100, 1, 0x05, 1, 6, .ro, false, 0, .any⟩, -- ThermalState
  ⟨0x6100, 1, 0x06, 1, 4, .ro, false, 0, .any⟩, -- ThermalShutdownCount
  ⟨0x7000, 1, 0x01, 1, 4, .ro, false, 0, .any⟩, -- CommissioningCheckComputed
  ⟨0x7000, 1, 0x02, 1, 4, .rwc, true, 0, .any⟩, -- CommissioningCheckConfirmed
  ⟨0x7000, 1, 0x03, 1, 1, .ro, false, 0, .any⟩, -- CommissioningState
  ⟨0x7000, 1, 0x04, 1, 1, .ro, false, 0, .any⟩, -- SafetyFunctionState
  ⟨0x7000, 1, 0x05, 1, 1, .ro, false, 0, .any⟩, -- BeamRequestState
  ⟨0x7000, 1, 0x06, 1, 1, .ro, false, 0, .any⟩, -- SafeStateInForce
  ⟨0x7000, 1, 0x07, 1, 1, .ro, false, 0, .any⟩, -- SafeStateKind
  ⟨0x7000, 1, 0x08, 1, 1, .ro, false, 0, .any⟩, -- ActiveFaultCount
  ⟨0x7000, 1, 0x09, 1, 1, .ro, false, 1, .any⟩, -- CeilingSource
  ⟨0x7000, 1, 0x0A, 1, 1, .ro, false, 0, .any⟩, -- SafeOutState
  ⟨0x7000, 1, 0x0B, 1, 1, .ro, false, 0, .any⟩, -- BeamRequestAgreed
  ⟨0x7100, 1, 0x01, 1, 2, .rwc, true, 0x32, .upTo 10 500⟩, -- DiscrepancyTime
  ⟨0x7100, 1, 0x02, 1, 1, .rwc, true, 0, .upTo 0 1⟩, -- DiscrepancySafeSide
  ⟨0x7100, 1, 0x03, 1, 2, .rwc, true, 0x64, .upTo 10 1000⟩, -- EscalationShadeStale
  ⟨0x7100, 1, 0x04, 1, 2, .rwc, true, 0x64, .upTo 10 1000⟩, -- EscalationTollModel
  ⟨0x7100, 1, 0x05, 1, 2, .rwc, true, 0x64, .upTo 10 1000⟩, -- EscalationCalibration
  ⟨0x7100, 1, 0x06, 1, 2, .rwc, true, 0x64, .upTo 10 1000⟩, -- EscalationDramErrorRate
  ⟨0x7100, 1, 0x07, 1, 2, .rwc, true, 0x64, .upTo 10 1000⟩, -- EscalationHostLink
  ⟨0x7100, 1, 0x08, 1, 2, .rwc, true, 0x1388, .upTo 1000 60000⟩, -- QuietPeriod
  ⟨0x7100, 1, 0x09, 1, 1, .rwc, true, 0, .upTo 0 1⟩, -- BeamOffBehaviour
  ⟨0x7100, 1, 0x0A, 1, 2, .rwc, true, 0x2000, .upTo 0 32768⟩, -- DimmedFloorLevel
  ⟨0x7100, 1, 0x0B, 1, 2048, .rwc, true, 0, .any⟩, -- FloorMinMap
  ⟨0x7101, 1, 0x01, 1, 510, .rwc, true, 0, .any⟩, -- CeilingLut
  ⟨0x7101, 1, 0x02, 1, 1, .ro, false, 0, .any⟩, -- CeilingMapState
  ⟨0x7101, 1, 0x03, 1, 4, .ro, false, 0, .any⟩, -- CeilingMapErrorCount
  ⟨0x7110, 4, 0x00, 32, 64, .rwc, true, 0xFFFFFFFFFFFFFFFFFFFFFFFFFFFFFFFFFFFFFFFFFFFFFFFFFFFFFFFFFFFFFFFFFFFFFFFFFFFFFFFFFFFFFFFFFFFFFFFFFFFFFFFFFFFFFFFFFFFFFFFFFFFFFFFF, .any⟩, -- CeilingMapRow
  ⟨0x7120, 1, 0x01, 74, 1, .rwc, true, 0, .upTo 0 2⟩, -- SafeStateChoice
  ⟨0x7200, 1, 0x01, 1, 4, .ro, false, 0, .any⟩, -- FloorCeilingConflictCount
  ⟨0x7200, 1, 0x02, 1, 4, .ro, false, 0, .any⟩, -- DiscrepancyCount
  ⟨0x7200, 1, 0x03, 1, 4, .ro, false, 0, .any⟩, -- SafeOutTestCount
  ⟨0x7200, 1, 0x04, 1, 4, .ro, false, 0, .any⟩, -- SafeOutTestAbandonedCount
  ⟨0x7200, 1, 0x05, 1, 2, .ro, false, 0, .any⟩] -- WaybillSequence

/-- Rows of the dictionary, 7200.06 to 8100.08. -/
def objectRows6 : List ObjectRow := [
  ⟨0x7200, 1, 0x06, 1, 4, .ro, false, 0, .any⟩, -- WaybillSentCount
  ⟨0x7200, 1, 0x07, 1, 4, .ro, false, 0, .any⟩, -- WaybillDroppedCount
  ⟨0x7200, 1, 0x08, 1, 4, .ro, false, 0, .any⟩, -- EscalationCount
  ⟨0x7200, 1, 0x09, 1, 4, .ro, false, 0, .any⟩, -- BlackBoxCommitCount
  ⟨0x7200, 1, 0x0A, 1, 2, .ro, false, 0, .any⟩, -- BootCount
  ⟨0x7200, 1, 0x0B, 1, 4, .ro, false, 0, .any⟩, -- FloorShortfallCount
  ⟨0x7200, 1, 0x0C, 1, 4, .ro, false, 0, .any⟩, -- BlackBoxCommitSkippedCount
  ⟨0x7300, 1, 0x00, 256, 4, .ro, false, 0, .any⟩, -- BlockStatus
  ⟨0x7301, 1, 0x00, 256, 4, .wo, false, 0, .any⟩, -- BlockAck
  ⟨0x7400, 2, 0x00, 256, 32, .ro, false, 0, .any⟩, -- BlackBoxEntry
  ⟨0x7402, 1, 0x01, 1, 2, .ro, false, 0xFFFF, .any⟩, -- BlackBoxNewest
  ⟨0x7402, 1, 0x02, 1, 1, .ro, false, 0, .any⟩, -- BlackBoxCommitValid
  ⟨0x7402, 1, 0x03, 1, 2, .ro, false, 0xFFFF, .any⟩, -- BlackBoxCommitNewest
  ⟨0x7402, 1, 0x04, 1, 4, .ro, false, 0, .any⟩, -- BlackBoxCommitCause
  ⟨0x7402, 1, 0x05, 1, 4, .ro, false, 0, .any⟩, -- BlackBoxAreaEraseCount
  ⟨0x7403, 2, 0x00, 256, 32, .ro, false, 0, .any⟩, -- BlackBoxCommitted
  ⟨0x7500, 1, 0x01, 74, 2, .ro, false, 0, .any⟩, -- RecoveryCount
  ⟨0x7501, 1, 0x01, 74, 1, .ro, false, 0, .any⟩, -- FaultLatched
  ⟨0x7502, 1, 0x01, 1, 1, .wo, false, 0, .any⟩, -- FaultLatchClear
  ⟨0x8000, 1, 0x01, 1, 1, .rw, false, 0, .any⟩, -- HostVote
  ⟨0x8000, 1, 0x02, 1, 8, .ro, false, 0, .any⟩, -- DomainVotes
  ⟨0x8000, 1, 0x03, 1, 1, .ro, false, 0, .any⟩, -- DomainPowered
  ⟨0x8000, 1, 0x04, 1, 1, .ro, false, 0, .any⟩, -- SleepStatus
  ⟨0x8000, 1, 0x05, 1, 2, .ro, false, 0, .any⟩, -- ResetCause
  ⟨0x8000, 1, 0x06, 1, 1, .ro, false, 0, .any⟩, -- WakeCause
  ⟨0x8000, 1, 0x07, 1, 1, .rw, true, 1, .upTo 0 1⟩, -- WakePinEnable
  ⟨0x8000, 1, 0x08, 1, 4, .ro, false, 0, .any⟩, -- StopEntryCount
  ⟨0x8000, 1, 0x10, 1, 1, .rw, true, 0, .upTo 0 1⟩, -- CaravanEnable
  ⟨0x8000, 1, 0x11, 1, 1, .rw, true, 0, .upTo 0 1⟩, -- CaravanCanRelay
  ⟨0x8000, 1, 0x12, 1, 1, .ro, false, 0, .any⟩, -- CaravanState
  ⟨0x8000, 1, 0x13, 1, 1, .ro, false, 0xFF, .any⟩, -- CaravanPosition
  ⟨0x8000, 1, 0x14, 1, 1, .ro, false, 0, .any⟩, -- CaravanSize
  ⟨0x8000, 1, 0x15, 1, 2, .ro, false, 0, .any⟩, -- CaravanLoopDelay
  ⟨0x8000, 1, 0x16, 1, 8, .ro, false, 0, .any⟩, -- CaravanNodeMap
  ⟨0x8000, 1, 0x17, 1, 4, .ro, false, 0, .any⟩, -- CaravanFrameErrorCount
  ⟨0x8000, 1, 0x18, 1, 4, .ro, false, 0, .any⟩, -- CaravanMessageDropCount
  ⟨0x8000, 1, 0x19, 1, 1, .ro, false, 0, .any⟩, -- CaravanTokenSequence
  ⟨0x8100, 1, 0x01, 1, 1, .rw, true, 4, .upTo 0 4⟩, -- FrameRate
  ⟨0x8100, 1, 0x02, 1, 1, .rw, true, 0, .upTo 0 3⟩, -- ReferencePrimary
  ⟨0x8100, 1, 0x03, 1, 1, .rw, true, 0, .upTo 0 3⟩, -- ReferenceFallback
  ⟨0x8100, 1, 0x04, 1, 1, .rw, true, 0, .upTo 0 2⟩, -- SyncInEdge
  ⟨0x8100, 1, 0x05, 1, 1, .rw, true, 1, .upTo 1 255⟩, -- RefFramesPerGroup
  ⟨0x8100, 1, 0x06, 1, 1, .rw, true, 1, .upTo 1 255⟩, -- RefEventsPerGroup
  ⟨0x8100, 1, 0x07, 1, 2, .rw, true, 0, .upTo 0 4095⟩, -- ReferencePhase
  ⟨0x8100, 1, 0x08, 1, 1, .rw, true, 1, .upTo 0 2⟩] -- LoopBandwidth

/-- Rows of the dictionary, 8100.09 to 9040.0A. -/
def objectRows7 : List ObjectRow := [
  ⟨0x8100, 1, 0x09, 1, 2, .rw, true, 0x4E20, .upTo 100 20000⟩, -- FrequencyClamp
  ⟨0x8100, 1, 0x0A, 1, 1, .ro, false, 0, .any⟩, -- LockState
  ⟨0x8100, 1, 0x0B, 1, 1, .ro, false, 0, .any⟩, -- ActiveReference
  ⟨0x8100, 1, 0x0C, 1, 4, .ro, false, 0, .any⟩, -- PhaseError
  ⟨0x8100, 1, 0x0D, 1, 2, .ro, false, 0, .any⟩, -- FrequencyOffset
  ⟨0x8100, 1, 0x0E, 1, 2, .ro, false, 0, .any⟩, -- ScanPosition
  ⟨0x8100, 1, 0x0F, 1, 4, .ro, false, 0, .any⟩, -- Epoch
  ⟨0x8100, 1, 0x10, 1, 8, .ro, false, 0, .any⟩, -- DeviceTime
  ⟨0x8100, 1, 0x11, 1, 4, .ro, false, 0, .any⟩, -- RefRejectCount
  ⟨0x8100, 1, 0x12, 1, 8, .ro, false, 0, .any⟩, -- HostTimeAtSync
  ⟨0x8100, 1, 0x13, 1, 8, .ro, false, 0, .any⟩, -- DtAtSync
  ⟨0x8200, 1, 0x01, 1, 8, .ro, false, 0, .any⟩, -- LeapTicksLastStop
  ⟨0x8200, 1, 0x02, 1, 4, .ro, false, 0, .any⟩, -- RcErrorPpm
  ⟨0x8200, 1, 0x03, 1, 2, .ro, false, 0, .any⟩, -- LeapUncertaintyPpm
  ⟨0x8200, 1, 0x04, 1, 4, .ro, false, 0, .any⟩, -- LeapUncertaintyUs
  ⟨0x8200, 1, 0x05, 1, 2, .rw, true, 0x5DC, .upTo 1 30000⟩, -- RcDriftBound
  ⟨0x8200, 1, 0x06, 1, 2, .rw, true, 0x32, .upTo 1 1000⟩, -- RefClkTolerance
  ⟨0x8200, 1, 0x07, 1, 1, .ro, false, 0, .any⟩, -- LeapWrapped
  ⟨0x8200, 1, 0x08, 1, 4, .ro, false, 0, .any⟩, -- RcMeasureCount
  ⟨0x9000, 1, 0x01, 1, 1, .ro, false, 0, .any⟩, -- LifeCycleState
  ⟨0x9000, 1, 0x02, 1, 256, .wo, false, 0, .any⟩, -- LifeCycleToken
  ⟨0x9000, 1, 0x03, 1, 1, .ro, false, 0, .any⟩, -- LifeCycleResult
  ⟨0x9000, 1, 0x04, 1, 1, .ro, false, 0, .any⟩, -- ConsentHeld
  ⟨0x9010, 1, 0x01, 1, 1, .ro, false, 0, .any⟩, -- ActiveSlots
  ⟨0x9010, 1, 0x02, 1, 32, .ro, false, 0, .any⟩, -- SlotContent
  ⟨0x9010, 1, 0x03, 1, 4, .ro, false, 0, .any⟩, -- LastImageRejection
  ⟨0x9010, 1, 0x04, 1, 1, .ro, false, 0, .any⟩, -- UpdateSession
  ⟨0x9010, 1, 0x05, 1, 1, .ro, false, 0, .any⟩, -- ActivationState
  ⟨0x9010, 1, 0x06, 1, 1, .ro, false, 0xFF, .any⟩, -- SmPendingSlot
  ⟨0x9020, 1, 0x01, 1, 4, .ro, false, 0, .any⟩, -- JournalSequence
  ⟨0x9020, 1, 0x02, 1, 1, .ro, false, 0, .any⟩, -- JournalActiveBank
  ⟨0x9020, 1, 0x03, 1, 1, .ro, false, 0, .any⟩, -- JournalFill
  ⟨0x9020, 1, 0x04, 1, 4, .ro, false, 0, .any⟩, -- CompactionCount
  ⟨0x9020, 1, 0x05, 1, 4, .ro, false, 0, .any⟩, -- TornRecordCount
  ⟨0x9020, 1, 0x06, 1, 1, .ro, false, 0, .any⟩, -- JournalWritesPending
  ⟨0x9020, 1, 0x07, 1, 4, .ro, false, 0, .any⟩, -- RestoreDefaultCount
  ⟨0x9020, 1, 0x08, 1, 4, .ro, false, 0x38, .any⟩, -- JournalLiveBytes
  ⟨0x9020, 1, 0x09, 1, 4, .ro, false, 0x10000, .any⟩, -- JournalBudget
  ⟨0x9030, 1, 0x01, 1, 128, .rwm, false, 0, .any⟩, -- OptionBlockImage
  ⟨0x9030, 1, 0x02, 1, 1, .ro, false, 0, .any⟩, -- OptionCopyUsed
  ⟨0x9030, 1, 0x03, 1, 1, .ro, false, 0xFF, .any⟩, -- StrapCode
  ⟨0x9040, 1, 0x00, 8, 8192, .rwc, false, 0, .any⟩, -- SafeBeamAreaBlock
  ⟨0x9040, 1, 0x08, 1, 4, .wo, false, 0, .any⟩, -- SafeBeamAreaCommit
  ⟨0x9040, 1, 0x09, 1, 1, .ro, false, 0, .any⟩, -- SafeBeamAreaState
  ⟨0x9040, 1, 0x0A, 1, 1, .ro, false, 0, .any⟩] -- SafeBeamAreaResult

/-- Rows of the dictionary, A000.01 to B100.1A. -/
def objectRows8 : List ObjectRow := [
  ⟨0xA000, 1, 0x01, 1, 1, .rw, true, 1, .upTo 0 1⟩, -- AlmanacEnable
  ⟨0xA000, 1, 0x02, 1, 4, .ro, false, 0, .any⟩, -- AlmanacLateCount
  ⟨0xA000, 1, 0x03, 1, 2, .ro, false, 0, .any⟩, -- AlmanacMaxLateness
  ⟨0xA000, 1, 0x04, 1, 4, .ro, false, 0, .any⟩, -- AlmanacTollSkipCount
  ⟨0xA000, 1, 0x05, 1, 4, .ro, false, 0, .any⟩, -- AlmanacMaskCount
  ⟨0xA000, 1, 0x06, 1, 1, .wo, false, 0, .upTo 0 1⟩, -- AlmanacMaskRestart
  ⟨0xA000, 1, 0x07, 1, 4, .ro, false, 0, .any⟩, -- HostIrqCause
  ⟨0xA000, 1, 0x08, 1, 1, .ro, false, 0, .any⟩, -- AlmanacReady
  ⟨0xA000, 1, 0x09, 1, 4, .ro, false, 0, .any⟩, -- AlmanacSampleResult
  ⟨0xA000, 1, 0x0A, 1, 64, .ro, false, 0, .any⟩, -- AlmanacSampleRing
  ⟨0xA000, 1, 0x0B, 1, 1, .ro, false, 0xFF, .any⟩, -- AlmanacSampleNewest
  ⟨0xA000, 1, 0x0C, 1, 4, .ro, false, 0, .any⟩, -- AlmanacSampleDropCount
  ⟨0xA100, 3, 0x00, 256, 12, .rw, true, 0, .any⟩, -- AlmanacEntry
  ⟨0xA103, 1, 0x00, 128, 12, .rw, true, 0, .any⟩, -- AlmanacEntry
  ⟨0xA103, 1, 0x80, 128, 12, .ro, false, 0, .any⟩, -- AlmanacEntry (firmware)
  ⟨0xB000, 1, 0x01, 1, 4, .ro, false, 0, .any⟩, -- SramCorrectedCount
  ⟨0xB000, 1, 0x02, 1, 4, .ro, false, 0, .any⟩, -- DramCorrectedCount
  ⟨0xB000, 1, 0x03, 1, 2, .rw, true, 0x64, .upTo 1 10000⟩, -- DramErrorRateLimit
  ⟨0xB000, 1, 0x04, 1, 2, .ro, false, 0, .any⟩, -- DramErrorRate
  ⟨0xB000, 1, 0x05, 1, 4, .ro, false, 0, .any⟩, -- DdbRetryCount
  ⟨0xB000, 1, 0x10, 1, 4, .ro, false, 0, .any⟩, -- SmTilesChecked
  ⟨0xB000, 1, 0x11, 1, 4, .ro, false, 0, .any⟩, -- SmTileDisagreeCount
  ⟨0xB000, 1, 0x12, 1, 4, .ro, false, 0, .any⟩, -- SmCeilingViolationCount
  ⟨0xB100, 4, 0x01, 1, 20, .ro, false, 0, .any⟩, -- LaneErrorCount
  ⟨0xB100, 4, 0x02, 1, 4, .ro, false, 0, .any⟩, -- ReturnErrorCount
  ⟨0xB100, 4, 0x03, 1, 4, .ro, false, 0, .any⟩, -- RowsNotLatchedCount
  ⟨0xB100, 4, 0x04, 1, 4, .ro, false, 0, .any⟩, -- TrimResendCount
  ⟨0xB100, 4, 0x05, 1, 4, .ro, false, 0, .any⟩, -- LaneRemapCount
  ⟨0xB100, 4, 0x06, 1, 4, .ro, false, 0, .any⟩, -- HalfRateFrameCount
  ⟨0xB100, 4, 0x07, 1, 4, .ro, false, 0, .any⟩, -- HoldCount
  ⟨0xB100, 4, 0x08, 1, 4, .ro, false, 0, .any⟩, -- PortLostCount
  ⟨0xB100, 4, 0x09, 1, 4, .ro, false, 0, .any⟩, -- BringUpAttemptCount
  ⟨0xB100, 4, 0x0A, 1, 2, .ro, false, 0, .any⟩, -- OutboundSequence
  ⟨0xB100, 4, 0x0B, 1, 4, .ro, false, 0, .any⟩, -- ReturnSequenceGapCount
  ⟨0xB100, 4, 0x10, 1, 2, .rw, true, 0x5DC, .upTo 500 8188⟩, -- CompVfLow
  ⟨0xB100, 4, 0x11, 1, 2, .rw, true, 0xE74, .upTo 502 8190⟩, -- CompVfHigh
  ⟨0xB100, 4, 0x12, 1, 2, .rw, true, 0x708, .upTo 200 8190⟩, -- ConductLevel
  ⟨0xB100, 4, 0x13, 1, 2, .rw, true, 0x40, .upTo 1 1024⟩, -- FlagStormLimit
  ⟨0xB100, 4, 0x14, 1, 1, .rw, true, 1, .upTo 0 1⟩, -- ConcealEnable
  ⟨0xB100, 4, 0x15, 1, 1, .rw, true, 0x10, .upTo 0 16⟩, -- ConcealBoost
  ⟨0xB100, 4, 0x16, 1, 1, .ro, false, 0, .any⟩, -- SweepPhase
  ⟨0xB100, 4, 0x17, 1, 2, .ro, false, 0, .any⟩, -- CandidateCount
  ⟨0xB100, 4, 0x18, 1, 4, .ro, false, 0, .any⟩, -- CandidateDroppedCount
  ⟨0xB100, 4, 0x19, 1, 4, .ro, false, 0, .any⟩, -- FalseAlarmCount
  ⟨0xB100, 4, 0x1A, 1, 4, .ro, false, 0, .any⟩] -- FlagStormCount

/-- Rows of the dictionary, B100.1B to B100.25. -/
def objectRows9 : List ObjectRow := [
  ⟨0xB100, 4, 0x1B, 1, 4, .ro, false, 0, .any⟩, -- EchoMismatchCount
  ⟨0xB100, 4, 0x1C, 1, 4, .ro, false, 0, .any⟩, -- BandStatusMissedCount
  ⟨0xB100, 4, 0x1D, 1, 4, .ro, false, 0, .any⟩, -- SweepDisplacedCount
  ⟨0xB100, 4, 0x1E, 1, 1, .ro, false, 0, .any⟩, -- EmitterDisabled
  ⟨0xB100, 4, 0x1F, 1, 4, .ro, false, 0xFFFFFFFF, .any⟩, -- StuckLitPixel
  ⟨0xB100, 4, 0x20, 1, 2, .rw, false, 0, .upTo 0 511⟩, -- StatusMapRowSelect
  ⟨0xB100, 4, 0x21, 1, 512, .ro, false, 0, .any⟩, -- StatusMapRow
  ⟨0xB100, 4, 0x22, 1, 32, .ro, false, 0, .any⟩, -- StatusCount
  ⟨0xB100, 4, 0x23, 1, 4, .ro, false, 0xFFFFFFFF, .any⟩, -- LastFailedPixel
  ⟨0xB100, 4, 0x24, 1, 1, .rwc, false, 0, .upTo 0 1⟩, -- EmitterDisableClear
  ⟨0xB100, 4, 0x25, 1, 4, .ro, false, 0, .any⟩] -- ProbeRaiseCount

/-- The dictionary in ascending order of its indices. -/
def objectTable : List ObjectRow :=
  objectRows0 ++ objectRows1 ++ objectRows2 ++ objectRows3 ++ objectRows4
    ++ objectRows5 ++ objectRows6 ++ objectRows7 ++ objectRows8 ++ objectRows9

/-- The row covers the address (R263). -/
def rowCovers (r : ObjectRow) (index sub : Nat) : Bool :=
  decide (r.index ≤ index) && decide (index < r.index + r.units)
    && decide (r.sub ≤ sub) && decide (sub < r.sub + r.subs)

/-- The row of an address, none where no object stands (R263). -/
def findObject (index sub : Nat) : Option ObjectRow :=
  objectTable.find? fun r => rowCovers r index sub

/-- The key of an object in the tables of the state. -/
def objKey (index sub : Nat) : Nat := index * 256 + sub

/-- The value lies in the range (R266). -/
def inRange (r : Range) (size v : Nat) : Bool :=
  match r with
  | .any => true
  | .upTo lo hi => decide (lo ≤ v) && decide (v ≤ hi)
  | .ints lo hi => decide (lo ≤ toSigned (8 * size) v) && decide (toSigned (8 * size) v ≤ hi)
  | .oneOr x lo hi => decide (v = x) || (decide (lo ≤ v) && decide (v ≤ hi))
  | .multiple m => decide (v % m = 0)

end Sys2Proof.Machine
end

