-- ==== Sys2Proof/Machine/Values.lean ====
section
/-!
DEFINITION. Values.lean: defaults of dictionary objects and the values that the configuration objects hold
(R275 to R277).
-/

namespace Sys2Proof.Machine

open Sys2Proof

/-- Start point in c16 of entry `i` of a tone curve (R110). -/
def toneStart (i : Nat) : Nat :=
  if i < 512 then 8 * i
  else if i < 640 then 4096 + 32 * (i - 512)
  else if i < 768 then 8192 + 64 * (i - 640)
  else if i < 896 then 16384 + 128 * (i - 768)
  else 32768 + 256 * (i - 896)

/-- The identity tone curve (R110). -/
def identityTone : Nat := packLe 16 ((List.range 1024).map toneStart)

/-- The identity mesh: node (i, j) holds (32i, 32j) pixels, in 1/256 pixel (R101). -/
def identityMesh : Nat :=
  packLe 32 ((List.range 17).flatMap fun j => (List.range 33).flatMap fun i => [8192 * i, 8192 * j])

/-- The default efficacy curve: codes 16, 32, … 240 and 255, each 100.0 lm/W and 3,000 mV (R155). -/
def defaultCurve : Nat :=
  packLe 64 ((List.range 16).map fun k =>
    (if k < 15 then 16 * (k + 1) else 255) + 1000 * 2 ^ 16 + 3000 * 2 ^ 32)

/-- The default Almanac entry: TollLimit 0b11, all else 0 (R57). -/
def defaultEntry : Nat := 3 * 2 ^ 92

/-- Default roles of layer `n`: source, blend, class (R115). -/
def layerRole (n : Nat) : Nat × Nat × Nat :=
  match n with
  | 0 => (0, 0, 2)
  | 1 => (0, 1, 3)
  | 2 => (0, 0, 3)
  | 6 => (1, 3, 0)
  | 7 => (0, 2, 0)
  | _ => (0, 2, 1)

/-- Group of a sink channel: 12 channels a group (R397). -/
def groupOf (c : Nat) : Nat := c / 12

/-- The option settings of a sink group: reference, current code, duty, divider (R424). -/
def optionGroup (s : State) (g : Nat) : Nat × Nat × Nat × Nat :=
  nth (0, 0, 0, 1) s.power.options.auxGroups g

/-- Defaults that depend on the variant, the options or the unit; none where the table's default stands. -/
def specialDefault (s : State) (index sub : Nat) : Option Nat :=
  if index = 0x2000 ∧ sub = 1 then some (if s.variant = .sl1ma then 2 else 0)
  else if index = 0x8100 ∧ sub = 1 then some (if s.variant = .sl2ml then 2 else 4)
  else if index = 0x8200 ∧ sub = 5 then some (if s.power.options.crystal then 50 else 1500)
  else if index = 0x3000 ∧ sub = 5 then some (if s.variant = .sl2ml then 0 else 1)
  else if index = 0x1200 ∧ sub = 6 then some (if s.variant = .sl2ml then 2 else 1)
  else if index = 0x7100 ∧ sub = 2 then some (if s.variant = .sl2ml then 1 else 0)
  else if index = 0x7120 then some ((kindRow sub).choice.getD 0)
  else if 0x3100 ≤ index ∧ index < 0x3108 ∧ sub = 0x0C then some (layerRole (index - 0x3100)).2.1
  else if 0x3100 ≤ index ∧ index < 0x3108 ∧ sub = 0x0D then some (layerRole (index - 0x3100)).2.2
  else if 0x3100 ≤ index ∧ index < 0x3108 ∧ sub = 0x0E then some (layerRole (index - 0x3100)).1
  else if 0x3200 ≤ index ∧ index < 0x3208 then some identityTone
  else if 0x2100 ≤ index ∧ index < 0x2104 ∧ sub = 1 then some identityMesh
  else if 0x4010 ≤ index ∧ index < 0x4014 ∧ sub = 1 then some defaultCurve
  else if 0xA100 ≤ index ∧ index < 0xA104 then some defaultEntry
  else if 0x5010 ≤ index ∧ index < 0x5014 ∧ sub = 1 then some (optionGroup s (index - 0x5010)).1
  else if 0x5010 ≤ index ∧ index < 0x5014 ∧ sub = 2 then some (optionGroup s (index - 0x5010)).2.2.2
  else if 0x5100 ≤ index ∧ index < 0x5130 ∧ sub = 1 then
    some (ofBool (bitOf s.power.options.auxEnable (index - 0x5100)))
  else if 0x5100 ≤ index ∧ index < 0x5130 ∧ sub = 2 then
    some (optionGroup s (groupOf (index - 0x5100))).2.1
  else if 0x5100 ≤ index ∧ index < 0x5130 ∧ sub = 3 then
    some (optionGroup s (groupOf (index - 0x5100))).2.2.1
  else none

/-- The default of an object (R275). -/
def defaultOf (s : State) (index sub : Nat) : Nat :=
  match specialDefault s index sub with
  | some d => d
  | none =>
    match findObject index sub with
    | some r => r.default
    | none => 0

/-- The value that a configuration object holds (R277, R279). -/
def cfg (s : State) (index sub : Nat) : Nat :=
  tableGet (defaultOf s index sub) (objKey index sub) s.dict.values

/-- The state with a configuration object at a new value. -/
def setCfg (index sub v : Nat) (s : State) : State :=
  { s with dict := { s.dict with
      values := tablePut (defaultOf s index sub) (objKey index sub) v s.dict.values } }

/-- The port has its objects and its lanes on this variant and is configured in use, as its next bring-up takes it (R3, R214,
R228, R424: with LegacyMode only port A). -/
def portWanted (s : State) (p : Port) : Bool :=
  hasPort s p && (!s.power.options.legacy || p == .a)
    && (cfg s (0x2200 + p.num) 1 == 1 || s.power.optionCopyUsed == 2)

/-- The port is in use (R228): since its last bring-up, and before any as it is configured. -/
def portInUse (s : State) (p : Port) : Bool :=
  hasPort s p && ((s.link.get p).state != .off || portWanted s p)

/-- The ports in use, in order. -/
def portsInUse (s : State) : List Port := Port.all.filter (portInUse s)

end Sys2Proof.Machine
end

