-- ==== Sys2Proof/Machine/Time.lean ====
section
/-!
DEFINITION. Time.lean: device time, the Leap counter and the shadow in the AON (R54, R55, R69 to R72).
-/

namespace Sys2Proof.Machine

open Sys2Proof

/-- Device time in µs (R54). -/
def dtNow (s : State) : Nat := s.scan.dt.toNat

/-- The time passed from `t` to `now`, modulo the 48 bits of DT (R372). -/
def dtSince (now t : Nat) : Nat := (now + 2 ^ 48 - t % 2 ^ 48) % 2 ^ 48

/-- The microseconds of `ticks` Leap ticks at `nRef` REFCLK cycles a window (R70). -/
def leapToUs (ticks nRef : Nat) : Nat := roundDivNat (ticks * nRef) 819200

/-- The AON oscillator counts `n` ticks (R69). -/
def countLeap (n : Nat) (s : State) : State :=
  { s with aon := { s.aon with leap := s.aon.leap + BitVec.ofNat 40 n } }

/-- Leap ticks since the shadow, modulo 2⁴⁰ (R70). -/
def leapSinceShadow (s : State) : Nat := (s.aon.leap - s.aon.shadow.leap).toNat

/-- The LD sends DT, Epoch and the Leap value to the AON (R55). -/
def sendShadow (s : State) : State :=
  { s with aon := { s.aon with
      shadow := { s.aon.shadow with
        dt := s.scan.dt, epoch := s.scan.epoch, leap := s.aon.leap, wrapped := false } } }

/-- Device time passes by `us` microseconds while CORE runs. -/
def advanceDt (us : Nat) (s : State) : State :=
  { s with scan := { s.scan with dt := s.scan.dt + BitVec.ofNat 48 us } }

/-- `n` periods of CLK_CORE pass: DT counts one microsecond for each 200 (R54). -/
def advanceClocks (n : Nat) (s : State) : State :=
  { s with scan := { s.scan with
      dt := s.scan.dt + BitVec.ofNat 48 ((s.scan.clkRest + n) / 200)
      clkRest := (s.scan.clkRest + n) % 200
      clkTotal := s.scan.clkTotal + n } }

/-- The SM's own oscillator is within 2 % over the time since the last shadow (R368): the error of a stamp
drawn from a free number, between minus and plus the bound. -/
def stampError (elapsed free : Nat) : Int :=
  (free % (2 * (elapsed * 2 / 100) + 1) : Nat) - (elapsed * 2 / 100 : Nat)

/-- The time now in µs: DT while CORE runs, else the shadow advanced by Leap ticks (R55, R368). -/
def nowUs (s : State) : Nat :=
  if isOn s .core then dtNow s
  else (s.aon.shadow.dt.toNat + leapToUs (leapSinceShadow s) s.aon.shadow.nRef) % 2 ^ 48

/-- The time that the SM stamps on an event of the AD (R368): the last shadow, advanced by its own
oscillator while CORE runs and by Leap ticks while CORE is off. -/
def smTime (s : State) : Nat :=
  if isOn s .core then
    let elapsed := (s.scan.dt - s.aon.shadow.dt).toNat
    ((s.scan.dt.toNat : Int) + stampError elapsed (Config.freeValue s.free).toNat).toNat % 2 ^ 48
  else nowUs s

/-- DT, Epoch and scan position stamped on an event: by the LD at the event, or by the SM for a unit of the
AD (R368). -/
def stampOf (ad : Bool) (s : State) : Nat × Nat × Nat :=
  if ad then (smTime s, s.aon.shadow.epoch.toNat, 0xFFF)
  else (dtNow s, s.scan.epoch.toNat, if s.scan.running then s.scan.pos.toNat else 0xFFF)

/-- The uncertainty in ppm of a time carried by the Leap (R71), from the values of RcDriftBound and
RefClkTolerance. -/
def leapUncertaintyPpm (measured crystal : Bool) (drift tolerance : Nat) : Nat :=
  if !measured && !crystal then 30000 + tolerance else drift + tolerance

/-- Leap ticks since the shadow, with the full range of a wrap noted since it (R70, R72). -/
def leapElapsed (s : State) : Nat := leapSinceShadow s + (if s.aon.shadow.wrapped then 2 ^ 40 else 0)

/-- Microseconds since the shadow by the formula of R70. -/
def usElapsed (s : State) : Nat := leapToUs (leapElapsed s) s.aon.shadow.nRef

/-- DT and Epoch come back from the shadow at a power-up of CORE without a POR; the first frame counts on from the
shadow's Epoch (R55). -/
def restoreTime (s : State) : State :=
  { s with scan := { s.scan with
      dt := s.aon.shadow.dt + BitVec.ofNat 48 (usElapsed s)
      epoch := s.aon.shadow.epoch
      firstFrame := false } }

/-- The figures of a wake (R70 to R72), from the values of RcDriftBound and RefClkTolerance. -/
def publishLeap (drift tolerance : Nat) (s : State) : State :=
  let ppm := leapUncertaintyPpm s.aon.shadow.measured s.power.options.crystal drift tolerance
  { s with leap := { s.leap with
      lastStop := leapSinceShadow s
      uncertaintyPpm := min ppm 0xFFFF
      uncertaintyUs :=
        if s.aon.shadow.wrapped then 0xFFFFFFFF
        else min ((usElapsed s * ppm + 999999) / 1000000 + 31) 0xFFFFFFFF } }

end Sys2Proof.Machine
end

