-- ==== Sys2Proof/Machine/BlackBox.lean ====
section
/-!
DEFINITION. BlackBox.lean: the ring of the black box and its commits (R366 to R371).
-/

namespace Sys2Proof.Machine

open Sys2Proof

/-- An entry of the ring (R366): type, Waybill, context and the stamped times; the CRC-16 covers bytes 0 to
29. -/
def boxEntry (boot ty : Nat) (stamp : Nat × Nat × Nat) (waybill : BitVec 64) (context : Nat) : BitVec 256 :=
  let body :=
    stamp.1 + 2 ^ 48 * stamp.2.2 + 2 ^ 60 * ty + 2 ^ 64 * stamp.2.1 + 2 ^ 96 * waybill.toNat
      + 2 ^ 160 * (context % 2 ^ 64) + 2 ^ 224 * boot
  BitVec.ofNat 256 (body + 2 ^ 240 * crc16 (leBytes 30 body))

/-- The index that the next entry takes (R366). -/
def nextBoxIndex (newest : Nat) : Nat := if newest ≥ 512 then 0 else (newest + 1) % 512

/-- The SM writes an entry of type `ty` (R368). -/
def writeEntry (ad : Bool) (ty : Nat) (waybill : BitVec 64) (context : Nat) (s : State) : State :=
  let n := nextBoxIndex s.aon.newest
  { s with
    aon := { s.aon with
      ring := putEntry n (boxEntry s.aon.bootCount.toNat ty (stampOf ad s) waybill context) s.aon.ring
      newest := n }
    free := s.free + 1 }

/-- A boot entry (R367, R368): BootCount increments before it is written. -/
def writeBoot (cause port : Nat) (s : State) : State :=
  let s1 := { s with aon := { s.aon with bootCount := s.aon.bootCount + 1 } }
  writeEntry true 0x6 0 (s1.aon.resetCause.toNat * 2 ^ 48 + cause * 2 ^ 40 + port * 2 ^ 32) s1

/-- The erase count of the standing commit record (R371). -/
def eraseCount (s : State) : Nat :=
  match s.nvm.boxRecord with
  | some r => r.erases
  | none => 0

/-- The erase cap of the commit area (R371). -/
def eraseCap : Nat := 99000

/-- A commit of the ring as it stands runs: the area is erased and takes the entries (R369). -/
def runCommit (cause : BitVec 64) (s : State) : State :=
  { s with
    journal := { s.journal with commit := some cause, commitNewest := s.aon.newest }
    nvm := { s.nvm with boxArea := s.aon.ring, boxGood := false } }

/-- A commit starts and spends one unit of the allowance (R371). -/
def startCommit (waybill : BitVec 64) (s : State) : State :=
  runCommit waybill
    { s with aon := { s.aon with commitAllowance := s.aon.commitAllowance - 1 } }

/-- A ring entry of type 0x9 (R366, R367): its cause's Waybill, and what became of the trigger. -/
def commitEntry (waybill : BitVec 64) (outcome : Nat) (s : State) : State :=
  writeEntry true 0x9 waybill (waybill.toNat / 2 ^ 32 * 2 ^ 32 + outcome) s

/-- A trigger that makes no commit for want of allowance (R371). -/
def skipCommit (waybill : BitVec 64) (s : State) : State :=
  let s1 := { s with aon := { s.aon with commitSkipped := count32 s.aon.commitSkipped } }
  commitEntry waybill 1 s1

end Sys2Proof.Machine
end

