-- ==== Sys2Proof/Machine/Symbols.lean ====
section
/-!
DEFINITION. Symbols.lean: the coding of the pixel link and of the host lanes: 8b/10b code groups (R188), what a receiver
makes of them (R189), alignment markers (R190, R191), packets (R193) and what each transmit lane sends (R185).
-/

namespace Sys2Proof.Machine

open Sys2Proof

/-! ## Code groups (R188) -/

/-- Sub-blocks abcdei of D.0 to D.31 at negative running disparity, bit a first (IEEE 802.3 Clause 36, log 10). -/
def sixTable : List Nat :=
  [0b100111, 0b011101, 0b101101, 0b110001, 0b110101, 0b101001, 0b011001, 0b111000]
    ++ [0b111001, 0b100101, 0b010101, 0b110100, 0b001101, 0b101100, 0b011100, 0b010111]
    ++ [0b011011, 0b100011, 0b010011, 0b110010, 0b001011, 0b101010, 0b011010, 0b111010]
    ++ [0b110011, 0b100110, 0b010110, 0b110110, 0b001110, 0b101110, 0b011110, 0b101011]

/-- Sub-blocks fghj of D.x.0 to D.x.6 and D.x.P7 at negative running disparity (log 10). -/
def fourTable : List Nat := [0b1011, 0b1001, 0b0101, 0b1100, 0b1101, 0b1010, 0b0110, 0b1110]

/-- Sub-blocks fghj of K.x.0 to K.x.7 at negative running disparity (log 10). -/
def kFourTable : List Nat := [0b1011, 0b0110, 0b1010, 0b1100, 0b1101, 0b0101, 0b1001, 0b0111]

/-- Number of ones among the lowest `n` bits. -/
def onesOf : Nat → Nat → Nat
  | 0, _ => 0
  | n + 1, v => v % 2 + onesOf n (v / 2)

/-- The running disparity after a sub-block of `n` bits; `true` is positive. -/
def disparityAfter (n : Nat) (rd : Bool) (v : Nat) : Bool :=
  if 2 * onesOf n v = n then rd else decide (n < 2 * onesOf n v)

/-- A sub-block at a running disparity: one that is not balanced, or the balanced pair `pair`, is complemented at positive
disparity. -/
def subBlock (n pair : Nat) (rd : Bool) (v : Nat) : Nat :=
  if rd && (2 * onesOf n v != n || v == pair) then 2 ^ n - 1 - v else v

/-- Sub-block abcdei of D.x. -/
def sixOf (rd : Bool) (x : Nat) : Nat := subBlock 6 0b111000 rd (nth 0 sixTable x)

/-- The alternate D.x.A7 takes the place of D.x.P7 where five equal bits would follow one another. -/
def takesA7 (rd : Bool) (x : Nat) : Bool := if rd then [11, 13, 14].contains x else [17, 18, 20].contains x

/-- Sub-block fghj of D.x.y after the six bits that left the disparity at `rd`. -/
def fourOf (rd : Bool) (x y : Nat) : Nat :=
  if y = 7 ∧ takesA7 rd x = true then (if rd then 0b1000 else 0b0111)
  else subBlock 4 0b1100 rd (nth 0 fourTable y)

/-- Sub-block abcdei of K.28, and of K.23, K.27, K.29 and K.30, which share that of D.x. -/
def kSixOf (rd : Bool) (x : Nat) : Nat := if x = 28 then subBlock 6 0 rd 0b001111 else sixOf rd x

/-- Sub-block fghj of K.x.y. -/
def kFourOf (rd : Bool) (y : Nat) : Nat := if rd then 15 - nth 0 kFourTable y else nth 0 kFourTable y

/-- The numbers x and y of a special character Kx.y (R188). -/
def specialCode (c : Character) : Nat × Nat :=
  match c with
  | .idle => (28, 5) | .sop => (27, 7) | .eop => (29, 7) | .marker => (28, 3) | _ => (23, 7)

/-- A code group from its two sub-blocks, bit a the most significant. -/
def codeGroup (six four : Nat) : BitVec 10 := BitVec.ofNat 10 (16 * six + four)

/-- The code group of a character, and the running disparity after it (R188). -/
def encodeCharacter (rd : Bool) (c : Character) : BitVec 10 × Bool :=
  match c with
  | .data b =>
    let x := b.toNat % 32
    let mid := disparityAfter 6 rd (sixOf rd x)
    let four := fourOf mid x (b.toNat / 32)
    (codeGroup (sixOf rd x) four, disparityAfter 4 mid four)
  | _ =>
    let k := specialCode c
    let mid := disparityAfter 6 rd (kSixOf rd k.1)
    let four := kFourOf mid k.2
    (codeGroup (kSixOf rd k.1) four, disparityAfter 4 mid four)

/-- The code groups of a run of characters, and the running disparity after them. -/
def encodeCharacters : Bool → List Character → List (BitVec 10) × Bool
  | rd, [] => ([], rd)
  | rd, c :: cs =>
    let g := encodeCharacter rd c
    let r := encodeCharacters g.2 cs
    (g.1 :: r.1, r.2)

/-! ## Receiving (R189) -/

/-- The special character Kx.y; those not in the table of R188 are `otherSpecial`. -/
def specialOf (x y : Nat) : Symbol :=
  match x, y with
  | 28, 5 => .char .idle | 28, 3 => .char .marker | 27, 7 => .char .sop | 29, 7 => .char .eop | 23, 7 => .char .hold
  | _, _ => .otherSpecial

/-- The symbol whose group is valid at a running disparity; none for an invalid one. -/
def validGroup (rd : Bool) (g : BitVec 10) : Option Symbol :=
  let six := g.toNat / 16
  let four := g.toNat % 16
  let mid := disparityAfter 6 rd six
  if six = kSixOf rd 28 then
    ((List.range 8).find? fun y => kFourOf mid y == four).map (specialOf 28)
  else
    match (List.range 32).find? fun x => sixOf rd x == six with
    | none => none
    | some x =>
      match (List.range 8).find? fun y => fourOf mid x y == four with
      | some y => some (.char (.data (BitVec.ofNat 8 (32 * y + x))))
      | none => if kFourOf mid 7 = four ∧ [23, 27, 29, 30].contains x = true then some (specialOf x 7) else none

/-- What a receiver makes of a code group at its running disparity (R189): a group that is valid only at the other one is a
disparity error. -/
def decodeGroup (rd : Bool) (g : BitVec 10) : Symbol :=
  match validGroup rd g with
  | some x => x
  | none => if (validGroup (!rd) g).isSome then .disparity else .invalid

/-- The symbols of a run of code groups. -/
def decodeGroups : Bool → List (BitVec 10) → List Symbol
  | _, [] => []
  | rd, g :: gs => decodeGroup rd g :: decodeGroups (disparityAfter 10 rd g.toNat) gs

/-- A symbol inside a packet that counts as a code error (R189): an invalid group, a disparity error, a special character
not in the table, or one other than the marker. -/
def isCodeError (x : Symbol) : Bool :=
  match x with
  | .char (.data _) | .char .marker => false
  | _ => true

/-- The receiver takes the markers' three symbols out before it parses a packet (R190). -/
def dropMarkers : List Symbol → List Symbol
  | .char .marker :: _ :: _ :: rest => dropMarkers rest
  | x :: rest => x :: dropMarkers rest
  | [] => []

/-- The data characters of symbols. -/
def dataBytes (xs : List Symbol) : List Byte :=
  xs.filterMap fun x =>
    match x with
    | .char (.data b) => some b
    | _ => none

/-- The bytes of a received packet: header, payload and CRC. -/
def packetBytes (k : RxPacket) : List Byte := dataBytes (dropMarkers k.symbols)

end Sys2Proof.Machine

namespace Sys2Proof

open Sys2Proof.Machine

/-- Code errors of a received packet (R189). -/
def RxPacket.codeErrors (k : RxPacket) : Nat := (k.symbols.filter isCodeError).length

/-- Header of a received packet: its first 8 bytes (R193, R194). -/
def RxPacket.header (k : RxPacket) : BitVec 64 := BitVec.ofNat 64 (leNat ((packetBytes k).take 8))

/-- Payload of a received packet: what stands between header and CRC (R193). -/
def RxPacket.payload (k : RxPacket) : List Byte := ((packetBytes k).drop 8).take ((packetBytes k).length - 12)

/-- CRC of a received packet: its last 4 bytes (R193). -/
def RxPacket.crc (k : RxPacket) : BitVec 32 := BitVec.ofNat 32 (leNat ((packetBytes k).drop ((packetBytes k).length - 4)))

end Sys2Proof

namespace Sys2Proof.Machine

open Sys2Proof

/-! ## Markers (R190, R191) -/

/-- Symbols from one alignment marker to the next (R190). -/
def markerSpacing : Nat := 1024

/-- The lane ID of an outbound lane (R191). -/
def laneId (p : Port) (lane : Nat) : Byte := BitVec.ofNat 8 (64 * p.num + lane % 8)

/-- The marker sequence at a symbol index: 1 more for each marker, modulo 256 (R191), from 0 at the first (log 11). -/
def markerSequence (index : Nat) : Byte := BitVec.ofNat 8 (index / markerSpacing)

/-- The marker symbol that stands at a symbol index of a lane, if one does (R190). -/
def markerAt (p : Port) (lane index : Nat) : Option Character :=
  match index % markerSpacing with
  | 0 => some .marker
  | 1 => some (.data (laneId p lane))
  | 2 => some (.data (markerSequence index))
  | _ => none

/-! ## Packets and fill (R193) -/

/-- The CRC of a sent packet (R193). -/
def txCrc (t : TxPacket) : Nat := crc32c (leBytes 8 t.header.toNat ++ t.payload)

/-- The characters of a sent packet: SOP, header, payload, CRC and EOP (R193). -/
def packetCharacters (t : TxPacket) : List Character :=
  .sop :: ((leBytes 8 t.header.toNat ++ t.payload ++ leBytes 4 (txCrc t)).map .data ++ [.eop])

/-- TS1 at the `i`-th symbol of the training: /K28.5/, then 15 × D21.5 (R214 step 1). -/
def ts1At (i : Nat) : Character := if i % 16 = 0 then .idle else .data 0xB5

/-- TS2 at the `i`-th symbol: a counter D0.0 to D31.7 over the data characters, with /K28.5/ every 16 symbols (R214 step 4,
log 12). -/
def ts2At (i : Nat) : Character :=
  if i % 16 = 0 then .idle else .data (BitVec.ofNat 8 (15 * (i / 16) + i % 16 - 1))

/-- A lane's fill of symbols that carry no packet (R185, R188, R214, R218, R223). -/
inductive Fill where
  | ts1 | ts2 | idle | hold
  deriving DecidableEq, Repr

/-- The fill character at a symbol index. -/
def fillAt (f : Fill) (i : Nat) : Character :=
  match f with
  | .ts1 => ts1At i | .ts2 => ts2At i | .idle => .idle | .hold => .hold

/-- What a lane sends in `n` symbols from a symbol index on (R185, R190): markers where they are due, then what waits, then
the fill; and what still waits after them. -/
def laneStream (marker : Nat → Option Character) (fill : Nat → Character) :
    Nat → Nat → List Character → List Character × List Character
  | 0, _, wait => ([], wait)
  | n + 1, i, wait =>
    match marker i with
    | some c => let r := laneStream marker fill n (i + 1) wait; (c :: r.1, r.2)
    | none =>
      match wait with
      | c :: rest => let r := laneStream marker fill n (i + 1) rest; (c :: r.1, r.2)
      | [] => let r := laneStream marker fill n (i + 1) []; (fill i :: r.1, r.2)

end Sys2Proof.Machine
end

