-- ==== Sys2Proof/Machine/Link.lean ====
section
/-!
DEFINITION. Link.lean: sending on a port of the pixel link: headers, port packets, CTRL packets and HOLD
(R193 to R206).
-/

namespace Sys2Proof.Machine

open Sys2Proof

/-- Applies `f` to one port's link. -/
def onLink (p : Port) (f : LinkPort → LinkPort) (s : State) : State :=
  { s with link := s.link.modify p f }

/-- The header of a packet (R194). -/
def txHeader (ty : Nat) (half : Bool) (seq row epoch field len : Nat) : BitVec 64 :=
  BitVec.ofNat 64
    (len % 2 ^ 16 + field % 2 ^ 11 * 2 ^ 16 + epoch % 16 * 2 ^ 27 + row % 512 * 2 ^ 31
      + seq % 2 ^ 16 * 2 ^ 40 + ofBool half * 2 ^ 56 + ty * 2 ^ 60)

/-- The line under way (R41). -/
def lineNow (s : State) : Nat := s.scan.pos.toNat / 8

/-- Symbols of a packet of `n` payload bytes: SOP, header, payload, CRC, EOP (R193). -/
def packetSymbols (n : Nat) : Nat := n + 14

/-- Symbols of port packets already sent in this line: types ZONE, SEED, CTRL and HOLD (R206). -/
def lineSymbols (l : LinkPort) : Nat :=
  sumOf ((l.sent.filter fun t =>
    [2, 4, 5, 6].contains (t.header.toNat / 2 ^ 60)).map fun t => packetSymbols t.payload.length)

/-- A packet leaves on lanes and takes the next sequence number (R197). -/
def sendPacket (ty row epoch field : Nat) (payload : List Byte) (lanes : List Nat) (l : LinkPort) : LinkPort :=
  { l with
    sent := l.sent ++ [⟨txHeader ty l.half l.sequence.toNat row epoch field payload.length, payload, lanes⟩]
    sequence := l.sequence + 1 }

/-- The physical lanes that carry port packets: the working lanes (R196), and while a bring-up trains the lanes, before any
is working, all of them (R214). -/
def portLanes (l : LinkPort) : List Nat :=
  if l.state == .bringUp && l.map.isEmpty then [0, 1, 2, 3, 4] else l.map

/-- A port packet: identical copies on every working lane (R196). -/
def sendPortPacket (ty row epoch field : Nat) (payload : List Byte) (l : LinkPort) : LinkPort :=
  sendPacket ty row epoch field payload (portLanes l) l

/-- Opcode of a CTRL in its TypeField: bits [26:19] (R205). -/
def ctrlField (op : Nat) : Nat := op * 8

/-- Payload of CTRL PROBE: a window of 4,096 eighths from the first line start at least 4 lines after the line in which it
leaves (R205, R332). -/
def probePayload (row : Nat) : List Byte :=
  leBytes 2 (8 * ((row + 4) % 512)) ++ leBytes 2 4096 ++ leBytes 4 0

/-- The payload of a CTRL as it leaves: a PROBE counts its lines from there. -/
def ctrlPayload (row op : Nat) (payload : List Byte) : List Byte := if op = 7 then probePayload row else payload

/-- A CTRL leaves now and waits for its ACK (R205). -/
def sendCtrlNow (row epoch op : Nat) (payload : List Byte) (l : LinkPort) : LinkPort :=
  { sendPortPacket 5 row epoch (ctrlField op) (ctrlPayload row op payload) l with
    ctrls := l.ctrls ++ [⟨l.sequence, op⟩] }

/-- A TRIM has left in the line (R206): port packets come before TRIMs. -/
def trimsSent (l : LinkPort) : Bool := l.sent.any fun t => t.header.toNat / 2 ^ 60 == 3

/-- A CTRL of `n` payload bytes fits in the line (R206): within 80 symbols, and before its TRIMs. A bring-up sends no rows;
R206 does not say that its limit binds one, and the model does not apply it there (log 161). -/
def ctrlFits (l : LinkPort) (n : Nat) : Bool :=
  l.state == .bringUp || (!trimsSent l && decide (lineSymbols l + packetSymbols n ≤ 80))

/-- A CTRL leaves in this line, or waits: for the line's ROW, or for the next line when it does not fit in 80
symbols (R206). -/
def sendCtrl (row epoch op : Nat) (payload : List Byte) (l : LinkPort) : LinkPort :=
  if !l.rowDue && l.deferred.isEmpty && ctrlFits l payload.length then sendCtrlNow row epoch op payload l
  else { l with deferred := l.deferred ++ [(op, payload)] }

/-- The CTRLs that waited leave in their order, as far as they fit (R206). -/
def flushCtrls (row epoch : Nat) : List (Nat × List Byte) → LinkPort → LinkPort
  | [], l => l
  | (op, payload) :: rest, l =>
    if ctrlFits l payload.length then flushCtrls row epoch rest (sendCtrlNow row epoch op payload l)
    else { l with deferred := (op, payload) :: rest }

/-- CTRL to a port of the device at the present line and Epoch. -/
def ctrl (p : Port) (op : Nat) (payload : List Byte) (s : State) : State :=
  onLink p (sendCtrl (lineNow s) s.scan.epoch.toNat op payload) s

/-- Payload of CTRL START: the Epoch of the first frame of service (R205). -/
def startPayload (epoch : BitVec 32) : List Byte := leBytes 4 epoch.toNat ++ leBytes 4 0

/-- The frame that a START names: the next one whose boundary comes at least 4 lines later (R214, R218); the
first frame while no scan runs (R55). -/
def startFrame (s : State) : BitVec 32 :=
  if !s.scan.running then (if s.scan.firstFrame then s.scan.epoch else s.scan.epoch + 1)
  else if lineNow s ≤ 507 then s.scan.epoch + 1
  else s.scan.epoch + 2

/-- START names the frame of `epoch` (R205, R218). -/
def sendStart (p : Port) (epoch : BitVec 32) (s : State) : State :=
  onLink p (fun l => { l with startAt := some epoch }) (ctrl p 6 (startPayload epoch) s)

/-- The marker of a HOLD packet among the packets that wait for an ACK. -/
def holdOp : Nat := 0

/-- HOLD on every working lane (R216, R218). -/
def sendHoldNow (row epoch : Nat) (l : LinkPort) : LinkPort :=
  { sendPortPacket 6 row epoch 0 [] l with
    ctrls := l.ctrls ++ [⟨l.sequence, holdOp⟩]
    holdSent := true, holdDue := false }

/-- HOLD ends the traffic of a port at the next line start (R35, R218); while no scan runs there is none, and it leaves at
once. -/
def sendHold (p : Port) (s : State) : State :=
  onLink p (fun l =>
    if l.holdSent then l
    else if s.scan.running then { l with holdDue := true }
    else sendHoldNow (lineNow s) s.scan.epoch.toNat l) s

/-- The fill of a lane (R185, R214, R218, R223). -/
def laneFill (l : LinkPort) (lane : Nat) : Fill :=
  if l.retraining == some lane then .ts2
  else if l.tx.trained then (if l.holdSent then .hold else .idle)
  else if l.step < 4 then .ts1
  else .ts2

/-- What a lane sends in `n` symbols (R185, R190, R193), and what still waits. -/
def laneSends (p : Port) (l : LinkPort) (n lane : Nat) : List Character × List Character :=
  let packets := l.sent.filter fun t => t.lanes.contains lane
  laneStream (if l.tx.trained then markerAt p lane else fun _ => none) (fillAt (laneFill l lane)) n l.tx.index
    (nth [] l.tx.waiting lane ++ packets.flatMap packetCharacters)

/-- Every transmit lane of a port that is brought up, spare included, sends its symbols up to a CLK_CORE count: one each
period (R185, R186, R188). -/
def transmit (p : Port) (clock : Nat) (l : LinkPort) : LinkPort :=
  let n := clock - l.tx.clock
  if l.state = .off ∨ l.state = .lost then { l with tx := { l.tx with clock := clock } }
  else
    let out := (List.range 5).map (laneSends p l n)
    let coded := out.mapIdx fun i r => encodeCharacters (nth false l.tx.disparity i) r.1
    { l with tx := { l.tx with
        index := l.tx.index + n
        clock := clock
        waiting := out.map (·.2)
        groups := coded.map (·.1)
        disparity := coded.map (·.2) } }

/-- The port exchanges rows or holds: it has been brought up and is not lost (R228). -/
def portServing (s : State) (p : Port) : Bool :=
  [PortState.service, .halfRate, .hold].contains (s.link.get p).state

/-- The port counts as in use: brought up, or configured for the next bring-up (R228). -/
def portActive (s : State) (p : Port) : Bool := portInUse s p

/-- Number of working lanes W (R184). -/
def workingLanes (l : LinkPort) : Nat := l.map.length

/-- The band under way (R41). -/
def bandNow (s : State) : Nat := s.scan.pos.toNat / 128

/-- Symbols of the worst-loaded lane's ROW with `w` working lanes (R198, R206). -/
def rowSymbols (w : Nat) : Nat :=
  match w with
  | 4 => 398
  | 3 => 590
  | 2 => 782
  | _ => 1550

/-- The budget B of a line at a frame rate code (R206). -/
def lineBudget (rate : Nat) : Nat :=
  match rate with
  | 4 => 722
  | 3 => 991
  | 2 => 1533
  | 1 => 3155
  | _ => 6401

/-- The port's ROW fits in a line at full rate (R206, R221). -/
def rowFits (w rate : Nat) : Bool := decide (rowSymbols w ≤ lineBudget rate)

end Sys2Proof.Machine
end

