-- ==== Sys2Proof/Machine/Faults.lean ====
section
/-!
DEFINITION. Faults.lean: raising and ending fault kinds, Waybills, safe states and the enables of the ports
(R347 to R365, R380 to R383).
-/

namespace Sys2Proof.Machine

open Sys2Proof

/-! ## Reading the fault state -/

/-- A kind of a unit is active (R348). -/
def isActive (s : State) (k u : Nat) : Bool :=
  s.faults.active.any fun a => a.kind == k && a.unit == u

/-- A kind is active for some unit. -/
def kindActive (s : State) (k : Nat) : Bool := s.faults.active.any fun a => a.kind == k

/-- The recovery record of a kind (R365). -/
def recoveryOf (s : State) (k : Nat) : Recovery :=
  (s.aon.recoveries.find? fun r => r.kind == k).getD { kind := k }

/-- The kind is latched (R365). -/
def isLatched (s : State) (k : Nat) : Bool := (recoveryOf s k).latched

/-- A unit's status record. -/
def blockOf (s : State) (u : Nat) : Block := (s.faults.blocks.find? fun b => b.unit == u).getD { unit := u }

/-- The CP is down: not ready, from the start of a boot or a watchdog expiry (R355). -/
def cpDown (s : State) : Bool := !cpReady s

/-- The class of an active kind (R347, R358): a privileged kind that has escalated is Fatal, because its safe state
then governs (log 57). -/
def activeClass (a : ActiveKind) : Nat := if a.escalated then 2 else (kindRow a.kind).cls

/-- A Fatal kind is active or latched (R382). -/
def fatalActive (s : State) : Bool := s.faults.active.any fun a => activeClass a == 2

/-! ## Waybills -/

/-- The Waybill of R352. -/
def waybillOf (unit kind cls port lane address seq : Nat) : BitVec 64 :=
  BitVec.ofNat 64
    (seq % 2 ^ 16 + address % 2 ^ 24 * 2 ^ 16 + lane % 8 * 2 ^ 40 + port % 8 * 2 ^ 43 + cls % 4 * 2 ^ 46
      + kind % 256 * 2 ^ 48 + unit % 256 * 2 ^ 56)

/-- The service identifier of CAN (R253). -/
def canId (s : State) (response : Bool) (node index : Nat) : BitVec 29 :=
  BitVec.ofNat 29
    (index % 2 ^ 16 + node % 16 * 2 ^ 16 + ofBool response * 2 ^ 20 + s.power.options.canBase * 2 ^ 21)

/-- The frame of 12 bytes that carries a Waybill (R356). -/
def waybillFrame (w : BitVec 64) : List Byte := [0xF0, 0x00] ++ leBytes 8 w.toNat ++ [0x00, 0x00]

/-- The Waybill transmitter of CAN_A sends a Waybill; while the bus is off it queues 16 (R356, R373). -/
def canWaybill (node : Nat) (w : BitVec 64) (s : State) : State :=
  if s.host.recoveringA = 0 then
    { s with
      faults := { s.faults with waybillsSent := count32 s.faults.waybillsSent }
      host := { s.host with
        canOut := s.host.canOut ++ [⟨.a, canId s true node 0, waybillFrame w, true⟩] } }
  else if s.faults.canQueue.length < 16 then
    { s with faults := { s.faults with canQueue := s.faults.canQueue ++ [(node, w)] } }
  else { s with faults := { s.faults with waybillsDropped := count32 s.faults.waybillsDropped } }

/-- A bus has recovered from bus-off (R252): the frames that waited for it leave. -/
def releaseHeld (bus : Bus) (s : State) : State :=
  { s with host := { s.host with
      canHeld := s.host.canHeld.filter fun f => f.bus != bus
      canOut := s.host.canOut ++ s.host.canHeld.filter fun f => f.bus == bus } }

/-- 32 µs of the recovery of each bus (R252): the last of them ends it, and on CAN_A the queued Waybills follow (R356,
R373). -/
def recoverBuses (s : State) : State :=
  let a := s.host.recoveringA
  let b := s.host.recoveringB
  let s1 := { s with host := { s.host with recoveringA := a - 1, recoveringB := b - 1 } }
  let s2 := if b = 1 then releaseHeld .b s1 else s1
  if a = 1 then
    s.faults.canQueue.foldl (fun s e => canWaybill e.1 e.2 s)
      (releaseHeld .a { s2 with faults := { s2.faults with canQueue := [] } })
  else s2

/-- The words of a 64-bit value, lowest first (R458). -/
def waybillWords (w : BitVec 64) : List (BitVec 16) :=
  (List.range 4).map fun i => BitVec.ofNat 16 (halfOf w.toNat i)

/-- The device is a Waystation of its ring by its settings (R448), in service or not yet. -/
def isWaystation (s : State) : Bool := s.caravan.enabled && s.power.options.nodeId != 0

/-- A Waystation's Caravan line queues a Waybill for the head, up to 8 (R463). -/
def caravanWaybill (w : BitVec 64) (s : State) : State :=
  if !isWaystation s then s
  else if s.caravan.waybills.length < 8 then
    { s with caravan := { s.caravan with
        waybills := s.caravan.waybills ++
          [⟨0, false, BitVec.ofNat 16 (0x3 * 2 ^ 12 + 4) :: waybillWords w⟩] } }
  else { s with caravan := { s.caravan with dropped := count32 s.caravan.dropped } }

/-! ## Sending on the die-to-die bridge (R16, R17, R357) -/

/-- The bridge runs: both dies powered, no reset (R17). -/
def ddbRuns (s : State) : Bool := !inReset s && isOn s .safe && isOn s .core

/-- The end of the bridge on a die. -/
def ddbEnd (s : State) (die : Die) : DdbEnd :=
  match die with
  | .ld => s.faults.ddbLd
  | .ad => s.faults.ddbAd

/-- Applies `f` to the end of the bridge on a die. -/
def onDdb (die : Die) (f : DdbEnd → DdbEnd) (s : State) : State :=
  match die with
  | .ld => { s with faults := { s.faults with ddbLd := f s.faults.ddbLd } }
  | .ad => { s with faults := { s.faults with ddbAd := f s.faults.ddbAd } }

/-- A frame with its CRC (R16): over bits [79:16] from bit 79 downward. -/
def ddbFrame (ty : Nat) (seq : BitVec 4) (payload : Nat) : BitVec 80 :=
  let head := ty % 16 * 2 ^ 60 + seq.toNat * 2 ^ 56 + payload % 2 ^ 56
  BitVec.ofNat 80 (head * 2 ^ 16 + crc16Bits (msbBits 64 head))

/-- A die sends a non-idle frame (R16): its sequence steps, and the frame waits, no send of it having failed yet. -/
def ddbSend (die : Die) (ty payload : Nat) (s : State) : State :=
  if ddbRuns s then
    onDdb die (fun e => { e with
      seq := e.seq + 1
      sent := e.sent ++ [ddbFrame ty (e.seq + 1) payload]
      waiting := e.waiting ++ [(ddbFrame ty (e.seq + 1) payload, 0)] }) s
  else s

/-- The record of a Waybill on the bridge (R357): Waybill, Epoch, Dt and ScanPosition, the Waybill highest. -/
def waybillRecord (w : BitVec 64) (stamp : Nat × Nat × Nat) : Nat :=
  w.toNat * 2 ^ 92 + stamp.2.1 % 2 ^ 32 * 2 ^ 60 + stamp.1 % 2 ^ 48 * 2 ^ 12 + stamp.2.2 % 2 ^ 12

/-- A Waybill crosses to the other die as three frames, parts 0, 1 and 2 (R356, R357). -/
def ddbWaybillOut (ad : Bool) (w : BitVec 64) (s : State) : State :=
  let record := waybillRecord w (stampOf ad s)
  let die := if ad then Die.ad else .ld
  [0, 1, 2].foldl (fun s k => ddbSend die 0x5 (k * 2 ^ 54 + bitsOf record (104 - 52 * k) 52) s) s

/-- A unit hands a Waybill to the fabric, which delivers it to the powered ones of the SM, the Caravan line
and CAN_A (R355 to R357); the SM writes it to the black box with the reason. -/
def sendWaybill (ad : Bool) (reason : Nat) (w : BitVec 64) (s : State) : State :=
  let core := isOn s .core
  let bits := ofBool (isOn s .safe) + 2 * ofBool core + 4 * ofBool core
  let s1 := writeEntry ad 0x8 w (reason * 2 ^ 56 + bits * 2 ^ 48) (ddbWaybillOut ad w s)
  if core then canWaybill s1.power.options.nodeId w (caravanWaybill w s1) else s1

/-- The wrappers of some units close (R355, R441): their raises that the CP has not acknowledged leave as Waybills. -/
def closeWrappers (closes : Nat → Bool) (s : State) : State :=
  let s1 := { s with faults := { s.faults with unacked := s.faults.unacked.filter fun r => !closes r.unit } }
  (s.faults.unacked.filter fun r => closes r.unit).foldl (fun s r => sendWaybill (unitOnAd r.unit) 0x02 r.waybill s) s1

/-- The wrapper of one unit closes at its restart (R441). -/
def closeWrapper (u : Nat) (s : State) : State := closeWrappers (· == u) s

/-! ## Raising -/

/-- What a raise names beside its kind: the port and lane of the Waybill, its address, the counter of its bus or group
and the figure for the black box (R352, R367). -/
structure RaiseInfo where
  port    : Nat := 7
  lane    : Nat := 7
  address : Nat := 0
  counter : Nat := 0
  figure  : Nat := 0
  deriving DecidableEq, Repr

/-- Writes a unit's status record. -/
def putBlock (b : Block) (s : State) : State :=
  { s with faults := { s.faults with
      blocks := b :: s.faults.blocks.filter fun x => x.unit != b.unit } }

/-- The raise sets the kind's bit and LastKind (R349). -/
def noteBlock (u k : Nat) (s : State) : State :=
  let b := blockOf s u
  putBlock { b with lastKind := k, bits := b.bits ||| BitVec.ofNat 16 (2 ^ kindBit u k) } s

/-- A raise writes a black box entry (R368): a state kind always, an event kind when its bit was clear, and a
Corrected kind at most once a second. -/
def raiseWritesEntry (s : State) (k u : Nat) : Bool :=
  let fresh := !(blockOf s u).bits.getLsbD (kindBit u k)
  let last := tableGet 0 k s.faults.lastEntry
  if isStateKind k then true
  else fresh && ((kindRow k).cls != 0 || last == 0 || decide (dtSince (nowUs s) (last - 1) ≥ 1000000))

/-- The counter that counts what raises a kind; 0 for a kind without one (R367, log 145). -/
def kindCounter (s : State) (k port : Nat) : Nat :=
  let p := Port.ofNum port
  match k with
  | 0x05 => s.faults.ddbRetries
  | 0x06 => s.fetch.refetchCount
  | 0x07 => s.fetch.transparentCount
  | 0x08 => s.fetch.heldCount
  | 0x09 => s.fetch.aliasCount
  | 0x0A => s.shade.overflow
  | 0x0D => s.ceiling.errorCount
  | 0x0E => s.compose.mismatchCount
  | 0x11 => (s.pixels.get p).storms
  | 0x12 => (s.pixels.get p).echoErrors
  | 0x1A => (s.headroom.get p).lowCount
  | 0x1B => (s.link.get p).counts.losses
  | 0x1C => (s.link.get p).counts.losses
  | 0x1D => (s.link.get p).counts.losses
  | 0x1E => (s.link.get p).counts.losses
  | 0x26 => s.dramCorrected
  | 0x29 => s.almanac.lateCount
  | 0x2F => s.aon.thermalShutdownCount
  | 0x3D => s.safety.discrepancyCount
  | 0x3F => s.checker.disagreed
  | 0x41 => s.checker.violations
  | _ => 0

/-- The raise's black box entry, with the time kept for a Corrected kind (R368). -/
def raiseEntry (k u : Nat) (i : RaiseInfo) (w : BitVec 64) (s : State) : State :=
  let s1 := writeEntry (unitOnAd u) 0x1 w (max i.counter (kindCounter s k i.port) % 2 ^ 32 * 2 ^ 32 + i.figure % 2 ^ 32) s
  if (kindRow k).cls = 0 then
    { s1 with faults := { s1.faults with lastEntry := tablePut 0 k (nowUs s + 1) s1.faults.lastEntry } }
  else s1

/-- The timer object of a privileged kind, as index and subindex (R362). -/
def timerObject (k : Nat) : Option (Nat × Nat) :=
  match k with
  | 0x0B => some (0x7100, 3)
  | 0x24 => some (0x7100, 7)
  | 0x26 => some (0x7100, 6)
  | 0x35 => some (0x7100, 4)
  | 0x42 => some (0x7100, 5)
  | _ => none

/-- The value that the escalation timer of a kind starts with, in ms (R362). -/
def timerValue (s : State) (k : Nat) : Nat :=
  match timerObject k with
  | some o => cfg s o.1 o.2
  | none => 0

/-- The kind becomes active, or pulses FAULT_N as a Contained event (R348, R351). -/
def noteActive (k u : Nat) (i : RaiseInfo) (w : BitVec 64) (s : State) : State :=
  if isStateKind k then
    { s with faults := { s.faults with
        active := s.faults.active ++
          [{ kind := k, unit := u, port := i.port, waybill := w, since := nowUs s,
             timing := (kindRow k).exit == .privileged, timer := timerValue s k }] } }
  else if (kindRow k).cls = 1 then { s with faults := { s.faults with pulses := s.faults.pulses + 1 } }
  else s

/-- The interrupt to the CP, or the Waybill at once while the CP is down or the unit isolated (R350, R355). -/
def interruptCp (k u : Nat) (w : BitVec 64) (s : State) : State :=
  if cpDown s then sendWaybill (unitOnAd u) 0x03 w s
  else if !isOn s (unitDomain u) then sendWaybill (unitOnAd u) 0x02 w s
  else { s with faults := { s.faults with unacked := s.faults.unacked ++ [⟨u, k, w⟩] } }

/-- The condition of an active kind is present again (R364). -/
def markPresent (k u : Nat) (s : State) : State :=
  { s with faults := { s.faults with
      active := s.faults.active.map fun a =>
        if a.kind == k && a.unit == u then { a with absent := false } else a } }

/-- The condition of an active kind is absent (R364). -/
def markAbsent (k u : Nat) (s : State) : State :=
  { s with faults := { s.faults with
      active := s.faults.active.map fun a =>
        if a.kind == k && a.unit == u then { a with absent := true } else a } }

/-- A raise that is not a repeat of an active state kind (R348 to R355, R368). -/
def raiseFresh (k u : Nat) (i : RaiseInfo) (s : State) : State :=
  let w := waybillOf u k (kindRow k).cls i.port i.lane i.address s.aon.waybillSequence.toNat
  let entry := raiseWritesEntry s k u
  let s1 := { s with aon := { s.aon with waybillSequence := s.aon.waybillSequence + 1 } }
  let s2 := noteBlock u k s1
  let s3 := if entry then raiseEntry k u i w s2 else s2
  interruptCp k u w (noteActive k u i w s3)

/-- A commit starts for the cause `w`, unless the erase cap is reached or the allowance is spent (R371). -/
def tryCommit (w : BitVec 64) (s : State) : State :=
  if eraseCount s ≥ eraseCap then raiseFresh 0x3A 0x16 {} (commitEntry w 2 s)
  else if s.aon.commitAllowance = 0 then skipCommit w s
  else startCommit w s

/-- A trigger of a black box commit (R369, R371): during a commit it starts one further commit after it. -/
def triggerCommit (w : BitVec 64) (s : State) : State :=
  if s.journal.commit.isSome && decide (eraseCount s < eraseCap) then
    { s with journal := { s.journal with
        commitNext := some (s.journal.commitNext.getD w) } }
  else tryCommit w s

/-! ## Safe states -/

/-- The code of SafeStateInForce (R374). -/
def safeStateCode : SafeState → Nat
  | .none => 0 | .safeBeam => 1 | .hold => 2 | .dark => 3 | .blanking => 4

/-- The rank of a safe state (R361). -/
def safeRank : SafeState → Nat
  | .none => 0 | .hold => 1 | .safeBeam => 2 | .blanking => 3 | .dark => 4

/-- The safe state that an active kind asks for (R358, R360): none for a kind without one, and for a
privileged kind before its escalation. -/
def safeStateOf (s : State) (a : ActiveKind) : SafeState :=
  let r := kindRow a.kind
  if r.choice.isNone || (r.exit == .privileged && !a.escalated) then .none
  else if a.kind = 0x41 ∧ s.faults.safeBeamViolation then .dark
  else
    match cfg s 0x7120 a.kind with
    | 0 => if a.kind = 0x40 ∨ a.kind = 0x41 then .blanking else .safeBeam
    | 1 => .hold
    | _ => .dark

/-- The more restrictive of two claims (R361). -/
def moreRestrictive (x y : SafeState × Nat) : SafeState × Nat :=
  if safeRank y.1 > safeRank x.1 then y else x

/-- The governing safe state and the kind that sets it (R361). -/
def governing (s : State) : SafeState × Nat :=
  s.faults.active.foldl (fun best a => moreRestrictive best (safeStateOf s a, a.kind)) (.none, 0)

/-- The beam may be lit as far as the beam request goes (R379, R380). -/
def beamAllowed (s : State) : Bool :=
  kindActive s 0x3D || s.safety.agreed == some true || cfg s 0x7100 9 == 1

/-- The number of a location in the thermal lists: LD, AD, arrays A to D (R354). -/
def locationIndex : Location → Nat
  | .die .ld => 0
  | .die .ad => 1
  | .array p => 2 + p.num

/-- The thermal state of a location. -/
def thermalOf (s : State) (l : Location) : Thermal := nth .normal s.hk.thermal (locationIndex l)

/-- PORTx_EN may be high (R222, R224, R307, R334, R335, R338, R359, R360, R380, R477). -/
def mayEmit (s : State) (p : Port) : Bool :=
  !inReset s && isOn s .safe && isOn s .link && hasPort s p && portServing s p
    && (s.safety.startPassed || s.units.smRebooting)
    && s.nvm.disabled.get p == 0 && !(s.link.get p).waitBringUp
    && thermalOf s (.array p) != .shutdown
    && s.faults.safeState != .dark && !s.faults.blanked.get p
    && !(s.safeBeam.repairing.contains p && (s.link.get p).safeContent)
    && beamAllowed s

/-- PORTx_EN falls on every port that may not emit (R224, R360, R380). -/
def dropEnables (s : State) : State :=
  { s with link := s.link.map fun p l =>
      if mayEmit s p then l else { l with enable := false } }

/-- The blanking of a port ends at the frame boundary by which each of its rows has been latched with the safe beam; the row
that is latched at the boundary counts, so that a port is dark for at most two frame times (R199, R360). -/
def endBlanking (s : State) : State :=
  { s with faults := { s.faults with
      blanked := s.faults.blanked.map fun p b => b && (s.link.get p).safeRows != BitVec.allOnes 512 } }

/-- PORTx_EN rises at a frame boundary on every port that may emit and has no START outstanding (R214, R360,
R380). -/
def raiseEnables (s : State) : State :=
  { s with link := s.link.map fun p l =>
      if mayEmit s p then { l with enable := true } else l }

/-- HOLD on every port in service (R360). -/
def holdAll (s : State) : State :=
  Port.all.foldl (fun s p => if portServing s p then sendHold p s else s) s

/-- START at the next frame boundary for every port held by a safe state (R360). -/
def releaseHold (s : State) : State :=
  Port.all.foldl (fun s p =>
    if portServing s p && (s.link.get p).holdDue && s.units.ls.get p == .ready then
      onLink p (fun l => { l with holdDue := false }) s
    else if portServing s p && (s.link.get p).holdSent && s.units.ls.get p == .ready then
      sendStart p (startFrame s) s
    else s) s

/-- The change from one governing safe state to another (R360, R361). -/
def enterSafeState (new : SafeState × Nat) (s : State) : State :=
  let old := s.faults.safeState
  let s1 := { s with faults := { s.faults with
      safeState := new.1
      safeKind := new.2
      holdDone := if new.1 = old then s.faults.holdDone else false
      blanked := if new.1 = .blanking then (if old = .blanking then s.faults.blanked else PerPort.const true)
        else PerPort.const false } }
  if new.1 = old then s1
  else if new.1 = .hold then holdAll s1
  else if old = .hold ∧ !s.faults.holdDone then releaseHold s1
  else s1

/-- The governing safe state is applied and the enables follow (R360, R380). -/
def settle (s : State) : State := dropEnables (enterSafeState (governing s) s)

/-- A further kind with blanking is raised while another blanks: the enables fall again (R360). -/
def blankAgain (k : Nat) (s : State) : State :=
  if (k = 0x40 ∨ k = 0x41) ∧ s.faults.safeState = .blanking then
    { s with faults := { s.faults with blanked := PerPort.const true } }
  else s

/-- A raise of kind `k` (R348): a repeat of an active state kind marks only its condition present; any other
raise is recorded, a Fatal kind or a supply warning triggers a commit (R369), and the safe state follows. -/
def raiseKind (k : Nat) (i : RaiseInfo) (s : State) : State :=
  let u := unitOf k i.port
  if isStateKind k && isActive s k u then markPresent k u s
  else
    let w := waybillOf u k (kindRow k).cls i.port i.lane i.address s.aon.waybillSequence.toNat
    let s1 := blankAgain k (raiseFresh k u i s)
    settle (if (kindRow k).cls = 2 ∨ k = 0x37 then triggerCommit w s1 else s1)

/-! ## Ending -/

/-- Takes a kind of a unit off the active list. -/
def removeActive (k u : Nat) (s : State) : State :=
  { s with faults := { s.faults with
      active := s.faults.active.filter fun a => !(a.kind == k && a.unit == u)
      safeBeamViolation := if k = 0x41 then false else s.faults.safeBeamViolation } }

/-- Writes the recovery record of a kind. -/
def putRecovery (r : Recovery) (s : State) : State :=
  { s with aon := { s.aon with
      recoveries := r :: s.aon.recoveries.filter fun x => x.kind != r.kind } }

/-- An exit of an active kind: the exit entry with RecoveryCount and the time active (R364, R367). -/
def exitKind (k u : Nat) (s : State) : State :=
  match s.faults.active.find? fun a => a.kind == k && a.unit == u with
  | none => s
  | some a =>
    let ms := dtSince (nowUs s) a.since / 1000
    settle (removeActive k u
      (writeEntry (unitOnAd u) 0x2 a.waybill ((recoveryOf s k).count * 2 ^ 48 + ms % 2 ^ 48) s))

/-- The times kept of the last seven recoveries, newest first, with a new one (R365). -/
def pushRecovery (now : Nat) (times : List Nat) : List Nat := (now :: times).take 7

/-- The recovery at `now` is the eighth within 600 s (R365). -/
def isEighthRecovery (now : Nat) (times : List Nat) : Bool :=
  match times.drop 6 with
  | [] => false
  | t :: _ => decide (dtSince now t ≤ 600000000)

/-- A recovery (R364, R365): counted; the kind exits, or latches when it is the eighth within 600 s. -/
def recoverKind (k u : Nat) (s : State) : State :=
  match s.faults.active.find? fun a => a.kind == k && a.unit == u with
  | none => s
  | some a =>
    let r := recoveryOf s k
    let n := satAdd 16 r.count 1
    if isEighthRecovery (nowUs s) r.times then
      settle (writeEntry (unitOnAd u) 0x4 a.waybill (n * 2 ^ 48)
        (putRecovery { r with count := n, latched := true } s))
    else
      exitKind k u (putRecovery { r with count := n, times := pushRecovery (nowUs s) r.times } s)

/-- A condition that clears (R362, R364): a privileged kind that has not escalated and a kind whose exit is
its condition end at once; a quiet kind begins its quiet period; a latched kind stays. -/
def clearCondition (k u : Nat) (s : State) : State :=
  match s.faults.active.find? fun a => a.kind == k && a.unit == u with
  | none => s
  | some a =>
    if isLatched s k then markAbsent k u s
    else
      match (kindRow k).exit with
      | .quiet => markAbsent k u s
      | .privileged => if a.escalated then markAbsent k u s else exitKind k u s
      | _ => exitKind k u s

/-- A privileged kind is handled: its timer stops (R362). -/
def handleKind (k : Nat) (s : State) : State :=
  { s with faults := { s.faults with
      active := s.faults.active.map fun a =>
        if a.kind == k then { a with timing := false } else a } }

/-- A latched kind is cleared by the host (R365): its times go, a latch entry is written, and it exits when
its condition is absent. -/
def clearLatch (k : Nat) (s : State) : State :=
  match s.faults.active.find? fun a => a.kind == k with
  | none => putRecovery { recoveryOf s k with latched := false, times := [] } s
  | some a =>
    let s1 := writeEntry true 0x5 a.waybill (0x01 * 2 ^ 56)
      (putRecovery { recoveryOf s k with latched := false, times := [] } s)
    if a.absent then exitKind k a.unit s1 else s1

end Sys2Proof.Machine
end

