-- ==== Sys2Proof/Machine/Flags.lean ====
section
/-!
DEFINITION. Flags.lean: the status values and output pins that follow from the rest of the state.
-/

namespace Sys2Proof.Machine

open Sys2Proof

/-! ## Block status and the host interrupt -/

/-- HighestActive of a unit: 0 none or Corrected, 1 Contained, 2 Fatal (R349). -/
def highestActive (s : State) (u : Nat) : Nat :=
  maxOf 0 ((s.faults.active.filter fun a => a.unit == u).map activeClass)

/-- BlockStatus of a unit (R349). -/
def blockStatus (s : State) (u : Nat) : Nat :=
  let b := blockOf s u
  b.bits.toNat + b.lastKind * 2 ^ 16 + highestActive s u * 2 ^ 26 + ofBool (b.bits != 0) * 2 ^ 31

/-- Some unit's Pending is 1 (R350). -/
def anyPending (s : State) : Bool := s.faults.blocks.any fun b => b.bits != 0

/-- HostIrqStatus (R246); FaultSummary is set while any Pending is 1 (R350). -/
def hostIrqStatus (s : State) : Nat :=
  (s.host.irq ||| (if anyPending s then 0x80 else 0)).toNat

/-- HOST_INT_N is asserted (R246): released in reset, in Stop and while CORE is off. -/
def hostIntAsserted (s : State) : Bool :=
  !inReset s && isOn s .core && (hostIrqStatus s &&& cfg s 0x1300 2) != 0

/-- Sets a bit of the host interrupt status (R246). -/
def setIrq (bit : Nat) (s : State) : State :=
  { s with host := { s.host with irq := s.host.irq ||| BitVec.ofNat 32 (2 ^ bit) } }

/-! ## FAULT_N and SAFE_OUT_N -/

/-- A state kind of class Contained or Fatal is active (R351); a latched kind stays active (R365). -/
def containedActive (s : State) : Bool :=
  s.faults.active.any fun a => decide ((kindRow a.kind).cls ≥ 1)

/-- FAULT_N is asserted (R351, R419): in reset, until the SM's start checks pass, while a Contained or Fatal
kind is active, while a pulse runs, and in a die shutdown; released while SAFE is unpowered. -/
def faultNAsserted (s : State) : Bool :=
  inReset s
    || (isOn s .safe
        && (!s.safety.startPassed || containedActive s || decide (s.faults.pulses > 0)
            || s.aon.ldShutdown || s.aon.adShutdown))

/-- The inputs' filtered levels read requested, not requested, or disagree (R377). -/
def beamReading (s : State) : Option Bool :=
  if s.safety.reqA && !s.safety.reqB then some true
  else if !s.safety.reqA && s.safety.reqB then some false
  else none

/-- BeamRequestState (R284). -/
def beamRequestState (s : State) : Nat :=
  ofBool s.safety.reqA + 2 * ofBool s.safety.reqB + 4 * ofBool (kindActive s 0x3D)

/-- BeamRequestAgreed (R396): the safe side replaces the agreed request while kind 0x3D is active (R379). -/
def beamRequestAgreed (s : State) : Nat :=
  if kindActive s 0x3D then 2 else if s.safety.agreed = some true then 1 else 0

/-- The SM started less than 80 ms ago (R382). -/
def smJustStarted (s : State) : Bool :=
  match s.safety.smStart with
  | none => true
  | some t => decide (dtNow s < t + 80000)

/-- A port in use does not stand in the way of SF2 (R382): PORTx_EN high, or in bring-up within 80 ms of SM
start; not lost, not disabled, not in thermal shutdown. -/
def portIntact (s : State) (p : Port) : Bool :=
  let l := s.link.get p
  (l.enable || (smJustStarted s && l.state == .bringUp))
    && l.state != .lost && s.nvm.disabled.get p == 0 && thermalOf s (.array p) != .shutdown

/-- SF1 intact (R382 bit 0). -/
def sf1Intact (s : State) : Bool :=
  s.safety.state == 1 && s.ceiling.source == 0 && !fatalActive s && s.safety.startPassed

/-- SF2 intact (R382 bit 1). -/
def sf2Intact (s : State) : Bool :=
  !fatalActive s && !kindActive s 0x3D && s.safeBeam.valid
    && (beamRequestAgreed s != 1
        || (Port.all.all fun p => !portActive s p || portIntact s p)
            && s.faults.safeState != .dark && s.faults.safeState != .hold)

/-- SafetyFunctionState (R382). -/
def safetyFunctionState (s : State) : Nat := ofBool (sf1Intact s) + 2 * ofBool (sf2Intact s)

/-- SAFE_OUT_N is asserted, driven low (R383): while both bits are set, outside reset, with SAFE powered, and
not while the dark-pulse test stands failed (R384) or a DDB failure made the SM release it (R17). -/
def safeOutAsserted (s : State) : Bool :=
  !inReset s && isOn s .safe && sf1Intact s && sf2Intact s && !kindActive s 0x3E

/-! ## Domains and votes -/

/-- The bit of a domain in a vote byte. -/
def votedBy (v : BitVec 8) (d : Domain) : Bool := v.getLsbD (domainBit d)

/-- The byte of a client (R435). -/
def clientVotes (v : Votes) : List (BitVec 8) := [v.cp, v.wake, v.sbp, v.sm, v.cal, v.caravan, v.host]

/-- Some client votes for the domain. -/
def directVote (v : Votes) (d : Domain) : Bool := (clientVotes v).any fun b => votedBy b d

/-- A domain is held by a vote for it or for a domain that depends on it (R14, R437). -/
def heldByVote (v : Votes) (d : Domain) : Bool :=
  match d with
  | .aon => true
  | .safe => [Domain.core, .pix, .link, .dram, .aux].any (directVote v)
  | .core => [Domain.core, .pix, .link, .dram, .aux].any (directVote v)
  | .pix => directVote v .pix || directVote v .link
  | d => directVote v d

/-- Byte `n` of DomainVotes (R436): a bit for each client; 0 for bytes 0, 1 and 7. -/
def votesByte (v : Votes) (n : Nat) : Nat :=
  if n < 2 ∨ n > 6 then 0
  else (packLe 1 ((clientVotes v).map fun b => ofBool (b.getLsbD n))) % 256

/-- DomainVotes (R436). -/
def domainVotes (v : Votes) : Nat := packLe 8 ((List.range 8).map (votesByte v))

/-- DomainPowered (R436). -/
def domainPowered (s : State) : Nat :=
  packLe 1 ([Domain.aon, .safe, .core, .pix, .link, .dram, .aux].map fun d => ofBool (isOn s d))

/-- The device is in Stop (R437): CORE has no vote and SAFE is off. -/
def inStop (s : State) : Bool := !isOn s .safe && !heldByVote s.power.votes .core

/-- The domains powered, as a vote byte. -/
def poweredByte (s : State) : BitVec 8 :=
  BitVec.ofNat 8 (domainPowered s) &&& 0x7C

/-- The domains forced off by a die shutdown or a supply out of window (R304, R433). -/
def forcedOff (s : State) (d : Domain) : Bool :=
  match d with
  | .aon => false
  | .safe => false
  | .link => s.aon.frozen.isSome || s.aon.laneOff.isSome
  | _ => s.aon.frozen.isSome

end Sys2Proof.Machine
end

