-- ==== Sys2Proof/Machine/Surfaces.lean ====
section
/-!
DEFINITION. Surfaces.lean: surfaces, their tiles and Salduril Tile Compression (R74 to R86), and the values of
Manifest objects (R132).
-/

namespace Sys2Proof.Machine

open Sys2Proof

/-! ## Manifest values -/

/-- The value of a Manifest object in a staged or committed copy (R132). -/
def manifestValue (s : State) (t : Table) (index sub : Nat) : Nat :=
  tableGet (defaultOf s index sub) (objKey index sub) t

/-- Object `sub` of layer `n` in a copy of the Manifest (R114, R115). -/
def layerValue (s : State) (t : Table) (n sub : Nat) : Nat := manifestValue s t (0x3100 + n) sub

/-- Blend operations (R117). -/
def blendMultiply : Nat := 3

/-- The layer reads the shade generator (R118). -/
def isGenerator (s : State) (t : Table) (n : Nat) : Bool := layerValue s t n 0x0E == 1

/-- A fetched layer is beam-critical (R89). -/
def isCritical (s : State) (t : Table) (n : Nat) : Bool :=
  decide (layerValue s t n 0x0D ≤ 2) || layerValue s t n 0x0C == blendMultiply

/-- The engine that serves a layer (R94). -/
def engineOf (n : Nat) : Nat := n % 4

/-! ## Descriptors -/

/-- Object `sub` of surface `f` (R114). -/
def surfaceValue (s : State) (f sub : Nat) : Nat := cfg s (0x3400 + f) sub

/-- Sample width of a format code; 0 for a reserved code (R74). -/
def formatWidth (code : Nat) : Nat :=
  match code with
  | 1 => 1 | 2 => 4 | 3 => 8 | 4 => 10 | 5 => 12 | 6 => 16 | _ => 0

/-- The descriptor is valid (R77). -/
def surfaceValid (s : State) (f : Nat) : Bool :=
  decide (f < 64) && formatWidth (surfaceValue s f 1) != 0

/-- Tile columns of a surface (R81). -/
def tileCols (s : State) (f : Nat) : Nat := (surfaceValue s f 2 + 31) / 32

/-- Tiles of a surface (R81). -/
def tileCount (s : State) (f : Nat) : Nat := tileCols s f * ((surfaceValue s f 3 + 31) / 32)

/-- The surface that a layer reads (R77): none for a generator layer and for an invalid surface. -/
def layerSurface (s : State) (t : Table) (n : Nat) : Option Nat :=
  let f := layerValue s t n 1
  if !isGenerator s t n && surfaceValid s f then some f else none

/-- The pin of a surface. -/
def pinOf (s : State) (f : Nat) : Option Pin := s.fetch.pins.find? fun p => p.surface == f

/-- PinState (R97, R98). -/
def pinState (s : State) (f : Nat) : Nat := (pinOf s f).elim 0 (·.state)

/-- The SRAM copy of a surface, where it is the one read (R97). -/
def pinnedTiles (s : State) (f : Nat) : Option (List (List Byte)) := (pinOf s f).bind (·.inUse)

/-- DRAM can be read: powered, trained and not failed (R31). -/
def dramReadable (s : State) : Bool := isOn s .dram && s.units.dramTrained && !s.units.dramFailed

/-! ## Tile coding (R82 to R86) -/

/-- Residuals of a PRED row: count ones up to 24, then the zero and k bits, or the escape of w bits. -/
def countOnes : Nat → Nat → Nat
  | 0, _ => 0
  | n + 1, v => if v % 2 = 1 then 1 + countOnes n (v / 2) else 0

/-- One coded residual: its unsigned code and the bits it took (R85). -/
def residual (w k v : Nat) : Nat × Nat :=
  let q := countOnes 24 v
  if q < 24 then (q * 2 ^ k + bitsOf v (q + 1) k, q + 1 + k) else (bitsOf v 24 w, 24 + w)

/-- The median edge predictor (R85). -/
def medPredict (a b cc : Nat) : Nat :=
  if cc ≥ max a b then min a b
  else if cc ≤ min a b then max a b
  else a + b - cc

/-- The prediction of sample (r, c) from the row above and the samples to its left, nearest first (R85). -/
def predictSample (r c : Nat) (above : List Nat) (left : List Nat) : Nat :=
  if r = 0 then (if c = 0 then 0 else left.headD 0)
  else if c = 0 then above.headD 0
  else medPredict (left.headD 0) (nth 0 above c) (nth 0 above (c - 1))

/-- The signed residual of an unsigned code (R85). -/
def unzigzag (u : Nat) : Int := if u % 2 = 0 then (u / 2 : Nat) else -(((u + 1) / 2 : Nat) : Int)

/-- `n` further samples of a PRED row; the samples, last first, and the bits left. A coded residual of 2^w or more is not
among the checks of R86: it counts modulo 2^w (log 77). -/
def predRow (w k r : Nat) (above : List Nat) : Nat → Nat → List Nat → Nat → List Nat × Nat
  | 0, _, acc, v => (acc, v)
  | n + 1, c, acc, v =>
    let e := residual w k v
    let x := ((predictSample r c above acc : Int) + unzigzag e.1) % (2 ^ w : Nat)
    predRow w k r above n (c + 1) (x.toNat :: acc) (v / 2 ^ e.2)

/-- The bits that `n` rows of PRED take are in `v`, above them a marker bit keeps the count: the samples and
what is left, or none when a k exceeds w (R86). -/
def predRows (w : Nat) : Nat → Nat → List Nat → List Nat → Nat → Option (List Nat × Nat)
  | 0, _, _, acc, v => some (acc, v)
  | n + 1, r, above, acc, v =>
    let k := v % 16
    if k > w then none
    else
      let row := predRow w k r above 32 0 [] (v / 16)
      let xs := row.1.reverse
      predRows w n (r + 1) xs (acc ++ xs) row.2

/-- Samples of a RAW payload (R84). -/
def rawSamples (w v : Nat) : List Nat := (List.range 1024).map fun i => bitsOf v (i * w) w

/-- What is left after the coded rows is the marker above fewer than 8 zero padding bits (R84, R86). -/
def paddingGood (rest : Nat) : Bool := [1, 2, 4, 8, 16, 32, 64, 128].contains rest

/-- The samples that mode and payload give, or none (R84 to R86). `n` is the payload's length in bytes. A ConstValue of 2^w
or more is not among the checks of R86: its low w bits count (log 77). -/
def decodePayload (w mode const n : Nat) (payload : List Byte) : Option (List Nat) :=
  if mode = 0 then
    if n = 128 * w then some (rawSamples w (leNat payload)) else none
  else if mode = 1 then
    if n = 0 then some (List.replicate 1024 (const % 2 ^ w)) else none
  else if mode = 2 then
    match predRows w 32 0 [] [] (leNat payload + 2 ^ (8 * n)) with
    | some (xs, rest) => if paddingGood rest then some xs else none
    | none => none
  else none

/-- SampleCrc of samples (R83). -/
def sampleCrc (xs : List Nat) : Nat := crc32c (xs.flatMap (leBytes 2))

/-- The decoder (R86): the samples of tile (tx, ty) of a surface of format `code` and tag `tag` from the bytes
read at its address, or none when a check fails. -/
def decodeTile (code tag tx ty : Nat) (bs : List Byte) : Option (List Nat) :=
  let w := formatWidth code
  let h := leNat (bs.take 16)
  let len := bitsOf h 16 16
  if bitsOf h 0 8 = 0xA5 ∧ bitsOf h 120 8 = crc8 (bs.take 15) ∧ bitsOf h 12 4 = code
      ∧ bitsOf h 112 8 = tag ∧ bitsOf h 80 16 = tx ∧ bitsOf h 96 16 = ty
      ∧ 16 ≤ len ∧ len ≤ 16 + 128 * w then
    match decodePayload w (bitsOf h 8 4) (bitsOf h 64 16) (len - 16) ((bs.drop 16).take (len - 16)) with
    | some xs => if sampleCrc xs = bitsOf h 32 32 then some xs else none
    | none => none
  else none

/-! ## Reading tiles -/

/-- Address of a tile's entry in the tile table of a buffer (R79, R81). -/
def tileEntryAddress (s : State) (f buffer tile : Nat) : Nat :=
  surfaceValue s f 4 + buffer * surfaceValue s f 6 + 4 * tile

/-- The bytes of a tile in DRAM, as many as the longest tile of its width takes; none when the entry has
reserved bits set (R81, R86). -/
def dramTile (s : State) (f buffer tile : Nat) : Option (List Byte) :=
  let e := leNat (memReadAll (tileEntryAddress s f buffer tile) 4 s.dram)
  if bitsOf e 27 5 = 0 then
    some (memReadAll (bitsOf e 0 27 * 32) (16 + 128 * formatWidth (surfaceValue s f 1)) s.dram)
  else none

/-- Bytes read through a path with flaws. -/
def applyFlaws (fs : List Flaw) (bs : List Byte) : List Byte :=
  fs.foldl (fun bs f => modifyAt (fun b => b ^^^ BitVec.ofNat 8 f.flip) f.pos bs) bs

/-- The samples that a read of a source tile gives (R86, R87), from SRAM where the surface is pinned. -/
def readTile (s : State) (f buffer tile : Nat) (fs : List Flaw) : Option (List Nat) :=
  let cols := tileCols s f
  let raw := match pinnedTiles s f with
    | some ts => ts[tile]?
    | none => if dramReadable s then dramTile s f buffer tile else none
  match raw with
  | some bs => decodeTile (surfaceValue s f 1) (surfaceValue s f 8) (tile % cols) (tile / cols) (applyFlaws fs bs)
  | none => none

/-- Bytes that a tile takes in storage (R82: whole 32-byte units). -/
def storedSize (bs : List Byte) : Nat := (bitsOf (leNat (bs.take 16)) 16 16 + 31) / 32 * 32

/-! ## Samples -/

/-- c16 of a raw sample (R74). -/
def normalise (s : State) (f x : Nat) : Nat :=
  match surfaceValue s f 1 with
  | 1 => if x = 0 then 0 else 65535
  | 2 => halfOf (surfaceValue s f 0x0C) x
  | 3 => x * 257
  | 4 => x * 64 + x / 16
  | 5 => x * 16 + x / 256
  | _ => x

/-- Entry of the tone curve whose interval holds c16, with the step (R110). -/
def toneEntry (c16 : Nat) : Nat × Nat :=
  if c16 < 4096 then (c16 / 8, 8)
  else if c16 < 8192 then (512 + (c16 - 4096) / 32, 32)
  else if c16 < 16384 then (640 + (c16 - 8192) / 64, 64)
  else if c16 < 32768 then (768 + (c16 - 16384) / 128, 128)
  else (896 + (c16 - 32768) / 256, 256)

/-- The linear light of a curve at c16 (R110). -/
def tone (lut c16 : Nat) : Nat :=
  let e := toneEntry c16
  let lo : Int := halfOf lut e.1
  let hi : Int := halfOf lut (min (e.1 + 1) 1023)
  (lo + roundDiv ((hi - lo) * (c16 - toneStart e.1 : Nat)) e.2).toNat

/-- A sample has coverage 1 (R75). -/
def covered (s : State) (t : Table) (n f x : Nat) : Bool :=
  !(surfaceValue s f 1 == 1 && x == 0)
    && !(layerValue s t n 9 == 1 && layerValue s t n 0x0A == x)

end Sys2Proof.Machine
end

