-- ==== Sys2Proof/Machine/Geometry.lean ====
section
/-!
DEFINITION. Geometry.lean: canvas, warp, placement and resampling kernels (R18, R19, R100 to R108).
-/

namespace Sys2Proof.Machine

open Sys2Proof

/-! ## Canvas (R18, R19) -/

/-- Columns and rows of the canvas in force (R19). -/
def canvasSize (s : State) : Nat × Nat :=
  match s.dict.canvas.layout with
  | 0 => (2048, 1024) | 1 => (4096, 512) | 2 => (1024, 1024) | _ => (1024, 512)

/-- The canvas sample of a port's top-left corner (R19). -/
def portCorner (s : State) (p : Port) : Option (Nat × Nat) :=
  match s.dict.canvas.layout, p with
  | _, .a => some (0, 0)
  | 0, .b => some (1024, 0)
  | 0, .c => some (0, 512)
  | 0, .d => some (1024, 512)
  | 1, .b => some (1024, 0)
  | 1, .c => some (2048, 0)
  | 1, .d => some (3072, 0)
  | 2, .b => some (0, 512)
  | _, _ => none

/-- Ports that have a place on the canvas. -/
def canvasPorts (s : State) : List Port := (portsOf s.variant).filter fun p => (portCorner s p).isSome

/-- Layouts that a variant supports (R1, R19). -/
def layoutSupported (v : Variant) (layout : Nat) : Bool :=
  match v with
  | .sl1ma => layout == 2 || layout == 3
  | _ => layout == 0 || layout == 1

/-! ## The forward mesh and its exact inverse (R101 to R103)

Between its nodes the forward mesh is bilinear, as R103 has it for the inverse (log 147). -/

/-- Node (i, j) of a forward mesh: column and row in 1/256 pixel (R101). -/
def meshNode (m i j : Nat) : Int × Int :=
  (toSigned 32 (wordOf m (2 * (33 * j + i))), toSigned 32 (wordOf m (2 * (33 * j + i) + 1)))

/-- Twice the signed area of a triangle. -/
def area2 (a b c : Int × Int) : Int := (b.1 - a.1) * (c.2 - a.2) - (c.1 - a.1) * (b.2 - a.2)

/-- Point `q` lies on the edge from `a` to `b`. -/
def onEdge (q a b : Int × Int) : Bool :=
  area2 a b q == 0 && decide (min a.1 b.1 ≤ q.1) && decide (q.1 ≤ max a.1 b.1)
    && decide (min a.2 b.2 ≤ q.2) && decide (q.2 ≤ max a.2 b.2)

/-- The edge from `a` to `b` turns around point `q`: 1 downwards to its right, −1 upwards, else 0. -/
def edgeTurn (q a b : Int × Int) : Int :=
  if a.2 ≤ q.2 ∧ q.2 < b.2 ∧ 0 < area2 a b q then 1
  else if b.2 ≤ q.2 ∧ q.2 < a.2 ∧ area2 a b q < 0 then -1
  else 0

/-- Point `q` lies in a closed outline, its edge included: the image of a mesh that does not fold. -/
def inOutline (ps : List (Int × Int)) (q : Int × Int) : Bool :=
  let es := ps.zip (ps.drop 1 ++ ps.take 1)
  es.any (fun e => onEdge q e.1 e.2) || (es.map fun e => edgeTurn q e.1 e.2).foldl (· + ·) 0 != 0

/-- The corners of cell (i, j) of a forward mesh: upper left, upper right, lower left, lower right. -/
structure MeshCell where
  a : Int × Int
  b : Int × Int
  c : Int × Int
  d : Int × Int
  deriving DecidableEq, Repr

/-- Cell (i, j) of a forward mesh. -/
def meshCell (m i j : Nat) : MeshCell :=
  ⟨meshNode m i j, meshNode m (i + 1) j, meshNode m i (j + 1), meshNode m (i + 1) (j + 1)⟩

/-- Point `q` lies in the image of a cell. -/
def cellHolds (q : Int × Int) (x : MeshCell) : Bool := inOutline [x.a, x.b, x.d, x.c] q

/-- The square of the distance from a point to the edge from `a` to `b`, as numerator and denominator. -/
def edgeDistance (q a b : Int × Int) : Nat × Nat :=
  let dot := (q.1 - a.1) * (b.1 - a.1) + (q.2 - a.2) * (b.2 - a.2)
  let len := (b.1 - a.1) * (b.1 - a.1) + (b.2 - a.2) * (b.2 - a.2)
  let far := fun (p : Int × Int) => ((q.1 - p.1) * (q.1 - p.1) + (q.2 - p.2) * (q.2 - p.2)).toNat
  if dot ≤ 0 then (far a, 1) else if len ≤ dot then (far b, 1) else ((area2 a b q * area2 a b q).toNat, len.toNat)

/-- The smaller of two quotients. -/
def minQuotient (x y : Nat × Nat) : Nat × Nat := if y.1 * x.2 < x.1 * y.2 then y else x

/-- The square of the distance from a point to a cell. -/
def cellDistance (q : Int × Int) (x : MeshCell) : Nat × Nat :=
  minQuotient (minQuotient (edgeDistance q x.a x.b) (edgeDistance q x.b x.d))
    (minQuotient (edgeDistance q x.d x.c) (edgeDistance q x.c x.a))

/-- The first of the cells nearest to a point, in raster order, as (i, j) (R103). -/
def nearestCell (m : Nat) (q : Int × Int) : Nat × Nat :=
  let far := fun k => cellDistance q (meshCell m (k % 32) (k / 32))
  let k := (List.range 512).foldl (fun best k => if (far k).1 * (far best).2 < (far best).1 * (far k).2 then k else best) 0
  (k % 32, k / 32)

/-- The cell whose image holds a point, or the nearest one for a point outside the image of the mesh (R103). -/
def cellOf (m : Nat) (q : Int × Int) : Nat × Nat :=
  match (List.range 512).find? fun k => cellHolds q (meshCell m (k % 32) (k / 32)) with
  | some k => (k % 32, k / 32)
  | none => nearestCell m q

/-- The whole part of a square root, found bit by bit from bit `k` − 1 downwards. -/
def rootFloor (n : Nat) : Nat → Nat → Nat
  | 0, r => r
  | k + 1, r => rootFloor n k (if (r + 2 ^ k) * (r + 2 ^ k) ≤ n then r + 2 ^ k else r)

/-- The cross product of two vectors. -/
def cross (u v : Int × Int) : Int := u.1 * v.2 - u.2 * v.1

/-- The root of k₂x² + k₁x + k₀ on the branch on which the slope has the sign `up`, in 1/8,192 and rounded; none where there
is no root. -/
def rootOf (k2 k1 k0 : Int) (up : Bool) : Option Int :=
  if k2 = 0 then (if k1 = 0 then none else some (roundQuot (-8192 * k0) k1))
  else
    let disc := (k1 * k1 - 4 * k2 * k0) * 67108864
    if disc < 0 then none
    else
      let low := rootFloor disc.toNat 160 0
      let root : Int := if up == decide (0 < k2) || low * low == disc.toNat then low else low + 1
      some (roundQuot (if up then root - 8192 * k1 else -root - 8192 * k1) (2 * k2))

/-- The place of a point in a cell, in 1/8,192 of the cell on each axis: the inverse of the bilinear map of the cell, which
goes on beyond it; none where the map takes no place there. -/
def placeInCell (x : MeshCell) (q : Int × Int) : Option (Int × Int) :=
  let minus := fun (u v : Int × Int) => (u.1 - v.1, u.2 - v.2)
  let e := minus x.b x.a
  let f := minus x.c x.a
  let g := minus (minus x.d x.c) e
  let h := minus q x.a
  let up := decide (0 < area2 x.a x.b x.d + area2 x.a x.d x.c)
  match rootOf (cross g e) (cross f e + cross h g) (cross h f) (!up), rootOf (cross g f) (cross e f + cross h g) (cross h e) up with
  | some u, some v => some (u, v)
  | _, _ => none

/-- The exact inverse of a forward mesh at an array position, in 1/256 sample from the port's corner and rounded (R102); for a
position outside the image of the mesh the extrapolation of the nearest cell (R103). Where that has no value it is the
part's. -/
def exactInverse (m : Nat) (q : Int × Int) : Int × Int :=
  let k := cellOf m q
  match placeInCell (meshCell m k.1 k.2) q with
  | some x => ((8192 * k.1 : Nat) + x.1, (8192 * k.2 : Nat) + x.2)
  | none => Config.meshExtrapolation m q

/-! ## Inverse warp (R103) -/

/-- Node (a, b) of the inverse mesh of a port with its corner, in 1/256 sample (R101, R102). -/
def inverseNode (mesh : Option Nat) (corner : Nat × Nat) (a b : Nat) : Int × Int :=
  match mesh with
  | none => (((corner.1 + 32 * a) * 256 : Nat), ((corner.2 + 32 * b) * 256 : Nat))
  | some m =>
    let q := exactInverse m ((8192 * a : Nat), (8192 * b : Nat))
    ((corner.1 * 256 : Nat) + q.1, (corner.2 * 256 : Nat) + q.2)

/-- Bilinear interpolation of four numbers with weights in 1/64, rounded (R103). -/
def bilinear (fx fy a b c d : Int) : Int :=
  roundDiv ((64 - fx) * (64 - fy) * a + fx * (64 - fy) * b + (64 - fx) * fy * c + fx * fy * d) 4096

/-- Canvas position of array pixel (c, r) in 1/256 sample (R103). -/
def canvasPos (s : State) (p : Port) (c r : Nat) : Option (Int × Int) :=
  match portCorner s p with
  | none => none
  | some k =>
    let m := (s.warp.get p).inForce
    let a := min (c / 32) 31
    let b := min (r / 32) 15
    let fx : Int := (2 * c + 1 : Int) - 64 * a
    let fy : Int := (2 * r + 1 : Int) - 64 * b
    let n0 := inverseNode m k a b
    let n1 := inverseNode m k (a + 1) b
    let n2 := inverseNode m k a (b + 1)
    let n3 := inverseNode m k (a + 1) (b + 1)
    let x := bilinear fx fy n0.1 n1.1 n2.1 n3.1
    let y := bilinear fx fy n0.2 n1.2 n2.2 n3.2
    some (x, y)

/-- The position lies on the canvas (R103). -/
def onCanvas (s : State) (q : Int × Int) : Bool :=
  decide (0 ≤ q.1) && decide (q.1 < ((canvasSize s).1 * 256 : Nat))
    && decide (0 ≤ q.2) && decide (q.2 < ((canvasSize s).2 * 256 : Nat))

/-! ## Placement (R104, R105) -/

/-- Source samples per canvas sample, × 65,536 (R104). -/
def inverseScale (scale : Nat) : Int := roundDiv (16777216 : Nat) (max scale 1)

/-- Offset and scale (R104). The corner is rounded to 1/256 (R100). -/
def placeScaled (s : State) (t : Table) (n : Nat) (q : Int × Int) : Int × Int :=
  let cv := s.dict.canvas
  let x0 := roundDiv ((toSigned 16 (layerValue s t n 3) - cv.originH) * 256) (max cv.pitch 1)
  let y0 := roundDiv ((cv.originV - toSigned 16 (layerValue s t n 4)) * 256) (max cv.pitch 1)
  (roundDiv ((q.1 - x0) * inverseScale (layerValue s t n 5)) 65536,
   roundDiv ((q.2 - y0) * inverseScale (layerValue s t n 6)) 65536)

/-- Coefficient `i` of PlaceMatrix (R105). -/
def matrixAt (m i : Nat) : Int := toSigned 32 (wordOf m i)

/-- Row `i` of the matrix on a canvas position, in 2⁻²⁴ (R105). -/
def matrixRow (m i : Nat) (q : Int × Int) : Int :=
  matrixAt m (3 * i) * q.1 + matrixAt m (3 * i + 1) * q.2 + matrixAt m (3 * i + 2) * 256

/-- Projective placement; none where w ≤ 1/256 (R105). -/
def placeProjective (m : Nat) (q : Int × Int) : Option (Int × Int) :=
  let w := matrixRow m 2 q
  if w ≤ 65536 then none
  else some (roundDiv (matrixRow m 0 q * 256) w.toNat, roundDiv (matrixRow m 1 q * 256) w.toNat)

/-- Source position of a canvas position for a layer, in 1/256 sample; a generator layer reads the canvas
itself (R104, R105, R118). -/
def place (s : State) (t : Table) (n : Nat) (q : Int × Int) : Option (Int × Int) :=
  if isGenerator s t n then some q
  else if layerValue s t n 2 = 1 then placeProjective (layerValue s t n 7) q
  else some (placeScaled s t n q)

/-- Source position of array pixel (c, r); none where the layer is transparent (R103, R105). -/
def sourcePos (s : State) (t : Table) (n : Nat) (p : Port) (c r : Nat) : Option (Int × Int) :=
  match canvasPos s p c r with
  | none => none
  | some q => if onCanvas s q then place s t n q else none

/-- The same without the canvas's edge, for the differences of R106. -/
def sourcePosAny (s : State) (t : Table) (n : Nat) (p : Port) (c r : Nat) : Option (Int × Int) :=
  match canvasPos s p c r with
  | none => none
  | some q => place s t n q

/-! ## Kernels (R106, R107) -/

/-- Largest difference of source position from a pixel to the next in column and in row, per axis. A position
above the horizon has no difference (log 30). -/
def pixelStep (s : State) (t : Table) (n : Nat) (p : Port) (c r : Nat) : Nat × Nat :=
  match sourcePosAny s t n p c r, sourcePosAny s t n p (c + 1) r, sourcePosAny s t n p c (r + 1) with
  | some q, some qc, some qr =>
    (max (qc.1 - q.1).natAbs (qr.1 - q.1).natAbs, max (qc.2 - q.2).natAbs (qr.2 - q.2).natAbs)
  | some q, some qc, none => ((qc.1 - q.1).natAbs, (qc.2 - q.2).natAbs)
  | some q, none, some qr => ((qr.1 - q.1).natAbs, (qr.2 - q.2).natAbs)
  | _, _, _ => (0, 0)

/-- Minification of output tile (row, col) on each axis, in 1/256 (R106). -/
def minification (s : State) (t : Table) (n : Nat) (p : Port) (row col : Nat) : Nat × Nat :=
  let cs := [(32 * col, 32 * row), (32 * col + 31, 32 * row), (32 * col, 32 * row + 31),
    (32 * col + 31, 32 * row + 31)]
  cs.foldl (fun m q =>
    let d := pixelStep s t n p q.1 q.2
    (max m.1 d.1, max m.2 d.2)) (0, 0)

/-- The stretch of the kernel for a minification in 1/256: 1 is bilinear (R106). -/
def stretchOf (r : Nat) : Nat :=
  if r ≤ 256 then 1 else if r ≤ 512 then 2 else if r ≤ 768 then 3 else 4

/-- π in 2⁻⁶⁴. -/
def piFixed : Int := 57952155664616982739

/-- Terms of the cosine series in 2⁻⁶⁴ from term `term` of order `2k`, the square of the angle being `sq`. -/
def cosSeries (sq : Int) : Nat → Nat → Int → Int
  | 0, _, _ => 0
  | fuel + 1, k, term => term + cosSeries sq fuel (k + 1) (-(term * sq / 2 ^ 64) / ((2 * k + 1) * (2 * k + 2) : Nat))

/-- cos(π × num / den) in 2⁻⁶⁴, for an angle of at most π. -/
def cosPi (num : Int) (den : Nat) : Int :=
  let a := piFixed * num / (den : Int)
  cosSeries (a * a / 2 ^ 64) 24 0 (2 ^ 64)

/-- k_t of R107 in 2⁻⁶⁴. -/
def kernelValue (st f t : Nat) : Int :=
  let num : Int := 64 * ((t : Int) - ((st : Int) - 1)) - f
  if num.natAbs < 64 * st then 2 ^ 64 + cosPi num (64 * st) else 0

/-- The position of the largest weight, the lowest on a tie. -/
def argMax : List Int → Nat
  | [] => 0
  | x :: xs => if xs.all (fun y => y ≤ x) then 0 else argMax xs + 1

/-- Weights of a polyphase kernel (R107): they sum to 512. -/
def polyWeights (st f : Nat) : List Nat :=
  let ks := (List.range (2 * st)).map (kernelValue st f)
  let sum := ks.foldl (· + ·) 0
  let ws := ks.map fun k => roundDiv (512 * k) sum.toNat
  let rest := 512 - ws.foldl (· + ·) 0
  (modifyAt (· + rest) (argMax ws) ws).map (·.toNat)

/-- The taps of one axis at a source coordinate: sample and weight, those of weight 0 left out (R96,
R107). -/
def taps (st : Nat) (u : Int) : List (Int × Nat) :=
  let u' := u - 128
  let f0 := ((u' % 256).toNat + 2) / 4
  let i0 := if f0 = 64 then u' / 256 + 1 else u' / 256
  let f := if f0 = 64 then 0 else f0
  let all :=
    if st = 1 then [(i0, 8 * (64 - f)), (i0 + 1, 8 * f)]
    else (polyWeights st f).mapIdx fun t w => (i0 - ((st : Int) - 1) + (t : Int), w)
  all.filter fun e => e.2 != 0

/-! ## Line buffers (R108) -/

/-- The window of one axis for the taps of eight pixels: its first sample, when they span more than it. -/
def lineWindow (size : Nat) (xs : List Int) : Option Int :=
  match xs with
  | [] => none
  | x :: rest =>
    let lo := rest.foldl min x
    let hi := rest.foldl max x
    let span := (hi - lo).toNat + 1
    if span ≤ size then none
    else some (lo + ((Config.lineBufferStart lo span % (span - size + 1) : Nat) : Int))

/-- A tap outside the window goes to the nearest tap inside, which lies at the window's edge (R108); a pixel without a tap
inside draws the sample at that edge (log 82). -/
def clampTap (size : Nat) (w : Option Int) (e : Int × Nat) : Int × Nat :=
  match w with
  | none => e
  | some lo => (clampInt lo (lo + size - 1) e.1, e.2)

end Sys2Proof.Machine
end

