-- ==== Sys2Proof/Machine/ShadeGen.lean ====
section
/-!
DEFINITION. ShadeGen.lean: shade objects and the generator (R118 to R122).
-/

namespace Sys2Proof.Machine

open Sys2Proof

/-- Ttl of a shade object (R119). -/
def shadeTtl (o : BitVec 128) : Nat := bitsOf o.toNat 112 16
/-- Attenuation (R119). -/
def shadeAttenuation (o : BitVec 128) : Nat := bitsOf o.toNat 104 8
/-- Priority (R119). -/
def shadePriority (o : BitVec 128) : Nat := bitsOf o.toNat 101 3
/-- Feather (R119). -/
def shadeFeather (o : BitVec 128) : Nat := bitsOf o.toNat 96 5
/-- VMax in 0.01° (R119). -/
def shadeVMax (o : BitVec 128) : Int := toSigned 16 (bitsOf o.toNat 48 16)
/-- VMin in 0.01° (R119). -/
def shadeVMin (o : BitVec 128) : Int := toSigned 16 (bitsOf o.toNat 32 16)
/-- HMax in 0.01° (R119). -/
def shadeHMax (o : BitVec 128) : Int := toSigned 16 (bitsOf o.toNat 16 16)
/-- HMin in 0.01° (R119). -/
def shadeHMin (o : BitVec 128) : Int := toSigned 16 (bitsOf o.toNat 0 16)

/-- A non-empty object that is invalid (R120). -/
def shadeInvalid (o : BitVec 128) : Bool :=
  shadeTtl o != 0 && (decide (shadeHMin o > shadeHMax o) || decide (shadeVMin o > shadeVMax o)
    || bitsOf o.toNat 64 16 != 0)

/-- Quotient rounded toward positive infinity (R121). -/
def ceilDiv (a : Int) (b : Nat) : Int := -((-a) / (b : Int))

/-- Samples outside an interval on one axis (R121): centre, edges and pitch in 0.005°. -/
def shadeOutside (centre lo hi : Int) (pitch : Nat) : Int :=
  max 0 (max (ceilDiv (2 * lo - centre) (2 * pitch)) (ceilDiv (centre - 2 * hi) (2 * pitch)))

/-- Angle of the centre of canvas column `i` in 0.005° (R121). -/
def columnAngle (k : Canvas) (i : Int) : Int := 2 * k.originH + k.pitch * (2 * i + 1)

/-- Angle of the centre of canvas row `j` in 0.005° (R121). -/
def rowAngle (k : Canvas) (j : Int) : Int := 2 * k.originV - k.pitch * (2 * j + 1)

/-- dx of R121. -/
def shadeDx (k : Canvas) (o : BitVec 128) (i : Int) : Int :=
  shadeOutside (columnAngle k i) (shadeHMin o) (shadeHMax o) k.pitch

/-- dy of R121. -/
def shadeDy (k : Canvas) (o : BitVec 128) (j : Int) : Int :=
  shadeOutside (rowAngle k j) (shadeVMin o) (shadeVMax o) k.pitch

/-- The attenuation of an object at distance `d` (R121). -/
def shadeRamp (o : BitVec 128) (d : Nat) : Nat :=
  if d = 0 then shadeAttenuation o
  else if d ≤ shadeFeather o then
    roundDivNat (shadeAttenuation o * (shadeFeather o + 1 - d)) (shadeFeather o + 1)
  else 0

/-- An object meets tile (tx, ty) of the canvas (R122). -/
def shadeMeets (k : Canvas) (tx ty : Nat) (o : BitVec 128) : Bool :=
  shadeTtl o != 0
    && (List.range 32).any (fun i => decide (shadeDx k o (32 * tx + i : Nat) ≤ shadeFeather o))
    && (List.range 32).any (fun j => decide (shadeDy k o (32 * ty + j : Nat) ≤ shadeFeather o))

/-- The objects of a bank that meet a tile: by Priority from highest to lowest, then by slot (R122). -/
def shadeTileAll (k : Canvas) (bank : List (BitVec 128)) (tx ty : Nat) : List (BitVec 128) :=
  let met := bank.filter (shadeMeets k tx ty)
  [7, 6, 5, 4, 3, 2, 1, 0].flatMap fun pr => met.filter fun o => shadePriority o == pr

/-- Objects are left out of the tile (R122). -/
def shadeTileOverflows (k : Canvas) (bank : List (BitVec 128)) (tx ty : Nat) : Bool :=
  decide ((shadeTileAll k bank tx ty).length > 16)

/-- The code of canvas sample (i, j) under a tile's list (R121). -/
def shadeCode (k : Canvas) (objs : List (BitVec 128)) (i j : Nat) : Nat :=
  objs.foldl (fun t o => min t (255 - shadeRamp o (max (shadeDx k o i) (shadeDy k o j)).toNat)) 255

/-- The code of a canvas sample from a bank: the first 16 objects of its tile's list (R121, R122). -/
def shadeSample (k : Canvas) (bank : List (BitVec 128)) (i j : Nat) : Nat :=
  shadeCode k ((shadeTileAll k bank (i / 32) (j / 32)).take 16) i j

end Sys2Proof.Machine
end

