-- ==== Sys2Proof/Machine/Layers.lean ====
section
/-!
DEFINITION. Layers.lean: stage 1 at an output pixel (R106 to R111), blending (R117) and the planner's figures
(R112, R113, R142).
-/

namespace Sys2Proof.Machine

open Sys2Proof

/-- Kernels of a layer on an output tile: the stretches of the two axes, and whether either axis is beyond
4:1 (R106). -/
structure TileKernel where
  u : Nat
  v : Nat
  aliased : Bool
  deriving DecidableEq, Repr

/-- The kernels of layer `n` on output tile (row, col) of a port (R106). -/
def tileKernel (s : State) (t : Table) (n : Nat) (p : Port) (row col : Nat) : TileKernel :=
  let m := minification s t n p row col
  ⟨stretchOf m.1, stretchOf m.2, decide (m.1 > 1024) || decide (m.2 > 1024)⟩

/-- Columns and rows of what a layer reads: its surface, or the canvas for the generator (R118). -/
def sourceSize (s : State) (t : Table) (n : Nat) : Nat × Nat :=
  if isGenerator s t n then canvasSize s
  else match layerSurface s t n with
    | some f => (surfaceValue s f 2, surfaceValue s f 3)
    | none => (0, 0)

/-- The layer draws: it reads the generator or a valid surface (R77, R118). -/
def layerDraws (s : State) (t : Table) (n : Nat) : Bool :=
  isGenerator s t n || (layerSurface s t n).isSome

/-- A sample position lies in the source. -/
def inSource (size : Nat × Nat) (i j : Int) : Bool :=
  decide (0 ≤ i) && decide (i < size.1) && decide (0 ≤ j) && decide (j < size.2)

/-- The layer is served by the shade path, which needs no line buffers (R118). -/
def onShadePath (s : State) (t : Table) (n : Nat) : Bool := n == 6 && isGenerator s t n

/-- The eight pixels that leave with pixel (c, r) in one clock (R94, R108). -/
def pixelGroup (c r : Nat) : List (Nat × Nat) := (List.range 8).map fun k => (c / 8 * 8 + k, r)

/-- The windows of the group of pixel (c, r) on the two axes (R108). -/
def groupWindows (s : State) (t : Table) (n : Nat) (p : Port) (k : TileKernel) (c r : Nat) :
    Option Int × Option Int :=
  if onShadePath s t n then (none, none)
  else
    let qs := (pixelGroup c r).filterMap fun q => sourcePos s t n p q.1 q.2
    (lineWindow 2048 (qs.flatMap fun q => (taps k.u q.1).map (·.1)),
     lineWindow 8 (qs.flatMap fun q => (taps k.v q.2).map (·.1)))

/-- The taps of a pixel on the two axes, after R108. -/
def pixelTaps (k : TileKernel) (w : Option Int × Option Int) (q : Int × Int) :
    List (Int × Nat) × List (Int × Nat) :=
  ((taps k.u q.1).map (clampTap 2048 w.1), (taps k.v q.2).map (clampTap 8 w.2))

/-- The samples that a pixel draws with a weight (R96). -/
def pixelSamples (k : TileKernel) (w : Option Int × Option Int) (q : Int × Int) : List (Int × Int) :=
  let e := pixelTaps k w q
  e.2.flatMap fun v => e.1.map fun u => (u.1, v.1)

/-- Pixels of an output tile, or of one half of it: rows from `r0`, `h` of them. -/
def tilePixels (row col r0 h : Nat) : List (Nat × Nat) :=
  (List.range h).flatMap fun j => (List.range 32).map fun i => (32 * col + i, 32 * row + r0 + j)

/-- The samples inside its source that layer `n` draws for pixel (c, r). -/
def drawnSamples (s : State) (t : Table) (n : Nat) (p : Port) (k : TileKernel) (c r : Nat) :
    List (Int × Int) :=
  match sourcePos s t n p c r with
  | none => []
  | some q => (pixelSamples k (groupWindows s t n p k c r) q).filter fun e =>
      inSource (sourceSize s t n) e.1 e.2

/-- Tile number of a sample in a source with `cols` tile columns (R81). -/
def tileOfSample (cols : Nat) (e : Int × Int) : Nat := (e.1 / 32).toNat + (e.2 / 32).toNat * cols

/-- Tile columns of what a layer reads. -/
def sourceCols (s : State) (t : Table) (n : Nat) : Nat := ((sourceSize s t n).1 + 31) / 32

/-- A number is put in a list that does not hold it yet. -/
def addNew (xs : List Nat) (x : Nat) : List Nat := if xs.contains x then xs else x :: xs

/-- Source tiles that layer `n` uses for the pixels of an output tile (R96). -/
def tilesUsed (s : State) (t : Table) (n : Nat) (p : Port) (row col r0 h : Nat) : List Nat :=
  if layerDraws s t n then
    let k := tileKernel s t n p row col
    let cols := sourceCols s t n
    (tilePixels row col r0 h).foldl (fun acc q =>
      (drawnSamples s t n p k q.1 q.2).foldl (fun acc e => addNew acc (tileOfSample cols e)) acc) []
  else []

/-- Some pixel of a port draws from a source tile of layer `n` (R96). -/
def tileUsed (s : State) (t : Table) (n : Nat) (p : Port) (tile : Nat) : Bool :=
  (List.range 16).any fun row => (List.range 32).any fun col => (tilesUsed s t n p row col 0 32).contains tile

/-- The layer draws a sample inside its source for some pixel of an output tile. -/
def tileDrawn (s : State) (t : Table) (n : Nat) (p : Port) (k : TileKernel) (row col r0 h : Nat) : Bool :=
  (tilePixels row col r0 h).any fun q => !(drawnSamples s t n p k q.1 q.2).isEmpty

/-- The output tile is flagged aliasing for layer `n` (R106, R108). A tile in which the layer draws nothing is not: the
symbol example of chapter 4 counts none of them (log 76). -/
def tileAliased (s : State) (t : Table) (n : Nat) (p : Port) (row col r0 h : Nat) : Bool :=
  layerDraws s t n &&
    (let k := tileKernel s t n p row col
     tileDrawn s t n p k row col r0 h && (k.aliased || (tilePixels row col r0 h).any fun q =>
       q.1 % 8 == 0 &&
         (let w := groupWindows s t n p k q.1 q.2
          w.1.isSome || w.2.isSome)))

/-! ## Stage 1 (R111) -/

/-- A surface can be read: its pinned copy, or DRAM that has not failed (R31, R97). -/
def fetchable (s : State) (f : Nat) : Bool := (pinnedTiles s f).isSome || dramReadable s

/-- The entry of the decoded tile store is that of tile `tile` of surface `f`, for layer `n` and port `p` of the frame in
composition (R87). -/
def StoredTile.isFor (x : StoredTile) (s : State) (p : Port) (n f tile : Nat) : Bool :=
  x.frame == s.compose.frame && x.port == p && x.layer == n && x.surface == f && x.tile == tile

/-- What the decoded tile store holds for a source tile of a layer, surface and port (R87). -/
def storedTile (s : State) (p : Port) (n f tile : Nat) : Option TileStatus :=
  (s.fetch.store.find? fun x => x.isFor s p n f tile).map (·.status)

/-- The samples of a tile that has passed its check. -/
def TileStatus.samples : TileStatus → Option (List Nat)
  | .decoded xs => some xs
  | .decodedAgain xs => some xs
  | _ => none

/-- A source tile is neither decoded nor failed for good. -/
def TileStatus.isOpen (x : Option TileStatus) : Bool :=
  match x with
  | none => true
  | some .failedOnce => true
  | _ => false

/-- A source sample of layer `n`: linear light and coverage (R75, R87, R111, R118). A tile that is not in the
store counts as transparent here; a beam-critical layer's missing tile holds the output tile instead (R89). -/
def sourceSample (s : State) (t : Table) (bank : List (BitVec 128)) (n : Nat) (p : Port) (e : Int × Int) :
    Nat × Nat :=
  if !inSource (sourceSize s t n) e.1 e.2 then (0, 0)
  else if isGenerator s t n then
    (tone (manifestValue s t (0x3200 + n) 1)
      (shadeSample s.dict.canvas bank e.1.toNat e.2.toNat * 257), 1)
  else match layerSurface s t n with
    | none => (0, 0)
    | some f =>
      if !fetchable s f then (0, 0)
      else match (storedTile s p n f (tileOfSample (tileCols s f) e)).bind (·.samples) with
      | some xs =>
        let x := nth 0 xs ((e.2 % 32).toNat * 32 + (e.1 % 32).toNat)
        if covered s t n f x then (tone (manifestValue s t (0x3200 + n) 1) (normalise s f x), 1) else (0, 0)
      | none => (0, 0)

/-- Weighted sums of value and coverage over a pixel's taps (R107). -/
def resample (s : State) (t : Table) (bank : List (BitVec 128)) (n : Nat) (p : Port)
    (us vs : List (Int × Nat)) : Nat × Nat :=
  let sums := vs.foldl (fun acc v =>
    us.foldl (fun acc u =>
      let x := sourceSample s t bank n p (u.1, v.1)
      (acc.1 + u.2 * v.2 * x.1, acc.2 + u.2 * v.2 * x.2 * 255)) acc) (0, 0)
  (min 65535 (roundDivNat sums.1 262144), min 255 (roundDivNat sums.2 262144))

/-- Stage 1 of layer `n` at pixel (c, r) with a Toll scale: value and coverage (R111). -/
def stage1 (s : State) (t : Table) (bank : List (BitVec 128)) (scale n : Nat) (p : Port) (k : TileKernel)
    (c r : Nat) : Nat × Nat :=
  match sourcePos s t n p c r with
  | none => (0, 0)
  | some q =>
    let e := pixelTaps k (groupWindows s t n p k c r) q
    let x := resample s t bank n p e.1 e.2
    let v := min 65535 (roundDivNat (x.1 * layerValue s t n 8) 256)
    (min 65535 (roundDivNat (v * scale) 32768), x.2)

/-! ## Stages 2 and 3 (R117) -/

/-- One blend (R117). -/
def blend (op p v cv : Nat) : Nat :=
  match op with
  | 0 => min 65535 (v + roundDivNat (p * (255 - cv)) 255)
  | 1 => min 65535 (p + v)
  | 2 => max p v
  | _ => roundDivNat (p * min 65535 (v + roundDivNat (65535 * (255 - cv)) 255)) 65535

/-- A layer's blend operation; L6 always multiplies (R116). -/
def blendOf (s : State) (t : Table) (n : Nat) : Nat := if n = 6 then blendMultiply else layerValue s t n 0x0C

/-- The priority class of a layer; L7 is always P0 (R22, R116). -/
def classOf (s : State) (t : Table) (n : Nat) : Nat := if n = 7 then 0 else layerValue s t n 0x0D % 4

/-- What a pixel is after stage 3, with the class that owns it for the Toll and whether the floor exceeds what
stage 2 gave. -/
structure Blended where
  level : Nat
  owner : Nat
  deriving DecidableEq, Repr

/-! ## The planner (R112, R113, R142) -/

/-- Source tiles that a layer uses for a tile row of a port. -/
def rowTiles (s : State) (t : Table) (n : Nat) (p : Port) (row : Nat) : List Nat :=
  (List.range 32).foldl (fun acc col => (tilesUsed s t n p row col 0 32).foldl addNew acc) []

/-- Source tiles of each tile row of a port. -/
def portTiles (s : State) (t : Table) (n : Nat) (p : Port) : List (List Nat) :=
  if layerDraws s t n then (List.range 16).map (rowTiles s t n p) else List.replicate 16 []

/-- The tiles of each row that no row above has used: those decoded for it (R87, R142). -/
def newTiles : List Nat → List (List Nat) → List Nat
  | _, [] => []
  | seen, r :: rs => (r.filter fun x => !seen.contains x).length :: newTiles (r.foldl addNew seen) rs

/-- Output pixels of a port at which a layer draws a sample inside its source (R112). -/
def portCoverage (s : State) (t : Table) (n : Nat) (p : Port) : Nat :=
  if layerDraws s t n then
    sumOf ((List.range 16).map fun row => sumOf ((List.range 32).map fun col =>
      let k := tileKernel s t n p row col
      ((tilePixels row col 0 32).filter fun q => !(drawnSamples s t n p k q.1 q.2).isEmpty).length))
  else 0

/-- One layer's figures: its tiles row by row and those decoded row by row, all ports together, and its
coverage. -/
structure LayerFigures where
  held    : List Nat
  decoded : List Nat
  cover   : Nat
  deriving DecidableEq, Repr

/-- Sums of lists of 16 entries. -/
def addRows (a b : List Nat) : List Nat := a.zipWith (· + ·) b

/-- The figures of a layer (R112). -/
def layerFigures (s : State) (t : Table) (n : Nat) : LayerFigures :=
  let zero := List.replicate 16 0
  (canvasPorts s).foldl (fun f p =>
    let ts := portTiles s t n p
    ⟨addRows f.held (ts.map (·.length)), addRows f.decoded (newTiles [] ts),
      f.cover + portCoverage s t n p⟩) ⟨zero, zero, 0⟩

/-- The planner's figures of a copy of the Manifest (R112, R113, R142). Tiles that the shade path generates
count nowhere (R118). -/
def figuresOf (s : State) (t : Table) : Figures :=
  let fs := (List.range 8).map fun n =>
    if onShadePath s t n then ⟨List.replicate 16 0, List.replicate 16 0, 0⟩ else layerFigures s t n
  let area := fs.map fun f => sumOf f.decoded * 1024
  let gen := (List.range 8).map (isGenerator s t)
  let at2 := fun (g : Nat → Nat) => (List.range 4).map fun e => g e + g (e + 4)
  let fig := fun n => nth ⟨[], [], 0⟩ fs n
  { fetchArea := sumOf ((List.range 8).map fun n => if nth false gen n then 0 else nth 0 area n)
    engineArea := at2 fun n => nth 0 area n
    coverage := at2 fun n => (fig n).cover
    workingSet := maxOf 0 ((List.range 4).flatMap fun e => addRows (fig e).held (fig (e + 4)).held)
    rowDecode := 1024 * maxOf 0
      ((List.range 4).flatMap fun e => addRows (fig e).decoded (fig (e + 4)).decoded)
    layerArea := area }

/-- C of R113: the canvas size of the variant. -/
def canvasLimit (s : State) : Nat := if s.variant = .sl1ma then 1048576 else 2097152

/-- A limit of R113 is exceeded. -/
def overBudget (s : State) (f : Figures) : Bool :=
  let c := canvasLimit s
  decide (f.fetchArea > 4 * c) || f.engineArea.any (fun x => decide (2 * x > 3 * c))
    || f.coverage.any (fun x => decide (2 * x > 3 * c)) || decide (f.workingSet > 768)

/-- The limit of R142. -/
def rowDecodeLimit : Nat := 196608

/-- A multiply layer has a class other than P0 (R116). -/
def multiplyOffP0 (s : State) (t : Table) : Bool :=
  (List.range 7).any fun n => blendOf s t n == blendMultiply && classOf s t n != 0

/-- The planner's verdict on a commit, as ManifestLastResult (R134): of several failed checks the lowest code
(log 31). -/
def judgeCommit (s : State) : Nat :=
  let f := s.manifest.stagedFigures
  if overBudget s f then 1
  else if s.manifest.racing && decide (f.rowDecode > rowDecodeLimit) then 2
  else if multiplyOffP0 s s.manifest.staged then 3
  else 0

end Sys2Proof.Machine
end

