-- ==== Sys2Proof/Machine/Drive.lean ====
section
/-!
DEFINITION. Drive.lean: efficacy curves, operating steps, ceiling, safe beam, stages 5 and 6 (R129 to R131,
R150 to R164, R390, R391, R29).
-/

namespace Sys2Proof.Machine

open Sys2Proof

/-! ## Efficacy curve and steps (R154 to R156) -/

/-- A point of an efficacy curve: code, efficacy in 0.1 lm/W, Vf in mV (R155). -/
structure CurvePoint where
  code : Nat
  eff  : Nat
  vf   : Nat
  deriving DecidableEq, Repr

/-- Point `k` of a curve (R155). -/
def curvePoint (curve k : Nat) : CurvePoint :=
  ⟨byteOf curve (8 * k), halfOf curve (4 * k + 1), halfOf curve (4 * k + 2)⟩

/-- The points of a curve, lowest code first. -/
def curvePoints (curve : Nat) : List CurvePoint := (List.range 16).map (curvePoint curve)

/-- Vf between the neighbouring points of a code, interpolated linearly (R155), to the nearest mV
(log 32). -/
def interpolateVf (code : Nat) : List CurvePoint → Option Nat
  | a :: b :: rest =>
    if a.code = code then some a.vf
    else if a.code < code ∧ code < b.code then
      some (a.vf + roundDiv (((b.vf : Int) - a.vf) * (code - a.code : Nat)) (b.code - a.code)).toNat
    else interpolateVf code (b :: rest)
  | [a] => if a.code = code then some a.vf else none
  | [] => none

/-- Vf(c) in mV (R155); free below the first point. -/
def vfOf (curve code : Nat) : Nat :=
  (interpolateVf code (curvePoints curve)).getD (Config.curveVf curve code).toNat

/-- η(c) in 0.1 lm/W: that of a point; free elsewhere (R155). -/
def effOf (curve code : Nat) : Nat :=
  match (curvePoints curve).find? fun q => q.code == code with
  | some q => q.eff
  | none => (Config.curveEfficacy curve code).toNat

/-- Φ(c) (R154). -/
def phi (curve code : Nat) : Nat := code * vfOf curve code * effOf curve code

/-- n of a code, 24 bits (R156); a larger one saturates (R9). -/
def stepN (curve corr code : Nat) : Nat :=
  min 0xFFFFFF (roundDivNat (phi curve 255 * 65536 * corr) (phi curve code * 32768))

/-- The highest efficacy of a curve. -/
def topEfficacy (curve : Nat) : Nat := maxOf 0 ((curvePoints curve).map (·.eff))

/-- The points from the first of highest efficacy up (R156). -/
def stepPoints (top : Nat) : List CurvePoint → List CurvePoint
  | [] => []
  | q :: qs => if q.eff = top then q :: qs else stepPoints top qs

/-- The operating steps of a curve (R156). -/
def stepsOf (curve corr : Nat) : List ZonePair :=
  (stepPoints (topEfficacy curve) (curvePoints curve)).map fun q => ⟨q.code, stepN curve corr q.code⟩

/-- The efficacy curve of a port (R155). -/
def curveOf (s : State) (p : Port) : Nat := cfg s (0x4010 + p.num) 1

/-- The step table in force (R157): before the first one is built, that of the default curve (R183). -/
def stepsInForce (s : State) (p : Port) : List ZonePair :=
  let z := s.compose.zones.get p
  if z.steps.isEmpty then stepsOf defaultCurve 0x8000 else z.steps

/-- OperatingSteps reports the table that the CP has written last (R156, R183). -/
def stepsWritten (s : State) (p : Port) : List ZonePair :=
  let z := s.compose.zones.get p
  if z.stepsNext.isEmpty then stepsInForce s p else z.stepsNext

/-- The fields of a curve are in range, its codes rise strictly, and the last is 255 (R155). -/
def curveShaped (curve : Nat) : Bool :=
  let fields := (List.range 16).all fun k =>
    byteOf curve (8 * k + 1) == 0 && halfOf curve (4 * k + 3) == 0
      && decide (1 ≤ byteOf curve (8 * k)) && decide (1 ≤ halfOf curve (4 * k + 1))
      && decide (500 ≤ halfOf curve (4 * k + 2)) && decide (halfOf curve (4 * k + 2) ≤ 6000)
  let rising := (List.range 15).all fun k => decide (byteOf curve (8 * k) < byteOf curve (8 * (k + 1)))
  fields && rising && byteOf curve 120 == 255

/-- A curve is acceptable (R155). -/
def curveValid (corr curve : Nat) : Bool :=
  curveShaped curve
    && (stepPoints (topEfficacy curve) (curvePoints curve)).all fun q =>
      decide (roundDivNat (phi curve 255 * 65536 * corr) (phi curve q.code * 32768) ≤ 0xFFFFFF)

/-- A code of ZoneFixedCode equals that of a curve point (R159). -/
def codeOnCurve (s : State) (p : Port) (code : Nat) : Bool :=
  (curvePoints (curveOf s p)).any fun q => q.code == code

/-- FullScaleCorrection of a port (R156). -/
def correctionOf (s : State) (p : Port) : Nat := (s.drive.fullScale.get p).correction

/-- The pair of a code: its step in force, or the same formula for a code off the table (R156, R159,
log 33). -/
def pairOf (s : State) (p : Port) (code : Nat) : ZonePair :=
  match (stepsInForce s p).find? fun z => z.code == code with
  | some z => z
  | none => ⟨code, stepN (curveOf s p) (correctionOf s p) code⟩

/-- The duty that a peak needs at a step (R158). -/
def needOf (psel n : Nat) : Nat := (psel * n * 4095 + 2 ^ 32 - 1) / 2 ^ 32

/-- The selection of R158. -/
def selectStep (steps : List ZonePair) (psel : Nat) : ZonePair :=
  match steps.find? fun z => decide (needOf psel z.n ≤ 3767) with
  | some z => z
  | none => steps.getLastD ⟨255, 65536⟩

/-- Efficacy tracking is in force on a port (R159). -/
def trackingOn (s : State) (p : Port) : Bool := cfg s (0x4100 + p.num) 1 == 0

/-- The zone of pixel (c, r) (R158). -/
def zoneAt (c r : Nat) : Nat := c / 128 + 8 * (r / 128)

/-! ## Safe beam (R29) -/

/-- The safe-beam area copy as a number; 0 where there is none. -/
def safeCopy (s : State) : Nat := s.safeBeam.copy.getD 0

/-- `n` bytes of an area at an offset. -/
def areaField (area off n : Nat) : Nat := bitsOf area (8 * off) (8 * n)

/-- The pattern of an area is valid (R29). -/
def patternValid (area : Nat) : Bool :=
  areaField area 0 4 == 0x41454253 && areaField area 4 2 == 1 && areaField area 6 10 == 0
    && areaField area 0x6398 4 == crc32Of 0x6398 area
    && (List.range 8580).all (fun k => decide (areaField area (0x90 + 2 * k) 2 ≤ 4095))
    && (List.range 4096).all (fun k => decide (areaField area (0x4398 + 2 * k) 2 ≤ 512))

/-- The factory ceiling of an area is valid (R391). -/
def factoryValid (area : Nat) : Bool :=
  areaField area 0x859C 4 == crc32Of 0x2200 (area / 2 ^ (8 * 0x639C))

/-- Zone code of the safe beam (R29). -/
def safeCode (s : State) (p : Port) (z : Nat) : Nat :=
  if s.safeBeam.valid then areaField (safeCopy s) (0x10 + 32 * p.num + z) 1 else 0

/-- Node (i, j) of the grid of a port (R29). -/
def gridAt (area : Nat) (p : Port) (i j : Nat) : Nat :=
  areaField area (0x90 + 2 * (2145 * p.num + 65 * j + i)) 2

/-- Index of pixel (c, r) of a port in the calibration map (R150). -/
def pixelIndex (p : Port) (c r : Nat) : Nat := p.num * 524288 + r * 1024 + c

/-- The duty image of the safe beam (R29). -/
def safeDuty (s : State) (p : Port) (c r : Nat) : Nat :=
  let a := safeCopy s
  if !s.safeBeam.valid || s.safeBeam.excluded.contains (pixelIndex p c r)
      || safeCode s p (zoneAt c r) == 0
      || decide (r < areaField a (0x4398 + 2 * (1024 * p.num + c)) 2) then 0
  else
    let i := c / 16
    let fx := c % 16
    let j := r / 16
    let fy := r % 16
    roundDivNat ((16 - fx) * (16 - fy) * gridAt a p i j + fx * (16 - fy) * gridAt a p (i + 1) j
      + (16 - fx) * fy * gridAt a p i (j + 1) + fx * fy * gridAt a p (i + 1) (j + 1)) 256

/-- The 1,024 duties of a row of the safe beam. -/
def safeRow (s : State) (p : Port) (r : Nat) : List Nat := (List.range 1024).map fun c => safeDuty s p c r

/-! ## Ceiling (R129 to R131, R390, R391) -/

/-- Code of ceiling cell (i, j) of a port: of the written set, or of the factory map (R129, R391). -/
def cellCode (s : State) (p : Port) (i j : Nat) : Nat :=
  if s.ceiling.source = 0 then
    byteOf (tableGet (defaultOf s (0x7110 + p.num) j) (objKey (0x7110 + p.num) j) s.ceiling.written) i
  else areaField (safeCopy s) (0x639C + 2048 * p.num + 64 * j + i) 1

/-- A part of the ceiling has failed its CRC and is not restored (R130). -/
def isBadPart (s : State) (x : CeilingPart) : Bool := s.ceiling.bad.any fun b => b.part == x

/-- Entry of the ceiling table; 0 while no factory ceiling is valid (R391). -/
def ceilingEntry (s : State) (code : Nat) : Nat :=
  if s.ceiling.source ≥ 2 then 0
  else if s.ceiling.source = 0 then
    halfOf (tableGet (defaultOf s 0x7101 1) (objKey 0x7101 1) s.ceiling.written) code
  else areaField (safeCopy s) (0x839C + 2 * code) 2

/-- The ceiling in force of pixel (c, r): none outside SF1 (R129, R391). -/
def ceilingInForce (s : State) (p : Port) (c r : Nat) : Option Nat :=
  let code := cellCode s p (c / 16) (r / 16)
  if code = 0xFF then none else some (ceilingEntry s code)

/-- The ceiling that the clamp takes for pixel (c, r): 0 where its cell row failed its CRC, and in SF1 where the table did
(R130). -/
def ceilingAt (s : State) (p : Port) (c r : Nat) : Option Nat :=
  if isBadPart s (.row p (r / 16)) then some 0
  else (ceilingInForce s p c r).map fun v => if isBadPart s .table then 0 else v

/-! ## Calibration word (R150) -/

/-- The calibration word of a new pixel: Gain 1.0, TrimImage 0x20 (R150). -/
def defaultWord : BitVec 32 := 0x80080000

/-- The calibration word of a pixel index (R150). -/
def calWord (s : State) (x : Nat) : BitVec 32 := getEntry defaultWord x s.drive.calMap

/-- Gain (R150). -/
def wordGain (w : BitVec 32) : Nat := bitsOf w.toNat 20 12
/-- TrimImage (R150). -/
def wordTrim (w : BitVec 32) : Nat := bitsOf w.toNat 14 6
/-- Age (R150). -/
def wordAge (w : BitVec 32) : Nat := bitsOf w.toNat 6 8
/-- Excluded (R150). -/
def wordExcluded (w : BitVec 32) : Bool := bitOf w.toNat 5
/-- Boost (R150): above 16 acts as 16. -/
def wordBoost (w : BitVec 32) : Nat := min (bitsOf w.toNat 0 5) 16

/-- A calibration word of its fields (R150). -/
def makeWord (gain trim age : Nat) (excluded : Bool) (boost : Nat) : BitVec 32 :=
  BitVec.ofNat 32 (gain % 4096 * 2 ^ 20 + trim % 64 * 2 ^ 14 + age % 256 * 2 ^ 6 + ofBool excluded * 32 + boost % 32)

/-! ## Stages 5 and 6 (R151, R152) -/

/-- The boosted level of a pixel (R151, R25). -/
def boosted (p boost : Nat) (ceiling : Option Nat) : Nat :=
  let pb := min 65535 (roundDivNat (p * (64 + boost)) 64)
  match ceiling with
  | some v => min pb (max p v)
  | none => pb

/-- Demand of a level at a gain, u2.16 (R151). -/
def demandOf (pb gain : Nat) : Nat := min 0x3FFFF (roundDivNat (pb * gain) 2048)

/-- The demand of a pixel (R151). -/
def pixelDemand (w : BitVec 32) (p : Nat) (ceiling : Option Nat) : Nat :=
  if wordExcluded w then 0 else demandOf (boosted p (wordBoost w) ceiling) (wordGain w)

/-- The drive level of a demand with 12 fraction bits, a 36-bit field (R151). -/
def driveLevel (demand n : Nat) : Nat := roundDivNat (demand * n * 4095) (2 ^ 20) % 2 ^ 36

/-- The duty of a level at a threshold (R152). -/
def dutyOf (level t : Nat) : Nat := min 4095 ((level + t) / 4096)

/-- ceiling_duty (R152): the ceiling through stages 5 and 6 without boost and dither. -/
def ceilingDuty (w : BitVec 32) (n ceiling : Nat) : Nat :=
  dutyOf (driveLevel (if wordExcluded w then 0 else demandOf ceiling (wordGain w)) n) 0

/-- Some exposure window is enabled (R163, R166). -/
def guardEnabled (s : State) : Bool := s.drive.windows.any fun w => w.getLsbD 31

/-- The dither offset of a frame (R163). -/
def ditherOffset (s : State) (epoch : Nat) : Nat :=
  if guardEnabled s && cfg s 0x4000 3 == 1 then 0 else epoch * 2531 % 4096

/-- A list with `x` put in at place `i`, at the end where the list is shorter. -/
def putAt (i x : Nat) : List Nat → List Nat
  | [] => [x]
  | y :: ys => match i with
    | 0 => x :: y :: ys
    | i + 1 => y :: putAt i x ys

/-- The first `n` values of the dither matrix, each once: the places are the part's own (R163). -/
def ditherList : Nat → List Nat
  | 0 => []
  | n + 1 => putAt (Config.ditherPlace n % (n + 1)) n (ditherList n)

/-- Entry `i` of the factory dither matrix, in raster order (R163). -/
def ditherEntry (i : Nat) : Nat := nth 0 (ditherList 4096) i

/-- The dither threshold of a pixel (R163). -/
def threshold (s : State) (p : Port) (c r epoch : Nat) : Nat :=
  if cfg s 0x4000 1 = 1 then 2048
  else
    let o := ditherOffset s epoch
    ditherEntry ((r + o / 64) % 64 * 64 + (c + o % 64 + 16 * p.num) % 64)

/-- The duty of a pixel after stages 5 and 6 (R152). -/
def pixelDuty (w : BitVec 32) (demand n t : Nat) (ceiling : Option Nat) : Nat :=
  let d := dutyOf (driveLevel demand n) t
  match ceiling with
  | some v => min d (ceilingDuty w n v)
  | none => d

/-- The pixel is a zone clip (R152). -/
def isClip (demand n : Nat) : Bool := decide (driveLevel demand n > 4095 * 4096)

/-- A duty rescaled from one code's light to another's (R90, R148, R154): a source that was unlit gives 0. -/
def rescale (curve src now duty : Nat) : Nat :=
  if src = 0 ∨ phi curve now = 0 then 0
  else min 4095 (roundDivNat (duty * phi curve src) (phi curve now))

/-! ## Sub-periods (R164 to R167) -/

/-- One step of the Galois LFSR with mask 0xB400 (R165). -/
def lfsrStep (x : BitVec 16) : BitVec 16 :=
  if x.getLsbD 0 then (x >>> 1) ^^^ 0xB400 else x >>> 1

/-- A window meets sub-period `k` (R166, R167). -/
def windowMeets (w : BitVec 32) (k : Nat) : Bool :=
  let start := bitsOf w.toNat 16 12
  let len := bitsOf w.toNat 0 12 + 1
  w.getLsbD 31 &&
    (decide ((256 * k + 4096 - start) % 4096 < len) || decide ((start + 4096 - 256 * k) % 4096 < 256))

/-- GuardedSubPeriods (R167). -/
def guardedMap (s : State) : Nat :=
  packLe 1 ((List.range 16).map fun k => ofBool (s.drive.windows.any fun w => windowMeets w k))

/-- The seed of sub-period `k` after the LFSR has stepped for it (R165, R167). -/
def seedOf (s : State) (k : Nat) (lfsr : BitVec 16) : Nat :=
  if bitOf (guardedMap s) k then cfg s 0x4400 5
  else if cfg s 0x4000 4 = 1 then cfg s 0x4000 5
  else lfsr.toNat % 256

end Sys2Proof.Machine
end

