-- ==== Sys2Proof/Machine/Fetch.lean ====
section
/-!
DEFINITION. Fetch.lean: the fetch engines' commands: tile checks (R87 to R92), pinning (R97 to R99), the mesh
inverter (R102) and the planner (R113).
-/

namespace Sys2Proof.Machine

open Sys2Proof

/-! ## Tile checks -/

/-- Address field of kinds 0x06 to 0x08: layer, surface, tile (R354). -/
def tileAddress (n f tile : Nat) : Nat := n * 2 ^ 21 + f * 2 ^ 15 + tile

/-- LastFailedTile (R114). -/
def failedTileWord (n f tile : Nat) : BitVec 32 := BitVec.ofNat 32 (n * 2 ^ 29 + f * 2 ^ 20 + tile)

/-- A kind of the fetch engines is raised once per frame and layer (R92). -/
def raisePerLayer (k n f tile : Nat) (s : State) : State :=
  if s.fetch.raised.contains (s.compose.frame, k, n) then s
  else raiseKind k { address := tileAddress n f tile }
    { s with fetch := { s.fetch with raised := (s.compose.frame, k, n) :: s.fetch.raised } }

/-- Writes an entry of the decoded tile store for the frame in composition (R87). -/
def putTile (p : Port) (n f tile : Nat) (x : TileStatus) (s : State) : State :=
  { s with fetch := { s.fetch with
      store := ⟨s.compose.frame, p, n, f, tile, x⟩ :: s.fetch.store.filter fun y => !y.isFor s p n f tile } }

/-- LastFailedTile takes a word (R89). -/
def setLastFailed (w : BitVec 32) (s : State) : State := { s with fetch := { s.fetch with lastFailed := w } }

/-- TransparentTileCount counts a decorative tile that is transparent (R89). -/
def countTransparent (s : State) : State :=
  { s with fetch := { s.fetch with transparentCount := count32 s.fetch.transparentCount } }

/-- What a source tile that failed for good brings (R89): its position, and its counter and kind by the layer's kind. -/
def noteFailed (n f tile : Nat) (s : State) : State :=
  let s1 := setLastFailed (failedTileWord n f tile) s
  if isCritical s s.compose.manifest n then raisePerLayer 0x08 n f tile s1
  else raisePerLayer 0x07 n f tile (countTransparent s1)

/-- A source tile failed for good (R89): a decorative tile is transparent and counted, a beam-critical one holds
the output tiles that draw from it. -/
def failTile (p : Port) (n f tile : Nat) (s : State) : State := noteFailed n f tile (putTile p n f tile .failed s)

/-- A source tile is late (R91): it counts, and is handled as one that failed its re-fetch. -/
def lateTile (p : Port) (n f tile : Nat) (s : State) : State :=
  failTile p n f tile { s with fetch := { s.fetch with lateCount := count32 s.fetch.lateCount } }

/-- The surface of layer `n` whose source tile the frame in composition reads for port `p` (R31, R92, R96). -/
def readingSurface (s : State) (p : Port) (n tile : Nat) : Option Nat :=
  match layerSurface s s.compose.manifest n with
  | some f =>
    if fetchable s f && decide (tile < tileCount s f) && tileUsed s s.compose.manifest n p tile then some f else none
  | none => none

/-! ### The band or the frame before -/

/-- What governs the frame or the band in composition. -/
def runOf (s : State) : Run :=
  let c := s.compose
  ⟨c.frame, c.band, c.racing, c.freshMode, c.manifest, c.bank, c.scales, s.drive.calMap,
    s.fetch.buffers⟩

/-- The state with another frame or band in composition. -/
def enterRun (r : Run) (s : State) : State :=
  { s with
    compose := { s.compose with
      frame := r.frame, band := r.band, racing := r.racing, freshMode := r.freshMode, manifest := r.manifest
      bank := r.bank, scales := r.scales }
    drive := { s.drive with calMap := r.words }
    fetch := { s.fetch with buffers := r.buffers } }

/-- Work of the composer on a frame or band, after which what was in composition is so again. -/
def inRun (r : Run) (f : State → State) (s : State) : State := enterRun (runOf s) (f (enterRun r s))

/-- Work of the fetch engines on a source tile that the band before still needs, or else the frame or band in composition:
`due` says which has work to do (R87, R140). -/
def fetchWork (due : State → Bool) (f : State → State) (s : State) : State :=
  if !(s.compose.busy || s.compose.older.isSome) then s
  else
    match s.compose.older with
    | some r => if r.racing && due (enterRun r s) then inRun r f s else if due s then f s else s
    | none => if due s then f s else s

/-- The status of the tile that layer `n` reads for port `p`, under a condition on it. -/
def tileDue (p : Port) (n tile : Nat) (c : Option TileStatus → Bool) (s : State) : Bool :=
  match readingSurface s p n tile with
  | some f => c (storedTile s p n f tile)
  | none => false

/-- Work on the surface that layer `n` reads. -/
def onSurface (n : Nat) (g : Nat → State → State) (s : State) : State :=
  match layerSurface s s.compose.manifest n with
  | some f => g f s
  | none => s

/-- The buffer of a surface that the frame in composition reads (R79). -/
def bufferOf (s : State) (f : Nat) : Nat := getEntry (surfaceValue s f 7) f s.fetch.buffers

/-- The first decode of a source tile in a frame (R87, R88): a failed one waits for its re-fetch. -/
def decodeFirst (p : Port) (n tile : Nat) (flaws : List Flaw) (f : Nat) (s : State) : State :=
  putTile p n f tile (match readTile s f (bufferOf s f) tile flaws with
    | some xs => .decoded xs
    | none => .failedOnce) s

/-- The second decode of a source tile (R88, R89). -/
def decodeAgain (p : Port) (n tile : Nat) (flaws : List Flaw) (f : Nat) (s : State) : State :=
  match readTile s f (bufferOf s f) tile flaws with
  | some xs => raisePerLayer 0x06 n f tile
      (putTile p n f tile (.decodedAgain xs)
        { s with fetch := { s.fetch with refetchCount := count32 s.fetch.refetchCount } })
  | none => failTile p n f tile s

/-- TILE_DECODE_DONE (R87, R88, R96): the first decode of a source tile that the port uses. -/
def execTileDecodeDone (p : Port) (layer tile : Nat) (flaws : List Flaw) (s : State) :
    Host.Outcome State Fault Refusal :=
  .next (fetchWork (tileDue p layer tile (· == none)) (onSurface layer (decodeFirst p layer tile flaws)) s)

/-- TILE_REFETCH_DONE (R88, R89): the second decode of a tile that failed its first. -/
def execTileRefetchDone (p : Port) (layer tile : Nat) (flaws : List Flaw) (s : State) :
    Host.Outcome State Fault Refusal :=
  .next (fetchWork (tileDue p layer tile (· == some .failedOnce)) (onSurface layer (decodeAgain p layer tile flaws)) s)

/-- TILE_LATE_TIMEOUT (R91): the composer has waited 2 µs for a tile that is not in the store. -/
def execTileLateTimeout (p : Port) (layer tile : Nat) (s : State) : Host.Outcome State Fault Refusal :=
  .next (fetchWork (tileDue p layer tile TileStatus.isOpen) (onSurface layer fun f => lateTile p layer f tile) s)

/-- An uncorrectable word in a decoded tile (R359): its check fails, so that it is read again unless it has been (R88). -/
def spoilStatus : TileStatus → TileStatus
  | .decoded _ => .failedOnce
  | .decodedAgain _ => .failed
  | x => x

/-- The decoded tile store after an uncorrectable word in the tiles of a port, layer and tile number (R359). -/
def spoilTiles (p : Port) (n tile : Nat) (s : State) : State :=
  let hit := fun (x : StoredTile) => x.port == p && x.layer == n && x.tile == tile
  let s1 := { s with fetch := { s.fetch with
    store := s.fetch.store.map fun x => if hit x then { x with status := spoilStatus x.status } else x } }
  (s.fetch.store.filter fun x => hit x && spoilStatus x.status == .failed && x.status != .failed).foldl
    (fun s x => noteFailed n x.surface tile s) s1

/-- An uncorrectable word of a tile in a pinned surface (R359): what SRAM holds of the tile passes no check, until the surface
is pinned again. -/
def spoilPinned (f tile : Nat) (s : State) : State :=
  { s with fetch := { s.fetch with
      pins := s.fetch.pins.map fun x =>
        if x.surface = f then { x with inUse := x.inUse.map fun ts => modifyAt (fun _ => []) tile ts } else x } }

/-- A tile that has not been decoded and whose word in a layer cache is bad fails its first check (R359). -/
def spoilCached (p : Port) (n tile : Nat) (s : State) : State :=
  fetchWork (tileDue p n tile (· == none)) (onSurface n fun f => putTile p n f tile .failedOnce) s

/-- An uncorrectable word in the layer caches, the decoded tile store or a pinned surface (R359): of a tile that a layer of
the committed Manifest reads. -/
def spoilLayer (p : Port) (n tile : Nat) (s : State) : State :=
  let s1 := spoilTiles p n tile s
  match layerSurface s1 s1.manifest.committed n with
  | some f => if (pinnedTiles s1 f).isSome then spoilPinned f tile s1 else spoilCached p n tile s1
  | none => spoilCached p n tile s1

/-! ## Pinning (R97 to R99) -/

/-- Replaces the pin of a surface. -/
def putPin (x : Pin) (s : State) : State :=
  { s with fetch := { s.fetch with
      pins := x :: s.fetch.pins.filter fun y => y.surface != x.surface } }

/-- Bytes used by the pinned surfaces (R98). -/
def pinnedBytes (s : State) : Nat := sumOf (s.fetch.pins.map (·.bytes))

/-- Bytes used by the pinned surfaces other than `f`. -/
def otherPinnedBytes (s : State) (f : Nat) : Nat :=
  sumOf ((s.fetch.pins.filter fun p => p.surface != f).map (·.bytes))

/-- The limit of pinned surfaces: 2 MiB (R98). -/
def pinnedLimit : Nat := 2097152

/-- A pin request is refused, or its copy fails (R98): the surface stays in DRAM. The manual does not say whether a copy that
is in use stays; in the model it goes at once (log 166). -/
def refusePin (f : Nat) (s : State) : State := putPin { surface := f, state := 3 } s

/-- Writing 1 to PinRequest (R97, R98): a copy of the current buffer starts, or the request is refused at once. A copy that
is in use serves until the new one takes its place (log 79). -/
def pinSurface (f : Nat) (s : State) : State :=
  if surfaceValid s f && surfaceValue s f 5 == 1 && isOn s .pix && dramReadable s then
    putPin { (pinOf s f).getD { surface := f, state := 1 } with state := 1, next := none } s
  else refusePin f s

/-- Writing 0 to PinRequest (R98): the surface is unpinned from the next frame boundary; a copy under way or a
refusal ends. -/
def unpinSurface (f : Nat) (s : State) : State :=
  match pinOf s f with
  | none => s
  | some p =>
    if p.state = 2 || p.inUse.isSome then putPin { p with state := 2, next := none, leaving := true } s
    else { s with fetch := { s.fetch with pins := s.fetch.pins.filter fun y => y.surface != f } }

/-- The bytes of every tile of a surface as the copy reads them, each with its storage; none when a tile fails its
check (R97, R98). -/
def pinTiles (s : State) (f : Nat) : Option (List (List Byte)) :=
  let cols := tileCols s f
  (List.range (tileCount s f)).mapM fun t =>
    match dramTile s f (surfaceValue s f 7) t with
    | none => none
    | some bs =>
      match decodeTile (surfaceValue s f 1) (surfaceValue s f 8) (t % cols) (t / cols) bs with
      | none => none
      | some _ => some (bs.take (storedSize bs))

/-- Bytes of a pinned surface, its tile table included (R98). -/
def pinSize (ts : List (List Byte)) : Nat := sumOf (ts.map storedSize) + 4 * ts.length

/-- Every surface that a layer of class P0 to P2 of the committed Manifest names is pinned (R362). -/
def pinsCarry (s : State) : Bool :=
  (List.range 8).all fun n =>
    let t := s.manifest.committed
    isGenerator s t n || decide (classOf s t n = 3) || layerValue s t n 1 == 0xFF
      || pinState s (layerValue s t n 1) == 2

/-- The timer of kind 0x26 stops when pinned surfaces carry the beam (R362). -/
def handleByPins (s : State) : State := if pinsCarry s then handleKind 0x26 s else s

/-- The end of a copy (R97, R98): it is refused when a tile failed its check, when DRAM cannot be read or when the total
would exceed 2 MiB. -/
def finishPin (f : Nat) (s : State) : State :=
  match (if dramReadable s then pinTiles s f else none) with
  | some ts =>
    if otherPinnedBytes s f + pinSize ts ≤ pinnedLimit then
      putPin { (pinOf s f).getD { surface := f, state := 2 } with
        state := 2, next := some ts, bytes := pinSize ts } s
    else refusePin f s
  | none => refusePin f s

/-- PIN_COPY_DONE (R97, R98, R362). -/
def execPinCopyDone (surface : Nat) (s : State) : Host.Outcome State Fault Refusal :=
  .next (if pinState s surface = 1 then handleByPins (finishPin surface s) else s)

/-- A pin at a frame boundary (R97, R98): a finished copy comes into use, an unpinned one goes. -/
def pinAfter (p : Pin) : Option Pin :=
  let old := if p.leaving then none else p.inUse
  let p1 := { p with inUse := p.next.or old, next := none, leaving := false
                     bytes := if p.leaving && p.next.isNone then 0 else p.bytes }
  if p.leaving && p.next.isNone && p.state != 1 then none else some p1

/-- Pins at a frame boundary (R97, R98). -/
def pinBoundary (s : State) : State :=
  { s with fetch := { s.fetch with pins := s.fetch.pins.filterMap pinAfter } }

/-- A DRAM failure ends the copies under way (R98). -/
def failPins (s : State) : State :=
  { s with fetch := { s.fetch with
      pins := s.fetch.pins.map fun p => if p.state = 1 then { surface := p.surface, state := 3 } else p } }

/-! ## Mesh inverter (R102) -/

/-- Twice the signed area of cell (i, j) (R102). -/
def cellArea (m i j : Nat) : Int :=
  let x := meshCell m i j
  area2 x.a x.b x.d + area2 x.a x.d x.c

/-- The mesh folds: its cells' signed areas are not of one sign throughout (R102). A cell without area has no sign, and
folds (log 81). -/
def meshFolds (m : Nat) : Bool :=
  let as := (List.range 16).flatMap fun j => (List.range 32).map fun i => cellArea m i j
  !(as.all (fun a => decide (0 < a)) || as.all (fun a => decide (a < 0)))

/-- A mesh value as the inverter holds it: none for the identity. -/
def meshOf (m : Nat) : Option Nat := if m = identityMesh then none else some m

/-- Applies `f` to one port's warp. -/
def onWarp (p : Port) (f : Warp → Warp) (s : State) : State := { s with warp := s.warp.modify p f }

/-- A mesh goes to the inverter of a port (R102). -/
def startInversion (p : Port) (m : Nat) (s : State) : State :=
  onWarp p (fun w => { w with pending := some (meshOf m), inverting := true, done := false, refused := false }) s

/-- A mesh is refused, and the previous one stays in force (R102). -/
def refuseMesh (p : Port) (s : State) : State := onWarp p (fun w => { w with refused := true }) s

/-- MESH_INVERSION_DONE (R102): the inverse is ready, at least 2 ms after the write, and waits for the next frame
boundary. -/
def execMeshInversionDone (p : Port) (s : State) : Host.Outcome State Fault Refusal :=
  .next (onWarp p (fun w => if w.inverting then { w with inverting := false, done := true } else w) s)

/-- Inverse meshes that are ready take effect at a frame boundary (R102). -/
def warpBoundary (s : State) : State :=
  { s with warp := s.warp.map fun _ w =>
      match w.done, w.pending with
      | true, some m => { w with inForce := m, pending := none, done := false }
      | _, _ => w }

/-- The nodes of the outline of a forward mesh, in order around it (R101). -/
def meshOutline (m : Nat) : List (Int × Int) :=
  (List.range 32).map (fun i => meshNode m i 0) ++ (List.range 16).map (fun j => meshNode m 32 j)
    ++ (List.range 32).map (fun i => meshNode m (32 - i) 16) ++ (List.range 16).map (fun j => meshNode m 0 (16 - j))

/-- UncoveredPixelCount (R103): array pixels whose centre lies outside the image of the forward mesh. -/
def uncoveredPixels (m : Nat) : Nat :=
  let ps := meshOutline m
  sumOf ((List.range 512).map fun r => ((List.range 1024).filter fun c =>
    !inOutline ps ((256 * c + 128 : Nat), (256 * r + 128 : Nat))).length)

/-- InverseMeshError (R102): the largest deviation, on either axis, between the inverse mesh and the exact inverse at the
centres of its cells (log 80). -/
def inverseError (m : Nat) : Nat :=
  min 0xFFFF (maxOf 0 ((List.range 512).map fun k =>
    let a := k % 32
    let b := k / 32
    let node := fun i j => inverseNode (some m) (0, 0) i j
    let at' := fun (g : Int × Int → Int) =>
      bilinear 32 32 (g (node a b)) (g (node (a + 1) b)) (g (node a (b + 1))) (g (node (a + 1) (b + 1)))
    let q := exactInverse m ((8192 * a + 4096 : Nat), (8192 * b + 4096 : Nat))
    max (at' (·.1) - q.1).natAbs (at' (·.2) - q.2).natAbs))

/-- WarpMeshState (R114). -/
def warpState (w : Warp) : Nat :=
  if w.inverting || w.done then 1 else if w.refused then 3 else if w.inForce.isSome then 2 else 0

/-! ## Planner -/

/-- PLANNER_RECOMPUTE_DONE (R113): the figures cover the staged Manifest. -/
def execPlannerRecomputeDone (s : State) : Host.Outcome State Fault Refusal :=
  .next (if isOn s .pix then
    { s with manifest := { s.manifest with
        stagedFigures := figuresOf s s.manifest.staged, recompute := false } }
  else s)

end Sys2Proof.Machine
end

