-- ==== Sys2Proof/Machine/Scan.lean ====
section
/-!
DEFINITION. Scan.lean: the scan grid and the line DPLL (R39 to R52), the Leap figures (R69 to R72) and the
commands that act on them alone.
-/

namespace Sys2Proof.Machine

open Sys2Proof

/-- Frames per second of a frame rate code (R39, R73). -/
def rateHz (code : Nat) : Nat :=
  match code with
  | 0 => 60 | 1 => 120 | 2 => 240 | 3 => 360 | _ => 480

/-- The eighth period in 2⁻²⁴ CLK_CORE at a rate with a frequency offset of `delta` parts in 10⁹, rounded half
up (R40, R47). -/
def periodOf (code : Nat) (delta : Int) : Nat :=
  (roundDiv (200000000 * 2 ^ 24 * (1000000000 + delta)) (rateHz code * 4096 * 1000000000)).toNat

/-- CLK_CORE in a nominal frame at a rate, times the rate: 200,000,000 (R39). -/
def clocksPerSecond : Nat := 200000000

/-- A new eighth begins: its whole clocks and the accumulator's fraction (R40). -/
def nextEighth (c : Scan) : Scan :=
  let sum := c.phi.toNat + c.period
  { c with clocks := sum / 2 ^ 24, phi := BitVec.ofNat 24 sum }

/-- The scan position advances by 1 and wraps at 4,095 (R42). -/
def advancePos (c : Scan) : Scan :=
  { c with pos := c.pos + 1, eighths := c.eighths + 1 }

/-- The reference settings as written (R51). -/
def writtenRef (s : State) : RefConfig :=
  { primary := cfg s 0x8100 2, fallback := cfg s 0x8100 3, edge := cfg s 0x8100 4
    frames := cfg s 0x8100 5, events := cfg s 0x8100 6, phase := cfg s 0x8100 7
    bandwidth := cfg s 0x8100 8, clamp := cfg s 0x8100 9 }

/-- A source other than free-run is configured (R48). -/
def refConfigured (r : RefConfig) : Bool := r.primary != 0 || r.fallback != 0

/-- An offset is limited to FrequencyClamp in magnitude (R47). -/
def clampDelta (clamp : Nat) (x : Int) : Int := clampInt (-(clamp * 1000 : Nat)) ((clamp * 1000 : Nat)) x

/-- The DPLL free-runs at P₀ (R44, R48). -/
def freeRunning (c : Scan) : Scan :=
  { c with lock := .freeRun, active := 0, onFallback := false, delta := 0, integral := 0, lastEvent := none
           period := periodOf c.rate 0 }

/-- The source in use is still configured in its place (R44). -/
def keepsSource (r : RefConfig) (c : Scan) : Bool :=
  c.active == if c.onFallback then r.fallback else r.primary

/-- A change of source is a change to acquiring; free-run and holdover wait for an event (R48). -/
def changeSource (r : RefConfig) (c : Scan) : Scan :=
  { c with
    lock := if c.lock = .freeRun ∨ c.lock = .holdover then c.lock else .acquiring
    active := if c.lock = .freeRun then 0 else if r.primary ≠ 0 then r.primary else r.fallback
    onFallback := c.lock != .freeRun && r.primary == 0
    lastEvent := none }

/-- The reference settings take effect at a frame boundary; a change resets the event counter (R51), the offset keeps
within a lowered clamp (R47), and with both sources at free-run the DPLL free-runs (R48). -/
def applyRef (r : RefConfig) (c : Scan) : Scan :=
  if r = c.ref then c
  else
    let d := clampDelta r.clamp c.delta
    let c1 := { c with ref := r, eventCount := 0, goodRun := 0, badRun := 0, delta := d, period := periodOf c.rate d }
    if !refConfigured r then freeRunning c1
    else if keepsSource r c1 then c1
    else changeSource r c1

/-- A written frame rate is to take effect at the second frame boundary (R52). It replaces one written in the same frame;
one that the links announce already takes effect before it. -/
def writeRate (v : Nat) (c : Scan) : Scan :=
  let announced := c.rateNext.filter fun x => decide (x.2 < 2)
  let last := (announced.getLast?.map (·.1)).getD c.rate
  { c with rateNext := if v = last then announced else announced ++ [(v, 2)] }

/-- A frame rate takes effect; the DPLL acquires at it (R52). -/
def takeRate (r : Nat) (c : Scan) : Scan :=
  { c with
    rate := r
    period := periodOf r c.delta
    lock := if c.lock = .freeRun then .freeRun else .acquiring
    goodRun := 0
    badRun := 0 }

/-- A frame boundary passes for the written frame rates (R52). -/
def stepRate (c : Scan) : Scan :=
  let c1 := { c with rateNext := (c.rateNext.filter fun x => decide (1 < x.2)).map fun x => (x.1, x.2 - 1) }
  match c.rateNext.find? fun x => decide (x.2 ≤ 1) with
  | some x => takeRate x.1 c1
  | none => c1

/-! ## Phase events -/

/-- The time of an event at `fraction` of 1/256 in the present eighth, in CLK_CORE since the power-up. -/
def eventClock (c : Scan) (fraction : Nat) : Nat := c.clkTotal + fraction * c.clocks / 256

/-- Less than 75 % of the expected interval has passed since the last accepted event (R46). -/
def tooEarly (c : Scan) (t : Nat) : Bool :=
  match c.lastEvent with
  | none => false
  | some t0 =>
    decide ((t - t0) * c.ref.events * rateHz c.rate * 4 < 3 * c.ref.frames * clocksPerSecond)

/-- A phase difference in 1/256 eighth, wrapped into −2,048 to +2,047.996 eighths (R47). -/
def wrapPhase (x : Int) : Int := (x + 524288) % 1048576 - 524288

/-- A fixed latency of `n` CLK_CORE in 1/256 eighth (R44). -/
def latency (c : Scan) (n : Nat) : Int :=
  if c.period = 0 then 0 else roundDiv ((n * 256 * 2 ^ 24 : Nat) : Int) c.period

/-- The captured position of an event in 1/256 eighth, its fixed latency subtracted (R44). -/
def captured (c : Scan) (fraction lat : Nat) : Int :=
  ((c.pos.toNat * 256 + fraction : Nat) : Int) - latency c lat

/-- CLK_CORE between compared events: M frames, or a Caravan frame for the token (R45, R461). -/
def compareInterval (c : Scan) : Nat :=
  if c.active = 3 then 6400 else c.ref.frames * clocksPerSecond / rateHz c.rate

/-- The integral part of the loop filter after a phase error (R47). -/
def loopIntegralOf (e : Int) (c : Scan) : Int :=
  Config.loopIntegral c.ref.bandwidth (compareInterval c) e c.integral

/-- The output of the proportional-integral filter (R47): its gains are free (log 73). -/
def loopOutput (e : Int) (c : Scan) : Int :=
  clampDelta c.ref.clamp
    (roundDiv (Config.loopGain c.ref.bandwidth (compareInterval c) * e) (2 ^ 32) + loopIntegralOf e c)

/-- A compared event (R47, R48): phase error, frequency offset, period, and the runs of good and bad
events. -/
def comparePhase (e : Int) (c : Scan) : Scan :=
  let d := loopOutput e c
  let good := if e.natAbs ≤ 256 then c.goodRun + 1 else 0
  let bad := if e.natAbs > 1024 then c.badRun + 1 else 0
  { c with
    phaseError := e
    delta := d
    integral := loopIntegralOf e c
    period := periodOf c.rate d
    goodRun := if c.lock = .acquiring ∧ good ≥ 16 then 0 else good
    badRun := if c.lock = .locked ∧ bad < 4 then bad else 0
    lock :=
      if c.lock = .acquiring ∧ good ≥ 16 then .locked
      else if c.lock = .locked ∧ bad ≥ 4 then .acquiring
      else c.lock }

/-- The DPLL left lock at this compared event (R48). -/
def lostLock (before after : Scan) : Bool := before.lock == .locked && after.lock == .acquiring

/-- The DPLL first reached locked on the token at this compared event (R50); a lock on another source before does not
count as its first (log 74). -/
def firstLock (before after : Scan) : Bool :=
  before.lock == .acquiring && after.lock == .locked && after.active == 3 && !before.everLocked

/-- The lock on the token is noted (R50). -/
def noteLock (before after : Scan) : Scan :=
  { after with everLocked := before.everLocked || (after.lock == .locked && after.active == 3) }

/-- Acquisition begins on a source (R48). The event counter starts at 0 when the DPLL leaves free-run, and counts on
otherwise (R45). -/
def beginAcquire (source : Nat) (fallback : Bool) (c : Scan) : Scan :=
  { c with lock := .acquiring, active := source, onFallback := fallback
           eventCount := if c.lock = .freeRun then 0 else c.eventCount, goodRun := 0, badRun := 0 }

/-- The DPLL takes an event of this source now (R44, R48): from free-run and holdover any configured source, else the
one in use. -/
def takesSource (c : Scan) (source : Nat) : Bool :=
  source != 0 &&
    (if c.lock == .freeRun || c.lock == .holdover then source == c.ref.primary || source == c.ref.fallback
     else source == c.active)

/-- An accepted phase event (R45, R47, R48). A Caravan token is always compared, and does not use the event counter
(R461). -/
def acceptEvent (source : Nat) (t : Nat) (cap expected : Int) (c : Scan) : Scan :=
  let fb := source == c.ref.fallback && source != c.ref.primary
  let c1 :=
    if c.lock = .freeRun ∨ c.lock = .holdover ∨ c.active ≠ source then beginAcquire source fb c else c
  let c2 := { c1 with lastEvent := some t
                      eventCount :=
                        if source = 3 then c1.eventCount
                        else if c.ref.events = 0 then 0 else (c1.eventCount + 1) % c.ref.events }
  if source = 3 ∨ c1.eventCount = 0 then comparePhase (wrapPhase (cap - expected)) c2 else c2

/-- A phase event of a source (R44 to R48): nothing on the backup oscillator (R49), a reject counted when it
comes too early, else accepted; loss of lock raises kind 0x43. -/
def phaseEvent (source : Nat) (fraction lat : Nat) (expected : Int) (s : State) : State :=
  let c := s.scan
  let t := eventClock c fraction
  if s.power.backupClock || !takesSource c source then s
  else if tooEarly c t then { s with scan := { c with rejectCount := count32 c.rejectCount } }
  else
    let c1 := acceptEvent source t (captured c fraction lat) expected c
    let s1 := { s with scan := noteLock c c1 }
    if lostLock c c1 then raiseKind 0x43 {} s1 else s1

/-- The edge is the selected one (R46). -/
def edgeSelected (edge : Nat) (rising : Bool) : Bool :=
  match edge with
  | 0 => rising
  | 1 => !rising
  | _ => true

/-- A source is configured: by the settings in force, or with no scan running by those that are written (R49, R51). -/
def sourceConfigured (s : State) : Bool := refConfigured (if s.scan.running then s.scan.ref else writtenRef s)

/-- The state that LockState reports (R48): on the backup oscillator holdover, or free-run with no source
configured (R49). -/
def lockShown (s : State) : LockState :=
  if s.power.backupClock then (if sourceConfigured s then .holdover else .freeRun) else s.scan.lock

/-! ## Commands -/

/-- SYNC_IN_EDGE (R44, R46): 4 CLK_CORE of input latency; the expected position is ReferencePhase. -/
def execSyncInEdge (rising : Bool) (fraction : Nat) (s : State) : Host.Outcome State Fault Refusal :=
  .next (if s.scan.running && edgeSelected s.scan.ref.edge rising then
    phaseEvent 2 (fraction % 256) 4 ((s.scan.ref.phase * 256 : Nat) : Int) s else s)

/-- REFERENCE_HOLDOVER (R48): no accepted event for four expected intervals. P keeps its value. -/
def execReferenceHoldover (s : State) : Host.Outcome State Fault Refusal :=
  .next (if s.scan.lock = .acquiring ∨ s.scan.lock = .locked then
    raiseKind 0x44 {} { s with scan := { s.scan with
      lock := .holdover, goodRun := 0, badRun := 0, lastEvent := none } }
  else s)

/-- REFERENCE_PRIMARY_RETURN (R48): the primary has delivered events for 1 s while the fallback is in use. -/
def execReferencePrimaryReturn (s : State) : Host.Outcome State Fault Refusal :=
  .next (if s.scan.onFallback && !s.power.backupClock then
    { s with scan := { beginAcquire s.scan.ref.primary false s.scan with lastEvent := none } }
  else s)

/-- CLOCK_FALLBACK (R15, R49): the LD runs on its backup oscillator; the DPLL holds P = P₀. -/
def execClockFallback (s : State) : Host.Outcome State Fault Refusal :=
  .next (if isOn s .core then
    raiseKind 0x04 {} { s with
      power := { s.power with backupClock := true }
      scan := { s.scan with
        lock := if refConfigured s.scan.ref then .holdover else .freeRun
        delta := 0, integral := 0
        period := periodOf s.scan.rate 0
        goodRun := 0, badRun := 0, lastEvent := none } }
  else s)

/-- RC_MEASURE_WINDOW (R69): a window of 32,768 Leap ticks completes with a count of REFCLK cycles; none
completes on the backup oscillator or with CORE off. -/
def execRcMeasureWindow (count : Nat) (s : State) : Host.Outcome State Fault Refusal :=
  .next (if isOn s .core && !s.power.backupClock && count != 0 then
    { s with aon := { s.aon with shadow := { s.aon.shadow with nRef := count, measured := true } } }
  else s)

/-- RcErrorPpm in 0.01 ppm (R69): 0 before the first window. -/
def rcErrorPpm (s : State) : Int :=
  if s.aon.shadow.measured then
    roundDiv (((25000000 : Int) - (s.aon.shadow.nRef : Int)) * 100000000) s.aon.shadow.nRef
  else 0

/-- LEAP_WRAPPED (R72): the Leap counter returns in Stop to the value it held at the shadow. -/
def execLeapWrapped (s : State) : Host.Outcome State Fault Refusal :=
  .next (if inStop s then { s with aon := { s.aon with
      leapWrapped := true, shadow := { s.aon.shadow with wrapped := true } } } else s)

end Sys2Proof.Machine
end

