-- ==== Sys2Proof/Machine/Compose.lean ====
section
/-!
DEFINITION. Compose.lean: the composer, the Tile Signature Table and the scan-out check (R26, R90, R117,
R139 to R148, R151 to R161, R316).
-/

namespace Sys2Proof.Machine

open Sys2Proof

/-! ## Frames in composition -/

/-- Applies `f` to the composer. -/
def onCompose (f : Compose → Compose) (s : State) : State := { s with compose := f s.compose }

/-- Applies `f` to the zones of a port. -/
def onZones (p : Port) (f : Zones → Zones) (s : State) : State :=
  onCompose (fun c => { c with zones := c.zones.modify p f }) s

/-- The effective scale of a class (R308): of P0 always 1.0. -/
def effectiveScale (s : State) (k : Nat) : Nat :=
  if k = 0 then 0x8000 else roundDivNat (nth 0x8000 s.toll.scales k * s.hk.m) 32768

/-- The effective scales of P0 to P3 (R308). -/
def effectiveScales (s : State) : List Nat := (List.range 4).map (effectiveScale s)

/-- A zone list of 32 zeros, or of 128 for the class sums. -/
def zeros (n : Nat) : List Nat := List.replicate n 0

/-- A new step table comes into force at the start of a frame (R157). -/
def startZones (z : Zones) : Zones :=
  { z with steps := if z.stepsNext.isEmpty then z.steps else z.stepsNext, stepsNext := [] }

/-- Gains, ages, exclusions and boosts of the words in application take effect (R169). -/
def applyWords (s : State) : State :=
  { s with drive := { s.drive with
      calMap := s.drive.applying.foldl (fun m u => putEntry u.pixel u.word m) s.drive.calMap
      appliedCount := satAdd 32 s.drive.appliedCount s.drive.applying.length
      applying := [] } }

/-- The buffers of a frame (R79): the surfaces of the Manifest latch their current buffer, those already latched keep
theirs. A surface that a commit brings in during a frame of racing mode latches with it (log 78). -/
def latchBuffers (s : State) (kept : List (Nat × Nat)) : List (Nat × Nat) :=
  (List.range 8).foldl (fun t n =>
    match layerSurface s s.manifest.committed n with
    | some f => if t.any fun e => e.1 == f then t else putEntry f (surfaceValue s f 7) t
    | none => t) kept

/-- The band or frame that begins is governed by the Manifest and the bank now in force (R125, R132). -/
def latchManifest (s : State) : State :=
  onCompose (fun c => { c with manifest := s.manifest.committed, bank := s.shade.active })
    { s with fetch := { s.fetch with buffers := latchBuffers s s.fetch.buffers } }

/-- A scale falls at once and rises by at most 0x0400 a frame (R318). -/
def moveScale (old new : Nat) : Nat := min new (old + 0x0400)

/-- The solution for this frame, or the last one for a frame before it, comes into force (R318); a frame with an effective
scale below 1.0 counts (R319). -/
def takeScales (epoch : BitVec 32) (s : State) : State :=
  let due := s.toll.coming.filter fun e => decide ((epoch - e.1).toNat < 2 ^ 31)
  let s1 := { s with toll := { s.toll with
    scales := match due.getLast? with
      | some e => (List.range 4).map fun k => moveScale (nth 0x8000 s.toll.scales k) (nth 0x8000 e.2 k)
      | none => s.toll.scales
    coming := s.toll.coming.filter fun e => !decide ((epoch - e.1).toNat < 2 ^ 31) } }
  if (effectiveScales s1).any (fun x => decide (x < 0x8000)) then
    { s1 with toll := { s1.toll with scaledFrames := count32 s1.toll.scaledFrames } }
  else s1

/-- What is in composition becomes the band or the frame before, whose last tiles are still to be written. -/
def keepOlder (s : State) : State :=
  onCompose (fun c => { c with older := if c.busy then some (runOf s) else none }) s

/-- Composition of the frame of `epoch` begins (R79, R87, R111, R139, R140, R157, R169); `fresh` for the first frame
after a change of mode (R90). -/
def beginFrame (epoch : BitVec 32) (racing fresh : Bool) (s0 : State) : State :=
  let s := keepOlder s0
  let s1 := latchManifest (applyWords (takeScales epoch { s with fetch := { s.fetch with buffers := [] } }))
  { s1 with
    fetch := { s1.fetch with
      raised := s1.fetch.raised.filter fun e => e.1 == s.compose.frame
      aliasTiles := s1.fetch.aliasTiles.filter fun e => e.1 == s.compose.frame }
    shade := { s1.shade with
      overflowTiles := s1.shade.overflowTiles.filter fun e => e.1 == s.compose.frame }
    compose := { s1.compose with
      unpublished := if s.compose.busy then some (s.compose.frame, s.compose.scales) else s.compose.unpublished
      frame := epoch
      band := 0
      busy := true
      due := false
      noPrevious := s1.manifest.safeUntilCommit
      begun := true
      freshMode := fresh
      racing := racing
      stagedRows := PerPort.const 0
      scales := effectiveScales s1
      staged := s1.compose.staged.filter fun x => x.frame == s.compose.frame
      out := s1.compose.out.filter fun o => o.frame != epoch
      ring := if racing then s1.compose.ring else []
      zones := s1.compose.zones.map fun _ z => startZones z } }

/-- The slot of the band ring that holds a half-tile (R140). -/
def ringSlot (o : OutTile) : Nat := (2 * (o.tile / 32) + ofBool o.lower) % 4

/-- A band of racing mode begins (R140, R143): it takes the slot of its number in the band ring, and the Manifest and bank
now in force govern it; the band before keeps its own until it is complete. -/
def beginBand (band : Nat) (s0 : State) : State :=
  let s := latchManifest (if band = 0 then s0 else keepOlder s0)
  onCompose (fun c => { c with
    band := band
    ring := c.ring.filter fun o => ringSlot o != band % 4 }) s

/-! ## Zone codes (R158, R159, R179) -/

/-- The highest code in force on a port. -/
def topCode (z : Zones) : Nat := maxOf 0 (z.pairs.map (·.code))

/-- VsetCode stays at VsetSafe (R177, R304, R433): there has been no report, the port is disabled, or it is in a thermal
shutdown or forced off for a supply. -/
def atVsetSafe (s : State) (p : Port) : Bool :=
  !(s.headroom.get p).started || s.nvm.disabled.get p != 0 || thermalOf s (.array p) == .shutdown
    || s.aon.ldShutdown || s.aon.adShutdown || s.aon.supplyOff || s.aon.laneOff.isSome

/-- VsetCode (R177): 0xFFFF stands for high impedance, which is also what SAFE without power and a port that is fused off
give. -/
def vsetCode (s : State) (p : Port) : Nat :=
  if !isOn s .safe || !hasPort s p then 0xFFFF
  else if atVsetSafe s p then s.power.options.vsetSafe.get p
  else (s.headroom.get p).code

/-- The supply of a port rises at once with its highest code (R179); a rise from code 0 has no Vf to start from
and is left to the loop (log 34). -/
def raiseSupply (p : Port) (a b : Nat) (s : State) : State :=
  let vf := vfOf (curveOf s p)
  if a < b ∧ 0 < a ∧ atVsetSafe s p = false then
    let lsb := max 1 (cfg s (0x4300 + p.num) 7)
    let steps := ((vf b - vf a) * 1000 + lsb - 1) / lsb
    { s with headroom := s.headroom.modify p fun h =>
        { h with code := min (cfg s (0x4300 + p.num) 5) (h.code + steps), noDown := 64 } }
  else s

/-- Entry `k` of a list of 32 zones, or of 128 zone and class sums, from `new` in zone row `zr` and from `old` elsewhere;
`per` is the number of entries a zone. -/
def rowFrom {α : Type} (d : α) (per zr : Nat) (new old : List α) : List α :=
  (List.range (32 * per)).map fun k => nth d (if k / (8 * per) = zr then new else old) k

/-- Zone row `zr` goes over to a frame (R153, R157, R159): its pairs and figures become those of the frame before. -/
def rollRow (frame : BitVec 32) (zr : Nat) (pairs : List ZonePair) (z : Zones) : Zones :=
  { z with
    rowFrame := (List.range 4).map fun k => if k = zr then frame else nth 0 z.rowFrame k
    pairs := rowFrom {} 1 zr pairs z.pairs, prevPairs := rowFrom {} 1 zr z.pairs z.prevPairs
    peaks := rowFrom 0 1 zr [] z.peaks, prevPeaks := rowFrom 0 1 zr z.peaks z.prevPeaks
    dutySums := rowFrom 0 1 zr [] z.dutySums, prevSums := rowFrom 0 1 zr z.dutySums z.prevSums
    classSums := rowFrom 0 4 zr [] z.classSums, prevClass := rowFrom 0 4 zr z.classSums z.prevClass }

/-- The frame whose pairs stand for zone row `zr` is `frame` or one before it. -/
def rowReached (z : Zones) (frame : BitVec 32) (zr : Nat) : Bool :=
  decide ((frame - nth 0 z.rowFrame zr).toNat < 2 ^ 31)

/-- The figures of a frame: of each zone row those in hand, or those of the frame before where the row has gone on. -/
def ofFrame {α : Type} (d : α) (per : Nat) (z : Zones) (frame : BitVec 32) (now prev : List α) : List α :=
  (List.range (32 * per)).map fun k => nth d (if rowReached z frame (k / (8 * per)) then now else prev) k

/-- The pairs of zone row `zr` of a port are chosen: `sel` gives the pair of a zone (R159). Under the safe beam the SBG's
codes are the chosen ones, and these raise no supply (R162). -/
def choosePairs (p : Port) (zr : Nat) (sel : Nat → ZonePair) (s : State) : State :=
  let z := s.compose.zones.get p
  let pairs := (List.range 32).map fun k => if k / 8 = zr then sel k else {}
  let s1 := onZones p (rollRow s.compose.frame zr pairs) s
  if (s.link.get p).safeContent then s1 else raiseSupply p (topCode z) (topCode (s1.compose.zones.get p)) s1

/-- The pair of a zone from its p_sel, or the fixed code (R159). -/
def pairFor (s : State) (p : Port) (psel : Nat) : ZonePair :=
  if trackingOn s p then selectStep (stepsInForce s p) psel else pairOf s p (cfg s (0x4100 + p.num) 3)

/-- The choice in racing mode, from the previous frame's peaks, which stand until then, with the 1.25 guard (R159). -/
def chooseRacing (p : Port) (zr : Nat) (s : State) : State :=
  choosePairs p zr (fun k =>
    if trackingOn s p && s.compose.noPrevious then pairOf s p 255
    else pairFor s p
      (min 0x3FFFF (roundDivNat (nth 0 (s.compose.zones.get p).peaks k * 5) 4))) s

/-! ## Stages 1 to 4 of an output tile -/

/-- Kernels of the eight layers on an output tile. -/
def tileKernels (s : State) (p : Port) (row col : Nat) : List TileKernel :=
  (List.range 8).map fun n =>
    if layerDraws s s.compose.manifest n then tileKernel s s.compose.manifest n p row col else ⟨1, 1, false⟩

/-- Stage 1 of layer `n` at a pixel for the frame in composition: a layer of coverage 0 is transparent (R76). -/
def layerAt (s : State) (p : Port) (ks : List TileKernel) (n c r : Nat) : Nat × Nat :=
  let t := s.compose.manifest
  if layerDraws s t n then
    let x := stage1 s t s.compose.bank (nth 0x8000 s.compose.scales (classOf s t n)) n p
      (nth ⟨1, 1, false⟩ ks n) c r
    if x.2 = 0 then (0, 0) else x
  else (0, 0)

/-- Stage 2 (R117): the pixel after layers 0 to 6, and the class of the layer that raised it last (R316). -/
def stage2 (s : State) (p : Port) (ks : List TileKernel) (c r : Nat) : Blended :=
  let t := s.compose.manifest
  (List.range 7).foldl (fun b n =>
    let x := layerAt s p ks n c r
    let v := blend (blendOf s t n) b.level x.1 x.2
    ⟨v, if v > b.level then classOf s t n else b.owner⟩) ⟨0, 0⟩

/-- A part of the ceiling fails its CRC (R130): a ceiling of 0 in its place, the count and kind 0x0D; the CP reloads it.
A part that is overdue stays so. -/
def failCeiling (x : CeilingPart) (s : State) : State :=
  raiseKind 0x0D {} { s with ceiling := { s.ceiling with
    errorCount := count32 s.ceiling.errorCount
    bad := { part := x, overdue := s.ceiling.bad.any fun b => b.part == x && b.overdue }
      :: s.ceiling.bad.filter fun b => b.part != x } }

/-- Cell row `j` of a port fails its CRC: a ceiling of 0 for its rows (R130). -/
def badCellRow (p : Port) (j : Nat) (s : State) : State := failCeiling (.row p j) s

/-- The ceiling table fails its CRC at a frame boundary: a ceiling of 0 in every SF1 cell (R130). -/
def badTable (s : State) : State := failCeiling .table s

/-- A pixel after stage 4: level, owning class, and whether the floor exceeds the ceiling (R24, R117,
R129, R316). -/
structure Level where
  level    : Nat
  owner    : Nat
  conflict : Bool
  deriving DecidableEq, Repr

/-- Stages 2 to 4 of a pixel (R117, R22). -/
def stages2to4 (s : State) (p : Port) (ks : List TileKernel) (c r : Nat) : Level :=
  let b := stage2 s p ks c r
  let v7 := (layerAt s p ks 7 c r).1
  let x := max b.level v7
  let owner := if v7 > b.level then 0 else b.owner
  match ceilingAt s p c r with
  | some ceil => ⟨min x ceil, owner, decide (v7 > ceil)⟩
  | none => ⟨x, owner, false⟩

/-- Source tiles of fetched layers that an output tile draws from: layer, surface, tile (R89). -/
def neededTiles (s : State) (p : Port) (row col r0 h : Nat) : List (Nat × Nat × Nat) :=
  (List.range 8).flatMap fun n =>
    match layerSurface s s.compose.manifest n with
    | none => []
    | some f =>
      if fetchable s f then (tilesUsed s s.compose.manifest n p row col r0 h).map fun t => (n, f, t) else []

/-- A needed source tile is neither decoded nor failed for good. -/
def isMissing (s : State) (p : Port) (e : Nat × Nat × Nat) : Bool :=
  TileStatus.isOpen (storedTile s p e.1 e.2.1 e.2.2)

/-- Every needed tile still missing becomes late (R91, R139, R141). -/
def markLate (p : Port) (need : List (Nat × Nat × Nat)) (s : State) : State :=
  need.foldl (fun s e => if isMissing s p e then lateTile p e.1 e.2.1 e.2.2 s else s) s

/-- The output tile is held: it draws from a failed tile of a beam-critical layer (R89). -/
def tileIsHeld (s : State) (p : Port) (need : List (Nat × Nat × Nat)) : Bool :=
  need.any fun e => isCritical s s.compose.manifest e.1 && storedTile s p e.1 e.2.1 e.2.2 == some .failed

/-- Number of an output tile (R146). -/
def tileNumber (p : Port) (row col : Nat) : Nat := p.num * 512 + row * 32 + col

/-- The TST entry of a tile (R146): by output frame buffer, or by half in racing mode. -/
def tstIndex (racing : Bool) (frame : BitVec 32) (p : Port) (tile : Nat) (lower : Bool) : Nat :=
  (if racing then ofBool lower else frame.toNat % 2) * 2048 + p.num * 512 + tile

/-- Output tiles flagged aliasing count once each, and the first of a frame raises kind 0x09 (R109). -/
def noteAlias (p : Port) (row col r0 h : Nat) (s : State) : State :=
  let t := s.compose.manifest
  let k := tileNumber p row col
  if s.fetch.aliasTiles.contains (s.compose.frame, k) || !(List.range 8).any (fun n => tileAliased s t n p row col r0 h) then s
  else
    let first := !s.fetch.aliasTiles.any fun e => e.1 == s.compose.frame
    let s1 := { s with fetch := { s.fetch with
      aliasTiles := (s.compose.frame, k) :: s.fetch.aliasTiles, aliasCount := count32 s.fetch.aliasCount } }
    if first then
      raiseKind 0x09
        { address := tstIndex s.compose.racing s.compose.frame p (row * 32 + col) (s.compose.racing && r0 == 16) } s1
    else s1

/-- Generated tiles that an output tile uses. -/
def generatedTiles (s : State) (p : Port) (row col r0 h : Nat) : List Nat :=
  ((List.range 8).flatMap fun n =>
    if isGenerator s s.compose.manifest n then tilesUsed s s.compose.manifest n p row col r0 h else []).dedup

/-- A generated tile with objects left out counts once in a frame, and the first raises kind 0x0A (R122). -/
def noteOverflow (tile : Nat) (s : State) : State :=
  let cols := ((canvasSize s).1 + 31) / 32
  if s.shade.overflowTiles.contains (s.compose.frame, tile)
      || !shadeTileOverflows s.dict.canvas s.compose.bank (tile % cols) (tile / cols) then s
  else
    let first := !s.shade.overflowTiles.any fun e => e.1 == s.compose.frame
    let s1 := { s with shade := { s.shade with
      overflowTiles := (s.compose.frame, tile) :: s.shade.overflowTiles, overflow := count32 s.shade.overflow } }
    if first then raiseKind 0x0A {} s1 else s1

/-- What stage 1 notes about an output tile: late tiles, aliasing and overflow (R91, R109, R122). -/
def noteStage1 (p : Port) (row col r0 h : Nat) (s : State) : State :=
  let s1 := markLate p (neededTiles s p row col r0 h) s
  let s2 := noteAlias p row col r0 h s1
  (generatedTiles s2 p row col r0 h).foldl (fun s t => noteOverflow t s) s2

/-- Stage 4 results of an output tile or half-tile. -/
def tileLevels (s : State) (p : Port) (row col r0 h : Nat) : List Level :=
  let ks := tileKernels s p row col
  (tilePixels row col r0 h).map fun q => stages2to4 s p ks q.1 q.2

/-- Pixels whose floor exceeds their ceiling are counted (R24). -/
def noteConflicts (n : Nat) (s : State) : State :=
  onCompose (fun c => { c with conflictCount := satAdd 32 c.conflictCount n }) s

/-- The word of a pixel for stage 5: a word that cannot be read drives duty 0 for the frame (R359). -/
def wordFor (s : State) (x : Nat) : BitVec 32 :=
  if s.drive.darkPixels.contains x then makeWord 0 0x20 0 true 0 else calWord s x

/-! ## Stages 5 to 7 -/

/-- A pixel after stages 5 and 6. -/
structure Driven where
  duty   : Nat
  demand : Nat
  clip   : Bool
  owner  : Nat
  raised : Bool
  deriving DecidableEq, Repr

/-- The sweep phase of pixel (c, r) (R325). -/
def phaseOf (c r : Nat) : Nat := (c + 8 * (r % 8)) % 64

/-- A probe window of the frame in composition raises pixel (c, r) (R328). -/
def inProbeWindow (s : State) (p : Port) (c r : Nat) : Bool :=
  phaseOf c r == s.compose.frame.toNat % 64
    && (s.pixels.get p).windows.any fun w =>
      w.frame == s.compose.frame && decide ((8 * r + 4096 - w.start) % 4096 < w.length)

/-- A confirmation is in step C for pixel (c, r) and has not been raised yet (R332). -/
def awaitsRaise (frame : BitVec 32) (c r : Nat) (f : Confirm) : Bool :=
  f.pixel == r * 1024 + c && f.step == 2 && f.started && !f.raised && f.skip != some frame

/-- Stage 6 raises pixel (c, r) to duty 1 where its duty would be 0 (R328, R332); no raise is applied while the safe beam
is in force on the port (R345). -/
def raiseDue (s : State) (p : Port) (c r : Nat) : Bool :=
  !(s.link.get p).safeContent
    && (inProbeWindow s p c r || (s.pixels.get p).confirms.any (awaitsRaise s.compose.frame c r))

/-- Duty 1, in an SF1 cell limited by ceiling_duty (R152, R328). -/
def raisedDuty (w : BitVec 32) (n : Nat) (ceiling : Option Nat) : Nat :=
  match ceiling with
  | some v => min 1 (ceilingDuty w n v)
  | none => 1

/-- Stages 5 and 6 of a composed pixel (R151, R152, R328). -/
def drivePixel (s : State) (p : Port) (n : Nat) (c r level owner : Nat) : Driven :=
  let w := wordFor s (pixelIndex p c r)
  let ceil := ceilingAt s p c r
  let d := pixelDemand w level ceil
  let duty := pixelDuty w d n (threshold s p c r s.compose.frame.toNat) ceil
  let up := duty == 0 && !wordExcluded w && raiseDue s p c r && raisedDuty w n ceil == 1
  ⟨if up then 1 else duty, d, isClip d n, if wordExcluded w then 0 else owner, up⟩

/-- The output tile of a frame (R138). -/
def outTile (s : State) (frame : BitVec 32) (p : Port) (tile : Nat) (lower : Bool) : Option OutTile :=
  s.compose.out.find? fun o => o.frame == frame && o.port == p && o.tile == tile && o.lower == lower

/-- The demand that a held duty stands for, so that held pixels count in the class sums (R316, log 35). -/
def demandOfDuty (duty n : Nat) : Nat :=
  if n = 0 then 0 else min 0x3FFFF (roundDivNat (duty * 4096 * 2 ^ 20) (n * 4095))

/-- A pixel of a held tile (R90): the previous frame's duty, or the safe beam's, rescaled to the code now in force
and limited in SF1. -/
def holdPixel (s : State) (p : Port) (now : ZonePair) (prev : Option OutTile) (i c r : Nat) : Driven :=
  let d := match prev with
    | some o => rescale (curveOf s p) o.code now.code (nth 0 o.duties i)
    | none => rescale (curveOf s p) (safeCode s p (zoneAt c r)) now.code (safeDuty s p c r)
  let d' := match ceilingAt s p c r with
    | some v => min d (ceilingDuty (wordFor s (pixelIndex p c r)) now.n v)
    | none => d
  ⟨d', demandOfDuty d' now.n, false, 0, false⟩

/-- SampleCrc form of a tile's duties (R146). -/
def signature (ds : List Nat) : BitVec 32 := BitVec.ofNat 32 (sampleCrc ds)

/-- The entry of a tile is not valid from the start of the tile's composition until its signature is written (R146). -/
def clearValid (k : Nat) (s : State) : State :=
  onCompose (fun c => { c with tst := c.tst.map fun e => if e.entry == k then { e with valid := false } else e }) s

/-- An entry of the TST. -/
def tstEntry (s : State) (k : Nat) : TstEntry :=
  (s.compose.tst.find? fun e => e.entry == k).getD ⟨k, false, false, 0⟩

/-- Writes an output tile in place of the one that its buffer held, with its signature (R138, R146); in racing mode into the
band ring as well (R140). -/
def putOut (o : OutTile) (entry : TstEntry) (s : State) : State :=
  onCompose (fun c => { c with
    ring := if c.racing then
        o :: c.ring.filter fun x => !(x.port == o.port && x.tile == o.tile && x.lower == o.lower) else c.ring
    out := o :: c.out.filter fun x =>
      !(x.frame.toNat % 2 == o.frame.toNat % 2 && x.port == o.port && x.tile == o.tile
        && (x.lower == o.lower || x.duties.length != o.duties.length))
    tst := entry :: c.tst.filter fun e => e.entry != entry.entry }) s

/-- The figures of a zone after a tile: peak, duty sum, class sums, clips (R153, R161, R316). A held tile takes
the zone's peak of the previous frame. -/
def addZone (z : Nat) (held : Bool) (ds : List Driven) (x : Zones) : Zones :=
  let peak := maxOf 0 (ds.map (·.demand))
  let peak' := if held then nth 0 x.prevPeaks z else peak
  { x with
    peaks := modifyAt (max peak') z x.peaks
    dutySums := modifyAt (· + sumOf (ds.map (·.duty))) z x.dutySums
    classSums := (List.range 4).foldl (fun cs k =>
      modifyAt (· + sumOf ((ds.filter fun d => d.owner == k).map (·.demand))) (4 * z + k) cs) x.classSums
    clipCount := satAdd 32 x.clipCount (ds.filter (·.clip)).length }

/-- Stage 7 (R146): a tile's duties are written and signed, and its zone's figures grow. -/
def writeTile (p : Port) (row col : Nat) (lower held : Bool) (words : List (BitVec 32)) (ds : List Driven) (s : State) :
    State :=
  let tile := row * 32 + col
  let z := zoneAt (32 * col) (32 * row)
  let pair := nth {} (s.compose.zones.get p).pairs z
  let duties := ds.map (·.duty)
  let k := tstIndex s.compose.racing s.compose.frame p tile lower
  let already := lower && (tstEntry s (tstIndex true s.compose.frame p tile false)).held
  let s1 := if held && !already then
    { s with fetch := { s.fetch with heldCount := count32 s.fetch.heldCount } } else s
  onZones p (addZone z held ds)
    (putOut ⟨s.compose.frame, p, tile, lower, duties, pair.code, pair.n, words⟩ ⟨k, true, held, signature duties⟩ s1)

/-- The previous frame's tile that a held tile repeats (R90): none in the first frame of a mode. -/
def heldSource (s : State) (p : Port) (tile : Nat) (lower : Bool) : Option OutTile :=
  if s.compose.freshMode then none else outTile s (s.compose.frame - 1) p tile lower

/-- Raises are counted (R328), and the confirmations of the tile's pixels have had their raise (R332), unless the port shows
the safe beam (R345). -/
def noteRaises (p : Port) (row col r0 h : Nat) (ds : List Driven) (s : State) : State :=
  if (s.link.get p).safeContent then s else
  let qs := tilePixels row col r0 h
  { s with pixels := s.pixels.modify p fun x => { x with
      raises := satAdd 32 x.raises (ds.filter (·.raised)).length
      confirms := x.confirms.map fun f =>
        if qs.any (fun q => awaitsRaise s.compose.frame q.1 q.2 f) then { f with raised := true } else f } }

/-- Stages 5 to 7 of a tile or half-tile from its stage 4 levels (R90, R151, R152). -/
def finishTile (p : Port) (row col r0 h : Nat) (lower held : Bool) (ls : List (Nat × Nat)) (s : State) : State :=
  let pair := nth {} (s.compose.zones.get p).pairs (zoneAt (32 * col) (32 * row))
  let prev := heldSource s p (row * 32 + col) lower
  let qs := tilePixels row col r0 h
  let ds := qs.mapIdx fun i q =>
    if held then holdPixel s p pair prev i q.1 q.2
    else drivePixel s p pair.n q.1 q.2 (nth (0, 0) ls i).1 (nth (0, 0) ls i).2
  writeTile p row col lower held (qs.map fun q => wordFor s (pixelIndex p q.1 q.2)) ds
    (if held then s else noteRaises p row col r0 h ds s)

/-- No commit has executed since the power-up of PIX or the composer restart: the SBG alone makes the light, and stage 5 does
not run (R137, R162, log 84). -/
def sbgAlone (s : State) : Bool := s.manifest.safeUntilCommit && !s.manifest.commitSeen

/-- The composer composes a frame now for the port: PIX is on, a frame is in composition, no restart runs and a commit has
executed. -/
def composing (s : State) (p : Port) : Bool :=
  isOn s .pix && (s.compose.busy || s.compose.older.isSome) && !s.units.composerRestart && !sbgAlone s
    && (canvasPorts s).contains p

/-! ## Commands of the composer -/

/-- Stages 1 to 4 of one output tile of a zone row into the staging area (R26). -/
def stageTile (p : Port) (row col : Nat) (s : State) : State :=
  let s1 := noteStage1 p row col 0 32 (clearValid (tstIndex false s.compose.frame p (row * 32 + col) false) s)
  let held := tileIsHeld s1 p (neededTiles s1 p row col 0 32)
  let ls := tileLevels s1 p row col 0 32
  let s2 := noteConflicts (ls.filter (·.conflict)).length s1
  onCompose (fun c => { c with
    staged := ⟨c.frame, p, row * 32 + col, held, ls.map (·.level), ls.map (·.owner)⟩
      :: c.staged.filter fun x => !(x.port == p && x.tile == row * 32 + col) }) s2

/-- The peak of a zone from the staging area (R153): a held tile brings that of the frame before. -/
def stagedPeak (s : State) (p : Port) (z : Nat) : Nat :=
  maxOf 0 (s.compose.staged.flatMap fun x =>
    let row := x.tile / 32
    let col := x.tile % 32
    if x.port == p && zoneAt (32 * col) (32 * row) == z then
      if x.held then [nth 0 (s.compose.zones.get p).peaks z]
      else (tilePixels row col 0 32).mapIdx fun i q =>
        pixelDemand (wordFor s (pixelIndex p q.1 q.2)) (nth 0 x.levels i) (ceilingAt s p q.1 q.2)
    else [])

/-- Stages 1 to 4 of a zone row of a port, and the choice of its codes (R26, R159). -/
def stageZoneRow (p : Port) (zoneRow : Nat) (badCells : List Nat) (s : State) : State :=
  let s0 := (badCells.filter fun j => j / 8 == zoneRow).foldl (fun s j => badCellRow p j s) s
  let s1 := (List.range 128).foldl (fun s k => stageTile p (4 * zoneRow + k / 32) (k % 32) s) s0
  onCompose (fun c => { c with stagedRows := c.stagedRows.set p (zoneRow + 1) })
    (choosePairs p zoneRow (fun k => pairFor s1 p (stagedPeak s1 p k)) s1)

/-- Stages 1 to 4 of the frame in composition have ended on every port. -/
def stagingEnded (s : State) : Bool := (canvasPorts s).all fun p => decide (s.compose.stagedRows.get p = 4)

/-- The next frame of buffered mode begins when its boundary has passed and stages 1 to 4 of this one have ended
(R139). -/
def beginDue (s : State) : State :=
  if s.compose.due && stagingEnded s then beginFrame (s.compose.frame + 1) false false s else s

/-- ZONE_ROW_STAGING_DONE (R26, R139, R159): stages 1 to 4 of a zone row of a port complete in buffered mode, top first, and
the codes of its zones are chosen. -/
def execZoneRowStagingDone (p : Port) (zoneRow : Nat) (badCells : List Nat) (s : State) :
    Host.Outcome State Fault Refusal :=
  .next (if composing s p && s.compose.busy && !s.compose.racing && decide (zoneRow < 4) && decide (s.compose.stagedRows.get p = zoneRow) then
      beginDue (stageZoneRow p zoneRow badCells s)
    else s)

/-- A tile or half-tile of the frame in composition has been written (R146). -/
def isComposed (s : State) (p : Port) (tile : Nat) (lower : Bool) : Bool :=
  (outTile s s.compose.frame p tile lower).isSome

/-- The half-tiles of the band in composition that are still to be composed, in the composer's order (R140): port A to
port D, and left to right, as port and tile column. -/
def openHalves (s : State) : List (Port × Nat) :=
  let band := s.compose.band
  ((canvasPorts s).flatMap fun p => (List.range 32).map fun col => (p, col)).filter fun e =>
    !isComposed s e.1 (band / 2 * 32 + e.2) (band % 2 == 1)

/-- A half-tile of racing mode through all stages (R140). Its output tile is held as a whole, from the row on which the
failure became known (R89, R90). -/
def composeHalf (p : Port) (row col : Nat) (lower : Bool) (s : State) : State :=
  let r0 := if lower then 16 else 0
  let s1 := noteStage1 p row col r0 16 (clearValid (tstIndex true s.compose.frame p (row * 32 + col) lower) s)
  let upperHeld := lower && isComposed s p (row * 32 + col) false
    && (tstEntry s (tstIndex true s.compose.frame p (row * 32 + col) false)).held
  let held := upperHeld || tileIsHeld s1 p (neededTiles s1 p row col 0 32)
  let ls := tileLevels s1 p row col r0 16
  finishTile p row col r0 16 lower held (ls.map fun l => (l.level, l.owner))
    (noteConflicts (ls.filter (·.conflict)).length s1)

/-- The next half-tile of the band in composition is this one. -/
def isNextHalf (p : Port) (row col : Nat) (lower : Bool) (s : State) : Bool :=
  s.compose.racing && s.compose.band == 2 * row + ofBool lower && (openHalves s).head? == some (p, col)

/-- The next half-tile of the band in composition, where it is this one. -/
def composeNext (p : Port) (row col : Nat) (lower badCell : Bool) (s : State) : State :=
  if isNextHalf p row col lower s then
    composeHalf p row col lower (if badCell then badCellRow p (2 * row + ofBool lower) s else s)
  else s

/-- A half-tile in racing mode (R140): the band before is completed first. -/
def composeRacing (p : Port) (row col : Nat) (lower badCell : Bool) (s : State) : State :=
  match s.compose.older with
  | some r =>
    if r.racing && !(openHalves (enterRun r s)).isEmpty then inRun r (composeNext p row col lower badCell) s
    else composeNext p row col lower badCell s
  | none => composeNext p row col lower badCell s

/-- A whole tile in buffered mode, from the staging area (R26, R139), in the frame that it was staged for. -/
def composeStaged (x : Staged) (s : State) : State :=
  if isComposed s x.port x.tile false then s
  else finishTile x.port (x.tile / 32) (x.tile % 32) 0 32 false x.held (x.levels.zip x.classes) s

/-- The staged tile of a port and tile number goes on to stages 5 to 7. -/
def composeBuffered (p : Port) (tile : Nat) (s : State) : State :=
  match s.compose.staged.find? fun x => x.port == p && x.tile == tile with
  | none => s
  | some x =>
    match s.compose.older with
    | some r => if r.frame = x.frame then inRun r (composeStaged x) s else composeStaged x s
    | none => composeStaged x s

/-- TILE_COMPOSED (R140, R146): a whole tile in buffered mode; a half-tile in racing mode. Each is composed once in a
frame. After a change of mode the last tiles of the mode before still come. -/
def execTileComposed (p : Port) (row col : Nat) (lower badCell : Bool) (s : State) :
    Host.Outcome State Fault Refusal :=
  .next (if !(composing s p && decide (row < 16) && decide (col < 32)) then s
    else if s.compose.racing || (s.compose.older.map (·.racing)).getD false then composeRacing p row col lower badCell s
    else composeBuffered p (row * 32 + col) s)

/-! ## Energy of a frame (R182) -/

/-- Power of a zone in 10⁻¹⁰ W / (255 × 4,095) from its code and duty sum (R182). -/
def zonePowerOf (s : State) (p : Port) (code sum : Nat) : Nat :=
  if code = 0 then 0 else cfg s (0x4010 + p.num) 2 * code * vfOf (curveOf s p) code * sum

/-- Duty sum of a zone of the safe beam. -/
def safeZoneSum (s : State) (p : Port) (z : Nat) : Nat :=
  sumOf ((List.range 16384).map fun k =>
    safeDuty s p (128 * (z % 8) + k % 128) (128 * (z / 8) + k / 128))

/-- The power of each zone in a frame just composed; of the safe beam where a port shows it (log 36). -/
def framePowers (frame : BitVec 32) (s : State) (p : Port) : List Nat :=
  let z := s.compose.zones.get p
  (List.range 32).map fun k =>
    if (s.link.get p).safeContent then zonePowerOf s p (safeCode s p k) (safeZoneSum s p k)
    else zonePowerOf s p (nth {} (ofFrame {} 1 z frame z.pairs z.prevPairs) k).code
      (nth 0 (ofFrame 0 1 z frame z.dutySums z.prevSums) k)

/-- PortLedEnergy in µJ of a power sum (R182). -/
def ledEnergyOf (power rate : Nat) : Nat := roundDivNat power (10000 * 255 * 4095 * rate) % 2 ^ 32

/-- PortLedPowerMw: the mean over the last 256 frames (R182). -/
def ledPowerMw (ps : List Nat) : Nat := roundDivNat (sumOf ps) (max 1 ps.length * 10000000 * 255 * 4095)

/-- The energies of a port are published (R182). -/
def publishEnergy (frame : BitVec 32) (p : Port) (s : State) : State :=
  let ps := framePowers frame s p
  { s with drive := { s.drive with
      zonePower := s.drive.zonePower.set p ps
      ledEnergy := s.drive.ledEnergy.set p (ledEnergyOf (sumOf ps) (rateHz s.scan.rate))
      ledPower := s.drive.ledPower.modify p fun l => (sumOf ps :: l).take 256 } }

/-- The figures of a frame's zones are published (R153, R183). -/
def publishZones (frame : BitVec 32) (s : State) : State :=
  onCompose (fun c => { c with zones := c.zones.map fun _ z =>
    { z with
      pubPeaks := ofFrame 0 1 z frame z.peaks z.prevPeaks
      pubSums := ofFrame 0 1 z frame z.dutySums z.prevSums
      pubClass := ofFrame 0 4 z frame z.classSums z.prevClass } }) s

/-- The frame whose composition ends next, with its class scales: one before the frame in composition goes first. -/
def endingFrame (s : State) : BitVec 32 × List Nat := s.compose.unpublished.getD (s.compose.frame, s.compose.scales)

/-- p[z] of a port's zones in 2⁻¹⁶ mW from the powers of a frame (R309, R311): 0 before its first TEMP, while it is dark and
when its hold has ended. -/
def litPower (s : State) (p : Port) : List Nat :=
  let l := s.link.get p
  (List.range 32).map fun z =>
    if l.enable && !l.expired && (s.toll.models.get p).ready then
      roundDivNat (nth 0 (s.drive.zonePower.get p) z * 65536) (10000000 * 255 * 4095)
    else 0

/-- The CP, while it runs, takes what the Toll is computed from (R315 to R317). -/
def handToToll (e : BitVec 32 × List Nat) (s : State) : State :=
  { s with toll := { s.toll with
      measured := if cpReady s then
          s.toll.measured ++ [⟨e.1, e.2, s.link.map fun p _ => litPower s p, s.compose.zones.map fun _ z => z.pubClass⟩]
        else [] } }

/-- FRAME_COMPOSITION_DONE (R87, R153, R182): figures and energies are published, and the decoded tile store is cleared. -/
def execFrameCompositionDone (s : State) : Host.Outcome State Fault Refusal :=
  .next (if isOn s .pix && (s.compose.busy || s.compose.unpublished.isSome) then
      let e := endingFrame s
      let s1 := (portsOf s.variant).foldl (fun s p => publishEnergy e.1 p s) (publishZones e.1 s)
      { handToToll e s1 with
        fetch := { s1.fetch with store := s1.fetch.store.filter fun x => x.frame != e.1 }
        compose := { s1.compose with
          unpublished := none, busy := s.compose.busy && s.compose.unpublished.isSome
          older := s.compose.older.filter fun r => r.racing || r.frame != e.1 } }
    else s)

/-! ## Scan-out check (R147, R148) -/

/-- The frame to which the tile that scan-out reads belongs: the frame being scanned, or the next one once the
tile's rows are past. -/
def readFrame (s : State) (row : Nat) (lower : Bool) : BitVec 32 :=
  let last := 32 * row + (if s.manifest.racing && !lower then 15 else 31)
  if last < lineNow s then s.scan.epoch + 1 else s.scan.epoch

/-- The mode in which a frame was composed (R145). -/
def frameRacing (s : State) (frame : BitVec 32) : Bool :=
  if frame = s.compose.frame then s.compose.racing
  else match s.compose.older with
    | some r => if r.frame = frame then r.racing else s.manifest.racing
    | none => s.manifest.racing

/-- The pair of a zone in a frame: the one chosen last, which a repeated frame shares (R145), or the one before it. -/
def framePair (s : State) (p : Port) (frame : BitVec 32) (z : Nat) : ZonePair :=
  let x := s.compose.zones.get p
  nth {} (if rowReached x frame (z / 8) then x.pairs else x.prevPairs) z

/-- The code of a zone in a frame. -/
def frameCode (s : State) (p : Port) (frame : BitVec 32) (z : Nat) : Nat := (framePair s p frame z).code

/-- Duties read through a path with flaws (R147). -/
def flawDuties (fs : List Flaw) (ds : List Nat) : List Nat :=
  fs.foldl (fun ds f => modifyAt (fun d => (d ^^^ f.flip) % 4096) f.pos ds) ds

/-- A signature of the TST matches duties. -/
def signed (s : State) (k : Nat) (ds : List Nat) : Bool :=
  let e := tstEntry s k
  e.valid && e.signature == signature ds

/-- Order 1 of R148: the duties of the substitute, if it exists and matches: in racing mode the copy of the half-tile in
the output frame buffer, in buffered mode a whole tile of the other buffer. -/
def substitute (s : State) (frame : BitVec 32) (p : Port) (tile z : Nat) (lower : Bool) : Option (List Nat) :=
  if frameRacing s frame then
    match outTile s frame p tile lower with
    | some o => if signed s (tstIndex true frame p tile lower) o.duties then some o.duties else none
    | none => none
  else
    match s.compose.out.find? fun o =>
      o.frame.toNat % 2 != frame.toNat % 2 && o.port == p && o.tile == tile && o.duties.length == 1024 with
    | some o =>
      if signed s (tstIndex false o.frame p tile false) o.duties then
        some (o.duties.map (rescale (curveOf s p) o.code (frameCode s p frame z)))
      else none
    | none => none

/-- Order 2 of R148: the same tile of the safe-beam duty image. -/
def safeTile (s : State) (frame : BitVec 32) (p : Port) (row col r0 h z : Nat) : List Nat :=
  (tilePixels row col r0 h).map fun q =>
    rescale (curveOf s p) (safeCode s p z) (frameCode s p frame z) (safeDuty s p q.1 q.2)

/-- The words that the ceiling_duty of a tile's pixels is computed from (R152, R375): those of its composition, where it has
been composed. -/
def tileWords (s : State) (frame : BitVec 32) (p : Port) (tile : Nat) (racing low : Bool) : List (BitVec 32) :=
  match outTile s frame p tile low with
  | some o => o.words
  | none => (tilePixels (tile / 32) (tile % 32) (if low then 16 else 0) (if racing then 16 else 32)).map fun q =>
      wordFor s (pixelIndex p q.1 q.2)

/-- The limit that governs a row at its latch (R375, R376): in an SF1 cell ceiling_duty, from the ceiling in force and the
pair and word that go with the duty (log 158). -/
def limitDuty (s : State) (p : Port) (n : Nat) (c r : Nat) (word : BitVec 32) (duty : Nat) : Nat :=
  match ceilingInForce s p c r with
  | some v => min duty (ceilingDuty word n v)
  | none => duty

/-- The duties of a tile or half-tile as they are sent. -/
def limitTile (s : State) (p : Port) (tile : Nat) (low : Bool) (n : Nat) (words : List (BitVec 32)) (duties : List Nat) :
    List Nat :=
  ((tilePixels (tile / 32) (tile % 32) (if low then 16 else 0) 32).zip (duties.zip words)).map fun e =>
    limitDuty s p n e.1.1 e.1.2 e.2.2 e.2.1

/-- The duties of a tile or half-tile enter the check buffer (R147), with what its ceiling_duty is computed from. -/
def putChecked (frame : BitVec 32) (p : Port) (tile : Nat) (racing low : Bool) (duties : List Nat) (s : State) : State :=
  let x : Checked := ⟨frame, p, tile, low, duties,
    (framePair s p frame (zoneAt (32 * (tile % 32)) (32 * (tile / 32)))).n, tileWords s frame p tile racing low⟩
  onCompose (fun c => { c with
    checked := x :: c.checked.filter fun y => !(y.port == x.port && y.tile == x.tile && y.lower == x.lower) }) s

/-- A signature mismatch counts; the first of a port in a frame raises kind 0x0E (R148). -/
def noteMismatch (p : Port) (entry : Nat) (s : State) : State :=
  let s1 := onCompose (fun c => { c with
    mismatchCount := count32 c.mismatchCount
    mismatched := if c.mismatched.contains p then c.mismatched else p :: c.mismatched }) s
  if s.compose.mismatched.contains p then s1 else raiseKind 0x0E { port := p.num, address := entry } s1

/-- What the scan-out engine reads of a tile: in racing mode the half-tile in the band ring, where the ring holds it, else
the tile in the output frame buffer of its frame (R138, R140). -/
def scanOutTile (s : State) (frame : BitVec 32) (racing : Bool) (p : Port) (tile : Nat) (low : Bool) : Option OutTile :=
  (if racing then
    s.compose.ring.find? fun o => o.frame == frame && o.port == p && o.tile == tile && o.lower == low
  else none).or (outTile s frame p tile low)

/-- What the scan-out engine reads, when it matches the TST (R147). -/
def checkedRead (s : State) (frame : BitVec 32) (racing : Bool) (p : Port) (tile : Nat) (low : Bool)
    (flaws : List Flaw) (bad : Bool) : Option (List Nat) :=
  match scanOutTile s frame racing p tile low with
  | some o =>
    let ds := flawDuties flaws o.duties
    if signed s (tstIndex racing frame p tile low) ds && !bad then some ds else none
  | none => none

/-- SCAN_OUT_TILE_CHECK (R147, R148): the tile or half-tile enters the check buffer, or its substitute does. -/
def execScanOutTileCheck (p : Port) (row col : Nat) (lower : Bool) (flaws : List Flaw) (s : State) :
    Host.Outcome State Fault Refusal :=
  .next (if !(isOn s .link && hasPort s p && decide (row < 16) && decide (col < 32)) then s
    else
      let frame := readFrame s row lower
      let racing := frameRacing s frame
      let low := racing && lower
      let tile := row * 32 + col
      let z := zoneAt (32 * col) (32 * row)
      let k := tstIndex racing frame p tile low
      let bad := s.compose.badTiles.contains (p.num * 512 + tile)
      let s1 := onCompose (fun c => { c with badTiles := c.badTiles.filter (· != p.num * 512 + tile) }) s
      match checkedRead s frame racing p tile low flaws bad with
      | some ds => putChecked frame p tile racing low ds s1
      | none =>
        match substitute s frame p tile z low with
        | some ds => putChecked frame p tile racing low ds (noteMismatch p k s1)
        | none =>
          putChecked frame p tile racing low
            (safeTile s frame p row col (if low then 16 else 0) (if racing then 16 else 32) z)
            (onCompose (fun c => { c with fallbackCount := count32 c.fallbackCount }) (noteMismatch p k s1)))

end Sys2Proof.Machine
end

