-- ==== Sys2Proof/Machine/Manifest.lean ====
section
/-!
DEFINITION. Manifest.lean: commits (R132 to R136), shade banks (R123 to R128), modes (R138, R145), the ceiling's
reload (R130) and the composer restart (R442).
-/

namespace Sys2Proof.Machine

open Sys2Proof

/-! ## Commits -/

/-- Applies `f` to the Manifest. -/
def onManifest (f : Manifest → Manifest) (s : State) : State := { s with manifest := f s.manifest }

/-- The staged copy is frozen: a commit is pending or its refill runs (R133). -/
def manifestFrozen (s : State) : Bool := s.manifest.pending || s.manifest.refilling

/-- ManifestState (R149). -/
def manifestState (s : State) : Nat := if s.manifest.refilling then 2 else ofBool s.manifest.pending

/-- A commit is requested; a request while one is pending or refilling merges with it (R133). -/
def requestCommit (s : State) : State :=
  if !isOn s .pix || manifestFrozen s then s else onManifest (fun m => { m with pending := true }) s

/-- A write to a Manifest object goes to the staged copy, and the planner recomputes (R113, R132). -/
def stageWrite (index sub v : Nat) (s : State) : State :=
  onManifest (fun m => { m with
    staged := tablePut (defaultOf s index sub) (objKey index sub) v m.staged
    recompute := true }) s

/-- A commit that passes its checks (R135, R137). -/
def acceptCommit (s : State) : State :=
  handleByPins (onManifest (fun m => { m with
    committed := m.staged
    committedFigures := m.stagedFigures
    pending := false
    refilling := true
    sequence := m.sequence + 1
    lastResult := 0
    commitEpoch := s.scan.epoch
    commitPos := s.scan.pos
    commitSeen := true }) s)

/-- A commit that the planner refuses (R113, R134). -/
def refuseCommit (code : Nat) (s : State) : State :=
  onManifest (fun m => { m with
    pending := false
    lastResult := code
    refusedCount := count32 m.refusedCount
    budgetRefusals := if code = 1 then count32 m.budgetRefusals else m.budgetRefusals }) s

/-- A pending commit can be judged: the figures cover the last write (R113), the calibration map is loaded (R170),
no composer restart runs and the refill of the commit before is done. -/
def commitDue (s : State) : Bool :=
  s.manifest.pending && !s.manifest.recompute && s.manifest.calLoaded && !s.units.composerRestart
    && !s.manifest.refilling

/-- A commit boundary (R134); the outcome sets its bit of the host interrupt status (R246). -/
def commitBoundary (s : State) : State :=
  if commitDue s then
    (if judgeCommit s = 0 then setIrq 4 (acceptCommit s) else setIrq 5 (refuseCommit (judgeCommit s) s))
  else s

/-- MANIFEST_REFILL_DONE (R135): the staged copy starts from what is committed. -/
def execManifestRefillDone (s : State) : Host.Outcome State Fault Refusal :=
  .next (if s.manifest.refilling then
    onManifest (fun m => { m with
      staged := m.committed, stagedFigures := m.committedFigures, refilling := false }) s
  else s)

/-! ## Shade banks -/

/-- Applies `f` to the shade banks. -/
def onShade (f : Shade → Shade) (s : State) : State := { s with shade := f s.shade }

/-- Object of slot `k` of a bank; a slot that is not listed is empty. -/
def shadeSlot (bank : List (BitVec 128)) (k : Nat) : BitVec 128 := nth 0 bank k

/-- A bank with all 64 slots written out. -/
def fullBank (bank : List (BitVec 128)) : List (BitVec 128) := (List.range 64).map (shadeSlot bank)

/-- A fresh list (R128): the age restarts, staleness is armed and ends. -/
def shadeFresh (s : State) : State :=
  clearCondition 0x0B 0x06
    (onShade (fun h => { h with freshAt := dtNow s, armed := true, stale := false }) s)

/-- A list of UHL lands in the staged bank as a whole (R124); under ShadeSwapTrigger 0x00 it requests the swap
(R126). -/
def landList (objs : List (BitVec 128)) (s : State) : State :=
  shadeFresh (onShade (fun h => { h with
    staged := objs
    written := true
    swapRequested := h.swapRequested || cfg s 0x3300 0x0D == 0
    superseded := if h.swapRequested then count32 h.superseded else h.superseded }) s)

/-- A checked list lands, or waits for the end of a refill (R124); a list that waits is replaced by the next. -/
def offerList (objs : List (BitVec 128)) (s : State) : State :=
  if s.shade.refilling then
    onShade (fun h => { h with
      waiting := some objs
      superseded := if h.waiting.isSome && cfg s 0x3300 0x0D == 0 then count32 h.superseded
        else h.superseded }) s
  else landList objs s

/-- A list is rejected or discarded (R120, R123). -/
def rejectList (s : State) : State := onShade (fun h => { h with rejected := count32 h.rejected }) s

/-- An accepted ShadeSwapRequest (R124, R126). -/
def acceptSwapRequest (s : State) : State :=
  shadeFresh (onShade (fun h => { h with
    frozen := true
    swapRequested := h.swapRequested || cfg s 0x3300 0x0D == 0 }) s)

/-- ShadeStagedState (R149). The manual gives no code to a bank that is frozen with no swap requested; it reads as a pending
swap (log 170). -/
def stagedState (s : State) : Nat :=
  if s.shade.refilling then 2 else ofBool (s.shade.swapRequested || s.shade.frozen)

/-- A swap boundary (R125). -/
def swapBoundary (s : State) : State :=
  if s.shade.swapRequested && s.shade.written && !s.shade.refilling && !s.units.composerRestart then
    onShade (fun h => { h with
      active := h.staged
      staged := h.active
      activeBank := !h.activeBank
      swapRequested := false
      written := false
      frozen := false
      refilling := true
      swapCount := h.swapCount + 1 }) s
  else s

/-- STAGED_BANK_REFILL_DONE (R124, R125): the staged bank is a copy of the active one, and a list that waited
lands. -/
def execStagedBankRefillDone (s : State) : Host.Outcome State Fault Refusal :=
  .next (if s.shade.refilling then
    let s1 := onShade (fun h => { h with staged := h.active, refilling := false, waiting := none }) s
    match s.shade.waiting with
    | some objs => landList objs s1
    | none => s1
  else s)

/-- One frame passes for an object (R127): its Ttl decreases, and at 0 the slot is empty. The manual does not say what the
other fields of an empty slot read; in the model all of them are 0 (log 169). -/
def decayShade (o : BitVec 128) : BitVec 128 :=
  if shadeTtl o ≤ 1 then 0 else o - (1 <<< 112)

/-- The Ttl of the active bank at a frame boundary (R127). -/
def decayActive (s : State) : State := onShade (fun h => { h with active := h.active.map decayShade }) s

/-- ShadeAgeMs (R128): 0 before the first fresh list. -/
def shadeAge (s : State) : Nat :=
  if s.shade.armed then min ((dtNow s - s.shade.freshAt) / 1000) 0xFFFF else 0

/-- SHADE_STALE (R128): the age exceeds ShadeStaleTime while it is armed. -/
def execShadeStale (s : State) : Host.Outcome State Fault Refusal :=
  .next (if isOn s .pix && s.shade.armed && !s.shade.stale && decide (cfg s 0x3300 2 < shadeAge s) then
    raiseKind 0x0B {} (onShade (fun h => { h with stale := true }) s) else s)

/-! ## Modes (R145) -/

/-- A written CompositionMode starts a change when none runs (R145); the manual does not say what a write during a change
does, and in the model it waits for its end (log 171). -/
def startModeChange (s : State) : State :=
  let target := cfg s 0x3000 5 == 1
  if s.manifest.modeChange.isSome || target == s.manifest.racing || !s.scan.running then s
  else onManifest (fun m => { m with modeChange := some (target, if target then 2 else 3) }) s

/-- The duty image and the signatures of a frame stand for the next one (R145: a repeated frame). -/
def repeatFrame (s : State) : State :=
  onCompose (fun c => { c with
    out := (c.out.filter fun o => o.frame == s.scan.epoch - 1).map (fun o => { o with frame := s.scan.epoch })
      ++ c.out.filter fun o => o.frame == s.scan.epoch - 1 }) s

/-- A frame boundary in a change of mode (R145): the frame that has just begun scanning is known in
`scan.epoch`. -/
def modeBoundary (s : State) : State :=
  match s.manifest.modeChange with
  | none => s
  | some (true, n) =>
    if n ≤ 1 then startModeChange (onManifest (fun m => { m with modeChange := none, racing := true }) s)
    else onManifest (fun m => { m with modeChange := some (true, n - 1) }) s
  | some (false, n) =>
    if n ≤ 1 then startModeChange (onManifest (fun m => { m with modeChange := none, racing := false }) s)
    else
      let s1 := onManifest (fun m => { m with modeChange := some (false, n - 1) }) s
      if n = 2 then repeatFrame s1 else s1

/-! ## Ceiling -/

/-- A part of the ceiling waits for its reload (R130). -/
def reloadDue (s : State) : Bool := s.ceiling.bad.any fun b => !b.reloaded

/-- What a reload of the map leaves of the failed parts (R130): an overdue one is restored at once, and one that failed in
this frame at the next frame boundary. -/
def reloadParts (bad : List BadCeiling) : List BadCeiling :=
  (bad.filter fun b => !b.overdue).map fun b => { b with reloaded := true }

/-- What a frame boundary leaves of the failed parts (R130): those reloaded are restored, and the others are overdue. -/
def overdueParts (bad : List BadCeiling) : List BadCeiling :=
  (bad.filter fun b => !b.reloaded).map fun b => { b with overdue := true }

/-- CEILING_MAP_RELOAD_DONE (R130): the CP, once it runs, has reloaded the map, and kind 0x0D ends. -/
def execCeilingMapReloadDone (s : State) : Host.Outcome State Fault Refusal :=
  .next (if reloadDue s && cpReady s then
    clearCondition 0x0D 0x07 { s with ceiling := { s.ceiling with bad := reloadParts s.ceiling.bad } }
  else s)

/-- CeilingMapState (R149): 1 while the CP reloads the map, 2 while it cannot. -/
def ceilingMapState (s : State) : Nat :=
  if !reloadDue s then 0 else if cpReady s then 1 else 2

/-- The keys of the written ceiling (R129). -/
def isCeilingKey (k : Nat) : Bool :=
  k == objKey 0x7101 1 || (decide (objKey 0x7110 0 ≤ k) && decide (k < objKey 0x7114 0))

/-- The ceiling at a frame boundary (R130, R131, R390): written rows and a change of source take effect, and a finished
reload ends the ceiling of 0. -/
def ceilingBoundary (s : State) : State :=
  { s with ceiling := { s.ceiling with
      written := s.dict.values.filter fun e => isCeilingKey e.1
      source := s.ceiling.sourceNext
      bad := overdueParts s.ceiling.bad } }

/-! ## Composer restart -/

/-- The composer stops and restarts; the SBG carries the light until a commit executes (R33, R137, R442). -/
def restartComposer (s : State) : State :=
  { s with
    units := { s.units with composerRestart := true }
    manifest := { s.manifest with safeUntilCommit := true, commitSeen := false }
    compose := { s.compose with
      busy := false, due := false, begun := false, staged := [], stagedRows := PerPort.const 0
      older := none, unpublished := none, ring := [] } }

/-- The stall reaction (R358 kind 0x0C): the restart closes the composer's wrapper (R355, R441). -/
def stallComposer (s : State) : State :=
  if isOn s .pix then closeWrapper 0x06 (raiseKind 0x0C {} (restartComposer s)) else s

/-- COMPOSER_STALL (R358): no signature for one band time while composition is due. -/
def execComposerStall (s : State) : Host.Outcome State Fault Refusal :=
  .next (if s.compose.busy && !s.units.composerRestart then stallComposer s else s)

/-- COMPOSER_RESTART_DONE (R442): the composer requests a commit of the staged Manifest. -/
def execComposerRestartDone (s : State) : Host.Outcome State Fault Refusal :=
  .next (if s.units.composerRestart then
    requestCommit { s with units := { s.units with composerRestart := false } } else s)

end Sys2Proof.Machine
end

