-- ==== Sys2Proof/Machine/Replies.lean ====
section
/-!
DEFINITION. Replies.lean: the answers that the transports give (R229, R244, R250, R254, R258, R464).
-/

namespace Sys2Proof.Machine

open Sys2Proof

/-! ## Status codes (R229) -/

/-- Done. -/
def stOk : Nat := 0x00
/-- Busy; nothing was done. -/
def stBusy : Nat := 0x01
/-- Forbidden by access code, session, life cycle, variant or the unit's state. -/
def stAccess : Nat := 0x02
/-- No object at the address. -/
def stNoObject : Nat := 0x03
/-- Value out of range. -/
def stRange : Nat := 0x04
/-- Size does not match. -/
def stLength : Nat := 0x05
/-- The request failed its CRC. -/
def stCheck : Nat := 0x06
/-- Transfer timed out or superseded. -/
def stAborted : Nat := 0x07

/-! ## CAN -/

/-- The smallest size of a CAN FD frame that holds `n` bytes (R254). -/
def canSize (n : Nat) : Nat :=
  if n ≤ 8 then n else if n ≤ 12 then 12 else if n ≤ 16 then 16 else if n ≤ 20 then 20
  else if n ≤ 24 then 24 else if n ≤ 32 then 32 else if n ≤ 48 then 48 else 64

/-- A frame's bytes padded with 0x00 (R254). -/
def canPad (bs : List Byte) : List Byte := bs ++ List.replicate (canSize bs.length - bs.length) 0

/-- Byte 0 of a CAN frame: kind, op, tag (R254). -/
def canByte0 (kind op tag : Nat) : Byte := BitVec.ofNat 8 (kind * 64 + op * 16 + tag)

/-- Consecutive frames of a segmented response, counter from 1 (R254). -/
def canConsecutive (op tag : Nat) : Nat → Nat → List Byte → List (List Byte)
  | 0, _, _ => []
  | fuel + 1, n, bs =>
    if bs.isEmpty then []
    else canPad (canByte0 2 op tag :: BitVec.ofNat 8 n :: bs.take 62)
      :: canConsecutive op tag fuel (n + 1) (bs.drop 62)

/-- The frames of a response (R254): single up to 62 bytes, else a first frame and consecutive frames. -/
def canFrames (op tag status : Nat) (bs : List Byte) : List (List Byte) :=
  if bs.length ≤ 62 then [canPad (canByte0 0 op tag :: BitVec.ofNat 8 status :: bs)]
  else canPad (canByte0 1 op tag :: BitVec.ofNat 8 status :: (leBytes 2 bs.length ++ bs.take 60))
    :: canConsecutive op tag (bs.length + 1) 1 (bs.drop 60)

/-- A bus recovers from bus-off, during which it neither sends nor receives (R252). -/
def busOff (s : State) (bus : Bus) : Bool :=
  match bus with
  | .a => s.host.recoveringA != 0
  | .b => s.host.recoveringB != 0

/-- Sends frames on a bus under a response identifier; a bus that recovers from bus-off sends them then (log 55). -/
def canSend (bus : Bus) (id : BitVec 29) (frames : List (List Byte)) (s : State) : State :=
  let out := frames.map fun f => ({ bus := bus, id := id, data := f } : CanTx)
  { s with host :=
    if busOff s bus then { s.host with canHeld := s.host.canHeld ++ out }
    else { s.host with canOut := s.host.canOut ++ out } }

/-- The other bus. -/
def otherBus : Bus → Bus
  | .a => .b
  | .b => .a

/-- The request on a bus that waits for its answer: of those with its identifier and tag the oldest (R256). -/
def isAnswered (bus : Bus) (id : BitVec 29) (tag : Nat) (r : CanRecent) : Bool :=
  r.bus == bus && r.id == id && (r.data.headD 0).toNat % 16 == tag && r.frames.isEmpty

/-- Replaces the first element that `p` admits. -/
def replaceFirst {α : Type} (p : α → Bool) (f : α → α) : List α → List α
  | [] => []
  | x :: xs => if p x then f x :: xs else x :: replaceFirst p f xs

/-- The answer to a CAN request to a node: on its bus, and on the other when its double has arrived there (R256); the
frames are kept for a double still to come. -/
def answerCan (node : Nat) (bus : Bus) (write : Bool) (tag index status : Nat) (bs : List Byte) (s : State) : State :=
  let frames := canFrames (ofBool write) tag status bs
  let mine := isAnswered bus (canId s false node index) tag
  let id := canId s true node index
  let doubled := (s.host.canRecent.find? mine).any (·.doubled)
  let s1 := canSend bus id frames s
  let s2 := if doubled then canSend (otherBus bus) id frames s1 else s1
  { s2 with host := { s2.host with
      canRecent := replaceFirst mine (fun r => { r with frames := frames }) s2.host.canRecent } }

/-! ## Caravan -/

/-- Bytes packed in words, the lower byte in [7:0], the last word padded with 0 (R458). -/
def packWords : List Byte → List (BitVec 16)
  | [] => []
  | [b] => [BitVec.ofNat 16 b.toNat]
  | b :: c :: bs => BitVec.ofNat 16 (b.toNat + 256 * c.toNat) :: packWords bs

/-- The start payload of a message (R458). -/
def ringStart (cls tag count : Nat) : BitVec 16 := BitVec.ofNat 16 (cls * 2 ^ 12 + tag * 2 ^ 8 + count)

/-- A dictionary response of a Waystation: status, size, data (R458 class 0x2). -/
def ringResponse (tag status : Nat) (bs : List Byte) : List (BitVec 16) :=
  let ws := BitVec.ofNat 16 (status * 256 + bs.length) :: packWords bs
  ringStart 0x2 tag ws.length :: ws

/-! ## The answer -/

/-- OdWriteLastStatus and OdWriteLastObject take their words (R244). -/
def setOdStatus (status object : BitVec 32) (s : State) : State :=
  { s with host := { s.host with odStatus := status, odObject := object } }

/-- A waiter is a record of an OD_WRITE. -/
def Waiter.isRecord (w : Waiter) : Bool :=
  match w.via with
  | .uhl _ => true
  | _ => false

/-- Records of the OD_WRITE that the CP has applied still wait for NVM (R242, R276). -/
def recordsWait (s : State) : Bool := s.journal.queue.any fun j => j.waiter.any Waiter.isRecord

/-- The records of a packet that still wait report no more (R244). -/
def quietRecords (s : State) : State :=
  { s with journal := { s.journal with
      queue := s.journal.queue.map fun j =>
        { j with waiter := j.waiter.map fun w => if w.isRecord then { w with last := false } else w } } }

/-- A refused record of an OD_WRITE (R244): it is recorded and sets bit 1, and since the first refusal stands the records
of its packet that still wait report no more. -/
def recordRefusal (record index sub status : Nat) (s : State) : State :=
  quietRecords (setIrq 1
    (setOdStatus (BitVec.ofNat 32 (status * 2 ^ 24 + record * 2 ^ 16)) (BitVec.ofNat 32 (index * 2 ^ 8 + sub)) s))

/-- The answer to a dictionary request on the way it came. -/
def answer (via : Via) (write : Bool) (index sub status : Nat) (bs : List Byte) (s : State) : State :=
  match via with
  | .shp tag => { s with host := { s.host with
      shpResponses := s.host.shpResponses ++ [⟨status, tag, bs⟩] } }
  | .can bus tag => answerCan s.power.options.nodeId bus write tag index status bs s
  | .sbp =>
    let x := s.host.sbp
    { s with host := { s.host with
      sbp := if write then { x with status := some status } else { x with fetched := some (status, bs) } } }
  | .uhl record => if status = stOk then s else recordRefusal record index sub status s
  | .caravan tag => { s with caravan := { s.caravan with
      dictionary := s.caravan.dictionary ++ [⟨0, false, ringResponse tag status bs⟩] } }

/-- The answer to whoever waits for a write: only the last record of a request brings it, with the first failure of the
request (R249). -/
def answerWaiter (w : Option Waiter) (status : Nat) (s : State) : State :=
  match w with
  | none => s
  | some w =>
    if w.last then answer w.via true w.index w.sub (if w.status = stOk then status else w.status) [] s else s

/-- The same refusal to a list of waiters; of the records of one OD_WRITE only the first reports it (R244). -/
def refuseAll (status : Nat) : Bool → List (Option Waiter) → State → State
  | _, [], s => s
  | told, w :: ws, s =>
    let record := w.any Waiter.isRecord
    refuseAll status (told || record) ws (if told && record then s else answerWaiter w status s)

end Sys2Proof.Machine
end

