-- ==== Sys2Proof/Machine/ControlQueue.lean ====
section
/-!
DEFINITION. ControlQueue.lean: the packets of the control lane that wait, and what they do in the order of their EOP
(R241, R242, R244, R245).
-/

namespace Sys2Proof.Machine

open Sys2Proof

/-- Applies `f` to the control ports. -/
def onHost (f : HostPorts → HostPorts) (s : State) : State := { s with host := f s.host }

/-- A shade object as a bank keeps it: its reserved bits read 0 (R119). -/
def keptObject (o : BitVec 128) : BitVec 128 := o &&& ~~~(0xFFFF#128 <<< 64)

/-- A checked SHADE_LIST (R120, R123, R124, R241). -/
def shadeList (objs : List (BitVec 128)) (s : State) : State :=
  if s.shade.source ≠ 0 ∨ objs.any fun o => shadeInvalid o then setIrq 6 (rejectList s)
  else offerList (objs.map keptObject) s

/-- The time pair of a TIME_SYNC (R56, R245). -/
def noteTimePair (time : BitVec 64) (dt : BitVec 48) (s : State) : State :=
  { s with scan := { s.scan with hostTime := time, dtAtSync := dt } }

/-- Packets at the front of the queue take effect up to the first OD_WRITE (R242). -/
def actItems : List ControlItem → State → State
  | .commit :: q, s => actItems q (requestCommit s)
  | .shades objs :: q, s => actItems q (shadeList objs s)
  | .timePair v dt :: q, s => actItems q (noteTimePair v dt s)
  | q, s => onHost (fun h => { h with queue := q }) s

/-- The queue goes on unless records of the OD_WRITE before it still wait for NVM (R242, R276). -/
def runQueue (s : State) : State := if recordsWait s then s else actItems s.host.queue s

/-- A packet of the control lane takes effect after those before it (R242). -/
def queueItem (x : ControlItem) (s : State) : State :=
  runQueue (onHost (fun h => { h with queue := h.queue ++ [x] }) s)

/-- An OD_WRITE packet is discarded whole because the CP boots or the queue is full (R244). -/
def discardRecords (s : State) : State :=
  setIrq 1 (onHost (fun h => { h with
    odDiscards := count32 h.odDiscards
    odStatus := BitVec.ofNat 32 (stBusy * 2 ^ 24)
    odObject := 0 }) s)

/-- The queue is emptied without the CP: its OD_WRITEs are discarded, and the packets behind them act (R242, R244, R261). -/
def dropItems : List ControlItem → State → State
  | [], s => s
  | .odWrite _ _ :: q, s => dropItems q (discardRecords s)
  | x :: q, s => dropItems q (actItems [x] s)

/-- The packets that wait for a CP that boots or loses its power. -/
def dropPackets (s : State) : State := dropItems s.host.queue (onHost (fun h => { h with queue := [] }) s)

end Sys2Proof.Machine
end

