-- ==== Sys2Proof/Machine/Crypto.lean ====
section
/-!
DEFINITION. Crypto.lean: SHA-256 (FIPS 180-4), HMAC-SHA-256 (FIPS 198-1) and ECDSA over P-256 (FIPS 186-4),
as R271, R474, R475 and R495 call for them.
-/

namespace Sys2Proof.Machine

open Sys2Proof

/-! ## SHA-256 -/

/-- A 32-bit word. -/
abbrev Word32 := BitVec 32

/-- The round constants of SHA-256. -/
def shaK : List Nat := [
   0x428A2F98, 0x71374491, 0xB5C0FBCF, 0xE9B5DBA5, 0x3956C25B, 0x59F111F1, 0x923F82A4, 0xAB1C5ED5,
   0xD807AA98, 0x12835B01, 0x243185BE, 0x550C7DC3, 0x72BE5D74, 0x80DEB1FE, 0x9BDC06A7, 0xC19BF174,
   0xE49B69C1, 0xEFBE4786, 0x0FC19DC6, 0x240CA1CC, 0x2DE92C6F, 0x4A7484AA, 0x5CB0A9DC, 0x76F988DA,
   0x983E5152, 0xA831C66D, 0xB00327C8, 0xBF597FC7, 0xC6E00BF3, 0xD5A79147, 0x06CA6351, 0x14292967,
   0x27B70A85, 0x2E1B2138, 0x4D2C6DFC, 0x53380D13, 0x650A7354, 0x766A0ABB, 0x81C2C92E, 0x92722C85,
   0xA2BFE8A1, 0xA81A664B, 0xC24B8B70, 0xC76C51A3, 0xD192E819, 0xD6990624, 0xF40E3585, 0x106AA070,
   0x19A4C116, 0x1E376C08, 0x2748774C, 0x34B0BCB5, 0x391C0CB3, 0x4ED8AA4A, 0x5B9CCA4F, 0x682E6FF3,
   0x748F82EE, 0x78A5636F, 0x84C87814, 0x8CC70208, 0x90BEFFFA, 0xA4506CEB, 0xBEF9A3F7, 0xC67178F2]

/-- The initial hash value of SHA-256. -/
def shaStart : List Word32 := [
  0x6A09E667, 0xBB67AE85, 0x3C6EF372, 0xA54FF53A,
  0x510E527F, 0x9B05688C, 0x1F83D9AB, 0x5BE0CD19]

/-- Word `i` of a list of words. -/
def wordAt (ws : List Word32) (i : Nat) : Word32 := ws.getD i 0

/-- The next word of the message schedule from the last sixteen, newest first. -/
def scheduleNext (ws : List Word32) : Word32 :=
  let x := wordAt ws 14
  let y := wordAt ws 1
  let s0 := x.rotateRight 7 ^^^ x.rotateRight 18 ^^^ x >>> 3
  let s1 := y.rotateRight 17 ^^^ y.rotateRight 19 ^^^ y >>> 10
  wordAt ws 15 + s0 + wordAt ws 6 + s1

/-- The message schedule, newest first, after `n` more words. -/
def schedule : Nat → List Word32 → List Word32
  | 0, ws => ws
  | n + 1, ws => schedule n (scheduleNext ws :: ws)

/-- One round on the eight working words. -/
def shaRound (v : List Word32) (kw : Word32) : List Word32 :=
  match v with
  | [a, b, c, d, e, f, g, h] =>
    let s1 := e.rotateRight 6 ^^^ e.rotateRight 11 ^^^ e.rotateRight 25
    let ch := (e &&& f) ^^^ (~~~e &&& g)
    let t1 := h + s1 + ch + kw
    let s0 := a.rotateRight 2 ^^^ a.rotateRight 13 ^^^ a.rotateRight 22
    let maj := (a &&& b) ^^^ (a &&& c) ^^^ (b &&& c)
    [t1 + (s0 + maj), a, b, c, d + t1, e, f, g]
  | _ => v

/-- The sixteen words of a block, newest (last) first. -/
def blockWords (bs : List Byte) : List Word32 :=
  ((List.range 16).map fun i => BitVec.ofNat 32 (beNat ((bs.drop (4 * i)).take 4))).reverse

/-- One block into the hash value. -/
def shaBlock (h : List Word32) (bs : List Byte) : List Word32 :=
  let ws := (schedule 48 (blockWords bs)).reverse
  let v := (ws.zip shaK).foldl (fun v wk => shaRound v (wk.1 + BitVec.ofNat 32 wk.2)) h
  (h.zip v).map fun x => x.1 + x.2

/-- The blocks of a padded message into the hash value; `n` bounds their number. -/
def shaBlocks : Nat → List Word32 → List Byte → List Word32
  | 0, h, _ => h
  | n + 1, h, bs => if bs.isEmpty then h else shaBlocks n (shaBlock h (bs.take 64)) (bs.drop 64)

/-- The padding of SHA-256 after `n` bytes. -/
def shaPad (n : Nat) : List Byte :=
  0x80 :: (List.replicate ((119 - n % 64) % 64) 0 ++ beBytes 8 (8 * n))

/-- SHA-256 of bytes, 32 bytes. -/
def sha256 (bs : List Byte) : List Byte :=
  let padded := bs ++ shaPad bs.length
  (shaBlocks (padded.length / 64) shaStart padded).flatMap fun w => beBytes 4 w.toNat

/-! ## HMAC -/

/-- HMAC-SHA-256 with a key of at most 64 bytes. -/
def hmacSha256 (key msg : List Byte) : List Byte :=
  let k := key ++ List.replicate (64 - key.length) 0
  let inner := sha256 (k.map (· ^^^ 0x36) ++ msg)
  sha256 (k.map (· ^^^ 0x5C) ++ inner)

/-! ## P-256 -/

/-- The prime of P-256. -/
def p256 : Nat := 0xFFFFFFFF00000001000000000000000000000000FFFFFFFFFFFFFFFFFFFFFFFF

/-- The order of the base point. -/
def p256n : Nat := 0xFFFFFFFF00000000FFFFFFFFFFFFFFFFBCE6FAADA7179E84F3B9CAC2FC632551

/-- The coefficient b of the curve. -/
def p256b : Nat := 0x5AC635D8AA3A93E7B3EBBD55769886BC651D06B0CC53B0F63BCE3C3E27D2604B

/-- The base point. -/
def p256g : Nat × Nat :=
  (0x6B17D1F2E12C4247F8BCE6E563A440F277037D812DEB33A0F4A13945D898C296,
   0x4FE342E2FE1A7F9B8EE7EB4A7C0F9E162BCE33576B315ECECBB6406837BF51F5)

/-- `a ^ e` modulo `m`, `bits` bounding the bits of `e`. -/
def powMod (m : Nat) : Nat → Nat → Nat → Nat
  | 0, _, _ => 1 % m
  | bits + 1, a, e =>
    let r := powMod m bits (a * a % m) (e / 2)
    if e % 2 = 1 then r * a % m else r

/-- The inverse of `a` modulo a prime `m` of at most 256 bits. -/
def invMod (m a : Nat) : Nat := powMod m 256 (a % m) (m - 2)

/-- The sum of two points of the curve; none is the point at infinity. -/
def pointAdd (x y : Option (Nat × Nat)) : Option (Nat × Nat) :=
  match x, y with
  | none, q => q
  | q, none => q
  | some (x1, y1), some (x2, y2) =>
    if x1 = x2 ∧ (y1 + y2) % p256 = 0 then none
    else
      let l :=
        if x1 = x2 then (3 * x1 * x1 + (p256 - 3)) * invMod p256 (2 * y1) % p256
        else (y2 + p256 - y1) * invMod p256 (x2 + p256 - x1) % p256
      let x3 := (l * l + 2 * p256 - x1 - x2) % p256
      some (x3, (l * (x1 + p256 - x3) + p256 - y1) % p256)

/-- `k` times a point, `bits` bounding the bits of `k`. -/
def pointMul : Nat → Nat → Option (Nat × Nat) → Option (Nat × Nat)
  | 0, _, _ => none
  | bits + 1, k, q =>
    let r := pointMul bits (k / 2) (pointAdd q q)
    if k % 2 = 1 then pointAdd r q else r

/-- The point lies on the curve. -/
def onCurve (q : Nat × Nat) : Bool :=
  decide (q.1 < p256) && decide (q.2 < p256)
    && decide (q.2 * q.2 % p256 = (q.1 * q.1 * q.1 + (p256 - 3) * q.1 + p256b) % p256)

/-- ECDSA verification of a 32-byte digest by signature (r, s) under a public key. -/
def ecdsaVerify (key : Nat × Nat) (digest : List Byte) (r s : Nat) : Bool :=
  if r = 0 ∨ r ≥ p256n ∨ s = 0 ∨ s ≥ p256n ∨ !onCurve key then false
  else
    let w := invMod p256n s
    let u1 := beNat digest * w % p256n
    let u2 := r * w % p256n
    match pointAdd (pointMul 256 u1 (some p256g)) (pointMul 256 u2 (some key)) with
    | none => false
    | some (x, _) => x % p256n == r

/-- A 64-byte signature, r then s, big-endian, over the SHA-256 of a message (R474, R495). -/
def signatureGood (key : Nat × Nat) (msg sig : List Byte) : Bool :=
  ecdsaVerify key (sha256 msg) (beNat (sig.take 32)) (beNat (sig.drop 32))

end Sys2Proof.Machine
end

