-- ==== Sys2Proof/Machine/Journal.lean ====
section
/-!
DEFINITION. Journal.lean: the journal in NVM: records, queue, scan, compaction and budget (R487 to R493).
-/

namespace Sys2Proof.Machine

open Sys2Proof

/-- Size of a record with `l` value bytes (R487). -/
def recordSize (l : Nat) : Nat := (12 + l + 7) / 8 * 8 + 8

/-- The bytes of a record up to its Crc (R487): Mark, Index, Subindex, Kind, Length, Sequence, Value and Pad. -/
def recordBody (r : JRecord) : List Byte :=
  [0x4A, 0x52] ++ leBytes 2 r.index ++ leBytes 1 r.sub ++ leBytes 1 r.kind ++ leBytes 2 r.length
    ++ leBytes 4 r.sequence ++ leBytes r.length r.value
    ++ List.replicate ((12 + r.length + 7) / 8 * 8 - (12 + r.length)) 0xFF

/-- A record as it stands in NVM (R487): its Crc and then Commit close it. -/
def recordImage (r : JRecord) : List Byte :=
  recordBody r ++ leBytes 4 (crc32c (recordBody r)) ++ [0, 0, 0, 0]

/-- The header of a bank as a record of kind 0x05 (R487): Generation, then 4 bytes of 0. -/
def headerRecord (b : Bank) : JRecord := ⟨0, 0, 5, 8, b.headerSeq, b.generation⟩

/-- The compaction-done record of a bank, of kind 0x04 (R487). -/
def doneRecord (b : Bank) : JRecord := ⟨0, 0, 4, 0, b.doneSeq, 0⟩

/-- Bytes of a journal bank (R472). -/
def bankSize : Nat := 49152

/-- The fill at which the SM compacts: 75 % (R490). -/
def compactFill : Nat := 36864

/-- The bound of the live size (R491). -/
def liveBound : Nat := 32768

/-- The active bank. -/
def activeBank (s : State) : Bank := if s.journal.active = 0 then s.nvm.bank0 else s.nvm.bank1

/-- Replaces the active bank. -/
def putActiveBank (b : Bank) (s : State) : State :=
  { s with nvm :=
      if s.journal.active = 0 then { s.nvm with bank0 := b } else { s.nvm with bank1 := b } }

/-- The bank that is not active. -/
def otherBank (s : State) : Bank := if s.journal.active = 0 then s.nvm.bank1 else s.nvm.bank0

/-- Replaces the bank that is not active. -/
def putOtherBank (b : Bank) (s : State) : State :=
  { s with nvm :=
      if s.journal.active = 0 then { s.nvm with bank1 := b } else { s.nvm with bank0 := b } }

/-- An invalid record follows those of a bank (R489). -/
def markTorn (b : Bank) : Bank := { b with torn := some (b.torn.getD b.records.length) }

/-- The records of a bank that a scan finds: those before the first invalid one (R489). -/
def scannedRecords (b : Bank) : List JRecord :=
  match b.torn with
  | some n => b.records.take n
  | none => b.records

/-- Two records have the same key. -/
def sameKey (a b : JRecord) : Bool := a.kind == b.kind && a.index == b.index && a.sub == b.sub

/-- The standing records of a bank: of each key the one written last (R489). -/
def standing : List JRecord → List JRecord
  | [] => []
  | r :: rs => if rs.any (sameKey r) then standing rs else r :: standing rs

/-- The standing record of an object among records (R277). -/
def standingOf (rs : List JRecord) (index sub : Nat) : Option JRecord :=
  rs.reverse.find? fun r => r.kind == 1 && r.index == index && r.sub == sub

/-- The level of the restore mark that stands among records: 0 none, 1 customer objects, 2 also the safety set (R278). -/
def restoreMark (rs : List JRecord) : Nat :=
  match rs.reverse.find? fun r => r.kind == 2 with
  | some r => r.value
  | none => 0

/-- The object lies in the safety parameter set (R264). -/
def inSafetySet (index sub : Nat) : Bool :=
  index == 0x7100 || (index == 0x7101 && sub == 1)
    || (decide (0x7110 ≤ index) && decide (index ≤ 0x7113)) || index == 0x7120

/-- A restore mark of the level names the object (R278). -/
def markNames (level index sub : Nat) : Bool :=
  if decide (0x7000 ≤ index) && decide (index < 0x8000) then decide (level = 2) && inSafetySet index sub
  else if decide (0x9000 ≤ index) && decide (index < 0xA000) then false
  else decide (level ≥ 1)

/-- A compaction copies the record (R490 step 3): a standing commit record, or an object value other than its
default that no mark names. -/
def isCopied (s : State) (level : Nat) (r : JRecord) : Bool :=
  if r.kind = 3 then true
  else r.kind == 1 && r.value != defaultOf s r.index r.sub && !markNames level r.index r.sub

/-- Total size of the records that a compaction copies from a list of standing records. -/
def copiedBytes (s : State) (level : Nat) (rs : List JRecord) : Nat :=
  sumOf ((rs.filter (isCopied s level)).map fun r => recordSize r.length)

/-- JournalLiveBytes (R491). -/
def liveBytes (s : State) : Nat :=
  copiedBytes s (restoreMark (activeBank s).records) (standing (activeBank s).records) + 56

/-- JournalFill in percent (R490). -/
def journalFill (s : State) : Nat := (activeBank s).used * 100 / bankSize

/-- A record made of a queued write. -/
def recordOf (sequence : Nat) (w : JWrite) : JRecord :=
  ⟨w.index, w.sub, w.kind, w.length, sequence, w.value⟩

/-- The live size with further writes (R491). -/
def liveWith (s : State) (ws : List JWrite) : Nat :=
  let rs := (activeBank s).records ++ ws.map (recordOf 0)
  copiedBytes s (restoreMark rs) (standing rs) + 56

/-- Bytes of the budget that a record spends: those of kinds 0x01 and 0x02 alone (R492). -/
def budgetCost (w : JWrite) : Nat := if w.kind ≤ 2 then recordSize w.length else 0

/-- Bytes of the budget that the queue will spend (R492). -/
def queuedBytes (s : State) : Nat := sumOf (s.journal.queue.map budgetCost)

/-- What the journal says to a write: taken, busy, or refused for its live size (R276, R491, R492). -/
inductive JournalAnswer where
  | taken | busy | full
  deriving DecidableEq, Repr

/-- The journal's answer to a write, which the writes that wait precede (R276, R491, R492). -/
def judgeWrite (s : State) (w : JWrite) : JournalAnswer :=
  if !s.journal.scanned || s.journal.compacting || decide (s.journal.queue.length ≥ 8) then .busy
  else if liveWith s (s.journal.queue ++ [w]) > liveBound then .full
  else if budgetCost w ≠ 0 ∧ queuedBytes s + budgetCost w > s.aon.journalBudget then .busy
  else .taken

/-- Raises kind 0x39 with the object in its address (R354, R488, R491). -/
def raiseJournal (index sub : Nat) (s : State) : State :=
  raiseKind 0x39 { address := index * 256 + sub } s

/-- A write enters the queue, or is answered with 0x01 (R276). -/
def enqueueWrite (w : JWrite) (s : State) : State :=
  match judgeWrite s w with
  | .taken => { s with journal := { s.journal with queue := s.journal.queue ++ [w] } }
  | .busy => answerWaiter w.waiter stBusy s
  | .full => answerWaiter w.waiter stBusy (raiseJournal w.index w.sub s)

/-- A record is programmed into the active bank, taking `bytes` of its room. -/
def appendRecord (r : JRecord) (bytes : Nat) (s : State) : State :=
  let b := activeBank s
  let s1 := putActiveBank { b with records := b.records ++ [r], used := b.used + bytes } s
  { s1 with journal := { s1.journal with sequence := r.sequence } }

/-- The SM starts a compaction when the fill calls for it (R490). -/
def checkFill (s : State) : State :=
  if (activeBank s).used ≥ compactFill then
    { s with journal := { s.journal with compacting := true } }
  else s

/-- The bank a compaction writes (R490 steps 1 to 4): the next Generation, the copied records with their
sequences, header and done record with the next two. -/
def compacted (s : State) : Bank :=
  let level := restoreMark (activeBank s).records
  let rs := (standing (activeBank s).records).filter (isCopied s level)
  { generation := (activeBank s).generation + 1
    header := true
    done := true
    headerSeq := s.journal.sequence + 1
    doneSeq := s.journal.sequence + 2
    records := rs
    used := sumOf (rs.map fun r => recordSize r.length) + 56
    torn := none }

/-- A bank that a scan may choose (R489). -/
def bankValid (b : Bank) : Bool := b.header && b.done

/-- The bank that a scan chooses: the valid one, of two the higher Generation (R489). -/
def chooseBank (s : State) : Nat :=
  if bankValid s.nvm.bank1 && (!bankValid s.nvm.bank0
      || decide (s.nvm.bank1.generation > s.nvm.bank0.generation)) then 1 else 0

/-- Highest Sequence that a scan finds in a bank (R489): of its header, its done record and its valid records. -/
def topSequence (b : Bank) : Nat :=
  maxOf 0 ((headerRecord b :: doneRecord b :: scannedRecords b).map (·.sequence))

/-- The work of the NVM controller is cut off (R493): the record in progress is torn, queued writes are
answered with 0x01, a compaction leaves the new bank without its done record, and a program in progress is
abandoned. -/
def cutNvm (s : State) : State :=
  let b := activeBank s
  let s1 := if s.journal.queue.isEmpty then s else putActiveBank (markTorn b) s
  let s2 := if s.journal.compacting then putOtherBank {} s1 else s1
  let waiters := s.journal.queue.map (·.waiter) ++ [s.journal.optionWrite.map (·.2)]
  let s3 := refuseAll stBusy false waiters s2
  { s3 with
    nvm := { s3.nvm with
      optionB := match s.journal.optionWrite with
        | some (_, _) => 0
        | none => s3.nvm.optionB
      area := if s.journal.areaWrite.isSome then 0 else s3.nvm.area }
    journal := { s3.journal with
      queue := [], compacting := false, optionWrite := none, areaWrite := none } }

/-- The work of the NVM controller is cut off while SAFE goes on (R304, R433, R493): a torn record counts, and a compaction
runs before the next write. -/
def cutRunning (s : State) : State :=
  let torn := s.journal.scanned && !s.journal.queue.isEmpty
  let s1 := cutNvm s
  { s1 with journal := { s1.journal with
      compacting := s.journal.scanned && (torn || s.journal.compacting)
      tornCount := if torn then count32 s1.journal.tornCount else s1.journal.tornCount } }

end Sys2Proof.Machine
end

