-- ==== Sys2Proof/Machine/Images.lean ====
section
/-!
DEFINITION. Images.lean: packages, directory entries, boot selection and the checks of a boot (R474 to R479).
-/

namespace Sys2Proof.Machine

open Sys2Proof

/-! ## Life cycle -/

/-- The number of the highest life-cycle word that is not erased (R494). -/
def lifeState (s : State) : Nat :=
  maxOf 0 ((List.range 5).filter fun i => nth 0 s.nvm.life i != 0)

/-- Codes of the life-cycle states (R287). -/
def lcBlank : Nat := 0
/-- MAKER. -/
def lcMaker : Nat := 1
/-- DEVELOP. -/
def lcDevelop : Nat := 2
/-- FIELD. -/
def lcField : Nat := 3
/-- RETURN. -/
def lcReturn : Nat := 4

/-! ## Slots -/

/-- A flash slot (R473). -/
def slotOf (s : State) (n : Nat) : Slot := if n = 0 then s.nvm.slot0 else s.nvm.slot1

/-- Replaces a flash slot. -/
def putSlot (n : Nat) (x : Slot) (s : State) : State :=
  { s with nvm := if n = 0 then { s.nvm with slot0 := x } else { s.nvm with slot1 := x } }

/-- A program store bank (R473). -/
def bankOf (s : State) (n : Nat) : Package := if n = 0 then s.nvm.bankA else s.nvm.bankB

/-- Replaces a program store bank. -/
def putBank (n : Nat) (x : Package) (s : State) : State :=
  { s with nvm := if n = 0 then { s.nvm with bankA := x } else { s.nvm with bankB := x } }

/-- What a processor boots from: the CP from flash, SM and LS from the program store (R473). Processors are
numbered 0 CP, 1 SM, 2 LS. -/
def bootSource (s : State) (proc slot : Nat) : Package :=
  if proc = 0 then (slotOf s slot).package else bankOf s slot

/-! ## Headers -/

/-- `n` bytes of a package from `off` on, as a number (R7). -/
def field (bs : List Byte) (off n : Nat) : Nat := leNat ((bs.drop off).take n)

/-- Bytes `off` to `off + n - 1` are all 0. -/
def allZero (bs : List Byte) (off n : Nat) : Bool := ((bs.drop off).take n).all (· == 0)

/-- What a directory entry says for compatibility and reporting (R475). -/
structure DirEntry where
  provided : Nat
  firstLo  : Nat
  firstHi  : Nat
  secondLo : Nat
  secondHi : Nat
  version  : Nat
  deriving DecidableEq, Repr

/-- Start of the entry of a processor. -/
def entryAt (proc : Nat) : Nat := 32 + 64 * proc

/-- The entry of a processor in a package (R475); of the package that ships, the maker's values. -/
def dirEntry (p : Package) (proc : Nat) : DirEntry :=
  match p with
  | .complete bs =>
    let o := entryAt proc
    ⟨field bs (o + 2) 2, field bs (o + 4) 2, field bs (o + 6) 2, field bs (o + 8) 2,
      field bs (o + 10) 2, field bs (o + 24) 4⟩
  | .shipped =>
    let f := fun i => (Config.shippedField i).toNat
    ⟨f (2 + proc) % 2 ^ 16, f (8 + 4 * proc) % 2 ^ 16, f (9 + 4 * proc) % 2 ^ 16,
      f (10 + 4 * proc) % 2 ^ 16, f (11 + 4 * proc) % 2 ^ 16, f (5 + proc)⟩
  | _ => ⟨0, 0, 0, 0, 0, 0⟩

/-- Largest image of a processor (R475). -/
def imageLimit (proc : Nat) : Nat := if proc = 0 then 2097152 else if proc = 1 then 98304 else 32768

/-- The image of a processor in a package's bytes. -/
def imageBytes (bs : List Byte) (proc : Nat) : List Byte :=
  (bs.drop (field bs (entryAt proc + 12) 4)).take (field bs (entryAt proc + 16) 4)

/-- Magic, FormatVersion, reserved bytes and the directory entry are valid (R474, R475, R477 check 2). -/
def headerValid (bs : List Byte) (proc : Nat) : Bool :=
  let o := entryAt proc
  (bs.take 4 == [0x53, 0x4C, 0x50, 0x4B]) && field bs 4 2 == 1
    && decide (field bs 6 1 < 8) && decide (field bs 7 1 < 2)
    && allZero bs 16 16 && allZero bs 224 32
    && field bs o 1 == proc + 1 && allZero bs (o + 1) 1 && allZero bs (o + 60) 4
    && decide (field bs (o + 12) 4 % 256 = 0)
    && decide (field bs (o + 16) 4 ≤ imageLimit proc)
    && decide (field bs (o + 12) 4 + field bs (o + 16) 4 ≤ bs.length)

/-- The bit of the fused variant in VariantMask (R474). -/
def variantBit (v : Variant) : Nat :=
  match v with
  | .sl2ma => 0 | .sl2ml => 1 | .sl1ma => 2

/-- Unsigned images may boot (R496). -/
def unsignedAllowed (s : State) : Bool :=
  [lcMaker, lcDevelop, lcReturn].contains (lifeState s)

/-- The image of processor `a` accepts that of processor `b` (R475): `b` is the first or the second of the
other two. -/
def accepts (a : DirEntry) (pa : Nat) (b : DirEntry) (pb : Nat) : Bool :=
  let first := if pa = 0 then 1 else 0
  if pb = first then decide (a.firstLo ≤ b.provided) && decide (b.provided ≤ a.firstHi)
  else decide (a.secondLo ≤ b.provided) && decide (b.provided ≤ a.secondHi)

/-- Two images are compatible (R475); those of the package that ships are. -/
def compatible (x : Package) (px : Nat) (y : Package) (py : Nat) : Bool :=
  if px = py ∨ (x = .shipped ∧ y = .shipped) then true
  else accepts (dirEntry x px) px (dirEntry y py) py && accepts (dirEntry y py) py (dirEntry x px) px

/-- The slot that each processor's image is compared with (R477): the running ones, or at a reset the
selected ones. -/
def comparePeers (s : State) (proc : Nat) (atReset : Bool) : List (Package × Nat) :=
  let cp := bootSource s 0 (if atReset then s.nvm.selCp else s.units.runCp)
  let sm := bootSource s 1 (if atReset then s.nvm.selSm else s.units.runSm)
  let ls := (portsOf s.variant).map fun p =>
    (bootSource s 2 (if atReset then s.nvm.selLs.get p else s.units.runLs.get p), 2)
  (if proc = 0 then [] else [(cp, 0)]) ++ (if proc = 1 then [] else [(sm, 1)])
    ++ (if proc = 2 then [] else ls)

/-- The checks of R477 in order on an image: 0 for a pass, else the reason code. -/
def checkImage (s : State) (proc slot : Nat) (atReset readFails : Bool) : Nat :=
  let pkg := bootSource s proc slot
  let compat := (comparePeers s proc atReset).all fun q => compatible pkg proc q.1 q.2
  match pkg with
  | .empty => 0x08
  | .writing _ => 0x08
  | .shipped => if readFails then 0x09 else if compat then 0 else 0x07
  | .complete bs =>
    let img := imageBytes bs proc
    let o := entryAt proc
    let unsigned := bitOf (field bs 7 1) 0
    if readFails then 0x09
    else if !headerValid bs proc then 0x01
    else if !bitOf (field bs 6 1) (variantBit s.variant) then 0x02
    else if crc32c img ≠ field bs (o + 20) 4 then 0x03
    else if sha256 img ≠ (bs.drop (o + 28)).take 32 then 0x04
    else if unsigned && !unsignedAllowed s then 0x06
    else if !unsigned && !signatureGood Config.imageKey (bs.take 256) ((bs.drop 256).take 64) then 0x05
    else if compat then 0 else 0x07

/-- SignatureState that a check leaves on a slot (R479). -/
def signatureAfter (pkg : Package) (reason old : Nat) : Nat :=
  match pkg with
  | .complete bs =>
    if reason = 0x05 then 2
    else if reason = 0x06 then 3
    else if reason = 0 ∨ reason = 0x07 then (if bitOf (field bs 7 1) 0 then 3 else 1)
    else old
  | .shipped => if reason = 0 ∨ reason = 0x07 then 1 else old
  | _ => old

/-- LastImageRejection (R478). -/
def rejectionWord (proc port slot reason : Nat) : BitVec 32 :=
  BitVec.ofNat 32 (reason * 2 ^ 8 + slot * 2 ^ 20 + port * 2 ^ 22 + (proc + 1) * 2 ^ 24)

/-- LastImageRejection takes a word (R478). -/
def setLastRejection (w : BitVec 32) (s : State) : State := { s with update := { s.update with lastRejection := w } }

/-- A check of an image with what it records: the slot's SignatureState, and for a rejection
LastImageRejection and kind 0x02 (R477 to R479). -/
def runCheck (proc port slot : Nat) (atReset readFails : Bool) (s : State) : Nat × State :=
  let reason := checkImage s proc slot atReset readFails
  let x := slotOf s slot
  let s1 := putSlot slot
    { x with signature := signatureAfter (bootSource s proc slot) reason x.signature } s
  if reason = 0 then (0, s1)
  else
    (reason, raiseKind 0x02 { port := if proc = 2 then port else 7 }
      (setLastRejection (rejectionWord proc (if proc = 2 then port else 0) slot reason) s1))

/-- A boot: the selected image, or the other slot's when it is rejected; the slot that runs, if any (R477). -/
def bootCheck (proc port sel : Nat) (atReset : Bool) (reads : ImageReads) (s : State) :
    Option Nat × State :=
  let fails := fun n => if n = 0 then reads.fail0 else reads.fail1
  let r1 := runCheck proc port sel atReset (fails sel) s
  if r1.1 = 0 then (some sel, r1.2)
  else
    let r2 := runCheck proc port (1 - sel) atReset (fails (1 - sel)) r1.2
    if r2.1 = 0 then (some (1 - sel), r2.2) else (none, r2.2)

/-- Some selector names the slot, the pending one of the SM included (R476). -/
def slotNamed (s : State) (n : Nat) : Bool :=
  s.nvm.selCp == n || s.nvm.selSm == n || s.nvm.selSmNext == some n
    || (portsOf s.variant).any fun p => s.nvm.selLs.get p == n

/-- ActiveSlots (R287). -/
def activeSlots (s : State) : Nat :=
  s.units.runCp + 2 * s.units.runSm + 4 * s.units.runLs.a + 8 * s.units.runLs.b
    + 16 * s.units.runLs.c + 32 * s.units.runLs.d

/-- The 16 bytes of a slot in SlotContent (R479). -/
def slotContent (x : Slot) : List Byte :=
  match x.package with
  | .empty => List.replicate 16 0
  | .writing _ => 1 :: List.replicate 15 0
  | p =>
    let f := fun n => match p with
      | .complete bs => field bs n 4
      | _ => (Config.shippedField (if n = 8 then 0 else 1)).toNat
    2 :: BitVec.ofNat 8 x.signature
      :: ((List.range 3).flatMap fun k => leBytes 2 (dirEntry p k).provided)
      ++ leBytes 4 (f 8) ++ leBytes 4 (f 12)

end Sys2Proof.Machine
end

