-- ==== Sys2Proof/Machine/Access.lean ====
section
/-!
DEFINITION. Access.lean: sessions and challenges (R271 to R274), life-cycle tokens (R494, R495) and what each
life-cycle state lets a request do (R270).
-/

namespace Sys2Proof.Machine

open Sys2Proof

/-! ## Sessions (R271 to R273) -/

/-- The transport, of the two that can hold a session, on which a request came (R271). -/
def transportOf (via : Via) : Option Transport :=
  match via with
  | .shp _ => some .shp
  | .can bus _ => some (.can bus)
  | _ => none

/-- Two transports count as one: CAN_A and CAN_B in redundant mode (R272). -/
def sameTransport (s : State) (t u : Transport) : Bool :=
  match t, u with
  | .shp, .shp => true
  | .can a, .can b => a == b || cfg s 0x1100 5 == 2
  | _, _ => false

/-- A request stands within an open session of a role (R272). -/
def inSession (s : State) (via : Via) (r : Role) : Bool :=
  match s.access.session, transportOf via with
  | some (r', t), some t' => r == r' && sameTransport s t t'
  | _, _ => false

/-- Applies `f` to the access state. -/
def onAccess (f : Access → Access) (s : State) : State := { s with access := f s.access }

/-- The open session closes (R272). -/
def closeSession (s : State) : State := onAccess (fun a => { a with session := none }) s

/-- The life-cycle state lets a role open a session (R270). -/
def roleAllowed (s : State) (r : Role) : Bool :=
  match r with
  | .maker => lifeState s != lcField
  | .commissioner => [lcMaker, lcDevelop, lcField].contains (lifeState s)

/-- The key of a role (R271, R274). -/
def keyOf (s : State) (r : Role) : Option (BitVec 256) :=
  match r with
  | .maker => some Config.makerKey
  | .commissioner => s.nvm.commissionerKey

/-- A read of SessionChallenge (R271, R273): 16 fresh bytes replace the outstanding challenge; a transport that
can hold no session leaves none that can be answered. During a lockout the read is busy. -/
def readChallenge (via : Via) (s : State) : Nat × List Byte × State :=
  if s.aon.lockout then (stBusy, [], s)
  else
    let bs := (List.range 16).map fun i => Config.challengeByte s.free i
    (stOk, bs,
      { onAccess (fun a => { a with
          challenge := (transportOf via).map fun t => (leNat bs, t)
          challengeAt := dtNow s }) s with free := s.free + 1 })

/-- The code of a transport under the MAC (R271). -/
def macTransport (t : Transport) : Nat :=
  match t with
  | .shp => 1 | .can _ => 2

/-- The MAC of R271 step 3. -/
def sessionMac (s : State) (key : BitVec 256) (challenge role : Nat) (t : Transport) : List Byte :=
  (hmacSha256 (leBytes 32 key.toNat)
    (leBytes 16 challenge
      ++ [BitVec.ofNat 8 role, BitVec.ofNat 8 (macTransport t), BitVec.ofNat 8 s.power.options.nodeId]
      ++ leBytes 8 Config.serialNumber.toNat)).take 16

/-- The role of a code (R271). -/
def roleOf (code : Nat) : Option Role :=
  if code = 1 then some .commissioner else if code = 2 then some .maker else none

/-- A response is right (R271): its challenge is the outstanding one of its transport, at most 10 s old; the
life cycle allows the role; the MAC matches. -/
def responseRight (s : State) (via : Via) (r : Role) (mac : List Byte) : Bool :=
  match s.access.challenge, transportOf via, keyOf s r with
  | some (c, t), some t', some key =>
    sameTransport s t t' && decide (dtNow s ≤ s.access.challengeAt + 10000000) && roleAllowed s r
      && sessionMac s key c (if r = .commissioner then 1 else 2) t == mac
  | _, _, _ => false

/-- A wrong response (R273): counted, the challenge used up, and a lockout after three in a row. -/
def wrongResponse (s : State) : State :=
  { s with
    access := { s.access with challenge := none, failCount := count32 s.access.failCount }
    aon := { s.aon with
      wrongRun := s.aon.wrongRun + 1
      lockout := s.aon.lockout || decide (s.aon.wrongRun + 1 ≥ 3) } }

/-- A write of SessionResponse with its answer (R271, R272, R273). -/
def respond (via : Via) (data : List Byte) (s : State) : Nat × State :=
  match roleOf (leNat (data.take 1)) with
  | none => (stRange, s)
  | some r =>
    if !allZero data 1 3 then (stRange, s)
    else if s.access.session.isSome then (stBusy, s)
    else
      match responseRight s via r (data.drop 4), transportOf via with
      | true, some t =>
        (stOk,
          { s with
            access := { s.access with challenge := none, session := some (r, t) }
            aon := { s.aon with wrongRun := 0 } })
      | _, _ => (stAccess, wrongResponse s)

/-- A write of SessionClose (R272): 1 on the session's own transport closes it. -/
def writeSessionClose (via : Via) (v : Nat) (s : State) : State :=
  if v = 1 ∧ (inSession s via .commissioner ∨ inSession s via .maker) then closeSession s else s

/-- A write of the commissioner key is allowed (R274). -/
def keyAllowed (s : State) (via : Via) : Bool :=
  if lifeState s = lcMaker then inSession s via .maker
  else if lifeState s = lcDevelop then true
  else lifeState s == lcField && inSession s via .commissioner

/-- The commissioner key is stored, and a session of its role closes (R272, R274). -/
def storeKey (v : Nat) (s : State) : State :=
  let s1 := { s with nvm := { s.nvm with commissionerKey := some (BitVec.ofNat 256 v) } }
  match s.access.session with
  | some (.commissioner, _) => closeSession s1
  | _ => s1

/-- Requests of a session's transport whose last frame has arrived stay inside it (R290). -/
def keepInside (x : Role × Transport) (s : State) : State :=
  { s with host := { s.host with
      shpRequests := if x.2 = .shp then
          s.host.shpRequests.map fun r => { r with inside := r.inside.or (some x) }
        else s.host.shpRequests
      canRequests := s.host.canRequests.map fun r =>
        if sameTransport s x.2 (.can r.bus) then { r with inside := r.inside.or (some x) } else r } }

/-- SESSION_IDLE_TIMEOUT (R272, R290). -/
def execSessionIdleTimeout (s : State) : Host.Outcome State Fault Refusal :=
  .next (closeSession (match s.access.session with
    | some x => keepInside x s
    | none => s))

/-- CHALLENGE_LOCKOUT_END (R273): the run of wrong responses stays. -/
def execChallengeLockoutEnd (s : State) : Host.Outcome State Fault Refusal :=
  .next { s with aon := { s.aon with lockout := false } }

/-! ## Gates of the life cycle (R270) -/

/-- A read is allowed (R270): in BLANK only 1000h, 9000h and the challenge of a maker session. -/
def readAllowed (s : State) (index sub : Nat) : Bool :=
  lifeState s != lcBlank || index == 0x1000 || index == 0x9000 || (index == 0x1010 && sub == 1)

/-- A write of an RW or WO object is allowed (R270): in BLANK only what opens and closes a maker session. -/
def openWriteAllowed (s : State) (index sub : Nat) : Bool :=
  lifeState s != lcBlank || (index == 0x1010 && (sub == 2 || sub == 5))

/-- A write of an RWC object is allowed (R270). -/
def commissionerAllowed (s : State) (via : Via) : Bool :=
  let n := lifeState s
  if n = lcMaker then inSession s via .maker || inSession s via .commissioner
  else if n = lcDevelop ∨ n = lcField then inSession s via .commissioner
  else n == lcReturn && inSession s via .maker

/-- A write of an RWM object is allowed (R270). -/
def makerAllowed (s : State) (via : Via) : Bool := lifeState s != lcField && inSession s via .maker

/-- A write of the safe-beam area is allowed (R486). -/
def areaAllowed (s : State) (via : Via) : Bool :=
  let n := lifeState s
  if n = lcMaker ∨ n = lcReturn then inSession s via .maker
  else n == lcDevelop && inSession s via .commissioner

/-! ## Tokens (R494, R495) -/

/-- The part of a token that does not depend on its kind passes (R495). -/
def tokenShape (s : State) (bs : List Byte) : Bool :=
  bs.take 4 == [0x53, 0x4C, 0x4C, 0x43]
    && field bs 5 1 == lifeState s && allZero bs 7 1
    && field bs 8 8 == Config.serialNumber.toNat
    && allZero bs 16 48 && allZero bs 144 112

/-- The maker's signature of a token is right (R495). -/
def tokenSigned (bs : List Byte) : Bool :=
  signatureGood Config.tokenKey (bs.take 64) ((bs.drop 64).take 64) && allZero bs 128 16

/-- The customer's MAC of a token is right (R495). -/
def tokenMac (s : State) (bs : List Byte) : Bool :=
  match s.nvm.commissionerKey with
  | some key =>
    (hmacSha256 (leBytes 32 key.toNat) (bs.take 64)).take 16 == (bs.drop 128).take 16 && allZero bs 64 64
  | none => false

/-- A package carries a signature (R474). -/
def isSigned (p : Package) : Bool :=
  match p with
  | .complete bs => !bitOf (field bs 7 1) 0
  | .shipped => true
  | _ => false

/-- Every image that a selector names is signed (R494). -/
def allSigned (s : State) : Bool :=
  isSigned (bootSource s 0 s.nvm.selCp) && isSigned (bootSource s 1 s.nvm.selSm)
    && (s.nvm.selSmNext.elim true fun n => isSigned (bootSource s 1 n))
    && (portsOf s.variant).all fun p => isSigned (bootSource s 2 (s.nvm.selLs.get p))

/-- A transition programs the word of its target and closes every session (R272, R494). -/
def programLife (target : Nat) (s : State) : State :=
  closeSession { s with nvm := { s.nvm with life := s.nvm.life.set target 1 } }

/-- What a transition to RETURN erases (R494): the commissioner key and both journal banks; bank 0 starts afresh
with the standing commit record. Writes that wait are answered with 0x01. -/
def eraseForReturn (s : State) : State :=
  let kept := (standing (activeBank s).records).filter fun r => r.kind == 3
  let s1 := refuseAll stBusy false (s.journal.queue.map (·.waiter)) s
  { s1 with
    nvm := { s1.nvm with
      commissionerKey := none
      bank0 := { header := true, done := true, records := kept
                 headerSeq := s1.journal.sequence + 1, doneSeq := s1.journal.sequence + 2
                 used := 56 + sumOf (kept.map fun r => recordSize r.length) }
      bank1 := {} }
    journal := { s1.journal with
      active := 0, queue := [], compacting := false, sequence := s1.journal.sequence + 2 } }

/-- The transition FIELD to RETURN (R494): every session is erased, that of an update (R482) among them. -/
def enterReturn (s : State) : State :=
  let s0 := eraseForReturn (programLife lcReturn s)
  let s1 := { s0 with update := { s0.update with session := none } }
  runQueue (onAccess (fun a => { a with consent := false, returnDue := false, tokenResult := 1 }) s1)

/-- The result of a token is recorded (R494). -/
def tokenResult (code : Nat) (s : State) : State := onAccess (fun a => { a with tokenResult := code }) s

/-- A token that passed its checks acts (R494). -/
def actOnToken (via : Via) (kind target : Nat) (s : State) : State :=
  let present := lifeState s
  let ready := s.nvm.commissionerKey.isSome && allSigned s
  if kind = 3 then tokenResult 1 (onAccess (fun a => { a with consent := true }) s)
  else if kind = 2 then
    if present = lcDevelop ∧ target = lcField ∧ ready ∧ inSession s via .commissioner then
      tokenResult 1 (programLife lcField s)
    else tokenResult 3 s
  else if present = lcMaker ∧ target = lcDevelop then tokenResult 1 (programLife lcDevelop s)
  else if present = lcMaker ∧ target = lcField ∧ ready then tokenResult 1 (programLife lcField s)
  else if present = lcField ∧ target = lcReturn then
    if !s.access.consent then tokenResult 4 s
    else if s.journal.compacting then onAccess (fun a => { a with consent := false, returnDue := true }) s
    else enterReturn s
  else tokenResult 3 s

/-- A write of LifeCycleToken (R494, R495). -/
def writeToken (via : Via) (data : List Byte) (s : State) : State :=
  let kind := field data 4 1
  let target := field data 6 1
  let good := tokenShape s data
    && (if kind = 1 then tokenSigned data
        else if kind = 2 then tokenMac s data
        else kind == 3 && field data 5 1 == lcField && target == lcReturn && tokenMac s data)
  if good then actOnToken via kind target s else tokenResult 2 s

/-- CONSENT_EXPIRY (R494): 600 s have passed. -/
def execConsentExpiry (s : State) : Host.Outcome State Fault Refusal :=
  .next (onAccess (fun a => { a with consent := false }) s)

end Sys2Proof.Machine
end

