-- ==== Sys2Proof/Machine/Commit.lean ====
section
/-!
DEFINITION. Commit.lean: the end of a black box commit, and the allowances that commits and journal writes draw on
(R369 to R371, R492).
-/

namespace Sys2Proof.Machine

open Sys2Proof

/-- The CRC-32C over the commit area: 512 entries of 32 bytes, an entry never written reading 0 (R366, R369). -/
def areaCrc (area : List (Nat × BitVec 256)) : Nat :=
  crc32c ((List.range 512).flatMap fun n => leBytes 32 (getEntry 0 n area).toNat)

/-- The value of a commit record in the journal (R487). -/
def commitValue (r : CommitRecord) : Nat :=
  r.newest + 2 ^ 16 * r.cause.toNat + 2 ^ 48 * r.crc.toNat + 2 ^ 80 * r.erases

/-- The commit record of the commit under way (R369, R371). -/
def commitRecord (waybill : BitVec 64) (s : State) : CommitRecord :=
  { newest := s.journal.commitNewest
    cause := BitVec.ofNat 32 (waybill.toNat / 2 ^ 32)
    crc := BitVec.ofNat 32 (areaCrc s.nvm.boxArea)
    erases := min (eraseCount s + 1) eraseCap }

/-- The further commit that triggers during a commit asked for (R369, R371). -/
def furtherCommit (s : State) : State :=
  match s.journal.commitNext with
  | none => s
  | some w => tryCommit w { s with journal := { s.journal with commitNext := none } }

/-- A commit ends (R369, R371): its record is journalled, it is counted and written to the ring; a verification that
fails raises kind 0x3A. -/
def endCommit (verified : Bool) (waybill : BitVec 64) (s : State) : State :=
  let r := commitRecord waybill s
  let s1 := appendRecord ⟨0x7402, 0, 3, 14, s.journal.sequence + 1, commitValue r⟩ (recordSize 14)
    { s with
      nvm := { s.nvm with boxRecord := some r, boxGood := verified }
      aon := { s.aon with commitCount := count32 s.aon.commitCount }
      journal := { s.journal with commit := none } }
  let s2 := commitEntry waybill 0 s1
  furtherCommit (checkFill (if verified then s2 else raiseKind 0x3A {} s2))

/-- BLACK_BOX_COMMIT_DONE (R369). -/
def execBlackBoxCommitDone (verified : Bool) (s : State) : Host.Outcome State Fault Refusal :=
  .next (match s.journal.commit with
    | some w => if isOn s .safe then endCommit verified w s else s
    | none => s)

/-- COMMIT_ALLOWANCE_REFILL (R371): every 2 h of DT, up to 4. -/
def execCommitAllowanceRefill (s : State) : Host.Outcome State Fault Refusal :=
  .next { s with aon := { s.aon with commitAllowance := min 4 (s.aon.commitAllowance + 1) } }

/-- JOURNAL_BUDGET_REFILL (R492): 4,096 bytes per hour of DT, up to 65,536. -/
def execJournalBudgetRefill (s : State) : Host.Outcome State Fault Refusal :=
  .next { s with aon := { s.aon with journalBudget := min 65536 (s.aon.journalBudget + 4096) } }

end Sys2Proof.Machine
end

