-- ==== Sys2Proof/Machine/PixelStatus.lean ====
section
/-!
DEFINITION. PixelStatus.lean: the update queue of calibration words (R169), the pixel status map (R329, R330),
concealment (R336) and the records of disabled emitters (R334, R335).
-/

namespace Sys2Proof.Machine

open Sys2Proof

/-! ## Update queue -/

/-- Words that the queue holds, those in application among them (R169). -/
def queueLimit : Nat := 4096

/-- The newest word of a pixel: queued, in application, or in the map. -/
def latestWord (s : State) (x : Nat) : BitVec 32 :=
  match s.drive.queue.find? fun u => u.pixel == x with
  | some u => u.word
  | none =>
    match s.drive.applying.find? fun u => u.pixel == x with
    | some u => u.word
    | none => calWord s x

/-- A new word enters the queue; a word of the same pixel that still waits is replaced. A full queue takes no
further pixel (log 50). -/
def queueWord (x : Nat) (w : BitVec 32) (s : State) : State :=
  if s.drive.queue.any fun u => u.pixel == x then
    { s with drive := { s.drive with
        queue := s.drive.queue.map fun u => if u.pixel == x then ⟨x, w⟩ else u } }
  else if s.drive.queue.length + s.drive.applying.length < queueLimit then
    { s with drive := { s.drive with queue := s.drive.queue ++ [⟨x, w⟩] } }
  else s

/-- The newest word of a pixel with another exclusion and boost (R329, R336). -/
def queueTreatment (x : Nat) (excluded : Bool) (boost : Nat) (s : State) : State :=
  let w := latestWord s x
  queueWord x (makeWord (wordGain w) (wordTrim w) (wordAge w) excluded boost) s

/-! ## Status map -/

/-- Applies `f` to a port's pixel checks. -/
def onPixels (p : Port) (f : PixelCheck → PixelCheck) (s : State) : State :=
  { s with pixels := s.pixels.modify p f }

/-- The stored status of pixel `i` (r × 1,024 + c) of a port (R329). -/
def statusOf (s : State) (p : Port) (i : Nat) : Nat := tableGet 0 i (s.pixels.get p).status

/-- Stores a status (R329). -/
def putStatus (p : Port) (i code : Nat) (s : State) : State :=
  onPixels p (fun x => { x with status := tablePut 0 i code x.status }) s

/-- A status that excludes its pixel (R329). -/
def excludes (code : Nat) : Bool := [1, 2, 3, 5].contains code

/-- Key of a band and sweep phase in the sample record (R330). -/
def sampleKey (band phase : Nat) : Nat := band * 64 + phase

/-- A sample of the pixel's band and phase came within the last 128 frames (R330). -/
def sampledLately (s : State) (p : Port) (c r : Nat) : Bool :=
  match (s.pixels.get p).samples.find? fun e => e.1 == sampleKey (r / 16) (phaseOf c r) with
  | some e => decide ((s.scan.epoch - e.2).toNat ≤ 128)
  | none => false

/-- The status that a read returns: 7 for a pixel of status 0 not sampled lately (R330). -/
def readStatus (s : State) (p : Port) (i : Nat) : Nat :=
  let code := statusOf s p i
  if code = 0 ∧ !sampledLately s p (i % 1024) (i / 1024) then 7 else code

/-- A row of the map as StatusMapRow holds it (R346). -/
def statusRow (s : State) (p : Port) (r : Nat) : Nat :=
  packLe 4 ((List.range 1024).map fun c => readStatus s p (r * 1024 + c))

/-- StatusCount: the pixels of each code 0 to 7 (R346). -/
def statusCount (s : State) (p : Port) : List Nat :=
  let codes := (List.range 524288).map (readStatus s p)
  (List.range 8).map fun k => codes.count k

/-- The pixel lies in an SF1 cell (R129, R391). -/
def inSf1 (s : State) (p : Port) (c r : Nat) : Bool := cellCode s p (c / 16) (r / 16) != 0xFF

/-! ## Master calibration record -/

/-- The pixel's entry in the master record; an unlisted pixel has the default word and no reference. -/
def masterOf (s : State) (x : Nat) : MasterPixel :=
  (s.drive.master.find? fun m => m.pixel == x).getD ⟨x, defaultWord, 0, 0, 0, 2048⟩

/-- The calibration word that the record gives a pixel: excluded, without a boost, where its status says so (R329). -/
def recordWord (m : MasterPixel) : BitVec 32 :=
  if excludes m.status then makeWord (wordGain m.word) (wordTrim m.word) (wordAge m.word) true 0 else m.word

/-- Writes an entry of the master record (R171, R329). -/
def putMaster (m : MasterPixel) (s : State) : State :=
  { s with drive := { s.drive with master := m :: s.drive.master.filter fun y => y.pixel != m.pixel } }

/-! ## Concealment (R336) -/

/-- The pairs of ports that drive one 1024 × 1024 array, upper port first (R18 to R20, 00_scope.md): A over C and B over D
with PortPairing in the 2 × 2 layout, A over B in the 1 × 2 layout. -/
def pairedPorts (s : State) : List (Port × Port) :=
  match s.dict.canvas.layout with
  | 0 => if s.dict.canvas.pairing then [(.a, .c), (.b, .d)] else []
  | 2 => [(.a, .b)]
  | _ => []

/-- The neighbours above and below, across the seam of a paired port. -/
def verticalNeighbours (s : State) (p : Port) (c r : Nat) : List (Port × Nat) :=
  let above := (pairedPorts s).find? fun e => e.2 == p
  let below := (pairedPorts s).find? fun e => e.1 == p
  (if r > 0 then [(p, (r - 1) * 1024 + c)] else (above.map fun e => (e.1, 511 * 1024 + c)).toList)
  ++ (if r < 511 then [(p, (r + 1) * 1024 + c)] else (below.map fun e => (e.2, c)).toList)

/-- The four nearest neighbours of a pixel (R336). -/
def neighboursOf (s : State) (p : Port) (i : Nat) : List (Port × Nat) :=
  let c := i % 1024
  (if c > 0 then [(p, i - 1)] else []) ++ (if c < 1023 then [(p, i + 1)] else [])
    ++ verticalNeighbours s p c (i / 1024)

/-- A value of R346 in force on a port: the written one from the next frame boundary on. -/
def limitOf (s : State) (p : Port) (sub : Nat) : Nat :=
  tableGet (defaultOf s (0xB100 + p.num) sub) sub (s.pixels.get p).limits

/-- A neighbour of a concealed pixel takes its boost, and status 6 when it had status 0 (R336). -/
def boostNeighbour (boost : Nat) (s : State) (q : Port × Nat) : State :=
  let code := statusOf s q.1 q.2
  let x := q.1.num * 524288 + q.2
  if excludes code then s
  else
    let s1 := queueTreatment x (wordExcluded (latestWord s x)) (min 16 (wordBoost (latestWord s x) + boost)) s
    if code = 0 then putStatus q.1 q.2 6 s1 else s1

/-- The neighbours of a pixel of status 1, 2 or 5 take their boost, once, while ConcealEnable is 1 (R336). -/
def concealPixel (p : Port) (i : Nat) (s : State) : State :=
  let code := statusOf s p i
  if limitOf s p 0x14 = 1 ∧ (code = 1 ∨ code = 2 ∨ code = 5) ∧ !(s.pixels.get p).concealed.contains i then
    (neighboursOf s p i).foldl (boostNeighbour (limitOf s p 0x15))
      (onPixels p (fun x => { x with concealed := i :: x.concealed }) s)
  else s

/-- The CP conceals every pixel that is not concealed yet (R336): after a load of the maps, and when ConcealEnable has
become 1. -/
def concealAll (s : State) : State :=
  Port.all.foldl (fun s p => (s.pixels.get p).status.foldl (fun s e => concealPixel p e.1 s) s) s

/-- What the CP does for a new status of pixel `i` (R329, R336): the record, the exclusion, and the boost of the
neighbours. -/
def treatPixel (p : Port) (i : Nat) (s : State) : State :=
  let code := statusOf s p i
  let x := p.num * 524288 + i
  let s1 := putMaster { masterOf s x with status := code } s
  concealPixel p i (if excludes code then queueTreatment x true 0 s1 else s1)

/-- The CP treats a pixel now, or when it has booted (R345). -/
def treatOrWait (p : Port) (i : Nat) (s : State) : State :=
  if cpReady s then treatPixel p i s
  else onPixels p (fun x => { x with untreated := x.untreated ++ [i] }) s

/-- The CP treats the pixels that waited for its boot (R345). -/
def treatWaiting (s : State) : State :=
  concealAll <| Port.all.foldl (fun s p =>
    (s.pixels.get p).untreated.foldl (fun s i => treatPixel p i s)
      (onPixels p (fun x => { x with untreated := [] }) s)) s

/-- A confirmed status (R333): written to the map, recorded, raised with the Vf in mV, and
treated by the CP. -/
def confirmStatus (p : Port) (i code vf : Nat) (s : State) : State :=
  let x := p.num * 524288 + i
  treatOrWait p i (raiseKind 0x0F { port := p.num, address := x, figure := vf }
    (onPixels p (fun c => { c with lastFailed := BitVec.ofNat 32 x }) (putStatus p i code s)))

/-- A pixel is weak (R173): status 4 where it had status 0 or 6. -/
def markWeak (p : Port) (i : Nat) (s : State) : State :=
  let code := statusOf s p i
  if code = 0 ∨ code = 6 then treatOrWait p i (putStatus p i 4 s) else s

/-- The word of a pixel in one of the maps is written again from the master calibration record (R359). -/
def repairPixel (status : Bool) (pixel : Nat) (s : State) : State :=
  let m := masterOf s pixel
  if status then
    { s with pixels := s.pixels.modify (Port.ofNum (pixel / 524288)) fun x => { x with
        status := tablePut 0 (pixel % 524288) (m.status % 16) x.status } }
  else
    { s with drive := { s.drive with
        calMap := if recordWord m = defaultWord then s.drive.calMap.filter fun e => e.1 != pixel
                  else putEntry pixel (recordWord m) s.drive.calMap } }

/-- The CP writes the words that wait for it (R359). -/
def repairPixels (s : State) : State :=
  let s1 := s.drive.repairs.foldl (fun s e => repairPixel e.1 e.2 s) s
  { s1 with drive := { s1.drive with repairs := [] } }

/-! ## Records of disabled emitters -/

/-- Writes EmitterDisabled and StuckLitPixel of a port (R334, R338). -/
def putRecord (p : Port) (code : Nat) (pixel : BitVec 32) (s : State) : State :=
  { s with nvm := { s.nvm with
      disabled := s.nvm.disabled.set p code, stuckPixel := s.nvm.stuckPixel.set p pixel } }

/-- The SF1 reaction (R334): PORTx_EN falls, the record is stored, kind 0x10 is raised. A port whose record stands
keeps it. -/
def sf1Reaction (p : Port) (i : Nat) (s : State) : State :=
  if s.nvm.disabled.get p = 1 then s
  else
    let x := p.num * 524288 + i
    dropEnables (raiseKind 0x10 { port := p.num, address := x } (putRecord p 1 (BitVec.ofNat 32 x) s))

/-- A record is cleared (R335); kind 0x10 exits with the last one. -/
def clearRecord (p : Port) (s : State) : State :=
  let s1 := putRecord p 0 0xFFFFFFFF s
  if Port.all.any fun q => s1.nvm.disabled.get q == 1 then s1 else clearCondition 0x10 0x09 s1

/-- A ceiling map write of the pixel's cell row that leaves its cell outside SF1 clears the record, at the frame boundary at
which it takes effect (R131, R335). -/
def clearByCeiling (s : State) : State :=
  let s1 := { s with ceiling := { s.ceiling with rewritten := [] } }
  Port.all.foldl (fun x p =>
    let i := (s.nvm.stuckPixel.get p).toNat % 524288
    if s.nvm.disabled.get p = 1 ∧ s.ceiling.rewritten.contains (objKey (0x7110 + p.num) (i / 16384))
        ∧ !inSf1 s p (i % 1024) (i / 1024) then clearRecord p x else x) s1

end Sys2Proof.Machine
end

