-- ==== Sys2Proof/Machine/Float32.lean ====
section
/-!
DEFINITION. Float32.lean: IEEE 754 binary32 as the CP uses it for the thermal model (R309), rounding to nearest,
ties to even (log 40). Results are exact values rounded once.
-/

namespace Sys2Proof.Machine

/-- A finite binary32 value as mantissa and exponent: m × 2^e; infinities and NaN read as 0. -/
def fParts (x : BitVec 32) : Int × Int :=
  let v := x.toNat
  let ex := bitsOf v 23 8
  let fr := bitsOf v 0 23
  let m : Nat := if ex = 0 then fr else 2 ^ 23 + fr
  let sg : Int := if bitOf v 31 then -1 else 1
  if ex = 255 then (0, 0) else (sg * m, (max ex 1 : Nat) - 150)

/-- n × 2^k for a possibly negative k, rounded down. -/
def shiftNat (n : Nat) (k : Int) : Nat := if 0 ≤ k then n * 2 ^ k.toNat else n / 2 ^ (-k).toNat

/-- The encoding of mantissa `m` below 2²⁴ at exponent `e`, or infinity. -/
def fPack (neg : Bool) (m : Nat) (e : Int) : BitVec 32 :=
  let m' := if m = 2 ^ 24 then 2 ^ 23 else m
  let e' := if m = 2 ^ 24 then e + 1 else e
  let sg := ofBool neg * 2 ^ 31
  if m' < 2 ^ 23 then BitVec.ofNat 32 (sg + m')
  else if e' + 150 ≥ 255 then BitVec.ofNat 32 (sg + 255 * 2 ^ 23)
  else BitVec.ofNat 32 (sg + (e' + 150).toNat * 2 ^ 23 + (m' - 2 ^ 23))

/-- n / d × 2^e rounded to binary32, `d` not 0. -/
def fRound (n : Int) (d : Nat) (e : Int) : BitVec 32 :=
  let a := n.natAbs
  if a = 0 ∨ d = 0 then 0
  else
    let k : Int := 27 + (Nat.log2 d : Int) - (Nat.log2 a : Int)
    let num := if 0 ≤ k then a * 2 ^ k.toNat else a
    let den := if 0 ≤ k then d else d * 2 ^ (-k).toNat
    let q := num / den
    let sticky := decide (num % den ≠ 0)
    let ex := e - k
    let drop := (max ((Nat.log2 q : Int) + 1 - 24) (-149 - ex)).toNat
    let hi := q / 2 ^ drop
    let lo := q % 2 ^ drop
    let half := 2 ^ drop / 2
    let up := decide (lo > half) || (lo == half && (sticky || hi % 2 == 1))
    fPack (decide (n < 0)) (if up then hi + 1 else hi) (ex + drop)

/-- A common exponent of two values: mantissas and exponent. -/
def fAlign (x y : BitVec 32) : Int × Int × Int :=
  let a := fParts x
  let b := fParts y
  let e := min a.2 b.2
  (a.1 * (2 : Int) ^ (a.2 - e).toNat, b.1 * (2 : Int) ^ (b.2 - e).toNat, e)

/-- Sum. -/
def fAdd (x y : BitVec 32) : BitVec 32 :=
  let t := fAlign x y
  fRound (t.1 + t.2.1) 1 t.2.2

/-- Difference. -/
def fSub (x y : BitVec 32) : BitVec 32 :=
  let t := fAlign x y
  fRound (t.1 - t.2.1) 1 t.2.2

/-- Product. -/
def fMul (x y : BitVec 32) : BitVec 32 :=
  let a := fParts x
  let b := fParts y
  fRound (a.1 * b.1) 1 (a.2 + b.2)

/-- Quotient; 0 for a divisor of 0, which no parameter of the model can be (R282). -/
def fDiv (x y : BitVec 32) : BitVec 32 :=
  let a := fParts x
  let b := fParts y
  if b.1 < 0 then fRound (-a.1) b.1.natAbs (a.2 - b.2) else fRound a.1 b.1.natAbs (a.2 - b.2)

/-- Comparison x < y. -/
def fLt (x y : BitVec 32) : Bool :=
  let t := fAlign x y
  decide (t.1 < t.2.1)

/-- A rational n / d. -/
def fRat (n : Int) (d : Nat) : BitVec 32 := fRound n d 0

/-- The value in units of 1/16, rounded half up, as an integer. -/
def fSixteenths (x : BitVec 32) : Int :=
  let a := fParts x
  let e := a.2 + 4
  if 0 ≤ e then a.1 * (2 : Int) ^ e.toNat else roundDiv a.1 (2 ^ (-e).toNat)

/-- Sum of a list, from the first value on. -/
def fSum (xs : List (BitVec 32)) : BitVec 32 := xs.foldl fAdd 0

end Sys2Proof.Machine
end

