-- ==== Sys2Proof/Machine/Thermal.lean ====
section
/-!
DEFINITION. Thermal.lean: the zone thermal model (R309 to R314) and the Toll (R315 to R320).
-/

namespace Sys2Proof.Machine

open Sys2Proof

/-! ## Sensors of an array -/

/-- A model parameter or limit in force: the one taken over at the last housekeeping round (R283). -/
def tollSetting (s : State) (index sub : Nat) : Nat :=
  tableGet (defaultOf s index sub) (objKey index sub) s.toll.settings

/-- Model parameters and limits take effect at a housekeeping round (R283). -/
def latchTollSettings (s : State) : State :=
  { s with toll := { s.toll with
      settings := s.dict.values.filter fun e => decide (objKey 0x6000 0 ≤ e.1) && decide (e.1 < objKey 0x6014 0) } }

/-- Object `sub` of the thermal record of a port as it is in force (R282, R283). -/
def thermalValue (s : State) (p : Port) (sub : Nat) : Nat := tollSetting s (0x6010 + p.num) sub

/-- Less than four band times have passed since the TEMP of a port (R312). -/
def tempFresh (s : State) (p : Port) : Bool :=
  match s.hk.tempAt.get p with
  | some t => decide ((dtNow s - t) * rateHz s.scan.rate * 32 < 4000000)
  | none => false

/-- The quadrant of a zone (R291). -/
def quadrantOf (z : Nat) : Nat := z / 16 * 2 + z % 8 / 4

/-- The zones of a quadrant (R291). -/
def quadrantZones (q : Nat) : List Nat := (List.range 32).filter fun z => quadrantOf z == q

/-- The middle of sorted numbers, or the rounded mean of the two in the middle (R297). -/
def medianInt (xs : List Int) : Int :=
  let ys := sortInts xs
  let n := ys.length
  if n = 0 then 0
  else if n % 2 = 1 then ys.getD (n / 2) 0
  else roundDiv (ys.getD (n / 2 - 1) 0 + ys.getD (n / 2) 0) 2

/-- Insertion of a binary32 value in rising order. -/
def fInsert (x : BitVec 32) : List (BitVec 32) → List (BitVec 32)
  | [] => [x]
  | y :: ys => if fLt y x then y :: fInsert x ys else x :: y :: ys

/-- The median of binary32 values; of an even number, the mean of the two in the middle. -/
def fMedian (xs : List (BitVec 32)) : BitVec 32 :=
  let ys := xs.foldr fInsert []
  let n := ys.length
  if n = 0 then 0
  else if n % 2 = 1 then ys.getD (n / 2) 0
  else fDiv (fAdd (ys.getD (n / 2 - 1) 0) (ys.getD (n / 2) 0)) (fRat 2 1)

/-- The AD median temperature in 1/16 °C (R311). -/
def adMedian (s : State) : Int := medianInt (s.hk.used.drop 8)

/-! ## The model (R309 to R313) -/

/-- Applies `f` to a port's model. -/
def onModel (p : Port) (f : ThermalModel → ThermalModel) (s : State) : State :=
  { s with toll := { s.toll with models := s.toll.models.modify p f } }

/-- The model of a port. -/
def modelOf (s : State) (p : Port) : ThermalModel := s.toll.models.get p

/-- The model of a port starts from the four readings of a TEMP, in 1/16 °C (R311). -/
def initModel (temps : List Int) (m : ThermalModel) : ThermalModel :=
  let nodes := (List.range 32).map fun z => fRat (nth 0 temps (quadrantOf z)) 16
  let mid := fMedian (temps.map fun x => fRat x 16)
  { m with ready := true, tj := nodes, ts := nodes, th := mid, ta := mid }

/-- LED power of a zone in W for the model (R309): 0 while the port is dark or its hold has ended. -/
def zoneWatts (s : State) (p : Port) (z : Nat) : BitVec 32 :=
  let l := s.link.get p
  if l.enable && !l.expired then fRat (nth 0 (s.drive.zonePower.get p) z) (10000000000 * 255 * 4095) else 0

/-- A resistance of the record in K/W (R282: 0.01 K/W). -/
def resistance (s : State) (p : Port) (sub : Nat) : BitVec 32 := fRat (thermalValue s p sub) 100

/-- A heat capacity of the record in J/K (R282: mJ/K). -/
def capacity (s : State) (p : Port) (sub : Nat) : BitVec 32 := fRat (thermalValue s p sub) 1000

/-- Δt of a round in s (R309). -/
def roundTime : BitVec 32 := fRat 1024 1000000

/-- One update of the nodes (R309). -/
def stepModel (s : State) (p : Port) (m : ThermalModel) : ThermalModel :=
  let rjs := resistance s p 1
  let rsh := resistance s p 3
  let qjs := (List.range 32).map fun z => fDiv (fSub (nth 0 m.tj z) (nth 0 m.ts z)) rjs
  let qsh := (List.range 32).map fun z => fDiv (fSub (nth 0 m.ts z) m.th) rsh
  let kj := fDiv roundTime (capacity s p 2)
  let ks := fDiv roundTime (capacity s p 4)
  let kh := fDiv roundTime (capacity s p 6)
  { m with
    tj := (List.range 32).map fun z =>
      fAdd (nth 0 m.tj z) (fMul kj (fSub (zoneWatts s p z) (nth 0 qjs z)))
    ts := (List.range 32).map fun z => fAdd (nth 0 m.ts z) (fMul ks (fSub (nth 0 qjs z) (nth 0 qsh z)))
    th := fAdd m.th (fMul kh (fSub (fSum qsh) (fDiv (fSub m.th m.ta) (resistance s p 5)))) }

/-- Sensors of a port in use (R312). -/
def sensorsInUse (m : ThermalModel) : List Nat := (List.range 4).filter fun q => !nth false m.sensorOut q

/-- e_q of a sensor (R312). -/
def sensorError (m : ThermalModel) (temps : List Int) (q : Nat) : BitVec 32 :=
  fSub (fRat (nth 0 temps q) 16) (fDiv (fSum ((quadrantZones q).map fun z => nth 0 m.ts z)) (fRat 8 1))

/-- The median error of the sensors in use (R312). -/
def medianError (m : ThermalModel) (temps : List Int) : BitVec 32 :=
  fMedian ((sensorsInUse m).map (sensorError m temps))

/-- |x| is above `limit` °C. -/
def fExceeds (x : BitVec 32) (limit : Nat) : Bool := fLt (fRat limit 1) (x &&& 0x7FFFFFFF)

/-- The correction from the sensors, and the runs of disagreement (R312, R313, R362). -/
def correctModel (limit : Nat) (temps : List Int) (m : ThermalModel) : ThermalModel :=
  let em := medianError m temps
  let out := fExceeds em limit
  { m with
    ts := (List.range 32).map fun z =>
      if nth false m.sensorOut (quadrantOf z) then nth 0 m.ts z
      else fAdd (nth 0 m.ts z) (fDiv (sensorError m temps (quadrantOf z)) (fRat 64 1))
    th := fAdd m.th (fDiv em (fRat 256 1))
    ta := fAdd m.ta (fDiv em (fRat 4096 1))
    sensorBad := (List.range 4).map fun q =>
      if !nth false m.sensorOut q && fExceeds (fSub (sensorError m temps q) em) 12 then nth 0 m.sensorBad q + 1
      else 0
    diverge := if out then m.diverge + 1 else 0
    agree := if out then 0 else m.agree + 1
    goodSince := if m.reinited && !out then m.goodSince + 1 else 0 }

/-- A round of one port's model after slot 28 (R309, R311 to R314). A reinitialisation takes the place of the
correction; four good rounds after it handle kind 0x35 (R362). -/
def modelRound (p : Port) (s : State) : State :=
  let m := modelOf s p
  let temps := s.hk.arrayTemps.get p
  if !m.ready then s
  else if m.reinit && tempFresh s p then
    onModel p (fun m => { initModel temps m with reinit := false, reinited := true, goodSince := 0 }) s
  else
    let m1 := stepModel s p m
    let m2 := if tempFresh s p then correctModel (tollSetting s 0x6000 5) temps m1 else m1
    let s1 := onModel p (fun _ => m2) s
    if m2.reinited && m2.goodSince == 4 then handleKind 0x35 s1 else s1

/-- The reading of JunctionEstimate of a zone in 1/16 °C (R309, R311): the AD median before the first TEMP. -/
def junction (s : State) (p : Port) (z : Nat) : Int :=
  let m := modelOf s p
  if m.ready then fSixteenths (nth 0 m.tj z) else adMedian s

/-- The Tj that the Toll and R300 use (R313): raised to the quadrant's reading + (Tj − Ts) while the model
diverges, in 2⁻¹⁶ °C. -/
def usedTj (s : State) (p : Port) (z : Nat) : Int :=
  let m := modelOf s p
  if !m.ready then adMedian s * 4096
  else
    let fixed := fun x => fSixteenths (fMul x (fRat 4096 1))
    let tj := fixed (nth 0 m.tj z)
    if m.divergent && !nth false m.sensorOut (quadrantOf z) then
      max tj (nth 0 (s.hk.arrayTemps.get p) (quadrantOf z) * 4096 + tj - fixed (nth 0 m.ts z))
    else tj

/-- Ts in 2⁻¹⁶ °C. -/
def usedTs (s : State) (p : Port) (z : Nat) : Int :=
  let m := modelOf s p
  if !m.ready then adMedian s * 4096 else fSixteenths (fMul (nth 0 m.ts z) (fRat 4096 1))

/-! ## The Toll (R315 to R319) -/

/-- a_zone in 2⁻¹⁶ mW (R315). -/
def zoneAllowance (s : State) (p : Port) (z : Nat) : Nat :=
  let tj := usedTj s p z
  let warn : Int := toSigned 16 (thermalValue s p 0x0A) * 65536
  (max 0 (roundDiv ((warn - tj) * (thermalValue s p 2 * 1000000 : Nat)) 65536
    + roundDiv ((tj - usedTs s p z) * 100000) (max 1 (thermalValue s p 1)))).toNat

/-- a_port in mW (R315). -/
def portAllowance (s : State) (p : Port) : Nat := thermalValue s p 7

/-- a_total in mW (R315). -/
def totalAllowance (s : State) : Nat :=
  let sum := sumOf ((portsInUse s).map (portAllowance s))
  let limit := tollSetting s 0x6000 1
  if limit = 0 then sum else min sum limit

/-- The Toll in force of every port and of the device is published (R315). -/
def publishToll (s : State) : State :=
  { s with toll := { s.toll with
      portToll := s.toll.portToll.map fun p _ => portAllowance s p * s.hk.m / 32768
      total := totalAllowance s * s.hk.m / 32768 } }

/-- Key of w (R317). -/
def wKey (p : Port) (z k : Nat) : Nat := p.num * 128 + z * 4 + k

/-- w of a zone and class from a frame's power and class demands (R317). -/
def newW (s : State) (x : Measured) (p : Port) (z k : Nat) : Nat :=
  let d := x.demand.get p
  let total := nth 0 d (4 * z) + nth 0 d (4 * z + 1) + nth 0 d (4 * z + 2) + nth 0 d (4 * z + 3)
  let e := nth 0 x.scales k
  if e = 0 ∨ total = 0 then tableGet 0 (wKey p z k) s.toll.w
  else roundDivNat (nth 0 (x.power.get p) z * nth 0 d (4 * z + k) * 32768) (total * e)

/-- The estimates after a frame (R317). -/
def updateW (s : State) (x : Measured) : Table :=
  (portsInUse s).foldl (fun t p => (List.range 128).foldl (fun t i =>
    tablePut 0 (wKey p (i / 4) (i % 4)) (newW s x p (i / 4) (i % 4)) t) t) s.toll.w

/-- A constraint: its zones as port and zone, and its limit in 2⁻¹⁶ mW (R317). -/
structure Constraint where
  zones : List (Port × Nat)
  limit : Nat
  deriving DecidableEq, Repr

/-- The constraints of R317, each limit times m / 32,768. -/
def constraints (s : State) : List Constraint :=
  let ps := portsInUse s
  let all := ps.flatMap fun p => (List.range 32).map fun z => (p, z)
  (all.map fun e => ⟨[e], zoneAllowance s e.1 e.2 * s.hk.m / 32768⟩)
    ++ (ps.map fun p => ⟨(List.range 32).map fun z => (p, z), portAllowance s p * 65536 * s.hk.m / 32768⟩)
    ++ [⟨all, totalAllowance s * 65536 * s.hk.m / 32768⟩]

/-- Power of class `k` over the zones of a constraint, in 2⁻¹⁶ mW. -/
def classPower (w : Table) (c : Constraint) (k : Nat) : Nat :=
  sumOf (c.zones.map fun e => tableGet 0 (wKey e.1 e.2 k) w)

/-- 1.0 of a scale while it is solved, in 2⁻³². -/
def fullScale32 : Nat := 4294967296

/-- The power of a constraint at scales, × 2³². -/
def scaledPower (w : Table) (c : Constraint) (sc : List Nat) : Nat :=
  sumOf ((List.range 4).map fun k => classPower w c k * nth fullScale32 sc k)

/-- A constraint is met at scales. -/
def isMet (w : Table) (sc : List Nat) (c : Constraint) : Bool :=
  decide (scaledPower w c sc ≤ c.limit * fullScale32)

/-- The scale of class `k` is lowered until a constraint is met (R317). -/
def lowerFor (w : Table) (k : Nat) (sc : List Nat) (c : Constraint) : List Nat :=
  let var := classPower w c k
  if isMet w sc c ∨ var = 0 then sc
  else
    let fixed := scaledPower w c sc - var * nth 0 sc k
    modifyAt (fun x => min x ((c.limit * fullScale32 - fixed) / var)) k sc

/-- The solution class by class: P3, P2, P1 (R317). -/
def solveToll (w : Table) (cs : List Constraint) : List Nat :=
  [3, 2, 1].foldl (fun sc k =>
    if cs.all (isMet w sc) then sc else cs.foldl (lowerFor w k) sc) [fullScale32, fullScale32, fullScale32, fullScale32]

/-- s_u115 (R317): truncated. -/
def truncScale (x : Nat) : Nat := x / 131072

/-- The Toll state of a solution (R319). -/
def tollStateOf (s : State) (w : Table) (cs : List Constraint) (sc : List Nat) : Nat :=
  let ones := [fullScale32, fullScale32, fullScale32, fullScale32]
  let floor := [fullScale32, 0, 0, 0]
  if decide (nth 0 sc 1 < fullScale32) || !cs.all (isMet w floor) then 3
  else if decide (nth 0 sc 2 < fullScale32) || decide (nth 0 sc 3 < fullScale32) || decide (s.hk.m < 0x8000) then 2
  else if cs.all fun c => decide (4 * scaledPower w c ones ≤ 3 * c.limit * fullScale32) then 0
  else 1

/-- TOLL_COMPUTATION_DONE (R315 to R319, R322): the solution from the energies of the oldest frame that waits; its scales are
for the composition of the frame after next. -/
def execTollComputationDone (s : State) : Host.Outcome State Fault Refusal :=
  .next (match s.toll.measured with
    | [] => s
    | x :: xs =>
      if !cpReady s then s
      else
        let w := updateW s x
        let cs := constraints s
        let sc := solveToll w cs
        publishToll { s with toll := { s.toll with
            w := w
            coming := s.toll.coming ++ [(x.frame + 2, sc.map truncScale)]
            measured := xs
            stateNext := tollStateOf s w cs sc } })

/-! ## Divergence and sensors -/

/-- Address of the heat kinds: location and sensor (R354). -/
def heatAddress (loc sensor : Nat) : Nat := loc * 256 + sensor

/-- ARRAY_SENSOR_DISQUALIFY (R312): the sensor has differed by more than 12 °C in three rounds. -/
def execArraySensorDisqualify (p : Port) (quadrant : Nat) (s : State) : Host.Outcome State Fault Refusal :=
  .next (let m := modelOf s p
    if decide (quadrant < 4) && decide (nth 0 m.sensorBad quadrant ≥ 3) && !nth false m.sensorOut quadrant then
      raiseKind 0x30 { port := p.num, address := heatAddress (2 + p.num) (0x20 + quadrant) }
        (onModel p (fun m => { m with sensorOut := modifyAt (fun _ => true) quadrant m.sensorOut }) s)
    else s)

/-- TOLL_MODEL_DIVERGENCE (R313): |e_med| has exceeded its limit in 64 rounds. -/
def execTollModelDivergence (p : Port) (s : State) : Host.Outcome State Fault Refusal :=
  .next (let m := modelOf s p
    if decide (m.diverge ≥ 64) && !m.divergent then
      raiseKind 0x35 { port := p.num, address := heatAddress (2 + p.num) 0 }
        (onModel p (fun m => { m with divergent := true, reinit := true, reinited := false, goodSince := 0 }) s)
    else s)

/-- MODEL_DIVERGENCE_CLEAR (R313): 64 rounds within the limit. Kind 0x35 clears with the last port. -/
def execModelDivergenceClear (p : Port) (s : State) : Host.Outcome State Fault Refusal :=
  .next (let m := modelOf s p
    if decide (m.agree ≥ 64) && m.divergent then
      let s1 := onModel p (fun m => { m with divergent := false, reinit := false, reinited := false }) s
      if Port.all.any fun q => (modelOf s1 q).divergent then s1 else clearCondition 0x35 0x13 s1
    else s)

end Sys2Proof.Machine
end

