-- ==== Sys2Proof/Machine/Ports.lean ====
section
/-!
DEFINITION. Ports.lean: bring-up (R214, R215), hold (R216 to R218), lanes and remaps (R219 to R223), loss of a
port (R222) and the port pins (R224, R225).
-/

namespace Sys2Proof.Machine

open Sys2Proof

/-! ## Loss of a port (R222) -/

/-- Kind "port lost" of a port (R358). -/
def lostKind (p : Port) : Nat := 0x1B + p.num

/-- The port is lost (R222). `lasting` says that the cause stands until another event clears it; any other cause
is judged again by the next bring-up, so it counts as clear at once (log 51). -/
def losePort (p : Port) (lasting : Bool) (s : State) : State :=
  if (s.link.get p).state = .lost then s
  else
    let s1 := onLink p (fun l => { l with
      state := .lost, step := 0, sub := 0, map := [], spare := none, half := false, remap := false
      lanes := l.lanes.map fun x => if x = .working ∨ x = .spare then .untrained else x
      regained := false, heldBand := none, holdSent := false, holdDue := false, startAt := none, ctrls := []
      deferred := [], trimQueue := [], zoneDue := false, tx := {}
      retraining := none, returnLost := false, returnGrace := false, lostCause := lasting, enable := false
      counts := { l.counts with losses := count32 l.counts.losses } }) s
    let s2 := raiseKind (lostKind p) { port := p.num } s1
    let s3 := if isActive s2 0x17 (0x0A + p.num) then clearCondition 0x17 (0x0A + p.num) s2 else s2
    let s4 := if isActive s3 0x18 (0x0A + p.num) then clearCondition 0x18 (0x0A + p.num) s3 else s3
    if lasting then s4 else clearCondition (lostKind p) (0x0A + p.num) s4

/-- The cause of a loss has cleared (R222). -/
def clearLoss (p : Port) (s : State) : State :=
  let l := s.link.get p
  if l.state = .lost ∧ l.lostCause ∧ !l.fault then
    clearCondition (lostKind p) (0x0A + p.num) (onLink p (fun l => { l with lostCause := false }) s)
  else s

/-! ## Bring-up (R214) -/

/-- CTRL READ_REG of an array register (R205, R213). -/
def readReg (p : Port) (a : Nat) (s : State) : State := ctrl p 4 (leBytes 8 a) s

/-- CTRL WRITE_REG of an array register (R205, R323). -/
def writeReg (p : Port) (a v : Nat) (s : State) : State := ctrl p 5 (leBytes 4 a ++ leBytes 4 v) s

/-- CTRL TRAIN with a pattern and the de-emphasis codes of the lanes (R205). -/
def sendTrain (p : Port) (pattern : Nat) (codes : List Nat) (s : State) : State :=
  ctrl p 9 (BitVec.ofNat 8 pattern :: (codes.map (BitVec.ofNat 8) ++ [0, 0])) s

/-- A de-emphasis code for every lane. -/
def allCodes (k : Nat) : List Nat := List.replicate 5 k

/-- The configuration objects of a port that its bring-up takes over (R228). -/
def linkSettings (s : State) (p : Port) : Table :=
  [0x06, 0x07, 0x09, 0x0A, 0x0C, 0x0D, 0x10].map fun sub => (sub, cfg s (0x2200 + p.num) sub)

/-- A link object of a port as its last bring-up took it over (R228). -/
def linkCfg (s : State) (p : Port) (sub : Nat) : Nat := 
  getEntry (defaultOf s (0x2200 + p.num) sub) sub (s.link.get p).settings

/-- A bring-up begins at step 1 (R214): every lane sends TS1, and the array is reset. Return sequence, sensors
and samples start anew (R312, R330). -/
def startBringUp (p : Port) (s : State) : State :=
  let s1 := onLink p (fun l => { l with
    state := .bringUp, step := 2, sub := 0, sweep := [], map := [], spare := none
    settings := linkSettings s p, tx := { clock := s.scan.clkTotal }, holdDue := false, trimQueue := []
    zoneDue := false
    lanes := l.lanes.map fun x => if x = .failedForGood then x else .untrained
    errorRuns := [0, 0, 0, 0, 0], retraining := none, remap := false, regained := false, heldBand := none
    half := false, skew := [0, 0, 0, 0, 0], enable := false, waitBringUp := false
    holdSent := false, expired := false, startAt := none, returnSeq := none, ctrls := [], deferred := []
    returnLost := false, returnGrace := false, rowsSent := [], trimRows := [], resend := []
    counts := { l.counts with attempts := count32 l.counts.attempts } }) s
  let s2 := onModel p (fun m => { m with
    sensorBad := [0, 0, 0, 0], sensorOut := [false, false, false, false] }) s1
  let s3 := onPixels p (fun x => { x with
    samples := [], flagged := [], candidates := [], confirms := [], report := none, latched := [] }) s2
  ctrl p 1 (List.replicate 16 0) s3

/-- A bring-up begins, or the port is out of use from here on, as PortInUse has it (R214, R228). -/
def beginBringUp (p : Port) (s : State) : State :=
  if portWanted s p then startBringUp p s else onLink p (fun l => { l with state := .off }) s

/-- A port whose LS is ready, with LINK powered, is brought up (R214). -/
def bringUpIfReady (p : Port) (s : State) : State :=
  if isOn s .link && s.units.ls.get p == .ready then beginBringUp p s else s

/-- A failed attempt (R215): the bring-up starts again, and after three the port is lost. -/
def failBringUp (p : Port) (s : State) : State :=
  let n := (s.link.get p).failures + 1
  let s1 := onLink p (fun l => { l with failures := n }) s
  if n ≥ 3 then losePort p false (onLink p (fun l => { l with failures := 0 }) s1)
  else beginBringUp p s1

/-- The longest run of values for which `ok` holds: its start and length, the first of equals. -/
def longestRun (ok : Nat → Bool) (n : Nat) : Nat × Nat :=
  ((List.range n).foldl (fun (b : (Nat × Nat) × Nat) k =>
    let run := if ok k then b.2 + 1 else 0
    if run > b.1.2 then ((k + 1 - run, run), run) else (b.1, run)) ((0, 0), 0)).1

/-- The middle code of a run, the lower one of two (log 52). -/
def middleOf (run : Nat × Nat) : Nat := run.1 + (run.2 - 1) / 2

/-- Error count of a lane at the k-th code, from the counts read in order, newest first. -/
def sweepCount (sweep : List Nat) (k lane : Nat) : Nat := nth 0 sweep.reverse (5 * k + lane)

/-- Codes of the de-emphasis sweep: all eight, or the fixed one (R214 step 4). -/
def sweepCodes (s : State) (p : Port) : List Nat :=
  if linkCfg s p 6 = 1 then [linkCfg s p 7] else List.range 8

/-- The code that a lane takes, none where no code of the sweep is free of errors (R214 step 4). -/
def laneCode (codes sweep : List Nat) (lane : Nat) : Option Nat :=
  let run := longestRun (fun k => sweepCount sweep k lane == 0) codes.length
  if run.2 = 0 then none else codes[middleOf run]?

/-- The lane may be trained: it has not failed for good (R223). -/
def trainable (x : LaneState) : Bool := x != .failedForGood

/-- Lanes that fail, each failure counted; the fourth since the last reset is for good (R223). -/
def failLanes (bad : Nat → Bool) (l : LinkPort) : LinkPort :=
  let fails := (List.range 5).map fun i => nth 0 l.laneFails i + ofBool (bad i)
  { l with
    laneFails := fails
    lanes := l.lanes.mapIdx fun i x =>
      if !bad i then x else if nth 0 fails i ≥ 4 then .failedForGood else .failed }

/-- The sweep has ended (R214 steps 4 and 5): each lane takes its code, and a lane with none fails; the training is over, and
markers start. -/
def endSweep (codes : List Nat) (l : LinkPort) : LinkPort :=
  let picks := (List.range 5).map (laneCode codes l.sweep)
  { failLanes (fun i => trainable (nth .failed l.lanes i) && (nth none picks i).isNone) l with
    deemphasis := (List.range 5).map fun i => (nth none picks i).getD (nth 0 l.deemphasis i)
    tx := { l.tx with trained := true, index := 0 }
    sweep := [] }

/-- The skews are read (R214 step 5): a lane outside 40 symbols fails. -/
def endSkew (l : LinkPort) : LinkPort :=
  let skew := l.sweep.reverse
  { failLanes (fun i => nth .failed l.lanes i == .untrained && decide (nth 0 skew i > 40)) l with
    skew := skew
    sweep := [] }

/-- Lanes that have passed the training. -/
def goodLanes (l : LinkPort) : List Nat := (List.range 5).filter fun i => nth LaneState.failed l.lanes i == .untrained

/-- The lane map after training (R184, R214 step 6). -/
def assignLanes (l : LinkPort) : LinkPort :=
  let good := goodLanes l
  let map := good.take 4
  { l with
    map := map
    spare := (good.drop 4).head?
    lanes := l.lanes.mapIdx fun i x =>
      if map.contains i then .working else if good.contains i then .spare else x }

/-- Payload of SET_LANES (R205): lanes, spare, W, rate, band. -/
def setLanesPayload (l : LinkPort) (band : Nat) : List Byte :=
  (List.range 4).map (fun j => BitVec.ofNat 8 (nth 0x0F l.map j))
    ++ [BitVec.ofNat 8 (l.spare.getD 0x0F), BitVec.ofNat 8 l.map.length, BitVec.ofNat 8 (ofBool l.half),
      BitVec.ofNat 8 band]

/-- CTRL SET_LANES from a band on (R205, R220): on every surviving lane and the spare. -/
def sendSetLanes (p : Port) (band : Nat) (s : State) : State :=
  ctrl p 3 (setLanesPayload (s.link.get p) band) s

/-- First and last block (exclusive) of a logical lane (R198). -/
def laneBlocks (w j : Nat) : Nat × Nat := (16 * j / w, 16 * (j + 1) / w)

/-- The logical lane that carries a block (R198). -/
def laneOfBlock (w b : Nat) : Nat :=
  ((List.range w).find? fun j => decide (b < (laneBlocks w j).2)).getD 0

/-- Payload of a TRIM: four 6-bit trims in three bytes (R202). -/
def trimPayload (trims : List Nat) : List Byte := leBytes 48 (packLe 6 trims)

/-- The 16 TRIMs of a row, spread over the working lanes (R198, R202). -/
def sendTrimRow (row epoch : Nat) (immediate : Bool) (trim : Nat → Nat) (l : LinkPort) : LinkPort :=
  (List.range 16).foldl (fun l b =>
    sendPacket 3 row epoch (b * 128 + ofBool immediate * 64)
      (trimPayload ((List.range 64).map fun k => trim (64 * b + k)))
      [nth 0 l.map (laneOfBlock l.map.length b)] l) l

/-- The trim upload of step 7, from the SBG trim table (R27, R214). -/
def uploadTrims (p : Port) (s : State) : State :=
  onLink p (fun l => (List.range 512).foldl (fun l r =>
    sendTrimRow r s.scan.epoch.toNat true (fun c => (Config.sbgTrim (pixelIndex p c r)).toNat) l) l) s

/-- Value of the CompWindow register (R323): limits in 2 mV steps. -/
def compWindow (s : State) (p : Port) : Nat := limitOf s p 0x11 / 2 * 2 ^ 16 + limitOf s p 0x10 / 2

/-- Value of the SweepControl register in a frame (R323, R325, R327). -/
def sweepControl (s : State) (epoch : BitVec 32) : Nat := ofBool (s.toll.state != 3) * 256 + epoch.toNat % 64

/-- The diagnostic registers are written at step 7 of a bring-up, the entries of the ProbeList as not valid (R323). -/
def writeDiagnostics (p : Port) (s : State) : State :=
  let s1 := writeReg p 0x60 (compWindow s p) s
  let s2 := writeReg p 0x64 (limitOf s p 0x12 / 2) s1
  let s3 := onPixels p (fun x => { x with litSample := s.toll.state != 3, sweepPhase := s.scan.epoch.toNat % 64 })
    (writeReg p 0x70 (sweepControl s s.scan.epoch) s2)
  (List.range 16).foldl (fun s i => writeReg p (0x80 + 4 * i) 0 s) s3

/-- ZONE of a zone row (R201). -/
def sendZone (zr epoch line : Nat) (codes : List Nat) (l : LinkPort) : LinkPort :=
  sendPortPacket 2 line epoch (zr * 512) (codes.map (BitVec.ofNat 8)) l

/-- SEED of a sub-period (R204). -/
def sendSeed (k : Nat) (guarded : Bool) (seed epoch line : Nat) (l : LinkPort) : LinkPort :=
  sendPortPacket 4 line epoch (k * 128 + ofBool guarded * 64) (leBytes 4 seed) l

/-- The safe beam's codes of a zone row (R29, R214 step 8). -/
def safeCodes (s : State) (p : Port) (zr : Nat) : List Nat :=
  (List.range 8).map fun k => safeCode s p (8 * zr + k)

/-- Payload of SET_RATE (R205): rate code and the Epoch of its first frame. -/
def setRatePayload (rate : Nat) (epoch : BitVec 32) : List Byte :=
  BitVec.ofNat 8 rate :: (List.replicate 3 0 ++ leBytes 4 epoch.toNat)

/-- The seed that a bring-up sends (R214 step 8): the one in force, or that of the first sub-period while no scan
runs. -/
def firstSeed (s : State) : Nat :=
  if s.scan.running then s.drive.seed.toNat else seedOf s 0 (lfsrStep s.drive.lfsr)

/-- Step 8 (R214): ZONE of every zone row, the SEED in force, and SET_RATE. They leave in one line, also where they are more
than 80 symbols (log 161). -/
def sendFirstSettings (p : Port) (s : State) : State :=
  let e := s.scan.epoch.toNat
  let s1 := onLink p (fun l =>
    sendSeed (s.scan.pos.toNat / 256) (bitOf (guardedMap s) (s.scan.pos.toNat / 256)) (firstSeed s) e
      (lineNow s)
      ((List.range 4).foldl (fun l zr => sendZone zr e (lineNow s) (safeCodes s p zr) l) l)) s
  ctrl p 2 (setRatePayload s.scan.rate s.scan.epoch) s1

/-- The code errors of each of the 16 codes in a CTLE sweep; the receiver measures them, so they are free (log 53). -/
def sweepErrors (s : State) : List Nat × State :=
  (List.range 16).foldl (fun r _ => let d := drawFree r.2; (r.1 ++ [d.1], d.2)) ([], s)

/-- The code that a CTLE sweep chooses (R214 step 3): the middle of the longest run of codes without errors, or the code
with fewest errors, the lowest of equals, if none is free of them. -/
def ctleChoice (errors : List Nat) : Nat :=
  let run := longestRun (fun k => nth 0 errors k == 0) 16
  if run.2 > 0 then middleOf run
  else (List.range 16).foldl (fun b k => if nth 0 errors k < nth 0 errors b then k else b) 0

/-- The CTLE code (R214 step 3): fixed, or the choice of a sweep. -/
def chooseCtle (p : Port) (s : State) : State :=
  if linkCfg s p 9 = 1 then onLink p (fun l => { l with ctle := linkCfg s p 0x0A }) s
  else
    let e := sweepErrors s
    onLink p (fun l => { l with ctle := ctleChoice e.1 }) e.2

/-- The k-th code of the sweep is trained (R214 step 4). -/
def trainCode (p : Port) (k : Nat) (s : State) : State :=
  onLink p (fun l => { l with step := 4, sub := 6 * k }) (sendTrain p 1 (allCodes (nth 3 (sweepCodes s p) k)) s)

/-- An ACK of step 2 (R213, R214): RESET, then ArrayId, then Geometry, which must read 1,023 and 511. -/
def ackReset (p : Port) (value : Nat) (s : State) : State :=
  match (s.link.get p).sub with
  | 0 => readReg p 0 (onLink p (fun l => { l with sub := 1 }) s)
  | 1 => readReg p 4 (onLink p (fun l => { l with sub := 2, arrayId := BitVec.ofNat 32 value }) s)
  | _ =>
    if bitsOf value 16 10 = 1023 ∧ bitsOf value 0 9 = 511 then trainCode p 0 (chooseCtle p s)
    else failBringUp p s

/-- The error count of a lane has been read (R214 step 4); after the fifth, the next code or the end of the
sweep. -/
def ackSweep (p : Port) (value : Nat) (s : State) : State :=
  let l := s.link.get p
  let k := l.sub / 6
  let lane := l.sub % 6
  if lane = 0 then readReg p 0x20 (onLink p (fun l => { l with sub := l.sub + 1 }) s)
  else
    let s1 := onLink p (fun l => { l with sweep := value :: l.sweep, sub := l.sub + 1 }) s
    if lane < 5 then readReg p (0x20 + 4 * lane) s1
    else if k + 1 < (sweepCodes s p).length then trainCode p (k + 1) s1
    else readReg p 0x40 (onLink p (fun l => { endSweep (sweepCodes s p) l with step := 5, sub := 0 }) s1)

/-- A lane's skew has been read (R214 step 5); after the fifth, step 6 needs three good lanes. -/
def ackSkew (p : Port) (value : Nat) (s : State) : State :=
  let lane := (s.link.get p).sub
  let s1 := onLink p (fun l => { l with sweep := value :: l.sweep, sub := lane + 1 }) s
  if lane < 4 then readReg p (0x40 + 4 * (lane + 1)) s1
  else
    let s2 := onLink p endSkew s1
    if (goodLanes (s2.link.get p)).length < 3 then failBringUp p s2
    else sendSetLanes p 0 (onLink p (fun l => { assignLanes l with step := 6, sub := 0 }) s2)

/-- A WRITE_REG has not been answered or has not left. -/
def writesOpen (l : LinkPort) : Bool := (l.ctrls.any fun c => c.opcode == 5) || l.deferred.any fun c => c.1 == 5

/-- An ACK of step 7 (R323): the last register write ends the step. -/
def ackDiagnostics (p : Port) (s : State) : State :=
  if writesOpen (s.link.get p) then onLink p (fun l => { l with sub := l.sub + 1 }) s
  else sendFirstSettings p (onLink p (fun l => { l with step := 8, sub := 0 }) s)

/-- The array has done the CTRL that a bring-up waits for (R214): the next step begins. -/
def bringUpAck (p : Port) (value : Nat) (s : State) : State :=
  match (s.link.get p).step with
  | 2 => ackReset p value s
  | 4 => ackSweep p value s
  | 5 => ackSkew p value s
  | 6 => writeDiagnostics p (uploadTrims p (onLink p (fun l => { l with step := 7, sub := 0 }) s))
  | 7 => ackDiagnostics p s
  | 8 =>
    if (s.link.get p).sub = 0 then
      sendStart p (startFrame s) (onLink p (fun l => { l with sub := 1 }) s)
    else onLink p (fun l => { l with step := 9 }) s
  | _ => s

/-- A START takes effect at the boundary of the frame that it names (R214 step 9, R218): the port enters or
resumes service, with the frame's content from line 0. -/
def enterService (p : Port) (s : State) : State :=
  let l := s.link.get p
  if l.startAt = some s.scan.epoch then
    onLink p (fun l => { l with
      state := if l.half then .halfRate else .service
      step := 0, sub := 0, failures := 0, startAt := none, holdSent := false, expired := false }) s
  else s

/-! ## Hold (R35, R218) -/

/-- The LS of a port is about to stop: HOLD ends the port's traffic at a line start (R35, R218). -/
def stopPort (p : Port) (s : State) : State := if portServing s p then sendHold p s else s

/-- The LS of a port has booted (R214, R218): a held port gets a START, unless a hold safe state stands; any other
port is brought up, a lost one when its kind has ended. -/
def resumePort (p : Port) (s : State) : State :=
  let l := s.link.get p
  if portServing s p then
    (if (l.holdSent || l.holdDue) && !(s.faults.safeState == .hold && !s.faults.holdDone) then sendStart p (startFrame s) s
     else s)
  else if l.state = .lost ∧ isActive s (lostKind p) (0x0A + p.num) then clearLoss p s
  else bringUpIfReady p s

/-- LS_RESUME_TIMEOUT (R35, R218): 40 ms after the HOLD, the port has not resumed. -/
def execLsResumeTimeout (p : Port) (s : State) : Host.Outcome State Fault Refusal :=
  .next (let l := s.link.get p
    if portServing s p && l.holdSent && (s.units.ls.get p != .ready || l.startAt.isSome) then
      losePort p (s.units.ls.get p != .ready) s
    else s)

/-- CTRL_ACK_TIMEOUT (R215, R226): no answer within 4 lines. A bring-up starts again; a TRIM_COMMIT has lost all
its copies; a remap proceeds. -/
def execCtrlAckTimeout (p : Port) (s : State) : Host.Outcome State Fault Refusal :=
  .next (match (s.link.get p).ctrls with
    | [] => s
    | c :: rest =>
      let s1 := onLink p (fun l => { l with ctrls := rest }) s
      if (s.link.get p).state = .bringUp then failBringUp p s1
      else if c.opcode = 8 then raiseKind 0x16 { port := p.num } s1
      else s1)

/-! ## Lanes (R219 to R223) -/

/-- Working lanes of a port that have not failed, in logical order. -/
def survivors (l : LinkPort) : List Nat := l.map.filter fun x => nth LaneState.failed l.lanes x == .working

/-- The lane map after a remap (R220, R223): a failed lane takes the spare's place, or the map closes up; a spare
joins while W is below 4. -/
def remapLanes (l : LinkPort) : LinkPort :=
  let step := l.map.foldl (fun (b : List Nat × Option Nat) x =>
    if nth LaneState.failed l.lanes x == .working then (b.1 ++ [x], b.2)
    else match b.2 with
      | some y => (b.1 ++ [y], none)
      | none => b) ([], l.spare)
  let full := match step.2 with
    | some y => if step.1.length < 4 then (step.1 ++ [y], none) else step
    | none => step
  { l with
    map := full.1
    spare := full.2
    lanes := l.lanes.mapIdx fun i x => if full.1.contains i then .working else x }

/-- A lane fails (R219, R220, R223): a spare leaves the port without one; a working lane waits for the remap, and
the port is lost when fewer than two lanes remain. -/
def failLane (p : Port) (lane : Nat) (s : State) : State :=
  let l := s.link.get p
  let x := nth LaneState.failed l.lanes lane
  if !portServing s p || !(x == .working || x == .spare) then s
  else
    let s1 := onLink p (fun l => { failLanes (· == lane) l with
      errorRuns := modifyAt (fun _ => 0) lane l.errorRuns
      spare := if l.spare = some lane then none else l.spare
      remap := l.remap || x == .working }) s
    if x = .spare then raiseKind 0x15 { port := p.num, lane := lane } s1
    else
      let s2 := raiseKind 0x14 { port := p.num, lane := lane } s1
      let l2 := s2.link.get p
      if (survivors l2).length + ofBool l2.spare.isSome < 2 then losePort p false s2 else s2

/-- Half-rate operation follows the new map (R206, R221): entry raises kind 0x17, return to full rate ends it. -/
def judgeRate (p : Port) (s : State) : State :=
  let l := s.link.get p
  let half := !rowFits l.map.length s.scan.rate
  let s1 := onLink p (fun l => { l with
    half := half
    state := if l.state = .service ∨ l.state = .halfRate then (if half then .halfRate else .service)
      else l.state }) s
  if half && !l.half then raiseKind 0x17 { port := p.num } s1
  else if l.half && !half then clearCondition 0x17 (0x0A + p.num) s1
  else s1

/-- The remap at the boundary where band `b` begins (R220): the new map, SET_LANES for band b + 1, and band b held. -/
def remapPort (p : Port) (b : Nat) (s : State) : State :=
  let s1 := judgeRate p (onLink p (fun l => { remapLanes l with
    remap := false, regained := false, heldBand := some b
    counts := { l.counts with remaps := count32 l.counts.remaps } }) s)
  sendSetLanes p ((b + 1) % 32) s1

/-- A remap is due on the port at a band boundary (R220, R221, R223). -/
def remapDue (s : State) (p : Port) : Bool :=
  let l := s.link.get p
  (l.state == .service || l.state == .halfRate)
    && (l.remap || l.regained || (l.half == rowFits l.map.length s.scan.rate))

/-- The lane remaps of a band boundary (R43 item 3, R220); a held band ends. -/
def remapBoundary (b : Nat) (s : State) : State :=
  Port.all.foldl (fun s p =>
    if remapDue s p then remapPort p b s else onLink p (fun l => { l with heldBand := none }) s) s

/-- A lane failed while its port held is remapped by SET_LANES before START (R218, R226). -/
def remapHeld (p : Port) (s : State) : State :=
  if (s.link.get p).state = .hold ∧ (s.link.get p).remap then
    onLink p (fun l => { l with heldBand := none }) (remapPort p (bandNow s) s)
  else s

/-- A lane fails (R219); a port that holds remaps at once (R218). -/
def laneFailure (p : Port) (lane : Nat) (s : State) : State := remapHeld p (failLane p lane s)

/-- LANE_TX_FAULT (R219): the transmitter fault detector of a lane trips. -/
def execLaneTxFault (p : Port) (lane : Nat) (s : State) : Host.Outcome State Fault Refusal :=
  .next (if isOn s .link && decide (lane < 5) then laneFailure p lane s else s)

/-- LANE_RETRAIN (R205, R223): CTRL TRAIN, TS2 on a failed lane at its last de-emphasis code, and its LaneErrorCount is
read. -/
def execLaneRetrain (p : Port) (lane : Nat) (s : State) : Host.Outcome State Fault Refusal :=
  .next (let l := s.link.get p
    if portServing s p && s.units.ls.get p == .ready && linkCfg s p 0x10 == 1 && l.retraining.isNone
        && decide (lane < 5) && nth LaneState.untrained l.lanes lane == .failed then
      readReg p (0x20 + 4 * lane) (sendTrain p 1 l.deemphasis (onLink p (fun l => { l with retraining := some lane }) s))
    else s)

/-- LANE_RETRAIN_DONE (R223): a lane without errors becomes the spare; with W below 4 it joins at the next band
boundary. R223 names one spare: while another lane is the spare the lane stays failed (log 162). -/
def execLaneRetrainDone (p : Port) (lane errors : Nat) (s : State) : Host.Outcome State Fault Refusal :=
  .next (let l := s.link.get p
    if portServing s p && l.retraining == some lane then
      onLink p (fun l => { l with
        retraining := none
        lanes := if errors = 0 ∧ l.spare = none then modifyAt (fun _ => LaneState.spare) lane l.lanes else l.lanes
        spare := if errors = 0 ∧ l.spare = none then some lane else l.spare
        regained := l.regained || (errors == 0 && decide (l.map.length < 4)) }) s
    else s)

/-! ## Return lane (R212) -/

/-- RETURN_LANE_LOST (R212): marker lock fails, or 8 band times pass without a valid packet. -/
def execReturnLaneLost (p : Port) (s : State) : Host.Outcome State Fault Refusal :=
  .next (if portServing s p && !(s.link.get p).returnLost then
    raiseKind 0x18 { port := p.num, lane := 5 }
      (onLink p (fun l => { l with returnLost := true, returnGrace := true }) s)
  else s)

/-- RETURN_RECEIVER_RETRAINED (R212): the return lane is back in service, with a new equaliser code. -/
def execReturnReceiverRetrained (p : Port) (s : State) : Host.Outcome State Fault Refusal :=
  .next (if (s.link.get p).returnLost then
    clearCondition 0x18 (0x0A + p.num) (chooseCtle p (onLink p (fun l => { l with returnLost := false }) s))
  else s)

/-- RETURN_LANE_GRACE_EXPIRY (R212): no valid BAND_STATUS came within ReturnLaneGrace band times of the loss. -/
def execReturnLaneGraceExpiry (p : Port) (s : State) : Host.Outcome State Fault Refusal :=
  .next (if portServing s p && (s.link.get p).returnGrace then losePort p false s else s)

/-! ## Fault pin (R225) -/

/-- PORT_FLT_ASSERT (R215, R222, R225): with PORTx_EN high the port is lost; a bring-up starts again; a port that is
not in use ignores the pin. -/
def execPortFltAssert (p : Port) (s : State) : Host.Outcome State Fault Refusal :=
  .next (if inReset s || !isOn s .safe || !portActive s p then s
    else
      let l := s.link.get p
      let s1 := onLink p (fun l => { l with fault := true }) s
      if l.enable then losePort p true s1
      else if l.state = .bringUp then failBringUp p s1
      else s1)

/-- PORT_FLT_RELEASE (R222): the pin is released, and the cause of a loss by it has cleared. -/
def execPortFltRelease (p : Port) (s : State) : Host.Outcome State Fault Refusal :=
  .next (if (s.link.get p).fault then clearLoss p (onLink p (fun l => { l with fault := false }) s) else s)

end Sys2Proof.Machine
end

