-- ==== Sys2Proof/Machine/Returns.lean ====
section
/-!
DEFINITION. Returns.lean: the return packets of the arrays (R207 to R212) and what is judged from them: echo
(R338), flags and candidates (R331, R337), confirmation (R332, R333), samples (R330), lanes (R219) and ageing
samples (R171).
-/

namespace Sys2Proof.Machine

open Sys2Proof

/-! ## Headers (R194) -/

/-- Type of a packet. -/
def hdrType (h : BitVec 64) : Nat := bitsOf h.toNat 60 4
/-- Reserved bits of a header. -/
def hdrReserved (h : BitVec 64) : Nat := bitsOf h.toNat 57 3
/-- Sequence of a packet. -/
def hdrSequence (h : BitVec 64) : Nat := bitsOf h.toNat 40 16
/-- PayloadLength of a packet. -/
def hdrLength (h : BitVec 64) : Nat := bitsOf h.toNat 0 16
/-- Band of a return packet: TypeField [26:22] (R208). -/
def hdrBand (h : BitVec 64) : Nat := bitsOf h.toNat 22 5

/-- A packet arrived without code error and with a good CRC (R189, R193). -/
def packetGood (k : RxPacket) : Bool :=
  k.codeErrors == 0 && k.crc.toNat == crc32c (leBytes 8 k.header.toNat ++ k.payload)

/-- A good packet of a type whose payload has its length (R194, R195). -/
def packetOfType (k : RxPacket) (ty : Nat) : Bool :=
  hdrType k.header == ty && hdrReserved k.header == 0 && hdrLength k.header == k.payload.length

/-- The port listens to its return lane: LINK on, brought up or in bring-up, the return lane not lost. -/
def listening (s : State) (p : Port) : Bool :=
  isOn s .link && (portServing s p || (s.link.get p).state == .bringUp) && !(s.link.get p).returnLost

/-- The sequence of a return packet is noted, and a gap counts (R197). -/
def noteSequence (q : BitVec 16) (l : LinkPort) : LinkPort :=
  { l with
    returnSeq := some q
    counts := match l.returnSeq with
      | some x => if x + 1 = q then l.counts else
          { l.counts with returnGaps := count32 l.counts.returnGaps }
      | none => l.counts }

/-- The return receiver counts the code errors of a packet (R189). -/
def countCodeErrors (p : Port) (packet : RxPacket) (s : State) : State :=
  onLink p (fun l => { l with codeErrors := l.codeErrors + packet.codeErrors }) s

/-- The CRC of a packet is good (R193). -/
def crcGood (k : RxPacket) : Bool := k.crc.toNat == crc32c (leBytes 8 k.header.toNat ++ k.payload)

/-- The port hears a packet of a type: also the samples of a port that is lost (R345). -/
def hears (s : State) (p : Port) (ty : Nat) : Bool :=
  listening s p || (ty == 9 && isOn s .link && (s.link.get p).state == .lost)

/-- A return packet (R189, R212, R342): code errors count; one with a bad CRC is discarded and counted, one with a code error
or of another form is discarded, and a valid one is judged by `k`. -/
def receiveReturn (p : Port) (ty : Nat) (lengthOk : Nat → Bool) (packet : RxPacket) (k : State → State)
    (s0 : State) : State :=
  let s := countCodeErrors p packet s0
  if !hears s0 p ty then s0
  else if !crcGood packet then
    onLink p (fun l => { l with counts := { l.counts with returnErrors := count32 l.counts.returnErrors } }) s
  else if !(packetGood packet && packetOfType packet ty && lengthOk packet.payload.length) then s
  else k (onLink p (noteSequence (BitVec.ofNat 16 (hdrSequence packet.header))) s)

/-! ## Echo (R338) -/

/-- The rows of a band whose bit is set in a mask. -/
def maskedRows (band mask : Nat) : List Nat :=
  ((List.range 16).filter (bitOf mask)).map (16 * band + ·)

/-- The duties that the port sent for a row. -/
def sentDuties (l : LinkPort) (r : Nat) : Option (List Nat) :=
  (l.rowsSent.find? fun e => e.1 == r).map (·.2)

/-- The checksum over what was sent for the rows reported as latched; none when such a row was not sent
(R208, R338). -/
def echoOf (l : LinkPort) (rows : List Nat) : Option Nat :=
  if rows.isEmpty then some 0
  else (rows.mapM (sentDuties l)).map fun ds => sampleCrc ds.flatten

/-- The fault "band echo persistent" (R338): PORTx_EN falls, and EmitterDisabled reads 0x02; the record of a stuck-lit pixel
stands, because only EmitterDisableClear and the ceiling end it (R335, log 163). -/
def echoPersistent (p : Port) (band : Nat) (s : State) : State :=
  if (s.pixels.get p).echoHeld then s
  else
    let s1 := onPixels p (fun x => { x with echoHeld := true }) s
    dropEnables (raiseKind 0x13 { port := p.num, address := band }
      (if s.nvm.disabled.get p = 1 then s1 else putRecord p 2 0xFFFFFFFF s1))

/-- A mismatch of the echo (R338); the third frame in a row with one disables the port. -/
def echoMismatch (p : Port) (band : Nat) (s : State) : State :=
  let s1 := onPixels p (fun x => { x with
    echoErrors := count32 x.echoErrors
    echoRun := if x.echoFrame then x.echoRun else x.echoRun + 1
    echoFrame := true
    echoGood := 0 }) s
  let s2 := raiseKind 0x12 { port := p.num, address := band } s1
  if (s2.pixels.get p).echoRun ≥ 3 then echoPersistent p band s2 else s2

/-- The echo of a BAND_STATUS is compared (R338). -/
def judgeEcho (p : Port) (band mask checksum : Nat) (s : State) : State :=
  if echoOf (s.link.get p) (maskedRows band mask) = some checksum then
    onPixels p (fun x => { x with echoGood := x.echoGood + 1 }) s
  else echoMismatch p band s

/-- PORT_ECHO_REENABLE (R338): the quiet period has passed and 64 reports in a row have matched. The port is
enabled at a frame boundary. -/
def execPortEchoReenable (p : Port) (s : State) : Host.Outcome State Fault Refusal :=
  .next (if (s.nvm.disabled.get p = 2 ∨ (s.pixels.get p).echoHeld) ∧ (s.pixels.get p).echoGood ≥ 64 then
      let s1 := onPixels p (fun x => { x with echoRun := 0, echoHeld := false })
        (if s.nvm.disabled.get p = 2 then putRecord p 0 0xFFFFFFFF s else s)
      if Port.all.any fun q => s1.nvm.disabled.get q == 2 || (s1.pixels.get q).echoHeld then s1
      else clearCondition 0x13 0x09 s1
    else s)

/-! ## Flags and candidates (R331, R337) -/

/-- Largest number of candidates that a port queues (R331). -/
def candidateLimit : Nat := 256

/-- A pixel becomes a candidate (R331): status 0, 4 or 6, not one already; a full queue drops it. -/
def addCandidate (p : Port) (i : Nat) (s : State) : State :=
  let x := s.pixels.get p
  let code := statusOf s p i
  if !(code == 0 || code == 4 || code == 6) || x.candidates.contains i
      || x.confirms.any (fun f => f.pixel == i) then s
  else if x.candidates.length < candidateLimit then
    onPixels p (fun x => { x with candidates := x.candidates ++ [i] }) s
  else onPixels p (fun x => { x with dropped := count32 x.dropped }) s

/-- The flags of a BAND_STATUS: column and row flagged (R208). -/
def flaggedPixels (band : Nat) (payload : List Byte) : List Nat :=
  (List.range 16).flatMap fun i =>
    let row := leNat ((payload.drop (8 + 128 * i)).take 128)
    ((List.range 1024).filter (bitOf row)).map fun c => (16 * band + i) * 1024 + c

/-- Duties of the content that row `r` of the port shows (R331). -/
def latchedDuties (x : PixelCheck) (r : Nat) : List Nat :=
  ((x.latched.find? fun e => e.1 == r).map (·.2)).getD []

/-- A row counts for "two consecutive reports": every row at full rate, the latched rows at half rate (R331,
R345). -/
def rowCounts (l : LinkPort) (mask i : Nat) : Bool := !l.half || bitOf mask i

/-- The pixels flagged in the last counted report of their row, after this report (R331): a report in which a
pixel's content was dark leaves it as it was. -/
def nextFlagged (l : LinkPort) (x : PixelCheck) (band mask : Nat) (flags : List Nat) : List Nat :=
  let rows := ((List.range 16).filter (rowCounts l mask)).map (16 * band + ·)
  let stays := x.flagged.filter fun i =>
    !rows.contains (i / 1024) || nth 0 (latchedDuties x (i / 1024)) (i % 1024) == 0
  stays ++ (flags.filter fun i => rows.contains (i / 1024) && !stays.contains i)

/-- Candidates of a report (R331): flagged in an SF1 cell, or flagged in two counted reports. -/
def newCandidates (s : State) (p : Port) (mask : Nat) (flags : List Nat) : List Nat :=
  let x := s.pixels.get p
  flags.filter fun i =>
    inSf1 s p (i % 1024) (i / 1024)
      || (x.flagged.contains i && rowCounts (s.link.get p) mask (i / 1024 % 16))

/-- A report is set aside for too many flags, or for a headroom below its limit (R337). -/
def noteStorm (p : Port) (band : Nat) (s : State) : State :=
  let first := !(s.pixels.get p).stormFrame
  let s1 := onPixels p (fun x => { x with storms := count32 x.storms, stormFrame := true }) s
  if first then raiseKind 0x11 { port := p.num, address := band } s1 else s1

/-- The flags of a BAND_STATUS (R331, R337): set aside without a count while PORTx_EN is low, with a count when
the band has more flags than FlagStormLimit. -/
def judgeFlags (p : Port) (band mask : Nat) (flags : List Nat) (s : State) : State :=
  let x := s.pixels.get p
  let plain : BandReport := ⟨band, mask, [], x.flagged, false⟩
  if !(s.link.get p).enable then onPixels p (fun x => { x with report := some plain }) s
  else if flags.length > limitOf s p 0x13 then
    noteStorm p band (onPixels p (fun x => { x with report := some plain }) s)
  else
    let added := (newCandidates s p mask flags).filter fun i =>
      !x.candidates.contains i && !x.confirms.any fun f => f.pixel == i
    let s1 := onPixels p (fun x => { x with
      report := some ⟨band, mask, added, x.flagged, true⟩
      flagged := nextFlagged (s.link.get p) x band mask flags }) s
    added.foldl (fun s i => addCandidate p i s) s1

/-- The TEMP of the same band reports too low a headroom (R337): the flags of the report count towards no
candidate after all, and what it added goes. -/
def withdrawReport (p : Port) (band : Nat) (s : State) : State :=
  match (s.pixels.get p).report with
  | none => s
  | some r =>
    if r.counted && r.band == band then
      noteStorm p band (onPixels p (fun x => { x with
        report := some { r with counted := false }
        flagged := r.flagged
        candidates := x.candidates.filter fun i => !r.added.contains i
        confirms := x.confirms.filter fun f => !r.added.contains f.pixel }) s)
    else s

/-- The rows that the array reports as latched show what was sent (R208). -/
def noteLatched (p : Port) (band mask : Nat) (s : State) : State :=
  let l := s.link.get p
  (maskedRows band mask).foldl (fun s r =>
    match sentDuties l r with
    | some ds => onPixels p (fun x => { x with latched := putEntry r ds x.latched }) s
    | none => s) s

/-- Rows of a band that were due in the frame reported (R221, R228): all, half of them at half rate, none in hold. -/
def dueRows (epoch : Nat) (l : LinkPort) : List Nat :=
  if l.state = .hold then []
  else if l.half then (List.range 16).filter fun i => i % 2 == epoch % 2
  else List.range 16

/-- EpochLow of a packet: of the frame reported (R194). -/
def hdrEpoch (h : BitVec 64) : Nat := bitsOf h.toNat 27 4

/-- BAND_STATUS (R208, R212, R228, R331, R337 to R339). -/
def execBandStatus (p : Port) (packet : RxPacket) (s : State) : Host.Outcome State Fault Refusal :=
  .next (receiveReturn p 8 (· == 2056) packet (fun s =>
    let band := hdrBand packet.header
    let v := leNat (packet.payload.take 8)
    let mask := halfOf v 2
    let blocked := halfOf v 3
    let missed := ((dueRows (hdrEpoch packet.header) (s.link.get p)).filter fun i => !bitOf mask i).length
    let s1 := onLink p (fun l => { l with
      returnGrace := false
      resend := l.resend ++ (maskedRows band blocked).filter fun r => !l.resend.contains r
      counts := { l.counts with rowsNotLatched := satAdd 32 l.counts.rowsNotLatched missed } }) s
    onPixels p (fun x => { x with reported := x.reported ||| BitVec.ofNat 32 (2 ^ band) })
      (noteLatched p band mask
        (judgeFlags p band mask (flaggedPixels band packet.payload) (judgeEcho p band mask (wordOf v 0) s1)))) s)

/-- BAND_STATUS_MISSED (R339): no good report of the band has come by the start of line 16X + 32. -/
def execBandStatusMissed (p : Port) (band : Nat) (s : State) : Host.Outcome State Fault Refusal :=
  .next (if listening s p && !(s.pixels.get p).reported.getLsbD band then
    onPixels p (fun x => { x with missed := count32 x.missed }) s else s)

/-! ## VF_SAMPLE (R209, R326, R331 to R333) -/

/-- An entry of VF_SAMPLE: pixel of the port, state, Vf in mV. -/
structure Sample where
  pixel : Nat
  state : Nat
  vf    : Nat
  deriving DecidableEq, Repr

/-- The entries of a VF_SAMPLE (R209); one with the reserved state or reserved bits is left out. -/
def samplesOf (band : Nat) (payload : List Byte) : List Sample :=
  ((List.range (payload.length / 4)).map fun k => leNat ((payload.drop (4 * k)).take 4)).filterMap fun w =>
    if bitsOf w 16 2 = 3 ∨ bitsOf w 12 4 ≠ 0 then none
    else some ⟨(16 * band + bitsOf w 18 4) * 1024 + bitsOf w 22 10, bitsOf w 16 2, 2 * bitsOf w 0 12⟩

/-- The leading entries that belong to started confirmations, and the sweep entries after them (R326). -/
def splitSamples (confirms : List Confirm) : List Sample → List Sample × List Sample
  | [] => ([], [])
  | e :: rest =>
    if confirms.any fun f => f.pixel == e.pixel && f.started then
      let r := splitSamples (confirms.filter fun f => f.pixel != e.pixel) rest
      (e :: r.1, r.2)
    else ([], e :: rest)

/-- A confirmation ends. -/
def endConfirm (p : Port) (i : Nat) (s : State) : State :=
  onPixels p (fun x => { x with confirms := x.confirms.filter fun f => f.pixel != i }) s

/-- A confirmation goes to another step, or repeats one. -/
def moveConfirm (p : Port) (i step tries : Nat) (s : State) : State :=
  onPixels p (fun x => { x with confirms := x.confirms.map fun f =>
    if f.pixel = i then { f with step := step, tries := tries, started := false, raised := false, skip := none }
    else f }) s

/-- A pixel under confirmation gets its status (R332, R333). -/
def decideStatus (p : Port) (i code vf : Nat) (s : State) : State := confirmStatus p i code vf (endConfirm p i s)

/-- A step whose sample was not taken (R333): repeated up to three times in all; then step B gives status 5, and
steps A and C drop the candidate. -/
def missedSample (p : Port) (f : Confirm) (s : State) : State :=
  if f.tries + 1 < 3 then moveConfirm p f.pixel f.step (f.tries + 1) s
  else if f.step = 1 then decideStatus p f.pixel 5 0 s
  else onPixels p (fun x => { x with dropped := count32 x.dropped }) (endConfirm p f.pixel s)

/-- The result of an off-sample of step A (R332, R334). -/
def stepA (p : Port) (i vf : Nat) (s : State) : State :=
  if vf ≥ limitOf s p 0x12 then
    (if inSf1 s p (i % 1024) (i / 1024) then sf1Reaction p i (decideStatus p i 3 vf s)
     else moveConfirm p i 1 0 s)
  else moveConfirm p i 2 0 s

/-- The result of an off-sample of step B (R332). -/
def stepB (p : Port) (i vf : Nat) (s : State) : State :=
  decideStatus p i (if vf ≥ limitOf s p 0x12 then 3 else 5) vf s

/-- The result of an on-sample of step C (R332). -/
def stepC (p : Port) (i vf : Nat) (s : State) : State :=
  if vf > limitOf s p 0x11 then decideStatus p i 1 vf s
  else if vf < limitOf s p 0x10 then decideStatus p i 2 vf s
  else onPixels p (fun x => { x with falseAlarms := count32 x.falseAlarms }) (endConfirm p i s)

/-- A sample of a pixel under confirmation (R332, R333); a state that the step's mode does not give is no result. -/
def probeSample (p : Port) (e : Sample) (s : State) : State :=
  match (s.pixels.get p).confirms.find? fun f => f.pixel == e.pixel with
  | none => s
  | some f =>
    if e.state = 2 then missedSample p f s
    else if f.step = 0 ∧ e.state = 1 then stepA p e.pixel e.vf s
    else if f.step = 1 ∧ e.state = 1 then stepB p e.pixel e.vf s
    else if f.step = 2 ∧ e.state = 0 then stepC p e.pixel e.vf s
    else s

/-- dvf of a sample in 1/16 µV (R171). -/
def dvfOf (s : State) (p : Port) (m : MasterPixel) (vf : Nat) : Int :=
  let i := m.pixel % 524288
  ((vf : Int) - m.vf0) * 16000
    - toSigned 16 (cfg s (0x4200 + p.num) 2) * (junction s p (zoneAt (i % 1024) (i / 1024)) - m.t0)

/-- An on-sample of the sweep joins the average of its pixel (R171): while the CP runs and the Toll state is 2 or less
(R321), for pixels with a reference. -/
def ageSample (p : Port) (e : Sample) (s : State) : State :=
  let x := p.num * 524288 + e.pixel
  let m := masterOf s x
  if !cpReady s || decide (2 < s.toll.state) || m.vf0 == 0 then s
  else
    let old := (s.drive.ages.find? fun a => a.pixel == x).getD ⟨x, 0, 0⟩
    { s with drive := { s.drive with
        ages := ⟨x, old.sum + dvfOf s p m e.vf, old.count + 1⟩
          :: s.drive.ages.filter fun a => a.pixel != x } }

/-- A sample of the sweep (R331, R334): a conducting off-sample makes a candidate, and disables the port of a
stuck-lit pixel in an SF1 cell. -/
def sweepSample (p : Port) (e : Sample) (s : State) : State :=
  if e.state = 0 then ageSample p e s
  else if e.state = 1 ∧ e.vf ≥ limitOf s p 0x12 then
    (if statusOf s p e.pixel = 3 ∧ inSf1 s p (e.pixel % 1024) (e.pixel / 1024) then sf1Reaction p e.pixel s
     else addCandidate p e.pixel s)
  else s

/-- The Epoch of the frame that a packet reports: the latest one with its EpochLow (R194). -/
def reportEpoch (s : State) (packet : RxPacket) : BitVec 32 :=
  s.scan.epoch - BitVec.ofNat 32 ((s.scan.epoch.toNat + 16 - hdrEpoch packet.header) % 16)

/-- The Epoch of the last sample of a band and phase (R330). -/
def noteSampled (p : Port) (band : Nat) (epoch : BitVec 32) (es : List Sample) (s : State) : State :=
  es.foldl (fun s e =>
    if e.state = 2 then s
    else onPixels p (fun x => { x with
      samples := putEntry (sampleKey band (phaseOf (e.pixel % 1024) (e.pixel / 1024))) epoch x.samples }) s) s

/-- Sweep entries of the band that had no room (R326): 16 of each row latched are due. -/
def displacedBy (x : PixelCheck) (band probes sweep : Nat) : Nat :=
  match x.report with
  | some r => if r.band = band ∧ probes + sweep = 256 then 16 * (maskedRows band r.mask).length - sweep else 0
  | none => 0

/-- VF_SAMPLE (R209, R326, R330 to R334). -/
def execVfSample (p : Port) (packet : RxPacket) (s : State) : Host.Outcome State Fault Refusal :=
  .next (receiveReturn p 9 (fun n => n % 4 == 0 && decide (n ≤ 1024)) packet (fun s =>
    let band := hdrBand packet.header
    let x := s.pixels.get p
    let r := splitSamples x.confirms (samplesOf band packet.payload)
    let s1 := onPixels p (fun x => { x with
      displaced := satAdd 32 x.displaced (displacedBy x band r.1.length r.2.length) }) s
    let s2 := r.1.foldl (fun s e => probeSample p e s) s1
    r.2.foldl (fun s e => sweepSample p e s) (noteSampled p band (reportEpoch s packet) r.2 s2)) s)

/-- Mode of a confirmation step in a ProbeList entry (R323, R332). -/
def probeMode (step : Nat) : Nat :=
  match step with
  | 0 => 1 | 1 => 2 | _ => 0

/-- Value of a ProbeList entry (R323). -/
def probeEntry (f : Confirm) : Nat :=
  2 ^ 31 + probeMode f.step * 2 ^ 29 + f.pixel % 1024 * 2 ^ 19 + f.pixel / 1024 * 2 ^ 10

/-- Composition of a row has begun in the frame in composition (R332): of its zone row in buffered mode, of its band in
racing mode. -/
def rowBegun (s : State) (p : Port) (r : Nat) : Bool :=
  s.compose.busy
    && (if s.compose.racing then decide (r / 16 ≤ s.compose.band) else decide (r / 128 ≤ s.compose.stagedRows.get p))

/-- The LS writes the entry and opens a window of 4,096 eighths at the first line start at least 4 lines later
(R332). -/
def startStep (p : Port) (f : Confirm) (s : State) : State :=
  let s1 := onPixels p (fun x => { x with confirms := x.confirms.map fun g =>
    if g.entry = f.entry then
      { g with
        started := true
        raised := false
        skip := if rowBegun s p (f.pixel / 1024) then some s.compose.frame else none }
    else g }) s
  ctrl p 7 (probePayload (lineNow s))
    (writeReg p (0x80 + 4 * f.entry) (probeEntry f) s1)

/-- The lowest free entry of the ProbeList (R332). -/
def freeEntry (fs : List Confirm) : Option Nat :=
  (List.range 16).find? fun i => !fs.any fun f => f.entry == i

/-- CONFIRMATION_STEP_START (R332): a step that waits starts, or the oldest candidate begins step A in a free
entry. -/
def execConfirmationStepStart (p : Port) (s : State) : Host.Outcome State Fault Refusal :=
  .next (let x := s.pixels.get p
    if !portServing s p || s.units.ls.get p != .ready then s
    else
      match x.confirms.find? fun f => !f.started with
      | some f => startStep p f s
      | none =>
        match x.candidates, freeEntry x.confirms with
        | i :: rest, some k =>
          let f : Confirm := ⟨k, i, 0, 0, false, false, none⟩
          startStep p f (onPixels p (fun x => { x with candidates := rest, confirms := x.confirms ++ [f] }) s)
        | _, _ => s)

/-! ## TEMP (R210, R219) -/

/-- LaneErrors of a TEMP accumulate (R342), with the runs of non-zero reports (R219). -/
def noteLaneErrors (errors : List Nat) (l : LinkPort) : LinkPort :=
  { l with
    counts := { l.counts with
      laneErrors := (List.range 5).map fun i => satAdd 32 (nth 0 l.counts.laneErrors i) (nth 0 errors i) }
    errorRuns := (List.range 5).map fun i => if nth 0 errors i = 0 then 0 else nth 0 l.errorRuns i + 1 }

/-- The lanes that a TEMP declares failed (R219). -/
def failedByTemp (s : State) (p : Port) (errors : List Nat) : List Nat :=
  (List.range 5).filter fun i =>
    decide (nth 0 errors i ≥ linkCfg s p 0x0C) || decide (nth 0 (s.link.get p).errorRuns i ≥ 4)

/-- The thermal model of a port takes its first TEMP (R311). -/
def firstTemp (p : Port) (temps : List Int) (s : State) : State :=
  if cpReady s && !(modelOf s p).ready then onModel p (initModel temps) s else s

/-- TEMP (R210, R219, R291, R307, R311, R337). -/
def execTemp (p : Port) (packet : RxPacket) (s : State) : Host.Outcome State Fault Refusal :=
  .next (receiveReturn p 0xA (· == 16) packet (fun s =>
    let v := leNat packet.payload
    let band := hdrBand packet.header
    let temps := (List.range 4).map fun q => toSigned 16 (halfOf v q)
    let head := halfOf v 4
    let errors := (List.range 5).map fun i => byteOf v (10 + i)
    let s1 := { s with
      hk := { s.hk with
        tempIn := s.hk.tempIn.set p temps
        tempInAt := s.hk.tempInAt.set p (some (dtNow s))
        overTemp := s.hk.overTemp.set p (bitOf v 120) }
      headroom := s.headroom.modify p fun h => { h with
        lowest := some (match h.lowest with
          | some x => min x head
          | none => head) } }
    let s2 := onLink p (noteLaneErrors errors) (firstTemp p temps s1)
    let s3 := (failedByTemp s2 p errors).foldl (fun s i => laneFailure p i s) s2
    if head < cfg s (0x4300 + p.num) 2 then withdrawReport p band s3 else s3) s)

/-! ## ACK (R211) -/

/-- AckedSequence of an ACK. -/
def ackSequence (packet : RxPacket) : Nat := leNat (packet.payload.take 2)
/-- Status of an ACK. -/
def ackStatus (packet : RxPacket) : Nat := leNat ((packet.payload.drop 2).take 1)
/-- Lane of an ACK. -/
def ackLane (packet : RxPacket) : Nat := leNat ((packet.payload.drop 3).take 1)
/-- Value of an ACK. -/
def ackValue (packet : RxPacket) : Nat := leNat ((packet.payload.drop 4).take 4)

/-- The HOLD is acknowledged (R218): the port holds. -/
def ackHold (p : Port) (s : State) : State :=
  remapHeld p (onLink p (fun l => { l with
    state := if l.state = .service ∨ l.state = .halfRate then .hold else l.state
    counts := { l.counts with holds := count32 l.counts.holds } }) s)

/-- The answer to a CTRL (R211, R214, R215, R218). -/
def answerCtrl (p : Port) (c : Ctrl) (packet : RxPacket) (s : State) : State :=
  let s1 := onLink p (fun l => { l with ctrls := l.ctrls.filter fun x => x.sequence != c.sequence }) s
  if c.opcode = holdOp then ackHold p s1
  else if (s1.link.get p).state = .bringUp then
    (if ackStatus packet ≠ 0 then failBringUp p s1
     else if c.opcode = 5 && (s1.link.get p).step != 7 then s1
     else bringUpAck p (ackValue packet) s1)
  else s1

/-- ACK of a CTRL or a HOLD (R211). -/
def execAck (p : Port) (packet : RxPacket) (s : State) : Host.Outcome State Fault Refusal :=
  .next (receiveReturn p 0xB (· == 8) packet (fun s =>
    match (s.link.get p).ctrls.find? fun c => c.sequence.toNat == ackSequence packet with
    | some c => answerCtrl p c packet s
    | none => s) s)

/-- The packet is an unsolicited ACK of a status (R211). -/
def isUnsolicited (packet : RxPacket) (status : Nat) : Bool :=
  ackSequence packet == 0xFFFF && ackStatus packet == status

/-- LANE_FAIL (R211, R219, R218): the array has lost a lane; a port in hold remaps at once. -/
def execLaneFail (p : Port) (packet : RxPacket) (s : State) : Host.Outcome State Fault Refusal :=
  .next (receiveReturn p 0xB (· == 8) packet (fun s =>
    if isUnsolicited packet 0x10 then laneFailure p (ackLane packet) s else s) s)

/-- HOLD_EXPIRED (R211, R217): the array has ended its hold of 50 ms and is dark until a START. -/
def execHoldExpired (p : Port) (packet : RxPacket) (s : State) : Host.Outcome State Fault Refusal :=
  .next (receiveReturn p 0xB (· == 8) packet (fun s =>
    if isUnsolicited packet 0x11 then onLink p (fun l => { l with expired := true }) s else s) s)

end Sys2Proof.Machine
end

