-- ==== Sys2Proof/Machine/Calibration.lean ====
section
/-!
DEFINITION. Calibration.lean: the calibration queue at a frame boundary (R169), ageing (R170 to R173) and the
full-scale estimate (R174, R175).
-/

namespace Sys2Proof.Machine

open Sys2Proof

/-! ## Queue at a frame boundary (R169) -/

/-- Rows of trims that a port can send in a frame (R169). -/
def trimRowLimit : Nat := 64

/-- Port of a pixel index. -/
def portOfPixel (x : Nat) : Port := Port.ofNum (x / 524288)

/-- Row of a pixel index in its port. -/
def rowOfPixel (x : Nat) : Nat := x % 524288 / 1024

/-- The trim rows taken so far, as port × 512 + row, and the entries taken and left. -/
structure QueueSplit where
  rows : List Nat
  take : List CalUpdate
  keep : List CalUpdate
  deriving DecidableEq, Repr

/-- An entry joins the frame when its trim need not change or its row fits (R169); an entry of a row already being
sent fits. -/
def splitEntry (s : State) (q : QueueSplit) (u : CalUpdate) : QueueSplit :=
  let row := (portOfPixel u.pixel).num * 512 + rowOfPixel u.pixel
  if wordTrim u.word = wordTrim (calWord s u.pixel) ∨ q.rows.contains row then
    { q with take := q.take ++ [u] }
  else if (q.rows.filter fun r => r / 512 == row / 512).length < trimRowLimit then
    { q with rows := q.rows ++ [row], take := q.take ++ [u] }
  else { q with keep := q.keep ++ [u] }

/-- Rows whose trims did not all leave in the frame that ends: they are sent whole in the next (R202). -/
def lateRows (l : LinkPort) : List Nat := (l.trimQueue.map (·.1)).dedup

/-- Rows that an array asked to have sent again and that find a place in the frame (R203). -/
def againRows (l : LinkPort) : List Nat :=
  (l.resend.filter fun r => !(lateRows l).contains r).take (trimRowLimit - (lateRows l).length)

/-- The rows that leave before any new one, as port × 512 + row. -/
def resendRows (s : State) : List Nat :=
  Port.all.flatMap fun p =>
    (lateRows (s.link.get p) ++ againRows (s.link.get p)).map fun r => p.num * 512 + r

/-- The entries queued before a frame boundary go into application (R169); the queue pauses while the CP does not
run (R162). Rows to be sent again are counted (R203). -/
def queueBoundary (s : State) : State :=
  let q0 : QueueSplit := ⟨resendRows s, [], []⟩
  let q := if cpReady s then s.drive.queue.foldl (splitEntry s) q0 else { q0 with keep := s.drive.queue }
  { s with
    drive := { s.drive with queue := q.keep, applying := s.drive.applying ++ q.take }
    link := s.link.map fun p l =>
      let rows := (q.rows.filter fun r => r / 512 == p.num).map (· % 512)
      { l with
        trimRows := rows
        trimQueue := rows.flatMap fun r => (List.range 16).map fun b => (r, b)
        resend := l.resend.filter fun r => !(rows.contains r)
        counts := { l.counts with trimResends := satAdd 32 l.counts.trimResends (againRows l).length } } }

/-- The trim that a pixel's row carries in this frame: of the word in application, else of the map. -/
def trimInFrame (s : State) (p : Port) (c r : Nat) : Nat :=
  let x := pixelIndex p c r
  match s.drive.applying.find? fun u => u.pixel == x with
  | some u => wordTrim u.word
  | none => wordTrim (calWord s x)

/-! ## Gain and trim (R170) -/

/-- The lowest and highest Gain that the CP keeps (R170). -/
def gainLow : Nat := 0x7A0
/-- The highest Gain that the CP keeps (R170). -/
def gainHigh : Nat := 0x860

/-- The Gain that gives a correction of `num / (2,048 × den)` at a trim, rounded (R168, R170). -/
def gainFor (num den trim : Nat) : Nat := roundDivNat (num * 200) (den * (168 + trim))

/-- The split of a required correction of `num / (2,048 × den)`: trim and Gain (R170). The trim moves only when
the Gain would leave its band. -/
def splitCorrection (num den trim : Nat) : Nat × Nat :=
  let g := gainFor num den trim
  if gainLow ≤ g ∧ g ≤ gainHigh then (trim, g)
  else
    let steps := roundDiv (((g : Int) - 2048) * 200) 2048
    let t := (clampInt 0 63 ((trim : Int) + steps)).toNat
    (t, gainFor num den t)

/-! ## Ageing (R171 to R173) -/

/-- The target Age of a pixel from the sum of its dvf in 1/16 µV (R172): AgeSlope in 0.001 %/mV, in steps of
0.25 %. -/
def targetAge (slope : Nat) (a : AgeSum) : Nat :=
  (clampInt 0 255 (roundDiv ((slope : Int) * a.sum) (max 1 (a.count * 16000 * 250)))).toNat

/-- The word of a pixel at an age: the correction of R172 split by R170, its Gain at most 0xFFF (R173); and
whether the correction cannot be met. -/
def agedWord (w : BitVec 32) (correction age : Nat) : BitVec 32 × Bool :=
  let x := splitCorrection (correction * 400) (400 - age) (wordTrim w)
  (makeWord (min x.2 0xFFF) x.1 age (wordExcluded w) (wordBoost w), decide (x.2 > 0xFFF))

/-- The end of an averaging period for one pixel (R172, R173): Age moves by at most one step up. -/
def agePixel (s : State) (a : AgeSum) : State :=
  let p := portOfPixel a.pixel
  let w := latestWord s a.pixel
  let target := targetAge (cfg s (0x4200 + p.num) 1) a
  if target ≤ wordAge w then s
  else
    let age := wordAge w + 1
    let r := agedWord w (masterOf s a.pixel).correction age
    let s1 := { queueWord a.pixel r.1 s with
      drive := { (queueWord a.pixel r.1 s).drive with
        ageUpdated := s.drive.ageUpdated.modify p count32 } }
    if age ≥ cfg s (0x4200 + p.num) 3 ∨ r.2 then markWeak p (a.pixel % 524288) s1 else s1

/-- AGE_AVERAGING_PERIOD (R171 to R173): 64 sweeps are averaged, and the next average begins. It pauses while the
CP does not run (R162) and in Toll state 3 (R321). -/
def execAgeAveragingPeriod (s : State) : Host.Outcome State Fault Refusal :=
  .next (if cpReady s && decide (s.toll.state ≤ 2) then
    let s1 := s.drive.ages.foldl agePixel s
    { s1 with drive := { s1.drive with ages := [] } }
  else s)

/-- The master record takes the Age, trim and Gain now in force of every pixel whose Age has changed (R173); exclusion and
boost follow its status (R329, R336). -/
def writebackAges (s : State) : State :=
  s.drive.calMap.foldl (fun s e =>
    let m := masterOf s e.1
    if wordAge e.2 = wordAge m.word then s
    else putMaster { m with
      word := makeWord (wordGain e.2) (wordTrim e.2) (wordAge e.2) (wordExcluded m.word) (wordBoost m.word) } s) s

/-- AGE_WRITEBACK (R173): every 8 h of Run, the CP writes changed Age values back, at Toll state 2 or less
(R321). -/
def execAgeWriteback (s : State) : Host.Outcome State Fault Refusal :=
  .next (if cpReady s && decide (s.toll.state ≤ 2) then writebackAges s else s)

/-! ## Full scale (R174, R175) -/

/-- Applies `f` to a port's full-scale estimation. -/
def onFullScale (p : Port) (f : FullScale → FullScale) (s : State) : State :=
  { s with drive := { s.drive with fullScale := s.drive.fullScale.modify p f } }

/-- The window of a port begins anew. -/
def clearWindow (f : FullScale) : FullScale :=
  { f with samples := [], rounds := 0, sumE := 0, sumY := 0, sumEE := 0, sumEY := 0, minE := 0, maxE := 0 }

/-- Σ code × duty sum over the zones of a port in the frame being scanned (R174), composed or of the safe beam. -/
def codeSums (s : State) (p : Port) (safe : Bool) : Nat :=
  let z := s.compose.zones.get p
  sumOf ((List.range 32).map fun k =>
    if safe then safeCode s p k * safeZoneSum s p k
    else nth 0 z.scanning k * nth 0 (ofFrame 0 1 z s.scan.epoch z.dutySums z.prevSums) k)

/-- A sample y and its expected current e join the window of a port (R174). -/
def addSample (y : Int) (e : Nat) (f : FullScale) : FullScale :=
  { f with
    rounds := f.rounds + 1
    sumE := f.sumE + e, sumY := f.sumY + y
    sumEE := f.sumEE + (e : Int) * e, sumEY := f.sumEY + (e : Int) * y
    minE := if f.rounds = 0 then e else min f.minE e
    maxE := max f.maxE e }

/-- The samples of a port's frame, which has been scanned, are paired with its expected current (R174). -/
def pairSamples (p : Port) (s : State) : State :=
  let f := s.drive.fullScale.get p
  if f.samples.isEmpty then s
  else
    let e := fun safe => cfg s (0x4010 + p.num) 2 * 100 * codeSums s p safe
    onFullScale p (fun f => { f.samples.reverse.foldl (fun f x => addSample x.1 (e x.2) f) f with samples := [] }) s

/-- The spread of e over the window is less than 10 % of its mean (R174). -/
def spreadTooSmall (f : FullScale) : Bool :=
  decide (((f.maxE - f.minE : Nat) : Int) * 10 * f.rounds < f.sumE)

/-- k of the window in u1.15, the slope of the least-squares fit y = k·e + q (R174), rounded and held in 16 bits;
none where e does not spread. -/
def fitK (f : FullScale) : Option Nat :=
  let n : Int := f.rounds
  let den := n * f.sumEE - f.sumE * f.sumE
  let num := n * f.sumEY - f.sumE * f.sumY
  if spreadTooSmall f ∨ den ≤ 0 then none
  else some (clampInt 0 65535 (roundDiv (num * 32768) den.toNat)).toNat

/-- k lies within 0.90 to 1.10 (R175). -/
def kGood (k : Nat) : Bool := decide (9 * 32768 ≤ 10 * k) && decide (10 * k ≤ 11 * 32768)

/-- FullScaleCorrection moves toward 0x8000 / k by at most 0x0020, within 0x6666 to 0xA000 (R175). -/
def moveCorrection (old k : Nat) : Nat :=
  let target := roundDivNat (0x8000 * 0x8000) (max 1 k)
  let near := if target > old then min target (old + 0x20) else max target (old - 0x20)
  max 0x6666 (min 0xA000 near)

/-- The step table of a port is built again (R156, R157): it takes over at the next frame. -/
def rebuildSteps (p : Port) (s : State) : State :=
  onZones p (fun z => { z with stepsNext := stepsOf (curveOf s p) (correctionOf s p) }) s

/-- The CP journals a correction that has changed (R183). -/
def journalCorrection (p : Port) (old : Nat) (s : State) : State :=
  if correctionOf s p = old then s
  else enqueueWrite ⟨0x4010 + p.num, 5, 1, 2, correctionOf s p, none⟩ s

/-- An estimate k (R174, R175): published; inside its band it moves the correction and clears a divergence, outside
it freezes the correction and raises kind 0x42, which the CP handles at the next frame boundary (R362). -/
def takeEstimate (p : Port) (k : Nat) (s : State) : State :=
  let s1 := onFullScale p (fun f => { f with estimate := k }) s
  if kGood k then
    let s2 := journalCorrection p (correctionOf s p) (rebuildSteps p (onFullScale p (fun f => { f with
      frozen := false, correction := moveCorrection f.correction k }) s1))
    if Port.all.any fun q => (s2.drive.fullScale.get q).frozen then s2 else clearCondition 0x42 0x1C s2
  else onFullScale p (fun f => { f with frozen := true }) (raiseKind 0x42 { port := p.num } s1)

/-- FULL_SCALE_ESTIMATE (R174, R175): 4,096 rounds of samples are in. It pauses while the CP does not run (R162) and
above Toll state 1 (R321). -/
def execFullScaleEstimate (p : Port) (s : State) : Host.Outcome State Fault Refusal :=
  .next (let f := s.drive.fullScale.get p
    if cpReady s && decide (s.toll.state ≤ 1) && decide (f.rounds ≥ 4096) then
      let s1 := onFullScale p clearWindow s
      match fitK f with
      | some k => takeEstimate p k s1
      | none => s1
    else s)

end Sys2Proof.Machine
end

