-- ==== Sys2Proof/Machine/Sinks.lean ====
section
/-!
DEFINITION. Sinks.lean: the auxiliary sink channels (R397 to R414).
-/

namespace Sys2Proof.Machine

open Sys2Proof

/-! ## Reading -/

/-- A sink channel. -/
def sinkOf (s : State) (c : Nat) : Sink := nth {} s.sinks.channels c

/-- A sink group. -/
def sinkGroup (s : State) (g : Nat) : SinkGroup := nth {} s.sinks.groups g

/-- Applies `f` to a channel. -/
def onSink (c : Nat) (f : Sink → Sink) (s : State) : State :=
  { s with sinks := { s.sinks with channels := modifyAt f c s.sinks.channels } }

/-- Applies `f` to a group. -/
def onGroup (g : Nat) (f : SinkGroup → SinkGroup) (s : State) : State :=
  { s with sinks := { s.sinks with groups := modifyAt f g s.sinks.groups } }

/-- The channel belongs to a pair that is short to its neighbour (R409). -/
def inShortPair (s : State) (c : Nat) : Bool :=
  (sinkOf s c).pairShort || (c % 12 != 0 && (sinkOf s (c - 1)).pairShort)

/-- The stored status of a channel, the off state first (R411). -/
def heldStatus (s : State) (c : Nat) : Nat :=
  if (sinkOf s c).status ≠ 0 then (sinkOf s c).status else if inShortPair s c then 3 else 0

/-- The channel reads untested (R411). -/
def isUntested (s : State) (c : Nat) : Bool :=
  let x := sinkOf s c
  heldStatus s c == 0 && (decide (x.noProbe ≥ 256) || (x.enable && decide (x.noTest ≥ 256)))

/-- ChannelStatus (R411). -/
def channelStatus (s : State) (c : Nat) : Nat :=
  if (sinkGroup s (groupOf c)).off then 5 else if isUntested s c then 4 else heldStatus s c

/-- GroupThermalState (R415): a group that is off under a latched kind reads latched. -/
def groupThermalState (s : State) (g : Nat) : Nat :=
  if !(sinkGroup s g).off then 0 else if isLatched s 0x48 then 2 else 1

/-- A mask of the channels for which `f` holds. -/
def channelMask (f : Nat → Bool) : Nat := packLe 1 ((List.range 48).map fun c => ofBool (f c))

/-! ## PWM (R398 to R401) -/

/-- The current of a reference and a code in nA (R398), rounded half up. -/
def currentOf (ref code : Nat) : Nat := roundDivNat (150000000 * (ref + 1) * code) (64 * 255)

/-- Sink current of a channel while on, in nA (R398), from its first off-tick of the period on (R399). -/
def sinkCurrent (s : State) (c : Nat) : Nat := currentOf (sinkGroup s (groupOf c)).reference (sinkOf s c).code

/-- A sink is driven: its group is on and has passed a period boundary since its restart, it is enabled, and its status does
not keep it off (R408, R409, R413). -/
def isDriven (s : State) (c : Nat) : Bool :=
  isOn s .aux && !(sinkGroup s (groupOf c)).off && !(sinkGroup s (groupOf c)).resuming
    && (sinkOf s c).enable && (sinkOf s c).status != 2
    && !(heldStatus s c == 3 && cfg s (0x5100 + c) 4 == 1)

/-- Reversal of four bits (R401). -/
def reverse4 (x : Nat) : Nat := x % 2 * 8 + x / 2 % 2 * 4 + x / 4 % 2 * 2 + x / 8 % 2

/-- On-ticks of segment `k` of a channel (R401). -/
def segmentTicks (c duty k : Nat) : Nat :=
  duty / 16 + ofBool (decide (reverse4 ((k + c % 16) % 16) < duty % 16))

/-- Tick `t` of segment `k` is an on-tick of a channel (R401). -/
def isOnTick (c duty k t : Nat) : Bool :=
  decide ((t + 256 - 16 * (c % 12)) % 256 < segmentTicks c duty k)

/-- `ticks` ticks of a divider last at least `tenths` × 0.1 µs: a tick is divider / 78.6432 MHz (R400). -/
def lasts (ticks divider tenths : Nat) : Bool := decide (ticks * divider * 100000 ≥ tenths * 786432)

/-- The duty of a channel gives an on-run of at least 300 ns (R404). -/
def longRun (s : State) (c : Nat) : Bool :=
  let d := (sinkOf s c).duty
  lasts (d / 16 + ofBool (d % 16 != 0)) (sinkGroup s (groupOf c)).divider 3

/-- The channel has an on-run of at least 300 ns (R404). -/
def hasOnRun (s : State) (c : Nat) : Bool := isDriven s c && longRun s c

/-- The channel has an off-run of at least 3 µs in a period (R407). -/
def hasOffRun (s : State) (c : Nat) : Bool :=
  !isDriven s c || lasts (256 - (sinkOf s c).duty / 16) (sinkGroup s (groupOf c)).divider 30

/-! ## Settings (R399, R402, R403) -/

/-- The option defaults govern: before the CP's restore, and in a safe state with AuxOnSafeState 0x01. -/
def onOptionDefaults (s : State) : Bool :=
  !s.sinks.restored || (s.faults.safeState != .none && cfg s 0x5000 1 == 1)

/-- Settings of a channel that take effect at a period boundary: enable, code, duty. -/
def channelSettings (s : State) (c : Nat) : Bool × Nat × Nat :=
  if onOptionDefaults s then
    let o := optionGroup s (groupOf c)
    (bitOf s.power.options.auxEnable c, o.2.1, o.2.2.1)
  else (cfg s (0x5100 + c) 1 == 1, cfg s (0x5100 + c) 2, cfg s (0x5100 + c) 3)

/-- Settings of a group that take effect at a period boundary: reference and divider. -/
def groupSettings (s : State) (g : Nat) : Nat × Nat :=
  if onOptionDefaults s then ((optionGroup s g).1, (optionGroup s g).2.2.2)
  else (cfg s (0x5010 + g) 1, cfg s (0x5010 + g) 2)

/-- The settings of a channel come into force, its code from the first off-tick on (R399); a channel kept off by a short takes
its code at its retry (R414). -/
def applyChannel (ref : Nat) (x : Bool × Nat × Nat) (k : Sink) : Sink :=
  { k with
    enable := x.1, code := if k.status = 2 then k.code else x.2.1, duty := x.2.2
    oldCode := k.code, oldRef := ref }

/-- A channel is on at tick `t` of a period (R400, R401). -/
def isOnAt (s : State) (c t : Nat) : Bool := isDriven s c && isOnTick c (sinkOf s c).duty (t / 256) (t % 256)

/-- The first off-tick of a period has come by tick `t` (R399): from there on the new code, reference and trim are in force. -/
def offPhase (s : State) (c t : Nat) : Bool := (List.range (t + 1)).any fun k => !isOnAt s c k

/-- Sink current of a channel at tick `t` of the period, in nA (R398, R399); none while it is off. -/
def sinkCurrentAt (s : State) (c t : Nat) : Option Nat :=
  if !isOnAt s c t then none
  else if offPhase s c t then some (sinkCurrent s c)
  else some (currentOf (sinkOf s c).oldRef (sinkOf s c).oldCode)

/-- The DAC trim of a channel at tick `t` of the period (R398, R399), none for the factory trim. -/
def sinkTrimAt (s : State) (c t : Nat) : Option Int :=
  if offPhase s c t then (sinkOf s c).trim else (sinkOf s c).oldTrim

/-- The longest run of ticks below `n` for which `f` holds, with the length of the run that `n` ends. -/
def longestTicks (f : Nat → Bool) : Nat → Nat × Nat
  | 0 => (0, 0)
  | n + 1 =>
    let r := longestTicks f n
    let k := if f n then r.2 + 1 else 0
    (max r.1 k, k)

/-- The pair of a channel and the next can be tested in a period (R409): both lie in one group, neither is open, and for
1 µs one is on and the other off. -/
def pairPossible (s : State) (c : Nat) : Bool :=
  c % 12 != 11 && (sinkOf s c).status != 1 && (sinkOf s (c + 1)).status != 1
    && (isDriven s c || isDriven s (c + 1))
    && lasts (longestTicks (fun t => isOnAt s c t != isOnAt s (c + 1) t) 4096).1 (sinkGroup s (groupOf c)).divider 10

/-- A channel has a pair that can be tested (R411). -/
def hasTest (s : State) (c : Nat) : Bool := pairPossible s c || (c % 12 != 0 && pairPossible s (c - 1))

/-- The periods since something last fell due, and whether it is due, after one more period (R407, R409). -/
def fallDue (interval n : Nat) (due : Bool) : Nat × Bool :=
  if n + 1 ≥ interval then (0, true) else (n + 1, due)

/-- The counters of a channel at the end of a period of the state `s` (R404, R407, R409, R411): probe and test fall due every
AuxProbeInterval periods, and a probe that found no off-run moves to the next period and counts as skipped. -/
def countPeriod (s : State) (c : Nat) (k : Sink) : Sink :=
  let probe := fallDue (cfg s 0x5000 3) k.sinceProbe k.probeDue
  let test := fallDue (cfg s 0x5000 3) k.sinceTest k.testDue
  { k with
    ran := k.ran || hasOnRun s c
    noProbe := if k.probed then 0 else k.noProbe + 1
    probed := false
    noTest := if k.enable && !hasTest s c then k.noTest + 1 else 0
    skips := if k.probeDue && !hasOffRun s c then count32 k.skips else k.skips
    sinceProbe := probe.1, probeDue := probe.2, sinceTest := test.1, testDue := test.2 }

/-- The channels of a group. -/
def groupChannels (g : Nat) : List Nat := (List.range 12).map (12 * g + ·)

/-- The background calibration has corrected a channel's DAC trim by read-back: the spec gives no value, which is free
within the range of the trim (R176, R415, log 37). -/
def recalibrate (s : State) (c : Nat) : State :=
  let d := drawFree s
  onSink c (fun k => { k with oldTrim := k.trim, trim := some ((d.1 % 16 : Nat) - 8) }) d.2

/-- The settings of a group come into force (R399, R402, R413). -/
def applyGroup (group : Nat) (s : State) : State :=
  onGroup group (fun g => { g with
      reference := (groupSettings s group).1, divider := (groupSettings s group).2, resuming := false })
    ((groupChannels group).foldl (fun t c =>
      onSink c (applyChannel (sinkGroup s group).reference (channelSettings s c)) t) s)

/-- SINK_PERIOD_BOUNDARY (R176, R399, R402, R403, R407, R413): the period that ends is counted, and written settings and
corrected trims take effect. A group that is off stores them. -/
def execSinkPeriodBoundary (group : Nat) (s : State) : Host.Outcome State Fault Refusal :=
  .next (if !isOn s .aux || decide (group ≥ 4) || (sinkGroup s group).off then s
    else
      applyGroup group ((groupChannels group).foldl (fun t c => onSink c (countPeriod s c) t)
        ((groupChannels group).foldl recalibrate
          { s with sinks := { s.sinks with applied := s.sinks.applied || s.sinks.restored } })))

/-! ## Detection (R407 to R409) -/

/-- The channel's group is powered and not shut down. -/
def sinkAlive (s : State) (c : Nat) : Bool :=
  isOn s .aux && decide (c < 48) && !(sinkGroup s (groupOf c)).off

/-- A probe is made (R407, R412, R414): it is due, and the period has an off-run of 3 µs. -/
def probeable (s : State) (c : Nat) : Bool := sinkAlive s c && (sinkOf s c).probeDue && hasOffRun s c

/-- SINK_OPEN_PROBE (R407): the pin in mV is compared; the second open in a row sets status open, the second good
probe in a row clears it. -/
def execSinkOpenProbe (channel pin : Nat) (s : State) : Host.Outcome State Fault Refusal :=
  .next (if !probeable s channel then s
    else
      let x := sinkOf s channel
      if pin < cfg s 0x5000 5 then
        let s1 := onSink channel (fun k => { k with
          noProbe := 0, probed := true, probeDue := false, goods := 0, opens := k.opens + 1
          status := if k.status = 0 ∧ k.opens ≥ 1 then 1 else k.status }) s
        if x.status = 0 ∧ x.opens ≥ 1 then raiseKind 0x45 { address := channel } s1 else s1
      else onSink channel (fun k => { k with
        noProbe := 0, probed := true, probeDue := false, opens := 0, goods := k.goods + 1
        status := if k.status = 1 ∧ k.goods ≥ 1 then 0 else k.status }) s)

/-- The comparator of a channel trips at a pin voltage in mV: above AuxShortLevel, in an on-run of 300 ns (R408, R412). -/
def shortTrips (s : State) (c pin : Nat) : Bool := longRun s c && decide (pin > cfg s 0x5000 4)

/-- SINK_SHORT_TRIP (R408, R412): the comparator of a driven channel has seen the pin voltage; above the level the sink is
switched off. -/
def execSinkShortTrip (trip : SinkTrip) (s : State) : Host.Outcome State Fault Refusal :=
  .next (if sinkAlive s trip.channel && isDriven s trip.channel && shortTrips s trip.channel trip.pin then
    raiseKind 0x46 { address := trip.channel } (onSink trip.channel (fun k => { k with status := 2 }) s)
  else s)

/-- A retry of a channel kept off by a short, with the pin voltage in mV that its comparator sees (R408, R414): its code takes
effect, and without a trip it returns to service. -/
def retrySink (channel pin : Nat) (s : State) : State :=
  if sinkAlive s channel && (sinkOf s channel).status == 2 then
    onSink channel (fun k => { k with
      code := (channelSettings s channel).2.1, status := if shortTrips s channel pin then 2 else 0 }) s
  else s

/-- SINK_SHORT_RETRY (R408): one period of drive once every 1 s. -/
def execSinkShortRetry (channel pin : Nat) (s : State) : Host.Outcome State Fault Refusal :=
  .next (retrySink channel pin s)

/-- The test of a pair is made (R409): it is due and possible. -/
def pairTestable (s : State) (c : Nat) : Bool := sinkAlive s c && (sinkOf s c).testDue && pairPossible s c

/-- SINK_NEIGHBOUR_TEST (R409): the pin of the off channel of the pair, in mV. -/
def execSinkNeighbourTest (channel pin : Nat) (s : State) : Host.Outcome State Fault Refusal :=
  .next (if !pairTestable s channel then s
    else
      let x := sinkOf s channel
      let short := decide (pin < cfg s 0x5000 6)
      let s1 := onSink channel (fun k => { k with
        testDue := false
        nShorts := if short then k.nShorts + 1 else 0
        nCleans := if short then 0 else k.nCleans + 1
        pairShort := if short then k.pairShort || decide (k.nShorts ≥ 1) else k.pairShort && k.nCleans == 0 }) s
      if short && !x.pairShort && decide (x.nShorts ≥ 1) then raiseKind 0x47 { address := channel } s1 else s1)

/-! ## Headroom (R404, R405) -/

/-- The channel that a group converts in a round (R293). -/
def senseChannel (s : State) (g : Nat) : Nat := 12 * g + s.hk.round % 12

/-- The lowest reading of the cycle with a further one, which counts of a channel that is enabled with a duty of 1 or
more (R405). -/
def joinReading (k : Sink) (mv : Nat) (lowest : Option Nat) : Option Nat :=
  if k.enable && decide (k.duty ≥ 1) then some (min mv (lowest.getD mv)) else lowest

/-- What the headroom loop of a group that is on does with a reading (R405): it joins the cycle, and a low one acts at once,
with no increase at the end of this cycle and of the next four. -/
def loopReading (k : Sink) (mv target : Nat) (g : SinkGroup) : SinkGroup :=
  let low := decide (mv + 100 < target)
  if g.off then g
  else { g with
    lowest := joinReading k mv g.lowest
    hrctl := if low then g.hrctl - 16 else g.hrctl
    noRise := if low then 5 else g.noRise
    lowCount := if low then count32 g.lowCount else g.lowCount }

/-- The conversion of what a channel's pin holds, in mV, which stands at 65,535 above its range (R9, R404, R405): with an
on-run since the last one a reading, published and handed to the loop; the hold is reset. -/
def senseSink (c reading : Nat) (s : State) : State :=
  if !isOn s .aux || decide (48 ≤ c) || !((sinkOf s c).ran || hasOnRun s c) then s
  else
    let mv := min reading 0xFFFF
    onGroup (groupOf c) (loopReading (sinkOf s c) mv (cfg s 0x5000 2))
      (onSink c (fun k => { k with pin := mv, ran := false }) s)

/-- The current that HRCTLg sources, in nA (R405): none at high impedance, while AUX is unpowered and in a group shutdown. -/
def hrctlOutput (s : State) (g : Nat) : Option Nat :=
  if isOn s .aux && !(sinkGroup s g).off then some ((sinkGroup s g).hrctl * 400) else none

/-- The code after a cycle with the lowest reading `h` (R405). -/
def cycleCode (t limit h : Nat) (g : SinkGroup) : Nat :=
  if h + 100 < t then g.hrctl
  else if h < t then g.hrctl - 2
  else if h ≤ t + 200 ∨ g.noRise > 0 then g.hrctl
  else min limit (g.hrctl + 1)

/-- SINK_HEADROOM_CYCLE_END (R405). -/
def execSinkHeadroomCycleEnd (group : Nat) (s : State) : Host.Outcome State Fault Refusal :=
  .next (if isOn s .aux && decide (group < 4) && !(sinkGroup s group).off then
    onGroup group (fun g => { g with
      hrctl := match g.lowest with
        | some h => cycleCode (cfg s 0x5000 2) (cfg s (0x5010 + group) 7) h g
        | none => g.hrctl
      headroom := g.lowest.getD g.headroom
      noRise := g.noRise - 1
      lowest := none }) s
  else s)

/-! ## Group shutdown (R413) -/

/-- What stays of the sinks while AUX is off: a group's shutdown goes on through the shutdown of a die and while its kind
is latched (R413, R414). -/
def heldSinks (s : State) : Sinks :=
  if isLatched s 0x48 || s.aon.ldShutdown || s.aon.adShutdown then
    { groups := s.sinks.groups.map fun g => { off := g.off, hot := g.hot, cool := g.cool } }
  else {}

/-- SINK_GROUP_SHUTDOWN (R413): the guarding sensor has been at its level in two rounds. -/
def execSinkGroupShutdown (group : Nat) (s : State) : Host.Outcome State Fault Refusal :=
  .next (if isOn s .aux && decide (group < 4) && !(sinkGroup s group).off && decide ((sinkGroup s group).hot ≥ 2)
    then raiseKind 0x48 { address := group, counter := count32 (sinkGroup s group).shutdowns } (onGroup group (fun g => { g with
      off := true, resuming := false, hrctl := 0, lowest := none, noRise := 0, shutdowns := count32 g.shutdowns }) s)
    else s)

/-- A group restarts (R413): its channels resume at the next period boundary, with the settings stored meanwhile (R414). -/
def resumeGroup (group : Nat) (s : State) : State :=
  onGroup group (fun g => { g with off := false, resuming := true, cool := 0, hot := 0 }) s

/-- Another group is shut down. -/
def otherGroupOff (s : State) (group : Nat) : Bool :=
  (List.range 4).any fun g => g != group && (sinkGroup s g).off

/-- The recovery of a group (R364, R365, R413): counted, and the kind exits with the last group; the eighth within
600 s latches it. -/
def recoverGroup (group : Nat) (s : State) : State :=
  let r := recoveryOf s 0x48
  if isEighthRecovery (nowUs s) r.times then markAbsent 0x48 0x1A (recoverKind 0x48 0x1A s)
  else
    let s1 := resumeGroup group s
    if otherGroupOff s group then
      putRecovery { r with count := satAdd 16 r.count 1, times := pushRecovery (nowUs s) r.times } s1
    else recoverKind 0x48 0x1A s1

/-- SINK_GROUP_RESTART (R413): the guarding sensor has been at its restart level in two rounds. A latched group
stays off; after its latch is cleared it restarts without a further recovery. -/
def execSinkGroupRestart (group : Nat) (s : State) : Host.Outcome State Fault Refusal :=
  .next (if isOn s .aux && decide (group < 4) && (sinkGroup s group).off && decide ((sinkGroup s group).cool ≥ 2)
      && !isLatched s 0x48 then
    (if isActive s 0x48 0x1A then recoverGroup group s
     else resumeGroup group s)
  else s)

end Sys2Proof.Machine
end

