-- ==== Sys2Proof/Machine/Housekeeping.lean ====
section
/-!
DEFINITION. Housekeeping.lean: the housekeeping round (R293 to R296, R519), the sensors (R297, R298), the
thresholds (R300 to R302, R307), the throttle (R308), the supply of the ports (R177, R178, R181) and the
samples of the full-scale estimate (R174).
-/

namespace Sys2Proof.Machine

open Sys2Proof

/-! ## Conversions (R294, R519) -/

/-- A raw code scaled by the ground and band-gap codes of the previous round; equal codes leave it open
(R294, R519). -/
def corrected (s : State) (full : Int) (raw : Nat) : Int :=
  let span : Int := (s.hk.bgPrev : Int) - s.hk.gndPrev
  if span = 0 then Config.adcUnstated raw s.hk.gndPrev else roundQuot (((raw : Int) - s.hk.gndPrev) * full) span

/-- The input voltage v in µV (R294). -/
def inputMicrovolts (s : State) (raw : Nat) : Int := corrected s 1200000 raw

/-- The corrected code c (R519). -/
def correctedCode (s : State) (raw : Nat) : Nat := (clampInt 0 4095 (corrected s 3072 raw)).toNat

/-- Applies `f` to the housekeeping state. -/
def onHk (f : Housekeeping → Housekeeping) (s : State) : State := { s with hk := f s.hk }

/-- The corrected code of a channel is kept. -/
def noteCode (channel raw : Nat) (s : State) : State :=
  onHk (fun h => { h with codes := tablePut 0 channel (correctedCode s raw) h.codes }) s

/-! ## Diverse reference (R296) -/

/-- Slot 2: more than 12.0 mV from 1.200 V counts; agreement lets the quiet period of kind 0x36 run. -/
def slotReference (raw : Nat) (s : State) : State :=
  if (inputMicrovolts s raw - 1200000).natAbs > 12000 then
    markPresent 0x36 0x14 (onHk (fun h => { h with refBad := h.refBad + 1 }) s)
  else clearCondition 0x36 0x14 (onHk (fun h => { h with refBad := 0 }) s)

/-- REFERENCE_DISAGREEMENT (R296): in two consecutive rounds. -/
def execReferenceDisagreement (s : State) : Host.Outcome State Fault Refusal :=
  .next (if s.hk.refBad ≥ 2 then raiseKind 0x36 {} s else s)

/-! ## Supplies (R432, R433) -/

/-- The supply that a slot converts, and its divider (R293, R519). -/
def slotSupply (slot : Nat) : Nat × Nat :=
  match slot with
  | 7 => (0, 3) | 8 => (1, 1) | 9 => (3, 1) | 10 => (2, 2) | 11 => (4, 1) | _ => (5, 1)

/-- Warning limits of a supply in mV (R432). -/
def warningLimits (k : Nat) : Nat × Nat :=
  match k with
  | 0 => (3050, 3550) | 1 => (768, 832) | 2 => (1710, 1890) | 3 => (864, 936) | 4 => (1056, 1144)
  | _ => (570, 630)

/-- A supply's record. -/
def supplyOf (s : State) (k : Nat) : SupplyState := nth {} s.power.supplies k

/-- Applies `f` to a supply. -/
def onSupply (k : Nat) (f : SupplyState → SupplyState) (s : State) : State :=
  { s with power := { s.power with supplies := modifyAt f k s.power.supplies } }

/-- The condition of kind 0x38 is present: a supply that forces domains off is out of its window or beyond its
warning limits since (R433). -/
def supplyHolds (s : State) : Bool :=
  (List.range 4).any fun k => (supplyOf s k).outside && decide ((supplyOf s k).inside = 0)

/-- A supply voltage in µV is judged against its warning limits (R432, R433): two rounds inside end its warning, and
kind 0x37 with the last one. -/
def judgeSupply (k : Nat) (uv : Int) (s : State) : State :=
  let lim := warningLimits k
  if uv < (lim.1 * 1000 : Nat) ∨ uv > (lim.2 * 1000 : Nat) then
    let s1 := onSupply k (fun x => { x with
      inside := 0, beyond := x.beyond + 1, low := decide (uv < (lim.1 * 1000 : Nat)) }) s
    if supplyHolds s1 then markPresent 0x38 0x15 s1 else s1
  else
    let s1 := onSupply k (fun x => { x with
      inside := x.inside + 1, beyond := 0, low := false
      warning := x.warning && decide (x.inside + 1 < 2) }) s
    let s2 := if s1.power.supplies.any (·.warning) then s1 else clearCondition 0x37 0x15 s1
    if supplyHolds s2 then s2 else markAbsent 0x38 0x15 s2

/-! ## Full-scale samples (R174) -/

/-- A sample y of PORTx_IMON is taken in the frame being scanned (R174, R321), in nA / (255 × 4,095). -/
def slotImon (p : Port) (raw : Nat) (s : State) : State :=
  let scale := cfg s (0x4010 + p.num) 6
  if scale = 0 then s
  else if !cpReady s || decide (s.toll.state > 1) then onFullScale p clearWindow s
  else if !s.scan.running then s
  else
    let y : Int := inputMicrovolts s raw * (scale * 255 * 4095 : Nat)
    onFullScale p (fun f => { f with samples := (y, (s.link.get p).safeContent) :: f.samples }) s

/-! ## Port supply (R177, R178, R181) -/

/-- Object of the headroom record of a port (R183). -/
def headroomCfg (s : State) (p : Port) (sub : Nat) : Nat := cfg s (0x4300 + p.num) sub

/-- The port is disabled or in a thermal shutdown, so that its loop begins anew (R177). -/
def loopHalted (s : State) (p : Port) : Bool :=
  s.nvm.disabled.get p != 0 || thermalOf s (.array p) == .shutdown || s.aon.ldShutdown || s.aon.adShutdown

/-- The code after a report of `h` mV (R178). -/
def headroomCode (s : State) (p : Port) (h code : Nat) (mayFall : Bool) : Nat :=
  let target := headroomCfg s p 1
  let next :=
    if h < headroomCfg s p 2 then code + 16
    else if h < target then code + 2
    else if h > target + 100 && mayFall then code - 1
    else code
  max (headroomCfg s p 4) (min (headroomCfg s p 5) next)

/-- The loop of a port starts from VsetSafe; where that is high impedance, the code from which its first step
counts is free (log 54). -/
def startCode (p : Port) (s : State) : Nat × State :=
  if vsetCode s p = 0xFFFF then
    let d := drawFree s
    (d.1 % 1024, d.2)
  else (vsetCode s p, s)

/-- A headroom below its limit counts and raises kind 0x1A once a frame (R178). -/
def noteLow (p : Port) (s : State) : State :=
  let first := !(s.headroom.get p).lowFrame
  let s1 := { s with headroom := s.headroom.modify p fun h => { h with
    lowCount := count32 h.lowCount, lowFrame := true } }
  if first then raiseKind 0x1A { port := p.num } s1 else s1

/-- Kind "port supply insufficient" of a port (R358). -/
def supplyKind (p : Port) : Nat := 0x1F + p.num

/-- The loop of a port in slot 27 (R177, R178). -/
def slotHeadroom (p : Port) (s : State) : State :=
  let h := s.headroom.get p
  if loopHalted s p then
    { s with headroom := s.headroom.set p { h with lowest := none, started := false, lowRounds := 0 } }
  else
    match h.lowest with
    | none => { s with headroom := s.headroom.set p { h with
        sinceDown := h.sinceDown + 1, noDown := h.noDown - 1 } }
    | some low =>
      let c := startCode p s
      let mayFall := decide (h.sinceDown ≥ 7) && decide (h.noDown = 0)
      let code := headroomCode s p low c.1 mayFall
      let bad := decide (low < headroomCfg s p 2)
      let atMax := decide (c.1 = headroomCfg s p 5)
      let s1 := { c.2 with headroom := c.2.headroom.set p { h with
        code := code, lowest := none, reported := low, started := true
        sinceDown := if code < c.1 then 0 else h.sinceDown + 1
        noDown := h.noDown - 1
        lowRounds := if bad && atMax then h.lowRounds + 1 else 0 } }
      if bad then markPresent (supplyKind p) (0x0A + p.num) (noteLow p s1)
      else clearCondition (supplyKind p) (0x0A + p.num) s1

/-- PORT_SUPPLY_INSUFFICIENT (R181): eight rounds below HeadroomMin at VsetMax. -/
def execPortSupplyInsufficient (p : Port) (s : State) : Host.Outcome State Fault Refusal :=
  .next (if (s.headroom.get p).lowRounds ≥ 8 then raiseKind (supplyKind p) { port := p.num } s else s)

/-! ## Cross-check (R291, R297, R298) -/

/-- Neighbours of a sensor, LD0 to LD7 as 0 to 7, AD0 to AD3 as 8 to 11 (R291). -/
def sensorNeighbours (k : Nat) : List Nat :=
  match k with
  | 0 => [1, 3, 7] | 1 => [0, 2, 3] | 2 => [1, 4, 7] | 3 => [0, 1, 6] | 4 => [2, 5, 7] | 5 => [4, 6, 7]
  | 6 => [3, 5, 7] | 7 => [2, 5, 6] | 8 => [9, 10, 11] | 9 => [8, 10, 11] | 10 => [8, 9, 11] | _ => [8, 9, 10]

/-- The sensor is disqualified (R297). -/
def isDisqualified (s : State) (k : Nat) : Bool := s.hk.disqualified.getLsbD k

/-- The sensors of the die of sensor `k`. -/
def dieSensors (k : Nat) : List Nat := if k < 8 then List.range 8 else [8, 9, 10, 11]

/-- The highest of temperatures; the lowest one possible for none. -/
def highest (xs : List Int) : Int := xs.foldl max (-32768)

/-- The qualified neighbours of a sensor (R297). -/
def qualifiedNeighbours (s : State) (k : Nat) : List Nat := (sensorNeighbours k).filter fun n => !isDisqualified s n

/-- The median of the values of the qualified neighbours. -/
def medianOf (s : State) (k : Nat) : Int := medianInt ((qualifiedNeighbours s k).map fun n => nth 0 s.hk.raw n)

/-- The value in use of a sensor on whose substitute no other depends: its own, its neighbours' median, or with no
qualified neighbour its last one (log 88). -/
def baseValue (s : State) (k : Nat) : Int :=
  if !isDisqualified s k then nth 0 s.hk.raw k
  else if (qualifiedNeighbours s k).isEmpty then nth 0 s.hk.used k
  else medianOf s k

/-- The median of the qualified neighbours of a sensor, or with none the highest value in use among the other
sensors of its die (R297). -/
def neighbourMedian (s : State) (k : Nat) : Int :=
  if (qualifiedNeighbours s k).isEmpty then highest (((dieSensors k).filter (· != k)).map (baseValue s))
  else medianOf s k

/-- The sensors that report: the LD's only while CORE is on. -/
def reporting (s : State) : List Nat := if isOn s .core then List.range 12 else [8, 9, 10, 11]

/-- Rounds in a row in which a sensor has differed from its median, with the present one (R297). -/
def disagreement (s : State) (k : Nat) : Nat :=
  if (reporting s).contains k && decide ((nth 0 s.hk.raw k - neighbourMedian s k).natAbs > 192) then
    nth 0 s.hk.disagree k + 1
  else 0

/-- Slot 28, cross-check (R297): runs of disagreement, and the values in use; a third round of disagreement puts the median
in the sensor's place from this round on. -/
def crossCheck (s : State) : State :=
  onHk (fun h => { h with
    disagree := (List.range 12).map (disagreement s)
    used := (List.range 12).map fun k =>
      if !(reporting s).contains k then nth 0 h.used k
      else if isDisqualified s k || decide (disagreement s k ≥ 3) then neighbourMedian s k else nth 0 h.raw k }) s

/-- The sensor is in use: it is not disqualified, and this round does not disqualify it (R297). -/
def sensorInUse (s : State) (k : Nat) : Bool := !isDisqualified s k && decide (nth 0 s.hk.disagree k < 3)

/-- Sensor code of an LD or AD sensor in an address (R354). -/
def sensorCode (k : Nat) : Nat := if k < 8 then k else 0x10 + (k - 8)

/-- Disqualified sensors of a die. -/
def badSensors (s : State) (ld : Bool) : Nat :=
  ((if ld then List.range 8 else [8, 9, 10, 11]).filter (isDisqualified s)).length

/-- The levels of R298 after a disqualification on a die. -/
def escalateSensors (ld : Bool) (s : State) : State :=
  let n := badSensors s ld
  let loc := if ld then 0 else 1
  let shifts := decide (n ≥ 2)
  let unknown := if ld then decide (n ≥ 4) else decide (n ≥ 3)
  let s1 := if shifts then
    raiseKind 0x2D { address := heatAddress loc 0 }
      (onHk (fun h => { h with shiftLd := h.shiftLd || ld, shiftAd := h.shiftAd || !ld }) s) else s
  if unknown then raiseKind 0x2E { address := heatAddress loc 0 } s1 else s1

/-- The sensors of the LD are qualified again, with their thresholds, at the power-up of CORE (R299); the kinds that only
they kept active end. -/
def requalifyLd (s : State) : State :=
  let s1 := onHk (fun h => { h with
    disqualified := h.disqualified &&& 0xF00, shiftLd := false
    disagree := List.replicate 8 0 ++ h.disagree.drop 8 }) s
  let s2 := if s1.hk.shiftAd then s1 else clearCondition 0x2D 0x13 s1
  if badSensors s2 false ≥ 3 then s2 else clearCondition 0x2E 0x13 s2

/-- SENSOR_DISQUALIFY (R297, R298): a sensor has differed from its median in three rounds. -/
def execSensorDisqualify (sensor : Nat) (s : State) : Host.Outcome State Fault Refusal :=
  .next (if decide (sensor < 12) && decide (nth 0 s.hk.disagree sensor ≥ 3) && !isDisqualified s sensor then
    let ld := decide (sensor < 8)
    let s1 := onHk (fun h => { h with disqualified := h.disqualified ||| BitVec.ofNat 16 (2 ^ sensor) }) s
    escalateSensors ld (raiseKind 0x2C
      { address := heatAddress (if ld then 0 else 1) (sensorCode sensor)
        figure := ofSigned 32 (nth 0 s.hk.raw sensor) } s1)
  else s)

/-! ## Thresholds (R300 to R303, R307) -/

/-- Locations in the order of the thermal lists. -/
def locations : List Location := [.die .ld, .die .ad, .array .a, .array .b, .array .c, .array .d]

/-- Thresholds in 1/16 °C: warning set and clear, throttle set and clear, shutdown, restart (R300). -/
structure Thresholds where
  warnSet     : Int
  warnClear   : Int
  throttleSet : Int
  throttleClear : Int
  shutdown    : Int
  restart     : Int
  deriving DecidableEq, Repr

/-- Thresholds moved down by 10 °C (R298). -/
def shiftDown (t : Thresholds) : Thresholds :=
  ⟨t.warnSet - 160, t.warnClear - 160, t.throttleSet - 160, t.throttleClear - 160, t.shutdown - 160, t.restart - 160⟩

/-- Thresholds of a location (R282, R298, R300). -/
def thresholdsOf (s : State) : Location → Thresholds
  | .die .ld => let t := ⟨2000, 1920, 2240, 2112, 2480, 2160⟩; if s.hk.shiftLd then shiftDown t else t
  | .die .ad => let t := ⟨2160, 2080, 2400, 2272, 2720, 2320⟩; if s.hk.shiftAd then shiftDown t else t
  | .array p =>
    let v := fun sub => toSigned 16 (thermalValue s p sub) * 16
    ⟨v 0x0A, v 0x0B, v 0x0C, v 0x0D, v 0x0E, v 0x0F⟩

/-- Tj of a zone as R300 compares it, in 1/16 °C: JunctionEstimate, raised while the model diverges (R313). -/
def judgedTj (s : State) (p : Port) (z : Nat) : Int :=
  if (modelOf s p).divergent then max (junction s p z) (roundDiv (usedTj s p z) 4096) else junction s p z

/-- The readings of an array's sensors in use (R300, R312). -/
def arrayReadings (s : State) (p : Port) : List Int :=
  ((List.range 4).filter fun q => decide (q < (s.hk.arrayTemps.get p).length) && !nth false (modelOf s p).sensorOut q).map
    fun q => nth 0 (s.hk.arrayTemps.get p) q

/-- The value compared at a location in 1/16 °C (R300). -/
def comparedValue (s : State) : Location → Int
  | .die .ld => if isOn s .core then highest (s.hk.used.take 8) else s.hk.diode
  | .die .ad => highest (s.hk.used.drop 8)
  | .array p =>
    max (highest ((List.range 32).map (judgedTj s p))) (highest (arrayReadings s p))

/-- The location is judged: a die, or the array of a port that the variant has (R300). -/
def isJudged (s : State) : Location → Bool
  | .die _ => true
  | .array p => hasPort s p

/-- The condition of R303 on a die's sensors in use. -/
def dieHot (s : State) (ld : Bool) : Bool :=
  let t := thresholdsOf s (.die (if ld then .ld else .ad))
  if ld && !isOn s .core then decide (s.hk.diode ≥ t.shutdown)
  else
    let ks := (if ld then List.range 8 else [8, 9, 10, 11]).filter fun k =>
      sensorInUse s k && decide (nth 0 s.hk.used k ≥ t.shutdown)
    decide (ks.length ≥ 2) || ks.any fun k => decide (neighbourMedian s k ≥ t.throttleSet)

/-- The location meets its shutdown condition in this round (R303, R307). -/
def locationHot (s : State) : Location → Bool
  | .die .ld => dieHot s true
  | .die .ad => dieHot s false
  | .array p => decide (comparedValue s (.array p) ≥ (thresholdsOf s (.array p)).shutdown)

/-- The location meets its restart condition in this round (R305, R307). -/
def locationCool (s : State) (l : Location) : Bool :=
  decide (comparedValue s l ≤ (thresholdsOf s l).restart)
    && (match l with
      | .array p => !s.hk.overTemp.get p
      | _ => true)

/-- The state that a value implies by the set levels (R301). -/
def impliedState (t : Thresholds) (v : Int) : Thermal :=
  if v ≥ t.throttleSet then .throttle else if v ≥ t.warnSet then .warning else .normal

/-- Rank of a thermal state. -/
def thermalRank : Thermal → Nat
  | .normal => 0 | .warning => 1 | .throttle => 2 | .shutdown => 3

/-- Stores the thermal state of a location. -/
def putThermal (l : Location) (t : Thermal) (s : State) : State :=
  onHk (fun h => { h with thermal := modifyAt (fun _ => t) (locationIndex l) h.thermal }) s

/-- Address of a location in a Waybill (R354). -/
def locationAddress (l : Location) : Nat := heatAddress (locationIndex l) 0

/-- Port of a location in a Waybill (R352). -/
def locationPort : Location → Nat
  | .array p => p.num
  | _ => 7

/-- Kind 0x2B ends with the last location in throttle (R301, R302). -/
def settleThrottle (s : State) : State :=
  if s.hk.thermal.contains .throttle then s else clearCondition 0x2B 0x13 s

/-- A location enters a state (R301): warning and throttle raise their kinds. -/
def enterThermal (l : Location) (t : Thermal) (s : State) : State :=
  let info : RaiseInfo := { port := locationPort l, address := locationAddress l, figure := ofSigned 32 (comparedValue s l) }
  let s1 := putThermal l t s
  settleThrottle (match t with
    | .warning => raiseKind 0x2A info s1
    | .throttle => raiseKind 0x2B info s1
    | _ => s1)

/-- The level below which a state falls (R301). -/
def clearLevel (t : Thresholds) (x : Thermal) : Int :=
  match x with
  | .throttle => t.throttleClear
  | _ => t.warnClear

/-- Slot 28 at one location (R300 to R303, R305, R307): the state rises at once; the runs of rounds below the clear
level, at the shutdown condition and at the restart condition are counted. -/
def judgeLocation (s : State) (l : Location) : State :=
  if !isJudged s l then s
  else
    let x := thermalOf s l
    let t := thresholdsOf s l
    let v := comparedValue s l
    let k := locationIndex l
    let run := fun (b : Bool) (n : Nat) => if b then n + 1 else 0
    let s1 := onHk (fun h => { h with
      below := modifyAt (run (x != .shutdown && x != .normal && decide (v < clearLevel t x))) k h.below
      hot := modifyAt (run (x != .shutdown && locationHot s l)) k h.hot
      cool := modifyAt (run (x == .shutdown && locationCool s l)) k h.cool }) s
    if x != .shutdown && decide (thermalRank (impliedState t v) > thermalRank x) then
      enterThermal l (impliedState t v) s1
    else s1

/-- The guard of the sink groups in slot 28 (R413). -/
def judgeGroups (s : State) : State :=
  let shift : Int := if s.hk.shiftAd then 160 else 0
  (List.range 4).foldl (fun t g =>
    let v := nth 0 s.hk.used (8 + g)
    onGroup g (fun x => { x with
      hot := if !x.off && decide (v ≥ 2720 - shift) then x.hot + 1 else 0
      cool := if x.off && decide (v ≤ 2320 - shift) then x.cool + 1 else 0 }) t) s

/-- The throttle factor after a round (R308). -/
def nextThrottle (s : State) : Nat :=
  if s.hk.thermal.any fun x => x == .throttle || x == .shutdown then s.hk.m * 3 / 4
  else min 0x8000 (s.hk.m + 0x0400)

/-- Slot 28 (R297, R300, R308, R309, R413): cross-check, thresholds, throttle, then the CP's models. -/
def slotThresholds (s : State) : State :=
  let s1 := judgeGroups (locations.foldl judgeLocation (crossCheck s))
  let s2 := onHk (fun h => { h with m := nextThrottle s1 }) s1
  if cpReady s2 then Port.all.foldl (fun s p => modelRound p s) s2 else s2

/-- THERMAL_STATE_FALL (R301, R302): two rounds below the clear level; the state falls one step. -/
def execThermalStateFall (loc : Location) (s : State) : Host.Outcome State Fault Refusal :=
  .next (if decide (nth 0 s.hk.below (locationIndex loc) ≥ 2) then
      let s1 := onHk (fun h => { h with below := modifyAt (fun _ => 0) (locationIndex loc) h.below }) s
      match thermalOf s loc with
      | .throttle => enterThermal loc .warning s1
      | .warning => enterThermal loc .normal s1
      | _ => s
    else s)

/-- Kind "array thermal shutdown" of a port (R358). -/
def arrayKind (p : Port) : Nat := 0x31 + p.num

/-- ARRAY_THERMAL_SHUTDOWN (R307): two rounds at ArrayShutdown, or a TEMP with bit 0. PORTx_EN falls. -/
def execArrayThermalShutdown (p : Port) (s : State) : Host.Outcome State Fault Refusal :=
  .next (if hasPort s p && thermalOf s (.array p) != .shutdown
      && (decide (nth 0 s.hk.hot (locationIndex (.array p)) ≥ 2) || s.hk.overTemp.get p) then
    dropEnables (settleThrottle (raiseKind (arrayKind p)
      { port := p.num, address := locationAddress (.array p)
        figure := ofSigned 32 (comparedValue s (.array p)) }
      (putThermal (.array p) .shutdown s)))
  else s)

/-- ARRAY_RESTART (R301, R307): two rounds at ArrayRestart; the state follows the value, and PORTx_EN rises at the
next frame boundary. -/
def execArrayRestart (p : Port) (s : State) : Host.Outcome State Fault Refusal :=
  .next (if thermalOf s (.array p) == .shutdown && decide (nth 0 s.hk.cool (locationIndex (.array p)) ≥ 2) then
    let t := impliedState (thresholdsOf s (.array p)) (comparedValue s (.array p))
    clearCondition (arrayKind p) 0x13 (enterThermal (.array p) t
      (onHk (fun h => { h with
        cool := modifyAt (fun _ => 0) (locationIndex (.array p)) h.cool
        hot := modifyAt (fun _ => 0) (locationIndex (.array p)) h.hot }) s))
  else s)

/-! ## The round (R293) -/

/-- A scheduled slot (R293). -/
def runSlot (slot raw : Nat) (ld : List Int) (s : State) : State :=
  let s1 := if slot ≤ 21 then noteCode slot raw s
    else if slot ≤ 25 then noteCode (slot + 2) raw s else s
  if slot = 0 then onHk (fun h => { h with gnd := raw }) s1
  else if slot = 1 then onHk (fun h => { h with bg := raw }) s1
  else if slot = 2 then slotReference raw s1
  else if slot ≤ 6 then
    onHk (fun h => { h with
      raw := modifyAt (fun _ => Config.adSensorTemp (slot - 3) (inputMicrovolts s raw)) (slot + 5) h.raw }) s1
  else if slot ≤ 12 then
    judgeSupply (slotSupply slot).1 (inputMicrovolts s raw * (slotSupply slot).2) s1
  else if slot ≤ 16 then slotImon (Port.ofNum (slot - 13)) raw s1
  else if slot ≤ 20 then s1
  else if slot = 21 then onHk (fun h => { h with diode := Config.remoteDiodeTemp (inputMicrovolts s raw) }) s1
  else if slot ≤ 25 then
    senseSink (senseChannel s (slot - 22)) (roundDiv (inputMicrovolts s raw * 16) 1000).toNat s1
  else if slot = 26 then
    (if isOn s .core then
      onHk (fun h => { h with raw := (List.range 8).map (fun k => nth 0 ld k) ++ h.raw.drop 8 }) s1
     else s1)
  else if slot = 27 then
    Port.all.foldl (fun s p => slotHeadroom p s)
      (onHk (fun h => { h with arrayTemps := h.tempIn, tempAt := h.tempInAt }) s1)
  else if slot = 28 then slotThresholds s1
  else s1

/-- The next slot; after slot 31 the next round, with the reference codes of the one that ends (R294) and the model
parameters and limits as they are now written (R283). -/
def nextSlot (s : State) : State :=
  if s.hk.slot < 31 then onHk (fun h => { h with slot := h.slot + 1 }) s
  else
    latchTollSettings (onHk (fun h => { h with
      slot := 0, round := h.round + 1, gndPrev := h.gnd, bgPrev := h.bg }) s)

end Sys2Proof.Machine
end

