-- ==== Sys2Proof/Machine/Ring.lean ====
section
/-!
DEFINITION. Ring.lean: messages, slots and frames of the Caravan (R452 to R460).
-/

namespace Sys2Proof.Machine

open Sys2Proof

/-- Applies `f` to the ring. -/
def onRing (f : Caravan → Caravan) (s : State) : State := { s with caravan := f s.caravan }

/-- The device is the head of its ring (R448). -/
def isHead (s : State) : Bool := s.caravan.enabled && s.power.options.nodeId == 0

/-- The device is a Waystation of its ring by its settings (R448). -/
def isStation (s : State) : Bool := isWaystation s

/-! ## Queues -/

/-- A message of a class to a destination: its start payload and its words (R458). -/
def ringMessage (dest cls tag : Nat) (words : List (BitVec 16)) : Outgoing :=
  ⟨dest, false, ringStart cls tag words.length :: words⟩

/-- Chunks of at most 256 bytes; `fuel` bounds their number. -/
def streamChunks : Nat → List Byte → List (List Byte)
  | 0, _ => []
  | fuel + 1, bs => if bs.isEmpty then [] else bs.take 256 :: streamChunks fuel (bs.drop 256)

/-- Session bytes wait for the ring in messages of up to 128 words (R458, R465). -/
def queueStream (dest : Nat) (bytes : List Byte) (s : State) : State :=
  onRing (fun c => { c with
    stream := c.stream ++
      (streamChunks bytes.length bytes).map fun b => ringMessage dest 0x4 0 (packWords b) }) s

/-- A grant of credits to a sender (R458 class 0x5). -/
def queueCredit (dest n : Nat) (s : State) : State :=
  onRing (fun c => { c with announces := c.announces ++ [ringMessage dest 0x5 n []] }) s

/-- The ring position of a NodeId in the node map (R459, R464). -/
def positionOf (s : State) (node : Nat) : Option Nat :=
  (List.range 8).find? fun q => nth 0xFF s.caravan.nodeMap q == node && node != 0xFF

/-! ## Slots (R453, R457) -/

/-- A slot's fields. -/
def slotHops (x : BitVec 24) : Nat := bitsOf x.toNat 21 3
/-- Type of a slot. -/
def slotType (x : BitVec 24) : Nat := bitsOf x.toNat 19 2
/-- Sender of a slot. -/
def slotSource (x : BitVec 24) : Nat := bitsOf x.toNat 16 3
/-- Payload of a slot. -/
def slotPayload (x : BitVec 24) : BitVec 16 := BitVec.ofNat 16 x.toNat

/-- A slot from its fields (R453). -/
def makeSlot (hops type source : Nat) (payload : BitVec 16) : BitVec 24 :=
  BitVec.ofNat 24 (payload.toNat + source % 8 * 2 ^ 16 + type % 4 * 2 ^ 19 + hops % 8 * 2 ^ 21)

/-- Hops of a sender at `p` to position `q` in a ring of `n` (R457). -/
def hopsTo (p q n : Nat) : Nat := (q + n - p % n) % n - 1

/-- Destinations with a message in progress (R457). -/
def busyDests (c : Caravan) : List Nat :=
  ((c.waybills ++ c.dictionary ++ c.announces ++ c.stream).filter (·.started)).map (·.dest)

/-- The next word of a queue that may be sent: its destination, whether it goes on with a message, the word, and the
queue left. -/
def takeWord (busy : List Nat) (may : Outgoing → Bool) : List Outgoing → Option (Nat × Bool × BitVec 16 × List Outgoing)
  | [] => none
  | o :: rest =>
    match o.words with
    | [] => takeWord busy may rest
    | w :: ws =>
      if o.started || (!busy.contains o.dest && may o) then
        some (o.dest, o.started, w, if ws.isEmpty then rest else { o with started := true, words := ws } :: rest)
      else (takeWord busy may rest).map fun r => (r.1, r.2.1, r.2.2.1, o :: r.2.2.2)

/-- Credits that a stream message needs: one for 256 bytes (R458, R465). -/
def creditsOf (o : Outgoing) : Nat := if o.words.length ≤ 1 then 0 else 1

/-- The next word to send in the order of R457, with `n` stream slots used in this frame. -/
def nextWord (n : Nat) (c : Caravan) : Option (Nat × Bool × BitVec 16 × Nat × Caravan) :=
  let busy := busyDests c
  match takeWord busy (fun _ => true) c.waybills with
  | some (d, k, w, q) => some (d, k, w, n, { c with waybills := q })
  | none =>
    match takeWord busy (fun _ => true) c.dictionary with
    | some (d, k, w, q) => some (d, k, w, n, { c with dictionary := q })
    | none =>
      match takeWord busy (fun _ => true) c.announces with
      | some (d, k, w, q) => some (d, k, w, n, { c with announces := q })
      | none =>
        if n ≥ 6 then none
        else
          match takeWord busy (fun o => decide (creditsOf o ≤ c.credits)) c.stream with
          | some (d, k, w, q) =>
            some (d, k, w, n + 1, { c with stream := q, credits := if k then c.credits else c.credits - 1 })
          | none => none

/-- The empty data slots are filled in ascending order (R457). -/
def fillSlots (p n : Nat) : Nat → List (BitVec 24) → Caravan → List (BitVec 24) × Caravan
  | _, [], c => ([], c)
  | used, x :: xs, c =>
    if slotType x ≠ 0 then
      let r := fillSlots p n used xs c
      (x :: r.1, r.2)
    else
      match nextWord used c with
      | none =>
        let r := fillSlots p n used xs c
        (x :: r.1, r.2)
      | some (d, k, w, used', c') =>
        let r := fillSlots p n used' xs c'
        (makeSlot (hopsTo p d n) (if k then 3 else 2) p w :: r.1, r.2)

/-! ## Line coding (R450 to R452) -/

/-- The fixed pattern of cells 2 to 15 (R452). -/
def syncBits : List Bool := msbBits 14 0b11010011100101

/-- The high and low time of a bit's cell in CLK_CORE (R450). -/
def bitCell (b : Bool) : Nat × Nat := if b then (12, 4) else (4, 12)

/-- The 400 cells of a frame (R450, R452): two nulls, the fixed pattern, and the slots with bit [23] first. -/
def frameCells (slots : List (BitVec 24)) : List (Nat × Nat) :=
  [(0, 16), (0, 16)] ++ (syncBits ++ slots.flatMap fun x => msbBits 24 x.toNat).map bitCell

/-- The bit that a high time reads as; none is a code error (R451). -/
def readHigh (h : Nat) : Option Bool :=
  if 2 ≤ h ∧ h ≤ 6 then some false else if 10 ≤ h ∧ h ≤ 14 then some true else none

/-- The clocks from edge `k` of a frame to the next are right (R451): 14 to 18, or inside the sync field of 14 cells no null
(log 91). -/
def gapGood (k gap : Nat) : Bool := if k < 13 then decide (gap < 24) else decide (14 ≤ gap) && decide (gap ≤ 18)

/-- The bits of a frame's rising edges from edge `k` on (R451), with a null after the last one; none is a code error. -/
def readEdges : Nat → List (Nat × Nat) → Option (List Bool)
  | _, [] => none
  | _, [e] => if e.2 ≥ 24 then (readHigh e.1).map fun b => [b] else none
  | k, e :: rest =>
    if gapGood k e.2 then
      match readHigh e.1, readEdges (k + 1) rest with
      | some b, some bs => some (b :: bs)
      | _, _ => none
    else none

/-- The number that bits spell, the first one highest. -/
def bitsValue (bs : List Bool) : Nat := bs.foldl (fun n b => 2 * n + ofBool b) 0

/-- A received frame: whether its cells broke the line code, and its 16 slots. -/
structure RingFrame where
  codeError : Bool
  slots     : List (BitVec 24)
  clock     : Nat
  delay     : Nat
  deriving DecidableEq, Repr

/-- The frame that the receiver reads from the line (R451, R452). -/
def readRing (x : RingLine) : RingFrame :=
  match readEdges 0 x.edges with
  | some bs =>
    ⟨bs.length != 398 || bs.take 14 != syncBits,
      (List.range 16).map fun k => BitVec.ofNat 24 (bitsValue ((bs.drop (14 + 24 * k)).take 24)), x.clock, x.delay⟩
  | none => ⟨true, [], x.clock, x.delay⟩

/-! ## Frames (R452 to R455) -/

/-- The check value of a frame (R455): CRC-16 over slots 0 to 14 and bits [23:16] of slot 15. -/
def ringCrc (slots : List (BitVec 24)) : Nat :=
  crc16Bits ((slots.take 15).flatMap (fun x => msbBits 24 x.toNat)
    ++ msbBits 8 (bitsOf ((slots.drop 15).headD 0).toNat 16 8))

/-- Slot 15 of a frame with its first fifteen slots (R455). -/
def checkSlot (closing : Bool) (slots : List (BitVec 24)) : BitVec 24 :=
  let top := BitVec.ofNat 24 (ofBool closing * 2 ^ 23)
  BitVec.ofNat 24 (ofBool closing * 2 ^ 23 + ringCrc (slots ++ [top]))

/-- A frame with its check slot. -/
def closeFrame (closing : Bool) (slots : List (BitVec 24)) : List (BitVec 24) :=
  slots ++ [checkSlot closing slots]

/-- The frame being sent when CORE quiesces carries Closing (R455). -/
def closingFrame (c : Caravan) : Caravan :=
  if c.sent.isEmpty then c
  else
    let slots := closeFrame true (c.sent.take 15)
    { c with sent := slots, cells := frameCells slots }

/-- A received frame passes its check (R451, R455): 16 slots, no code error, reserved zeros and CRC right. -/
def frameValid (f : RingFrame) : Bool :=
  !f.codeError && f.slots.length == 16
    && bitsOf ((f.slots.drop 15).headD 0).toNat 16 7 == 0
    && ringCrc f.slots == bitsOf ((f.slots.drop 15).headD 0).toNat 0 16

/-- A received frame carries Closing (R455). -/
def frameClosing (f : RingFrame) : Bool := bitOf ((f.slots.drop 15).headD 0).toNat 23

/-- A received frame carries the token (R454). -/
def hasToken (f : RingFrame) : Bool := (f.slots.take 5).all fun x => slotType x == 1

/-- Payload of token slot `k`. -/
def tokenWord (f : RingFrame) (k : Nat) : Nat := (slotPayload (nth 0 f.slots k)).toNat

/-- The token slots of the head (R454): its scan position at the sync edge in 1/16 eighth, its Epoch, its rate and the
ring as measured. -/
def tokenSlots (s : State) (fraction : Nat) : List (BitVec 24) :=
  let c := s.caravan
  let rate := cfg s 0x8100 1
  [ c.tokenSeq.toNat * 256 + rate % 8 * 32 + ofBool c.loopValid * 16
  , (s.scan.pos.toNat * 16 + fraction % 16) % 2 ^ 16
  , s.scan.epoch.toNat % 2 ^ 16
  , s.scan.epoch.toNat / 2 ^ 16
  , (c.size - 1) % 8 * 2 ^ 13 + c.loopDelay % 2 ^ 13 ].map fun w => makeSlot 0 1 0 (BitVec.ofNat 16 w)

/-- The token slots with the HopIndex of a forwarding Waystation (R456). -/
def forwardToken (p : Nat) (slots : List (BitVec 24)) : List (BitVec 24) :=
  (slots.take 5).mapIdx fun k x =>
    if k = 0 then BitVec.ofNat 24 (x.toNat / 8 * 8 + p % 8) else x

/-- A data slot on its way through a device (R456): consumed at its destination, else one hop nearer. -/
def forwardData (x : BitVec 24) : BitVec 24 :=
  if slotType x < 2 ∨ slotHops x = 0 then 0 else x - BitVec.ofNat 24 (2 ^ 21)

/-! ## Reassembly (R458) -/

/-- Messages of classes that nobody knows are discarded (R458). -/
def knownClass (k : Nat) : Bool := decide (1 ≤ k) && decide (k ≤ 6)

/-- A slot addressed to the device joins the message of its sender; a complete message leaves the list, its command
delivers it (log 59). -/
def takeSlot (ps : List Partial) (x : BitVec 24) : List Partial :=
  let q := slotSource x
  let w := (slotPayload x).toNat
  if slotType x = 2 then
    let rest := ps.filter fun m => m.source != q
    if w % 256 = 0 ∨ !knownClass (w / 4096) then rest
    else ⟨q, w / 4096, w / 256 % 16, w % 256, []⟩ :: rest
  else if slotType x = 3 then
    (ps.map fun m => if m.source == q then { m with words := m.words ++ [slotPayload x] } else m).filter
      fun m => decide (m.words.length < m.count)
  else ps

/-- The data slots for this device in a received frame. -/
def ownSlots (f : RingFrame) : List (BitVec 24) :=
  ((f.slots.drop 5).take 10).filter fun x => decide (slotType x ≥ 2) && slotHops x == 0

/-! ## Timing (R460) -/

/-- The per-hop line delay w (R460). -/
def hopDelay (loopDelay size : Nat) : Int :=
  roundQuot ((loopDelay : Int) - 48 * ((size : Int) - 1)) size

/-- CLK_CORE from the head's sync edge to its reception at position `p` (R460). -/
def ringLatency (loopDelay size p : Nat) : Nat := ((p : Int) * hopDelay loopDelay size + 48 * ((p : Int) - 1)).toNat

end Sys2Proof.Machine
end

