-- ==== Sys2Proof/Machine/Power.lean ====
section
/-!
DEFINITION. Power.lean: what each domain loses and gains when it is powered down and up (R99, R275, R280, R436 to
R440), the isolation of its units (R355, R441), votes and Stop (R435, R437, R443 to R445).
-/

namespace Sys2Proof.Machine

open Sys2Proof

/-- Applies `f` to the power state. -/
def onPower (f : Power → Power) (s : State) : State := { s with power := f s.power }

/-- Applies `f` to the votes. -/
def onVotes (f : Votes → Votes) (s : State) : State := onPower (fun w => { w with votes := f w.votes }) s

/-- Applies `f` to the processors. -/
def onUnits (f : Units → Units) (s : State) : State := { s with units := f s.units }

/-- The vote byte of every voteable domain (R436). -/
def allDomains : BitVec 8 := 0x7C

/-- The voteable domains, each after the domain that it depends on (R14). -/
def voteable : List Domain := [.core, .pix, .dram, .aux, .link]

/-- Stores the state of a domain. -/
def setDomain (d : Domain) (x : DomainState) (s : State) : State :=
  match d with
  | .aon => s
  | .safe => onPower (fun w => { w with safe := x }) s
  | .core => onPower (fun w => { w with core := x }) s
  | .pix => onPower (fun w => { w with pix := x }) s
  | .link => onPower (fun w => { w with link := x }) s
  | .dram => onPower (fun w => { w with dram := x }) s
  | .aux => onPower (fun w => { w with aux := x }) s

/-! ## Isolation (R355, R441) -/

/-- The conditions of a unit that has lost its power are absent (log 58); a clock fallback stands until the next
reset (R358). -/
def clearUnits (d : Domain) (s : State) : State :=
  s.faults.active.foldl (fun s a =>
    if unitDomain a.unit == d && a.kind != 0x04 then clearCondition a.kind a.unit s else s) s

/-- What the power-down of a domain leaves of its units' conditions and block status (R280, R441). -/
def isolateUnits (d : Domain) (s : State) : State :=
  let s1 := clearUnits d s
  { s1 with faults := { s1.faults with blocks := s1.faults.blocks.filter fun b => unitDomain b.unit != d } }

/-! ## What a domain loses (R99, R275, R280, R438) -/

/-- The link of a port without power: the failures since the last reset and the level of the fault pin stay
(R223). -/
def darkLink (l : LinkPort) : LinkPort :=
  { lanes := l.lanes.map fun x => if x = .failedForGood then x else .untrained
    laneFails := l.laneFails, fault := l.fault }

/-- The scan stops (R368); time and the reference settings stay. -/
def stopScan (s : State) : State := { s with scan := { s.scan with running := false, pos := 0 } }

/-- The host lanes lose their power (R13, R231): they are untrained, and there is no control lane. -/
def dropHostLanes (s : State) : State :=
  let s1 := { s with host := { s.host with
    lanes := s.host.lanes.map fun l => { l with state := 0 }, control := none, fresh := [] } }
  if s.host.lanes.any fun l => l.state != 0 then setIrq 2 s1 else s1

/-- The picture in progress of a stream is gone with the line store (R238). -/
def idleStream (x : Stream) : Stream := { count := x.count, discards := x.discards, last := x.last }

/-- LINK loses its power: lanes, LS, scan-out engine and pixel check unit (R13). The status map lies in PIX. -/
def dropLink (s0 : State) : State :=
  let s := dropHostLanes s0
  let s1 := stopScan s
  { s1 with
    link := s.link.map fun _ l => darkLink l
    units := { s.units with ls := PerPort.const .off }
    pixels := s.pixels.map fun _ x => { status := x.status, untreated := x.untreated, concealed := x.concealed }
    compose := { s.compose with checked := [], mismatched := [] }
    drive := { s1.drive with lfsr := 0xACE1, seed := 0, nextSeed := 0 }
    hk := { s.hk with
      tempIn := PerPort.const [], tempInAt := PerPort.const none
      arrayTemps := PerPort.const [], tempAt := PerPort.const none, overTemp := PerPort.const false } }

/-- PIX loses its power: pixel path, maps, pinned surfaces and Almanac with its sample results (R13, R99). R13 does not
list the line DPLL: it goes with the scan, and takes free-run as its default here (log 68). The mask count goes on after
it (R63), and so do a rate change under way (R52) and the OneShot records not yet journalled (R68). -/
def dropPix (s : State) : State :=
  { s with
    scan := { epoch := s.scan.epoch, firstFrame := s.scan.firstFrame, dt := s.scan.dt, clkRest := s.scan.clkRest
              clkTotal := s.scan.clkTotal, rate := s.scan.rate, rateNext := s.scan.rateNext
              everLocked := s.scan.everLocked, hostTime := s.scan.hostTime, dtAtSync := s.scan.dtAtSync }
    almanac := { maskCount := s.almanac.maskCount, restart := s.almanac.restart, unsaved := s.almanac.unsaved }
    hk := { s.hk with result := 0, ring := [], ringNext := 0, ringNewest := 0xFF, dropCount := 0 }
    fetch := {}
    host := { s.host with stream0 := idleStream s.host.stream0, stream1 := idleStream s.host.stream1 }
    warp := PerPort.const {}
    manifest := {}
    shade := {}
    ceiling := { source := s.ceiling.sourceNext, sourceNext := s.ceiling.sourceNext }
    safeBeam := {}
    compose := {}
    drive := { s.drive with
      calMap := [], queue := [], applying := [], windows := [0, 0, 0, 0], darkPixels := [], repairs := []
      appliedCount := 0, ledEnergy := PerPort.const 0, ledPower := PerPort.const [], zonePower := PerPort.const []
      fullScale := s.drive.fullScale.map fun _ f =>
        { correction := f.correction, lastGood := f.lastGood, frozen := f.frozen } }
    pixels := s.pixels.map fun _ x => { x with status := [], untreated := [], concealed := [] }
    units := { s.units with composerRestart := false }
    sramCorrected := 0
    power := { s.power with fullService := false } }

/-- DRAM loses its power; its contents are lost (R438). -/
def dropDram (s : State) : State :=
  { s with dram := [], dramRate := 0, dramCorrected := 0
           units := { s.units with dramTrained := false, dramFailed := false } }

/-- AUX loses its power: every sink off, HRCTL at high impedance (R438). -/
def dropAux (s : State) : State := { s with sinks := heldSinks s }

/-- Writes whose records are not yet committed are lost with the CP (R290); what hardware journals stays. -/
def loseWrites (s : State) : State :=
  let s1 := refuseAll stBusy false (s.journal.queue.map (·.waiter)) s
  { s1 with journal := { s1.journal with queue := s1.journal.queue.filter fun w => w.waiter.isNone } }

/-- Requests that wait for the CP, and a transfer under way on a bus, are answered with the busy response, and packets that
wait for it are discarded (R34, R244, R255, R290, R438). -/
def busyRequests (s0 : State) : State :=
  let s := dropPackets (loseWrites s0)
  let s1 := s.host.shpRequests.foldl (fun s r =>
    answer (.shp r.tag) (r.op == 2 || r.op == 5) r.index r.sub stBusy [] s) s
  let s2 := (s.host.canRequests ++ s.host.transferA.toList ++ s.host.transferB.toList).foldl (fun s r =>
    answer (.can r.bus r.tag) r.write r.index r.sub stBusy [] s) s1
  { s2 with host := { s2.host with shpRequests := [], canRequests := [], transferA := none, transferB := none } }

/-- What stays of the update state while CORE is off or a reset holds (R478, R480, R497): an activation that was under way, or
had stopped, reads stopped. -/
def heldUpdate (s : State) : Update :=
  let u := s.update
  { lastRejection := u.lastRejection, svcEnabled := u.svcEnabled
    activation := if u.activation = 0 ∨ u.activation = 4 then 0 else 5
    slot := u.slot, back := u.back }

/-- CORE loses its power: CP, control ports, Caravan line and device time (R13); the shadow has been sent (R55), and the ring
keeps only the record of the last frame that it sent. The sideband port lies in the AON, and a clock fallback stands until the
next reset (R358). Both ends of the bridge start again with CORE: the spec does not say how the AD end, which keeps its power,
finds the LD's sequence again (R13, R16; log 159). -/
def dropCore (s : State) : State :=
  { s with
    host := { sbp := s.host.sbp }
    caravan := { sent := s.caravan.sent, cells := s.caravan.cells }
    update := heldUpdate s
    access := { tokenResult := 0 }
    toll := {}
    leap := {}
    drive := {}
    dict := { s.dict with restoreCount := 0 }
    faults := { s.faults with
      waybillsSent := 0, waybillsDropped := 0, canQueue := []
      ddbLd := {}, ddbAd := {}, ddbRetries := 0 }
    units := { s.units with cp := .off, cpRecoveryBoot := false, calStep := false }
    power := { s.power with fullService := false, stopTasks := false, sleepStatus := 0 } }

/-- What the supervisors hold of a supply at a power-up of SAFE: it counts as inside its limits until a round has judged it
(log 9), unless it has been found low meanwhile (R434, R502). -/
def freshSupply (x : SupplyState) : SupplyState := { low := x.low, inside := if x.low then 0 else 2 }

/-- SAFE loses its power, or is held in reset: supervisors, housekeeping, NVM controller, loaders, tile checker
and the SM but for what it keeps in the AON (R418, R444), its start among it (R382, R431); its counters restart (R280) and
the filtered levels of the beam request read their default (R284, R378). -/
def dropSafe (s : State) : State :=
  { s with
    hk := { tempIn := s.hk.tempIn, tempInAt := s.hk.tempInAt
            thermal := [if s.aon.ldShutdown then .shutdown else .normal,
              if s.aon.adShutdown then .shutdown else .normal, .normal, .normal, .normal, .normal] }
    headroom := PerPort.const {}
    journal := {}
    checker := {}
    safety := { s.safety with reqA := false, reqB := false, discrepancyCount := 0, testCount := 0, abandoned := 0 }
    power := { s.power with supplies := s.power.supplies.map freshSupply, coreWaitFault := false } }

/-- What a domain does at its power-down (R438). -/
def dropDomain (d : Domain) (s : State) : State :=
  match d with
  | .aon => s
  | .safe => dropSafe s
  | .core => dropCore (busyRequests (sendShadow s))
  | .pix => dropPix (stopScan s)
  | .link => dropLink s
  | .dram => dropDram s
  | .aux => dropAux s

/-- A domain reaches its isolation point and opens its switch (R355, R438, R441). -/
def powerDown (d : Domain) (s : State) : State :=
  isolateUnits d (dropDomain d (closeWrappers (fun u => unitDomain u == d) (setDomain d .minOff s)))

/-- A domain quiesces before its isolation point (R438): with CORE the ring is closed (R455). -/
def quiesce (d : Domain) (s : State) : State :=
  powerDown d (if d = .core then onRing closingFrame s else s)

/-! ## Rising (R437, R439, R440) -/

/-- A domain that is off and held by a vote powers up when the domain that it depends on is on and nothing forces it
off (R14, R437), once the options are in force (R425). -/
def riseIfVoted (s : State) (d : Domain) : State :=
  if !inReset s && !s.power.loadRunning && domainState s d == .off && heldByVote s.power.votes d && !forcedOff s d
      && (dependsOn d).all fun q => isOn s q then setDomain d .rising s
  else s

/-- Every voted domain that can power up begins to (R437). -/
def powerUpVoted (s : State) : State := voteable.foldl riseIfVoted s

/-- Every domain forced off goes off at once, dependants first (R304, R433). -/
def forceOff (ds : List Domain) (s : State) : State :=
  ds.foldl (fun s d =>
    if domainState s d = .off then s
    else if isOn s d then setDomain d .off (powerDown d s) else setDomain d .off s) s

/-- The domains of a whole shutdown, dependants first. -/
def allOff : List Domain := [.link, .pix, .dram, .aux, .core]

/-! ## Stop (R437, R444) -/

/-- A commit under way completes before SAFE goes off (R444). -/
def finishCommit (s : State) : State :=
  match s.journal.commit with
  | some w => endCommit true w s
  | none => s

/-- The domains power down in order, the SM keeps its context, and the device is in Stop (R444 steps 2 to 6). A
session and consent end (R272), and LeapWrapped is cleared (R73). -/
def enterStop (s : State) : State :=
  let s0 := { s with aon := { s.aon with leapWrapped := false } }
  let s1 := allOff.foldl (fun s d =>
    if isOn s d then setDomain d .off (quiesce d s) else setDomain d .off s) s0
  let s2 := finishCommit (finishCommit s1)
  let s3 := isolateUnits .safe (setDomain .safe .off (dropSafe s2))
  { s3 with aon := { s3.aon with smContext := true, stopEntryCount := count32 s3.aon.stopEntryCount } }

/-- No client but the CP votes for any domain. -/
def cpVotesAlone (v : Votes) : Bool :=
  (v.wake ||| v.sbp ||| v.sm ||| v.cal ||| v.caravan ||| v.host) &&& allDomains == 0

/-- The Stop-entry tasks start: the CP holds every powered domain, sessions close, and the shadow is sent (R55,
R272, R435, R444 step 1). LeapWrapped is cleared (R73). -/
def startStopTasks (s : State) : State :=
  let s1 := onPower (fun w => { w with stopTasks := true, sleepStatus := 1 })
    (onVotes (fun v => { v with cp := poweredByte s }) s)
  sendShadow { s1 with
    access := { s1.access with session := none }
    aon := { s1.aon with leapWrapped := false } }

/-- A withdrawal has been registered (R444): with only the CP's vote left the Stop-entry tasks start; with no vote
left and no CP to run them, the device enters Stop. A CP that still boots runs the tasks when it has booted. -/
def afterWithdrawal (s : State) : State :=
  if !isOn s .core || s.power.stopTasks || !cpVotesAlone s.power.votes then s
  else if s.power.votes.cp &&& allDomains != 0 then startStopTasks s
  else enterStop s

/-- The calibration step under way ends, and its votes are withdrawn (R435). -/
def endCalStep (s : State) : State :=
  if s.units.calStep then
    afterWithdrawal (onVotes (fun v => { v with cal := 0 }) (onUnits (fun u => { u with calStep := false }) s))
  else s

/-! ## The SM's vote (R435) -/

/-- The SM votes for every voteable domain while BeamHoldsRun is set and the agreed request is not 0x00 (R435). -/
def settleSmVote (s : State) : State :=
  let v : BitVec 8 := if s.power.options.beamHoldsRun && beamRequestAgreed s != 0 then allDomains else 0
  if s.power.votes.sm = v then s
  else
    let s1 := onVotes (fun x => { x with sm := v }) s
    if v = 0 then afterWithdrawal s1 else powerUpVoted s1

/-! ## Waking (R443, R445) -/

/-- A Stop entry is cancelled: the CP's CORE vote is set again (R445). -/
def cancelStop (s : State) : State :=
  if s.power.stopTasks then
    onPower (fun w => { w with stopTasks := false, sleepStatus := 2 })
      (onVotes (fun v => { v with cp := 0x04 }) s)
  else s

/-- The wake votes are no longer needed: full service is reported, or with BootSource MSS only the safe beam is lit
(R435). -/
def wakeServed (s : State) : Bool :=
  if s.power.options.bootSource = 2 then Port.all.any fun p => (s.link.get p).enable else s.power.fullService

/-- The wake and SBP votes end once they have been served (R435). -/
def releaseWakeVotes (s : State) : State :=
  if wakeServed s && (s.power.votes.wake ||| s.power.votes.sbp) != 0 then
    afterWithdrawal (onVotes (fun v => { v with wake := 0, sbp := 0 }) s)
  else s

/-- The SM and SAFE come back from Stop with the options of the AON (R427, R431, R444); the beam request starts
afresh (R378), and the sensors with all of them qualified (R299). -/
def leaveStop (s : State) : State :=
  let s1 := clearCondition 0x3D 0x18 (clearCondition 0x2E 0x13 (clearCondition 0x2D 0x13 (setDomain .safe .on s)))
  { s1 with
    power := { s1.power with options := s1.aon.options, bootCause := 4 }
    safety := { s1.safety with agreed := none }
    aon := { s1.aon with smContext := false } }

/-- A wake (R443, R445): its votes are cast and HostVote is 0x7C; a Stop entry is cancelled, and Stop is left. Votes that are
served already stand until the next slot or frame boundary, within 1 ms (R435), so that a withdrawal in the same AON cycle
meets them. -/
def wake (cause : Nat) (s : State) : State :=
  let s1 := { s with aon := { s.aon with
    wakeCause := s.aon.wakeCause ||| BitVec.ofNat 8 cause } }
  let s2 := onVotes (fun v => { v with
    wake := if cause = 1 then allDomains else v.wake
    sbp := if cause = 2 then allDomains else v.sbp
    host := allDomains }) (cancelStop s1)
  powerUpVoted (if isOn s2 .safe then s2 else leaveStop s2)

end Sys2Proof.Machine
end

