-- ==== Sys2Proof/Machine/Commissioning.lean ====
section
/-!
DEFINITION. Commissioning.lean: the beam request (R377 to R380), the test of SAFE_OUT_N (R384, R385), the check value
and its confirmation (R387 to R391).
-/

namespace Sys2Proof.Machine

open Sys2Proof

/-- Applies `f` to the safety state. -/
def onSafety (f : Safety → Safety) (s : State) : State := { s with safety := f s.safety }

/-! ## Beam request -/

/-- The agreed request follows the inputs while they agree (R378). -/
def agreeRequest (s : State) : State :=
  match beamReading s with
  | none => s
  | some b => onSafety (fun x => { x with agreed := some b }) s

/-- A change of the agreed request or of its safe side acts on the ports and on the SM's vote (R380, R435). -/
def settleRequest (s : State) : State := settleSmVote (settle s)

/-- BEAM_REQ_CHANGE (R377, R378): in reset and in Stop the inputs are not observed. -/
def execBeamReqChange (a b : Bool) (s : State) : Host.Outcome State Fault Refusal :=
  .next (if inReset s || !isOn s .safe then s
    else settleRequest (agreeRequest (onSafety (fun x => { x with reqA := a, reqB := b }) s)))

/-- BEAM_REQ_DISCREPANCY (R379): the inputs have disagreed for DiscrepancyTime. -/
def execBeamReqDiscrepancy (s : State) : Host.Outcome State Fault Refusal :=
  .next (if !inReset s && isOn s .safe && beamReading s == none && !kindActive s 0x3D then
    settleRequest (raiseKind 0x3D {}
      (onSafety (fun x => { x with discrepancyCount := count32 x.discrepancyCount }) s))
  else s)

/-- DISCREPANCY_EXIT (R379): the inputs have agreed for DiscrepancyTime; the exit is not a recovery. -/
def execDiscrepancyExit (s : State) : Host.Outcome State Fault Refusal :=
  .next (if (beamReading s).isSome && kindActive s 0x3D then
    settleRequest (exitKind 0x3D 0x18 (agreeRequest s))
  else s)

/-! ## The dark-pulse test -/

/-- A failure of the test at step 2 or step 4 (R384): counted when step 4 was reached. -/
def failOutTest (counted : Bool) (s : State) : State :=
  raiseKind 0x3E {} (onSafety (fun x => { x with
    testCount := if counted then count32 x.testCount else x.testCount
    retestDue := false }) s)

/-- The output is driven low by the rules of R383 but for a failed test. -/
def outputDemanded (s : State) : Bool := !inReset s && isOn s .safe && sf1Intact s && sf2Intact s

/-- SAFE_OUT_TEST (R384, R385): the test runs while the pin is asserted, or as the retest of a failed one; a demand
during steps 1 to 3 abandons it. -/
def execSafeOutTest (highAt2 highAt4 demand : Bool) (s : State) : Host.Outcome State Fault Refusal :=
  .next (if outputDemanded s && (!kindActive s 0x3E || s.safety.retestDue) then
    if !highAt2 then failOutTest false s
    else if demand then onSafety (fun x => { x with abandoned := count32 x.abandoned }) s
    else if highAt4 then failOutTest true s
    else recoverKind 0x3E 0x18 (onSafety (fun x => { x with testCount := count32 x.testCount, retestDue := false }) s)
  else s)

/-! ## The check value -/

/-- The record of an object in the stream (R387). -/
def checkRecord (s : State) (index sub size : Nat) : List Byte :=
  leBytes 2 index ++ leBytes 1 sub ++ leBytes 2 size ++ leBytes size (cfg s index sub)

/-- The objects of a row in ascending order: index, subindex, size. -/
def rowObjects (r : ObjectRow) : List (Nat × Nat × Nat) :=
  (List.range r.units).flatMap fun u => (List.range r.subs).map fun k => (r.index + u, r.sub + k, r.size)

/-- The RWC objects of the safety parameter set in ascending order (R264, R387). -/
def safetyObjects : List (Nat × Nat × Nat) :=
  (objectTable.filter fun r =>
    decide (0x7100 ≤ r.index) && decide (r.index < 0x7200) && r.access == .rwc).flatMap rowObjects

/-- The check value (R387). -/
def checkValue (s : State) : BitVec 32 :=
  BitVec.ofNat 32 (crc32c (safetyObjects.flatMap fun o => checkRecord s o.1 o.2.1 o.2.2))

/-- CommissioningState of the two values (R390). -/
def commissioningState (s : State) : Nat :=
  if cfg s 0x7000 2 = 0 then 0
  else if cfg s 0x7000 2 = s.safety.computed.toNat then 1 else 2

/-- CeilingSource while the factory ceiling is in force (R391). -/
def factorySource (s : State) : Nat := if s.safeBeam.copy.isSome && !s.safeBeam.ceilingValid then 2 else 1

/-- In Run CommissioningState follows the values (R390): with 0x01 the written set governs from the next frame
boundary. -/
def judgeCommissioning (s : State) : State :=
  let n := commissioningState s
  let s1 := onSafety (fun x => { x with state := n }) s
  if n = 1 then { s1 with ceiling := { s1.ceiling with sourceNext := 0 } } else s1

/-- At an SM start the comparison chooses the ceiling (R390). -/
def startCommissioning (s : State) : State :=
  let s1 := onSafety (fun x => { x with computed := checkValue s }) s
  let n := commissioningState s1
  let c := if n = 1 then 0 else factorySource s1
  { onSafety (fun x => { x with state := n }) s1 with
    ceiling := { s1.ceiling with source := c, sourceNext := c } }

/-- COMMISSIONING_CHECK_COMPUTED (R388, R390): the SM has computed the value of the set as it stands. -/
def execCommissioningCheckComputed (s : State) : Host.Outcome State Fault Refusal :=
  .next (if isOn s .safe && s.journal.scanned then
    let s1 := onSafety (fun x => { x with computed := checkValue s }) s
    if s.safety.startPassed then judgeCommissioning s1 else s1
  else s)

/-- SAFE_BEAM_COPY_DONE (R28, R29, R359, R391): the loader has copied the area; pattern and factory ceiling are
judged, and ports that waited for it may be enabled again. -/
def execSafeBeamCopyDone (s : State) : Host.Outcome State Fault Refusal :=
  .next (if isOn s .pix && isOn s .safe && s.safeBeam.copying then
    let s1 := { s with safeBeam := { s.safeBeam with
      copy := some s.nvm.area, copying := false, repairing := []
      valid := patternValid s.nvm.area, ceilingValid := factoryValid s.nvm.area } }
    if s1.ceiling.source = 0 then s1
    else { s1 with ceiling := { s1.ceiling with
      source := factorySource s1
      sourceNext := if s1.ceiling.sourceNext = 0 then 0 else factorySource s1 } }
  else s)

end Sys2Proof.Machine
end

