-- ==== Sys2Proof/Machine/Ddb.lean ====
section
/-!
DEFINITION. Ddb.lean: the die-to-die bridge (R16, R17, R357).

The manual lays out the payload of a Waybill frame only; of the other types a die keeps the accepted payload.
-/

namespace Sys2Proof.Machine

open Sys2Proof

/-- Applies `f` to the fault state. -/
def onFaults (f : Faults → Faults) (s : State) : State := { s with faults := f s.faults }

/-- Type of a frame (R16). -/
def ddbType (frame : BitVec 80) : Nat := bitsOf frame.toNat 76 4

/-- Sequence of a frame (R16). -/
def ddbSequence (frame : BitVec 80) : BitVec 4 := BitVec.ofNat 4 (bitsOf frame.toNat 72 4)

/-- Payload of a frame (R16). -/
def ddbPayload (frame : BitVec 80) : Nat := bitsOf frame.toNat 16 56

/-- The frame's CRC is right (R16): over bits [79:16] from bit 79 downward. -/
def ddbCrcGood (frame : BitVec 80) : Bool :=
  crc16Bits (msbBits 64 (frame.toNat / 65536)) == frame.toNat % 65536

/-- The sequence that a frame must carry (R16): it steps with every non-idle frame, so an idle frame repeats it
(log 63). -/
def ddbFollows (s : State) (die : Die) (frame : BitVec 80) : Bool :=
  let heard := (ddbEnd s die).heard
  ddbSequence frame == if ddbType frame = 0 then heard else heard + 1

/-- A die answers a frame that failed its check with a negative acknowledge (R17). The manual gives its payload no
layout, and the model sends 0 in all 56 bits (log 63). -/
def owesNak (die : Die) (s : State) : State := ddbSend die 0x7 0 s

/-- A non-idle frame is accepted: its sequence and its type and payload are kept. -/
def acceptDdb (die : Die) (frame : BitVec 80) (s : State) : State :=
  onDdb die (fun e => { e with
    heard := ddbSequence frame
    last := BitVec.ofNat 60 (ddbType frame * 2 ^ 56 + ddbPayload frame) }) s

/-- What a die has sent has got through (R17). The manual names no acknowledge, so a valid frame other than a negative
acknowledge is taken as the sign (log 64). -/
def sendsGood (die : Die) (s : State) : State := onDdb die (fun e => { e with waiting := [] }) s

/-- A valid frame ends the condition of the DDB fault (R17). -/
def bridgeHeard (s : State) : State := clearCondition 0x05 0x04 s

/-- A frame of type `ty` arrives at a die (R16, R17): one that fails its CRC or its sequence is answered with a
negative acknowledge, and `act` takes an accepted one. A frame of a reserved type is discarded; as a non-idle frame it
takes its step of the sequence (log 63). -/
def receiveDdb (ty : Nat) (die : Die) (frame : BitVec 80) (act : State → State) (s : State) : State :=
  if !ddbRuns s then s
  else if !ddbCrcGood frame || !ddbFollows s die frame then owesNak die s
  else if ddbType frame ≥ 8 then onDdb die (fun e => { e with heard := ddbSequence frame }) (bridgeHeard s)
  else if ddbType frame ≠ ty then s
  else act (bridgeHeard (acceptDdb die frame s))

/-- A frame other than a Waybill's parts breaks off a record in progress (R357). -/
def breakRecord (die : Die) (s : State) : State :=
  onDdb die (fun e => { e with parts := if e.parts.length < 3 then [] else e.parts }) s

/-- A frame whose payload the manual leaves to the dies. -/
def plainDdb (ty : Nat) (die : Die) (frame : BitVec 80) (s : State) : Host.Outcome State Fault Refusal :=
  .next (receiveDdb ty die frame (fun s => breakRecord die (sendsGood die s)) s)

/-- DDB_READ_REQUEST (R16). -/
def execDdbReadRequest (die : Die) (frame : BitVec 80) (s : State) : Host.Outcome State Fault Refusal :=
  plainDdb 0x1 die frame s

/-- DDB_READ_RESPONSE (R16). -/
def execDdbReadResponse (die : Die) (frame : BitVec 80) (s : State) : Host.Outcome State Fault Refusal :=
  plainDdb 0x2 die frame s

/-- DDB_WRITE (R16). -/
def execDdbWrite (die : Die) (frame : BitVec 80) (s : State) : Host.Outcome State Fault Refusal :=
  plainDdb 0x3 die frame s

/-- DDB_WRITE_ACKNOWLEDGE (R16). -/
def execDdbWriteAcknowledge (die : Die) (frame : BitVec 80) (s : State) : Host.Outcome State Fault Refusal :=
  plainDdb 0x4 die frame s

/-- DDB_EVENT (R16). -/
def execDdbEvent (die : Die) (frame : BitVec 80) (s : State) : Host.Outcome State Fault Refusal :=
  plainDdb 0x6 die frame s

/-- A part of a Waybill record (R357): parts 0, 1 and 2 in order; a part out of order discards the record in progress,
and a part 0 starts the next one. -/
def takePart (payload : Nat) (parts : List (BitVec 52)) : List (BitVec 52) :=
  let k := bitsOf payload 54 2
  let chunk : BitVec 52 := BitVec.ofNat 52 payload
  if k = 0 then [chunk]
  else if k < 3 ∧ parts.length = k then parts ++ [chunk]
  else []

/-- A part comes out of order (R357): it is not part 0 and not the next one of the record in progress. -/
def partOutOfOrder (payload : Nat) (parts : List (BitVec 52)) : Bool :=
  let k := bitsOf payload 54 2
  k == 3 || (k != 0 && parts.length != k)

/-- DDB_WAYBILL (R357): after a part out of order a negative acknowledge asks for all three parts again (log 63). -/
def execDdbWaybill (die : Die) (frame : BitVec 80) (s : State) : Host.Outcome State Fault Refusal :=
  .next (receiveDdb 0x5 die frame (fun s =>
    let s1 := onDdb die (fun e => { e with parts := takePart (ddbPayload frame) e.parts }) (sendsGood die s)
    if partOutOfOrder (ddbPayload frame) (ddbEnd s die).parts then owesNak die s1 else s1) s)

/-- One more failed send of the frame that waits at place `i` (R17): it is repeated, with its sequence, after the first
three. -/
def frameFailed (die : Die) (i : Nat) (s : State) : State :=
  match (ddbEnd s die).waiting[i]? with
  | none => s
  | some (f, n) =>
    let s1 := onDdb die (fun e => { e with waiting := e.waiting.modify i fun x => (x.1, x.2 + 1) }) s
    if n ≥ 3 then s1
    else
      onDdb die (fun e => { e with sent := e.sent ++ [f] })
        (onFaults (fun x => { x with ddbRetries := count32 x.ddbRetries }) s1)

/-- The Waybill record whose part waits at place `i` was discarded (R357): its three parts are sent again. -/
def recordFailed (die : Die) (i : Nat) (s : State) : State :=
  let waiting := (ddbEnd s die).waiting
  match waiting[i]? with
  | none => s
  | some (f, _) =>
    if ddbType f ≠ 5 then s
    else
      let first := i - bitsOf (ddbPayload f) 54 2
      let parts := ((waiting.drop first).take 3).map (·.1)
      parts.foldl (fun s f => ddbSend die 0x5 (ddbPayload f) s)
        (onDdb die (fun e => { e with waiting := waiting.take first ++ waiting.drop (first + 3) })
          (onFaults (fun x => { x with ddbRetries := count32 x.ddbRetries }) s))

/-- The die acts on what a negative acknowledge says has failed (R17, R357). -/
def sendFailed (die : Die) (failed : DdbFailure) (s : State) : State :=
  match failed with
  | .frame i => frameFailed die i s
  | .record i => recordFailed die i s

/-- The frame that the acknowledge names has failed four times (R17). -/
def failedForGood (s : State) (die : Die) (failed : DdbFailure) : Bool :=
  match failed with
  | .frame i => ((ddbEnd s die).waiting[i]?.map (·.2)).getD 0 ≥ 4
  | .record _ => false

/-- A die raises the fault of the bridge (R17, R353). A fault that the LD end finds goes to the Caravan line and to CAN_A
at once, because the bridge that would carry it has failed; the SM has no part in that Waybill (log 165). -/
def raiseBridge (die : Die) (s : State) : State :=
  let s1 := raiseKind 0x05 {} s
  match s1.faults.unacked.find? fun r => r.unit == 0x04 && r.kind == 0x05 with
  | none => s1
  | some r =>
    if die == .ad || isActive s 0x05 0x04 then s1
    else
      canWaybill s1.power.options.nodeId r.waybill (caravanWaybill r.waybill
        (onFaults (fun f => { f with unacked := f.unacked.filter fun x => x != r }) s1))

/-- DDB_NEGATIVE_ACKNOWLEDGE (R17): the die repeats its frame; the fourth failed send of it raises kind 0x05. -/
def execDdbNegativeAcknowledge (die : Die) (nak : DdbNak) (s : State) : Host.Outcome State Fault Refusal :=
  .next (receiveDdb 0x7 die nak.frame (fun s =>
    let t := sendFailed die nak.failed s
    if failedForGood t die nak.failed then raiseBridge die t else t) s)

/-- Silence of the bridge is a fault of a die (R17): the die is powered, and CORE is on, or is off for another reason
than its votes or a thermal shutdown. -/
def silenceCounts (s : State) (die : Die) : Bool :=
  match die with
  | .ld => ddbRuns s
  | .ad => !inReset s && isOn s .safe
      && (isOn s .core || (s.aon.supplyOff && !s.aon.ldShutdown && !s.aon.adShutdown))

/-- DDB_SILENCE_TIMEOUT (R17): no valid frame for 2 µs. -/
def execDdbSilenceTimeout (die : Die) (s : State) : Host.Outcome State Fault Refusal :=
  .next (if silenceCounts s die then raiseBridge die s else s)

/-- DDB_IDLE_FRAME (R16): an idle frame is checked, and takes no step of the sequence. -/
def execDdbIdleFrame (die : Die) (frame : BitVec 80) (s : State) : Host.Outcome State Fault Refusal :=
  .next (if !ddbRuns s then s
    else if !ddbCrcGood frame || !ddbFollows s die frame then owesNak die s
    else if ddbType frame ≠ 0 then s
    else bridgeHeard s)

end Sys2Proof.Machine
end

