-- ==== Sys2Proof/Machine/Relations.lean ====
section
/-!
DEFINITION. Relations.lean: the checks that join several objects (R283, R310, R410 and the joint ranges of R183 and
R346).
-/

namespace Sys2Proof.Machine

open Sys2Proof

/-- An array threshold of a port in °C (R282, R283). -/
def arrayLevel (s : State) (p : Port) (sub : Nat) : Int := toSigned 16 (cfg s (0x6010 + p.num) sub)

/-- The six array thresholds of a port are in order (R283). -/
def thresholdsOrdered (s : State) (p : Port) : Bool :=
  let t := arrayLevel s p
  decide (t 0x0B < t 0x0A) && decide (t 0x0A ≤ t 0x0C) && decide (t 0x0D < t 0x0C) && decide (t 0x0C < t 0x0E)
    && decide (t 0x0F < t 0x0E)

/-- A resistance and a capacity of a port give a time constant of 10.24 ms or more (R310): in 0.01 K/W and mJ/K,
products of 1,024 or more. -/
def slowEnough (s : State) (p : Port) (r c : Nat) : Bool :=
  decide (cfg s (0x6010 + p.num) r * cfg s (0x6010 + p.num) c ≥ 1024)

/-- The thermal model of a port is stable (R310). -/
def modelStable (s : State) (p : Port) : Bool := slowEnough s p 1 2 && slowEnough s p 3 4 && slowEnough s p 5 6

/-- The levels of the sinks' diagnosis keep their distances (R410). -/
def auxLevelsApart (s : State) : Bool :=
  decide (cfg s 0x5000 6 > cfg s 0x5000 2 + 200) && decide (cfg s 0x5000 4 > cfg s 0x5000 2 + 1000)

/-- The limits of the supply code of a port are in order (R183). -/
def vsetOrdered (s : State) (p : Port) : Bool := decide (cfg s (0x4300 + p.num) 4 ≤ cfg s (0x4300 + p.num) 5)

/-- HeadroomMin of a port is at most its target (R183). -/
def headroomOrdered (s : State) (p : Port) : Bool := decide (cfg s (0x4300 + p.num) 2 ≤ cfg s (0x4300 + p.num) 1)

/-- The comparator limits of a port are in order (R346). -/
def compOrdered (s : State) (p : Port) : Bool := decide (cfg s (0xB100 + p.num) 0x10 + 2 ≤ cfg s (0xB100 + p.num) 0x11)

/-- An Almanac entry of the integrator can be taken (R58 to R60, R293). -/
def entryValid (v : Nat) : Bool :=
  let action := bitsOf v 86 6
  let target := bitsOf v 40 16
  let arg := bitsOf v 0 32
  let range :=
    match action with
    | 0x00 => target == 0 && arg == 0
    | 0x01 => decide (target < 28) && target != 23 && arg == 0
    | 0x02 => decide (target < 16) && decide (1 ≤ arg) && decide (arg ≤ 4096)
    | 0x03 => target == 0 && arg == 0
    | 0x04 => target == 0 && arg == 0
    | 0x05 =>
      target == 0 && decide (arg < 2 ^ 18)
        && (if arg / 65536 = 3 then decide (1 ≤ arg % 65536) && decide (arg % 65536 ≤ 4096) else arg % 65536 == 0)
    | 0x06 => target == 0
    | _ => false
  decide (bitsOf v 56 8 ≤ bitsOf v 64 8) && range

/-- The relations that a write of an object must keep, in the state as it would stand (R183, R283, R310, R346, R410). -/
def relationsKept (s : State) (index sub : Nat) : Bool :=
  let p := Port.ofNum (index % 4)
  if 0x6010 ≤ index ∧ index < 0x6014 then
    (if sub ≤ 6 then modelStable s p else if 0x0A ≤ sub then thresholdsOrdered s p else true)
  else if index = 0x5000 then (sub != 2 && sub != 4 && sub != 6) || auxLevelsApart s
  else if 0x4300 ≤ index ∧ index < 0x4304 then
    (if sub = 2 then headroomOrdered s p else if sub = 4 ∨ sub = 5 then vsetOrdered s p else true)
  else if 0xB100 ≤ index ∧ index < 0xB104 then (sub != 0x10 && sub != 0x11) || compOrdered s p
  else true

/-- The values that stand once every queued write has been committed (R276). -/
def withQueued (s : State) : State :=
  s.journal.queue.foldl (fun s w => if w.kind = 1 then setCfg w.index w.sub w.value s else s) s

/-- The objects of an index take their defaults, each counted in RestoreDefaultCount (R277, R283). -/
def defaultObjects (index : Nat) (subs : List Nat) (s : State) : State :=
  subs.foldl (fun s sub =>
    let s1 := setCfg index sub (defaultOf s index sub) s
    { s1 with dict := { s1.dict with restoreCount := count32 s1.dict.restoreCount } }) s

/-- The joint checks on one port after a restore (R277, R283): a set that breaks its relation takes its defaults. -/
def restorePort (s : State) (p : Port) : State :=
  let s1 := if thresholdsOrdered s p then s
    else defaultObjects (0x6010 + p.num) [0x0A, 0x0B, 0x0C, 0x0D, 0x0E, 0x0F] s
  let s2 := if modelStable s1 p then s1 else defaultObjects (0x6010 + p.num) [1, 2, 3, 4, 5, 6] s1
  let s3 := if vsetOrdered s2 p then s2 else defaultObjects (0x4300 + p.num) [4, 5] s2
  let s4 := if headroomOrdered s3 p then s3 else defaultObjects (0x4300 + p.num) [1, 2] s3
  if compOrdered s4 p then s4 else defaultObjects (0xB100 + p.num) [0x10, 0x11] s4

/-- The joint checks after a restore (R277). -/
def restoreRelations (s : State) : State :=
  let s1 := if auxLevelsApart s then s else defaultObjects 0x5000 [2, 4, 6] s
  Port.all.foldl restorePort s1

end Sys2Proof.Machine
end

