-- ==== Sys2Proof/Machine/Reset.lean ====
section
/-!
DEFINITION. Reset.lean: the reset sources and their orders (R416 to R423), the option load (R424 to R429), the domains'
power-up (R430, R437 to R440), supplies (R433, R434), die shutdowns (R303 to R305), wake and Stop (R443 to R445).
-/

namespace Sys2Proof.Machine

open Sys2Proof

/-! ## The two sources (R416 to R422) -/

/-- Kinds that a RESET_N keeps: the latched ones (R365) and a die shutdown (R422); the conditions of the others went
with their units. -/
def keptKinds (s : State) : List ActiveKind :=
  (s.faults.active.filter fun a => isLatched s a.kind || a.kind == 0x2F).map fun a =>
    { a with absent := a.absent || !(a.kind == 0x2F || a.kind == 0x38) }

/-- The parts of the AON as a RESET_N leaves them (R418): an interrupted commit is noted (R370), and a supply
forced-off state ends unless it is latched (R433). -/
def aonHeld (s : State) : Aon :=
  let off := s.aon.supplyOff && isLatched s 0x38
  { s.aon with
    commitInterrupted := match s.journal.commit with
      | some c => some c
      | none => s.aon.commitInterrupted
    supplyOff := off
    frozen := if off || s.aon.ldShutdown || s.aon.adShutdown then s.aon.frozen else none
    laneOff := if isLatched s 0x38 then s.aon.laneOff else none
    smContext := false }

/-- The power state while a reset holds: every domain but AON off, and what the reset met (R421, R423). -/
def powerHeld (por : Bool) (s : State) : Power :=
  { State.reset.power with
    por := por, resetPin := !por, seenPor := por, seenPin := !por
    loadRunning := false
    loadAborted := s.power.loadRunning
    inStopReset := !por && inStop s
    inShutReset := !por && (s.aon.ldShutdown || s.aon.adShutdown || s.aon.supplyOff || s.aon.laneOff.isSome)
    safe := .off }

/-- The keys of the wake configuration that the AON holds (R418): WakePinEnable and SbpWakeEnable. -/
def isWakeKey (k : Nat) : Bool := k == objKey 0x8000 7 || k == objKey 0x1400 3

/-- A reset is asserted (R418, R419): everything but NVM and AON takes its reset state; work in progress is cut (R422). -/
def holdParts (por : Bool) (s0 : State) : State :=
  let s := cutNvm s0
  { State.reset with
    variant := s.variant
    nvm := s.nvm
    aon := aonHeld s
    power := powerHeld por s
    units := { State.reset.units with sm := .off }
    link := s.link.map fun _ l => { fault := l.fault }
    hk := { thermal := [if s.aon.ldShutdown && !por then .shutdown else .normal,
      if s.aon.adShutdown && !por then .shutdown else .normal, .normal, .normal, .normal, .normal] }
    faults := { active := if por then [] else keptKinds s }
    sinks := if por then {} else heldSinks s
    dict := { State.reset.dict with values := if por then [] else s.dict.values.filter fun e => isWakeKey e.1 }
    host := { sbp := if por then {} else s.host.sbp }
    update := { heldUpdate s with lastRejection := if por then 0 else s.update.lastRejection }
    free := s.free
    pending := s.pending }

/-- A source is asserted: the first begins the reset; a second one joins it (R420). -/
def assertSource (por : Bool) (s : State) : State :=
  if inReset s then
    { onPower (fun w => { w with
        por := w.por || por, resetPin := w.resetPin || !por
        seenPor := w.seenPor || por, seenPin := w.seenPin || !por
        firstPor := w.firstPor && !por, firstPin := w.firstPin && por }) s with
      faults := if por then {} else s.faults
      dict := if por then {} else s.dict
      host := { sbp := if por then {} else s.host.sbp }
      update := if por then { s.update with lastRejection := 0 } else s.update }
  else settle (holdParts por s)

/-- POR_ASSERT (R416, R418). -/
def execPorAssert (s : State) : Host.Outcome State Fault Refusal := .next (assertSource true s)

/-- RESET_N_ASSERT (R417, R418). -/
def execResetNAssert (s : State) : Host.Outcome State Fault Refusal := .next (assertSource false s)

/-- The AON after a POR (R418, R420): cleared, with ResetCause (R423); the shutdown of a die and of a sink group ends with
what the AON held of it. What a RESET_N has met stays in ResetCause (R423). -/
def clearAon (cause : Nat) (s : State) : State :=
  let met := 2048 * ofBool s.power.loadAborted + 1024 * ofBool s.power.inStopReset + 512 * ofBool s.power.inShutReset
  { s with
    aon := { resetCause := BitVec.ofNat 16 (cause + met) }
    hk := {}
    sinks := {} }

/-- The sequence of a reset begins (R425, R430): SAFE leaves reset, the option load runs, and the host's vote has its
default. -/
def startSequence (por : Bool) (s : State) : State :=
  { s with
    power := { State.reset.power with
      bootCause := if por then 1 else 2
      inStopReset := s.power.inStopReset, inShutReset := s.power.inShutReset, loadAborted := s.power.loadAborted }
    units := State.reset.units }

/-- ResetCause after a RESET_N alone (R423). -/
def pinCause (s : State) : BitVec 16 :=
  BitVec.ofNat 16
    (2 ^ 14 + 2 ^ 11 * ofBool s.power.loadAborted + 2 ^ 10 * ofBool s.power.inStopReset
      + 2 ^ 9 * ofBool s.power.inShutReset + satAdd 8 (bitsOf s.aon.resetCause.toNat 0 8) 1)

/-- Both sources have been asserted and are released in one AON cycle (R420 case 5). -/
def releaseTogether (s : State) : State := startSequence true (clearAon 0xF000 s)

/-- POR_RELEASE (R420, cases 1, 3, 4 and 5). -/
def execPorRelease (sameCycle : Bool) (s : State) : Host.Outcome State Fault Refusal :=
  .next (if !s.power.por then s
    else if s.power.resetPin then
      (if sameCycle then releaseTogether s
       else clearAon 0xC000 (onPower (fun w => { w with por := false, firstPor := true }) s))
    else startSequence true (clearAon (if s.power.firstPin then 0xE000 else 0x8000) s))

/-- RESET_N_RELEASE (R420, cases 2 to 5). -/
def execResetNRelease (sameCycle : Bool) (leap : Nat) (s : State) : Host.Outcome State Fault Refusal :=
  .next (if !s.power.resetPin then s
    else if s.power.por then
      (if sameCycle then releaseTogether s
       else onPower (fun w => { w with resetPin := false, firstPin := true }) s)
    else if s.power.firstPor then
      startSequence true (countLeap leap { s with aon := { s.aon with
        resetCause := BitVec.ofNat 16 (s.aon.resetCause.toNat % 4096 + 0xD000) } })
    else
      startSequence false (countLeap leap { s with aon := { s.aon with resetCause := pinCause s } }))

/-! ## The option block (R424 to R426) -/

/-- Byte `i` of an option copy. -/
def optByte (b : BitVec 1024) (i : Nat) : Nat := byteOf b.toNat i

/-- The bytes of a group's aux defaults are in range (R424). -/
def auxGroupValid (b : BitVec 1024) (g : Nat) : Bool :=
  let o := 22 + 5 * g
  decide (optByte b o < 64) && decide (optByte b (o + 2) + 256 * optByte b (o + 3) ≤ 4095)
    && decide (1 ≤ optByte b (o + 4)) && decide (optByte b (o + 4) ≤ 16)

/-- VsetSafe of a port (R424). -/
def optVset (b : BitVec 1024) (p : Port) : Nat := halfOf (b.toNat / 2 ^ 64) p.num

/-- A copy is valid (R424). -/
def optionValid (b : BitVec 1024) : Bool :=
  decide (b.toNat / 2 ^ 992 = crc32Of 124 (b.toNat % 2 ^ 992))
    && optByte b 0 == 0x5C && optByte b 1 == 0x0A && optByte b 2 == 1
    && decide (optByte b 3 < 16) && decide (optByte b 4 < 16)
    && decide (0x08 ≤ optByte b 6) && decide (optByte b 6 ≤ 0x77)
    && decide (optByte b 7 ≤ 2)
    && (Port.all.all fun p => decide (optVset b p ≤ 1023) || optVset b p == 0xFFFF)
    && ((List.range 4).all fun g => auxGroupValid b g)
    && decide (optByte b 42 / 2 % 8 = 0)
    && decide (bitsOf b.toNat (8 * 43) (8 * 81) = 0)

/-- The aux defaults of a group: reference, current code, duty, divider (R424). -/
def optGroup (b : BitVec 1024) (g : Nat) : Nat × Nat × Nat × Nat :=
  let o := 22 + 5 * g
  (optByte b o, optByte b (o + 1), optByte b (o + 2) + 256 * optByte b (o + 3), optByte b (o + 4))

/-- The shadow registers that a valid copy gives (R424). -/
def optionsOf (b : BitVec 1024) : Options :=
  let f := optByte b 3
  { strapCompat := bitOf f 0, crystal := bitOf f 1, beamHoldsRun := bitOf f 2, legacy := bitOf f 3
    nodeId := optByte b 4, canBase := optByte b 5, sbpAddress := optByte b 6, bootSource := optByte b 7
    vsetSafe := ⟨optVset b .a, optVset b .b, optVset b .c, optVset b .d⟩
    auxEnable := bitsOf b.toNat (8 * 16) 48
    auxGroups := (List.range 4).map (optGroup b)
    wakeActiveLow := bitOf (optByte b 42) 0
    wakeFilter := optByte b 42 / 16 }

/-- The choice of R426: OptionCopyUsed, the options and the fault kind. -/
def chooseOptions (s : State) : Nat × Options × Option Nat :=
  if optionValid s.nvm.optionA then (0, optionsOf s.nvm.optionA, none)
  else if optionValid s.nvm.optionB then (1, optionsOf s.nvm.optionB, some 0x3B)
  else (2, {}, some 0x3C)

/-! ## The strap (R428, R429) -/

/-- The strap voltage of a conversion in µV, by the ground and band-gap codes measured with it (R294, R428). -/
def strapMicrovolts (c : StrapCodes) (raw : Nat) : Nat :=
  let span : Int := (c.bg : Int) - c.gnd
  let code := if span = 0 then Config.adcUnstated raw c.gnd else roundQuot (((raw : Int) - c.gnd) * 3072) span
  (clampInt 0 4095 code).toNat * 390625 / 1000

/-- The strap code of a conversion (R428). -/
def strapCodeOf (c : StrapCodes) (raw : Nat) : Nat := min 15 (strapMicrovolts c raw / 75000)

/-- The code of the measurement: a third conversion decides a disagreement (R428). -/
def strapCode (c : StrapCodes) : Nat :=
  if strapCodeOf c c.c1 = strapCodeOf c c.c2 then strapCodeOf c c.c1 else strapCodeOf c c.c3

/-- What a strap code overrides (R429). -/
def applyStrap (k : Nat) (o : Options) : Options :=
  if k < 8 then { o with nodeId := k, bootSource := 0, legacy := false }
  else if k < 12 then { o with nodeId := k - 8, bootSource := 0, legacy := true }
  else if k = 12 then { o with nodeId := 0, bootSource := 1, legacy := false }
  else if k = 13 then { o with nodeId := 0, bootSource := 2, legacy := false }
  else if k = 14 then { o with legacy := true }
  else o

/-- OPTION_LOAD_COMMIT (R425, R426): every shadow register is written at once, and CORE begins to power up. -/
def execOptionLoadCommit (strap : StrapCodes) (s : State) : Host.Outcome State Fault Refusal :=
  .next (if inReset s || !s.power.loadRunning then s
    else
      let c := chooseOptions s
      let o := if c.2.1.strapCompat then applyStrap (strapCode strap) c.2.1 else c.2.1
      let s1 := { s with
        power := { s.power with
          loadRunning := false, options := o, optionCopyUsed := c.1
          strapCode := if c.2.1.strapCompat then strapCode strap else 0xFF }
        aon := { s.aon with options := o } }
      let s2 := match c.2.2 with
        | some k => raiseKind k {} s1
        | none => s1
      powerUpVoted s2)

/-! ## Journalled values (R277) -/

/-- The domain whose unit holds an object of B000h: the SRAM, the DRAM controller, the bridge, the SM (R14, R289). -/
def counterDomain (sub : Nat) : Domain :=
  if sub = 1 then .pix else if sub < 5 then .dram else if sub < 0x10 then .core else .safe

/-- The domain whose unit holds an object (R14, R275). -/
def objectDomain (index sub : Nat) : Domain :=
  if index = 0xB000 then counterDomain sub
  else if index < 0x2000 then .core
  else if index < 0x2200 then .pix
  else if index < 0x2300 then .link
  else if index < 0x4200 then .pix
  else if index < 0x4400 then .core
  else if index < 0x5000 then .pix
  else if index < 0x6000 then .aux
  else if index < 0x6100 then .core
  else if index < 0x8000 then .safe
  else if index < 0xA000 then .core
  else if index < 0xB000 then .pix
  else if index < 0xB100 then .core
  else .link

/-- The object of a key is journalled. -/
def keyJournalled (k : Nat) : Bool := ((findObject (k / 256) (k % 256)).map (·.journal)).getD false

/-- The objects of a domain that are not journalled take their defaults (R275). -/
def dropVolatile (d : Domain) (s : State) : State :=
  { s with dict := { s.dict with
      values := s.dict.values.filter fun e => keyJournalled e.1 || objectDomain (e.1 / 256) (e.1 % 256) != d } }

/-- The records of the journal: those of the active bank, and before its scan those that the scan will find (R489). -/
def journalRecords (s : State) : List JRecord :=
  if s.journal.scanned then (activeBank s).records
  else scannedRecords (if chooseBank s = 1 then s.nvm.bank1 else s.nvm.bank0)

/-- The value that the journal holds of an object, its default where a restore mark names it (R277, R278). -/
def journalValue (s : State) (index sub : Nat) : Nat :=
  let rs := journalRecords s
  if markNames (restoreMark rs) index sub then defaultOf s index sub
  else match standingOf rs index sub with
    | some r => r.value
    | none => defaultOf s index sub

/-- The value keeps the layout given for its BLOB, or the layouts of the variant (R1, R58, R102, R155, R266). -/
def layoutKept (v : Variant) (index sub value : Nat) : Bool :=
  if index = 0x2000 ∧ sub = 1 then layoutSupported v value
  else if 0x2100 ≤ index ∧ index < 0x2104 then !meshFolds value
  else if 0x4010 ≤ index ∧ index < 0x4014 ∧ sub = 1 then curveShaped value
  else if 0xA100 ≤ index ∧ index < 0xA104 then entryValid value
  else true

/-- The value of a record is in the range of its object, or in its layout (R266, R277). -/
def recordFits (v : Variant) (r : JRecord) : Bool :=
  match findObject r.index r.sub with
  | some o => o.journal && inRange o.range o.size r.value && layoutKept v r.index r.sub r.value
  | none => false

/-- One standing record is restored, or discarded and counted (R277). -/
def restoreRecord (level : Nat) (s : State) (r : JRecord) : State :=
  if markNames level r.index r.sub then s
  else if recordFits s.variant r then setCfg r.index r.sub r.value s
  else { s with dict := { s.dict with restoreCount := count32 s.dict.restoreCount } }

/-- The values of 7000h to 7FFFh before the SM's scan: their defaults, which a restore mark leaves (R275, R277). -/
def clearSafetySet (s : State) : State :=
  { s with dict := { s.dict with
      values := s.dict.values.filter fun e => !(decide (0x700000 ≤ e.1) && decide (e.1 < 0x800000)) } }

/-- The object records that stand in the active bank are restored, those of the safety set by the SM's scan and the
others, with their joint checks, by the CP (R277, R283, R388, R489). -/
def restoreObjects (safety : Bool) (s : State) : State :=
  let rs := journalRecords s
  let s1 := ((standing rs).filter fun r =>
    r.kind == 1 && (inSafetySet r.index r.sub || r.index == 0x7000) == safety).foldl
      (restoreRecord (restoreMark rs)) s
  if safety then s1 else restoreRelations s1

/-! ## Power-up of a domain (R440) -/

/-- VDD_CORE and VDD_PLL, which hold a power-up of CORE off, do not lie below their warning limits (R434). -/
def coreSupplied (s : State) : Bool := [1, 2].all fun k => !(supplyOf s k).low && !(supplyOf s k).outside

/-- The CP starts to boot and holds its vote, unless only the MSS runs (R424, R435, R440). -/
def bootCp (s : State) : State :=
  if s.power.options.bootSource = 2 then s
  else onVotes (fun v => { v with cp := v.cp ||| 0x04 }) (onUnits (fun u => { u with cp := .booting, cpColdBoot := true }) s)

/-- The Caravan logic from the power-up of CORE on (R448): the head's position is 0. -/
def ringUp (s : State) : Caravan :=
  let on := journalValue s 0x8000 0x10 == 1
  let head := on && s.power.options.nodeId == 0
  { enabled := on, state := ofBool on
    position := if head then some 0 else none
    size := 0 }

/-- The frame rate before the CP restores the written one: the default of the variant (R52, R275). -/
def startRate (s : State) : Nat := defaultOf s 0x8100 1

/-- The start of an SM that began while DT stood still counts from the time that comes back (R382). -/
def noteSmStart (s : State) : State :=
  { s with safety := { s.safety with smStart := some (s.safety.smStart.getD (dtNow s)) } }

/-- The cause of the boot that follows a power-up of CORE; that of a supply recovery has no code and is free (R367, log
127). -/
def takeBootCause (s : State) : Nat × State :=
  if s.power.bootCause = 0 then
    let d := drawFree s
    (d.1 % 256, d.2)
  else (s.power.bootCause, s)

/-- CORE is powered (R440): values outside the safety set and the AON's wake configuration wait for the CP's restore, time
comes back from the shadow (R55), HostVote takes its default, and the boot is entered (R367). The mask count starts at 0 with
every power-up of CORE, also after a supply recovery (R433), which R63 does not list among its restarts (log 160). -/
def coreUp (s : State) : State :=
  let s0 := requalifyLd s
  let s1 := { s0 with
    dict := { s.dict with
      values := s.dict.values.filter fun e =>
        (decide (0x700000 ≤ e.1) && decide (e.1 < 0x800000)) || isWakeKey e.1 }
    almanac := { s.almanac with restart := true }
    caravan := ringUp s
    scan := { rate := startRate s, period := periodOf (startRate s) 0 } }
  let s2 := if s.power.bootCause = 1 then s1
    else if s.power.bootCause = 4 then
      restoreTime (publishLeap (journalValue s 0x8200 5) (journalValue s 0x8200 6) s1)
    else restoreTime s1
  let s3 := bootCp (onVotes (fun v => { v with host := allDomains, cal := 0, caravan := 0 }) (noteSmStart s2))
  let c := takeBootCause s3
  onPower (fun w => { w with bootCause := 4 }) (writeBoot c.1 0 c.2)

/-- The image of the calibration map and the status map from the master calibration record (R170, R329). -/
def loadMaps (s : State) : State :=
  let words := (s.drive.master.map fun m => (m.pixel, recordWord m)).filter fun e => e.2 != defaultWord
  let ofPort := fun p (m : MasterPixel) => decide (m.pixel / 524288 = Port.num p) && decide (m.status ≠ 0)
  { s with
    drive := { s.drive with calMap := words.foldl (fun t e => putEntry e.1 e.2 t) [] }
    manifest := { s.manifest with calLoaded := true }
    safeBeam := { s.safeBeam with
      excluded := (words.filter fun e => wordExcluded e.2).map (·.1) }
    pixels := s.pixels.map fun p x => { x with
      status := (s.drive.master.filter (ofPort p)).foldl
        (fun t m => tablePut 0 (m.pixel % 524288) (m.status % 16) t) x.status } }

/-- The inversion of every mesh other than the identity starts (R102). -/
def invertMeshes (s : State) : State :=
  (portsOf s.variant).foldl (fun s p =>
    let m := cfg s (0x2100 + p.num) 1
    if m = identityMesh then s else startInversion p m s) s

/-- PIX is powered (R28, R137, R145, R170, R440): the loader copies the safe beam, and a CP that runs inverts the
meshes again (R102) and writes the step tables (R156). -/
def pixUp (s : State) : State :=
  let s1 := dropVolatile .pix { s with
    safeBeam := {}
    manifest := { racing := cfg s 0x3000 5 == 1 }
    almanac := { s.almanac with
      enabled := cfg s 0xA000 1 == 1 } }
  if cpReady s1 then (portsOf s1.variant).foldl (fun s p => rebuildSteps p s) (invertMeshes s1) else s1

/-- LINK is powered: every LS of the variant boots (R440). -/
def linkUp (s : State) : State :=
  let s1 := dropVolatile .link s
  onUnits (fun u => { u with
    ls := u.ls.map fun p _ => if hasPort s p then .booting else .off }) s1

/-- AUX is powered: the sinks run at the option defaults, and from the next period boundary at the restored settings when
the CP runs (R402). -/
def auxUp (s : State) : State :=
  let s1 := (List.range 4).foldl (fun s g => applyGroup g s) (dropVolatile .aux { s with
    sinks := { s.sinks with restored := false, applied := false } })
  { s1 with sinks := { s1.sinks with restored := cpReady s1 } }

/-- A domain's units leave reset (R440). -/
def domainUp (d : Domain) (s : State) : State :=
  match d with
  | .core => coreUp s
  | .pix => pixUp s
  | .link => linkUp s
  | .aux => auxUp s
  | _ => s

/-- DOMAIN_POWER_UP_DONE (R434, R440): the rail of a rising domain has settled; the domains that depend on it follow. -/
def execDomainPowerUpDone (d : Domain) (leap : Nat) (s : State) : Host.Outcome State Fault Refusal :=
  .next (let s0 := countLeap leap s
    if inReset s || domainState s d != .rising || (d == .core && !coreSupplied s)
        || !(dependsOn d).all fun q => isOn s q then s0
    else settle (powerUpVoted (domainUp d (setDomain d .on s0))))

/-- A dependant holds a domain up (R14, R438): its switch is closed, whether its rail has settled or not. -/
def heldByDependant (s : State) (d : Domain) : Bool :=
  (dependants d).any fun q => domainState s q == .on || domainState s q == .rising

/-- DOMAIN_POWER_DOWN_START (R438): a domain without a vote, whose dependants have opened their switches, quiesces, is
isolated and switched off. -/
def execDomainPowerDownStart (d : Domain) (s : State) : Host.Outcome State Fault Refusal :=
  .next (if inReset s || !(voteable.contains d) || !isOn s d || heldByVote s.power.votes d
        || heldByDependant s d then s
    else settle (quiesce d s))

/-- DOMAIN_MIN_OFF_END (R438, R439): the minimum off time has passed; a vote that has come meanwhile powers the domain
up. -/
def execDomainMinOffEnd (d : Domain) (s : State) : Host.Outcome State Fault Refusal :=
  .next (if domainState s d == .minOff then powerUpVoted (setDomain d .off s) else s)

/-! ## Supplies (R433, R434) -/

/-- The number of a supply. -/
def supplyNum : Supply → Nat
  | .adVin => 0 | .vddCore => 1 | .vddPll => 2 | .vddaLane => 3 | .vdd2 => 4 | .vddq => 5

/-- SUPPLY_WARNING (R432, R433): beyond a warning limit in two consecutive rounds. -/
def execSupplyWarning (supply : Supply) (s : State) : Host.Outcome State Fault Refusal :=
  .next (if !inReset s && isOn s .safe && decide ((supplyOf s (supplyNum supply)).beyond ≥ 2)
        && !(supplyOf s (supplyNum supply)).warning then
    raiseKind 0x37 { figure := supplyNum supply } (onSupply (supplyNum supply) (fun x => { x with warning := true }) s)
  else s)

/-- The DRAM fails (R31, R98, R358 kind 0x27): copies into SRAM end; the failed read is past at once, and the quiet period runs from it. -/
def failDram (s : State) : State :=
  markAbsent 0x27 0x10 (raiseKind 0x27 {} (failPins (onUnits (fun u => { u with dramFailed := true }) s)))

/-- The votes in force are frozen in the AON, once (R304, R433); those of a Stop entry's tasks hold nothing (R447). -/
def freezeVotes (s : State) : State :=
  match s.aon.frozen with
  | some _ => s
  | none =>
    { s with aon := { s.aon with
        frozen := some (if s.power.stopTasks then { s.power.votes with cp := 0 } else s.power.votes) } }

/-- LINK is forced off for VDDA_LANE (R433); whether it was voted for is kept. -/
def forceLink (s : State) : State :=
  forceOff [.link] { s with aon := { s.aon with
    laneOff := some (s.aon.laneOff.getD (heldByVote s.power.votes .link)) } }

/-- Every voteable domain is forced off for a supply out of its window (R433, R493). -/
def forceCore (k : Nat) (s : State) : State :=
  let s1 := if isOn s .core then sendShadow s else s
  let s2 := if k = 0 then cutRunning s1 else s1
  forceOff allOff { s2 with aon := { s2.aon with supplyOff := true } }

/-- Domains are forced off for a supply out of its window (R433). -/
def forceSupply (k : Nat) (s : State) : State :=
  let s1 := onSupply k (fun x => { x with outside := true, inside := 0 }) s
  if k = 3 then forceLink (raiseKind 0x38 { figure := k } s1)
  else forceCore k (raiseKind 0x38 { figure := k } (freezeVotes s1))

/-- CORE waits for VDD_CORE and VDD_PLL: it has not been powered since a reset, a wake or a power-down, and nothing forces it
off (R434, R502). -/
def coreWaits (s : State) (k : Nat) : Bool := (k == 1 || k == 2) && !isOn s .core && !s.aon.supplyOff

/-- SUPPLY_OUT_OF_WINDOW (R432 to R434, R493, R502): VDD_CORE and VDD_PLL are found out of their windows without a fault while
CORE is not powered, also in Stop: CORE waits for them. -/
def execSupplyOutOfWindow (supply : Supply) (s : State) : Host.Outcome State Fault Refusal :=
  .next (if inReset s then s
    else if coreWaits s (supplyNum supply) then
      onSupply (supplyNum supply) (fun x => { x with low := true, inside := 0 }) s
    else if !isOn s .safe then s
    else match supply with
      | .vdd2 => if isOn s .dram then failDram s else s
      | .vddq => if isOn s .dram then failDram s else s
      | k => settle (forceSupply (supplyNum k) s))

/-- CORE_SUPPLY_WAIT_TIMEOUT (R434): CORE has waited 100 ms for VDD_CORE or VDD_PLL. -/
def execCoreSupplyWaitTimeout (s : State) : Host.Outcome State Fault Refusal :=
  .next (if domainState s .core == .rising && !coreSupplied s && !s.power.coreWaitFault then
    raiseKind 0x38 {} (onPower (fun w => { w with
      coreWaitFault := true
      supplies := w.supplies.mapIdx fun k x =>
        if (k = 1 ∨ k = 2) ∧ x.low then { x with outside := true } else x }) s)
  else s)

/-! ## Die shutdown (R303 to R305) -/

/-- The place of a die in the thermal lists. -/
def dieIndex : Die → Nat
  | .ld => 0 | .ad => 1

/-- Kind 0x2F at a shutdown (R304): the shutdown of a second die, which finds the kind active, commits the black box as
well. -/
def raiseShutdown (i : RaiseInfo) (s : State) : State :=
  match s.faults.active.find? fun a => a.kind == 0x2F with
  | some a => triggerCommit a.waybill (raiseKind 0x2F i s)
  | none => raiseKind 0x2F i s

/-- DIE_SHUTDOWN_DECISION (R303, R304): the shutdown condition has held in two rounds; votes are frozen, the domains
are forced off and the black box is committed. -/
def execDieShutdownDecision (die : Die) (s : State) : Host.Outcome State Fault Refusal :=
  .next (let k := dieIndex die
    if inReset s || !isOn s .safe || nth .normal s.hk.thermal k == .shutdown || nth 0 s.hk.hot k < 2 then s
    else
      let s1 := freezeVotes (onHk (fun h => { h with
        thermal := modifyAt (fun _ => Thermal.shutdown) k h.thermal
        hot := modifyAt (fun _ => 0) k h.hot }) s)
      let s2 := { s1 with aon := { s1.aon with
        thermalShutdownCount := count32 s1.aon.thermalShutdownCount
        ldShutdown := s1.aon.ldShutdown || die == .ld
        adShutdown := s1.aon.adShutdown || die == .ad } }
      let s3 := if isOn s2 .core then sendShadow s2 else s2
      settle (forceOff allOff (cutRunning (raiseShutdown
        { address := locationAddress (.die die), figure := ofSigned 32 (comparedValue s (.die die)) } s3))))

/-- The frozen votes, with the wake votes cast meanwhile (R443, R447). -/
def thawedVotes (frozen now : Votes) : Votes :=
  { frozen with
    wake := frozen.wake ||| now.wake, sbp := frozen.sbp ||| now.sbp
    host := if (now.wake ||| now.sbp) = 0 then frozen.host else allDomains }

/-- The frozen votes come back and the domains power up; with no vote for CORE the device is in Stop (R305, R433,
R447). -/
def thaw (cause : Nat) (s : State) : State :=
  match s.aon.frozen with
  | none => powerUpVoted s
  | some v =>
    let s1 := onPower (fun w => { w with votes := thawedVotes v w.votes, bootCause := cause })
      { s with aon := { s.aon with frozen := none, supplyOff := false } }
    if heldByVote s1.power.votes .core then powerUpVoted s1 else enterStop s1

/-- DIE_RESTART (R305): cool in two rounds and at least 100 ms off; a kind that latches keeps the domains off (R365). -/
def execDieRestart (die : Die) (s : State) : Host.Outcome State Fault Refusal :=
  .next (let k := dieIndex die
    if inReset s || nth .normal s.hk.thermal k != .shutdown || nth 0 s.hk.cool k < 2 || isLatched s 0x2F then s
    else
      let t := impliedState (thresholdsOf s (.die die)) (comparedValue s (.die die))
      let s1 := enterThermal (.die die) t (onHk (fun h => { h with cool := modifyAt (fun _ => 0) k h.cool }) s)
      let s2 := { s1 with aon := { s1.aon with
        ldShutdown := s1.aon.ldShutdown && die != .ld
        adShutdown := s1.aon.adShutdown && die != .ad } }
      if s2.aon.ldShutdown || s2.aon.adShutdown then s2
      else
        let s3 := recoverKind 0x2F 0x13 s2
        if isLatched s3 0x2F || s3.aon.supplyOff then s3 else thaw 3 s3)

/-! ## Wake and Stop (R436, R443 to R445) -/

/-- WAKE_RECOGNISED (R443). -/
def execWakeRecognised (leap : Nat) (s : State) : Host.Outcome State Fault Refusal :=
  .next (let s0 := countLeap leap s
    if inReset s || cfg s 0x8000 7 != 1 then s0 else wake 1 s0)

/-- The AON matches the SBP address (R259, R261): in Stop, and on the way out of it until CORE is powered. -/
def matchesSbp (s : State) : Bool :=
  inStop s || (s.power.votes.wake != 0 && !isOn s .core && s.aon.frozen.isNone)

/-- SBP_WAKE_MATCH (R259, R261): the device is addressed; with a WAKE assertion at once both votes are held. -/
def execSbpWakeMatch (leap : Nat) (s : State) : Host.Outcome State Fault Refusal :=
  .next (let s0 := countLeap leap s
    if inReset s || !matchesSbp s || cfg s 0x1400 3 != 1 then s0 else wake 2 s0)

/-- A write of HostVote (R436, R445): the answer and the state; a withdrawal of the CORE vote while a wake vote is held
is refused. -/
def writeHostVote (v : Nat) (s : State) : Nat × State :=
  let b : BitVec 8 := BitVec.ofNat 8 v &&& allDomains
  if !votedBy b .core && votedBy s.power.votes.host .core && (s.power.votes.wake ||| s.power.votes.sbp) != 0 then
    (stBusy, onPower (fun w => { w with sleepStatus := 2 }) s)
  else
    let s1 := onVotes (fun x => { x with host := b }) (onPower (fun w => { w with sleepStatus := 0 }) s)
    (stOk, afterWithdrawal (powerUpVoted s1))

/-- STOP_ENTRY_TASKS_DONE (R173, R435, R444, R445): the records are journalled and the ages written back; the CP, which has
booted, withdraws all its votes, and the device enters Stop unless another client has voted meanwhile. -/
def execStopEntryTasksDone (s : State) : Host.Outcome State Fault Refusal :=
  .next (if s.power.stopTasks && s.journal.queue.isEmpty && cpReady s then
    let s1 := onPower (fun w => { w with stopTasks := false }) (onVotes (fun v => { v with cp := 0 }) (writebackAges s))
    if cpVotesAlone s1.power.votes then settle (enterStop s1) else s1
  else s)

/-- CALIBRATION_STEP_DONE (R435): the step of the calibration engine ends and its votes are withdrawn. -/
def execCalibrationStepDone (s : State) : Host.Outcome State Fault Refusal :=
  .next (endCalStep s)

end Sys2Proof.Machine
end

