-- ==== Sys2Proof/Machine/FaultCommands.lean ====
section
/-!
DEFINITION. FaultCommands.lean: the events that end faults or escalate them (R351, R355, R360 to R364), the CP's
acknowledgements (R350), the DRAM error window (R289) and the status map's snapshot (R346).
-/

namespace Sys2Proof.Machine

open Sys2Proof

/-! ## The housekeeping slot (R293) -/

/-- HOUSEKEEPING_SLOT (R293): 32 µs of the AD's oscillator. It carries device time while CORE is on and no scan runs
(log 56), the Leap ticks counted meanwhile, the buses' recovery from bus-off (R252), and the end of wake votes that are
served (R435). -/
def execHousekeepingSlot (raw : Nat) (ld : List Int) (leap : Nat) (s : State) : Host.Outcome State Fault Refusal :=
  .next (let s0 := countLeap leap s
    if !isOn s .safe || inReset s then s0
    else
      let s1 := if isOn s .core && !s.scan.running then advanceDt 32 s0 else s0
      releaseWakeVotes (recoverBuses (nextSlot (runSlot s.hk.slot (raw % 4096) ld s1))))

/-- The raises of a unit that the CP has not acknowledged. -/
def unackedOf (s : State) (u : Nat) : List RaiseRecord := s.faults.unacked.filter fun r => r.unit == u

/-- Takes the oldest unacknowledged raise of a unit off the list. -/
def dropOldest (u : Nat) : List RaiseRecord → List RaiseRecord
  | [] => []
  | r :: rs => if r.unit = u then rs else r :: dropOldest u rs

/-- WAYBILL_ACK_TIMEOUT (R355): the CP has not acknowledged a raise of the unit within 2 ms; the oldest one leaves as a
Waybill, with the reason of a CP that is down where it has gone down meanwhile (R373). -/
def execWaybillAckTimeout (unit : Nat) (s : State) : Host.Outcome State Fault Refusal :=
  .next (match unackedOf s unit with
    | [] => s
    | r :: _ =>
      sendWaybill (unitOnAd unit) (if cpDown s then 0x03 else 0x01) r.waybill
        (onFaults (fun f => { f with unacked := dropOldest unit f.unacked }) s))

/-- CP_INTERRUPT_ACKNOWLEDGE (R350): the CP has read the unit's status; KindBits stay. -/
def execCpInterruptAcknowledge (unit : Nat) (s : State) : Host.Outcome State Fault Refusal :=
  .next (if cpReady s then onFaults (fun f => { f with unacked := f.unacked.filter fun r => r.unit != unit }) s
  else s)

/-- FAULT_N_PULSE_END (R351): 10 ms have passed since a raise of a Contained event kind. -/
def execFaultNPulseEnd (s : State) : Host.Outcome State Fault Refusal :=
  .next (onFaults (fun f => { f with pulses := f.pulses - 1 }) s)

/-- The timer of a privileged kind has run out (R363): its safe state applies, with an entry and a count. -/
def escalate (k ms : Nat) (a : ActiveKind) (s : State) : State :=
  let s1 := writeEntry (unitOnAd a.unit) 0x3 a.waybill (ms * 2 ^ 48) s
  settle { s1 with
    faults := { s1.faults with
      active := s1.faults.active.map fun b =>
        if b.kind == k && b.unit == a.unit then { b with escalated := true, timing := false } else b }
    aon := { s1.aon with escalationCount := count32 s1.aon.escalationCount } }

/-- ESCALATION_EXPIRY (R362, R363): the timer of an active privileged kind that has not been handled. A model
divergence is one kind for all ports (log 60). -/
def execEscalationExpiry (kind : Nat) (_p : Port) (s : State) : Host.Outcome State Fault Refusal :=
  .next (match s.faults.active.find? fun a => a.kind == kind && a.timing with
    | some a => escalate kind a.timer a s
    | none => s)

/-- HOLD_SAFE_BEAM_TIMEOUT (R360): 30 ms of the hold safe state; START names the next frame boundary, and rows load
with the safe beam. -/
def execHoldSafeBeamTimeout (s : State) : Host.Outcome State Fault Refusal :=
  .next (if s.faults.safeState == .hold && !s.faults.holdDone then
    releaseHold (onFaults (fun f => { f with holdDone := true }) s) else s)

/-- The ring is measured again (R459, R468). -/
def remeasureRing (s : State) : State :=
  onRing (fun c => { c with
    loopValid := false, goodFrames := 0, state := 1, banned := []
    nodeMap := List.replicate 8 0xFF }) s

/-- LINK powers up again after VDDA_LANE has recovered, where it was voted for when it was forced off (R433). -/
def thawLink (s : State) : State :=
  let s1 := { s with aon := { s.aon with laneOff := none } }
  if s.aon.laneOff == some true && domainState s1 .link == .off && !forcedOff s1 .link
      && (dependsOn .link).all fun q => isOn s1 q then setDomain .link .rising s1
  else s1

/-- The supplies have recovered (R433, R434): the frozen votes come back unless a die is shut down, and the domains power up
again; the cause of the boot that follows has no code. -/
def returnSupply (s : State) : State :=
  let s1 := thawLink (onPower (fun w => { w with
    coreWaitFault := false
    supplies := w.supplies.map fun x => { x with outside := false } }) s)
  if s1.aon.ldShutdown || s1.aon.adShutdown then { s1 with aon := { s1.aon with supplyOff := false } }
  else thaw 0 s1

/-- What follows the exit of a kind that ends with its quiet period or with its latch (R222, R365, R433, R468). -/
def afterExit (k : Nat) (s : State) : State :=
  if kindActive s k then s
  else if k = 0x38 then returnSupply s
  else if k = 0x49 then remeasureRing s
  else if 0x1B ≤ k ∧ k ≤ 0x1E then bringUpIfReady (Port.ofNum (k - 0x1B)) s
  else s

/-- What the end of a quiet period does for a kind (R222, R364, R384, R433, R468). -/
def endQuiet (a : ActiveKind) (s : State) : State :=
  if a.kind = 0x3E then onSafety (fun x => { x with retestDue := true }) s
  else if (kindRow a.kind).exit == .quiet || a.escalated || a.kind == 0x38 || a.kind == 0x49 then
    afterExit a.kind (recoverKind a.kind a.unit s)
  else s

/-- A kind that the host clears from its latch, and what its exit brings (R365). -/
def releaseLatch (k : Nat) (s : State) : State :=
  if isLatched s k && kindActive s k then afterExit k (clearLatch k s) else clearLatch k s

/-- The quiet period of a kind can have run: its condition is absent, which for a failed SAFE_OUT_N test is the end of
the test itself (R384), and the kind is not latched (R364, R365). -/
def quietRuns (s : State) (a : ActiveKind) : Bool := !isLatched s a.kind && (a.absent || a.kind == 0x3E)

/-- QUIET_PERIOD_END (R364): the condition of an active kind has been absent for QuietPeriod. -/
def execQuietPeriodEnd (kind unit : Nat) (s : State) : Host.Outcome State Fault Refusal :=
  .next (match s.faults.active.find? fun a => a.kind == kind && a.unit == unit with
    | some a => if quietRuns s a then endQuiet a s else s
    | none => s)

/-- Corrected words of the SRAM count while it has power (R27, R289). -/
def countSram (words : Nat) (s : State) : State :=
  if isOn s .pix then { s with sramCorrected := satAdd 32 s.sramCorrected words } else s

/-- DRAM_ERROR_RATE_WINDOW (R289, R362): a second has passed with these numbers of corrected words in the DRAM and in the
SRAM, whose count has no command of its own (log 75). -/
def execDramErrorRateWindow (corrected : CorrectedWords) (s : State) : Host.Outcome State Fault Refusal :=
  let s1 := countSram corrected.sram s
  .next (if isOn s .dram then
    let s2 := { s1 with
      dramRate := min corrected.dram 0xFFFF, dramCorrected := satAdd 32 s1.dramCorrected corrected.dram }
    if s2.dramRate > cfg s 0xB000 3 then handleByPins (raiseKind 0x26 { figure := s2.dramRate } s2)
    else clearCondition 0x26 0x10 s2
  else s1)

/-- STATUS_MAP_SNAPSHOT_DONE (R346): the row that a write selected is copied. -/
def execStatusMapSnapshotDone (p : Port) (s : State) : Host.Outcome State Fault Refusal :=
  .next (match (s.pixels.get p).pendingRow with
    | some r => onPixels p (fun x => { x with pendingRow := none, selectedRow := r, snapshot := statusRow s p r }) s
    | none => s)

end Sys2Proof.Machine
end

