-- ==== Sys2Proof/Machine/Update.lean ====
section
/-!
DEFINITION. Update.lean: restarts of CP and LS (R442), the update session (R480 to R483), activation (R484) and relayed
updates (R485).
-/

namespace Sys2Proof.Machine

open Sys2Proof

/-- Applies `f` to the update state. -/
def onUpdate (f : Update → Update) (s : State) : State := { s with update := f s.update }

/-! ## Restarts (R442) -/

/-- Raises that the CP has not acknowledged leave as Waybills: the CP is down (R355). -/
def waybillAll (s : State) : State :=
  let gone := s.faults.unacked
  gone.foldl (fun s r => sendWaybill (unitOnAd r.unit) 0x03 r.waybill s)
    { s with faults := { s.faults with unacked := [] } }

/-- The Caravan client casts its vote for CORE (R466). -/
def castRingVote (s : State) : State := onVotes (fun v => { v with caravan := 0x04 }) s

/-- The Caravan client withdraws its vote (R444, R466). -/
def dropRingVote (s : State) : State :=
  if s.power.votes.caravan = 0 then s else afterWithdrawal (onVotes (fun v => { v with caravan := 0 }) s)

/-- The head's Caravan client votes for CORE while a relay that it carries is in progress (R466). -/
def settleRelayVote (s : State) : State :=
  if !isHead s then s
  else if s.caravan.relays.isEmpty && s.update.relayTarget == 0 then dropRingVote s
  else if s.power.votes.caravan = 0 then castRingVote s else s

/-- A relayed CAN request is answered (R464). -/
def answerRelay (r : Relay) (status : Nat) (bs : List Byte) (s : State) : State :=
  answerCan r.node r.bus r.write r.tag r.index status bs s

/-- Relays in progress are answered on CAN with a status (R464, R467, R468). -/
def abortRelays (status : Nat) (s : State) : State :=
  settleRelayVote (s.caravan.relays.foldl (fun s r => answerRelay r status [] s)
    (onRing (fun c => { c with relays := [] }) s))

/-- The CP restarts without a reset (R34, R272, R435, R442, R482, R486): sessions and staging are lost, requests in hand
are answered busy, and the Toll stays at the value in force. -/
def restartCp (cause : Nat) (s : State) : State :=
  let s1 := abortRelays stBusy (busyRequests (waybillAll s))
  let s2 := onUnits (fun u => { u with cp := .booting, cpColdBoot := false })
    (onVotes (fun v => { v with cp := 0x04 }) (closeSession s1))
  writeBoot cause 0
    (onPower (fun w => { w with stopTasks := false })
      (onUpdate (fun u => { u with session := none, staging := [] })
        { s2 with toll := { s2.toll with coming := [], measured := [] } }))

/-- The LS of a port restarts (R35, R218, R441, R442): its wrapper closes, and a port in service holds first. -/
def restartLs (p : Port) (cause : Nat) (s : State) : State :=
  let s1 := stopPort p (closeWrapper (0x0A + p.num) s)
  writeBoot cause p.num (onUnits (fun u => { u with ls := u.ls.set p .booting }) s1)

/-! ## Activation (R484) -/

/-- An activation step that a processor still has to take: forward those not on the slot, back those not yet on it. -/
def lsToMove (s : State) : Option Port :=
  (portsOf s.variant).find? fun p => s.units.runLs.get p != s.update.slot

/-- The last step (R484): the SM pending selector, or the end of a move back. -/
def finishActivation (s : State) : State :=
  let n := s.update.slot
  if s.update.back || s.units.runSm == n then onUpdate (fun u => { u with activation := 0, back := false, port := none }) s
  else
    onUpdate (fun u => { u with activation := 4, port := none })
      { s with nvm := { s.nvm with selSmNext := some n } }

/-- The next processor restarts, LS by LS and then the CP (R484). -/
def advanceActivation (s : State) : State :=
  match lsToMove s with
  | some p =>
    let s1 := onUpdate (fun u => { u with activation := 2, port := some p }) s
    if isOn s .link then restartLs p 0x07 s1 else s1
  | none =>
    if s.units.runCp ≠ s.update.slot ∨ s.units.cpRecoveryBoot then
      restartCp 0x07 (onUpdate (fun u => { u with activation := 3, port := none }) s)
    else finishActivation s

/-- The port under activation is back in service, or needs no hold (R484 step 2). -/
def portSettled (s : State) (p : Port) : Bool :=
  s.units.ls.get p == .ready && !(portServing s p && ((s.link.get p).holdSent || (s.link.get p).holdDue))

/-- At a frame boundary the activation goes on once its port is back in service (R484). -/
def activationBoundary (s : State) : State :=
  match s.update.port with
  | none => s
  | some p =>
    if s.update.activation = 2 ∧ portSettled s p ∧ s.units.runLs.get p = s.update.slot then advanceActivation s else s

/-- A rejection stops the activation (R484). -/
def stopActivation (s : State) : State := onUpdate (fun u => { u with activation := 5, port := none }) s

/-- PROGRAM_STORE_COPY_DONE (R484 step 1). -/
def execProgramStoreCopyDone (s : State) : Host.Outcome State Fault Refusal :=
  .next (if s.update.activation = 1 ∧ cpReady s then
    advanceActivation (putBank s.update.slot (slotOf s s.update.slot).package
      (onUpdate (fun u => { u with activation := 2 }) s))
  else s)

/-! ## The session protocol (R481) -/

/-- A session code: another source holds the session. -/
def ssSessionBusy : Nat := 0x10
/-- No session is held. -/
def ssNoSession : Nat := 0x11
/-- Offset out of order. -/
def ssOffset : Nat := 0x12
/-- State of the slot. -/
def ssSlotState : Nat := 0x13
/-- The package fails its check. -/
def ssPackageCheck : Nat := 0x14
/-- The Waystation cannot be reached. -/
def ssUnreachable : Nat := 0x15

/-- The bytes of a frame from its Op to the end of the payload (R481). -/
def svcBody (op tag : Nat) (payload : List Byte) : List Byte :=
  [BitVec.ofNat 8 op, BitVec.ofNat 8 tag] ++ leBytes 2 payload.length ++ payload

/-- A whole session frame (R481). -/
def svcBytes (op tag : Nat) (payload : List Byte) : List Byte :=
  [0xC3, 0x5A] ++ svcBody op tag payload ++ leBytes 4 (crc32c (svcBody op tag payload))

/-- The CRC of a received frame is right (R481). -/
def svcGood (op : Nat) (f : SvcFrame) : Bool := f.crc.toNat == crc32c (svcBody op f.tag f.payload)

/-- A response to its source (R481, R485). -/
def respondSvc (src : Source) (op tag status : Nat) (rest : List Byte) (s : State) : State :=
  let payload := BitVec.ofNat 8 status :: rest
  match src with
  | .svc => onUpdate (fun u => { u with out := u.out ++ [⟨.svc, op + 128, tag, payload⟩] }) s
  | .caravan => queueStream 0 (svcBytes (op + 128) tag payload) s

/-- The session is held by the source. -/
def holds (s : State) (src : Source) : Bool :=
  match s.update.session with
  | some x => x.source == src
  | none => false

/-- The session is held by the other source (R482). -/
def heldByOther (s : State) (src : Source) : Bool := s.update.session.isSome && !holds s src

/-- The update session closes (R482). -/
def closeUpdate (s : State) : State := onUpdate (fun u => { u with session := none }) s

/-- An activation is under way (R481, R484). -/
def activating (s : State) : Bool := decide (1 ≤ s.update.activation) && decide (s.update.activation ≤ 3)

/-- The inactive slot that OPEN chooses (R476, R482). -/
def inactiveSlot (s : State) : Option Nat := [0, 1].find? fun n => !slotNamed s n

/-- OPEN (R482): refused, or the slot is erased and the answer waits for the erase. -/
def doOpen (f : SvcFrame) (s : State) : State :=
  let no := fun c => respondSvc f.source 0x01 f.tag c [] s
  let length := field f.payload 0 4
  if f.payload.length ≠ 8 then no stRange
  else if lifeState s = lcBlank then no stAccess
  else if heldByOther s f.source then no ssSessionBusy
  else if (s.update.session.map fun x => x.opening.isSome).getD false then no stBusy
  else if length < 320 ∨ length > 8388608 then no stRange
  else if activating s then no ssSlotState
  else
    match inactiveSlot s with
    | none => no ssSlotState
    | some n =>
      putSlot n { package := .writing [] }
        (onUpdate (fun u => { u with
          session := some ⟨f.source, n, length, BitVec.ofNat 32 (field f.payload 4 4), some f.tag⟩ }) s)

/-- SLOT_ERASE_DONE (R482): OPEN is answered. -/
def execSlotEraseDone (s : State) : Host.Outcome State Fault Refusal :=
  .next (match s.update.session with
    | none => s
    | some x =>
      match x.opening with
      | none => s
      | some tag =>
        respondSvc x.source 0x01 tag stOk [BitVec.ofNat 8 x.slot]
          (onUpdate (fun u => { u with session := some { x with opening := none } }) s))

/-- The bytes of a package in flash. -/
def packageBytes (p : Package) : List Byte :=
  match p with
  | .writing bs => bs
  | .complete bs => bs
  | _ => []

/-- WRITE (R481, R482). -/
def doWrite (f : SvcFrame) (s : State) : State :=
  let no := fun c => respondSvc f.source 0x02 f.tag c [] s
  let data := f.payload.drop 4
  if f.payload.length < 5 ∨ f.payload.length > 4100 then no stRange
  else if heldByOther s f.source then no ssSessionBusy
  else
    match s.update.session with
    | none => no ssNoSession
    | some x =>
      let bs := packageBytes (slotOf s x.slot).package
      if x.opening.isSome then no stBusy
      else if field f.payload 0 4 ≠ bs.length ∨ bs.length + data.length > x.length then no ssOffset
      else
        respondSvc f.source 0x02 f.tag stOk (leBytes 4 (bs.length + data.length))
          (putSlot x.slot { package := .writing (bs ++ data) } s)

/-- The package in a slot passes FINISH (R482). -/
def finishGood (x : Session) (bs : List Byte) : Bool :=
  bs.length == x.length && crc32c bs == x.crc.toNat
    && bs.take 4 == [0x53, 0x4C, 0x50, 0x4B] && field bs 12 4 == x.length

/-- FINISH (R482). -/
def doFinish (f : SvcFrame) (s : State) : State :=
  let say := fun c s => respondSvc f.source 0x03 f.tag c [] s
  if f.payload.length ≠ 0 then say stRange s
  else if heldByOther s f.source then say ssSessionBusy s
  else
    match s.update.session with
    | none => say ssNoSession s
    | some x =>
      let bs := packageBytes (slotOf s x.slot).package
      if x.opening.isSome then say stBusy s
      else if finishGood x bs then say stOk (putSlot x.slot { package := .complete bs } s)
      else say ssPackageCheck s

/-- The slot holds a complete package. -/
def slotComplete (s : State) (n : Nat) : Bool :=
  match (slotOf s n).package with
  | .complete _ => true
  | .shipped => true
  | _ => false

/-- An accepted ACTIVATE (R484): a new activation copies first; a stopped one resumes, or moves back from its slot. -/
def startActivation (n : Nat) (s : State) : State :=
  let s1 := closeUpdate s
  if s1.update.activation = 5 ∧ n ≠ s1.update.slot ∧ !s1.update.back then
    advanceActivation (onUpdate (fun u => { u with slot := n, back := true }) s1)
  else if s1.update.activation = 5 ∧ n = s1.update.slot ∧ (s1.update.back ∨ bankOf s1 n = (slotOf s1 n).package) then
    advanceActivation s1
  else
    putBank n (.writing []) (onUpdate (fun u => { u with activation := 1, slot := n, back := false, port := none }) s1)

/-- ACTIVATE (R482, R484, R485). -/
def doActivate (f : SvcFrame) (s : State) : State :=
  let say := fun c s => respondSvc f.source 0x04 f.tag c [] s
  let n := field f.payload 0 1
  if f.payload.length ≠ 1 ∨ n > 1 then say stRange s
  else if heldByOther s f.source then say ssSessionBusy s
  else if activating s || s.update.relayTarget != 0 || !slotComplete s n then say ssSlotState s
  else startActivation n (say stOk s)

/-- STATUS (R481). -/
def doStatus (f : SvcFrame) (s : State) : State :=
  if f.payload.length ≠ 0 then respondSvc f.source 0x05 f.tag stRange [] s
  else
    respondSvc f.source 0x05 f.tag stOk
      ([BitVec.ofNat 8 (match s.update.session with
          | none => 0
          | some x => if x.source = .svc then 1 else 2),
        BitVec.ofNat 8 (activeSlots s), BitVec.ofNat 8 s.update.activation]
        ++ slotContent s.nvm.slot0 ++ slotContent s.nvm.slot1) s

/-- CLOSE (R481, R482). -/
def doClose (f : SvcFrame) (s : State) : State :=
  let say := fun c s => respondSvc f.source 0x06 f.tag c [] s
  if f.payload.length ≠ 0 then say stRange s
  else if holds s f.source then say stOk (closeUpdate s)
  else say ssNoSession s

/-- SET_RATE (R480, R481): the rate of the service port from the byte after the response. -/
def doSetRate (f : SvcFrame) (s : State) : State :=
  let say := fun c s => respondSvc f.source 0x07 f.tag c [] s
  let r := field f.payload 0 4
  if f.payload.length ≠ 4 ∨ ([115200, 921600, 3000000, 6000000] : List Nat).contains r = false then say stRange s
  else
    say stOk (if f.source = .svc then onUpdate (fun u => { u with baud := r }) s else s)

/-- RELAY_SELECT (R481, R485): the head grants the target credits and waits for its answer (log 59). -/
def doRelaySelect (f : SvcFrame) (s : State) : State :=
  let say := fun c s => respondSvc f.source 0x08 f.tag c [] s
  let n := field f.payload 0 1
  if f.payload.length ≠ 1 ∨ n > 15 then say stRange s
  else if s.update.relayTarget ≠ 0 ∧ n ≠ s.update.relayTarget ∧ 1 ≤ s.update.relayState ∧ s.update.relayState ≤ 3 then
    say ssSlotState s
  else if n = 0 then say stOk (onUpdate (fun u => { u with relayTarget := 0, relayBusy := false, relayState := 0 }) s)
  else
    match (if isHead s then positionOf s n else none) with
    | none => say ssUnreachable s
    | some q =>
      queueCredit q 15 (onRing (fun c => { c with credits := 0, stream := [] })
        (onUpdate (fun u => { u with
          relayTarget := n, relayBusy := true, relayTag := f.tag
          relayState := if n = u.relayTarget then u.relayState else 0 }) s))

/-- RELAY_SELECT_TIMEOUT (R481): the selected Waystation has not answered within 1 s. -/
def execRelaySelectTimeout (s : State) : Host.Outcome State Fault Refusal :=
  .next (if s.update.relayBusy then
    respondSvc .svc 0x08 s.update.relayTag ssUnreachable []
      (settleRelayVote (onUpdate (fun u => { u with relayBusy := false, relayTarget := 0, relayState := 0 }) s))
  else s)

/-- The operation of a request code; a code that no operation has is out of range (R481). -/
def sessionOp (op : Nat) (f : SvcFrame) (s : State) : State :=
  match op with
  | 0x01 => doOpen f s
  | 0x02 => doWrite f s
  | 0x03 => doFinish f s
  | 0x04 => doActivate f s
  | 0x05 => doStatus f s
  | 0x06 => doClose f s
  | 0x07 => doSetRate f s
  | 0x08 => doRelaySelect f s
  | _ => respondSvc f.source op f.tag stRange [] s

/-- The frame goes on to the selected Waystation (R485). -/
def forwards (s : State) (op : Nat) (f : SvcFrame) : Bool :=
  f.source == .svc && s.update.relayTarget != 0 && op != 0x08

/-- A session frame arrives (R481, R483, R485): relayed unchanged, or answered 0x06 for its CRC and 0x01 while the CP is
not ready, or done. -/
def receiveFrame (op : Nat) (f : SvcFrame) (s : State) : State :=
  let open_ := isOn s .core && (if f.source = .svc then s.update.svcEnabled else isStation s)
  if inReset s || !open_ then s
  else if !cpReady s then respondSvc f.source op f.tag stBusy [] s
  else if forwards s op f then
    (match positionOf s s.update.relayTarget with
     | some q => queueStream q ([0xC3, 0x5A] ++ svcBody op f.tag f.payload ++ leBytes 4 f.crc.toNat) s
     | none => respondSvc .svc op f.tag ssUnreachable [] s)
  else if !svcGood op f then respondSvc f.source op f.tag stCheck [] s
  else sessionOp op f s

/-- SVC_OPEN (R482). -/
def execSvcOpen (f : SvcFrame) (s : State) : Host.Outcome State Fault Refusal := .next (receiveFrame 0x01 f s)

/-- SVC_WRITE (R481). -/
def execSvcWrite (f : SvcFrame) (s : State) : Host.Outcome State Fault Refusal := .next (receiveFrame 0x02 f s)

/-- SVC_FINISH (R482). -/
def execSvcFinish (f : SvcFrame) (s : State) : Host.Outcome State Fault Refusal := .next (receiveFrame 0x03 f s)

/-- SVC_ACTIVATE (R484). -/
def execSvcActivate (f : SvcFrame) (s : State) : Host.Outcome State Fault Refusal := .next (receiveFrame 0x04 f s)

/-- SVC_STATUS (R481). -/
def execSvcStatus (f : SvcFrame) (s : State) : Host.Outcome State Fault Refusal := .next (receiveFrame 0x05 f s)

/-- SVC_CLOSE (R481). -/
def execSvcClose (f : SvcFrame) (s : State) : Host.Outcome State Fault Refusal := .next (receiveFrame 0x06 f s)

/-- SVC_SET_RATE (R480). -/
def execSvcSetRate (f : SvcFrame) (s : State) : Host.Outcome State Fault Refusal := .next (receiveFrame 0x07 f s)

/-- SVC_RELAY_SELECT (R485). -/
def execSvcRelaySelect (f : SvcFrame) (s : State) : Host.Outcome State Fault Refusal :=
  .next (settleRelayVote (receiveFrame 0x08 f s))

/-- The session of a source closes (R482). -/
def closeHeldBy (src : Source) (s : State) : State := if holds s src then closeUpdate s else s

/-- SVC_IDLE_TIMEOUT (R480, R482): 10 s without a frame. -/
def execSvcIdleTimeout (s : State) : Host.Outcome State Fault Refusal :=
  .next (onUpdate (fun u => { u with baud := 115200 }) (closeHeldBy .svc s))

/-- SVC_EN_RISE (R480, R482): the port is disabled. -/
def execSvcEnRise (s : State) : Host.Outcome State Fault Refusal :=
  .next (onUpdate (fun u => { u with svcEnabled := false, baud := 115200 }) (closeHeldBy .svc s))

/-- SVC_EN_FALL (R480): the port is enabled at 115,200 baud. -/
def execSvcEnFall (s : State) : Host.Outcome State Fault Refusal :=
  .next (onUpdate (fun u => { u with svcEnabled := true, baud := 115200 }) s)

/-- CARAVAN_SESSION_IDLE_TIMEOUT (R482). -/
def execCaravanSessionIdleTimeout (s : State) : Host.Outcome State Fault Refusal := .next (closeHeldBy .caravan s)

end Sys2Proof.Machine
end

