-- ==== Sys2Proof/Machine/Processors.lean ====
section
/-!
DEFINITION. Processors.lean: the boots of CP, SM and LS (R214, R430, R442, R477), full service, watchdogs and the failures
of DRAM and SRAM (R358, R359).
-/

namespace Sys2Proof.Machine

open Sys2Proof

/-! ## CP -/

/-- The canvas as written takes effect after a reset (R18). -/
def latchCanvas (s : State) : State :=
  if s.units.bootSinceReset then s
  else { s with dict := { s.dict with canvas :=
    { layout := cfg s 0x2000 1, pitch := cfg s 0x2000 2
      originH := toSigned 16 (cfg s 0x2000 3), originV := toSigned 16 (cfg s 0x2000 4)
      pairing := cfg s 0x2000 5 == 1 } } }

/-- The CP rewrites the option copy that differs from the one used (R426). -/
def repairOptions (s : State) : State :=
  if s.power.optionCopyUsed = 0 then { s with nvm := { s.nvm with optionB := s.nvm.optionA } }
  else if s.power.optionCopyUsed = 1 then { s with nvm := { s.nvm with optionA := s.nvm.optionB } }
  else s

/-- The frame rate as written or restored takes effect at the second frame boundary (R52); where no scan runs, at the second
that comes (log 65). -/
def restoreRate (s : State) : State := { s with scan := writeRate (cfg s 0x8100 1) s.scan }

/-- The restored composition mode takes effect (R145). -/
def restoreMode (s : State) : State :=
  if s.scan.running then startModeChange s
  else onManifest (fun m => { m with racing := cfg s 0x3000 5 == 1, modeChange := none }) s

/-- The restored full-scale corrections are in force (R175, R183). -/
def restoreCorrections (s : State) : State :=
  (portsOf s.variant).foldl (fun s p =>
    let v := cfg s (0x4010 + p.num) 5
    rebuildSteps p (onFullScale p (fun f => { f with correction := v, lastGood := v }) s)) s

/-- A restored fixed code that is no longer on its port's curve takes the default, and is counted (R159, R277). -/
def restoreZoneCodes (s : State) : State :=
  (portsOf s.variant).foldl (fun s p =>
    if codeOnCurve s p (cfg s (0x4100 + p.num) 3) then s else defaultObjects (0x4100 + p.num) [3] s) s

/-- The wake configuration that the AON has held gives way to the journal's (R277, R418). -/
def dropWakeKeys (s : State) : State :=
  { s with dict := { s.dict with values := s.dict.values.filter fun e => !isWakeKey e.1 } }

/-- What the CP restores after a power-up of CORE (R18, R102, R277, R426, R484). -/
def coldBoot (s0 : State) : State :=
  let s := dropWakeKeys s0
  let s1 := restoreZoneCodes (latchCanvas (restoreObjects false s))
  let s2 := invertMeshes (restoreCorrections (restoreMode (restoreRate s1)))
  let s3 := repairOptions s2
  onUpdate (fun u => { u with activation := if s3.nvm.selSmNext.isSome then 4 else u.activation }) s3

/-- A CP boot that does not bring the image of an activation stops it: its CP step is rejected, and its copying or its LS step
was cut short (R484, R497). -/
def breakActivation (s : State) : State := if activating s then stopActivation s else s

/-- An activation after a CP boot (R484): a pass writes the selector and goes on; a rejection stops it. -/
def activationAfterBoot (slot : Nat) (s : State) : State :=
  if s.update.activation = 3 ∧ slot = s.update.slot then finishActivation { s with nvm := { s.nvm with selCp := slot } }
  else breakActivation s

/-- The journalled settings of the sinks are restored at each boot, also where AUX has risen during one without a reset
(R402). -/
def restoreSinks (s : State) : State :=
  { s with sinks := { s.sinks with restored := s.sinks.restored || isOn s .aux } }

/-- The CP reports ready (R34, R345, R430), having restored after a cold boot what it restores. -/
def cpUp (s : State) : State :=
  let s1 := restoreSinks (if s.units.cpColdBoot then coldBoot s else s)
  treatWaiting (onUnits (fun u => { u with cp := .ready, bootSinceReset := true }) s1)

/-- A withdrawal that came during the boot finds a CP that can run the Stop-entry tasks (R444). -/
def endBoot (s : State) : State := if s.power.stopTasks then s else afterWithdrawal s

/-- The CP has booted from a slot (R477, R484). -/
def cpStarted (slot : Nat) (s : State) : State :=
  endBoot (activationAfterBoot slot (onUnits (fun u => { u with runCp := slot, cpRecoveryBoot := false }) (cpUp s)))

/-- The CP has booted into recovery (R424): it runs no image of a slot, and waits for a package. -/
def recoveryStarted (s : State) : State :=
  endBoot (breakActivation (onUnits (fun u => { u with cpRecoveryBoot := true }) (cpUp s)))

/-- The boot goes into recovery (R424, R430): with BootSource service recovery, but for the CP step of an activation and the
later restarts of an image that it has brought (log 164). -/
def bootsRecovery (s : State) : Bool :=
  s.power.options.bootSource == 1 && s.update.activation != 3 && (s.units.cpColdBoot || s.units.cpRecoveryBoot)

/-- The slot that a CP boot tries first (R476, R484). -/
def cpSelected (s : State) : Nat := if s.update.activation = 3 then s.update.slot else s.nvm.selCp

/-- CP_BOOT_DONE (R424, R430, R477): with BootSource service recovery the CP is ready in recovery without an image; with
no image that passes it does not start. -/
def execCpBootDone (reads : ImageReads) (s : State) : Host.Outcome State Fault Refusal :=
  .next (if inReset s || !isOn s .core || s.units.cp != .booting then s
    else if bootsRecovery s then recoveryStarted s
    else
      match bootCheck 0 7 (cpSelected s) (!s.units.bootSinceReset) reads s with
      | (some slot, s1) => cpStarted slot s1
      | (none, s1) =>
        afterWithdrawal (onVotes (fun v => { v with cp := 0 })
          (breakActivation (onUnits (fun u => { u with cp := .off }) s1))))

/-- CP_WATCHDOG_EXPIRY (R358): not served for 20 ms; in the CP step of an activation it stops it (R497). -/
def execCpWatchdogExpiry (s : State) : Host.Outcome State Fault Refusal :=
  .next (if isOn s .core && s.units.cp != .off then
    restartCp 0x05 (raiseKind 0x01 {} (if s.update.activation = 3 then stopActivation s else s))
  else s)

/-! ## SM -/

/-- The image that the SM runs after a reset: the pending slot first, then the current one (R484). -/
def smBoot (reads : ImageReads) (s : State) : Option Nat × State :=
  match s.nvm.selSmNext with
  | none => bootCheck 1 7 s.nvm.selSm true reads s
  | some n =>
    match runCheck 1 7 n true (if n = 0 then reads.fail0 else reads.fail1) s with
    | (0, s1) =>
      (some n, onUpdate (fun u => { u with activation := if u.activation = 4 then 0 else u.activation })
        { s1 with nvm := { s1.nvm with selSm := n, selSmNext := none } })
    | (_, s1) => bootCheck 1 7 s1.nvm.selSm true reads s1

/-- A commit that RESET_N interrupted starts again (R370, R371). -/
def resumeCommit (s : State) : State :=
  match s.aon.commitInterrupted with
  | none => s
  | some c => runCommit c { s with aon := { s.aon with commitInterrupted := none } }

/-- SM_START_CHECKS_DONE (R388, R390, R430, R477): the SM runs, and the comparison of the check values decides the
ceiling. -/
def execSmStartChecksDone (reads : ImageReads) (s : State) : Host.Outcome State Fault Refusal :=
  .next (if inReset s || !isOn s .safe || s.units.sm != .booting || s.units.smRebooting then s
    else
      match smBoot reads s with
      | (none, s1) => onUnits (fun u => { u with sm := .off }) s1
      | (some slot, s1) =>
        settle (resumeCommit (startCommissioning (onSafety (fun x => { x with startPassed := true })
          (onUnits (fun u => { u with sm := .ready, runSm := slot }) s1)))))

/-- SM_WATCHDOG_EXPIRY (R358, R442): the AON window watchdog was not served for 2 ms; the SM reboots, the beam request
logic goes on (R378). -/
def execSmWatchdogExpiry (s : State) : Host.Outcome State Fault Refusal :=
  .next (if !inReset s && isOn s .safe && s.units.sm == .ready then
    closeWrapper 0x02 (raiseKind 0x03 {} (onSafety (fun x => { x with startPassed := false, smStart := some (dtNow s) })
      (onUnits (fun u => { u with sm := .booting, smRebooting := true }) s)))
  else s)

/-- SM_REBOOT_DONE (R442): the start checks have passed, and the quiet period of kind 0x03 runs. -/
def execSmRebootDone (reads : ImageReads) (s : State) : Host.Outcome State Fault Refusal :=
  .next (if inReset s || !s.units.smRebooting then s
    else
      match bootCheck 1 7 s.nvm.selSm false reads s with
      | (none, s1) => settle (onUnits (fun u => { u with sm := .off, smRebooting := false }) s1)
      | (some slot, s1) =>
        clearCondition 0x03 0x02 (startCommissioning (onSafety (fun x => { x with startPassed := true })
          (onUnits (fun u => { u with sm := .ready, smRebooting := false, runSm := slot }) s1))))

/-! ## LS -/

/-- The port's LS is the one that an activation restarts (R484). -/
def isActivated (s : State) (p : Port) : Bool := s.update.activation == 2 && s.update.port == some p

/-- An activation after an LS boot (R484): a pass writes the selector; a rejection stops it. -/
def activationAfterLs (p : Port) (slot : Nat) (s : State) : State :=
  if !isActivated s p then s
  else if slot = s.update.slot then { s with nvm := { s.nvm with selLs := s.nvm.selLs.set p slot } }
  else stopActivation s

/-- After an LS boot the activation goes on unless the port holds (R484 step 2). -/
def goOn (p : Port) (s : State) : State :=
  if isActivated s p && portSettled s p then advanceActivation s else s

/-- LS_BOOT_DONE (R214, R218, R473, R477). -/
def execLsBootDone (p : Port) (reads : ImageReads) (s : State) : Host.Outcome State Fault Refusal :=
  .next (if inReset s || !isOn s .link || s.units.ls.get p != .booting then s
    else
      let sel := if isActivated s p then s.update.slot else s.nvm.selLs.get p
      match bootCheck 2 p.num sel (!s.units.bootSinceReset) reads s with
      | (none, s1) =>
        let s2 := losePort p true (onUnits (fun u => { u with ls := u.ls.set p .off }) s1)
        if isActivated s2 p then stopActivation s2 else s2
      | (some slot, s1) =>
        goOn p (resumePort p (activationAfterLs p slot
          (onUnits (fun u => { u with ls := u.ls.set p .ready, runLs := u.runLs.set p slot }) s1))))

/-- LS_WATCHDOG_EXPIRY (R358): not served for 5 ms; the LS restarts under hold. -/
def execLsWatchdogExpiry (p : Port) (s : State) : Host.Outcome State Fault Refusal :=
  .next (if isOn s .link && s.units.ls.get p == .ready then
    restartLs p 0x06 (raiseKind 0x19 { port := p.num } s) else s)

/-! ## DRAM -/

/-- DRAM_TRAINING_DONE (R430): within the boot of a CP that runs. -/
def execDramTrainingDone (s : State) : Host.Outcome State Fault Refusal :=
  .next (if isOn s .dram && s.units.cp != .off then onUnits (fun u => { u with dramTrained := true }) s else s)

/-- DRAM_FAILURE (R358 kind 0x27): an uncorrectable read. -/
def execDramFailure (s : State) : Host.Outcome State Fault Refusal :=
  .next (if isOn s .dram then failDram s else s)

/-- DRAM_READ_TIMEOUT (R358 kind 0x27): a read is not complete within 20 µs. -/
def execDramReadTimeout (s : State) : Host.Outcome State Fault Refusal :=
  .next (if isOn s .dram then failDram s else s)

/-- DRAM_RETRAIN_DONE (R358, R442): after the quiet period the CP has trained the controller again. -/
def execDramRetrainDone (s : State) : Host.Outcome State Fault Refusal :=
  .next (if isOn s .dram && s.units.dramFailed && !kindActive s 0x27 && cpReady s then
    closeWrapper 0x10 (onUnits (fun u => { u with dramFailed := false, dramTrained := true }) s) else s)

/-! ## SRAM (R359) -/

/-- The safe-beam copy of a port is read again (R359): as long as it is, the port is dark where the safe beam is in force. -/
def recopySafeBeam (p : Port) (s : State) : State :=
  dropEnables { s with safeBeam := { s.safeBeam with
    copying := true
    repairing := if s.safeBeam.repairing.contains p then s.safeBeam.repairing else p :: s.safeBeam.repairing } }

/-- An uncorrectable word of a map (R359): its pixel is driven at duty 0 for the frame, and the CP writes it again, at once or
when it runs. -/
def spoilPixel (status : Bool) (pixel : Nat) (s : State) : State :=
  let s1 := { s with drive := { s.drive with
    darkPixels := addNew s.drive.darkPixels pixel, repairs := (status, pixel) :: s.drive.repairs.filter (· != (status, pixel)) } }
  if cpReady s1 then repairPixels s1 else s1

/-- What the region's handling does (R359). -/
def handleSram (region : SramRegion) (s : State) : State :=
  match region with
  | .outputBuffers p tile =>
    onCompose (fun c => { c with badTiles := addNew c.badTiles (p.num * 512 + tile % 512) }) s
  | .layerCaches p layer tile => spoilLayer p layer tile s
  | .pixelMaps status pixel => if pixel < 2097152 then spoilPixel status pixel s else s
  | .tables => stallComposer s
  | .cpData => if s.units.cp = .off then s else restartCp 0x05 (raiseKind 0x01 {} s)
  | .safeBeamCopy p => recopySafeBeam p s

/-- SRAM_UNCORRECTABLE (R358 kind 0x28, R359). -/
def execSramUncorrectable (region : SramRegion) (s : State) : Host.Outcome State Fault Refusal :=
  .next (if isOn s .pix then settle (handleSram region (raiseKind 0x28 {} s)) else s)

/-! ## Full service (R430) -/

/-- A surface of a library is described, and pinned where the CP pins it (R99, R114). -/
def loadSurface (s : State) (x : LibrarySurface) : State :=
  let i := 0x3400 + x.surface % 64
  let s1 := setCfg i 0x0C x.palette (setCfg i 8 x.tag (setCfg i 5 1 (setCfg i 4 x.table
    (setCfg i 3 x.height (setCfg i 2 x.width (setCfg i 1 x.format s))))))
  if x.pin then finishPin (x.surface % 64) s1 else s1

/-- FULL_SERVICE (R99, R170, R329, R430): with the journal restored and the Almanac ready, the maps are loaded and the
beam library is pinned. -/
def execFullService (load : ServiceLoad) (s : State) : Host.Outcome State Fault Refusal :=
  .next (if cpReady s && !s.units.cpRecoveryBoot && isOn s .pix && s.journal.scanned && s.almanac.ready
      && !s.power.fullService then
    let s1 := if isOn s .dram then
        { s with dram := load.dram.foldl (fun m e => memWrite e.1 e.2 m) s.dram } else s
    let s2 := concealAll <| loadMaps { s1 with drive := { s1.drive with master := load.pixels } }
    let s3 := load.surfaces.foldl loadSurface s2
    releaseWakeVotes (onPower (fun w => { w with fullService := true }) s3)
  else s)

end Sys2Proof.Machine
end

