-- ==== Sys2Proof/Machine/Reading.lean ====
section
/-!
DEFINITION. Reading.lean: the value that a read of a dictionary object returns (R267, R279 and the object
tables).

A value of several entries is packed with its first entry in the lowest bits (R7).
-/

namespace Sys2Proof.Machine

open Sys2Proof

/-- The number of a text padded with 0x00 (R265). -/
def textValue (t : String) : Nat := packLe 8 (t.toList.map (·.toNat))

/-- Entries of `w` bits for the ports A to D. -/
def packPorts (w : Nat) (f : Port → Nat) : Nat := packLe w (Port.all.map f)

/-! ## 1000h to 1400h -/

/-- DeviceVariant (R2). -/
def variantCode (v : Variant) : Nat :=
  match v with
  | .sl2ma => 1 | .sl2ml => 2 | .sl1ma => 3

/-- DeviceName (R281). -/
def variantName (v : Variant) : String :=
  match v with
  | .sl2ma => "SL-2M-A" | .sl2ml => "SL-2M-L" | .sl1ma => "SL-1M-A"

/-- LsFirmwareVersion of a port; 0 for a port not booted (R281). -/
def lsVersion (s : State) (p : Port) : Nat :=
  if s.units.ls.get p == .ready then (dirEntry (bootSource s 2 (s.units.runLs.get p)) 2).version else 0

/-- Objects of 1000h (R281). -/
def readIdentity (s : State) (sub : Nat) : Nat :=
  match sub with
  | 0x01 => variantCode s.variant
  | 0x02 => textValue (variantName s.variant)
  | 0x03 => Config.siliconRevision.toNat
  | 0x04 => Config.serialNumber.toNat
  | 0x05 => (dirEntry (bootSource s 0 s.units.runCp) 0).version
  | 0x06 => (dirEntry (bootSource s 1 s.units.runSm) 1).version
  | 0x07 => packPorts 32 (lsVersion s)
  | 0x08 => (dirEntry (bootSource s 0 s.units.runCp) 0).provided
  | 0x09 => 0x0100
  | _ => textValue "Ifeshado Lightworks"

/-- Code of a role (R271, R281). -/
def roleCode (r : Role) : Nat :=
  match r with
  | .commissioner => 1 | .maker => 2

/-- Code of a session's transport (R271, R281). -/
def transportCode (t : Transport) : Nat :=
  match t with
  | .shp => 1 | .can _ => 2

/-- Objects of 1010h and 1020h but for the challenge (R281). -/
def readAccess (s : State) (index sub : Nat) : Nat :=
  match index, sub with
  | 0x1010, 0x03 => (s.access.session.map fun x => roleCode x.1).getD 0
  | 0x1010, 0x04 => (s.access.session.map fun x => transportCode x.2).getD 0
  | 0x1010, 0x07 => s.access.failCount
  | 0x1010, 0x09 => ofBool s.nvm.commissionerKey.isSome
  | _, _ => restoreMark (activeBank s).records

/-- Read-only objects of 1100h to 1400h (R262). -/
def readHost (s : State) (index sub : Nat) : Nat :=
  let h := s.host
  match index, sub with
  | 0x1100, 0x03 => s.power.options.canBase
  | 0x1100, 0x04 => s.power.options.nodeId
  | 0x1100, 0x06 => packLe 32 [h.busOffA, h.busOffB]
  | 0x1100, 0x07 => h.canAborts
  | 0x1100, _ => h.canDuplicates
  | 0x1200, 0x03 => packLe 8 (h.lanes.map (·.state))
  | 0x1200, 0x04 => h.control.getD 0xFF
  | 0x1200, 0x08 => ofBool h.linkLost
  | 0x1200, 0x09 => packLe 32 (h.lanes.map (·.errors))
  | 0x1200, 0x0A => h.gaps
  | 0x1200, 0x0B => h.duplicates
  | 0x1200, 0x0C => h.misrouted
  | 0x1200, 0x0D => h.odStatus.toNat
  | 0x1200, 0x0E => h.odObject.toNat
  | 0x1200, _ => h.odDiscards
  | 0x1210, 0x02 => h.stream0.count.toNat
  | 0x1210, 0x03 => h.stream0.discards
  | 0x1210, _ => h.stream0.last
  | 0x1211, 0x02 => h.stream1.count.toNat
  | 0x1211, 0x03 => h.stream1.discards
  | 0x1211, _ => h.stream1.last
  | 0x1300, 0x01 => hostIrqStatus s
  | 0x1300, _ => h.shpErrors
  | 0x1400, 0x01 => s.power.options.sbpAddress
  | _, _ => h.sbp.errors

/-! ## 2100h and 2200h -/

/-- Code of a port state (R228). -/
def portStateCode (x : PortState) : Nat :=
  match x with
  | .off => 0 | .bringUp => 1 | .service => 2 | .halfRate => 3 | .hold => 4 | .lost => 5

/-- Code of a lane state (R228). -/
def laneStateCode (x : LaneState) : Nat :=
  match x with
  | .untrained => 0 | .working => 1 | .spare => 2 | .failed => 3 | .failedForGood => 4

/-- LaneMap (R228): 0xF where a logical lane or the spare has no physical lane. -/
def laneMapValue (l : LinkPort) : Nat :=
  packLe 4 ((List.range 4).map (fun j => nth 0xF l.map j) ++ [l.spare.getD 0xF])

/-- Read-only objects of a port's mesh and link configuration (R114, R228). -/
def readLinkConfig (s : State) (p : Port) (mesh : Bool) (sub : Nat) : Nat :=
  let l := s.link.get p
  let w := s.warp.get p
  if mesh then
    match sub with
    | 0x03 => warpState w
    | 0x04 => (w.inForce.map uncoveredPixels).getD 0
    | 0x05 => crc32Of 4488 (cfg s (0x2100 + p.num) 1)
    | _ => (w.inForce.map inverseError).getD 0
  else
    match sub with
    | 0x02 => portStateCode l.state
    | 0x03 => laneMapValue l
    | 0x04 => workingLanes l
    | 0x05 => packLe 8 (l.lanes.map laneStateCode)
    | 0x08 => packLe 8 l.deemphasis
    | 0x0B => l.ctle
    | 0x0E => packLe 8 l.skew
    | _ => l.arrayId.toNat

/-! ## 3000h to 3400h -/

/-- Read-only objects of 3000h and 3010h (R114, R149). -/
def readManifest (s : State) (index sub : Nat) : Nat :=
  let m := s.manifest
  let f := s.fetch
  let g := m.stagedFigures
  match index, sub with
  | 0x3000, 0x02 => manifestState s
  | 0x3000, 0x03 => m.sequence.toNat
  | 0x3000, 0x04 => m.lastResult
  | 0x3000, 0x06 => ofBool m.racing
  | 0x3000, 0x07 => m.commitEpoch.toNat
  | 0x3000, 0x08 => m.commitPos.toNat
  | 0x3000, 0x09 => m.refusedCount
  | 0x3000, 0x0A => s.compose.mismatchCount
  | 0x3000, _ => s.compose.fallbackCount
  | _, 0x01 => g.fetchArea
  | _, 0x02 => m.committedFigures.fetchArea
  | _, 0x03 => m.budgetRefusals
  | _, 0x04 => f.refetchCount
  | _, 0x05 => f.transparentCount
  | _, 0x06 => f.heldCount
  | _, 0x07 => f.lateCount
  | _, 0x08 => f.aliasCount
  | _, 0x09 => f.lastFailed.toNat
  | _, 0x0A => pinnedBytes s
  | _, 0x0F => min g.workingSet 0xFFFF
  | _, 0x14 => g.rowDecode
  | _, n =>
    if n < 0x0F then nth 0 g.engineArea (n - 0x0B) else nth 0 g.coverage (n - 0x10)

/-- Read-only objects of 3300h (R149). -/
def readShade (s : State) (sub : Nat) : Nat :=
  let h := s.shade
  match sub with
  | 0x04 => ofBool h.activeBank
  | 0x05 => h.swapCount.toNat
  | 0x06 => h.superseded
  | 0x07 => h.rejected
  | 0x08 => h.overflow
  | 0x09 => ofBool h.stale
  | 0x0A => shadeAge s
  | _ => stagedState s

/-! ## 4000h to 4400h -/

/-- Read-only objects of 4000h and 4400h (R183). -/
def readDrive (s : State) (index sub : Nat) : Nat :=
  match index, sub with
  | 0x4000, 0x02 => packLe 16 (ditherList 4096)
  | 0x4000, 0x06 => s.drive.queue.length + s.drive.applying.length
  | 0x4000, 0x07 => s.drive.appliedCount
  | 0x4000, _ => s.drive.seed.toNat
  | _, _ => guardedMap s

/-- OperatingSteps (R156): n in [23:0] and the code in [31:24] of each entry. -/
def stepsValue (zs : List ZonePair) : Nat := packLe 32 (zs.map fun z => z.n % 2 ^ 24 + 2 ^ 24 * z.code)

/-- What an object of a fused port reads as (R3): its default, which for some is a computed one (R114, R183). -/
def fusedValue (s : State) (base : Nat) (p : Port) (index sub : Nat) : Nat :=
  if base = 0x2100 ∧ sub = 5 then crc32Of 4488 identityMesh
  else if base = 0x4010 ∧ sub = 3 then stepsValue (stepsOf defaultCurve 0x8000)
  else if base = 0x4010 ∧ sub = 4 then (stepsOf defaultCurve 0x8000).length
  else if base = 0x4300 ∧ sub = 3 then s.power.options.vsetSafe.get p
  else defaultOf s index sub

/-- Read-only objects of 4010h to 4303h of a port (R183). -/
def readPortDrive (s : State) (p : Port) (group sub : Nat) : Nat :=
  let f := s.drive.fullScale.get p
  let z := s.compose.zones.get p
  let h := s.headroom.get p
  match group, sub with
  | 0x4010, 0x03 => stepsValue (stepsWritten s p)
  | 0x4010, 0x04 => (stepsWritten s p).length
  | 0x4010, 0x05 => f.correction
  | 0x4010, 0x07 => f.estimate
  | 0x4010, 0x08 => s.drive.ledEnergy.get p
  | 0x4010, _ => ledPowerMw (s.drive.ledPower.get p)
  | 0x4100, 0x02 => packLe 8 z.scanned
  | 0x4100, 0x04 => packLe 32 z.pubPeaks
  | 0x4100, 0x05 => z.clipCount
  | 0x4100, _ => packLe 32 z.pubSums
  | 0x4200, _ => s.drive.ageUpdated.get p
  | _, 0x03 => vsetCode s p
  | _, 0x08 => h.reported
  | _, _ => h.lowCount

/-! ## 5000h to 6100h -/

/-- Read-only objects of the sinks (R415). -/
def readSinks (s : State) (index sub : Nat) : Nat :=
  if index = 0x5000 then
    (match sub with
     | 0x07 => channelMask fun c => channelStatus s c == 4
     | 0x08 => channelMask fun c => decide (1 ≤ channelStatus s c) && decide (channelStatus s c ≤ 3)
     | _ => ofBool s.sinks.applied)
  else if index < 0x5100 then
    let g := index - 0x5010
    let x := sinkGroup s g
    (match sub with
     | 0x03 => x.hrctl
     | 0x04 => x.headroom
     | 0x05 => groupThermalState s g
     | 0x06 => x.shutdowns
     | _ => x.lowCount)
  else
    let c := index - 0x5100
    (match sub with
     | 0x05 => channelStatus s c
     | 0x06 => (sinkOf s c).pin
     | 0x07 => (sinkOf s c).skips
     | _ => ofSigned 16 ((sinkOf s c).trim.getD (clampInt (-8) 7 (Config.sinkDacTrim c))))

/-- ThermalState (R282): its code at each location. -/
def thermalCode (t : Thermal) : Nat :=
  match t with
  | .normal => 0 | .warning => 1 | .throttle => 2 | .shutdown => 3

/-- Read-only objects of 6000h and 6100h (R282). -/
def readHeat (s : State) (index sub : Nat) : Nat :=
  match index, sub with
  | 0x6000, 0x02 => s.toll.total
  | 0x6000, 0x03 => s.toll.state
  | 0x6000, 0x04 => packLe 16 (effectiveScales s)
  | 0x6000, _ => s.toll.scaledFrames
  | _, 0x01 => packLe 16 ((s.hk.used.take 8).map (satSigned 16))
  | _, 0x02 => packLe 16 ((s.hk.used.drop 8).map (satSigned 16))
  | _, 0x03 => s.hk.disqualified.toNat
  | _, 0x04 => ofBool s.hk.shiftLd + 2 * ofBool s.hk.shiftAd
  | _, 0x05 => packLe 8 (s.hk.thermal.map thermalCode)
  | _, _ => s.aon.thermalShutdownCount

/-- Read-only objects of 6010h of a port (R282). -/
def readThermal (s : State) (p : Port) (sub : Nat) : Nat :=
  match sub with
  | 0x08 => s.toll.portToll.get p
  | _ => packLe 16 ((List.range 32).map fun z => satSigned 16 (junction s p z))

/-! ## 7000h to 7500h -/

/-- SafeOutState (R396): a test is one command, so no read falls in it. -/
def safeOutState (s : State) : Nat := ofBool (safeOutAsserted s)

/-- Read-only objects of 7000h and 7101h (R284, R374, R396, R149). -/
def readSafety (s : State) (index sub : Nat) : Nat :=
  match index, sub with
  | 0x7000, 0x01 => s.safety.computed.toNat
  | 0x7000, 0x03 => s.safety.state
  | 0x7000, 0x04 => safetyFunctionState s
  | 0x7000, 0x05 => beamRequestState s
  | 0x7000, 0x06 => safeStateCode s.faults.safeState
  | 0x7000, 0x07 => s.faults.safeKind
  | 0x7000, 0x08 => min 255 s.faults.active.length
  | 0x7000, 0x09 => s.ceiling.source
  | 0x7000, 0x0A => safeOutState s
  | 0x7000, _ => beamRequestAgreed s
  | _, 0x02 => ceilingMapState s
  | _, _ => s.ceiling.errorCount

/-- The committed ring (R284, R369): entry `n` of the commit area while its record stands. -/
def committedEntry (s : State) (n : Nat) : Nat :=
  if s.nvm.boxGood then (getEntry 0 n s.nvm.boxArea).toNat else 0

/-- Read-only objects of 7200h to 7501h (R284, R374). -/
def readFaults (s : State) (index sub : Nat) : Nat :=
  match index, sub with
  | 0x7200, 0x01 => s.compose.conflictCount
  | 0x7200, 0x02 => s.safety.discrepancyCount
  | 0x7200, 0x03 => s.safety.testCount
  | 0x7200, 0x04 => s.safety.abandoned
  | 0x7200, 0x05 => s.aon.waybillSequence.toNat
  | 0x7200, 0x06 => s.faults.waybillsSent
  | 0x7200, 0x07 => s.faults.waybillsDropped
  | 0x7200, 0x08 => s.aon.escalationCount
  | 0x7200, 0x09 => s.aon.commitCount
  | 0x7200, 0x0A => s.aon.bootCount.toNat
  | 0x7200, 0x0B => s.checker.shortfalls
  | 0x7200, _ => s.aon.commitSkipped
  | 0x7300, u => blockStatus s u
  | 0x7400, n => (getEntry 0 n s.aon.ring).toNat
  | 0x7401, n => (getEntry 0 (256 + n) s.aon.ring).toNat
  | 0x7402, 0x01 => s.aon.newest
  | 0x7402, 0x02 => ofBool s.nvm.boxGood
  | 0x7402, 0x03 => (s.nvm.boxRecord.map (·.newest)).getD 0xFFFF
  | 0x7402, 0x04 => (s.nvm.boxRecord.map (·.cause.toNat)).getD 0
  | 0x7402, _ => eraseCount s
  | 0x7403, n => committedEntry s n
  | 0x7404, n => committedEntry s (256 + n)
  | 0x7500, k => (recoveryOf s k).count
  | _, k => ofBool (isLatched s k)

/-! ## 8000h to B100h -/

/-- Read-only objects of 8000h, and HostVote (R286, R471). -/
def readPower (s : State) (sub : Nat) : Nat :=
  let c := s.caravan
  match sub with
  | 0x01 => s.power.votes.host.toNat
  | 0x02 => domainVotes s.power.votes
  | 0x03 => domainPowered s
  | 0x04 => s.power.sleepStatus
  | 0x05 => s.aon.resetCause.toNat
  | 0x06 => s.aon.wakeCause.toNat
  | 0x08 => s.aon.stopEntryCount
  | 0x12 => c.state
  | 0x13 => c.position.getD 0xFF
  | 0x14 => c.size
  | 0x15 => c.loopDelay
  | 0x16 => packLe 8 c.nodeMap
  | 0x17 => c.frameErrors
  | 0x18 => c.dropped
  | _ => c.tokenSeq.toNat

/-- Code of the DPLL's state (R48). -/
def lockCode (x : LockState) : Nat :=
  match x with
  | .freeRun => 0 | .acquiring => 1 | .locked => 2 | .holdover => 3

/-- Read-only objects of 8100h and 8200h (R73). -/
def readTime (s : State) (index sub : Nat) : Nat :=
  let c := s.scan
  match index, sub with
  | 0x8100, 0x0A => lockCode (lockShown s)
  | 0x8100, 0x0B => c.active
  | 0x8100, 0x0C => ofSigned 32 c.phaseError
  | 0x8100, 0x0D => ofSigned 16 (roundDiv c.delta 1000)
  | 0x8100, 0x0E => c.pos.toNat
  | 0x8100, 0x0F => c.epoch.toNat
  | 0x8100, 0x10 => c.dt.toNat
  | 0x8100, 0x11 => c.rejectCount
  | 0x8100, 0x12 => c.hostTime.toNat
  | 0x8100, _ => c.dtAtSync.toNat
  | _, 0x01 => s.leap.lastStop
  | _, 0x02 => satSigned 32 (rcErrorPpm s)
  | _, 0x03 => s.leap.uncertaintyPpm
  | _, 0x04 => s.leap.uncertaintyUs
  | _, 0x07 => ofBool s.aon.leapWrapped
  | _, _ => if s.aon.shadow.measured then s.aon.shadow.nRef else 0

/-- The block of the safe-beam area in NVM (R486). -/
def areaBlock (s : State) (k : Nat) : Nat := bitsOf s.nvm.area (65536 * k) 65536

/-- The safe-default block of R424 as a valid image (R287). -/
def safeDefaultImage : BitVec 1024 :=
  let body := packLe 8 ([0x5C, 0x0A, 1, 0, 0, 0x5C, 0x2A, 2] ++ List.replicate 8 0xFF
    ++ List.replicate 10 0 ++ [1, 0, 0, 0, 0, 1, 0, 0, 0, 0, 1, 0, 0, 0, 0, 1])
  BitVec.ofNat 1024 (body + 2 ^ 992 * crc32Of 124 body)

/-- OptionBlockImage (R287, R288). -/
def optionImage (s : State) : BitVec 1024 :=
  match s.journal.optionRead with
  | some b => b
  | none =>
    if s.power.optionCopyUsed = 0 then s.nvm.optionA
    else if s.power.optionCopyUsed = 1 then s.nvm.optionB
    else safeDefaultImage

/-- Code of the session's holder (R498). -/
def updateHolder (s : State) : Nat :=
  match s.update.session with
  | none => 0
  | some x => if x.source = .svc then 1 else 2

/-- Objects of 9000h to 9040h (R287, R498). -/
def readCare (s : State) (index sub : Nat) : Nat :=
  match index, sub with
  | 0x9000, 0x01 => lifeState s
  | 0x9000, 0x03 => s.access.tokenResult
  | 0x9000, _ => ofBool s.access.consent
  | 0x9010, 0x01 => activeSlots s
  | 0x9010, 0x02 => leNat (slotContent s.nvm.slot0 ++ slotContent s.nvm.slot1)
  | 0x9010, 0x03 => s.update.lastRejection.toNat
  | 0x9010, 0x04 => updateHolder s
  | 0x9010, 0x05 => s.update.activation
  | 0x9010, _ => s.nvm.selSmNext.getD 0xFF
  | 0x9020, 0x01 => s.journal.sequence
  | 0x9020, 0x02 => s.journal.active
  | 0x9020, 0x03 => journalFill s
  | 0x9020, 0x04 => s.journal.compactions
  | 0x9020, 0x05 => s.journal.tornCount
  | 0x9020, 0x06 => s.journal.queue.length
  | 0x9020, 0x07 => s.dict.restoreCount
  | 0x9020, 0x08 => liveBytes s
  | 0x9020, _ => s.aon.journalBudget
  | 0x9030, 0x01 => (optionImage s).toNat
  | 0x9030, 0x02 => s.power.optionCopyUsed
  | 0x9030, _ => s.power.strapCode
  | _, 0x09 => s.journal.areaState
  | _, 0x0A => s.journal.areaResult
  | _, k => areaBlock s k

/-- An Almanac entry (R57); of a firmware entry, what the CP built. -/
def almanacEntry (s : State) (n : Nat) : BitVec 96 :=
  getEntry (BitVec.ofNat 96 defaultEntry) n s.almanac.entries

/-- Read-only objects of A000h, and the entries (R73). -/
def readAlmanac (s : State) (index sub : Nat) : Nat :=
  let a := s.almanac
  match index, sub with
  | 0xA000, 0x02 => a.lateCount
  | 0xA000, 0x03 => a.maxLate
  | 0xA000, 0x04 => a.tollSkips
  | 0xA000, 0x05 => a.maskCount.toNat
  | 0xA000, 0x07 => a.irqCause
  | 0xA000, 0x08 => ofBool a.ready
  | 0xA000, 0x09 => s.hk.result.toNat
  | 0xA000, 0x0A => packLe 32 (s.hk.ring.map (·.toNat))
  | 0xA000, 0x0B => s.hk.ringNewest
  | 0xA000, _ => s.hk.dropCount
  | i, n => (almanacEntry s (256 * (i - 0xA100) + n)).toNat

/-- Read-only objects of B000h (R289, R346). -/
def readMemory (s : State) (sub : Nat) : Nat :=
  match sub with
  | 0x01 => s.sramCorrected
  | 0x02 => s.dramCorrected
  | 0x04 => s.dramRate
  | 0x05 => s.faults.ddbRetries
  | 0x10 => s.checker.checked.toNat
  | 0x11 => s.checker.disagreed
  | _ => s.checker.violations

/-- Read-only objects of B100h of a port (R228, R346). -/
def readDiagnostics (s : State) (p : Port) (sub : Nat) : Nat :=
  let l := s.link.get p
  let k := l.counts
  let x := s.pixels.get p
  match sub with
  | 0x01 => packLe 32 k.laneErrors
  | 0x02 => k.returnErrors
  | 0x03 => k.rowsNotLatched
  | 0x04 => k.trimResends
  | 0x05 => k.remaps
  | 0x06 => k.halfRateFrames
  | 0x07 => k.holds
  | 0x08 => k.losses
  | 0x09 => k.attempts
  | 0x0A => l.sequence.toNat
  | 0x0B => k.returnGaps
  | 0x16 => x.sweepPhase
  | 0x17 => x.candidates.length
  | 0x18 => x.dropped
  | 0x19 => x.falseAlarms
  | 0x1A => x.storms
  | 0x1B => x.echoErrors
  | 0x1C => x.missed
  | 0x1D => x.displaced
  | 0x1E => s.nvm.disabled.get p
  | 0x1F => (s.nvm.stuckPixel.get p).toNat
  | 0x20 => x.selectedRow
  | 0x21 => x.snapshot
  | 0x22 => packLe 32 (statusCount s p)
  | 0x23 => x.lastFailed.toNat
  | _ => x.raises

/-! ## The whole dictionary -/

/-- The port that an index serves, with its base (R263). -/
def portOfIndex (index : Nat) : Option (Nat × Port) :=
  let base := index / 4 * 4
  if [0x2100, 0x2200, 0x4010, 0x4100, 0x4200, 0x4300, 0x6010, 0x7110, 0xB100].contains base then
    some (base, Port.ofNum (index % 4))
  else none

/-- The object belongs to a port that the variant has fused off (R3). -/
def isFused (s : State) (index : Nat) : Bool :=
  match portOfIndex index with
  | some (_, p) => !hasPort s p
  | none => false

/-- The object lies in the Manifest (R132). -/
def inManifest (index : Nat) : Bool :=
  (decide (0x3100 ≤ index) && decide (index < 0x3108)) || (decide (0x3200 ≤ index) && decide (index < 0x3208))

/-- The value of a read-only object. SurfaceLocation is that of the state of the pin request, so that it reads 0x00 while a
pinned surface is being pinned again, although its copy serves: the manual does not say (R114, log 167). -/
def readOnly (s : State) (index sub : Nat) : Nat :=
  match portOfIndex index with
  | some (0x2100, p) => readLinkConfig s p true sub
  | some (0x2200, p) => readLinkConfig s p false sub
  | some (0x6010, p) => readThermal s p sub
  | some (0xB100, p) => readDiagnostics s p sub
  | some (base, p) => readPortDrive s p base sub
  | none =>
    if index = 0x1000 then readIdentity s sub
    else if index < 0x1100 then readAccess s index sub
    else if index < 0x2000 then readHost s index sub
    else if index < 0x3100 then readManifest s index sub
    else if index < 0x3108 then nth 0 s.manifest.committedFigures.layerArea (index - 0x3100)
    else if index = 0x3300 then readShade s sub
    else if index < 0x3400 then (shadeSlot s.shade.active sub).toNat
    else if index < 0x4000 then
      (if sub = 0x09 then ofBool ((pinState s (index - 0x3400)) == 2) else pinState s (index - 0x3400))
    else if index < 0x5000 then readDrive s index sub
    else if index < 0x6000 then readSinks s index sub
    else if index < 0x7000 then readHeat s index sub
    else if index = 0x7000 ∨ index = 0x7101 then readSafety s index sub
    else if index < 0x8000 then readFaults s index sub
    else if index = 0x8000 then readPower s sub
    else if index < 0x9000 then readTime s index sub
    else if index < 0xA000 then readCare s index sub
    else if index < 0xB000 then readAlmanac s index sub
    else readMemory s sub

/-- The objects whose value a part other than the configuration table holds though they take writes: HostVote,
staged shade objects, Almanac entries, the option image, the safe-beam blocks, the row select. -/
def isHeldElsewhere (index sub : Nat) : Bool :=
  (index == 0x8000 && sub == 1) || index == 0x9030 || index == 0x9040
    || (decide (0xA100 ≤ index) && decide (index < 0xA104))
    || (decide (0xB100 ≤ index) && decide (index < 0xB104) && sub == 0x20)

/-- The value of an object that the variant has, all but the challenge (R267, R279). -/
def presentValue (s : State) (r : ObjectRow) (index sub : Nat) : Nat :=
  if inManifest index && r.access != .ro then manifestValue s s.manifest.staged index sub
  else if index = 0x3301 then (shadeSlot s.shade.staged sub).toNat
  else if r.access == .ro || isHeldElsewhere index sub then readOnly s index sub
  else cfg s index sub

/-- The value of a readable object (R3, R267). -/
def objectValue (s : State) (r : ObjectRow) (index sub : Nat) : Nat :=
  match portOfIndex index with
  | some (base, p) => if hasPort s p then presentValue s r index sub else fusedValue s base p index sub
  | none => presentValue s r index sub

end Sys2Proof.Machine
end

