-- ==== Sys2Proof/Machine/Applied.lean ====
section
/-!
DEFINITION. Applied.lean: what a configuration value does when it comes into force (R279), and the NVM controller's
commands: journal records, scan and compaction (R487 to R493), option block (R288), safe-beam area (R486).
-/

namespace Sys2Proof.Machine

open Sys2Proof

/-! ## Values in force -/

/-- A journalled write that the CP makes itself: its value stands at once, its record follows (R159). -/
def writeOwn (index sub size v : Nat) (s : State) : State :=
  enqueueWrite ⟨index, sub, 1, size, v, none⟩ (setCfg index sub v s)

/-- A new efficacy curve (R156, R159): the step table is built again, and a fixed code off the curve becomes 255. -/
def applyCurve (p : Port) (s : State) : State :=
  let s1 := rebuildSteps p s
  if codeOnCurve s1 p (cfg s1 (0x4100 + p.num) 3) then s1 else writeOwn (0x4100 + p.num) 3 1 255 s1

/-- An Almanac entry as it is held: its reserved fields read 0 (R10, R57). -/
def cleanEntry (v : Nat) : Nat := v % 2 ^ 32 + bitsOf v 40 44 * 2 ^ 40 + bitsOf v 86 10 * 2 ^ 86

/-- An integrator entry of the Almanac takes its new value (R66). -/
def applyEntry (n v : Nat) (s : State) : State :=
  { s with almanac := { s.almanac with
      entries := if v = defaultEntry then s.almanac.entries.filter fun e => e.1 != n
        else putEntry n (BitVec.ofNat 96 v) s.almanac.entries
      unsaved := s.almanac.unsaved.filter (· != n) } }

/-- A stream bound anew has no picture in progress (R236). -/
def rebindStream (k : Nat) (s : State) : State :=
  { s with host :=
    if k = 0 then { s.host with stream0 := idleStream s.host.stream0 }
    else { s.host with stream1 := idleStream s.host.stream1 } }

/-- The effect of a value that has come into force, for the objects whose units act on it at once. -/
def applyHooks (index sub v : Nat) (s : State) : State :=
  let p := Port.ofNum (index % 4)
  if 0x2100 ≤ index ∧ index < 0x2104 ∧ sub = 1 then (if isOn s .pix then startInversion p v s else s)
  else if index = 0x3000 ∧ sub = 5 then restoreMode s
  else if 0x4010 ≤ index ∧ index < 0x4014 ∧ sub = 1 then applyCurve p s
  else if 0x4010 ≤ index ∧ index < 0x4014 ∧ sub = 5 then onFullScale p (fun f => { f with lastGood := v }) s
  else if 0x7110 ≤ index ∧ index < 0x7114 then
    { s with ceiling := { s.ceiling with rewritten := objKey index sub :: s.ceiling.rewritten } }
  else if 0x7100 ≤ index ∧ index < 0x7200 then settleRequest s
  else if index = 0x7000 ∧ sub = 2 then judgeCommissioning s
  else if index = 0x8100 ∧ sub = 1 then restoreRate s
  else if 0x1210 ≤ index ∧ index < 0x1212 ∧ sub = 1 then rebindStream (index - 0x1210) s
  else if 0xA100 ≤ index ∧ index < 0xA104 then applyEntry (256 * (index - 0xA100) + sub) v s
  else s

/-- A value comes into force (R279): it is held, and its unit acts on it. -/
def applyValue (index sub v : Nat) (s : State) : State := applyHooks index sub v (setCfg index sub v s)

/-! ## The journal -/

/-- A record that has been committed (R276, R488, R492): programmed, paid for, in force, and answered. -/
def commitWrite (w : JWrite) (s : State) : State :=
  let s1 := appendRecord (recordOf (s.journal.sequence + 1) w) (recordSize w.length) s
  let s2 := { s1 with aon := { s1.aon with journalBudget := s1.aon.journalBudget - budgetCost w } }
  let s3 := if w.kind = 1 then applyValue w.index w.sub w.value s2 else s2
  checkFill (answerWaiter w.waiter stOk s3)

/-- An attempt to program a record that failed its read-back: its room is used up, and an invalid record stands there (R488,
R489, log 62). -/
def spoilRecord (w : JWrite) (s : State) : State :=
  let b := activeBank s
  putActiveBank (markTorn { b with used := b.used + recordSize w.length }) s

/-- A burst one of whose records failed has that failure in its last record, unless an earlier one stands there (R249). -/
def passFailure (via : Via) (status : Nat) (q : List JWrite) : List JWrite :=
  q.map fun w =>
    match w.waiter with
    | some x =>
      if x.via = via ∧ x.last ∧ x.status = stOk then { w with waiter := some { x with status := status } } else w
    | none => w

/-- A write that is not committed is answered with a failure; inside a burst its last record brings the answer (R249,
R276). -/
def refuseWrite (status : Nat) (w : JWrite) (s : State) : State :=
  answerWaiter w.waiter status (match w.waiter with
    | some x => if x.last then s
      else { s with journal := { s.journal with queue := passFailure x.via status s.journal.queue } }
    | none => s)

/-- A record that failed twice, or that would take the live size above its bound (R276, R488, R491): the write is answered
with 0x01, and kind 0x39 is raised. -/
def failWrite (w : JWrite) (s : State) : State := checkFill (refuseWrite stBusy w (raiseJournal w.index w.sub s))

/-- JOURNAL_RECORD_COMMITTED (R276, R488): the record at the front of the queue is programmed, with one retry at the next
free offset. A value that would break a relation, because a write before it failed, is refused (R183, R283, R310, log 87);
so is a record that would then take the live size above its bound (R491). Packets of the control lane that waited for it
act then (R242). -/
def execJournalRecordCommitted (first retry : Bool) (s : State) : Host.Outcome State Fault Refusal :=
  .next (match s.journal.queue with
    | [] => s
    | w :: q =>
      if inReset s || !isOn s .safe || !s.journal.scanned || s.journal.compacting then s
      else
        let s1 := { s with journal := { s.journal with queue := q } }
        runQueue
          (if w.kind = 1 ∧ !relationsKept (setCfg w.index w.sub w.value s1) w.index w.sub then
            refuseWrite stRange w s1
          else if liveWith s1 [w] > liveBound then failWrite w s1
          else if first then commitWrite w s1
          else if retry then commitWrite w (spoilRecord w s1)
          else failWrite w (spoilRecord w (spoilRecord w s1))))

/-- A life-cycle word that reads neither erased nor programmed is completed, with the erasures of a transition to
RETURN (R494). -/
def completeLife (s : State) : State :=
  let torn := s.nvm.life.getD 4 0 == 2
  let s1 := { s with nvm := { s.nvm with life := s.nvm.life.map fun x => if x = 2 then 1 else x } }
  if torn then eraseForReturn s1 else s1

/-- State of the area in NVM (R29, R391, R498): 0 valid, else bit 0 the pattern and bit 1 the factory ceiling invalid. -/
def areaStateOf (area : Nat) : Nat := ofBool (!patternValid area) + 2 * ofBool (!factoryValid area)

/-- JOURNAL_SCAN_DONE (R388, R489, R490, R494, R498): the active bank is chosen and scanned, the safety set is restored, a
compaction follows a torn record or a restore mark, and the state of the safe-beam area is found. -/
def execJournalScanDone (s : State) : Host.Outcome State Fault Refusal :=
  .next (if inReset s || !isOn s .safe || s.journal.scanned then s
    else
      let s1 := completeLife { s with journal := { s.journal with active := chooseBank s } }
      let a := chooseBank s1
      let b := if a = 1 then s1.nvm.bank1 else s1.nvm.bank0
      let rs := scannedRecords b
      let s2 := { s1 with journal := { s1.journal with
        active := a
        scanned := true
        sequence := topSequence b
        areaState := areaStateOf s1.nvm.area
        tornCount := if b.torn.isSome then count32 s1.journal.tornCount else s1.journal.tornCount
        compacting := b.torn.isSome || decide (restoreMark rs ≠ 0) || decide (b.used ≥ compactFill) } }
      restoreObjects true (clearSafetySet (putActiveBank { b with records := rs } s2)))

/-- JOURNAL_COMPACTION_DONE (R490, R494): the compacted bank becomes the active one; an erasure that waited follows. -/
def execJournalCompactionDone (s : State) : Host.Outcome State Fault Refusal :=
  .next (if inReset s || !isOn s .safe || !s.journal.compacting then s
    else
      let s1 := putOtherBank (compacted s) s
      let s2 := { s1 with journal := { s1.journal with
        active := 1 - s1.journal.active, compacting := false, sequence := s.journal.sequence + 2
        compactions := count32 s1.journal.compactions } }
      if s2.access.returnDue then enterReturn s2 else s2)

/-! ## Option block and safe-beam area -/

/-- OPTION_IMAGE_PROGRAMMED (R288): both copies are committed and read back. -/
def execOptionImageProgrammed (s : State) : Host.Outcome State Fault Refusal :=
  .next (match s.journal.optionWrite with
    | none => s
    | some (b, w) =>
      answerWaiter (some w) stOk
        { s with
          nvm := { s.nvm with optionA := b, optionB := b }
          journal := { s.journal with optionWrite := none, optionRead := some b } })

/-- SAFE_BEAM_AREA_PROGRAMMED (R486): every byte is programmed and read back. -/
def execSafeBeamAreaProgrammed (readBack : Bool) (s : State) : Host.Outcome State Fault Refusal :=
  .next (match s.journal.areaWrite with
    | none => s
    | some a =>
      let area := if readBack then a else 0
      { s with
        nvm := { s.nvm with area := area }
        journal := { s.journal with
          areaWrite := none, areaState := areaStateOf area, areaResult := if readBack then 1 else 5 } })

end Sys2Proof.Machine
end

