-- ==== Sys2Proof/Machine/Writing.lean ====
section
/-!
DEFINITION. Writing.lean: requests to the object dictionary (R229, R263 to R280): the checks of a write, its effect, and
reads. Each command that the table names for a write of one object is that write.
-/

namespace Sys2Proof.Machine

open Sys2Proof

/-! ## Objects and their units -/

/-- The row of an object that exists (R263, R270): the maker's range answers 0x03, and the units' objects exist for the
source units only. -/
def objectAt (index sub : Nat) : Option ObjectRow :=
  if 0xF000 ≤ index ∨ ((index = 0x7300 ∨ index = 0x7301) ∧ !isUnit sub) then none else findObject index sub

/-- The unit that holds an object restarts (R442). -/
def unitRestarts (s : State) (index sub : Nat) : Bool :=
  if 0x2200 ≤ index ∧ index < 0x2204 then s.units.ls.get (Port.ofNum (index % 4)) == .booting
  else if index = 0x3000 ∨ (0x3300 ≤ index ∧ index ≤ 0x3302) then s.units.composerRestart
  else if index = 0xB000 ∧ counterDomain sub = .dram then s.units.dramFailed && !kindActive s 0x27
  else if index = 0x7000 ∨ (index = 0xB000 ∧ 0x10 ≤ sub) then s.units.smRebooting
  else false

/-- What a transfer on the internal bus to a unit answers (R441). -/
inductive BusResponse where
  | done
  | isolated
  deriving DecidableEq, Repr

/-- A transfer to the unit that holds an object (R441): BUS_ISOLATED at once while its wrapper is closed, because it has no
power or restarts. A restart also drops what the unit had asked for: its late answers find nothing that waits (`darkLink`,
`restartCp`, `restartComposer`). -/
def busTransfer (s : State) (index sub : Nat) : BusResponse :=
  if isOn s (objectDomain index sub) && !unitRestarts s index sub then .done else .isolated

/-- A dictionary request whose object lies in an isolated unit is answered busy (R441). -/
def unitBusy (s : State) (index sub : Nat) : Bool := busTransfer s index sub == .isolated

/-! ## Access -/

/-- The ranges that a UHL record and a relayed request never reach (R244, R464). -/
def lowReach (o : ObjectRow) (index : Nat) : Bool :=
  (o.access == .rw || o.access == .wo)
    && !(decide (0x7000 ≤ index) && decide (index < 0x8000))
    && !(decide (0x9000 ≤ index) && decide (index < 0xA000))

/-- The write lies within the reach of its transport (R244, R257, R269, R464). -/
def inReach (via : Via) (o : ObjectRow) (index sub : Nat) : Bool :=
  match via with
  | .uhl _ => lowReach o index
  | .caravan _ => lowReach o index
  | .sbp => (o.access == .rw && index == 0x8000) || (index == 0x1300 && sub == 3)
  | _ => true

/-- Objects of L6 and L7 that refuse every write (R116). -/
def roleFixed (index sub : Nat) : Bool :=
  (index == 0x3106 && sub == 0x0C) || (index == 0x3107 && (sub == 0x0C || sub == 0x0D))

/-- Access code, session and life cycle allow the write (R268, R270, R274, R486). -/
def writeAllowed (s : State) (via : Via) (o : ObjectRow) (index sub : Nat) : Bool :=
  inReach via o index sub && !roleFixed index sub
    && (match o.access with
        | .ro => false
        | .rwm => makerAllowed s via
        | .rwc => if index = 0x9040 then areaAllowed s via else commissionerAllowed s via
        | _ =>
          if index = 0x1010 ∧ sub = 8 then keyAllowed s via
          else if index = 0x9040 then areaAllowed s via
          else openWriteAllowed s index sub)

/-! ## Values -/

/-- The value of a write without its reserved bits (R10). -/
def cleanValue (index sub v : Nat) : Nat :=
  if index = 0x1300 ∧ sub = 2 then v % 256
  else if index = 0x4400 ∧ 1 ≤ sub ∧ sub ≤ 4 then v % 4096 + bitsOf v 16 12 * 2 ^ 16 + bitsOf v 31 1 * 2 ^ 31
  else if 0xA100 ≤ index ∧ index < 0xA104 then cleanEntry v
  else if index = 0x3301 then v % 2 ^ 64 + v / 2 ^ 80 * 2 ^ 80
  else v

/-- The Manifests name a surface (R78). -/
def surfaceNamed (s : State) (f : Nat) : Bool :=
  (List.range 8).any fun n =>
    layerValue s s.manifest.staged n 1 == f || layerValue s s.manifest.committed n 1 == f

/-- The surface that a video stream is bound to (R236). -/
def boundSurface (s : State) (k : Nat) : Option Nat :=
  let f := cfg s (0x1210 + k) 1
  if f = 0xFF then none else some f

/-- Bytes of the tile table of a surface in a buffer of the ingest unit (R239). -/
def ingestTable (s : State) (f : Nat) : Nat := (tileCount s f * 4 + 63) / 64 * 64

/-- Bytes of a tile's slot in a buffer of the ingest unit (R239). -/
def ingestSlot (s : State) (f : Nat) : Nat := (16 + 128 * formatWidth (surfaceValue s f 1) + 31) / 32 * 32

/-- A surface can take a video stream (R236). -/
def bindable (s : State) (f : Nat) : Bool :=
  [3, 4, 5, 6].contains (surfaceValue s f 1) && decide (surfaceValue s f 2 ≤ 2048)
    && decide (surfaceValue s f 3 ≤ 1024)
    && decide (ingestTable s f + tileCount s f * ingestSlot s f ≤ surfaceValue s f 6)

/-- The device may take the Caravan token as a reference: it is a Waystation (R44). -/
def tokenSourceAllowed (s : State) : Bool :=
  s.caravan.enabled && s.power.options.nodeId != 0

/-- A KeyCode has the width of the codes of the layer's surface (R114); a layer without a valid surface sets no width
(log 83). -/
def keyCodeFits (s : State) (n v : Nat) : Bool :=
  let f := layerValue s s.manifest.staged n 1
  !(decide (f < 64) && surfaceValid s f) || decide (v < 2 ^ formatWidth (surfaceValue s f 1))

/-- Checks of the Manifest and of the shade banks on a write (R114, R123, R124, R133, R142). -/
def judgeComposition (s : State) (index sub v : Nat) : Nat :=
  if inManifest index then
    (if manifestFrozen s then stBusy
     else if 0x3100 ≤ index ∧ index < 0x3108 ∧ sub = 0x0A ∧ keyCodeFits s (index - 0x3100) v = false then stRange
     else stOk)
  else if index = 0x3000 ∧ sub = 5 then
    (if v = 1 ∧ s.manifest.committedFigures.rowDecode > rowDecodeLimit then stAccess else stOk)
  else if index = 0x3301 then
    (if s.shade.source = 0 then stAccess
     else if s.shade.frozen || s.shade.refilling then stBusy
     else if shadeInvalid (BitVec.ofNat 128 v) then stRange else stOk)
  else if index = 0x3300 ∧ sub = 3 then
    (if s.shade.source = 0 then stAccess
     else if s.shade.refilling then stBusy
     else if v = 1 ∧ !s.shade.written then stAccess else stOk)
  else stOk

/-- Checks on a surface descriptor (R78, R79, R236). A BufferCount that leaves CurrentBuffer at or above it is accepted, and
CurrentBuffer stands: the manual does not say (R114, log 168). -/
def judgeSurface (s : State) (f sub v : Nat) : Nat :=
  if sub = 0x0A then stOk
  else if sub = 7 then
    (if boundSurface s 0 = some f ∨ boundSurface s 1 = some f then stAccess
     else if v < surfaceValue s f 5 then stOk else stRange)
  else if surfaceNamed s f then stAccess else stOk

/-- Checks on the drive and safety objects (R155, R159, R285, R389). -/
def judgeSettings (s : State) (index sub v : Nat) : Nat :=
  let p := Port.ofNum (index % 4)
  if 0x4010 ≤ index ∧ index < 0x4014 ∧ sub = 1 then
    (if curveValid (correctionOf s p) v then stOk else stRange)
  else if 0x4100 ≤ index ∧ index < 0x4104 ∧ sub = 3 then (if codeOnCurve s p v then stOk else stRange)
  else if index = 0x7000 ∧ sub = 2 then (if v = s.safety.computed.toNat ∧ v ≠ 0 then stOk else stRange)
  else if index = 0x7120 then
    (if (kindRow sub).fixed || (kindRow sub).choice.isNone then stAccess else stOk)
  else if index = 0x7502 then (if isLatched s v then stOk else stRange)
  else stOk

/-- A mesh that was written before waits for its journal record, so that the port is about to be inverted (R102, R276). -/
def meshQueued (s : State) (index : Nat) : Bool :=
  s.journal.queue.any fun w => w.kind == 1 && w.index == index && w.sub == 1

/-- Checks on the remaining objects (R2, R58, R102, R236, R273, R288, R448, R471). -/
def judgeOther (s : State) (index sub v : Nat) : Nat :=
  if index = 0x2000 ∧ sub = 1 then (if layoutSupported s.variant v then stOk else stAccess)
  else if 0x2100 ≤ index ∧ index < 0x2104 then
    (if (s.warp.get (Port.ofNum (index % 4))).inverting || meshQueued s index then stAccess
     else if meshFolds v then stRange else stOk)
  else if 0x8100 = index ∧ (sub = 2 ∨ sub = 3) then
    (if v = 3 ∧ !tokenSourceAllowed s then stRange else stOk)
  else if 0x1210 ≤ index ∧ index < 0x1212 ∧ sub = 1 then
    (if v = 0xFF ∨ bindable s v then stOk else stRange)
  else if index = 0x8000 ∧ sub = 0x11 then (if v = 1 ∧ s.power.options.nodeId ≠ 0 then stRange else stOk)
  else if 0xA100 ≤ index ∧ index < 0xA104 then (if entryValid v then stOk else stRange)
  else if index = 0x9030 then
    (if s.journal.optionWrite.isSome then stBusy
     else if optionValid (BitVec.ofNat 1024 v) then stOk else stRange)
  else stOk

/-- The checks of a value that join the object with other state: the answer 0x00, or the refusal. -/
def judgeValue (s : State) (index sub v : Nat) : Nat :=
  if (0x3000 ≤ index ∧ index < 0x3400) then judgeComposition s index sub v
  else if 0x3400 ≤ index ∧ index < 0x3440 then judgeSurface s (index - 0x3400) sub v
  else if !relationsKept (setCfg index sub v (withQueued s)) index sub then stRange
  else if judgeSettings s index sub v ≠ stOk then judgeSettings s index sub v
  else judgeOther s index sub v

/-- The checks of a write in their order (R3, R34, R229, R263 to R270). A shade object is judged with its reserved bits
(R120). -/
def judgeRequest (s : State) (via : Via) (index sub : Nat) (data : List Byte) : Nat :=
  match objectAt index sub with
  | none => stNoObject
  | some o =>
    if isFused s index then stAccess
    else if unitBusy s index sub then stBusy
    else if !writeAllowed s via o index sub then stAccess
    else if data.length ≠ o.size then stLength
    else if !inRange o.range o.size (leNat data) then stRange
    else judgeValue s index sub (if index = 0x3301 then leNat data else cleanValue index sub (leNat data))

/-! ## Effects -/

/-- A mesh that folds is reported as refused (R102). -/
def noteRefusal (index status : Nat) (s : State) : State :=
  if 0x2100 ≤ index ∧ index < 0x2104 ∧ status = stRange then refuseMesh (Port.ofNum (index % 4)) s else s

/-- A write of a journalled object enters the queue, and its answer follows the commit (R276). -/
def journalWrite (index sub kind size v : Nat) (w : Waiter) (s : State) : Option Nat × State :=
  let x : JWrite := ⟨index, sub, kind, size, v, some w⟩
  match judgeWrite s x with
  | .taken => (none, { s with journal := { s.journal with queue := s.journal.queue ++ [x] } })
  | .busy => (some stBusy, s)
  | .full => (some stBusy, raiseJournal index sub s)

/-- The level of the restore mark that stands or waits (R278). -/
def pendingMark (s : State) : Nat :=
  maxOf (restoreMark (activeBank s).records) ((s.journal.queue.filter fun w => w.kind == 2).map (·.value))

/-- A write of RestoreDefaults (R278). -/
def writeRestore (v : Nat) (w : Waiter) (s : State) : Option Nat × State :=
  if v = 0xDEF00001 then journalWrite 0x1020 2 2 1 (max 1 (pendingMark s)) w s
  else if v = 0xDEF00002 then
    (if inSession s w.via .commissioner then journalWrite 0x1020 2 2 1 2 w s else (some stAccess, s))
  else (some stRange, s)

/-- The staged area as one number; none while a block is missing (R486). -/
def stagedArea (s : State) : Option Nat :=
  if s.update.staging.length = 8 then
    some (packLe 65536 ((List.range 8).map fun k => getEntry 0 k s.update.staging))
  else none

/-- The result code of a commit of the staged area (R486, R498): 0 for a pass. -/
def judgeArea (crc : Nat) (area : Option Nat) : Nat :=
  match area with
  | none => 2
  | some a =>
    if crc32Of 65536 a ≠ crc then 2
    else if !patternValid a then 3
    else if !factoryValid a then 4
    else 0

/-- A write of SafeBeamAreaCommit (R486). -/
def commitArea (crc : Nat) (s : State) : Nat × State :=
  if s.journal.areaWrite.isSome then (stBusy, s)
  else
    let r := judgeArea crc (stagedArea s)
    if r ≠ 0 then (stRange, { s with journal := { s.journal with areaResult := r } })
    else (stOk, { s with journal := { s.journal with areaWrite := stagedArea s, areaState := 4 } })

/-- Bits of a unit's BlockStatus are acknowledged (R285, R349). -/
def ackBlock (u v : Nat) (s : State) : State :=
  putBlock { blockOf s u with bits := (blockOf s u).bits &&& ~~~(BitVec.ofNat 16 v) } s

/-- A write of 1 to EmitterDisableClear (R335): a stuck-lit record goes, and the port is enabled at its next
bring-up. -/
def clearEmitter (p : Port) (s : State) : State :=
  if s.nvm.disabled.get p = 1 then clearRecord p (onLink p (fun l => { l with waitBringUp := true }) s) else s

/-- A write of ShadeObjectStaged (R124). -/
def stageShade (k v : Nat) (s : State) : State :=
  onShade (fun h => { h with staged := (fullBank h.staged).set k (BitVec.ofNat 128 v), written := true }) s

/-- A write of SurfacePin (R97, R98). -/
def writePin (f v : Nat) (s : State) : State := if v = 1 then pinSurface f s else unpinSurface f s

/-- The effect of a write of an object that is not journalled and whose unit is not the configuration table, with its
answer; none for any other object. -/
def writeSpecial (w : Waiter) (index sub v : Nat) (data : List Byte) (s : State) : Option (Nat × State) :=
  let p := Port.ofNum (index % 4)
  match index, sub with
  | 0x1010, 0x02 => some (respond w.via data s)
  | 0x1010, 0x05 => some (stOk, writeSessionClose w.via v s)
  | 0x1010, 0x08 => some (stOk, storeKey v s)
  | 0x1300, 0x03 =>
    some (stOk, { s with host := { s.host with irq := s.host.irq &&& ~~~(BitVec.ofNat 32 v) } })
  | 0x3000, 0x01 => some (stOk, if v = 1 then requestCommit s else s)
  | 0x3300, 0x03 => some (stOk, if v = 1 then acceptSwapRequest s else s)
  | 0x3301, k => some (stOk, stageShade k v s)
  | 0x7301, u => some (stOk, ackBlock u v s)
  | 0x7502, _ => some (stOk, releaseLatch v s)
  | 0x8000, 0x01 => some (writeHostVote v s)
  | 0x9000, _ => some (stOk, writeToken w.via data s)
  | 0x9040, 0x08 => some (commitArea v s)
  | 0x9040, k => some (stOk, onUpdate (fun u => { u with staging := putEntry k v u.staging }) s)
  | 0xA000, 0x06 =>
    some (stOk, if v = 1 then { s with almanac := { s.almanac with restart := true } } else s)
  | i, j =>
    if inManifest i then some (stOk, stageWrite i j v s)
    else if 0x3400 ≤ i ∧ i < 0x3440 ∧ j = 0x0A then
      some (stOk, writePin (i - 0x3400) v s)
    else if 0x5100 ≤ i ∧ i < 0x5130 ∧ j = 0x08 then
      let d := drawFree s
      some (stOk, if v = 1 then retrySink (i - 0x5100) (d.1 % 65536) d.2 else s)
    else if 0xB100 ≤ i ∧ i < 0xB104 ∧ j = 0x20 then
      some (stOk, onPixels p (fun x => { x with pendingRow := some v }) s)
    else if 0xB100 ≤ i ∧ i < 0xB104 ∧ j = 0x24 then some (stOk, if v = 1 then clearEmitter p s else s)
    else none

/-- A write that has passed its checks: its answer now, or none when the answer waits for NVM (R276, R288), and the
state. -/
def performWrite (w : Waiter) (o : ObjectRow) (index sub : Nat) (data : List Byte) (s : State) : Option Nat × State :=
  let v := cleanValue index sub (leNat data)
  if index = 0x1020 then writeRestore v w s
  else if index = 0x9030 then
    (none, { s with journal := { s.journal with optionWrite := some (BitVec.ofNat 1024 v, w) } })
  else if o.journal then journalWrite index sub 1 o.size v w s
  else
    match writeSpecial w index sub v data s with
    | some r => (some r.1, r.2)
    | none => (some stOk, applyValue index sub v s)

/-- A write of one object (R266, R268, R279): refused with its code and without effect, or performed. -/
def writeObject (w : Waiter) (index sub : Nat) (data : List Byte) (s : State) : Option Nat × State :=
  let st := judgeRequest s w.via index sub data
  if st ≠ stOk then (some st, noteRefusal index st s)
  else
    match objectAt index sub with
    | some o => performWrite w o index sub data s
    | none => (some stNoObject, s)

/-- A write request on its own: while the CP is not ready it is answered busy (R34). -/
def requestWrite (via : Via) (index sub : Nat) (data : List Byte) (s : State) : State :=
  if !cpReady s then answer via true index sub stBusy [] s
  else
    let r := writeObject { via := via, index := index, sub := sub } index sub data s
    match r.1 with
    | some st => answer via true index sub st [] r.2
    | none => r.2

/-! ## Reads -/

/-- The largest object that a transport reads (R257, R464). -/
def readLimit (via : Via) : Nat :=
  match via with
  | .sbp => 32
  | .caravan _ => 62
  | _ => 8192

/-- The checks of a read in their order (R3, R229, R257, R268, R270, R346). -/
def judgeRead (s : State) (via : Via) (index sub : Nat) (o : ObjectRow) : Nat :=
  if !readAllowed s index sub || o.access == .wo then stAccess
  else if o.size > readLimit via then stLength
  else if isFused s index then stOk
  else if unitBusy s index sub then stBusy
  else if 0xB100 ≤ index ∧ index < 0xB104 ∧ sub = 0x21
      ∧ (s.pixels.get (Port.ofNum (index % 4))).pendingRow.isSome then stBusy
  else stOk

/-- A read of one object: status, data and the state, which only a read of the challenge changes (R267, R271). -/
def readObject (via : Via) (index sub : Nat) (s : State) : Nat × List Byte × State :=
  match objectAt index sub with
  | none => (stNoObject, [], s)
  | some o =>
    let st := judgeRead s via index sub o
    if st ≠ stOk then (st, [], s)
    else if index = 0x1010 ∧ sub = 1 then readChallenge via s
    else (stOk, leBytes o.size (objectValue s o index sub), s)

/-- A read request on its own. -/
def requestRead (via : Via) (index sub : Nat) (s : State) : State :=
  if !cpReady s then answer via false index sub stBusy [] s
  else
    let r := readObject via index sub s
    answer via false index sub r.1 r.2.1 r.2.2

/-! ## Commands that write one object -/

/-- OD_OBJECT_WRITE (R279): a write of any object. -/
def execOdObjectWrite (via : Via) (index sub : Nat) (data : List Byte) (s : State) : Host.Outcome State Fault Refusal :=
  .next (requestWrite via index sub data s)

/-- HOST_VOTE_WRITE (R436). -/
def execHostVoteWrite (via : Via) (data : List Byte) (s : State) : Host.Outcome State Fault Refusal :=
  .next (requestWrite via 0x8000 0x01 data s)

/-- ALMANAC_MASK_RESTART (R63): the mask count restarts at the next frame boundary. -/
def execAlmanacMaskRestart (via : Via) (data : List Byte) (s : State) : Host.Outcome State Fault Refusal :=
  .next (requestWrite via 0xA000 0x06 data s)

/-- FRAME_RATE_WRITE (R52). -/
def execFrameRateWrite (via : Via) (data : List Byte) (s : State) : Host.Outcome State Fault Refusal :=
  .next (requestWrite via 0x8100 0x01 data s)

/-- SURFACE_PIN (R97). -/
def execSurfacePin (via : Via) (surface : Nat) (s : State) : Host.Outcome State Fault Refusal :=
  .next (requestWrite via (0x3400 + surface % 64) 0x0A [1] s)

/-- SURFACE_UNPIN (R98). -/
def execSurfaceUnpin (via : Via) (surface : Nat) (s : State) : Host.Outcome State Fault Refusal :=
  .next (requestWrite via (0x3400 + surface % 64) 0x0A [0] s)

/-- WARP_MESH_WRITE (R102). -/
def execWarpMeshWrite (via : Via) (p : Port) (data : List Byte) (s : State) : Host.Outcome State Fault Refusal :=
  .next (requestWrite via (0x2100 + p.num) 0x01 data s)

/-- MANIFEST_COMMIT (R133). -/
def execManifestCommit (via : Via) (data : List Byte) (s : State) : Host.Outcome State Fault Refusal :=
  .next (requestWrite via 0x3000 0x01 data s)

/-- SHADE_SWAP_REQUEST (R124). -/
def execShadeSwapRequest (via : Via) (data : List Byte) (s : State) : Host.Outcome State Fault Refusal :=
  .next (requestWrite via 0x3300 0x03 data s)

/-- COMPOSITION_MODE_WRITE (R145). -/
def execCompositionModeWrite (via : Via) (data : List Byte) (s : State) : Host.Outcome State Fault Refusal :=
  .next (requestWrite via 0x3000 0x05 data s)

/-- EMITTER_DISABLE_CLEAR (R335). -/
def execEmitterDisableClear (via : Via) (p : Port) (data : List Byte) (s : State) : Host.Outcome State Fault Refusal :=
  .next (requestWrite via (0xB100 + p.num) 0x24 data s)

/-- VIDEO_STREAM_BIND (R236). -/
def execVideoStreamBind (via : Via) (stream : Nat) (data : List Byte) (s : State) : Host.Outcome State Fault Refusal :=
  .next (requestWrite via (0x1210 + stream % 2) 0x01 data s)

/-- HOST_IRQ_CLEAR (R246). -/
def execHostIrqClear (via : Via) (data : List Byte) (s : State) : Host.Outcome State Fault Refusal :=
  .next (requestWrite via 0x1300 0x03 data s)

/-- SESSION_CHALLENGE (R271): a read of SessionChallenge. -/
def execSessionChallenge (via : Via) (s : State) : Host.Outcome State Fault Refusal :=
  .next (requestRead via 0x1010 0x01 s)

/-- SESSION_RESPONSE (R271). -/
def execSessionResponse (via : Via) (data : List Byte) (s : State) : Host.Outcome State Fault Refusal :=
  .next (requestWrite via 0x1010 0x02 data s)

/-- SESSION_CLOSE (R272). -/
def execSessionClose (via : Via) (data : List Byte) (s : State) : Host.Outcome State Fault Refusal :=
  .next (requestWrite via 0x1010 0x05 data s)

/-- COMMISSIONER_KEY_WRITE (R274). -/
def execCommissionerKeyWrite (via : Via) (data : List Byte) (s : State) : Host.Outcome State Fault Refusal :=
  .next (requestWrite via 0x1010 0x08 data s)

/-- RESTORE_DEFAULTS_CUSTOMER (R278): a write of 0xDEF0_0001. -/
def execRestoreDefaultsCustomer (via : Via) (s : State) : Host.Outcome State Fault Refusal :=
  .next (requestWrite via 0x1020 0x01 (leBytes 4 0xDEF00001) s)

/-- RESTORE_DEFAULTS_SAFETY (R278): a write of 0xDEF0_0002. -/
def execRestoreDefaultsSafety (via : Via) (s : State) : Host.Outcome State Fault Refusal :=
  .next (requestWrite via 0x1020 0x01 (leBytes 4 0xDEF00002) s)

/-- OPTION_BLOCK_IMAGE_WRITE (R288). -/
def execOptionBlockImageWrite (via : Via) (data : List Byte) (s : State) : Host.Outcome State Fault Refusal :=
  .next (requestWrite via 0x9030 0x01 data s)

/-- The port that a raise of a unit names: that of a link port, else none (R352). -/
def portOfUnit (u : Nat) : Nat := if 0x0A ≤ u ∧ u ≤ 0x0D then u - 0x0A else 7

/-- The kinds of a unit whose bits are set in a mask (R349). -/
def kindsIn (u : Nat) (mask : BitVec 16) : List Nat := (kindsOf u).filter fun k => mask.getLsbD (kindBit u k)

/-- Kinds of a unit are raised (R348). -/
def raiseKinds (u : Nat) (ks : List Nat) (s : State) : State :=
  ks.foldl (fun s k => raiseKind k { port := portOfUnit u } s) s

/-- Bits of kinds that a unit's status keeps (R349). -/
def keepBits (u : Nat) (ks : List Nat) (s : State) : State :=
  ks.foldl (fun s k => putBlock { blockOf s u with bits := (blockOf s u).bits ||| BitVec.ofNat 16 (2 ^ kindBit u k) } s) s

/-- BLOCK_ACK (R285, R373). Kinds raised on the clock of the write find their bits still set, so that they write no entry, and
the bits stay set. -/
def execBlockAck (via : Via) (unit : Nat) (data : BlockAckWrite) (s : State) : Host.Outcome State Fault Refusal :=
  .next (let u := unit % 256
    let ks := kindsIn u data.raised
    keepBits u ks (requestWrite via 0x7301 u data.data (raiseKinds u ks s)))

/-- FAULT_LATCH_CLEAR (R365). -/
def execFaultLatchClear (via : Via) (data : List Byte) (s : State) : Host.Outcome State Fault Refusal :=
  .next (requestWrite via 0x7502 0x01 data s)

/-- STATUS_MAP_ROW_SELECT (R346). -/
def execStatusMapRowSelect (via : Via) (p : Port) (data : List Byte) (s : State) : Host.Outcome State Fault Refusal :=
  .next (requestWrite via (0xB100 + p.num) 0x20 data s)

/-- COMMISSIONING_CHECK_CONFIRM (R389). -/
def execCommissioningCheckConfirm (via : Via) (data : List Byte) (s : State) : Host.Outcome State Fault Refusal :=
  .next (requestWrite via 0x7000 0x02 data s)

/-- CHANNEL_RETRY_CLEAR (R408): the write of 1 retries the channel, whose comparator sees the pin voltage in mV. -/
def execChannelRetryClear (via : Via) (channel : Nat) (data : List Byte) (pin : Nat) (s : State) :
    Host.Outcome State Fault Refusal :=
  .next (let index := 0x5100 + channel % 48
    let st := if cpReady s then judgeRequest s via index 0x08 data else stBusy
    let s1 := if st = stOk ∧ leNat data = 1 then retrySink (channel % 48) pin s else s
    answer via true index 0x08 st [] s1)

/-- LIFE_CYCLE_MAKER_TOKEN (R494): a write of LifeCycleToken. -/
def execLifeCycleMakerToken (via : Via) (data : List Byte) (s : State) : Host.Outcome State Fault Refusal :=
  .next (requestWrite via 0x9000 0x02 data s)

/-- LIFE_CYCLE_CUSTOMER_TOKEN (R494): a write of LifeCycleToken. -/
def execLifeCycleCustomerToken (via : Via) (data : List Byte) (s : State) : Host.Outcome State Fault Refusal :=
  .next (requestWrite via 0x9000 0x02 data s)

/-- LIFE_CYCLE_CONSENT_TOKEN (R494): a write of LifeCycleToken. -/
def execLifeCycleConsentToken (via : Via) (data : List Byte) (s : State) : Host.Outcome State Fault Refusal :=
  .next (requestWrite via 0x9000 0x02 data s)

/-- SAFE_BEAM_AREA_BLOCK_WRITE (R486). -/
def execSafeBeamAreaBlockWrite (via : Via) (block : Nat) (data : List Byte) (s : State) :
    Host.Outcome State Fault Refusal :=
  .next (requestWrite via 0x9040 (block % 8) data s)

/-- SAFE_BEAM_AREA_COMMIT (R486). -/
def execSafeBeamAreaCommit (via : Via) (data : List Byte) (s : State) : Host.Outcome State Fault Refusal :=
  .next (requestWrite via 0x9040 0x08 data s)

end Sys2Proof.Machine
end

