-- ==== Sys2Proof/Machine/Uhl.lean ====
section
/-!
DEFINITION. Uhl.lean: the host link (R230 to R246, R260): lanes, packets, video ingest, shade lists, commits, object
writes and TIME_SYNC.
-/

namespace Sys2Proof.Machine

open Sys2Proof

/-! ## Host activity (R260) -/

/-- Host activity (R260): it arms the monitor and clears "host-link loss"; `uhl` says that it is an accepted UHL packet. -/
def hostActive (uhl : Bool) (s : State) : State :=
  let m := cfg s 0x1200 6
  if m = 2 ∨ (m = 1 ∧ uhl) then
    clearCondition 0x24 0x0E (onHost (fun h => { h with linkArmed := true, linkLost := false }) s)
  else s

/-- HOST_LINK_LOSS (R260): no activity for HostLinkTimeout while the monitor is armed. -/
def execHostLinkLoss (s : State) : Host.Outcome State Fault Refusal :=
  .next (if isOn s .core && s.host.linkArmed && !s.host.linkLost && cfg s 0x1200 6 != 0 then
    raiseKind 0x24 {} (onHost (fun h => { h with linkLost := true }) s)
  else s)

/-! ## Lanes (R231, R232) -/

/-- A host lane. -/
def hostLane (s : State) (k : Nat) : HostLane := nth {} s.host.lanes k

/-- Applies `f` to a host lane. -/
def onLane (k : Nat) (f : HostLane → HostLane) (s : State) : State :=
  onHost (fun h => { h with lanes := modifyAt f k h.lanes }) s

/-- The lowest-numbered lane in service that may be the control lane (R232). -/
def lowestLane (s : State) : Option Nat :=
  (List.range 4).find? fun k => (hostLane s k).state == 1 && !s.host.fresh.contains k

/-- The control lane moves, which sets bit 2 (R232). -/
def moveControl (s : State) : State :=
  if s.host.control = lowestLane s then s
  else setIrq 2 (onHost (fun h => { h with control := lowestLane s, former := h.control }) s)

/-- A host lane's CTLE code (R214 step 3, R231): the fixed one, or what the sweep over the host's idles chooses. -/
def hostCtle (s : State) : Nat × State :=
  if cfg s 0x1200 1 = 1 then (cfg s 0x1200 2, s)
  else
    let e := sweepErrors s
    (ctleChoice e.1, e.2)

/-- HOST_LANE_TRAINED (R231, R232): the lane enters service with its CTLE code. At its first training, with no control
lane, it becomes that at once (log 85); a lane that returns waits for CONTROL_LANE_CHANGE. -/
def execHostLaneTrained (lane : Nat) (s : State) : Host.Outcome State Fault Refusal :=
  .next (if isOn s .link && decide (lane < 4) && (hostLane s lane).state != 1 then
    let c := hostCtle s
    let first := (hostLane s lane).state == 0 && s.host.control.isNone
    moveControl (setIrq 2 (onLane lane (fun l => { l with state := 1, ctle := c.1 })
      (onHost (fun h => { h with fresh := if first then h.fresh else h.fresh ++ [lane] }) c.2)))
  else s)

/-- The conditions on which a host lane fails (R231): code errors in a row, bad markers in a row, and code errors within
1 ms. -/
def laneFails (s : State) (r : LaneReport) : Bool :=
  decide (8 ≤ r.consecutive) || decide (2 ≤ r.markers) || decide (cfg s 0x1200 5 ≤ r.perMs)

/-- HOST_LANE_FAIL (R231, R232): a lane that meets a condition leaves service with kind 0x23 (R358), and the control lane
moves off it at once. The receiver measures the three counts. -/
def execHostLaneFail (report : LaneReport) (s : State) : Host.Outcome State Fault Refusal :=
  .next (if isOn s .link && (hostLane s report.lane).state == 1 && laneFails s report then
    moveControl (setIrq 2 (raiseKind 0x23 { port := 4, lane := report.lane }
      (onLane report.lane (fun l => { l with state := 2 })
        (onHost (fun h => { h with fresh := h.fresh.erase report.lane }) s))))
  else s)

/-- HOST_LANE_RETRAIN (R231): the training of a failed lane begins again; the lane stays failed until it has passed. -/
def execHostLaneRetrain (_lane : Nat) (s : State) : Host.Outcome State Fault Refusal := .next s

/-- CONTROL_LANE_CHANGE (R232): the lane that entered service first among those in it for less than 1 ms has been there
for 1 ms; it becomes the control lane if it is the lowest. -/
def execControlLaneChange (s : State) : Host.Outcome State Fault Refusal :=
  .next (if isOn s .link then moveControl (onHost (fun h => { h with fresh := h.fresh.drop 1 }) s) else s)

/-! ## Packets (R233 to R235) -/

/-- TypeField of a UHL header (R233). -/
def uhlField (k : RxPacket) : Nat := bitsOf k.header.toNat 16 24

/-- A packet is whole and of its type (R233, R235): code, CRC, type, reserved bits and its length in the header. -/
def uhlGood (k : RxPacket) (ty reserved : Nat) : Bool :=
  packetGood k && hdrType k.header == ty && bitsOf k.header.toNat 56 4 == 0
    && bitsOf (uhlField k) 0 reserved == 0 && hdrLength k.header == k.payload.length

/-- The lane takes a control packet (R232): the control lane, or the one before it when the packet's SOP came before the
change. -/
def onControlLane (s : State) (lane : Nat) (packet : RxPacket) : Bool :=
  (if packet.early then s.host.former else s.host.control) == some lane

/-- A packet arrives on a host lane (R189, R232, R235, R260): its code errors count; it is discarded and counted, misrouted, a
duplicate, or accepted, which `act` then judges. -/
def receiveUhl (lane : Nat) (packet : RxPacket) (control good : Bool) (act : State → State) (s0 : State) : State :=
  let l := hostLane s0 lane
  let q := BitVec.ofNat 16 (hdrSequence packet.header)
  let s := onLane lane (fun l => { l with codeErrors := l.codeErrors + packet.codeErrors }) s0
  if !isOn s0 .link || l.state != 1 then s0
  else if !good then onLane lane (fun l => { l with errors := count32 l.errors }) s
  else if control && !onControlLane s lane packet then
    onHost (fun h => { h with misrouted := count32 h.misrouted }) s
  else if l.lastSeq = some q then onHost (fun h => { h with duplicates := count32 h.duplicates }) s
  else
    let gap := l.lastSeq.any fun x => x + 1 != q
    let s1 := onHost (fun h => { h with gaps := if gap then count32 h.gaps else h.gaps })
      (onLane lane (fun l => { l with lastSeq := some q }) s)
    act (hostActive true s1)

/-! ## Encoder (R82 to R85, R239) -/

/-- The unsigned code of a residual (R85). -/
def zigzag (w d : Nat) : Nat := if d < 2 ^ (w - 1) then 2 * d else 2 * (2 ^ w - d) - 1

/-- The codes of the residuals of a row (R85), the samples to the left nearest first. -/
def residuals (w r : Nat) (above : List Nat) : Nat → List Nat → List Nat → List Nat
  | _, _, [] => []
  | c, left, x :: xs =>
    zigzag w ((x + 2 ^ w - predictSample r c above left) % 2 ^ w) :: residuals w r above (c + 1) (x :: left) xs

/-- Bits of a coded residual (R85). -/
def codeBits (w k u : Nat) : Nat := if u / 2 ^ k < 24 then u / 2 ^ k + 1 + k else 24 + w

/-- A coded residual, its first bit lowest (R85). -/
def codeOfResidual (k u : Nat) : Nat :=
  if u / 2 ^ k < 24 then 2 ^ (u / 2 ^ k) - 1 + u % 2 ^ k * 2 ^ (u / 2 ^ k + 1) else 2 ^ 24 - 1 + u * 2 ^ 24

/-- Bits of a row at a Rice parameter. -/
def rowBits (w k : Nat) (us : List Nat) : Nat := 4 + sumOf (us.map (codeBits w k))

/-- The Rice parameter of a row: the one that gives the fewest bits, the lowest on a tie (R239); it is written in 4
bits (R84). -/
def bestK (w : Nat) (us : List Nat) : Nat :=
  (List.range (min (w + 1) 16)).foldl (fun b k => if rowBits w k us < rowBits w b us then k else b) 0

/-- Bits appended above those already written: value and length. -/
def appendBits (a : Nat × Nat) (v n : Nat) : Nat × Nat := (a.1 + v * 2 ^ a.2, a.2 + n)

/-- A PRED row appended to the payload (R84, R85). -/
def encodeRow (w : Nat) (us : List Nat) (a : Nat × Nat) : Nat × Nat :=
  let k := bestK w us
  us.foldl (fun a u => appendBits a (codeOfResidual k u) (codeBits w k u)) (appendBits a k 4)

/-- The PRED payload of rows of samples: value and bits (R84, R85). -/
def encodeRows (w : Nat) : Nat → List Nat → List (List Nat) → Nat × Nat → Nat × Nat
  | _, _, [], a => a
  | r, above, x :: xs, a => encodeRows w (r + 1) x xs (encodeRow w (residuals w r above 0 [] x) a)

/-- Mode, ConstValue and payload of a tile (R239): CONST, PRED, or RAW where PRED exceeds the RAW bound. -/
def encodePayload (w : Nat) (rows : List (List Nat)) : Nat × Nat × List Byte :=
  let xs := rows.flatten
  if xs.all fun x => x == xs.headD 0 then (1, xs.headD 0, [])
  else
    let a := encodeRows w 0 [] rows (0, 0)
    if (a.2 + 7) / 8 ≤ 128 * w then (2, 0, leBytes ((a.2 + 7) / 8) a.1)
    else (0, 0, leBytes (128 * w) (packLe w xs))

/-- A tile as the ingest unit writes it (R82, R239): header and payload. -/
def encodeTile (code tag tx ty : Nat) (rows : List (List Nat)) : List Byte :=
  let p := encodePayload (formatWidth code) rows
  let head := leBytes 15
    (0xA5 + p.1 * 2 ^ 8 + code * 2 ^ 12 + (16 + p.2.2.length) * 2 ^ 16 + sampleCrc rows.flatten * 2 ^ 32
      + p.2.1 * 2 ^ 64 + tx * 2 ^ 80 + ty * 2 ^ 96 + tag * 2 ^ 112)
  head ++ [BitVec.ofNat 8 (crc8 head)] ++ p.2.2

/-- A tile's bytes in whole 32-byte units (R82). -/
def padTile (bs : List Byte) : List Byte := bs ++ List.replicate ((bs.length + 31) / 32 * 32 - bs.length) 0

/-! ## Video streams (R236 to R240) -/

/-- A video stream. -/
def streamOf (s : State) (k : Nat) : Stream := if k = 0 then s.host.stream0 else s.host.stream1

/-- Applies `f` to a stream. -/
def onStream (k : Nat) (f : Stream → Stream) (s : State) : State :=
  onHost (fun h => if k = 0 then { h with stream0 := f h.stream0 } else { h with stream1 := f h.stream1 }) s

/-- Tile rows of a surface. -/
def tileRows (s : State) (f : Nat) : Nat := (surfaceValue s f 3 + 31) / 32

/-- The tile row's lines are all held (R238). -/
def rowHeld (s : State) (f : Nat) (x : Stream) (t : Nat) : Bool :=
  (List.range (min 32 (surfaceValue s f 3 - 32 * t))).all fun i => x.lines.any fun e => e.1 == 32 * t + i

/-- The tile row has all its lines: encoded or held. -/
def rowComplete (s : State) (f : Nat) (x : Stream) (t : Nat) : Bool :=
  decide (t < x.row) || (x.ahead && t == x.row + 1) || rowHeld s f x t

/-- Every line of the picture has come. -/
def linesComplete (s : State) (f : Nat) (x : Stream) : Bool :=
  (List.range (tileRows s f)).all (rowComplete s f x)

/-- The line has already been taken in this picture (R238). -/
def lineTaken (x : Stream) (n : Nat) : Bool :=
  decide (n / 32 < x.row) || (x.ahead && n / 32 == x.row + 1) || x.lines.any fun e => e.1 == n

/-- The picture in progress is discarded (R238): counted, and bit 3 set. -/
def discardPicture (k : Nat) (s : State) : State :=
  setIrq 3 (onStream k (fun x => { x with discarded := true, lines := [], discards := count32 x.discards }) s)

/-- Buffers of a surface latched by a frame whose composition has not ended (R79, R240). -/
def latchedBuffers (s : State) (f : Nat) : List Nat :=
  let now := if s.compose.busy then s.fetch.buffers else []
  let before := (s.compose.older.map (·.buffers)).getD []
  ((now ++ before).filter fun e => e.1 == f).map (·.2)

/-- The lowest-numbered buffer that is neither CurrentBuffer nor latched (R240). -/
def freeBuffer (s : State) (f : Nat) : Option Nat :=
  (List.range (surfaceValue s f 5)).find? fun b =>
    b != surfaceValue s f 7 && !(latchedBuffers s f).contains b

/-- Sample `c` of a line held, a value beyond its end or below the last line left open. -/
def lineSample (w width height n c fill : Nat) (lines : List (Nat × List Byte)) : Nat :=
  if c < width ∧ n < height then bitsOf (leNat (getEntry [] n lines)) (c * w) w
  else (Config.freeValue fill).toNat % 2 ^ w

/-- The rows of tile (tx, t) from the lines held. The manual gives no values beyond the surface's edges; each is drawn
freely. -/
def tileOfLines (s : State) (f tx t : Nat) (lines : List (Nat × List Byte)) : List (List Nat) :=
  (List.range 32).map fun r => (List.range 32).map fun c =>
    lineSample (formatWidth (surfaceValue s f 1)) (surfaceValue s f 2) (surfaceValue s f 3) (32 * t + r) (32 * tx + c)
      (s.free + tx * 1024 + r * 32 + c) lines

/-- A tile and its table entry are written to a buffer (R239). -/
def storeTile (s : State) (f buffer tx t : Nat) (lines : List (Nat × List Byte)) (m : List Host.Cell) :
    List Host.Cell :=
  let i := tx + t * tileCols s f
  let base := surfaceValue s f 4 + buffer * surfaceValue s f 6
  let at' := base + ingestTable s f + i * ingestSlot s f
  let bs := padTile (encodeTile (surfaceValue s f 1) (surfaceValue s f 8) tx t (tileOfLines s f tx t lines))
  memWriteAll (base + 4 * i) (leBytes 4 (at' / 32)) (memWriteAll at' bs m)

/-- The tile row to encode now: the next one, or the one after it (R239). -/
def rowToEncode (s : State) (f : Nat) (x : Stream) : Option Nat :=
  if x.discarded || x.picture.isNone then none
  else if decide (x.row < tileRows s f) && rowHeld s f x x.row then some x.row
  else if !x.ahead && decide (x.row + 1 < tileRows s f) && rowHeld s f x (x.row + 1) then some (x.row + 1)
  else none

/-- A complete tile row is encoded into the picture's buffer (R239); DRAM that has failed takes nothing. -/
def encodeTileRow (k f t : Nat) (s : State) : State :=
  let x := streamOf s k
  let m := if dramReadable s then
      (List.range (tileCols s f)).foldl (fun m tx => storeTile s f x.buffer tx t x.lines m) s.dram
    else s.dram
  onStream k (fun x => { x with
      row := if t = x.row then (if x.ahead then x.row + 2 else x.row + 1) else x.row
      ahead := if t = x.row then false else true
      lines := x.lines.filter fun e => e.1 / 32 != t })
    { s with dram := m, free := s.free + tileCols s f * 1024 }

/-- The picture's last tiles are written and CurrentBuffer advances (R240). -/
def finishPicture (k f : Nat) (s : State) : State :=
  let x := streamOf s k
  if x.picture.isSome && !x.discarded && !x.complete && decide (tileRows s f ≤ x.row) then
    onStream k (fun x => { x with complete := true, count := x.count + 1, last := x.picture.getD 0 })
      (setCfg (0x3400 + f) 7 x.buffer s)
  else s

/-- Every tile row that is complete is encoded; `fuel` bounds their number. -/
def encodeHeld (k f : Nat) : Nat → State → State
  | 0, s => s
  | n + 1, s =>
    match rowToEncode s f (streamOf s k) with
    | some t => encodeHeld k f n (encodeTileRow k f t s)
    | none => s

/-- The picture in progress ends before a new one (R238, R240): a picture with all its lines completes, an incomplete one is
discarded. -/
def endPicture (k f : Nat) (s : State) : State :=
  let x := streamOf s k
  if x.picture.isNone || x.discarded || x.complete then s
  else if linesComplete s f x then finishPicture k f (encodeHeld k f (tileRows s f) s)
  else discardPicture k s

/-- A new picture begins (R238, R240): without a free buffer it is discarded. -/
def beginPicture (k f picture : Nat) (s : State) : State :=
  let s1 := onStream k (fun x => { idleStream x with
    picture := some picture, buffer := (freeBuffer s f).getD 0 }) s
  if (freeBuffer s f).isNone then discardPicture k s1 else s1

/-- A line joins the picture in progress (R238): a repeated one is discarded, and one of the tile row after the next
incomplete one's neighbour discards the picture. -/
def takeLine (k f n : Nat) (payload : List Byte) (s : State) : State :=
  let x := streamOf s k
  if x.discarded || x.complete || lineTaken x n then s
  else
    let t := ((List.range (tileRows s f)).find? fun t => !rowComplete s f x t).getD 0
    if n / 32 ≥ t + 2 then discardPicture k s
    else onStream k (fun x => { x with lines := putEntry n payload x.lines }) s

/-- A line of a bound stream (R238): late, of the picture in progress, or the first of a new one. A line below the surface
belongs to no picture. -/
def videoLine (k f n picture : Nat) (payload : List Byte) (s : State) : State :=
  if n ≥ surfaceValue s f 3 then s
  else
    match (streamOf s k).picture with
    | none => takeLine k f n payload (beginPicture k f picture s)
    | some p =>
      let d := (picture + 16 - p) % 16
      if d = 0 then takeLine k f n payload s
      else if d ≤ 7 then takeLine k f n payload (beginPicture k f picture (endPicture k f s))
      else s

/-- Bytes of a line of the bound surface (R237). -/
def lineBytes (s : State) (f : Nat) : Nat := (surfaceValue s f 2 * formatWidth (surfaceValue s f 1) + 7) / 8

/-- The surface of a bound stream that can still take a picture (R236). -/
def streamSurface (s : State) (k : Nat) : Option Nat :=
  match boundSurface s k with
  | some f => if bindable s f then some f else none
  | none => none

/-- UHL_VIDEO_LINE (R234, R236 to R238). -/
def execUhlVideoLine (lane : Nat) (packet : RxPacket) (s : State) : Host.Outcome State Fault Refusal :=
  .next (let h := uhlField packet
    let k := bitsOf h 23 1
    let f := streamSurface s k
    let sized := match f with
      | some f => packet.payload.length == lineBytes s f
      | none => true
    receiveUhl lane packet false (uhlGood packet 1 9 && sized)
      (fun s => match f with
        | some f => videoLine k f (bitsOf h 13 10) (bitsOf h 9 4) packet.payload s
        | none => s) s)

/-- VIDEO_TILE_ROW_ENCODED (R239). -/
def execVideoTileRowEncoded (stream : Nat) (s : State) : Host.Outcome State Fault Refusal :=
  .next (match streamSurface s (stream % 2) with
    | some f =>
      match rowToEncode s f (streamOf s (stream % 2)) with
      | some t => encodeTileRow (stream % 2) f t s
      | none => s
    | none => s)

/-- VIDEO_PICTURE_COMPLETE (R240). -/
def execVideoPictureComplete (stream : Nat) (s : State) : Host.Outcome State Fault Refusal :=
  .next (match streamSurface s (stream % 2) with
    | some f => finishPicture (stream % 2) f s
    | none => s)

/-! ## Shade lists and commits (R241, R242) -/

/-- The objects of a payload of 16 bytes each (R119); `n` of them. -/
def objectsOf (n : Nat) (payload : List Byte) : List (BitVec 128) :=
  (List.range n).map fun i => BitVec.ofNat 128 (leNat ((payload.drop (16 * i)).take 16))

/-- UHL_SHADE_LIST (R234, R241, R242). -/
def execUhlShadeList (lane : Nat) (packet : RxPacket) (s : State) : Host.Outcome State Fault Refusal :=
  .next (let n := bitsOf (uhlField packet) 17 7
    receiveUhl lane packet true
      (uhlGood packet 2 17 && decide (n ≤ 64) && packet.payload.length == 16 * n)
      (queueItem (.shades (objectsOf n packet.payload))) s)

/-- UHL_MANIFEST_COMMIT (R242): registered at once, or after the OD_WRITEs that wait. -/
def execUhlManifestCommit (lane : Nat) (packet : RxPacket) (s : State) : Host.Outcome State Fault Refusal :=
  .next (receiveUhl lane packet true (uhlGood packet 3 24 && packet.payload.isEmpty) (queueItem .commit) s)

/-! ## Object writes (R243, R244) -/

/-- The records of a payload: index, subindex and data; none when they do not fill it exactly or a reserved byte is not 0
(R243). `n` is RecordCount. -/
def recordsOf : Nat → List Byte → Option (List (Nat × Nat × List Byte))
  | 0, bs => if bs.isEmpty then some [] else none
  | n + 1, bs =>
    let size := leNat ((bs.drop 4).take 2)
    if bs.length < 6 + size ∨ nth 0 bs 3 ≠ 0 then none
    else
      match recordsOf n (bs.drop (6 + size)) with
      | some rs => some ((leNat (bs.take 2), (nth 0 bs 2).toNat, (bs.drop 6).take size) :: rs)
      | none => none

/-- OD_WRITE packets in the queue. -/
def queuedWrites (s : State) : Nat :=
  (s.host.queue.filter fun x => match x with | .odWrite _ _ => true | _ => false).length

/-- UHL_OD_WRITE (R243, R244): queued, or discarded while the CP boots or the queue of 8 is full. -/
def execUhlOdWrite (lane : Nat) (packet : RxPacket) (s : State) : Host.Outcome State Fault Refusal :=
  .next (let n := bitsOf (uhlField packet) 16 8
    receiveUhl lane packet true
      (uhlGood packet 4 16 && decide (1 ≤ n) && decide (6 ≤ packet.payload.length)
        && decide (packet.payload.length ≤ 8192) && (recordsOf n packet.payload).isSome)
      (fun s => if !cpReady s || decide (8 ≤ queuedWrites s) then discardRecords s
        else onHost (fun h => { h with queue := h.queue ++ [.odWrite n packet.payload] }) s) s)

/-- A record is applied (R244): the first refusal of its packet is recorded, and a refused record is skipped. -/
def applyUhlRecord (n : Nat) (r : Nat × Nat × List Byte) (s : State × Bool) : State × Bool :=
  let w : Waiter := { via := .uhl n, index := r.1, sub := r.2.1, last := !s.2 }
  let x := writeObject w r.1 r.2.1 r.2.2 s.1
  match x.1 with
  | some st =>
    if st = stOk ∨ s.2 then (x.2, s.2)
    else (recordRefusal n r.1 r.2.1 st x.2, true)
  | none => (x.2, s.2)

/-- The records of a packet, numbered from `n` on. -/
def applyUhlRecords : Nat → List (Nat × Nat × List Byte) → State × Bool → State × Bool
  | _, [], s => s
  | n, r :: rs, s => applyUhlRecords (n + 1) rs (applyUhlRecord n r s)

/-- OD_WRITE_APPLY (R242, R244): the CP applies the packet at the front of the queue, once the records of the packet before
it have been committed or refused. -/
def execOdWriteApply (s : State) : Host.Outcome State Fault Refusal :=
  .next (match s.host.queue with
    | .odWrite n payload :: q =>
      if !cpReady s || recordsWait s then s
      else runQueue
        (applyUhlRecords 0 ((recordsOf n payload).getD []) (onHost (fun h => { h with queue := q }) s, false)).1
    | _ => s)

/-! ## TIME_SYNC (R245) -/

/-- DT at a place in the present eighth, in 1/256 (R54, R56). -/
def dtWithin (c : Scan) (fraction : Nat) : BitVec 48 :=
  c.dt + BitVec.ofNat 48 ((c.clkRest + fraction * c.clocks / 256) / 200)

/-- UHL_TIME_SYNC (R44, R45, R56, R242, R245): the time pair, in its turn, and a phase event at the EOP when source 0x01 is in
use, 60 CLK_CORE late. -/
def execUhlTimeSync (lane : Nat) (packet : RxPacket) (fraction : Nat) (s : State) : Host.Outcome State Fault Refusal :=
  .next (let v := leNat packet.payload
    let pos := bitsOf v 64 16
    receiveUhl lane packet true
      (uhlGood packet 5 24 && packet.payload.length == 16 && decide (pos ≤ 4095) && bitsOf v 80 48 == 0)
      (fun s =>
        let s1 := queueItem (.timePair (BitVec.ofNat 64 v) (dtWithin s.scan (fraction % 256))) s
        if s.scan.running then phaseEvent 1 (fraction % 256) 60 ((pos * 256 : Nat) : Int) s1 else s1) s)

end Sys2Proof.Machine
end

