-- ==== Sys2Proof/Machine/HostPorts.lean ====
section
/-!
DEFINITION. HostPorts.lean: the SPI host port (R247 to R251), CAN FD (R252 to R256, with the requests that a Caravan head
relays, R464) and the sideband port (R257, R258).
-/

namespace Sys2Proof.Machine

open Sys2Proof

/-! ## Bursts (R249, R267) -/

/-- The reads of a burst from an address (index × 256 + subindex) on, which go on at the next index after subindex 0xFF
(R267): first failure, data read, state. -/
def burstRead (via : Via) : Nat → Nat → State → Nat × List Byte × State
  | 0, _, s => (stOk, [], s)
  | n + 1, at', s =>
    let r := readObject via (at' / 256) (at' % 256) s
    let rest := burstRead via n (at' + 1) r.2.2
    (if r.1 = stOk then rest.1 else r.1, r.2.1 ++ rest.2.1, rest.2.2)

/-- The writes of a burst from an address on (R249): each object takes its own size of what is left; a subindex without an
object takes none and is the burst's failure, and later objects still apply. First failure and state; `fuel` bounds the
subindices. -/
def burstWrite (via : Via) : Nat → Nat → List Byte → State → Nat × State
  | 0, _, bs, s => (if bs.isEmpty then stOk else stNoObject, s)
  | n + 1, at', bs, s =>
    if bs.isEmpty then (stOk, s)
    else
      match objectAt (at' / 256) (at' % 256) with
      | none => (stNoObject, (burstWrite via n (at' + 1) bs s).2)
      | some o =>
        let w : Waiter := { via := via, index := at' / 256, sub := at' % 256, last := false }
        let r := writeObject w (at' / 256) (at' % 256) (bs.take o.size) s
        let rest := burstWrite via n (at' + 1) (bs.drop o.size) r.2
        (if r.1.getD stOk = stOk then rest.1 else r.1.getD stOk, rest.2)

/-- The subindices that a burst can reach: the longest run of objects is the Almanac's, four indices of 256 (R264). -/
def burstReach : Nat := 1024

/-- The waiter that brings the answer of a burst, with the failures so far. -/
def lastWaiter (status : Nat) (w : Waiter) : Waiter := { w with last := true, status := status }

/-- The end of a burst (R249): its answer follows the last record that waits for NVM, past the `base` writes that waited
before it, or comes now. -/
def endBurst (via : Via) (index sub base status : Nat) (s : State) : State :=
  let q := s.journal.queue
  if q.length > base then
    { s with journal := { s.journal with
        queue := modifyAt (fun j => { j with waiter := j.waiter.map (lastWaiter status) }) (q.length - 1) q } }
  else
    match s.journal.optionWrite with
    | some (b, w) =>
      if w.via = via ∧ !w.last then
        { s with journal := { s.journal with optionWrite := some (b, lastWaiter status w) } }
      else answer via true index sub status [] s
    | none => answer via true index sub status [] s

/-! ## SPI host port -/

/-- Bytes of a request frame up to its CRC (R248, R249); the spec gives a reserved op no layout, so all that follows its
command word is data (log 86). -/
def shpBytes (op : Nat) (f : ShpFrame) : List Byte :=
  leBytes 4 (op * 2 ^ 28 + f.tag % 16 * 2 ^ 24 + f.index % 2 ^ 16 * 2 ^ 8 + f.sub % 256)
    ++ (if op = 0 ∨ op = 3 ∨ 6 ≤ op then [] else leBytes 2 f.length) ++ f.data

/-- Bytes of a response (R250). -/
def shpAnswer (r : ShpResponse) : List Byte :=
  let bs := [BitVec.ofNat 8 r.status, BitVec.ofNat 8 r.tag] ++ leBytes 2 r.data.length ++ r.data
  bs ++ [BitVec.ofNat 8 (crc8 bs)]

/-- What SHP_MISO carries when no response is pending (R250). -/
def shpIdle : List Byte := [0xFF, 0, 0, 0, BitVec.ofNat 8 (crc8 [0xFF, 0, 0, 0])]

/-- A frame clocks out the oldest response (R250), which goes when all of its bytes have been clocked. -/
def shpOut (clocked : Nat) (s : State) : State :=
  match s.host.shpResponses with
  | [] => onHost (fun h => { h with miso := shpIdle.take clocked }) s
  | r :: rest =>
    onHost (fun h => { h with
      miso := (shpAnswer r).take clocked
      shpResponses := if (shpAnswer r).length ≤ clocked then rest else r :: rest }) s

/-- Requests that are pending (R251): in the queue, or waiting for NVM. -/
def shpPending (s : State) : Nat :=
  let waits : Option Waiter → Bool := fun w => w.any fun w =>
    w.last && (match w.via with | .shp _ => true | _ => false)
  s.host.shpRequests.length + (s.journal.queue.filter fun j => waits j.waiter).length
    + ofBool (waits (s.journal.optionWrite.map (·.2)))

/-- The length field of a request is in its range (R249). -/
def shpLengthGood (op n : Nat) : Bool :=
  match op with
  | 1 => n == 0
  | 4 => decide (1 ≤ n) && decide (n ≤ 255)
  | 5 => decide (1 ≤ n) && decide (n ≤ 8192)
  | _ => true

/-- The op of a frame: its command's, or the reserved one that it carries (R248). -/
def shpOp (command : Nat) (f : ShpFrame) : Nat :=
  match f.reserved with
  | some n => if n % 16 = 0 ∨ 6 ≤ n % 16 then n % 16 else command
  | none => command

/-- A frame on the SHP (R247 to R251, R260): without a CRC it is discarded, with a bad one answered 0x06; a request is
queued, or answered busy while the CP boots or 8 requests are pending, or 0x04 with a reserved op. -/
def receiveShp (command : Nat) (f : ShpFrame) (s : State) : State :=
  if !isOn s .core then s
  else
    let op := shpOp command f
    let s1 := shpOut f.clocked s
    let bad := onHost (fun h => { h with shpErrors := count32 h.shpErrors }) s1
    let say := fun (c : Nat) (s : State) => answer (.shp (f.tag % 16)) false f.index f.sub c [] s
    let short := (op = 2 ∨ op = 5) ∧ f.data.length < f.length
    match f.crc with
    | none => bad
    | some c =>
      if short then bad
      else if c.toNat ≠ crc8 (shpBytes op f) then say stCheck bad
      else
        let s2 := hostActive false s1
        if op = 3 then s2
        else if !cpReady s2 || decide (8 ≤ shpPending s2) then say stBusy s2
        else if op = 0 ∨ 6 ≤ op ∨ !shpLengthGood op f.length then say stRange s2
        else onHost (fun h => { h with
          shpRequests := h.shpRequests ++ [⟨op, f.tag % 16, f.index % 2 ^ 16, f.sub % 256, f.length, f.data, none⟩] }) s2

/-- SHP_READ (R249). -/
def execShpRead (frame : ShpFrame) (s : State) : Host.Outcome State Fault Refusal := .next (receiveShp 1 frame s)

/-- SHP_WRITE (R249). -/
def execShpWrite (frame : ShpFrame) (s : State) : Host.Outcome State Fault Refusal := .next (receiveShp 2 frame s)

/-- SHP_POLL (R250). -/
def execShpPoll (frame : ShpFrame) (s : State) : Host.Outcome State Fault Refusal := .next (receiveShp 3 frame s)

/-- SHP_BURST_READ (R249). -/
def execShpBurstRead (frame : ShpFrame) (s : State) : Host.Outcome State Fault Refusal := .next (receiveShp 4 frame s)

/-- SHP_BURST_WRITE (R249). -/
def execShpBurstWrite (frame : ShpFrame) (s : State) : Host.Outcome State Fault Refusal := .next (receiveShp 5 frame s)

/-- The CP completes a request of the SHP (R249 to R251). -/
def serveShp (r : ShpRequest) (s : State) : State :=
  let via := Via.shp r.tag
  match r.op with
  | 1 => requestRead via r.index r.sub s
  | 2 => requestWrite via r.index r.sub r.data s
  | 4 =>
    let x := burstRead via r.length (r.index * 256 + r.sub) s
    answer via false r.index r.sub x.1 x.2.1 x.2.2
  | _ =>
    let x := burstWrite via burstReach (r.index * 256 + r.sub) r.data s
    endBurst via r.index r.sub s.journal.queue.length x.1 x.2

/-! ## CAN FD -/

/-- A bus takes part in the service (R252, R256): CAN_B not in mode CAN_A only, neither while it recovers from bus-off. -/
def busListens (s : State) (bus : Bus) : Bool :=
  isOn s .core && !busOff s bus && (bus == .a || cfg s 0x1100 5 != 0)

/-- The identifier is a request of this device's service base (R253). -/
def isRequestId (s : State) (id : BitVec 29) : Bool :=
  bitsOf id.toNat 21 8 == s.power.options.canBase && !bitOf id.toNat 20

/-- NodeId of an identifier (R253). -/
def idNode (id : BitVec 29) : Nat := bitsOf id.toNat 16 4

/-- Object index of an identifier (R253). -/
def idIndex (id : BitVec 29) : Nat := bitsOf id.toNat 0 16

/-- Kind, op and tag of a frame (R254). -/
def frameKind (bs : List Byte) : Nat := bitsOf (bs.headD 0).toNat 6 2
/-- Op of a frame. -/
def frameOp (bs : List Byte) : Nat := bitsOf (bs.headD 0).toNat 4 2
/-- Tag of a frame. -/
def frameTag (bs : List Byte) : Nat := bitsOf (bs.headD 0).toNat 0 4
/-- Byte 1 of a frame: subindex, counter or status. -/
def frameByte (bs : List Byte) : Nat := (nth 0 bs 1).toNat

/-- The data of a single write: a frame of the smallest DLC that holds the object carries it, padded with 0x00 (R254). -/
def singleData (index sub : Nat) (bs : List Byte) : List Byte :=
  match objectAt index sub with
  | some o =>
    if o.size ≤ bs.length ∧ canSize (o.size + 2) = bs.length + 2 ∧ (bs.drop o.size).all (· == 0) then bs.take o.size
    else bs
  | none => bs

/-- Applies `f` to the transfer in progress on a bus. -/
def transferOf (s : State) (bus : Bus) : Option CanRequest :=
  match bus with
  | .a => s.host.transferA
  | .b => s.host.transferB

/-- Stores the transfer in progress on a bus. -/
def putTransfer (bus : Bus) (x : Option CanRequest) (s : State) : State :=
  onHost (fun h => match bus with
    | .a => { h with transferA := x }
    | .b => { h with transferB := x }) s

/-- An answer to a request of this device. -/
def sayCan (bus : Bus) (write : Bool) (tag index status : Nat) (s : State) : State :=
  answerCan s.power.options.nodeId bus write tag index status [] s

/-- The transfer in progress on a bus is aborted, counted and answered by an abort frame with 0x07 (R254, R255). -/
def abortTransfer (bus : Bus) (s : State) : State :=
  match transferOf s bus with
  | none => s
  | some r =>
    canSend bus (canId s true s.power.options.nodeId r.index)
      [[canByte0 3 (ofBool r.write) r.tag, BitVec.ofNat 8 stAborted]]
      (onHost (fun h => { h with canAborts := count32 h.canAborts }) (putTransfer bus none s))

/-- A request came within the last 10 ms (R256). -/
def isFresh (s : State) (r : CanRecent) : Bool := decide (dtNow s ≤ r.dt + 10000)

/-- A request on the other bus, identical and without a double so far (R256). -/
def isDouble (s : State) (bus : Bus) (id : BitVec 29) (bytes : List Byte) (r : CanRecent) : Bool :=
  isFresh s r && r.bus != bus && !r.doubled && r.id == id && r.data == bytes

/-- A complete request arrives on a bus (R256): in redundant mode the double of one that has come on the other bus within
10 ms is not executed, and is answered with it; any other request goes on to `k`. -/
def completeCan (bus : Bus) (id : BitVec 29) (bytes : List Byte) (k : State → State) (s : State) : State :=
  if cfg s 0x1100 5 ≠ 2 then k s
  else
    let recent := s.host.canRecent.filter fun r => isFresh s r || r.frames.isEmpty
    match recent.find? (isDouble s bus id bytes) with
    | some r =>
      let s1 := onHost (fun h => { h with
        canDuplicates := count32 h.canDuplicates
        canRecent := replaceFirst (isDouble s bus id bytes) (fun r => { r with doubled := true }) recent }) s
      if r.frames.isEmpty then s1
      else canSend bus (id ||| BitVec.ofNat 29 (2 ^ 20)) r.frames s1
    | none =>
      k (onHost (fun h => { h with canRecent := recent ++ [{ bus := bus, id := id, data := bytes, dt := dtNow s }] }) s)

/-- A request of this device is queued for the CP (R254, R255). -/
def queueCan (r : CanRequest) (s : State) : State := onHost (fun h => { h with canRequests := h.canRequests ++ [r] }) s

/-- Position of a Waystation to which the head relays (R464). -/
def relayPosition (s : State) (node : Nat) : Option Nat :=
  if isHead s && cfg s 0x8000 0x11 == 1 && node != 0 then positionOf s node else none

/-- The words of a relayed request (R458 class 0x1). -/
def relayWords (write : Bool) (index sub : Nat) (data : List Byte) : List (BitVec 16) :=
  [BitVec.ofNat 16 (ofBool write * 2 ^ 15 + sub), BitVec.ofNat 16 index, BitVec.ofNat 16 data.length] ++ packWords data

/-- The head relays a single-frame request (R464). -/
def relayCan (q : Nat) (f : CanFrame) (s : State) : State :=
  let node := idNode f.id
  let index := idIndex f.id
  let write := frameOp f.data == 1
  let r : Relay := ⟨f.bus, write, frameTag f.data, index, frameByte f.data, node⟩
  if !cpReady s then answerRelay r stBusy [] s
  else if frameOp f.data > 1 then answerRelay { r with write := false } stRange [] s
  else
    let data := if write then singleData index (frameByte f.data) (f.data.drop 2) else []
    settleRelayVote (onRing (fun c => { c with
      relays := c.relays ++ [r]
      dictionary := c.dictionary ++
        [ringMessage q 0x1 r.tag (relayWords write index r.sub data)] }) s)

/-- A frame of this device's service: `own` takes a request to this device, `relay` one to a Waystation in the node map
(R252, R253, R464). A frame too short for its form is ignored. -/
def receiveCan (f : CanFrame) (kind least : Nat) (own : State → State) (relay : Nat → State → State) (s : State) : State :=
  if !busListens s f.bus || !isRequestId s f.id || f.data.length < least || frameKind f.data != kind then s
  else if idNode f.id = s.power.options.nodeId then own (hostActive false s)
  else
    match relayPosition s (idNode f.id) with
    | some q => relay q (hostActive false s)
    | none => s

/-- A single request of this device (R254, R255). -/
def singleCan (f : CanFrame) (s : State) : State :=
  let index := idIndex f.id
  let tag := frameTag f.data
  let s1 := abortTransfer f.bus s
  completeCan f.bus f.id f.data (fun s =>
    if !cpReady s then sayCan f.bus (frameOp f.data == 1) tag index stBusy s
    else if frameOp f.data > 1 then sayCan f.bus false tag index stRange s
    else
      let data := if frameOp f.data = 1 then singleData index (frameByte f.data) (f.data.drop 2) else []
      queueCan ⟨f.bus, frameOp f.data == 1, tag, index, frameByte f.data, data.length, 1, data, none⟩ s) s1

/-- CAN_SINGLE_FRAME (R254 to R256, R464). -/
def execCanSingleFrame (frame : CanFrame) (s : State) : Host.Outcome State Fault Refusal :=
  .next (receiveCan frame 0 2 (singleCan frame)
    (fun q => completeCan frame.bus frame.id frame.data (relayCan q frame)) s)

/-- A first frame of this device (R254, R255): a transfer begins, unless the CP boots or its fields are out of range. -/
def firstCan (f : CanFrame) (s : State) : State :=
  let index := idIndex f.id
  let tag := frameTag f.data
  let total := leNat ((f.data.drop 2).take 2)
  let s1 := abortTransfer f.bus s
  if !cpReady s1 then sayCan f.bus (frameOp f.data == 1) tag index stBusy s1
  else if frameOp f.data > 1 then sayCan f.bus false tag index stRange s1
  else if total < 63 ∨ 8192 < total then sayCan f.bus (frameOp f.data == 1) tag index stRange s1
  else putTransfer f.bus
    (some ⟨f.bus, frameOp f.data == 1, tag, index, frameByte f.data, total, 1, (f.data.drop 4).take 60, none⟩) s1

/-- CAN_FIRST_FRAME (R254, R255); a Waystation takes none by relay (R464). -/
def execCanFirstFrame (frame : CanFrame) (s : State) : Host.Outcome State Fault Refusal :=
  .next (receiveCan frame 1 64 (firstCan frame)
    (fun _ s => answerRelay
      ⟨frame.bus, frameOp frame.data == 1, frameTag frame.data, idIndex frame.id, frameByte frame.data,
        idNode frame.id⟩ stLength [] s) s)

/-- The bytes of a segmented request that tell it from another (R256): byte 0 without its kind, subindex, length and
data. -/
def transferBytes (r : CanRequest) : List Byte :=
  [canByte0 1 (ofBool r.write) r.tag, BitVec.ofNat 8 r.sub] ++ leBytes 2 r.total ++ r.data

/-- A consecutive frame (R255): of the transfer in progress it continues or completes it; a counter out of order aborts
it. -/
def consecutiveCan (f : CanFrame) (s : State) : State :=
  match transferOf s f.bus with
  | none => s
  | some r =>
    if idIndex f.id ≠ r.index ∨ frameTag f.data ≠ r.tag ∨ frameOp f.data ≠ ofBool r.write then s
    else if frameByte f.data ≠ r.next then abortTransfer f.bus s
    else
      let r1 := { r with next := r.next + 1, data := (r.data ++ (f.data.drop 2).take 62).take r.total }
      if r1.data.length < r.total then putTransfer f.bus (some r1) s
      else completeCan f.bus f.id (transferBytes r1) (queueCan r1) (putTransfer f.bus none s)

/-- CAN_CONSECUTIVE_FRAME (R255). -/
def execCanConsecutiveFrame (frame : CanFrame) (s : State) : Host.Outcome State Fault Refusal :=
  .next (receiveCan frame 2 2 (consecutiveCan frame) (fun _ s => s) s)

/-- CAN_ABORT_FRAME (R254, R255): the sender ends its transfer; the abort is counted and not answered. -/
def execCanAbortFrame (frame : CanFrame) (s : State) : Host.Outcome State Fault Refusal :=
  .next (receiveCan frame 3 2 (fun s =>
    if (transferOf s frame.bus).isSome then
      onHost (fun h => { h with canAborts := count32 h.canAborts }) (putTransfer frame.bus none s)
    else s) (fun _ s => s) s)

/-- CAN_TRANSFER_TIMEOUT (R255): more than 20 ms between frames of one transfer. -/
def execCanTransferTimeout (bus : Bus) (s : State) : Host.Outcome State Fault Refusal := .next (abortTransfer bus s)

/-- The recovery of the CAN standard in housekeeping slots (R252, log 55): 128 times 11 recessive bits at the rate of the
arbitration phase. -/
def recoverySlots (s : State) : Nat := if cfg s 0x1100 1 = 0 then 88 else 44

/-- CAN_BUS_OFF (R252, R358 kind 0x25): counted; the bus is off until it has recovered, and CAN_A holds its Waybills until
then (R373). -/
def execCanBusOff (bus : Bus) (s : State) : Host.Outcome State Fault Refusal :=
  .next (if isOn s .core then
    raiseKind 0x25 { counter := match bus with
        | .a => count32 s.host.busOffA
        | .b => count32 s.host.busOffB }
      (onHost (fun h => match bus with
        | .a => { h with busOffA := count32 h.busOffA, recoveringA := recoverySlots s }
        | .b => { h with busOffB := count32 h.busOffB, recoveringB := recoverySlots s }) s)
  else s)

/-- The CP completes a request of a CAN bus (R254). -/
def serveCan (r : CanRequest) (s : State) : State :=
  if r.write then requestWrite (.can r.bus r.tag) r.index r.sub r.data s
  else requestRead (.can r.bus r.tag) r.index r.sub s

/-- A request that came inside a session which has timed out since is judged inside it (R290). -/
def serveInside (inside : Option (Role × Transport)) (serve : State → State) (s : State) : State :=
  match inside with
  | none => serve s
  | some x =>
    let t := serve (onAccess (fun a => { a with session := some x }) s)
    if t.access.session = some x then onAccess (fun a => { a with session := s.access.session }) t else t

/-- DICTIONARY_REQUEST_DONE (R251, R255): the CP completes the oldest request. -/
def execDictionaryRequestDone (shp : Bool) (s : State) : Host.Outcome State Fault Refusal :=
  .next (if !cpReady s then s
    else if shp then
      match s.host.shpRequests with
      | [] => s
      | r :: q => serveInside r.inside (serveShp r) (onHost (fun h => { h with shpRequests := q }) s)
    else
      match s.host.canRequests with
      | [] => s
      | r :: q => serveInside r.inside (serveCan r) (onHost (fun h => { h with canRequests := q }) s))

/-! ## Sideband port -/

/-- The address byte of a transaction (R258): the 7-bit address above the R/W bit. -/
def sbpAddressByte (s : State) (read : Bool) : Byte := BitVec.ofNat 8 (s.power.options.sbpAddress * 2 + ofBool read)

/-- The CRC-8 of a transaction from the host is right (R258). -/
def sbpCrcGood (s : State) (bs : List Byte) (crc : Byte) : Bool := crc8 (sbpAddressByte s false :: bs) == crc.toNat

/-- The SBP answers in Run and on the way out of Stop, where CORE is not powered yet and requests find the CP not booted
(R257, R259). -/
def sbpListens (s : State) : Bool :=
  isOn s .core
    || (isOn s .safe && !inReset s && (s.power.votes.wake ||| s.power.votes.sbp) != 0 && s.aon.frozen.isNone)

/-- A transaction of the SBP is host activity (R260), of which the monitor in CORE knows while CORE is powered. -/
def sbpActive (s : State) : State := if isOn s .core then hostActive false s else s

/-- Applies `f` to the sideband port. -/
def onSbp (f : Sideband → Sideband) (s : State) : State := onHost (fun h => { h with sbp := f h.sbp }) s

/-- A transaction that fails its CRC is dropped, and the next read returns 0x06 (R258). -/
def sbpBad (s : State) : State :=
  onSbp (fun x => { x with errors := count32 x.errors, status := some stCheck }) s

/-- SBP_SET_POINTER (R258): the pointer is set and a fetch starts; the status of a write before it still waits for the
first read. -/
def execSbpSetPointer (index sub : Nat) (crc : Byte) (s : State) : Host.Outcome State Fault Refusal :=
  .next (if !sbpListens s then s
    else if !sbpCrcGood s (leBytes 2 index ++ leBytes 1 sub) crc then sbpBad s
    else onSbp (fun x => { x with pointer := some (index % 2 ^ 16, sub % 256), fetched := none }) (sbpActive s))

/-- SBP_WRITE (R257, R258): the object is written, or the write refused; the next read returns its status. -/
def execSbpWrite (index sub : Nat) (data : List Byte) (crc : Byte) (s : State) : Host.Outcome State Fault Refusal :=
  .next (if !sbpListens s then s
    else if !sbpCrcGood s (leBytes 2 index ++ leBytes 1 sub ++ data) crc then sbpBad s
    else requestWrite .sbp (index % 2 ^ 16) (sub % 256) data (onSbp (fun x => { x with status := none }) (sbpActive s)))

/-- A write of the SBP waits for NVM (R276). -/
def sbpWaits (s : State) : Bool := s.journal.queue.any fun j => j.waiter.any fun w => w.via == .sbp

/-- The bytes that a read returns (R258): status, length, data, and their CRC-8 after the address byte. -/
def sbpBytes (s : State) (status : Nat) (bs : List Byte) : List Byte :=
  let x := [BitVec.ofNat 8 status, BitVec.ofNat 8 bs.length] ++ bs
  x ++ [BitVec.ofNat 8 (crc8 (sbpAddressByte s true :: x))]

/-- A read returns a status, with data. -/
def sbpReturn (status : Nat) (bs : List Byte) (s : State) : State :=
  onSbp (fun x => { x with out := sbpBytes s status bs }) s

/-- SBP_READ (R229, R258): busy during a CP boot, while a write waits for NVM and before the fetch is ready; the status of
a write or of a failed CRC once; then the object at the pointer, or 0xFF with no pointer set. -/
def execSbpRead (s : State) : Host.Outcome State Fault Refusal :=
  .next (if !sbpListens s then s
    else
      let s1 := sbpActive s
      if !cpReady s1 || sbpWaits s1 then sbpReturn stBusy [] s1
      else
        match s.host.sbp.status, s.host.sbp.pointer, s.host.sbp.fetched with
        | some c, _, _ => sbpReturn c [] (onSbp (fun x => { x with status := none }) s1)
        | none, none, _ => sbpReturn 0xFF [] s1
        | none, some _, none => sbpReturn stBusy [] s1
        | none, some _, some r => sbpReturn r.1 r.2 s1)

/-- SBP_FETCH_DONE (R258): the object at the pointer has been fetched. -/
def execSbpFetchDone (s : State) : Host.Outcome State Fault Refusal :=
  .next (match s.host.sbp.pointer with
    | some q => if cpReady s then requestRead .sbp q.1 q.2 s else s
    | none => s)

end Sys2Proof.Machine
end

