-- ==== Sys2Proof/Machine/Almanac.lean ====
section
/-!
DEFINITION. Almanac.lean: the Almanac's entries, their actions and their lateness (R57 to R68), and the extra
housekeeping conversions (R295).
-/

namespace Sys2Proof.Machine

open Sys2Proof

/-! ## Fields of an entry (R57) -/

/-- Enable. -/
def entryEnable (e : BitVec 96) : Bool := bitOf e.toNat 95
/-- OneShot. -/
def entryOneShot (e : BitVec 96) : Bool := bitOf e.toNat 94
/-- TollLimit. -/
def entryTollLimit (e : BitVec 96) : Nat := bitsOf e.toNat 92 2
/-- Action. -/
def entryAction (e : BitVec 96) : Nat := bitsOf e.toNat 86 6
/-- Trigger. -/
def entryTrigger (e : BitVec 96) : Nat := bitsOf e.toNat 72 12
/-- Frames of the period. -/
def entryPeriod (e : BitVec 96) : Nat := bitsOf e.toNat 64 8 + 1
/-- Phase. -/
def entryPhase (e : BitVec 96) : Nat := bitsOf e.toNat 56 8
/-- Target. -/
def entryTarget (e : BitVec 96) : Nat := bitsOf e.toNat 40 16
/-- Argument. -/
def entryArgument (e : BitVec 96) : Nat := bitsOf e.toNat 0 32

/-- Applies `f` to the Almanac. -/
def onAlmanac (f : Almanac → Almanac) (s : State) : State := { s with almanac := f s.almanac }

/-- An entry takes part at this position of this frame (R63, R64). -/
def entryDue (a : Almanac) (pos : Nat) (e : BitVec 96) : Bool :=
  entryEnable e && entryTrigger e == pos && a.maskCount.toNat % entryPeriod e == entryPhase e

/-- The entries whose trigger is this position, in ascending number, as they stand now (R64, R66). -/
def dueEntries (s : State) : List (Nat × BitVec 96) :=
  if s.almanac.ready && s.almanac.enabled then
    s.almanac.entries.filter fun e => entryDue s.almanac s.scan.pos.toNat e.2
  else []

/-! ## Actions (R60, R61) -/

/-- A channel that an extra conversion can take: STRAP is converted only during the option load (R293). -/
def sampleable (channel : Nat) : Bool := decide (channel < 28) && channel != 22 && channel != 23

/-- SAMPLE_HK (R60, R295): an extra conversion waits in a queue of 16, or is dropped. -/
def sampleHk (channel : Nat) (s : State) : State :=
  if !sampleable channel then s
  else if s.hk.queue.length < 16 then onHk (fun h => { h with queue := h.queue ++ [channel] }) s
  else onHk (fun h => { h with dropCount := count32 h.dropCount }) s

/-- PROBE_WINDOW (R328): a window two frames later on the ports of the mask, at Toll state 0 or 1 (R321). -/
def openProbeWindow (start mask length : Nat) (s : State) : State :=
  if 1 < s.toll.state then s
  else Port.all.foldl (fun s p =>
    if bitOf mask p.num then
      onPixels p (fun x => { x with windows := x.windows ++ [⟨s.scan.epoch + 2, start, length⟩] }) s
    else s) s

/-- The level of SYNC_OUT: a pulse whose eighths have passed has ended (R61). -/
def syncLevel (a : Almanac) : Bool := a.syncOut && a.pulse != some 0

/-- SYNC_OUT (R60, R61): toggle, high, low, or a pulse of a number of eighths. -/
def driveSyncOut (arg : Nat) (a : Almanac) : Almanac :=
  match bitsOf arg 16 2 with
  | 0 => { a with syncOut := !syncLevel a, pulse := none }
  | 1 => { a with syncOut := true, pulse := none }
  | 2 => { a with syncOut := false, pulse := none }
  | _ => { a with syncOut := true, pulse := some (bitsOf arg 0 16) }

/-- HOST_IRQ (R60): the cause is written and the host interrupt is set. -/
def hostIrq (cause : Nat) (s : State) : State := setIrq 0 (onAlmanac (fun a => { a with irqCause := cause }) s)

/-- CAL_STEP (R60, R321, R435): a background calibration step starts, at Toll state 0 or 1, and holds the domains of its
task. -/
def startCalStep (task : Nat) (s : State) : State :=
  if 1 < s.toll.state then s
  else powerUpVoted (onVotes (fun v => { v with cal := v.cal ||| (Config.calibrationDomains task &&& allDomains) })
    (onUnits (fun u => { u with calStep := true }) s))

/-- SHADE_SWAP (R60, R126): a swap is requested as by a completed list. -/
def requestSwap (s : State) : State :=
  if isOn s .pix then onShade (fun h => { h with swapRequested := true }) s else s

/-- The action of an entry (R60). NOP has no effect; what a self-test step does is not stated (log 69). -/
def entryActs (e : BitVec 96) (s : State) : State :=
  match entryAction e with
  | 0x01 => sampleHk (entryTarget e) s
  | 0x02 => openProbeWindow (entryTrigger e) (entryTarget e) (entryArgument e % 65536) s
  | 0x03 => requestCommit s
  | 0x04 => requestSwap s
  | 0x05 => onAlmanac (driveSyncOut (entryArgument e)) s
  | 0x06 => hostIrq (entryArgument e) s
  | 0x07 => startCalStep (entryTarget e) s
  | _ => s

/-! ## OneShot (R68) -/

/-- An entry with its Enable cleared. -/
def disabledEntry (e : BitVec 96) : BitVec 96 := e &&& ~~~(BitVec.ofNat 96 (2 ^ 95))

/-- Offers the cleared entry `n` to the journal; one whose record is queued already waits for it. -/
def offerEntry (n : Nat) (s : State) : State :=
  let index := 0xA100 + n / 256
  let sub := n % 256
  if s.journal.queue.any fun w => w.index == index && w.sub == sub then s
  else enqueueWrite ⟨index, sub, 1, 12, (disabledEntry (BitVec.ofNat 96 (cfg s index sub))).toNat, none⟩ s

/-- A OneShot entry has executed: its Enable is cleared, and of an integrator's entry the CP journals it (R57, R68). An
entry that was written while it waited stands as written (R66, log 66). -/
def clearOneShot (n : Nat) (e : BitVec 96) (s : State) : State :=
  if !entryOneShot e || almanacEntry s n != e then s
  else
    let s1 := onAlmanac (fun a => { a with
      entries := putEntry n (disabledEntry e) a.entries
      unsaved := if n < 896 ∧ !a.unsaved.contains n then a.unsaved ++ [n] else a.unsaved }) s
    if n < 896 ∧ cpReady s1 then offerEntry n s1 else s1

/-! ## Execution (R64, R65, R67) -/

/-- Lateness in CLK_CORE counts; the first of a frame raises kind 0x29 (R65). -/
def noteLate (lateness : Nat) (s : State) : State :=
  let first := !s.almanac.lateThisFrame
  let s1 := onAlmanac (fun a => { a with
    lateCount := count32 a.lateCount, maxLate := max a.maxLate (min 1024 lateness), lateThisFrame := true }) s
  if first then raiseKind 0x29 {} s1 else s1

/-- An entry is skipped, which takes no clock (R64, R67): for its TollLimit, or as a step of the CP while the CP is
down. -/
def entrySkipped (s : State) (e : BitVec 96) : Bool :=
  decide (entryTollLimit e < s.toll.state) || ((entryAction e == 0x07 || entryAction e == 0x08) && !cpReady s)

/-- A skip for the Toll state is counted (R64). -/
def noteSkip (e : BitVec 96) (s : State) : State :=
  if entryTollLimit e < s.toll.state then
    onAlmanac (fun a => { a with tollSkips := count32 a.tollSkips }) s
  else s

/-- An entry executes, `lateness` CLK_CORE after the end of its eighth (R57, R60, R65). -/
def executeEntry (n : Nat) (e : BitVec 96) (lateness : Nat) (s : State) : State :=
  let s1 := if lateness = 0 then s else noteLate lateness s
  clearOneShot n e (entryActs e s1)

/-- Runs entries, given as number, the CLK_CORE at which their eighth ends and content, one per clock (R64): `used`
clocks of the eighth under way have been used, and what finds none left waits. -/
def runEntries : List (Nat × Nat × BitVec 96) → Nat → State → State
  | [], _, s => s
  | (n, ends, e) :: rest, used, s =>
    if used ≥ s.scan.clocks then onAlmanac (fun a => { a with waiting := (n, ends, e) :: rest }) s
    else if entrySkipped s e then runEntries rest used (noteSkip e s)
    else runEntries rest (used + 1) (executeEntry n e (s.scan.clkTotal + used + 1 - ends) s)

/-- The Almanac at the start of an eighth (R43 item 4, R64): entries that wait run first. -/
def runAlmanac (s : State) : State :=
  let ends := s.scan.clkTotal + s.scan.clocks
  let list := s.almanac.waiting ++ (dueEntries s).map fun e => (e.1, ends, e.2)
  runEntries list 0 (onAlmanac (fun a => { a with waiting := [] }) s)

/-- An eighth of a running pulse passes (R61). -/
def countPulse (a : Almanac) : Almanac :=
  { a with pulse := a.pulse.map fun n => n - 1 }

/-- Frame boundary (R63, R66): the mask count restarts or advances, and AlmanacEnable takes effect; while it is 0 no
entry executes, not even one that waits. -/
def almanacBoundary (s : State) : State :=
  let on := cfg s 0xA000 1 == 1
  onAlmanac (fun a => { a with
    maskCount := if a.restart then 0 else a.maskCount + 1
    restart := false
    enabled := on
    waiting := if on then a.waiting else []
    lateThisFrame := false }) s

/-! ## Commands -/

/-- SYNC_OUT_PULSE_END (R61): the eighths of a pulse have passed. -/
def execSyncOutPulseEnd (s : State) : Host.Outcome State Fault Refusal :=
  .next (if s.almanac.pulse = some 0 then onAlmanac (fun a => { a with syncOut := false, pulse := none }) s else s)

/-- The result of an extra conversion (R73, R293, R519): the corrected code, and for a sense channel the sink of the
present round. -/
def sampleWord (s : State) (channel raw : Nat) : BitVec 32 :=
  let sink := if 24 ≤ channel then 12 * (channel - 24) + s.hk.round % 12 else 0
  BitVec.ofNat 32 (channel * 2 ^ 24 + sink * 2 ^ 12 + correctedCode s raw)

/-- SAMPLE_HK_CONVERSION_DONE (R295): the first request in the queue is served. -/
def execSampleHkConversionDone (raw : Nat) (s : State) : Host.Outcome State Fault Refusal :=
  .next (match s.hk.queue with
    | [] => s
    | channel :: rest =>
      let w := sampleWord s channel raw
      onHk (fun h => { h with
        queue := rest
        result := w
        ring := modifyAt (fun _ => w) h.ringNext (if h.ring.isEmpty then List.replicate 16 0 else h.ring)
        ringNewest := h.ringNext
        ringNext := (h.ringNext + 1) % 16 }) s)

/-- The integrator's entries as journalled: number and value (R68, R73). A OneShot entry that has executed and is not yet
journalled is loaded with Enable cleared, because no reset has come (R68). -/
def journalledEntries (s : State) : List (Nat × BitVec 96) :=
  (s.dict.values.filter fun e => decide (0xA10000 ≤ e.1) && decide (e.1 < 0xA10000 + 896)).map
    fun e =>
      let v := BitVec.ofNat 96 e.2
      (e.1 - 0xA10000, if s.almanac.unsaved.contains (e.1 - 0xA10000) then disabledEntry v else v)

/-- The firmware's entries, those that differ from the default (R59, R68). One for probe windows, calibration steps or
self-tests has a TollLimit of 0 or 1 (R321); a list that holds another is none that the CP builds, and its entry is left
out. -/
def firmwareEntries (l : List (Nat × BitVec 96)) : List (Nat × BitVec 96) :=
  l.filter fun e => decide (896 ≤ e.1) && decide (e.1 < 1024) && e.2.toNat != defaultEntry
    && !([0x02, 0x07, 0x08].contains (entryAction e.2) && decide (1 < entryTollLimit e.2))

/-- The integrator's entries after a reload (R68): from the journal after a power-up of PIX, else those that stand. -/
def integratorEntries (s : State) : List (Nat × BitVec 96) :=
  if s.almanac.ready then s.almanac.entries.filter fun e => decide (e.1 < 896) else journalledEntries s

/-- ALMANAC_RELOAD_DONE (R68): the CP has loaded the integrator's entries and built its own. -/
def execAlmanacReloadDone (firmware : List (Nat × BitVec 96)) (s : State) : Host.Outcome State Fault Refusal :=
  .next (if cpReady s && isOn s .pix then
    onAlmanac (fun a => { a with
      entries := (integratorEntries s ++ firmwareEntries firmware).foldl (fun m e => putEntry e.1 e.2 m) []
      ready := true }) s
  else s)

/-- ALMANAC_ONESHOT_JOURNAL_RETRY (R68): the cleared entries whose record has not been committed are offered again. -/
def execAlmanacOneshotJournalRetry (s : State) : Host.Outcome State Fault Refusal :=
  .next (if cpReady s then s.almanac.unsaved.foldl (fun s n => offerEntry n s) s else s)

end Sys2Proof.Machine
end

