-- ==== Sys2Proof/Machine/Caravan.lean ====
section
/-!
DEFINITION. Caravan.lean: the frames of the ring (R452 to R459), the token as a reference (R460 to R462), relayed traffic
(R463 to R466), closings and breaks (R467, R468).
-/

namespace Sys2Proof.Machine

open Sys2Proof

/-! ## Sending -/

/-- Ten empty data slots. -/
def emptySlots : List (BitVec 24) := List.replicate 10 0

/-- The data slots filled with the device's own traffic (R457); before the ring's size is known there is none. -/
def fillData (p : Nat) (slots : List (BitVec 24)) (c : Caravan) : List (BitVec 24) × Caravan :=
  if c.size = 0 then (slots, c) else fillSlots p c.size 0 slots c

/-- A frame leaves with these token slots and data slots. -/
def emitFrame (p : Nat) (token data : List (BitVec 24)) (s : State) : State :=
  onRing (fun c =>
    let r := fillData p data c
    let slots := closeFrame c.closing (token ++ r.1)
    { r.2 with sent := slots, cells := frameCells slots }) s

/-- A Waystation goes on with empty token slots and its own traffic (R456, R468). -/
def emitOwn (s : State) : State :=
  match s.caravan.position with
  | some p => if p = 0 then s else emitFrame p (List.replicate 5 0) emptySlots s
  | none => s

/-- CARAVAN_FRAME_SEND (R452, R454, R468): the head's next frame with its token; a Waystation behind a break sends with its
last frame timing. -/
def execCaravanFrameSend (fraction : Nat) (s : State) : Host.Outcome State Fault Refusal :=
  .next (if !isOn s .core then s
    else if isHead s then
      let s1 := onRing (fun c => { c with tokenSeq := c.tokenSeq + 1 }) s
      emitFrame 0 (tokenSlots s1 fraction) emptySlots s1
    else if isStation s && s.caravan.state == 4 then emitOwn s
    else s)

/-! ## The token as a reference (R460 to R462) -/

/-- HeadEpoch of a token (R454). -/
def tokenEpoch (f : RingFrame) : BitVec 32 := BitVec.ofNat 32 (tokenWord f 2 + tokenWord f 3 * 2 ^ 16)

/-- The expected position in 1/256 eighth (R461). -/
def tokenExpected (s : State) (f : RingFrame) : Int :=
  (((tokenWord f 1 * 16 + s.scan.ref.phase * 256) % 1048576 : Nat) : Int)

/-- The captured position of the head's sync edge in 1/256 eighth (R44, R460); below 0 it lies in the frame before. -/
def tokenCaptured (s : State) (p : Nat) (f : RingFrame) : Int :=
  captured s.scan (if s.scan.clocks = 0 then 0 else f.clock * 256 / s.scan.clocks)
    (ringLatency s.caravan.loopDelay s.caravan.size p)

/-- The Epoch is adopted, with its entry in the black box (R50, R462, R367). -/
def adoptEpoch (new : BitVec 32) (s : State) : State :=
  let old := s.scan.epoch
  writeEntry false 0x7 0 (old.toNat * 2 ^ 32 + new.toNat) { s with scan := { s.scan with epoch := new } }

/-- The Epoch of the token is compared with the own one at the head's sync edge (R462): the second difference in a row
raises kind 0x4A and is mended at the next frame boundary, whose frame counts on from the head's. -/
def compareEpoch (f : RingFrame) (cap : Int) (s : State) : State :=
  let own := if cap < 0 then s.scan.epoch - 1 else s.scan.epoch
  if s.caravan.adopt.isSome then s
  else if own = tokenEpoch f then onRing (fun c => { c with mismatches := 0 }) s
  else if s.caravan.mismatches = 0 then onRing (fun c => { c with mismatches := 1 }) s
  else
    raiseKind 0x4A {} (onRing (fun c => { c with
      mismatches := 0, adopt := some (tokenEpoch f + (if cap < 0 then 2 else 1)) }) s)

/-- An accepted token (R461, R462): the phase event, adoption at the first lock, and the check of the Epoch while
locked, of which the token that completes lock is not yet one (R470, log 177). -/
def acceptToken (p t : Nat) (f : RingFrame) (s : State) : State :=
  let c := s.scan
  let cap := tokenCaptured s p f
  let c1 := acceptEvent 3 t cap (tokenExpected s f) { c with lastToken := some t }
  let s1 := { s with scan := noteLock c c1 }
  let s2 := if lostLock c c1 then raiseKind 0x43 {} s1 else s1
  if firstLock c c1 then
    onRing (fun r => { r with mismatches := 0 }) (adoptEpoch (if cap < 0 then tokenEpoch f + 1 else tokenEpoch f) s2)
  else if c.lock = .locked ∧ c1.lock = .locked then compareEpoch f cap s2
  else onRing (fun r => { r with mismatches := 0 }) s2

/-- A valid token at a Waystation is a phase event (R44, R459, R461): with LoopValid, at the own frame rate, and 24 µs after
the token accepted before it. -/
def tokenEvent (p : Nat) (f : RingFrame) (s : State) : State :=
  let c := s.scan
  let t := c.clkTotal + f.clock
  if !c.running || s.power.backupClock || !s.caravan.loopValid || bitsOf (tokenWord f 0) 5 3 != c.rate
      || !takesSource c 3 then s
  else if c.lastToken.any fun t0 => decide (t < t0 + 4800) then
    { s with scan := { c with rejectCount := count32 c.rejectCount } }
  else acceptToken p t f s

/-! ## Receiving (R456, R459) -/

/-- What a token tells a Waystation (R454, R459): its sequence, and with LoopValid the ring's size and delay. The rise of
LoopValid makes it announce its NodeId. -/
def readToken (f : RingFrame) (s : State) : State :=
  let valid := bitOf (tokenWord f 0) 4
  onRing (fun c => { c with
    tokenSeq := BitVec.ofNat 8 (tokenWord f 0 / 256)
    loopValid := valid
    size := if valid then bitsOf (tokenWord f 4) 13 3 + 1 else c.size
    loopDelay := if valid then bitsOf (tokenWord f 4) 0 13 else c.loopDelay
    announces := if valid && !c.loopValid then
        c.announces ++ [ringMessage 0 0x6 0 [BitVec.ofNat 16 s.power.options.nodeId]]
      else c.announces }) s

/-- The words addressed to the device join their messages (R458). -/
def takeWords (f : RingFrame) (s : State) : State :=
  onRing (fun c => { c with partials := (ownSlots f).foldl takeSlot c.partials }) s

/-- A frame that fails its check counts, and the messages in progress are gone (R456). -/
def badFrame (s : State) : State :=
  onRing (fun c => { c with
    frameErrors := count32 c.frameErrors, partials := [], goodFrames := 0 }) s

/-- A Waystation that waits enters service with the fourth valid frame in a row (R459). -/
def enterRing (f : RingFrame) (s : State) : State :=
  onRing (fun c =>
    let n := c.goodFrames + 1
    if (c.state = 1 ∨ c.state = 3) ∧ n ≥ 4 ∧ hasToken f then
      { c with goodFrames := n, state := 2, position := some ((tokenWord f 0 + 1) % 8) }
    else { c with goodFrames := n }) s

/-- A frame at a Waystation (R455, R456, R459, R468). One without a token shows the break further up, so that the quiet
period of kind 0x49 begins anew. -/
def stationFrame (f : RingFrame) (s : State) : State :=
  if !frameValid f then
    let s1 := badFrame s
    if s.caravan.state = 2 ∨ s.caravan.state = 4 then emitOwn s1 else s1
  else
    let s1 := enterRing f (onRing (fun c => { c with closing := frameClosing f }) s)
    match s1.caravan.position with
    | none => s1
    | some p =>
      if s1.caravan.state = 1 ∨ s1.caravan.state = 3 then s1
      else
        let s2 := takeWords f s1
        let s3 := if hasToken f then tokenEvent p f (markAbsent 0x49 0x1B (readToken f s2))
          else markPresent 0x49 0x1B s2
        emitFrame p (if hasToken f then forwardToken p f.slots else f.slots.take 5)
          (((f.slots.drop 5).take 10).map forwardData) s3

/-- A frame back at the head (R456, R459, R468): every slot is consumed; the fourth valid frame in a row with its token
gives the ring's size and delay. -/
def headFrame (f : RingFrame) (s : State) : State :=
  if !frameValid f then badFrame s
  else
    let s1 := takeWords f (onRing (fun c => { c with closing := frameClosing f }) s)
    if !hasToken f then markPresent 0x49 0x1B (onRing (fun c => { c with goodFrames := 0 }) s1)
    else
      markAbsent 0x49 0x1B (onRing (fun c =>
        let n := c.goodFrames + 1
        if n ≥ 4 ∧ !c.loopValid then
          { c with
            goodFrames := n, loopValid := true, state := if c.state = 4 then 4 else 2
            size := tokenWord f 0 % 8 + 1, loopDelay := f.delay % 8192 }
        else { c with goodFrames := n, state := if c.state = 3 then 2 else c.state }) s1)

/-- CARAVAN_FRAME_RECEIVED (R456). -/
def execCaravanFrameReceived (frame : RingLine) (s : State) : Host.Outcome State Fault Refusal :=
  .next (if !isOn s .core then s
    else if isHead s then headFrame (readRing frame) s
    else if isStation s then stationFrame (readRing frame) s
    else s)

/-! ## Messages (R458, R463 to R466) -/

/-- The bytes of words, the lower byte first (R458). -/
def wordBytes (ws : List (BitVec 16)) : List Byte := ws.flatMap fun w => leBytes 2 w.toNat

/-- Word `k` of a message. -/
def messageWord (m : RingMessage) (k : Nat) : Nat := (nth 0 m.words k).toNat

/-- A relayed message has arrived: the client votes for CORE (R466). -/
def relayArrived (s : State) : State := if s.power.votes.caravan = 0 then castRingVote s else s

/-- CARAVAN_DICTIONARY_REQUEST (R464): the Waystation's CP applies it within the reach of a UHL OD_WRITE. -/
def execCaravanDictionaryRequest (m : RingMessage) (s : State) : Host.Outcome State Fault Refusal :=
  .next (if isOn s .core && isStation s then
    let index := messageWord m 1
    let sub := messageWord m 0 % 256
    let s1 := relayArrived s
    if bitOf (messageWord m 0) 15 then
      requestWrite (.caravan m.tag) index sub ((wordBytes (m.words.drop 3)).take (messageWord m 2)) s1
    else requestRead (.caravan m.tag) index sub s1
  else s)

/-- CARAVAN_DICTIONARY_RESPONSE (R464): the relayed request is answered on CAN. -/
def execCaravanDictionaryResponse (m : RingMessage) (s : State) : Host.Outcome State Fault Refusal :=
  .next (if isOn s .core && isHead s then
    let node := nth 0xFF s.caravan.nodeMap m.source
    match s.caravan.relays.find? fun r => r.node == node && r.tag == m.tag with
    | some r =>
      settleRelayVote (answerRelay r (messageWord m 0 / 256)
        ((wordBytes (m.words.drop 1)).take (messageWord m 0 % 256))
        (onRing (fun c => { c with relays := c.relays.erase r }) s))
    | none => s
  else s)

/-- CARAVAN_RELAY_TIMEOUT (R464): the oldest relayed request has had no response within 10 ms. -/
def execCaravanRelayTimeout (s : State) : Host.Outcome State Fault Refusal :=
  .next (match s.caravan.relays with
    | r :: rest => settleRelayVote (answerRelay r stAborted [] (onRing (fun c => { c with relays := rest }) s))
    | [] => s)

/-- CARAVAN_WAYBILL (R463): to the CAN_A transmitter under the sender's NodeId; one that the node map leaves out has an open
NodeId. -/
def execCaravanWaybill (m : RingMessage) (s : State) : Host.Outcome State Fault Refusal :=
  .next (if isOn s .core && isHead s then
    let node := nth 0xFF s.caravan.nodeMap m.source
    let w := BitVec.ofNat 64 (leNat (wordBytes (m.words.take 4)))
    if node = 0xFF then
      let d := drawFree s
      canWaybill (d.1 % 16) w d.2
    else canWaybill node w s
  else s)

/-- CARAVAN_ANNOUNCE (R459): the head's node map. A NodeId of 0, or one that two positions report, is left out. -/
def execCaravanAnnounce (m : RingMessage) (s : State) : Host.Outcome State Fault Refusal :=
  .next (if isOn s .core && isHead s && decide (m.source < 8) then
    let node := messageWord m 0 % 16
    let elsewhere := (List.range 8).any fun q => q != m.source && nth 0xFF s.caravan.nodeMap q == node
    if node = 0 ∨ s.caravan.banned.contains node then s
    else if elsewhere then
      onRing (fun c => { c with
        banned := c.banned ++ [node]
        nodeMap := c.nodeMap.map fun x => if x = node then 0xFF else x }) s
    else onRing (fun c => { c with nodeMap := c.nodeMap.set m.source node }) s
  else s)

/-- The next whole session frame in bytes received: op, frame, and what follows it. Bytes before a Sync, and a Sync with a
length that no frame has, are skipped (R481). -/
def nextSession : Nat → List Byte → Option (Nat × SvcFrame × List Byte)
  | 0, _ => none
  | fuel + 1, bs =>
    if bs.length < 6 then none
    else
      let n := leNat ((bs.drop 4).take 2)
      if nth 0 bs 0 ≠ 0xC3 ∨ nth 0 bs 1 ≠ 0x5A ∨ n > 4104 then nextSession fuel (bs.drop 1)
      else if bs.length < n + 10 then none
      else some ((nth 0 bs 2).toNat,
        { source := .caravan, tag := (nth 0 bs 3).toNat, payload := (bs.drop 6).take n
          crc := BitVec.ofNat 32 (leNat ((bs.drop (n + 6)).take 4)) },
        bs.drop (n + 10))

/-- A session frame that the ring has brought (R465, R485): the Waystation acts on it, the head hands a response of its
target to the service port and notes the ActivationState of a STATUS. -/
def takeSession (op : Nat) (f : SvcFrame) (s : State) : State :=
  if isStation s then receiveFrame op f s
  else onUpdate (fun u => { u with
    out := u.out ++ [⟨.svc, op, f.tag, f.payload⟩]
    relayState := if op = 0x85 ∧ f.payload.headD 1 = 0 then (nth 0 f.payload 3).toNat else u.relayState }) s

/-- Every whole frame among the bytes received; `fuel` bounds their number. -/
def takeSessions : Nat → State → State
  | 0, s => s
  | fuel + 1, s =>
    match nextSession s.caravan.streamIn.length s.caravan.streamIn with
    | some (op, f, rest) => takeSessions fuel (takeSession op f (onRing (fun c => { c with streamIn := rest }) s))
    | none => s

/-- CARAVAN_IMAGE_STREAM (R465, R466, R485): the session bytes join those received, and the message's credit goes back. -/
def execCaravanImageStream (m : RingMessage) (s : State) : Host.Outcome State Fault Refusal :=
  .next (let target := isHead s && s.update.relayTarget != 0 && positionOf s s.update.relayTarget == some m.source
    if isOn s .core && (isStation s || target) then
      let s1 := onRing (fun c => { c with streamIn := c.streamIn ++ wordBytes m.words })
        (if isStation s then relayArrived s else s)
      takeSessions s1.caravan.streamIn.length (queueCredit m.source 1 s1)
    else s)

/-- CARAVAN_STREAM_CREDIT (R465, R481): credits from the receiver of the stream. The first 15 open a relay (log 59): the
Waystation grants as many back, and the head answers its RELAY_SELECT. -/
def execCaravanStreamCredit (m : RingMessage) (s : State) : Host.Outcome State Fault Refusal :=
  .next (if !isOn s .core then s
    else if isStation s then
      if m.tag = 15 then
        queueCredit m.source 15 (onRing (fun c => { c with credits := 15, stream := [], streamIn := [] }) s)
      else onRing (fun c => { c with credits := c.credits + m.tag }) s
    else if isHead s && s.update.relayTarget != 0 && positionOf s s.update.relayTarget == some m.source then
      let s1 := onRing (fun c => { c with credits := c.credits + m.tag }) s
      if s.update.relayBusy then
        respondSvc .svc 0x08 s.update.relayTag stOk []
          (onRing (fun c => { c with streamIn := [] }) (onUpdate (fun u => { u with relayBusy := false }) s1))
      else s1
    else s)

/-- CARAVAN_MESSAGE_TIMEOUT (R458): the words of a message have stopped for 8 frames. -/
def execCaravanMessageTimeout (source : Nat) (s : State) : Host.Outcome State Fault Refusal :=
  .next (if s.caravan.partials.any fun m => m.source == source then
    onRing (fun c => { c with
      partials := c.partials.filter fun m => m.source != source, dropped := count32 c.dropped }) s
  else s)

/-- CARAVAN_VOTE_RELEASE (R466): 1 s after the last relayed message. -/
def execCaravanVoteRelease (s : State) : Host.Outcome State Fault Refusal :=
  .next (if isOn s .core && isStation s then dropRingVote s else s)

/-! ## Closing and breaks (R467, R468) -/

/-- The ring is interrupted: relays are aborted with 0x07, and so is a session over the ring (R467, R468, R482). -/
def interruptRing (state : Nat) (s : State) : State :=
  abortRelays stAborted (closeHeldBy .caravan (onRing (fun c => { c with state := state, goodFrames := 0 }) s))

/-- CARAVAN_RING_BREAK (R468): a Waystation in service has had no valid frame for 128 µs. -/
def execCaravanRingBreak (s : State) : Host.Outcome State Fault Refusal :=
  .next (if isOn s .core && isStation s && !s.caravan.closing
      && (s.caravan.state == 2 || s.caravan.state == 4) then
    raiseKind 0x49 {} (interruptRing 4 s) else s)

/-- CARAVAN_TOKEN_LOST (R468): the head's own token has not returned for 4 frames. -/
def execCaravanTokenLost (s : State) : Host.Outcome State Fault Refusal :=
  .next (if isOn s .core && isHead s && !s.caravan.closing then raiseKind 0x49 {} (interruptRing 4 s) else s)

/-- CARAVAN_CLOSING (R467): silence after a frame with Closing. -/
def execCaravanClosing (s : State) : Host.Outcome State Fault Refusal :=
  .next (if isOn s .core && s.caravan.enabled && s.caravan.closing then interruptRing 3 s else s)

end Sys2Proof.Machine
end

