-- ==== Sys2Proof/Machine/SmTile.lean ====
section
/-!
DEFINITION. SmTile.lean: the dimmed floor (R379) and the SM's tile checker (R340, R341, R381).
-/

namespace Sys2Proof.Machine

open Sys2Proof

/-! ## What the scan-out engine sends of the safe beam -/

/-- The dimmed floor is in force (R379). -/
def dimmedFloor (s : State) : Bool := kindActive s 0x3D && cfg s 0x7100 2 == 1

/-- A safe-beam duty as it is sent (R379): scaled while the dimmed floor is in force. -/
def sentSafeDuty (s : State) (d : Nat) : Nat :=
  if dimmedFloor s then roundDivNat (d * cfg s 0x7100 0x0A) 32768 else d

/-- The safe beam's row as it is sent. -/
def sentSafeRow (s : State) (p : Port) (r : Nat) : List Nat := (safeRow s p r).map (sentSafeDuty s)

/-! ## The sample of a frame -/

/-- The tile column that the checker samples in tile row `tr` of a port in the frame of Epoch `e` (R340). -/
def sampledColumn (e : Nat) (p : Port) (tr : Nat) : Nat := (e + tr + 8 * p.num) % 32

/-- A tile is in the sample of the frame of `e` (R340). -/
def isSampled (s : State) (e : BitVec 32) (p : Port) (t : Nat) : Bool :=
  portInUse s p && t % 512 % 32 == sampledColumn e.toNat p (t % 512 / 32)

/-- What reaches the checker of a tile (R340, R381, R395): the duties that are sent, row by row, the n of its zone pair and
the calibration words whose Gain fields come with them, the parts of stage 7 with the signature that the CRC over each is
compared with, and whether it is a tile of the safe beam. -/
structure Forwarded where
  duties : List Nat
  n      : Nat
  words  : List (BitVec 32)
  parts  : List (List Nat × BitVec 32)
  safe   : Bool
  deriving DecidableEq, Repr

/-- A tile of the safe beam as it is sent (R38, R340). -/
def forwardSafe (s : State) (p : Port) (row col : Nat) (flaws : List Flaw) : Forwarded :=
  let z := zoneAt (32 * col) (32 * row)
  let qs := tilePixels row col 0 32
  let ds := qs.map fun q => sentSafeDuty s (safeDuty s p q.1 q.2)
  let seen := flawDuties flaws ds
  ⟨seen, (pairOf s p (safeCode s p z)).n, qs.map fun q => calWord s (pixelIndex p q.1 q.2), [(seen, signature ds)], true⟩

/-- The parts of a frame's tile that stage 7 has written: the whole tile, or in racing mode its two halves; none before all
of it has been composed. -/
def stage7Parts (s : State) (e : BitVec 32) (p : Port) (tile : Nat) : Option (List OutTile) :=
  (if frameRacing s e then [false, true] else [false]).mapM fun low => outTile s e p tile low

/-- The duties of the part that the check buffer holds of a tile, as they are sent (R147, R148, R375); those of stage 7 where
scan-out has not read it yet. -/
def sentPart (s : State) (e : BitVec 32) (o : OutTile) : List Nat :=
  match s.compose.checked.find? fun x => x.frame == e && x.port == o.port && x.tile == o.tile && x.lower == o.lower with
  | some x => limitTile s o.port o.tile o.lower x.n x.words x.duties
  | none => limitTile s o.port o.tile o.lower o.n o.words o.duties

/-- A composed tile (R340): the signatures go with what stage 7 wrote, and ceiling and floor are judged on what is sent
(R395). -/
def forwardComposed (s : State) (e : BitVec 32) (p : Port) (tile : Nat) (flaws : List Flaw) : Option Forwarded :=
  (stage7Parts s e p tile).map fun os =>
    let racing := frameRacing s e
    let seen := flawDuties flaws (os.flatMap (·.duties))
    let h := if racing then 512 else 1024
    ⟨flawDuties flaws (os.flatMap (sentPart s e)), (os.map (·.n)).headD 0, os.flatMap (·.words),
      os.map fun o => ((seen.drop (if o.lower then h else 0)).take h, (tstEntry s (tstIndex racing e p tile o.lower)).signature),
      false⟩

/-- What is forwarded of a sampled tile of the frame of `e`: of the safe beam while the port shows it, else of the composed
frame. -/
def forwarded (s : State) (e : BitVec 32) (p : Port) (tile : Nat) (flaws : List Flaw) : Option Forwarded :=
  if (s.link.get p).safeContent then
    (if e = s.scan.epoch then some (forwardSafe s p (tile / 32) (tile % 32) flaws) else none)
  else forwardComposed s e p tile flaws

/-- The frame in whose sample a tile lies (R340): the one being scanned, or the next one, whose composition has begun. -/
def sampledFrame (s : State) (p : Port) (t : Nat) : Option (BitVec 32) :=
  if isSampled s s.scan.epoch p t then some s.scan.epoch
  else if isSampled s (s.scan.epoch + 1) p t then some (s.scan.epoch + 1)
  else none

/-! ## The checks -/

/-- The CRC of every part matches (R340). -/
def crcAgrees (x : Forwarded) : Bool := x.parts.all fun y => signature y.1 == y.2

/-- A pixel is above the ceiling_duty that the SM recomputes from its own copy of the map and the forwarded Gain (R340). -/
def aboveCeiling (s : State) (p : Port) (n : Nat) (word : BitVec 32) (c r duty : Nat) : Bool :=
  match ceilingInForce s p c r with
  | none => false
  | some v => decide (duty > ceilingDuty word n v)

/-- Some pixel of a tile in an SF1 cell is above its ceiling. -/
def ceilingBroken (s : State) (p : Port) (tile : Nat) (x : Forwarded) : Bool :=
  ((tilePixels (tile / 32) (tile % 32) 0 32).zip (x.duties.zip x.words)).any fun e =>
    aboveCeiling s p x.n e.2.2 e.1.1 e.1.2 e.2.1

/-- The floor check runs (R381): the request is "requested" or the safe side is lit, and composed light or the safe beam
is in force. -/
def floorRuns (s : State) : Bool :=
  beamRequestAgreed s != 0
    && (s.faults.safeState == .none || s.faults.safeState == .safeBeam || s.faults.safeState == .blanking
        || (s.faults.safeState == .hold && s.faults.holdDone))

/-- The factor of the tiles' minimum in u1.15 (R381). -/
def floorScale (s : State) : Nat := if dimmedFloor s then cfg s 0x7100 0x0A else 32768

/-- The minimum of a tile in 1/32,768 of a u2.16 step (R381). -/
def floorMinimum (s : State) (t : Nat) : Nat := byteOf (cfg s 0x7100 0x0B) t * 128 * floorScale s

/-- The mean light of a tile in u2.16 (R381); a pair with n = 0 leaves it open (log 61). -/
def meanLight (s : State) (x : Forwarded) : Nat :=
  if x.n = 0 then (Config.freeValue s.free).toNat else sumOf x.duties * 2 ^ 22 / (x.n * 4095)

/-- The tile lies below its minimum (R381). -/
def belowFloor (s : State) (t : Nat) (x : Forwarded) : Bool :=
  floorRuns s && decide (byteOf (cfg s 0x7100 0x0B) t ≠ 0) && decide (meanLight s x * 32768 < floorMinimum s t)

/-! ## Judgement -/

/-- The Epochs of the disagreements of the last 32 frames (R341). -/
def recentEpochs (e : BitVec 32) (es : List (BitVec 32)) : List (BitVec 32) :=
  es.filter fun x => decide ((e - x).toNat < 32)

/-- A disagreement in the frame of `e` (R341, R381): counted; three within 32 frames raise kind 0x40. -/
def disagree (e : BitVec 32) (entry : Nat) (short : Bool) (s : State) : State :=
  let es := recentEpochs e (e :: s.checker.recent)
  let s1 := raiseKind 0x3F { address := entry }
    { s with checker := { s.checker with
        disagreed := count32 s.checker.disagreed
        shortfalls := if short then count32 s.checker.shortfalls else s.checker.shortfalls
        recent := es.take 3 } }
  if es.length ≥ 3 then raiseKind 0x40 { address := entry } s1 else markPresent 0x40 0x19 s1

/-- A broken ceiling (R341, R360): counted and raised; a tile of the safe beam asks for dark. -/
def violate (entry : Nat) (safe : Bool) (s : State) : State :=
  raiseKind 0x41 { address := entry }
    { s with
      checker := { s.checker with violations := count32 s.checker.violations }
      faults := { s.faults with safeBeamViolation := s.faults.safeBeamViolation || safe } }

/-- The judgement of a forwarded tile of the frame of `e` (R340, R341, R381). -/
def judgeTile (e : BitVec 32) (p : Port) (t : Nat) (x : Forwarded) (s : State) : State :=
  let entry := tstIndex (frameRacing s e) e p (t % 512) false
  let short := belowFloor s t x
  let s1 := { s with checker := { s.checker with checked := s.checker.checked + 1 } }
  let s2 := if short || !crcAgrees x then disagree e entry short s1 else clearCondition 0x40 0x19 s1
  if ceilingBroken s p (t % 512) x then settle (violate entry x.safe s2) else clearCondition 0x41 0x19 s2

/-- A sampled tile that the checker has not judged is judged when it has been forwarded. -/
def judgeForwarded (p : Port) (tile : Nat) (flaws : List Flaw) (s : State) : State :=
  match sampledFrame s p tile with
  | none => s
  | some e =>
    match forwarded s e p (tile % 512) flaws with
    | some x => judgeTile e p tile x { s with checker := { s.checker with judged := tile :: s.checker.judged } }
    | none => s

/-- SM_TILE_JUDGED (R340, R341, R381): a sampled tile arrives over the bridge, as its frame is composed or scanned. -/
def execSmTileJudged (tile : Nat) (flaws : List Flaw) (s : State) : Host.Outcome State Fault Refusal :=
  .next (let p := Port.ofNum (tile / 512)
    if !inReset s && isOn s .safe && isOn s .link && s.scan.running && s.units.sm == .ready
        && decide (tile < 2048) && !s.checker.judged.contains tile then
      judgeForwarded p tile flaws s
    else s)

end Sys2Proof.Machine
end

