-- ==== Sys2Proof/Machine/Frame.lean ====
section
/-!
DEFINITION. Frame.lean: the eighth boundary and what falls on it (R42, R43): frame and band boundaries, line starts
(R199 to R206), sub-periods (R165), the starts and cut-offs of composition (R139 to R145) and the change between
composed light and the safe beam (R137, R360).
-/

namespace Sys2Proof.Machine

open Sys2Proof

/-! ## Composed light or safe beam -/

/-- A port's light is lost for the others (R222, R307): lost, or its array in thermal shutdown. -/
def portDark (s : State) (q : Port) : Bool :=
  portInUse s q && ((s.link.get q).state == .lost || thermalOf s (.array q) == .shutdown)

/-- The safe state in force shows the safe beam (R360). -/
def safeStateShows (s : State) : Bool :=
  s.faults.safeState == .safeBeam || s.faults.safeState == .blanking
    || (s.faults.safeState == .hold && s.faults.holdDone)

/-- The safe beam takes a port's rows from the next line start (R137, R222, R307, R360, R379, R391). -/
def safeFromLine (s : State) (p : Port) : Bool :=
  s.manifest.safeUntilCommit || s.units.composerRestart || s.ceiling.source == 2 || dimmedFloor s
    || safeStateShows s || Port.all.any fun q => q != p && portDark s q

/-- The safe beam takes a port's rows from the next band boundary (R334, R338): another port's emitters are
disabled. -/
def safeFromBand (s : State) (p : Port) : Bool :=
  Port.all.any fun q => q != p && portInUse s q && s.nvm.disabled.get q != 0

/-- The highest code of a port's safe beam. -/
def topSafeCode (s : State) (p : Port) : Nat := maxOf 0 ((List.range 32).map (safeCode s p))

/-- A port changes to the safe beam, whose codes count as chosen (R162, R179). -/
def showSafe (p : Port) (s : State) : State :=
  raiseSupply p (topCode (s.compose.zones.get p)) (topSafeCode s p)
    (onLink p (fun l => { l with safeContent := true }) s)

/-- A port returns to composed light (R137, R361). -/
def showComposed (p : Port) (s : State) : State :=
  raiseSupply p (topSafeCode s p) (topCode (s.compose.zones.get p))
    (onLink p (fun l => { l with safeContent := false }) s)

/-- The ports that a line start changes to the safe beam; one whose copy of it is read again goes dark (R359). -/
def takeSafe (s : State) : State :=
  let s1 := Port.all.foldl (fun s p =>
    if !(s.link.get p).safeContent
        && (safeFromLine s p || (s.scan.pos.toNat % 128 == 0 && safeFromBand s p)) then showSafe p s else s) s
  if s1.safeBeam.repairing.isEmpty then s1 else dropEnables s1

/-- The first composed frame after a commit has come (R137); kind 0x0C exits with it (R358). -/
def endSafeUntilCommit (s : State) : State :=
  if s.manifest.safeUntilCommit && s.manifest.commitSeen && s.compose.begun
      && s.compose.frame == s.scan.epoch then
    clearCondition 0x0C 0x06 (onManifest (fun m => { m with safeUntilCommit := false }) s)
  else s

/-- The ports that a frame boundary returns to composed light. -/
def returnComposed (s : State) : State :=
  Port.all.foldl (fun s p =>
    if (s.link.get p).safeContent && !safeFromLine s p && !safeFromBand s p then showComposed p s else s) s

/-! ## Rows (R198, R199, R221) -/

/-- The port exchanges rows (R218, R228): in service or at half rate, no HOLD sent. -/
def inTraffic (l : LinkPort) : Bool := (l.state == .service || l.state == .halfRate) && !l.holdSent

/-- The 32 duties of a row that a tile in the check buffer holds (R147), limited by the ceiling in force (R375, R376). -/
def checkedSlice (s : State) (p : Port) (r col : Nat) : Option (List Nat) :=
  let racing := frameRacing s s.scan.epoch
  let h := if racing then 16 else 32
  (s.compose.checked.find? fun x =>
    x.frame == s.scan.epoch && x.port == p && x.tile == r / 32 * 32 + col
      && x.lower == (racing && decide (r % 32 ≥ 16))).map fun x =>
    (List.range 32).map fun i => let k := r % h * 32 + i
      limitDuty s p x.n (32 * col + i) r (nth 0 x.words k) (nth 0 x.duties k)

/-- The duties of a composed row, when all its tiles have been checked. -/
def composedRow (s : State) (p : Port) (r : Nat) : Option (List Nat) :=
  ((List.range 32).mapM (checkedSlice s p r)).map List.flatten

/-- The duties that a port sends for row `r`; none where a remap is due or under way (R220). -/
def rowDuties (s : State) (p : Port) (r : Nat) : Option (List Nat) :=
  let l := s.link.get p
  if l.remap || l.heldBand == some (bandNow s) then none
  else if l.safeContent then some (sentSafeRow s p r)
  else composedRow s p r

/-- Payload of a ROW: two duties in three bytes (R198). -/
def rowPayload (ds : List Nat) : List Byte := leBytes (ds.length * 12 / 8) (packLe 12 ds)

/-- The ROW packets of a row on the working lanes, in logical lane order (R197, R198); without duties each is
timing-only (R199). -/
def sendRow (r epoch : Nat) (ds : Option (List Nat)) (l : LinkPort) : LinkPort :=
  let w := l.map.length
  (List.range w).foldl (fun l j =>
    let b := laneBlocks w j
    match ds with
    | some ds => sendPacket 1 r epoch (b.1 * 128 + (b.2 - b.1) * 4)
        (rowPayload ((ds.drop (64 * b.1)).take (64 * (b.2 - b.1)))) [nth 0 l.map j] l
    | none => sendPacket 1 r epoch 0 [] [nth 0 l.map j] l) l

/-- The row that a port carries in a line (R199, R221): at half rate one row of the pair slot, in its first line. -/
def rowOfLine (l : LinkPort) (epoch line : Nat) : Option Nat :=
  if !l.half then some line else if line % 2 = 0 then some (line + epoch % 2) else none

/-- The record of what was sent for the rows of a line (R208, R338). -/
def noteSent (line : Nat) (row : Option (Nat × List Nat)) (l : LinkPort) : LinkPort :=
  let kept := l.rowsSent.filter fun e => e.1 != line && !(l.half && e.1 / 2 == line / 2)
  { l with rowsSent := match row with
    | some (r, ds) => putEntry r ds kept
    | none => if l.half && line % 2 == 1 then l.rowsSent else kept }

/-- Whether the content last sent for a row is the safe beam (R360). -/
def noteSafeRow (r : Nat) (loaded : Bool) (l : LinkPort) : LinkPort :=
  let bit := BitVec.ofNat 512 (2 ^ r)
  if !loaded then l
  else { l with safeRows := if l.safeContent then l.safeRows ||| bit else l.safeRows &&& ~~~bit }

/-- The ROW of a line (R199): timing-only in one whose ZONE has to wait (log 72). -/
def lineRow (s : State) (p : Port) (l : LinkPort) : LinkPort :=
  let line := lineNow s
  let e := s.scan.epoch.toNat
  match (if inTraffic l then rowOfLine l e line else none) with
  | some r =>
    let duties := if l.zoneDue && line == 504 then none else rowDuties s p r
    noteSafeRow r duties.isSome (noteSent line (duties.map fun ds => (r, ds)) (sendRow r e duties l))
  | none => noteSent line none l

/-! ## Port packets and trims (R201 to R206) -/

/-- The codes of a zone row in the frame of `epoch` (R159, R162). -/
def zoneCodes (s : State) (p : Port) (epoch : BitVec 32) (zr : Nat) : List Nat :=
  if (s.link.get p).safeContent then safeCodes s p zr
  else (List.range 8).map fun k => frameCode s p epoch (8 * zr + k)

/-- The zone rows whose codes leave in this line, each with its frame (R201): in the line before its first row, and the
present one again in a line whose start changed what the port shows (log 72). -/
def zonesOfLine (s : State) (changed : Bool) : List (Nat × BitVec 32) :=
  let line := lineNow s
  (if changed then [(line / 128, s.scan.epoch)] else [])
    ++ (if line % 128 = 127 then
        [((line / 128 + 1) % 4, if line = 511 then s.scan.epoch + 1 else s.scan.epoch)] else [])

/-- A change of what a port shows waits with its ZONE for the next line, because this one carries TRIM_COMMIT: the two do
not fit in 80 symbols (R202, R206, log 72). -/
def zoneWaits (s : State) (changed : Bool) : Bool := changed && lineNow s == 504

/-- The ZONE of the present zone row leaves in this line again: what the port shows has changed, in this line or in the one
before. -/
def zoneAgain (s : State) (changed : Bool) (l : LinkPort) : Bool :=
  (changed || (l.zoneDue && lineNow s != 504)) && !zoneWaits s changed

/-- ZONE packets of a line (R201). -/
def lineZone (s : State) (p : Port) (changed : Bool) (l : LinkPort) : LinkPort :=
  (zonesOfLine s (zoneAgain s changed l)).foldl (fun l e =>
    sendZone e.1 s.scan.epoch.toNat (lineNow s) (zoneCodes s p e.2 e.1) l) { l with zoneDue := zoneWaits s changed }

/-- The windows that govern sub-period `k`, which begins after this line: those of the next frame for the first
(R166). -/
def windowsFor (s : State) (k : Nat) : List (BitVec 32) :=
  if k = 0 then (List.range 4).map fun i => BitVec.ofNat 32 (cfg s 0x4400 (i + 1)) else s.drive.windows

/-- The sub-period that follows this line's (R165). -/
def nextSubPeriod (s : State) : Nat := (lineNow s + 16) / 32 % 16

/-- The seed of a coming sub-period, and whether it is guarded (R165, R167). -/
def seedAhead (s : State) (k : Nat) : Bool × Nat :=
  let s1 := { s with drive := { s.drive with windows := windowsFor s k } }
  (bitOf (guardedMap s1) k, seedOf s1 k (lfsrStep s.drive.lfsr))

/-- SEED of a line (R165, R167, R204). -/
def lineSeed (s : State) (l : LinkPort) : LinkPort :=
  let line := lineNow s
  if line % 32 = 16 then
    let x := seedAhead s (nextSubPeriod s)
    sendSeed (nextSubPeriod s) x.1 x.2 s.scan.epoch.toNat line l
  else l

/-- The seed that leaves in this line comes into force with the next sub-period (R165). -/
def noteSeed (s : State) : State :=
  if lineNow s % 32 = 16 then
    { s with drive := { s.drive with nextSeed := BitVec.ofNat 8 (seedAhead s (nextSubPeriod s)).2 } }
  else s

/-- The rows whose trims were all sent in this frame (R202). -/
def sentTrimRows (l : LinkPort) : List Nat := l.trimRows.filter fun r => !l.trimQueue.any fun e => e.1 == r

/-- CTRL TRIM_COMMIT in line 504 (R202). -/
def lineTrimCommit (s : State) (l : LinkPort) : LinkPort :=
  if lineNow s = 504 then
    sendCtrlNow 504 s.scan.epoch.toNat 8
      (leBytes 64 (packLe 1 ((List.range 512).map fun r => ofBool ((sentTrimRows l).contains r)))) l
  else l

/-- The TRIM of block `b` of a row (R202). -/
def sendTrimBlock (s : State) (p : Port) (row b : Nat) (l : LinkPort) : LinkPort :=
  sendPacket 3 row s.scan.epoch.toNat (b * 128)
    (trimPayload ((List.range 64).map fun k => trimInFrame s p (64 * b + k) row))
    [nth 0 l.map (laneOfBlock l.map.length b)] l

/-- TRIMs that a lane takes in a line (R206): two after its ROW; at half rate none in the line of the ROW, and four in the
other line of the pair slot (log 70). -/
def trimsPerLine (s : State) (l : LinkPort) : Nat :=
  if !l.half then 2 else if lineNow s % 2 = 1 then 4 else 0

/-- The blocks of the first row that waits which fit in a line, at most `k` on a lane, and those that stay. -/
def pickTrims (l : LinkPort) (k : Nat) : List (Nat × Nat) × List (Nat × Nat) :=
  match l.trimQueue with
  | [] => ([], [])
  | e :: _ =>
    l.trimQueue.foldl (fun r x =>
      let lane := laneOfBlock l.map.length x.2
      if x.1 == e.1 && decide ((r.1.filter fun y => laneOfBlock l.map.length y.2 == lane).length < k)
      then (r.1 ++ [x], r.2) else (r.1, r.2 ++ [x])) ([], [])

/-- TRIMs of a line (R202, R206): all 16 blocks of one row after the other, on the lanes that work when they leave, before
line 504. -/
def lineTrims (s : State) (p : Port) (l : LinkPort) : LinkPort :=
  if lineNow s < 504 then
    let r := pickTrims l (trimsPerLine s l)
    { r.1.foldl (fun l e => sendTrimBlock s p e.1 e.2 l) l with trimQueue := r.2 }
  else l

/-- A HOLD that waits ends the traffic of a port at a line start (R35, R218). -/
def lineHold (s : State) (l : LinkPort) : LinkPort :=
  if l.holdDue then sendHoldNow (lineNow s) s.scan.epoch.toNat l else l

/-- What a port sends at a line start (R199, R206): its ROW, the port packets, then TRIMs; the CTRLs that wait follow the
packets that belong to the line. -/
def portLine (s : State) (p : Port) (changed : Bool) (l0 : LinkPort) : LinkPort :=
  let l := { l0 with zoneDue := l0.zoneDue || zoneWaits s changed }
  let l1 := { lineRow s p l with rowDue := false, deferred := [] }
  let l2 := if inTraffic l then lineTrimCommit s (lineSeed s (lineZone s p changed l1)) else l1
  let l3 := flushCtrls (lineNow s) s.scan.epoch.toNat l.deferred l2
  if inTraffic l then lineTrims s p l3 else l3

/-- The codes of a zone row leave on a port: the rows sent from this line on take them (R160); those of the frame being
scanned are kept for ZoneCurrentCode (R159). -/
def putScanned (zr : Nat) (codes : List Nat) (scanning : Bool) (z : Zones) : Zones :=
  let put := fun (old : List Nat) =>
    (List.range 32).map fun k => if k / 8 = zr then nth 0 codes (k % 8) else nth 0 old k
  { z with sent := put z.sent, scanning := if scanning then put z.scanning else z.scanning }

/-- The codes that the rows of a port's zone rows are sent with from this line on (R159). -/
def noteScanned (p : Port) (changed : Bool) (s : State) : State :=
  (zonesOfLine s changed).foldl (fun s e =>
    onZones p (putScanned e.1 (zoneCodes s p e.2 e.1) (e.2 == s.scan.epoch)) s) s

/-- A frame has been scanned: its codes are those of the last scanned frame (R159). -/
def endScanned (s : State) : State :=
  onCompose (fun c => { c with zones := c.zones.map fun _ z => { z with scanned := z.scanning, scanning := z.sent } }) s

/-- A line begins on every port: the lanes have sent the symbols of the line before, nothing has left in this one, and CTRLs
wait for its ROW (R185, R206). -/
def openLine (s : State) : State :=
  { s with link := s.link.map fun p l => { transmit p s.scan.clkTotal l with sent := [], rowDue := true } }

/-- LINE_START (R199): `before` is the state that the line before ended with. -/
def lineStart (before s0 : State) : State :=
  let s1 := takeSafe s0
  let s := { s1 with link := s1.link.map fun _ l => lineHold s1 l }
  let changed := fun p =>
    let a := before.link.get p
    let b := s.link.get p
    a.safeContent != b.safeContent || inTraffic a != inTraffic b
  Port.all.foldl (fun x p =>
    noteScanned p (changed p) (onLink p (portLine s p (changed p)) x)) (noteSeed s)

/-! ## Sub-periods (R165) -/

/-- SUB_PERIOD_START: the LFSR steps, and the seed that the array was sent in the sub-period before is in force. -/
def subPeriodStart (s : State) : State :=
  { s with drive := { s.drive with lfsr := lfsrStep s.drive.lfsr, seed := s.drive.nextSeed } }

/-! ## Composition at boundaries (R139 to R145) -/

/-- Composition in buffered mode starts at this frame boundary (R139, R145). -/
def startsBuffered (m : Manifest) : Bool :=
  (!m.racing && m.modeChange != some (true, 1)) || m.modeChange == some (false, 1)

/-- Composition in racing mode starts at this boundary of band 30 (R140, R145). -/
def startsRacing (m : Manifest) : Bool :=
  (m.racing && m.modeChange != some (false, 1) && m.modeChange != some (false, 2)) || m.modeChange == some (true, 1)

/-- The composer can work: PIX is powered and no restart runs. -/
def composerUp (s : State) : Bool := isOn s .pix && !s.units.composerRestart

/-- A frame begins in buffered mode, or is due when stages 1 to 4 of the frame before have ended (R139). -/
def startBuffered (s : State) : State :=
  if s.compose.busy && !s.compose.racing && !stagingEnded s then onCompose (fun c => { c with due := true }) s
  else beginFrame (s.scan.epoch + 1) false (s.manifest.modeChange == some (false, 1)) s

/-- The cut-off of racing mode (R141): the source tiles of the band before that are missing are late, and the band is
completed. -/
def completeOlder (s : State) : State :=
  match s.compose.older with
  | some r =>
    if r.racing && composerUp s && !sbgAlone s then
      onCompose (fun c => { c with older := none }) (inRun r (fun s =>
        (openHalves s).foldl (fun s e =>
          composeHalf e.1 (s.compose.band / 2) e.2 (s.compose.band % 2 == 1) s) s) s)
    else s
  | none => s

/-- The output tiles of a zone row whose stages 1 to 4 have not ended, as port and tile number. -/
def openTiles (s : State) (zr : Nat) : List (Port × Nat) :=
  ((canvasPorts s).filter fun p => decide (s.compose.stagedRows.get p ≤ zr)).flatMap fun p =>
    (List.range 128).map fun k => (p, zr * 128 + k)

/-- The cut-off of buffered mode (R139): the source tiles of a zone row that are still missing are late. -/
def cutBuffered (frame : BitVec 32) (zr : Nat) (s : State) : State :=
  if composerUp s && s.compose.busy && !s.compose.racing && s.compose.frame == frame then
    (openTiles s zr).foldl (fun s e =>
      markLate e.1 (neededTiles s e.1 (e.2 / 32) (e.2 % 32) 0 32) s) s
  else s

/-- The cut-off of the zone row that a band boundary ends (R139). -/
def cutZoneRow (b : Nat) (s : State) : State :=
  if b = 24 then cutBuffered (s.scan.epoch + 1) 0 s
  else if b % 8 = 0 then cutBuffered s.scan.epoch (b / 8 + 1) s
  else s

/-- The zone codes that are chosen when composition of a band begins (R143, R159). -/
def chooseZones (band : Nat) (s : State) : State :=
  if band % 8 = 0 then (canvasPorts s).foldl (fun s p => chooseRacing p (band / 8) s) s else s

/-- The last frame of racing mode is in its last band, which is still to be completed (R141, R145). -/
def leaveRacing (s : State) : State :=
  onCompose (fun c => { c with busy := false, unpublished := some (c.frame, c.scales) }) (keepOlder s)

/-- The next band of racing mode begins, at the boundary of band `b` (R140, R143): at band 30 with the next frame, which
begins only while racing mode goes on. -/
def startBand (b : Nat) (s : State) : State :=
  if b = 30 then
    if startsRacing s.manifest then
      chooseZones 0 (beginBand 0
        (beginFrame (s.scan.epoch + 1) true (s.manifest.modeChange == some (true, 1)) s))
    else if s.compose.busy && s.compose.racing then leaveRacing s
    else s
  else if s.compose.busy && s.compose.racing
      && s.compose.frame == (if b = 31 then s.scan.epoch + 1 else s.scan.epoch) then
    chooseZones ((b + 2) % 32) (beginBand ((b + 2) % 32) s)
  else s

/-- Composition begins what a band boundary lets it begin (R139, R140, R143, R145). In buffered mode it waits for a commit
(R137). -/
def compositionBoundary (b : Nat) (s : State) : State :=
  if !composerUp s then s
  else
    let s1 := cutZoneRow b s
    if b = 0 && startsBuffered s1.manifest then (if sbgAlone s1 then s1 else startBuffered s1) else startBand b s1

/-- From line 16X + 16 on the report of band X of the content now latched can come (R208, R339). -/
def openReport (band : Nat) (s : State) : State :=
  { s with pixels := s.pixels.map fun _ x => { x with reported := x.reported &&& ~~~(BitVec.ofNat 32 (2 ^ band)) } }

/-- A band boundary (R43 items 2 and 3): commits and swaps in racing mode, and at a frame boundary in either; then what
composition begins, and lane remaps. -/
def bandBoundary (b : Nat) (s : State) : State :=
  let s1 := if s.manifest.racing || b == 0 then swapBoundary (commitBoundary s) else s
  openReport ((b + 31) % 32) (remapBoundary b (compositionBoundary b s1))

/-! ## Frame boundary (R43 item 1) -/

/-- Epoch increments; it is the shadow's value plus 1, or 0 after a POR, at the first frame (R53, R55), and a value taken
from the ring where one waits (R462). -/
def nextEpoch (s : State) : State :=
  match s.caravan.adopt with
  | some e => adoptEpoch e { s with
      scan := { s.scan with firstFrame := false }, caravan := { s.caravan with adopt := none } }
  | none => { s with scan := { s.scan with
      epoch := if s.scan.firstFrame then s.scan.epoch else s.scan.epoch + 1, firstFrame := false } }

/-- The links announce a coming frame rate in the frame before it (R52, R205). -/
def announceRate (s : State) : State :=
  match s.scan.rateNext.find? fun x => x.2 == 1 with
  | some x =>
    Port.all.foldl (fun s p =>
      (if portServing s p then ctrl p 2 (setRatePayload x.1 (s.scan.epoch + 1)) s else s)) s
  | none => s

/-- The values that a frame boundary puts in force: scan settings (R51, R52), Toll state (R319), exposure windows
(R166) and ShadeSource (R123). -/
def latchSettings (s : State) : State :=
  { s with
    scan := stepRate (applyRef (writtenRef s) s.scan)
    toll := { s.toll with state := s.toll.stateNext }
    drive := { s.drive with
      windows := (List.range 4).map fun i => BitVec.ofNat 32 (cfg s 0x4400 (i + 1))
      darkPixels := s.drive.repairs.map (·.2) }
    shade := { s.shade with source := cfg s 0x3300 1 } }

/-- Background work that the Toll state of the frame that ends or of the one that begins does not admit (R321): the
windows of the full-scale regression and the calibration step in progress are discarded. -/
def discardPaused (s : State) : State :=
  if s.toll.state ≤ 1 ∧ s.toll.stateNext ≤ 1 then s
  else endCalStep { s with drive := { s.drive with fullScale := s.drive.fullScale.map fun _ f => clearWindow f } }

/-- A calibration divergence is handled (R175, R362): the CP restores the last good correction of every frozen port and
rebuilds its step table. -/
def restoreDivergence (s : State) : State :=
  if cpReady s && s.faults.active.any fun a => a.kind == 0x42 && a.timing then
    handleKind 0x42 ((Port.all.filter fun p => (s.drive.fullScale.get p).frozen).foldl (fun s p =>
      rebuildSteps p (onFullScale p (fun f => { f with correction := f.lastGood }) s)) s)
  else s

/-- The CP, where it runs, has written the map words that waited for it (R359). -/
def repairBoundary (s : State) : State := if cpReady s then repairPixels s else s

/-- What is noted once in a frame begins anew. -/
def clearFrameMarks (s : State) : State :=
  { s with
    compose := { s.compose with mismatched := [] }
    headroom := s.headroom.map fun _ h => { h with lowFrame := false } }

/-- Diagnostic values in force from this frame on (R346). -/
def frameLimits (s : State) (p : Port) : Table :=
  (List.range 6).foldl (fun t k =>
    tablePut (defaultOf s (0xB100 + p.num) (0x10 + k)) (0x10 + k) (cfg s (0xB100 + p.num) (0x10 + k)) t) []

/-- The pixel checks of a port at a frame boundary (R325, R328, R338). -/
def framePixels (epoch : BitVec 32) (limits : Table) (x : PixelCheck) : PixelCheck :=
  { x with
    limits := limits
    stormFrame := false
    echoRun := if x.echoFrame then x.echoRun else 0
    echoFrame := false
    sweepPhase := (x.sweepPhase + 1) % 64
    windows := x.windows.filter fun w => decide ((w.frame - epoch).toNat < 2 ^ 31) }

/-- The array has its diagnostic registers from the bring-up: it serves, or step 7 has been reached (R323). -/
def registersWritten (s : State) (p : Port) : Bool :=
  portServing s p || ((s.link.get p).state == .bringUp && decide (7 ≤ (s.link.get p).step))

/-- The array registers that follow a changed setting (R323, R325, R327). -/
def writeChanged (p : Port) (old : State) (s : State) : State :=
  if !registersWritten s p then s
  else
    let s1 := if compWindow s p = compWindow old p then s else writeReg p 0x60 (compWindow s p) s
    let s2 := if limitOf s p 0x12 = limitOf old p 0x12 then s1 else writeReg p 0x64 (limitOf s p 0x12 / 2) s1
    let x := s.pixels.get p
    if x.litSample = (s.toll.state != 3) ∧ x.sweepPhase = s.scan.epoch.toNat % 64 then s2
    else
      onPixels p (fun x => { x with litSample := s.toll.state != 3, sweepPhase := s.scan.epoch.toNat % 64 })
        (writeReg p 0x70 (sweepControl s s.scan.epoch) s2)

/-- The diagnostics of every port at a frame boundary. -/
def diagnosticBoundary (s : State) : State :=
  let s1 := { s with
    pixels := s.pixels.map fun p x => framePixels s.scan.epoch (frameLimits s p) x
    checker := { s.checker with
      judged := s.checker.judged.filter fun t => isSampled s s.scan.epoch (Port.ofNum (t / 512)) t } }
  let s2 := Port.all.foldl (fun x p => writeChanged p s x) s1
  if cpReady s2 then concealAll s2 else s2

/-- The ports at a frame boundary: STARTs take effect (R214, R218), and half-rate frames count (R221). -/
def portBoundary (s : State) : State :=
  let s1 := Port.all.foldl (fun s p => enterService p s) s
  { s1 with link := s1.link.map fun _ l =>
      if l.state = .halfRate then
        { l with counts := { l.counts with halfRateFrames := count32 l.counts.halfRateFrames } }
      else l }

/-- The ceiling at a frame boundary (R130, R131, R335): what was written takes effect, the table's CRC is checked, and a
record whose pixel has left SF1 is cleared. -/
def frameCeiling (badLut : Bool) (s : State) : State :=
  let s1 := ceilingBoundary s
  clearByCeiling (if badLut then badTable s1 else s1)

/-- The safe beam's excluded pixels follow the calibration map once it is loaded (R29). -/
def frameExcluded (s : State) : State :=
  if s.manifest.calLoaded then
    { s with safeBeam := { s.safeBeam with
        excluded := (s.drive.calMap.filter fun e => wordExcluded e.2).map (·.1) } }
  else s

/-- The blanking of a safe state ends where every row shows the safe beam (R360), and the enables that may rise do (R224,
R380). -/
def frameEnables (s : State) : State :=
  releaseWakeVotes (raiseEnables (endBlanking s))

/-- FRAME_BOUNDARY (R43 item 1). -/
def frameBoundary (badLut : Bool) (s : State) : State :=
  let s0 := nextEpoch (endScanned (Port.all.foldl (fun s p => pairSamples p s) s))
  let s1 := latchSettings (repairBoundary (discardPaused (restoreDivergence
    (modeBoundary (decayActive (almanacBoundary s0))))))
  let s2 := frameExcluded (frameCeiling badLut (warpBoundary (pinBoundary (clearFrameMarks s1))))
  let s3 := diagnosticBoundary (announceRate (portBoundary (queueBoundary s2)))
  let s4 := returnComposed (endSafeUntilCommit s3)
  sendShadow (activationBoundary (frameEnables s4))

/-! ## The eighth (R40, R42, R43) -/

/-- The eighth under way ends and the position advances (R42, R54); the first eighth of a power-up begins the scan at
position 0. -/
def endEighth (s : State) : State :=
  if s.scan.running then
    let s1 := advanceClocks s.scan.clocks s
    { s1 with scan := advancePos s1.scan }
  else { s with
    drive := { s.drive with nextSeed := BitVec.ofNat 8 (seedAhead s 0).2 }
    scan := { s.scan with
      running := true
      pos := 0
      phi := 0
      period := if s.scan.period = 0 then periodOf s.scan.rate s.scan.delta else s.scan.period } }

/-- The boundaries of a position, in the order of R43. -/
def boundaries (badLut : Bool) (s : State) : State :=
  let pos := s.scan.pos.toNat
  let s1 := if pos = 0 then frameBoundary badLut s else s
  let s2 := { s1 with scan := nextEighth s1.scan, almanac := countPulse s1.almanac }
  runAlmanac (if pos % 128 = 0 then bandBoundary (pos / 128) s2 else s2)

/-- The line and the sub-period that a position begins (R141, R165, R199). -/
def lineAndSeed (before s : State) : State :=
  let pos := s.scan.pos.toNat
  let s1 := if pos % 256 = 0 then subPeriodStart s else s
  let s2 := if pos % 8 = 0 then lineStart before s1 else s1
  if pos % 128 = 32 then completeOlder s2 else s2

/-- EIGHTH_BOUNDARY (R40, R42, R43): an eighth ends, with the AON ticks counted in it, and the next begins. -/
def execEighthBoundary (leap : Nat) (badLut : Bool) (s : State) : Host.Outcome State Fault Refusal :=
  let s0 := countLeap leap s
  .next (if isOn s .link && isOn s .pix && isOn s .core && !inReset s then
    let s1 := endEighth s0
    let s2 := if s1.scan.pos.toNat % 8 = 0 then openLine s1 else s1
    lineAndSeed s0 (boundaries badLut s2)
  else s0)

end Sys2Proof.Machine
end

