-- ==== Sys2Proof/Machine/Dispatch.lean ====
section
/-!
DEFINITION. Dispatch.lean: which meaning each command has.
-/

namespace Sys2Proof.Machine

open Sys2Proof

/-- The effect of a command on everything but the queue. -/
def exec (i : Instr) (s : State) : Host.Outcome State Fault Refusal :=
  match i with
  | .porAssert => Sys2Proof.Machine.execPorAssert s
  | .porRelease sameCycle => Sys2Proof.Machine.execPorRelease sameCycle s
  | .resetNAssert => Sys2Proof.Machine.execResetNAssert s
  | .resetNRelease sameCycle leap => Sys2Proof.Machine.execResetNRelease sameCycle leap s
  | .optionLoadCommit strap => Sys2Proof.Machine.execOptionLoadCommit strap s
  | .domainPowerDownStart d => Sys2Proof.Machine.execDomainPowerDownStart d s
  | .domainMinOffEnd d => Sys2Proof.Machine.execDomainMinOffEnd d s
  | .domainPowerUpDone d leap => Sys2Proof.Machine.execDomainPowerUpDone d leap s
  | .cpBootDone reads => Sys2Proof.Machine.execCpBootDone reads s
  | .smStartChecksDone reads => Sys2Proof.Machine.execSmStartChecksDone reads s
  | .smRebootDone reads => Sys2Proof.Machine.execSmRebootDone reads s
  | .lsBootDone p reads => Sys2Proof.Machine.execLsBootDone p reads s
  | .ctrlAckTimeout p => Sys2Proof.Machine.execCtrlAckTimeout p s
  | .dramTrainingDone => Sys2Proof.Machine.execDramTrainingDone s
  | .fullService load => Sys2Proof.Machine.execFullService load s
  | .wakeRecognised leap => Sys2Proof.Machine.execWakeRecognised leap s
  | .hostVoteWrite via data => Sys2Proof.Machine.execHostVoteWrite via data s
  | .stopEntryTasksDone => Sys2Proof.Machine.execStopEntryTasksDone s
  | .supplyWarning supply => Sys2Proof.Machine.execSupplyWarning supply s
  | .supplyOutOfWindow supply => Sys2Proof.Machine.execSupplyOutOfWindow supply s
  | .coreSupplyWaitTimeout => Sys2Proof.Machine.execCoreSupplyWaitTimeout s
  | .clockFallback => Sys2Proof.Machine.execClockFallback s
  | .ddbReadRequest die frame => Sys2Proof.Machine.execDdbReadRequest die frame s
  | .ddbReadResponse die frame => Sys2Proof.Machine.execDdbReadResponse die frame s
  | .ddbWrite die frame => Sys2Proof.Machine.execDdbWrite die frame s
  | .ddbWriteAcknowledge die frame => Sys2Proof.Machine.execDdbWriteAcknowledge die frame s
  | .ddbWaybill die frame => Sys2Proof.Machine.execDdbWaybill die frame s
  | .ddbEvent die frame => Sys2Proof.Machine.execDdbEvent die frame s
  | .ddbNegativeAcknowledge die nak => Sys2Proof.Machine.execDdbNegativeAcknowledge die nak s
  | .ddbSilenceTimeout die => Sys2Proof.Machine.execDdbSilenceTimeout die s
  | .eighthBoundary leap badLut => Sys2Proof.Machine.execEighthBoundary leap badLut s
  | .syncOutPulseEnd => Sys2Proof.Machine.execSyncOutPulseEnd s
  | .sampleHkConversionDone raw => Sys2Proof.Machine.execSampleHkConversionDone raw s
  | .almanacReloadDone firmware => Sys2Proof.Machine.execAlmanacReloadDone firmware s
  | .almanacOneshotJournalRetry => Sys2Proof.Machine.execAlmanacOneshotJournalRetry s
  | .almanacMaskRestart via data => Sys2Proof.Machine.execAlmanacMaskRestart via data s
  | .syncInEdge rising fraction => Sys2Proof.Machine.execSyncInEdge rising fraction s
  | .uhlTimeSync lane packet fraction => Sys2Proof.Machine.execUhlTimeSync lane packet fraction s
  | .referenceHoldover => Sys2Proof.Machine.execReferenceHoldover s
  | .referencePrimaryReturn => Sys2Proof.Machine.execReferencePrimaryReturn s
  | .frameRateWrite via data => Sys2Proof.Machine.execFrameRateWrite via data s
  | .rcMeasureWindow count => Sys2Proof.Machine.execRcMeasureWindow count s
  | .leapWrapped => Sys2Proof.Machine.execLeapWrapped s
  | .tileDecodeDone p layer tile flaws => Sys2Proof.Machine.execTileDecodeDone p layer tile flaws s
  | .tileRefetchDone p layer tile flaws => Sys2Proof.Machine.execTileRefetchDone p layer tile flaws s
  | .tileLateTimeout p layer tile => Sys2Proof.Machine.execTileLateTimeout p layer tile s
  | .surfacePin via surface => Sys2Proof.Machine.execSurfacePin via surface s
  | .surfaceUnpin via surface => Sys2Proof.Machine.execSurfaceUnpin via surface s
  | .pinCopyDone surface => Sys2Proof.Machine.execPinCopyDone surface s
  | .warpMeshWrite via p data => Sys2Proof.Machine.execWarpMeshWrite via p data s
  | .meshInversionDone p => Sys2Proof.Machine.execMeshInversionDone p s
  | .plannerRecomputeDone => Sys2Proof.Machine.execPlannerRecomputeDone s
  | .manifestCommit via data => Sys2Proof.Machine.execManifestCommit via data s
  | .manifestRefillDone => Sys2Proof.Machine.execManifestRefillDone s
  | .shadeSwapRequest via data => Sys2Proof.Machine.execShadeSwapRequest via data s
  | .stagedBankRefillDone => Sys2Proof.Machine.execStagedBankRefillDone s
  | .shadeStale => Sys2Proof.Machine.execShadeStale s
  | .compositionModeWrite via data => Sys2Proof.Machine.execCompositionModeWrite via data s
  | .zoneRowStagingDone p zoneRow badCells => Sys2Proof.Machine.execZoneRowStagingDone p zoneRow badCells s
  | .tileComposed p row col lower badCell => Sys2Proof.Machine.execTileComposed p row col lower badCell s
  | .ceilingMapReloadDone => Sys2Proof.Machine.execCeilingMapReloadDone s
  | .scanOutTileCheck p row col lower flaws => Sys2Proof.Machine.execScanOutTileCheck p row col lower flaws s
  | .frameCompositionDone => Sys2Proof.Machine.execFrameCompositionDone s
  | .composerStall => Sys2Proof.Machine.execComposerStall s
  | .composerRestartDone => Sys2Proof.Machine.execComposerRestartDone s
  | .tollComputationDone => Sys2Proof.Machine.execTollComputationDone s
  | .ageAveragingPeriod => Sys2Proof.Machine.execAgeAveragingPeriod s
  | .ageWriteback => Sys2Proof.Machine.execAgeWriteback s
  | .fullScaleEstimate p => Sys2Proof.Machine.execFullScaleEstimate p s
  | .housekeepingSlot raw ld leap => Sys2Proof.Machine.execHousekeepingSlot raw ld leap s
  | .portSupplyInsufficient p => Sys2Proof.Machine.execPortSupplyInsufficient p s
  | .sensorDisqualify sensor => Sys2Proof.Machine.execSensorDisqualify sensor s
  | .dieShutdownDecision die => Sys2Proof.Machine.execDieShutdownDecision die s
  | .dieRestart die => Sys2Proof.Machine.execDieRestart die s
  | .thermalStateFall loc => Sys2Proof.Machine.execThermalStateFall loc s
  | .arrayThermalShutdown p => Sys2Proof.Machine.execArrayThermalShutdown p s
  | .arrayRestart p => Sys2Proof.Machine.execArrayRestart p s
  | .referenceDisagreement => Sys2Proof.Machine.execReferenceDisagreement s
  | .arraySensorDisqualify p quadrant => Sys2Proof.Machine.execArraySensorDisqualify p quadrant s
  | .tollModelDivergence p => Sys2Proof.Machine.execTollModelDivergence p s
  | .modelDivergenceClear p => Sys2Proof.Machine.execModelDivergenceClear p s
  | .bandStatus p packet => Sys2Proof.Machine.execBandStatus p packet s
  | .vfSample p packet => Sys2Proof.Machine.execVfSample p packet s
  | .temp p packet => Sys2Proof.Machine.execTemp p packet s
  | .ack p packet => Sys2Proof.Machine.execAck p packet s
  | .laneFail p packet => Sys2Proof.Machine.execLaneFail p packet s
  | .holdExpired p packet => Sys2Proof.Machine.execHoldExpired p packet s
  | .laneTxFault p lane => Sys2Proof.Machine.execLaneTxFault p lane s
  | .returnLaneLost p => Sys2Proof.Machine.execReturnLaneLost p s
  | .returnLaneGraceExpiry p => Sys2Proof.Machine.execReturnLaneGraceExpiry p s
  | .returnReceiverRetrained p => Sys2Proof.Machine.execReturnReceiverRetrained p s
  | .bandStatusMissed p band => Sys2Proof.Machine.execBandStatusMissed p band s
  | .laneRetrain p lane => Sys2Proof.Machine.execLaneRetrain p lane s
  | .laneRetrainDone p lane errors => Sys2Proof.Machine.execLaneRetrainDone p lane errors s
  | .lsResumeTimeout p => Sys2Proof.Machine.execLsResumeTimeout p s
  | .portFltAssert p => Sys2Proof.Machine.execPortFltAssert p s
  | .confirmationStepStart p => Sys2Proof.Machine.execConfirmationStepStart p s
  | .emitterDisableClear via p data => Sys2Proof.Machine.execEmitterDisableClear via p data s
  | .portEchoReenable p => Sys2Proof.Machine.execPortEchoReenable p s
  | .smTileJudged tile flaws => Sys2Proof.Machine.execSmTileJudged tile flaws s
  | .uhlVideoLine lane packet => Sys2Proof.Machine.execUhlVideoLine lane packet s
  | .videoTileRowEncoded stream => Sys2Proof.Machine.execVideoTileRowEncoded stream s
  | .videoPictureComplete stream => Sys2Proof.Machine.execVideoPictureComplete stream s
  | .videoStreamBind via stream data => Sys2Proof.Machine.execVideoStreamBind via stream data s
  | .uhlShadeList lane packet => Sys2Proof.Machine.execUhlShadeList lane packet s
  | .uhlManifestCommit lane packet => Sys2Proof.Machine.execUhlManifestCommit lane packet s
  | .uhlOdWrite lane packet => Sys2Proof.Machine.execUhlOdWrite lane packet s
  | .odWriteApply => Sys2Proof.Machine.execOdWriteApply s
  | .hostLaneTrained lane => Sys2Proof.Machine.execHostLaneTrained lane s
  | .hostLaneFail report => Sys2Proof.Machine.execHostLaneFail report s
  | .hostLaneRetrain lane => Sys2Proof.Machine.execHostLaneRetrain lane s
  | .controlLaneChange => Sys2Proof.Machine.execControlLaneChange s
  | .hostIrqClear via data => Sys2Proof.Machine.execHostIrqClear via data s
  | .shpRead frame => Sys2Proof.Machine.execShpRead frame s
  | .shpWrite frame => Sys2Proof.Machine.execShpWrite frame s
  | .shpPoll frame => Sys2Proof.Machine.execShpPoll frame s
  | .shpBurstRead frame => Sys2Proof.Machine.execShpBurstRead frame s
  | .shpBurstWrite frame => Sys2Proof.Machine.execShpBurstWrite frame s
  | .dictionaryRequestDone shp => Sys2Proof.Machine.execDictionaryRequestDone shp s
  | .odObjectWrite via index sub data => Sys2Proof.Machine.execOdObjectWrite via index sub data s
  | .canSingleFrame frame => Sys2Proof.Machine.execCanSingleFrame frame s
  | .canFirstFrame frame => Sys2Proof.Machine.execCanFirstFrame frame s
  | .canConsecutiveFrame frame => Sys2Proof.Machine.execCanConsecutiveFrame frame s
  | .canAbortFrame frame => Sys2Proof.Machine.execCanAbortFrame frame s
  | .canTransferTimeout bus => Sys2Proof.Machine.execCanTransferTimeout bus s
  | .canBusOff bus => Sys2Proof.Machine.execCanBusOff bus s
  | .sbpSetPointer index sub crc => Sys2Proof.Machine.execSbpSetPointer index sub crc s
  | .sbpWrite index sub data crc => Sys2Proof.Machine.execSbpWrite index sub data crc s
  | .sbpRead => Sys2Proof.Machine.execSbpRead s
  | .sbpFetchDone => Sys2Proof.Machine.execSbpFetchDone s
  | .sbpWakeMatch leap => Sys2Proof.Machine.execSbpWakeMatch leap s
  | .hostLinkLoss => Sys2Proof.Machine.execHostLinkLoss s
  | .sessionChallenge via => Sys2Proof.Machine.execSessionChallenge via s
  | .sessionResponse via data => Sys2Proof.Machine.execSessionResponse via data s
  | .sessionClose via data => Sys2Proof.Machine.execSessionClose via data s
  | .sessionIdleTimeout => Sys2Proof.Machine.execSessionIdleTimeout s
  | .challengeLockoutEnd => Sys2Proof.Machine.execChallengeLockoutEnd s
  | .commissionerKeyWrite via data => Sys2Proof.Machine.execCommissionerKeyWrite via data s
  | .restoreDefaultsCustomer via => Sys2Proof.Machine.execRestoreDefaultsCustomer via s
  | .restoreDefaultsSafety via => Sys2Proof.Machine.execRestoreDefaultsSafety via s
  | .journalRecordCommitted first retry => Sys2Proof.Machine.execJournalRecordCommitted first retry s
  | .journalScanDone => Sys2Proof.Machine.execJournalScanDone s
  | .journalCompactionDone => Sys2Proof.Machine.execJournalCompactionDone s
  | .journalBudgetRefill => Sys2Proof.Machine.execJournalBudgetRefill s
  | .optionBlockImageWrite via data => Sys2Proof.Machine.execOptionBlockImageWrite via data s
  | .optionImageProgrammed => Sys2Proof.Machine.execOptionImageProgrammed s
  | .blockAck via unit data => Sys2Proof.Machine.execBlockAck via unit data s
  | .faultLatchClear via data => Sys2Proof.Machine.execFaultLatchClear via data s
  | .statusMapRowSelect via p data => Sys2Proof.Machine.execStatusMapRowSelect via p data s
  | .statusMapSnapshotDone p => Sys2Proof.Machine.execStatusMapSnapshotDone p s
  | .dramErrorRateWindow corrected => Sys2Proof.Machine.execDramErrorRateWindow corrected s
  | .waybillAckTimeout unit => Sys2Proof.Machine.execWaybillAckTimeout unit s
  | .escalationExpiry kind p => Sys2Proof.Machine.execEscalationExpiry kind p s
  | .holdSafeBeamTimeout => Sys2Proof.Machine.execHoldSafeBeamTimeout s
  | .quietPeriodEnd kind unit => Sys2Proof.Machine.execQuietPeriodEnd kind unit s
  | .faultNPulseEnd => Sys2Proof.Machine.execFaultNPulseEnd s
  | .cpWatchdogExpiry => Sys2Proof.Machine.execCpWatchdogExpiry s
  | .smWatchdogExpiry => Sys2Proof.Machine.execSmWatchdogExpiry s
  | .lsWatchdogExpiry p => Sys2Proof.Machine.execLsWatchdogExpiry p s
  | .dramFailure => Sys2Proof.Machine.execDramFailure s
  | .dramReadTimeout => Sys2Proof.Machine.execDramReadTimeout s
  | .dramRetrainDone => Sys2Proof.Machine.execDramRetrainDone s
  | .sramUncorrectable region => Sys2Proof.Machine.execSramUncorrectable region s
  | .safeBeamCopyDone => Sys2Proof.Machine.execSafeBeamCopyDone s
  | .blackBoxCommitDone verified => Sys2Proof.Machine.execBlackBoxCommitDone verified s
  | .commitAllowanceRefill => Sys2Proof.Machine.execCommitAllowanceRefill s
  | .beamReqChange a b => Sys2Proof.Machine.execBeamReqChange a b s
  | .beamReqDiscrepancy => Sys2Proof.Machine.execBeamReqDiscrepancy s
  | .discrepancyExit => Sys2Proof.Machine.execDiscrepancyExit s
  | .safeOutTest highAt2 highAt4 demand => Sys2Proof.Machine.execSafeOutTest highAt2 highAt4 demand s
  | .commissioningCheckComputed => Sys2Proof.Machine.execCommissioningCheckComputed s
  | .commissioningCheckConfirm via data => Sys2Proof.Machine.execCommissioningCheckConfirm via data s
  | .sinkPeriodBoundary group => Sys2Proof.Machine.execSinkPeriodBoundary group s
  | .sinkOpenProbe channel pin => Sys2Proof.Machine.execSinkOpenProbe channel pin s
  | .sinkShortTrip trip => Sys2Proof.Machine.execSinkShortTrip trip s
  | .sinkShortRetry channel pin => Sys2Proof.Machine.execSinkShortRetry channel pin s
  | .channelRetryClear via channel data pin => Sys2Proof.Machine.execChannelRetryClear via channel data pin s
  | .sinkNeighbourTest channel pin => Sys2Proof.Machine.execSinkNeighbourTest channel pin s
  | .sinkHeadroomCycleEnd group => Sys2Proof.Machine.execSinkHeadroomCycleEnd group s
  | .sinkGroupShutdown group => Sys2Proof.Machine.execSinkGroupShutdown group s
  | .sinkGroupRestart group => Sys2Proof.Machine.execSinkGroupRestart group s
  | .caravanFrameSend fraction => Sys2Proof.Machine.execCaravanFrameSend fraction s
  | .caravanFrameReceived frame => Sys2Proof.Machine.execCaravanFrameReceived frame s
  | .caravanDictionaryRequest m => Sys2Proof.Machine.execCaravanDictionaryRequest m s
  | .caravanDictionaryResponse m => Sys2Proof.Machine.execCaravanDictionaryResponse m s
  | .caravanWaybill m => Sys2Proof.Machine.execCaravanWaybill m s
  | .caravanImageStream m => Sys2Proof.Machine.execCaravanImageStream m s
  | .caravanStreamCredit m => Sys2Proof.Machine.execCaravanStreamCredit m s
  | .caravanAnnounce m => Sys2Proof.Machine.execCaravanAnnounce m s
  | .caravanMessageTimeout source => Sys2Proof.Machine.execCaravanMessageTimeout source s
  | .caravanRingBreak => Sys2Proof.Machine.execCaravanRingBreak s
  | .caravanTokenLost => Sys2Proof.Machine.execCaravanTokenLost s
  | .caravanClosing => Sys2Proof.Machine.execCaravanClosing s
  | .caravanRelayTimeout => Sys2Proof.Machine.execCaravanRelayTimeout s
  | .caravanVoteRelease => Sys2Proof.Machine.execCaravanVoteRelease s
  | .svcOpen frame => Sys2Proof.Machine.execSvcOpen frame s
  | .slotEraseDone => Sys2Proof.Machine.execSlotEraseDone s
  | .svcWrite frame => Sys2Proof.Machine.execSvcWrite frame s
  | .svcFinish frame => Sys2Proof.Machine.execSvcFinish frame s
  | .svcActivate frame => Sys2Proof.Machine.execSvcActivate frame s
  | .programStoreCopyDone => Sys2Proof.Machine.execProgramStoreCopyDone s
  | .svcStatus frame => Sys2Proof.Machine.execSvcStatus frame s
  | .svcClose frame => Sys2Proof.Machine.execSvcClose frame s
  | .svcSetRate frame => Sys2Proof.Machine.execSvcSetRate frame s
  | .svcRelaySelect frame => Sys2Proof.Machine.execSvcRelaySelect frame s
  | .svcIdleTimeout => Sys2Proof.Machine.execSvcIdleTimeout s
  | .svcEnRise => Sys2Proof.Machine.execSvcEnRise s
  | .lifeCycleMakerToken via data => Sys2Proof.Machine.execLifeCycleMakerToken via data s
  | .lifeCycleCustomerToken via data => Sys2Proof.Machine.execLifeCycleCustomerToken via data s
  | .lifeCycleConsentToken via data => Sys2Proof.Machine.execLifeCycleConsentToken via data s
  | .consentExpiry => Sys2Proof.Machine.execConsentExpiry s
  | .safeBeamAreaBlockWrite via block data => Sys2Proof.Machine.execSafeBeamAreaBlockWrite via block data s
  | .safeBeamAreaCommit via data => Sys2Proof.Machine.execSafeBeamAreaCommit via data s
  | .safeBeamAreaProgrammed readBack => Sys2Proof.Machine.execSafeBeamAreaProgrammed readBack s
  | .ddbIdleFrame die frame => Sys2Proof.Machine.execDdbIdleFrame die frame s
  | .cpInterruptAcknowledge unit => Sys2Proof.Machine.execCpInterruptAcknowledge unit s
  | .calibrationStepDone => Sys2Proof.Machine.execCalibrationStepDone s
  | .portFltRelease p => Sys2Proof.Machine.execPortFltRelease p s
  | .svcEnFall => Sys2Proof.Machine.execSvcEnFall s
  | .caravanSessionIdleTimeout => Sys2Proof.Machine.execCaravanSessionIdleTimeout s
  | .relaySelectTimeout => Sys2Proof.Machine.execRelaySelectTimeout s

end Sys2Proof.Machine
end

