-- ==== Sys2Proof/Safety.lean ====
section
/-!
DEFINITION. Safety.lean: what counts as a safe state of the block, and what an operation may change, in the terms the
statements use.
-/

namespace Sys2Proof.Machine

open Sys2Proof

/-- Every entry of the black box ring has one of the 512 places of the ring (R366). -/
def ringPlaced (s : State) : Bool := s.aon.ring.all fun e => decide (e.1 < 512)

/-- In the dark safe state no port emits: PORTx_EN is low on all four (R360). -/
def darkIsDark (s : State) : Bool :=
  s.faults.safeState != .dark || Port.all.all fun p => !(s.link.get p).enable

/-- What holds in every state of the block: DRAM is in its canonical form, the black box ring has 512 places (R366), at
most four commits stand allowed (R371), at most 65,536 bytes of journal budget (R492), at most 16 SAMPLE_HK requests
wait (R295), and the dark safe state holds every PORTx_EN low (R360). -/
def Invariant (s : State) : Prop :=
  Memory.wf s.dram = true ∧ ringPlaced s = true ∧ s.aon.commitAllowance ≤ 4 ∧ s.aon.journalBudget ≤ 65536
    ∧ s.hk.queue.length ≤ 16 ∧ darkIsDark s = true

/-! ## Votes -/

/-- A domain begins to power up: it is voteable and off, a vote holds it, nothing forces it off, and the domain that it
depends on is on (R14, R437). -/
def rises (s : State) (d : Domain) : Bool :=
  voteable.contains d && domainState s d == .off && heldByVote s.power.votes d && !forcedOff s d
    && (dependsOn d).all fun q => isOn s q

/-! ## What an operation may change -/

/-- A port's link with what HOLD, START and PORTx_EN change taken from another (R218, R224). -/
def signalled (new old : LinkPort) : LinkPort :=
  { old with
    enable := new.enable, holdSent := new.holdSent, holdDue := new.holdDue, startAt := new.startAt
    sequence := new.sequence, ctrls := new.ctrls, deferred := new.deferred, sent := new.sent }

/-- Only what raising or ending a fault kind may change has changed (R348 to R371): the black box ring and its commit,
the Waybill sequence and the Waybills queued or sent, the recovery records, the fault state, the draws of free values,
and on the ports PORTx_EN and what a HOLD or a START sends. -/
def OnlyFaultParts (s t : State) : Prop :=
  t = { s with
    aon := { s.aon with
      ring := t.aon.ring, newest := t.aon.newest, waybillSequence := t.aon.waybillSequence
      recoveries := t.aon.recoveries, commitAllowance := t.aon.commitAllowance
      commitSkipped := t.aon.commitSkipped }
    caravan := { s.caravan with waybills := t.caravan.waybills, dropped := t.caravan.dropped }
    faults := t.faults
    free := t.free
    host := { s.host with canOut := t.host.canOut }
    journal := { s.journal with
      commit := t.journal.commit, commitNewest := t.journal.commitNewest, commitNext := t.journal.commitNext }
    link := s.link.map fun p l => signalled (t.link.get p) l
    nvm := { s.nvm with boxArea := t.nvm.boxArea, boxGood := t.nvm.boxGood } }

/-- Kind `k` of unit `u` has been raised on `s` and nothing else has happened: a kind with an exit is active, and only
the fault parts differ (R348). -/
def Raised (k u : Nat) (s t : State) : Prop := isActive t k u = true ∧ OnlyFaultParts s t

/-- An event kind of unit `u` has been raised on `s` and nothing else has happened: its KindBit is set, and only the
fault parts differ (R348, R349). -/
def Noted (k u : Nat) (s t : State) : Prop :=
  (blockOf t u).bits.getLsbD (kindBit u k) = true ∧ OnlyFaultParts s t

/-! ## What a command may change -/

/-- The parts of the state: its fields. -/
inductive Part where
  | variant | aon | power | units | scan | leap | almanac | dict | access | fetch | warp | manifest | shade |
  ceiling | safeBeam | compose | drive | headroom | link | pixels | checker | hk | toll | faults | safety | host |
  sinks | caravan | update | journal | nvm | dram | dramCorrected | dramRate | sramCorrected | free | pending
  deriving DecidableEq, Repr

/-- Every part. -/
def Part.every : List Part :=
  [.variant, .aon, .power, .units, .scan, .leap, .almanac, .dict, .access, .fetch, .warp, .manifest, .shade,
   .ceiling, .safeBeam, .compose, .drive, .headroom, .link, .pixels, .checker, .hk, .toll, .faults, .safety, .host,
   .sinks, .caravan, .update, .journal, .nvm, .dram, .dramCorrected, .dramRate, .sramCorrected, .free, .pending]

/-- Every part but these. -/
def allBut (ps : List Part) : List Part := Part.every.filter fun p => !ps.contains p

/-- The parts that raising or ending a fault kind may change (R348 to R371). -/
def raiseParts : List Part := [.aon, .link, .faults, .host, .caravan, .journal, .nvm, .free]

/-- The part is the same in two states. -/
def SamePart (p : Part) (s t : State) : Prop :=
  match p with
  | .variant => t.variant = s.variant
  | .aon => t.aon = s.aon
  | .power => t.power = s.power
  | .units => t.units = s.units
  | .scan => t.scan = s.scan
  | .leap => t.leap = s.leap
  | .almanac => t.almanac = s.almanac
  | .dict => t.dict = s.dict
  | .access => t.access = s.access
  | .fetch => t.fetch = s.fetch
  | .warp => t.warp = s.warp
  | .manifest => t.manifest = s.manifest
  | .shade => t.shade = s.shade
  | .ceiling => t.ceiling = s.ceiling
  | .safeBeam => t.safeBeam = s.safeBeam
  | .compose => t.compose = s.compose
  | .drive => t.drive = s.drive
  | .headroom => t.headroom = s.headroom
  | .link => t.link = s.link
  | .pixels => t.pixels = s.pixels
  | .checker => t.checker = s.checker
  | .hk => t.hk = s.hk
  | .toll => t.toll = s.toll
  | .faults => t.faults = s.faults
  | .safety => t.safety = s.safety
  | .host => t.host = s.host
  | .sinks => t.sinks = s.sinks
  | .caravan => t.caravan = s.caravan
  | .update => t.update = s.update
  | .journal => t.journal = s.journal
  | .nvm => t.nvm = s.nvm
  | .dram => t.dram = s.dram
  | .dramCorrected => t.dramCorrected = s.dramCorrected
  | .dramRate => t.dramRate = s.dramRate
  | .sramCorrected => t.sramCorrected = s.sramCorrected
  | .free => t.free = s.free
  | .pending => t.pending = s.pending

/-- The parts that a command may change: every other part stays as it is, whatever the state. -/
def touches (c : Instr) : List Part :=
  match c with
  | .porAssert | .resetNAssert => allBut [.variant, .free, .pending]
  | .porRelease .. | .resetNRelease .. => [.aon, .power, .units, .hk, .sinks]
  | .optionLoadCommit .. | .supplyWarning .. | .coreSupplyWaitTimeout => [.power] ++ raiseParts
  | .domainPowerDownStart .. | .cpBootDone .. | .lsBootDone .. | .fullService .. | .hostVoteWrite ..
  | .stopEntryTasksDone | .supplyOutOfWindow .. | .eighthBoundary .. | .almanacMaskRestart ..
  | .frameRateWrite .. | .surfacePin .. | .surfaceUnpin .. | .warpMeshWrite .. | .manifestCommit ..
  | .shadeSwapRequest .. | .compositionModeWrite .. | .housekeepingSlot .. | .dieShutdownDecision ..
  | .dieRestart .. | .emitterDisableClear .. | .videoStreamBind .. | .odWriteApply | .hostIrqClear ..
  | .dictionaryRequestDone .. | .odObjectWrite .. | .canSingleFrame .. | .sbpWrite .. | .sessionResponse ..
  | .sessionClose .. | .commissionerKeyWrite .. | .restoreDefaultsCustomer .. | .restoreDefaultsSafety ..
  | .journalRecordCommitted .. | .optionBlockImageWrite .. | .blockAck .. | .faultLatchClear ..
  | .statusMapRowSelect .. | .quietPeriodEnd .. | .cpWatchdogExpiry | .sramUncorrectable .. | .beamReqChange ..
  | .beamReqDiscrepancy | .discrepancyExit | .commissioningCheckConfirm .. | .caravanDictionaryRequest ..
  | .caravanDictionaryResponse .. | .caravanImageStream .. | .caravanRingBreak | .caravanTokenLost
  | .caravanClosing | .caravanRelayTimeout | .caravanVoteRelease | .svcOpen .. | .svcWrite .. | .svcFinish ..
  | .svcActivate .. | .programStoreCopyDone | .svcStatus .. | .svcClose .. | .svcSetRate .. | .svcRelaySelect ..
  | .lifeCycleMakerToken .. | .lifeCycleCustomerToken .. | .lifeCycleConsentToken ..
  | .safeBeamAreaBlockWrite .. | .safeBeamAreaCommit .. | .calibrationStepDone | .relaySelectTimeout =>
    allBut [.variant, .pending]
  | .domainMinOffEnd .. => [.power]
  | .domainPowerUpDone .. => allBut [.variant, .checker, .sramCorrected, .pending]
  | .smStartChecksDone .. | .smRebootDone .. => [.units, .ceiling, .safety, .update] ++ raiseParts
  | .ctrlAckTimeout .. | .ack .. | .portFltAssert .. => [.pixels, .toll] ++ raiseParts
  | .dramTrainingDone => [.units]
  | .wakeRecognised .. | .sbpWakeMatch .. => [.aon, .power, .link, .faults, .safety, .free]
  | .clockFallback => [.power, .scan] ++ raiseParts
  | .ddbReadRequest .. | .ddbReadResponse .. | .ddbWrite .. | .ddbWriteAcknowledge .. | .ddbWaybill ..
  | .ddbEvent .. | .returnReceiverRetrained .. | .escalationExpiry .. | .ddbIdleFrame .. | .portFltRelease .. =>
    [.aon, .link, .faults, .free]
  | .ddbNegativeAcknowledge .. | .ddbSilenceTimeout .. | .almanacOneshotJournalRetry
  | .portSupplyInsufficient .. | .referenceDisagreement | .laneFail .. | .laneTxFault .. | .returnLaneLost ..
  | .returnLaneGraceExpiry .. | .lsResumeTimeout .. | .hostLaneFail .. | .canBusOff .. | .hostLinkLoss
  | .blackBoxCommitDone .. => raiseParts
  | .syncOutPulseEnd | .almanacReloadDone .. => [.almanac]
  | .sampleHkConversionDone .. => [.hk]
  | .syncInEdge .. | .referenceHoldover | .caravanFrameReceived .. => [.scan] ++ raiseParts
  | .uhlTimeSync .. => [.scan, .manifest, .shade] ++ raiseParts
  | .referencePrimaryReturn => [.scan]
  | .rcMeasureWindow .. | .leapWrapped | .challengeLockoutEnd | .journalBudgetRefill | .commitAllowanceRefill =>
    [.aon]
  | .tileDecodeDone .. => [.fetch, .compose, .drive]
  | .tileRefetchDone .. | .tileLateTimeout .. => [.fetch, .compose, .drive] ++ raiseParts
  | .pinCopyDone .. => [.fetch, .faults]
  | .meshInversionDone .. => [.warp]
  | .plannerRecomputeDone | .manifestRefillDone => [.manifest]
  | .stagedBankRefillDone => [.aon, .shade, .link, .faults, .free]
  | .shadeStale => [.shade] ++ raiseParts
  | .zoneRowStagingDone .. =>
    [.fetch, .manifest, .shade, .ceiling, .compose, .drive, .headroom, .pixels, .toll] ++ raiseParts
  | .tileComposed .. => [.fetch, .shade, .ceiling, .compose, .drive, .pixels] ++ raiseParts
  | .ceilingMapReloadDone => [.aon, .ceiling, .link, .faults, .free]
  | .scanOutTileCheck .. => [.compose] ++ raiseParts
  | .frameCompositionDone => [.fetch, .compose, .drive, .toll]
  | .composerStall => [.units, .manifest, .compose] ++ raiseParts
  | .composerRestartDone => [.units, .manifest]
  | .tollComputationDone => [.toll]
  | .ageAveragingPeriod => [.drive, .pixels]
  | .ageWriteback => [.drive]
  | .fullScaleEstimate .. => [.compose, .drive] ++ raiseParts
  | .sensorDisqualify .. | .thermalStateFall .. | .arrayThermalShutdown .. | .arrayRestart .. => [.hk] ++ raiseParts
  | .arraySensorDisqualify .. | .tollModelDivergence .. => [.toll] ++ raiseParts
  | .modelDivergenceClear .. => [.aon, .link, .toll, .faults, .free]
  | .bandStatus .. => [.pixels] ++ raiseParts
  | .vfSample .. => [.drive, .pixels] ++ raiseParts
  | .temp .. => [.headroom, .pixels, .hk, .toll] ++ raiseParts
  | .holdExpired .. | .laneRetrain .. | .laneRetrainDone .. => [.link]
  | .bandStatusMissed .. | .statusMapSnapshotDone .. => [.pixels]
  | .confirmationStepStart .. => [.link, .pixels]
  | .portEchoReenable .. => [.aon, .link, .pixels, .faults, .nvm, .free]
  | .smTileJudged .. => [.checker] ++ raiseParts
  | .uhlVideoLine .. => [.aon, .dict, .link, .faults, .host, .dram, .free]
  | .videoTileRowEncoded .. => [.host, .dram, .free]
  | .videoPictureComplete .. => [.dict, .host]
  | .uhlShadeList .. | .uhlManifestCommit .. => [.aon, .scan, .manifest, .shade, .link, .faults, .host, .free]
  | .uhlOdWrite .. | .canFirstFrame .. | .canConsecutiveFrame .. | .canAbortFrame .. | .sbpSetPointer ..
  | .sbpRead => [.aon, .link, .faults, .host, .free]
  | .hostLaneTrained .. => [.host, .free]
  | .hostLaneRetrain .. => []
  | .controlLaneChange | .canTransferTimeout .. => [.host]
  | .shpRead .. | .shpWrite .. | .shpPoll .. | .shpBurstRead .. | .shpBurstWrite .. =>
    [.aon, .link, .faults, .host, .caravan, .journal, .free]
  | .sbpFetchDone | .sessionChallenge .. => [.access, .host, .caravan, .journal, .free]
  | .sessionIdleTimeout => [.access, .host]
  | .journalScanDone => [.dict, .host, .caravan, .journal, .nvm]
  | .journalCompactionDone => [.scan, .access, .manifest, .shade, .update] ++ raiseParts
  | .optionImageProgrammed => [.host, .caravan, .journal, .nvm]
  | .dramErrorRateWindow .. => [.dramCorrected, .dramRate, .sramCorrected] ++ raiseParts
  | .waybillAckTimeout .. => [.aon, .faults, .host, .caravan, .free]
  | .holdSafeBeamTimeout => [.link, .faults]
  | .faultNPulseEnd | .cpInterruptAcknowledge .. => [.faults]
  | .smWatchdogExpiry => [.units, .safety] ++ raiseParts
  | .lsWatchdogExpiry .. => [.units] ++ raiseParts
  | .dramFailure | .dramReadTimeout => [.units, .fetch] ++ raiseParts
  | .dramRetrainDone => [.aon, .units, .faults, .host, .caravan, .free]
  | .safeBeamCopyDone => [.ceiling, .safeBeam]
  | .safeOutTest .. => [.safety] ++ raiseParts
  | .commissioningCheckComputed => [.ceiling, .safety]
  | .sinkPeriodBoundary .. => [.sinks, .free]
  | .sinkOpenProbe .. | .sinkShortTrip .. | .sinkNeighbourTest .. | .sinkGroupShutdown .. => [.sinks] ++ raiseParts
  | .sinkShortRetry .. | .sinkHeadroomCycleEnd .. => [.sinks]
  | .channelRetryClear .. => [.host, .sinks, .caravan, .journal]
  | .sinkGroupRestart .. => [.aon, .link, .faults, .sinks, .free]
  | .caravanFrameSend .. | .caravanAnnounce .. | .caravanMessageTimeout .. => [.caravan]
  | .caravanWaybill .. => [.faults, .host, .free]
  | .caravanStreamCredit .. | .slotEraseDone => [.caravan, .update]
  | .svcIdleTimeout | .svcEnRise | .svcEnFall | .caravanSessionIdleTimeout => [.update]
  | .consentExpiry => [.access]
  | .safeBeamAreaProgrammed .. => [.journal, .nvm]

end Sys2Proof.Machine
end

