-- ==== Sys2Proof/Certificates/Slice0/Obligations.lean ====
section
/-!
DEFINITION. Obligations.lean: the statements about the block.
-/

open Sys2Proof Sys2Proof.Machine

/-- O1. A step runs the command at the front of the queue on the state with the rest of the queue. -/
def Obligations.StepRunsFrontCommand : Prop :=
  ∀ (c : Instr) (rest : List Instr) (s : State),
    step (s.withPending (c :: rest)) = exec c (s.withPending rest)

/-- O2. No command of the table stops the block: each answers a next state in every state. One whose event cannot come from
the present state answers that state, which is the model's reading (log 95). -/
def Obligations.EveryCommandAnswersNext : Prop :=
  ∀ (c : Instr) (s : State), ∃ t, exec c s = .next t

/-- O3. The queue of waiting commands, which is the model's own `pending`, and the fused variant (R1) are the same before and
after every command. -/
def Obligations.CommandsLeaveQueueAndFuse : Prop :=
  ∀ (c : Instr) (s t : State), exec c s = .next t → t.pending = s.pending ∧ t.variant = s.variant

/-- O4. A reset source is asserted (R416 to R420, R422): what every part is while the reset holds; a second source joins the
reset. The AON is cleared only at the release of a POR (R420). That the sinks keep a latched group, the update
unit its last rejection and the level of SVC_EN_N, and the sideband port its pointer over a RESET_N are the model's choices
(logs 16, 131 and 142). -/
def Obligations.ResetAssertionHoldsThePart : Prop :=
  (∀ s, inReset s = false → ∀ por : Bool, ∃ t,
    exec (if por then .porAssert else .resetNAssert) s = .next t
      ∧ t = { State.reset with
          variant := s.variant
          nvm := (cutNvm s).nvm
          aon := { s.aon with
            commitInterrupted := if s.journal.commit.isSome then s.journal.commit else s.aon.commitInterrupted
            supplyOff := s.aon.supplyOff && isLatched s 0x38
            frozen := if (s.aon.supplyOff && isLatched s 0x38) || s.aon.ldShutdown || s.aon.adShutdown then s.aon.frozen
              else none
            laneOff := if isLatched s 0x38 then s.aon.laneOff else none
            smContext := false }
          power := { State.reset.power with
            por := por, resetPin := !por, seenPor := por, seenPin := !por, loadRunning := false
            loadAborted := s.power.loadRunning, safe := .off
            inStopReset := !por && inStop s
            inShutReset := !por && (s.aon.ldShutdown || s.aon.adShutdown || s.aon.supplyOff || s.aon.laneOff.isSome) }
          units := { State.reset.units with sm := .off }
          link := s.link.map fun _ l => { fault := l.fault }
          hk := { thermal := [if s.aon.ldShutdown && !por then .shutdown else .normal,
            if s.aon.adShutdown && !por then .shutdown else .normal, .normal, .normal, .normal, .normal] }
          faults := {
            active := if por then [] else keptKinds s
            safeState := (governing t).1, safeKind := (governing t).2
            blanked := PerPort.const ((governing t).1 == .blanking) }
          sinks := if por then {} else heldSinks s
          dict := { State.reset.dict with values := if por then [] else s.dict.values.filter fun e => isWakeKey e.1 }
          update := { heldUpdate s with lastRejection := if por then 0 else s.update.lastRejection }
          host := { sbp := if por then {} else (cutNvm s).host.sbp }
          free := s.free, pending := s.pending }
      ∧ (∀ d, d ≠ .aon → domainState t d = .off))
  ∧ (∀ s, inReset s = true → ∀ por : Bool, ∃ t,
    exec (if por then .porAssert else .resetNAssert) s = .next t
      ∧ t = { s with
          power := { s.power with
            por := s.power.por || por, resetPin := s.power.resetPin || !por
            seenPor := s.power.seenPor || por, seenPin := s.power.seenPin || !por
            firstPor := s.power.firstPor && !por, firstPin := s.power.firstPin && por }
          faults := if por then {} else s.faults
          dict := if por then {} else s.dict
          update := { s.update with lastRejection := if por then 0 else s.update.lastRejection }
          host := { sbp := if por then {} else s.host.sbp } })

/-- O5. The releases of POR and RESET_N (R420) with the ResetCause that each leaves (R423). That LoadAborted stands after a
POR that cut an option load, and InStop and InShutdown after a POR that joined the RESET_N, are the model's choices
(logs 124 and 125). -/
def Obligations.ResetReleasesFollowTheirOrder : Prop :=
  let started : State → Prop := fun t =>
    inReset t = false ∧ t.power.loadRunning = true ∧ t.power.safe = .on
      ∧ (∀ d, d ≠ .aon → d ≠ .safe → domainState t d = .off) ∧ t.units.sm = .booting
  let met : State → BitVec 16 := fun s => (if s.power.loadAborted then 0x0800 else 0)
    ||| (if s.power.inStopReset then 0x0400 else 0) ||| (if s.power.inShutReset then 0x0200 else 0)
  (∀ s same, s.power.por = false → exec (.porRelease same) s = .next s)
  ∧ (∀ s same leap, s.power.resetPin = false → exec (.resetNRelease same leap) s = .next s)
  -- cases 1 and 4: POR is the last source released
  ∧ (∀ s same, s.power.por = true → s.power.resetPin = false → ∃ t, exec (.porRelease same) s = .next t
      ∧ started t
      ∧ t = { s with power := t.power, units := t.units, hk := {}, sinks := {}, aon := {
          resetCause := (if s.power.firstPin then 0xE000 else 0x8000) ||| met s } })
  -- case 5: both in one cycle of the AON oscillator
  ∧ (∀ s leap (first : Bool), s.power.por = true → s.power.resetPin = true → ∃ t,
      exec (if first then .porRelease true else .resetNRelease true leap) s = .next t
      ∧ started t
      ∧ t = { s with
          power := t.power, units := t.units, hk := {}, sinks := {}, aon := { resetCause := 0xF000 ||| met s } })
  -- case 3: POR first clears the AON and waits for RESET_N
  ∧ (∀ s, s.power.por = true → s.power.resetPin = true → ∃ t, exec (.porRelease false) s = .next t
      ∧ t = { s with
          power := { s.power with por := false, firstPor := true }, hk := {}, sinks := {}
          aon := { resetCause := 0xC000 ||| met s } })
  -- case 4: RESET_N first does nothing but to be remembered
  ∧ (∀ s leap, s.power.por = true → s.power.resetPin = true →
      exec (.resetNRelease false leap) s = .next { s with
        power := { s.power with resetPin := false, firstPin := true } })
  -- case 3, its end, and case 2: RESET_N is the last source released
  ∧ (∀ s same leap, s.power.por = false → s.power.resetPin = true → ∃ t,
      exec (.resetNRelease same leap) s = .next t
      ∧ started t
      ∧ t = { s with power := t.power, units := t.units, aon := { s.aon with
          leap := s.aon.leap + BitVec.ofNat 40 leap, resetCause := t.aon.resetCause } }
      ∧ (s.power.firstPor = true →
          t.aon.resetCause = (s.aon.resetCause &&& 0x0FFF) ||| 0xD000)
      ∧ (s.power.firstPor = false →
          t.aon.resetCause.toNat = 2 ^ 14 + 2 ^ 11 * ofBool s.power.loadAborted
            + 2 ^ 10 * ofBool s.power.inStopReset + 2 ^ 9 * ofBool s.power.inShutReset
            + min 255 (s.aon.resetCause.toNat % 256 + 1)))

/-- O6. The option load (R425, R426, R429) and the states of a domain (R437 to R440). The model's choices among what is said:
a DRAM without power lists nothing (log 5), a latched sink group stays off over a power-down of AUX (log 16), one boot entry
for each power-up of CORE (log 126), and sinks powered up beside a running CP take the restored settings from the next
period boundary (log 178). -/
def Obligations.DomainsFollowTheVotes : Prop :=
  (∀ s strap, inReset s = false → s.power.loadRunning = true →
    ∃ t, exec (.optionLoadCommit strap) s = .next t
      ∧ t.power.loadRunning = false
      ∧ (optionValid s.nvm.optionA = true → t.power.optionCopyUsed = 0 ∧ t.faults = s.faults)
      ∧ (optionValid s.nvm.optionA = false → optionValid s.nvm.optionB = true →
          t.power.optionCopyUsed = 1 ∧ (blockOf t 0x17).bits.getLsbD (kindBit 0x17 0x3B) = true)
      ∧ (optionValid s.nvm.optionA = false → optionValid s.nvm.optionB = false →
          t.power.optionCopyUsed = 2 ∧ t.power.options = {} ∧ t.power.strapCode = 0xFF ∧ isActive t 0x3C 0x17 = true)
      ∧ (∀ o, o = (if optionValid s.nvm.optionA then optionsOf s.nvm.optionA
            else if optionValid s.nvm.optionB then optionsOf s.nvm.optionB else {}) →
          t.power.options = (if o.strapCompat then applyStrap (strapCode strap) o else o)
          ∧ t.power.strapCode = (if o.strapCompat then strapCode strap else 0xFF)
          ∧ t.aon.options = t.power.options)
      ∧ (∀ d, domainState t d = if rises s d then .rising else domainState s d))
  ∧ (∀ s d, inReset s = false → voteable.contains d = true → isOn s d = true → heldByVote s.power.votes d = false →
      (∀ e ∈ dependants d, domainState s e ≠ .on ∧ domainState s e ≠ .rising) →
    ∃ t, exec (.domainPowerDownStart d) s = .next t
      ∧ (∀ e, domainState t e = if e = d then .minOff else domainState s e)
      ∧ (∀ b ∈ t.faults.blocks, unitDomain b.unit ≠ d)
      ∧ (d = .dram → t.dram = [] ∧ t.units.dramTrained = false)
      ∧ (d = .aux → t.sinks = heldSinks s)
      ∧ (d = .link → t.units.ls = PerPort.const .off ∧ ∀ p, (t.link.get p).enable = false)
      ∧ (d = .pix → t.scan.running = false ∧ t.manifest = {} ∧ t.compose = {} ∧ t.almanac.entries = [])
      ∧ (d = .core → t.host = { sbp := { s.host.sbp with status := t.host.sbp.status } } ∧ t.units.cp = .off ∧ t.access.session = none
          ∧ t.aon.shadow.dt = s.scan.dt ∧ t.aon.shadow.epoch = s.scan.epoch ∧ t.aon.shadow.leap = s.aon.leap))
  ∧ (∀ s d, voteable.contains d = true → domainState s d = .minOff → ∃ t, exec (.domainMinOffEnd d) s = .next t
      ∧ t = { s with power := t.power }
      ∧ domainState t d = (if !inReset s && !s.power.loadRunning && heldByVote s.power.votes d && !forcedOff s d
            && (dependsOn d).all fun e => isOn s e then .rising else .off))
  ∧ (∀ s d leap, inReset s = false → domainState s d = .rising → (d = .core → coreSupplied s = true) →
      (∀ e ∈ dependsOn d, isOn s e = true) →
    ∃ t, exec (.domainPowerUpDone d leap) s = .next t
      ∧ domainState t d = .on
      ∧ (∀ e, e ≠ d → domainState t e = domainState s e ∨ domainState t e = .rising ∧ domainState s e = .off)
      ∧ t.aon.leap = s.aon.leap + BitVec.ofNat 40 leap
      ∧ (d = .link → ∀ p, t.units.ls.get p = if hasPort s p then .booting else .off)
      ∧ (d = .aux → t.sinks.restored = cpReady s ∧ t.sinks.applied = false)
      ∧ (d = .core → t.power.votes.host = 0x7C ∧ t.aon.bootCount = s.aon.bootCount + 1
          ∧ (s.power.options.bootSource ≠ 2 → t.units.cp = .booting ∧ t.power.votes.cp = s.power.votes.cp ||| 0x04)))
  ∧ (∀ s leap, inReset s = false → coreSupplied s = false →
      exec (.domainPowerUpDone .core leap) s = .next (countLeap leap s))

/-- O7. The ends of the boots (R430, R477) and the watchdogs (R358, R442). Which boots go into recovery is log 164's choice, and
that CP and LS restarts write a boot entry log 126's. -/
def Obligations.ProcessorsBootAndRestart : Prop :=
  (∀ s reads, inReset s = false → isOn s .core = true → s.units.cp = .booting → s.power.votes.cp &&& allDomains ≠ 0 →
    ∃ t, exec (.cpBootDone reads) s = .next t
      ∧ (bootsRecovery s = true →
          t.units.cp = .ready ∧ t.units.cpRecoveryBoot = true ∧ t.units.runCp = s.units.runCp)
      ∧ (∀ slot, bootsRecovery s = false →
          (bootCheck 0 7 (cpSelected s) (!s.units.bootSinceReset) reads s).1 = some slot →
          t.units.cp = .ready ∧ t.units.runCp = slot ∧ t.units.cpRecoveryBoot = false
            ∧ t.units.bootSinceReset = true)
      ∧ (bootsRecovery s = false →
          (bootCheck 0 7 (cpSelected s) (!s.units.bootSinceReset) reads s).1 = none → t.units.cp = .off))
  ∧ (∀ s reads, inReset s = false → isOn s .safe = true → s.units.sm = .booting → s.units.smRebooting = false →
    ∃ t, exec (.smStartChecksDone reads) s = .next t
      ∧ (∀ slot, (smBoot reads s).1 = some slot →
          t.units.sm = .ready ∧ t.units.runSm = slot ∧ t.safety.startPassed = true)
      ∧ ((smBoot reads s).1 = none → t.units.sm = .off ∧ t.safety.startPassed = s.safety.startPassed))
  ∧ (∀ s reads, inReset s = false → s.units.smRebooting = true → ∃ t, exec (.smRebootDone reads) s = .next t
      ∧ t.units.smRebooting = false
      ∧ (∀ slot, (bootCheck 1 7 s.nvm.selSm false reads s).1 = some slot →
          t.units.sm = .ready ∧ t.units.runSm = slot ∧ t.safety.startPassed = true)
      ∧ ((bootCheck 1 7 s.nvm.selSm false reads s).1 = none → t.units.sm = .off))
  ∧ (∀ s p reads, inReset s = false → isOn s .link = true → s.units.ls.get p = .booting → isActivated s p = false →
    ∃ t, exec (.lsBootDone p reads) s = .next t
      ∧ (∀ slot, (bootCheck 2 p.num (s.nvm.selLs.get p) (!s.units.bootSinceReset) reads s).1 = some slot →
          t.units.ls.get p = .ready ∧ t.units.runLs.get p = slot)
      ∧ ((bootCheck 2 p.num (s.nvm.selLs.get p) (!s.units.bootSinceReset) reads s).1 = none →
          t.units.ls.get p = .off ∧ (t.link.get p).state = .lost))
  ∧ (∀ s, isOn s .core = true → s.units.cp = .ready → s.power.votes.cp &&& allDomains ≠ 0 →
    ∃ t, exec .cpWatchdogExpiry s = .next t
      ∧ t.units.cp = .booting ∧ t.power.votes.cp = 0x04 ∧ t.access.session = none ∧ t.update.session = none
      ∧ t.aon.bootCount = s.aon.bootCount + 1
      ∧ (blockOf t 0x01).bits.getLsbD (kindBit 0x01 0x01) = true)
  ∧ (∀ s, inReset s = false → isOn s .safe = true → s.units.sm = .ready → ∃ t, exec .smWatchdogExpiry s = .next t
      ∧ t.units.sm = .booting ∧ t.units.smRebooting = true
      ∧ Raised 0x03 0x02 { s with
          units := { s.units with sm := .booting, smRebooting := true }
          safety := { s.safety with startPassed := false, smStart := some (dtNow s) } } t
      ∧ ∀ r ∈ t.faults.unacked, r.unit ≠ 0x02)
  ∧ (∀ s p, isOn s .link = true → s.units.ls.get p = .ready → ∃ t, exec (.lsWatchdogExpiry p) s = .next t
      ∧ t.units = { s.units with ls := s.units.ls.set p .booting }
      ∧ t.aon.bootCount = s.aon.bootCount + 1
      ∧ (blockOf t (0x0A + p.num)).bits.getLsbD (kindBit (0x0A + p.num) 0x19) = true)

/-- O8. DRAM (R358, R430), SRAM (R359) and full service (R430). -/
def Obligations.MemoryFailuresAndFullService : Prop :=
  (∀ s, isOn s .dram = true → s.units.cp ≠ .off →
    exec .dramTrainingDone s = .next { s with units := { s.units with dramTrained := true } })
  ∧ (∀ s (timeout : Bool), isOn s .dram = true → ∃ t, exec (if timeout then .dramReadTimeout else .dramFailure) s = .next t
      ∧ t.units = { s.units with dramFailed := true }
      ∧ Raised 0x27 0x10 { s with
          units := { s.units with dramFailed := true }, fetch := { s.fetch with pins := t.fetch.pins } } t
      ∧ (∀ f, pinState t f = if pinState s f = 1 then 3 else pinState s f)
      ∧ (∀ a ∈ t.faults.active, a.kind = 0x27 → a.unit = 0x10 → a.absent = true))
  ∧ (∀ s, isOn s .dram = true → s.units.dramFailed = true → kindActive s 0x27 = false → cpReady s = true →
    ∃ t, exec .dramRetrainDone s = .next t
      ∧ OnlyFaultParts { s with units := { s.units with dramFailed := false, dramTrained := true } } t
      ∧ ∀ r ∈ t.faults.unacked, r.unit ≠ 0x10)
  ∧ (∀ s region, isOn s .pix = true → (region = .cpData → s.power.votes.cp &&& allDomains ≠ 0) → ∃ t, exec (.sramUncorrectable region) s = .next t
      ∧ (blockOf t 0x11).bits.getLsbD (kindBit 0x11 0x28) = true
      ∧ (∀ p tile, region = .outputBuffers p tile → p.num * 512 + tile % 512 ∈ t.compose.badTiles)
      ∧ (∀ p layer tile, region = .layerCaches p layer tile →
          ∀ x ∈ s.fetch.store, x.port = p → x.layer = layer → x.tile = tile →
            { x with status := spoilStatus x.status } ∈ t.fetch.store)
      ∧ (∀ status pixel, region = .pixelMaps status pixel → pixel < 2097152 → pixel ∈ t.drive.darkPixels
          ∧ (cpReady s = true → t.drive.repairs = []))
      ∧ (region = .tables → t.units.composerRestart = true)
      ∧ (region = .cpData → s.units.cp ≠ .off → t.units.cp = .booting)
      ∧ (∀ p, region = .safeBeamCopy p → t.safeBeam.copying = true ∧ p ∈ t.safeBeam.repairing))
  ∧ (∀ s load, cpReady s = true → s.units.cpRecoveryBoot = false → isOn s .pix = true → s.journal.scanned = true →
      s.almanac.ready = true → s.power.fullService = false → s.power.votes.cp &&& allDomains ≠ 0 →
    ∃ t, exec (.fullService load) s = .next t
      ∧ t.power.fullService = true ∧ t.drive.master = load.pixels ∧ t.manifest.calLoaded = true
      ∧ (isOn s .dram = true → t.dram = load.dram.foldl (fun m e => memWrite e.1 e.2 m) s.dram)
      ∧ (s.power.options.bootSource ≠ 2 → t.power.votes.wake = 0 ∧ t.power.votes.sbp = 0))

/-- O9. The commands that name one object's write do what a write of that object does (R279). -/
def Obligations.NamedWritesAreObjectWrites : Prop :=
  let same : Instr → Via → Nat → Nat → List Byte → State → Prop := fun c via index sub data s =>
    exec c s = exec (.odObjectWrite via index sub data) s
  ∀ (via : Via) (data : List Byte) (p : Port) (n : Nat) (s : State),
    same (.hostVoteWrite via data) via 0x8000 0x01 data s
    ∧ same (.almanacMaskRestart via data) via 0xA000 0x06 data s
    ∧ same (.frameRateWrite via data) via 0x8100 0x01 data s
    ∧ same (.surfacePin via n) via (0x3400 + n % 64) 0x0A [1] s
    ∧ same (.surfaceUnpin via n) via (0x3400 + n % 64) 0x0A [0] s
    ∧ same (.warpMeshWrite via p data) via (0x2100 + p.num) 0x01 data s
    ∧ same (.manifestCommit via data) via 0x3000 0x01 data s
    ∧ same (.shadeSwapRequest via data) via 0x3300 0x03 data s
    ∧ same (.compositionModeWrite via data) via 0x3000 0x05 data s
    ∧ same (.emitterDisableClear via p data) via (0xB100 + p.num) 0x24 data s
    ∧ same (.videoStreamBind via n data) via (0x1210 + n % 2) 0x01 data s
    ∧ same (.hostIrqClear via data) via 0x1300 0x03 data s
    ∧ same (.sessionResponse via data) via 0x1010 0x02 data s
    ∧ same (.sessionClose via data) via 0x1010 0x05 data s
    ∧ same (.commissionerKeyWrite via data) via 0x1010 0x08 data s
    ∧ same (.restoreDefaultsCustomer via) via 0x1020 0x01 [0x01, 0x00, 0xF0, 0xDE] s
    ∧ same (.restoreDefaultsSafety via) via 0x1020 0x01 [0x02, 0x00, 0xF0, 0xDE] s
    ∧ same (.optionBlockImageWrite via data) via 0x9030 0x01 data s
    ∧ same (.blockAck via n ⟨data, 0⟩) via 0x7301 (n % 256) data s
    ∧ same (.faultLatchClear via data) via 0x7502 0x01 data s
    ∧ same (.statusMapRowSelect via p data) via (0xB100 + p.num) 0x20 data s
    ∧ same (.commissioningCheckConfirm via data) via 0x7000 0x02 data s
    ∧ same (.lifeCycleMakerToken via data) via 0x9000 0x02 data s
    ∧ same (.lifeCycleCustomerToken via data) via 0x9000 0x02 data s
    ∧ same (.lifeCycleConsentToken via data) via 0x9000 0x02 data s
    ∧ same (.safeBeamAreaBlockWrite via n data) via 0x9040 (n % 8) data s
    ∧ same (.safeBeamAreaCommit via data) via 0x9040 0x08 data s

/-- O10. Writes that are refused (R34, R229, R266). -/
def Obligations.RefusedWritesHaveNoEffect : Prop :=
  (∀ s via index sub data, cpReady s = false →
    exec (.odObjectWrite via index sub data) s = .next (answer via true index sub 0x01 [] s))
  ∧ (∀ s via index sub data, cpReady s = true → judgeRequest s via index sub data ≠ 0x00 →
    ∃ u, exec (.odObjectWrite via index sub data) s
          = .next (answer via true index sub (judgeRequest s via index sub data) [] u)
      ∧ u = { s with warp := u.warp }
      ∧ (¬(0x2100 ≤ index ∧ index < 0x2104) → u = s))
  ∧ (∀ s via index sub data, objectAt index sub = none → judgeRequest s via index sub data = 0x03)
  ∧ (∀ s via index sub data o, objectAt index sub = some o →
      (isFused s index = true → judgeRequest s via index sub data = 0x02)
      ∧ (isFused s index = false → unitBusy s index sub = true → judgeRequest s via index sub data = 0x01)
      ∧ (isFused s index = false → unitBusy s index sub = false → o.access = .ro →
          judgeRequest s via index sub data = 0x02)
      ∧ (isFused s index = false → unitBusy s index sub = false → writeAllowed s via o index sub = true →
          data.length ≠ o.size → judgeRequest s via index sub data = 0x05)
      ∧ (isFused s index = false → unitBusy s index sub = false → writeAllowed s via o index sub = true →
          data.length = o.size → inRange o.range o.size (leNat data) = false →
          judgeRequest s via index sub data = 0x04))
  ∧ (∀ s via write index sub status bs, 
      ∃ h c q, answer via write index sub status bs s
        = { s with host := h, caravan := c, journal := { s.journal with queue := q } })

/-- O11. Accepted writes that command a unit at once (R63, R97, R98, R124, R133, R246, R346, R436). That a copy in use serves
on, and that a refused pin drops it, are the model's choices (logs 79, 166). -/
def Obligations.ControlWritesTakeEffect : Prop :=
  let accepted := fun (s : State) (via : Via) (index sub : Nat) (data : List Byte) =>
    cpReady s = true ∧ judgeRequest s via index sub data = 0x00
  let held := fun (s : State) => (s.power.votes.wake ||| s.power.votes.sbp) != 0
  (∀ s via data, accepted s via 0x8000 1 data →
    (let v : BitVec 8 := BitVec.ofNat 8 (leNat data) &&& 0x7C
     (votedBy v .core = false ∧ votedBy s.power.votes.host .core = true ∧ held s = true →
        exec (.hostVoteWrite via data) s
          = .next (answer via true 0x8000 1 0x01 [] { s with power := { s.power with sleepStatus := 2 } }))
     ∧ (¬(votedBy v .core = false ∧ votedBy s.power.votes.host .core = true ∧ held s = true) →
        ∃ u, exec (.hostVoteWrite via data) s = .next (answer via true 0x8000 1 0x00 [] u)
          ∧ u.power.votes.host = v)))
  ∧ (∀ s via data, accepted s via 0x1300 3 data →
      exec (.hostIrqClear via data) s = .next (answer via true 0x1300 3 0x00 []
        { s with host := { s.host with irq := s.host.irq &&& ~~~(BitVec.ofNat 32 (leNat data)) } }))
  ∧ (∀ s via data, accepted s via 0xA000 6 data →
      exec (.almanacMaskRestart via data) s = .next (answer via true 0xA000 6 0x00 []
        (if leNat data = 1 then { s with almanac := { s.almanac with restart := true } } else s)))
  ∧ (∀ s via data, accepted s via 0x3000 1 data →
      exec (.manifestCommit via data) s = .next (answer via true 0x3000 1 0x00 []
        (if leNat data = 1 ∧ manifestFrozen s = false
          then { s with manifest := { s.manifest with pending := true } } else s)))
  ∧ (∀ s via data, accepted s via 0x3300 3 data →
      ∃ u, exec (.shadeSwapRequest via data) s = .next (answer via true 0x3300 3 0x00 [] u)
        ∧ (leNat data ≠ 1 → u = s)
        ∧ (leNat data = 1 → u.shade.frozen = true
            ∧ u.shade.swapRequested = (s.shade.swapRequested || cfg s 0x3300 0x0D == 0)))
  ∧ (∀ s via n, accepted s via (0x3400 + n % 64) 0x0A [1] →
      ∃ u, exec (.surfacePin via n) s = .next (answer via true (0x3400 + n % 64) 0x0A 0x00 [] u)
        ∧ u = { s with fetch := { s.fetch with pins := u.fetch.pins } }
        ∧ (let starts := surfaceValid s (n % 64) && surfaceValue s (n % 64) 5 == 1 && isOn s .pix && dramReadable s
           pinState u (n % 64) = (if starts then 1 else 3)
           ∧ (starts = true → pinnedTiles u (n % 64) = pinnedTiles s (n % 64))
           ∧ (starts = false → pinnedTiles u (n % 64) = none)))
  ∧ (∀ s via n, accepted s via (0x3400 + n % 64) 0x0A [0] →
      ∃ u, exec (.surfaceUnpin via n) s = .next (answer via true (0x3400 + n % 64) 0x0A 0x00 [] u)
        ∧ u = { s with fetch := { s.fetch with pins := u.fetch.pins } }
        ∧ (∀ x, pinOf s (n % 64) = some x → (x.state = 2 ∨ x.inUse.isSome = true) →
            pinOf u (n % 64) = some { x with state := 2, next := none, leaving := true })
        ∧ (∀ x, pinOf s (n % 64) = some x → ¬(x.state = 2 ∨ x.inUse.isSome = true) → pinOf u (n % 64) = none)
        ∧ (pinOf s (n % 64) = none → u = s))
  ∧ (∀ s via p data, accepted s via (0xB100 + p.num) 0x20 data →
      ∃ u, exec (.statusMapRowSelect via p data) s = .next (answer via true (0xB100 + p.num) 0x20 0x00 [] u)
        ∧ u = { s with pixels := u.pixels }
        ∧ (u.pixels.get p) = { s.pixels.get p with pendingRow := some (leNat data) }
        ∧ (∀ q, q ≠ p → u.pixels.get q = s.pixels.get q))

/-- O12. Sessions (R271 to R274), and the requests that came inside one which times out (R290). -/
def Obligations.SessionsOpenAndClose : Prop :=
  let accepted := fun (s : State) (via : Via) (sub : Nat) (data : List Byte) =>
    cpReady s = true ∧ judgeRequest s via 0x1010 sub data = 0x00
  (∀ s via o, cpReady s = true → objectAt 0x1010 1 = some o → judgeRead s via 0x1010 1 o = 0x00 →
      (s.aon.lockout = true → exec (.sessionChallenge via) s = .next (answer via false 0x1010 1 0x01 [] s))
      ∧ (s.aon.lockout = false → ∃ u bs, exec (.sessionChallenge via) s = .next (answer via false 0x1010 1 0x00 bs u)
          ∧ bs.length = 16
          ∧ u = { s with access := u.access, free := s.free + 1 }
          ∧ u.access = { s.access with
              challenge := (transportOf via).map fun t => (leNat bs, t), challengeAt := dtNow s }))
  ∧ (∀ s via data, accepted s via 2 data → ∃ st u,
      exec (.sessionResponse via data) s = .next (answer via true 0x1010 2 st [] u)
      ∧ (roleOf (leNat (data.take 1)) = none ∨ allZero data 1 3 = false → st = 0x04 ∧ u = s)
      ∧ (∀ r, roleOf (leNat (data.take 1)) = some r → allZero data 1 3 = true →
          (s.access.session.isSome = true → st = 0x01 ∧ u = s)
          ∧ (∀ t, s.access.session = none → transportOf via = some t →
              (st, u) = if responseRight s via r (data.drop 4) then
                (0x00, { s with
                  access := { s.access with challenge := none, session := some (r, t) }
                  aon := { s.aon with wrongRun := 0 } })
              else (0x02, { s with
                  access := { s.access with challenge := none, failCount := count32 s.access.failCount }
                  aon := { s.aon with
                    wrongRun := s.aon.wrongRun + 1
                    lockout := s.aon.lockout || decide (3 ≤ s.aon.wrongRun + 1) } }))
          ∧ (s.access.session = none → transportOf via = none →
              st = 0x02 ∧ u.access.session = none ∧ u.access.challenge = none
                ∧ u.aon.wrongRun = s.aon.wrongRun + 1)))
  ∧ (∀ s via data, accepted s via 5 data →
      exec (.sessionClose via data) s = .next (answer via true 0x1010 5 0x00 []
        (if leNat data = 1 ∧ (inSession s via .commissioner = true ∨ inSession s via .maker = true)
          then { s with access := { s.access with session := none } } else s)))
  ∧ (∀ s via data, accepted s via 8 data → ∃ u,
      exec (.commissionerKeyWrite via data) s = .next (answer via true 0x1010 8 0x00 [] u)
      ∧ u = { s with
          nvm := { s.nvm with commissionerKey := some (BitVec.ofNat 256 (leNat data)) }
          access := { s.access with session := match s.access.session with
            | some (.commissioner, _) => none
            | x => x } })
  ∧ (∀ s, ∃ u, exec .sessionIdleTimeout s = .next u
      ∧ u = { s with
          access := { s.access with session := none }
          host := { s.host with shpRequests := u.host.shpRequests, canRequests := u.host.canRequests } }
      ∧ (s.access.session = none → u.host = s.host)
      ∧ (∀ x, s.access.session = some x →
          (x.2 = .shp → u.host.shpRequests = s.host.shpRequests.map fun r => { r with inside := r.inside.or (some x) })
          ∧ (x.2 ≠ .shp → u.host.shpRequests = s.host.shpRequests)
          ∧ u.host.canRequests = s.host.canRequests.map fun r =>
              if sameTransport s x.2 (.can r.bus) then { r with inside := r.inside.or (some x) } else r))
  ∧ (∀ s, exec .challengeLockoutEnd s = .next { s with aon := { s.aon with lockout := false } })

/-- O13. Life-cycle tokens (R494, R495). -/
def Obligations.LifeCycleTokensAct : Prop :=
  let accepted := fun (s : State) (via : Via) (data : List Byte) =>
    cpReady s = true ∧ judgeRequest s via 0x9000 2 data = 0x00 ∧ tokenShape s data = true
  let done := fun (c : Instr) (via : Via) (s u : State) => exec c s = .next (answer via true 0x9000 2 0x00 [] u)
  (∀ s via data c, c ∈ [Instr.lifeCycleMakerToken via data, .lifeCycleCustomerToken via data, .lifeCycleConsentToken via data] →
      cpReady s = true → judgeRequest s via 0x9000 2 data = 0x00 → tokenShape s data = false →
      done c via s { s with access := { s.access with tokenResult := 2 } })
  ∧ (∀ s via data, accepted s via data → field data 4 1 = 1 → lifeState s = lcMaker → field data 6 1 = lcDevelop →
      done (.lifeCycleMakerToken via data) via s (if tokenSigned data then { s with
          nvm := { s.nvm with life := s.nvm.life.set lcDevelop 1 }
          access := { s.access with session := none, tokenResult := 1 } }
        else { s with access := { s.access with tokenResult := 2 } }))
  ∧ (∀ s via data, accepted s via data → field data 4 1 = 1 → lifeState s = lcMaker → field data 6 1 = lcField →
      done (.lifeCycleMakerToken via data) via s (if tokenSigned data then
          (if s.nvm.commissionerKey.isSome && allSigned s then { s with
              nvm := { s.nvm with life := s.nvm.life.set lcField 1 }
              access := { s.access with session := none, tokenResult := 1 } }
            else { s with access := { s.access with tokenResult := 3 } })
        else { s with access := { s.access with tokenResult := 2 } }))
  ∧ (∀ s via data, accepted s via data → field data 4 1 = 1 → lifeState s = lcField → field data 6 1 = lcReturn →
      s.journal.compacting = false → ∃ u, done (.lifeCycleMakerToken via data) via s u
        ∧ (tokenSigned data = false → u = { s with access := { s.access with tokenResult := 2 } })
        ∧ (tokenSigned data = true → s.access.consent = false → u = { s with access := { s.access with tokenResult := 4 } })
        ∧ (tokenSigned data = true → s.access.consent = true →
            u.nvm.life = s.nvm.life.set lcReturn 1 ∧ u.nvm.commissionerKey = none ∧ u.nvm.bank1 = {}
            ∧ u.access.session = none ∧ u.update.session = none ∧ u.access.consent = false ∧ u.access.tokenResult = 1))
  ∧ (∀ s via data, accepted s via data → field data 4 1 = 2 → lifeState s = lcDevelop → field data 6 1 = lcField →
      done (.lifeCycleCustomerToken via data) via s
        (if tokenMac s data then
          (if s.nvm.commissionerKey.isSome && allSigned s && inSession s via .commissioner then { s with
              nvm := { s.nvm with life := s.nvm.life.set lcField 1 }
              access := { s.access with session := none, tokenResult := 1 } }
            else { s with access := { s.access with tokenResult := 3 } })
          else { s with access := { s.access with tokenResult := 2 } }))
  ∧ (∀ s via data, accepted s via data → field data 4 1 = 3 → lifeState s = lcField → field data 6 1 = lcReturn →
      done (.lifeCycleConsentToken via data) via s
        (if tokenMac s data then { s with access := { s.access with consent := true, tokenResult := 1 } }
          else { s with access := { s.access with tokenResult := 2 } }))
  ∧ (∀ s, exec .consentExpiry s = .next { s with access := { s.access with consent := false } })

/-- O14. Accepted writes to fault and safety objects (R285, R335, R365, R408, R486). -/
def Obligations.FaultAndSafetyWritesTakeEffect : Prop :=
  let accepted := fun (s : State) (via : Via) (index sub : Nat) (data : List Byte) =>
    cpReady s = true ∧ judgeRequest s via index sub data = 0x00
  (∀ s via n data, accepted s via 0x7301 (n % 256) data → ∃ u,
      exec (.blockAck via n ⟨data, 0⟩) s = .next (answer via true 0x7301 (n % 256) 0x00 [] u)
      ∧ u = { s with faults := { s.faults with blocks := u.faults.blocks } }
      ∧ (blockOf u (n % 256)).bits = (blockOf s (n % 256)).bits &&& ~~~(BitVec.ofNat 16 (leNat data))
      ∧ (∀ m, m ≠ n % 256 → blockOf u m = blockOf s m))
  ∧ (∀ s via n data raised, accepted s via 0x7301 (n % 256) data → ∃ u, exec (.blockAck via n ⟨data, raised⟩) s = .next u
      ∧ ∀ k ∈ kindsOf (n % 256), raised.getLsbD (kindBit (n % 256) k) = true →
          (blockOf u (n % 256)).bits.getLsbD (kindBit (n % 256) k) = true)
  ∧ (∀ s via data, accepted s via 0x7502 1 data → ∃ u v,
      exec (.faultLatchClear via data) s = .next (answer via true 0x7502 1 0x00 [] u)
      ∧ isLatched v (leNat data) = false ∧ (recoveryOf v (leNat data)).times = []
      ∧ (recoveryOf v (leNat data)).count = (recoveryOf s (leNat data)).count
      ∧ OnlyFaultParts s v
      ∧ u = (if isLatched s (leNat data) && kindActive s (leNat data) then afterExit (leNat data) v else v)
      ∧ (leNat data = 0x49 → isLatched s 0x49 = true → kindActive s 0x49 = true → kindActive v 0x49 = false →
          u.caravan.state = 1 ∧ u.caravan.loopValid = false)
      ∧ (¬(leNat data = 0x38 ∨ leNat data = 0x49 ∨ (0x1B ≤ leNat data ∧ leNat data ≤ 0x1E)) → u = v))
  ∧ (∀ s via p data, accepted s via (0xB100 + p.num) 0x24 data → ∃ u,
      exec (.emitterDisableClear via p data) s = .next (answer via true (0xB100 + p.num) 0x24 0x00 [] u)
      ∧ (leNat data ≠ 1 ∨ s.nvm.disabled.get p ≠ 1 → u = s)
      ∧ (leNat data = 1 → s.nvm.disabled.get p = 1 →
          u.nvm.disabled = s.nvm.disabled.set p 0 ∧ u.nvm.stuckPixel = s.nvm.stuckPixel.set p 0xFFFFFFFF
          ∧ (u.link.get p).waitBringUp = true))
  ∧ (∀ s via n data pin, accepted s via (0x5100 + n % 48) 8 data → ∃ u,
      exec (.channelRetryClear via n data pin) s = .next (answer via true (0x5100 + n % 48) 8 0x00 [] u)
      ∧ u = { s with sinks := u.sinks }
      ∧ (leNat data = 1 → sinkAlive s (n % 48) = true → (sinkOf s (n % 48)).status = 2 →
          (sinkOf u (n % 48)).status = if shortTrips s (n % 48) pin then 2 else 0)
      ∧ (leNat data ≠ 1 ∨ (sinkOf s (n % 48)).status ≠ 2 → u = s))
  ∧ (∀ s via n data pin, ¬accepted s via (0x5100 + n % 48) 8 data → ∃ st,
      exec (.channelRetryClear via n data pin) s = .next (answer via true (0x5100 + n % 48) 8 st [] s) ∧ st ≠ 0x00)
  ∧ (∀ s via n data, accepted s via 0x9040 (n % 8) data →
      exec (.safeBeamAreaBlockWrite via n data) s = .next (answer via true 0x9040 (n % 8) 0x00 []
        { s with update := { s.update with staging := putEntry (n % 8) (leNat data) s.update.staging } }))
  ∧ (∀ s via data, accepted s via 0x9040 8 data →
      (s.journal.areaWrite.isSome = true →
        exec (.safeBeamAreaCommit via data) s = .next (answer via true 0x9040 8 0x01 [] s))
      ∧ (s.journal.areaWrite = none → judgeArea (leNat data) (stagedArea s) ≠ 0 →
        exec (.safeBeamAreaCommit via data) s = .next (answer via true 0x9040 8 0x04 []
          { s with journal := { s.journal with areaResult := judgeArea (leNat data) (stagedArea s) } }))
      ∧ (s.journal.areaWrite = none → judgeArea (leNat data) (stagedArea s) = 0 →
        exec (.safeBeamAreaCommit via data) s = .next (answer via true 0x9040 8 0x00 []
          { s with journal := { s.journal with areaWrite := stagedArea s, areaState := 4 } })))

/-- O15. Accepted writes whose effect waits for the journal (R276, R278, R288). -/
def Obligations.JournalledWritesWaitForTheirRecord : Prop :=
  let accepted := fun (s : State) (via : Via) (index sub : Nat) (data : List Byte) =>
    cpReady s = true ∧ judgeRequest s via index sub data = 0x00
  let queued := fun (c : Instr) (s : State) (w : JWrite) =>
    (judgeWrite s w = .taken → exec c s = .next { s with journal := { s.journal with queue := s.journal.queue ++ [w] } })
    ∧ (judgeWrite s w = .busy → ∀ x, w.waiter = some x →
        exec c s = .next (answer x.via true x.index x.sub 0x01 [] s))
    ∧ (judgeWrite s w = .full → ∀ x, w.waiter = some x → ∃ u,
        exec c s = .next (answer x.via true x.index x.sub 0x01 [] u) ∧ Noted 0x39 0x16 s u)
  let plain := fun (via : Via) (index sub size : Nat) (data : List Byte) =>
    (⟨index, sub, 1, size, leNat data, some { via := via, index := index, sub := sub }⟩ : JWrite)
  (∀ s via data, accepted s via 0x8100 1 data → queued (.frameRateWrite via data) s (plain via 0x8100 1 1 data))
  ∧ (∀ s via data, accepted s via 0x3000 5 data → queued (.compositionModeWrite via data) s (plain via 0x3000 5 1 data))
  ∧ (∀ s via p data, accepted s via (0x2100 + p.num) 1 data →
      queued (.warpMeshWrite via p data) s (plain via (0x2100 + p.num) 1 4488 data))
  ∧ (∀ s via n data, accepted s via (0x1210 + n % 2) 1 data →
      queued (.videoStreamBind via n data) s (plain via (0x1210 + n % 2) 1 1 data))
  ∧ (∀ s via data, accepted s via 0x7000 2 data →
      queued (.commissioningCheckConfirm via data) s (plain via 0x7000 2 4 data))
  ∧ (∀ s via, accepted s via 0x1020 1 [0x01, 0x00, 0xF0, 0xDE] →
      queued (.restoreDefaultsCustomer via) s
        ⟨0x1020, 2, 2, 1, max 1 (pendingMark s), some { via := via, index := 0x1020, sub := 1 }⟩)
  ∧ (∀ s via, accepted s via 0x1020 1 [0x02, 0x00, 0xF0, 0xDE] →
      (inSession s via .commissioner = true → queued (.restoreDefaultsSafety via) s
        ⟨0x1020, 2, 2, 1, 2, some { via := via, index := 0x1020, sub := 1 }⟩)
      ∧ (inSession s via .commissioner = false →
        exec (.restoreDefaultsSafety via) s = .next (answer via true 0x1020 1 0x02 [] s)))
  ∧ (∀ s via data, accepted s via 0x9030 1 data →
      exec (.optionBlockImageWrite via data) s = .next { s with journal := { s.journal with
        optionWrite := some (BitVec.ofNat 1024 (leNat data), { via := via, index := 0x9030, sub := 1 }) } })

/-- O16. What the NVM controller's commands do (R276, R288, R486, R488 to R492). -/
def Obligations.JournalCommandsProgramNvm : Prop :=
  let running := fun (s : State) => inReset s = false ∧ isOn s .safe = true ∧ s.journal.scanned = true
  let fits := fun (s : State) (w : JWrite) (q : List JWrite) => w.kind = 1 →
    relationsKept (setCfg w.index w.sub w.value { s with journal := { s.journal with queue := q } }) w.index w.sub = true
  let small := fun (s : State) (w : JWrite) => liveWith s [w] ≤ liveBound
  (∀ s w q (first retry : Bool), running s → s.journal.compacting = false → s.journal.queue = w :: q → fits s w q → small s w →
      (first = true ∨ retry = true) → ∃ t, exec (.journalRecordCommitted first retry) s = .next t
      ∧ (w.kind = 1 → s.dict.values.Pairwise (fun a b => a.1 < b.1) → cfg t w.index w.sub = w.value)
      ∧ (w.kind = 1 → w.index < 0x2000 → ¬(0x1210 ≤ w.index ∧ w.index < 0x1212) → w.waiter = none →
          t.journal.sequence = s.journal.sequence + 1 ∧ t.journal.queue = q
          ∧ activeBank t = { activeBank s with
              records := (activeBank s).records ++ [recordOf (s.journal.sequence + 1) w]
              used := (activeBank s).used + (if first then 1 else 2) * recordSize w.length
              torn := if first then (activeBank s).torn
                else some ((activeBank s).torn.getD (activeBank s).records.length) }
          ∧ t.aon.journalBudget = s.aon.journalBudget - recordSize w.length
          ∧ t.journal.compacting = decide (36864 ≤ (activeBank t).used)))
  ∧ (∀ s w q first retry, running s → s.journal.compacting = false → s.journal.queue = w :: q → ¬fits s w q →
      ∃ t, exec (.journalRecordCommitted first retry) s = .next t ∧ t.dict = s.dict ∧ t.nvm = s.nvm)
  ∧ (∀ s w q (first retry : Bool), running s → s.journal.compacting = false → s.journal.queue = w :: q → fits s w q →
      ¬small s w ∨ first = false ∧ retry = false → ∃ t, exec (.journalRecordCommitted first retry) s = .next t
      ∧ t.dict = s.dict ∧ (activeBank t).records = (activeBank s).records
      ∧ (blockOf t 0x16).bits.getLsbD (kindBit 0x16 0x39) = true)
  ∧ (∀ s, inReset s = false → isOn s .safe = true → s.journal.scanned = false → (∀ x ∈ s.nvm.life, x ≠ 2) →
      ∃ t, exec .journalScanDone s = .next t
      ∧ t.journal.scanned = true ∧ t.journal.active = chooseBank s ∧ t.journal.sequence = topSequence (activeBank t)
      ∧ (t.journal.areaState = 0 ↔ patternValid s.nvm.area = true ∧ factoryValid s.nvm.area = true)
      ∧ t = { s with journal := t.journal, dict := t.dict, nvm := t.nvm }
      ∧ (chooseBank s = 1 ↔ bankValid s.nvm.bank1 = true ∧ (bankValid s.nvm.bank0 = true →
          s.nvm.bank1.generation > s.nvm.bank0.generation)))
  ∧ (∀ s, inReset s = false → isOn s .safe = true → s.journal.compacting = true → s.access.returnDue = false →
      s.journal.active ≤ 1 → ∃ t, exec .journalCompactionDone s = .next t
      ∧ activeBank t = compacted s ∧ t.journal.active = 1 - s.journal.active ∧ t.journal.compacting = false
      ∧ t.journal.sequence = s.journal.sequence + 2
      ∧ t = { s with journal := t.journal, nvm := t.nvm })
  ∧ (∀ s, exec .journalBudgetRefill s
      = .next { s with aon := { s.aon with journalBudget := min 65536 (s.aon.journalBudget + 4096) } })
  ∧ (∀ s b w, s.journal.optionWrite = some (b, w) → ∃ t, exec .optionImageProgrammed s = .next t
      ∧ t.nvm = { s.nvm with optionA := b, optionB := b } ∧ t.journal.optionWrite = none)
  ∧ (∀ s a readBack, s.journal.areaWrite = some a →
      exec (.safeBeamAreaProgrammed readBack) s = .next { s with
        nvm := { s.nvm with area := if readBack then a else 0 }
        journal := { s.journal with
          areaWrite := none, areaState := areaStateOf (if readBack then a else 0)
          areaResult := if readBack then 1 else 5 } })

/-- O17. Wake (R443, R445, R259), Stop (R444) and the calibration engine's vote (R435). -/
def Obligations.WakeAndStopFollowTheVotes : Prop :=
  let woken := fun (cause : BitVec 8) (leap : Nat) (s t : State) =>
    t.aon.wakeCause = s.aon.wakeCause ||| cause ∧ t.aon.leap = s.aon.leap + BitVec.ofNat 40 leap
      ∧ t.power.votes.host = 0x7C ∧ t.power.stopTasks = false ∧ isOn t .safe = true
      ∧ (domainState s .core = .off → s.aon.frozen = none → s.power.loadRunning = false → domainState t .core = .rising)
      ∧ (isOn s .core = true → isOn t .core = true)
  (∀ s leap, inReset s = false →
      (cfg s 0x8000 7 = 1 → ∃ t, exec (.wakeRecognised leap) s = .next t ∧ woken 1 leap s t)
      ∧ (cfg s 0x8000 7 ≠ 1 → exec (.wakeRecognised leap) s = .next (countLeap leap s)))
  ∧ (∀ s leap, inReset s = false →
      (inStop s = true ∨ s.power.votes.wake ≠ 0 ∧ isOn s .core = false ∧ s.aon.frozen = none → cfg s 0x1400 3 = 1 → ∃ t, exec (.sbpWakeMatch leap) s = .next t ∧ woken 2 leap s t)
      ∧ (matchesSbp s = false ∨ cfg s 0x1400 3 ≠ 1 → exec (.sbpWakeMatch leap) s = .next (countLeap leap s)))
  ∧ (∀ s, s.power.stopTasks = true → s.journal.queue = [] → cpReady s = true →
      ∃ t, exec .stopEntryTasksDone s = .next t ∧ t.power.stopTasks = false ∧ t.power.votes.cp = 0
      ∧ (cpVotesAlone s.power.votes = true → (∀ d, d ≠ .aon → domainState t d = .off)
          ∧ t.aon.stopEntryCount = min (s.aon.stopEntryCount + 1) (2 ^ 32 - 1) ∧ t.aon.smContext = true)
      ∧ (cpVotesAlone s.power.votes = false → ∀ d, domainState t d = domainState s d))
  ∧ (∀ s, s.units.calStep = true → ∃ t, exec .calibrationStepDone s = .next t
      ∧ t.units.calStep = false ∧ t.power.votes.cal = 0)

/-- O18. Supplies (R433, R434), the clock fallback (R15) and die shutdown (R303 to R305). -/
def Obligations.SuppliesAndDiesForceOff : Prop :=
  let lit := fun (s : State) => inReset s = false ∧ isOn s .safe = true
  let dark := fun (t : State) => ∀ d, d ≠ .aon → d ≠ .safe → domainState t d = .off
  (∀ s v, lit s → (supplyOf s (supplyNum v)).beyond ≥ 2 → (supplyOf s (supplyNum v)).warning = false →
      ∃ t, exec (.supplyWarning v) s = .next t ∧ (supplyOf t (supplyNum v)).warning = true
      ∧ Raised 0x37 0x15 { s with power := { s.power with supplies := t.power.supplies } } t)
  ∧ (∀ s v, inReset s = false → coreWaits s (supplyNum v) = true →
      exec (.supplyOutOfWindow v) s = .next { s with power := { s.power with
        supplies := modifyAt (fun x => { x with low := true, inside := 0 }) (supplyNum v) s.power.supplies } })
  ∧ (∀ s v, lit s → v = .adVin ∨ v = .vddCore ∨ v = .vddPll → coreWaits s (supplyNum v) = false → ∃ t, exec (.supplyOutOfWindow v) s = .next t
      ∧ dark t ∧ isOn t .safe = true ∧ t.aon.frozen.isSome = true ∧ t.aon.supplyOff = true ∧ isActive t 0x38 0x15 = true
      ∧ (v = .adVin → t.journal.queue = []
          ∧ t.journal.compacting = (s.journal.scanned && (!s.journal.queue.isEmpty || s.journal.compacting))))
  ∧ (∀ s, lit s → ∃ t, exec (.supplyOutOfWindow .vddaLane) s = .next t
      ∧ domainState t .link = .off ∧ (∀ d, d ≠ .link → domainState t d = domainState s d)
      ∧ t.aon.frozen = s.aon.frozen ∧ t.aon.laneOff.isSome = true ∧ isActive t 0x38 0x15 = true)
  ∧ (∀ s v, lit s → isOn s .dram = true → v = .vdd2 ∨ v = .vddq → ∃ t, exec (.supplyOutOfWindow v) s = .next t
      ∧ Raised 0x27 0x10 { s with
          units := { s.units with dramFailed := true }, fetch := { s.fetch with pins := t.fetch.pins } } t)
  ∧ (∀ s, domainState s .core = .rising → coreSupplied s = false → s.power.coreWaitFault = false →
      ∃ t, exec .coreSupplyWaitTimeout s = .next t ∧ t.power.coreWaitFault = true
      ∧ Raised 0x38 0x15 { s with power := t.power } t)
  ∧ (∀ s, isOn s .core = true → ∃ t, exec .clockFallback s = .next t
      ∧ t.power = { s.power with backupClock := true }
      ∧ t.scan.delta = 0 ∧ t.scan.period = periodOf s.scan.rate 0
      ∧ Raised 0x04 0x03 { s with power := t.power, scan := t.scan } t)
  ∧ (∀ s die, lit s → dieIndex die < s.hk.thermal.length → nth .normal s.hk.thermal (dieIndex die) ≠ .shutdown →
      nth 0 s.hk.hot (dieIndex die) ≥ 2 → ∃ t, exec (.dieShutdownDecision die) s = .next t
      ∧ dark t ∧ isOn t .safe = true ∧ t.aon.frozen.isSome = true ∧ isActive t 0x2F 0x13 = true
      ∧ nth .normal t.hk.thermal (dieIndex die) = .shutdown
      ∧ (die = .ld → t.aon.ldShutdown = true) ∧ (die = .ad → t.aon.adShutdown = true)
      ∧ t.aon.thermalShutdownCount = min (s.aon.thermalShutdownCount + 1) (2 ^ 32 - 1))
  ∧ (∀ s die, inReset s = false → nth .normal s.hk.thermal (dieIndex die) = .shutdown →
      nth 0 s.hk.cool (dieIndex die) ≥ 2 → isLatched s 0x2F = false →
      isEighthRecovery (nowUs s) (recoveryOf s 0x2F).times = false →
      ∃ t, exec (.dieRestart die) s = .next t
      ∧ (die = .ld → t.aon.ldShutdown = false) ∧ (die = .ad → t.aon.adShutdown = false)
      ∧ (t.aon.ldShutdown = false → t.aon.adShutdown = false → s.aon.supplyOff = false →
          isActive t 0x2F 0x13 = false ∧ t.aon.frozen = none))

/-- O19. The commands of the fault system (R350, R351, R355, R360 to R365, R369, R371). -/
def Obligations.FaultTimersAndAcknowledgements : Prop :=
  (∀ s u r rest, unackedOf s u = r :: rest → ∃ t, exec (.waybillAckTimeout u) s = .next t
      ∧ t.faults.unacked = dropOldest u s.faults.unacked ∧ t.aon.newest = nextBoxIndex s.aon.newest
      ∧ OnlyFaultParts s t)
  ∧ (∀ s u, cpReady s = true → exec (.cpInterruptAcknowledge u) s = .next { s with faults := { s.faults with
      unacked := s.faults.unacked.filter fun r => r.unit != u } })
  ∧ (∀ s, exec .faultNPulseEnd s = .next { s with faults := { s.faults with pulses := s.faults.pulses - 1 } })
  ∧ (∀ s k p a, (s.faults.active.find? fun b => b.kind == k && b.timing) = some a →
      ∃ t, exec (.escalationExpiry k p) s = .next t
      ∧ (∀ b ∈ t.faults.active, b.kind = k → b.unit = a.unit → b.escalated = true ∧ b.timing = false)
      ∧ isActive t k a.unit = true
      ∧ t.aon.escalationCount = min (s.aon.escalationCount + 1) (2 ^ 32 - 1))
  ∧ (∀ s, s.faults.safeState = .hold → s.faults.holdDone = false → ∃ t, exec .holdSafeBeamTimeout s = .next t
      ∧ t.faults = { s.faults with holdDone := true } ∧ t = { s with faults := t.faults, link := t.link }
      ∧ (∀ p, portServing s p = true → (s.link.get p).holdSent = true → (s.link.get p).holdDue = false →
          s.units.ls.get p = .ready →
          (t.link.get p).startAt = some (startFrame s)))
  ∧ (∀ s k a, (s.faults.active.find? fun b => b.kind == k && b.unit == a.unit) = some a → a.kind = k →
      (kindRow k).exit = .quiet ∨ k = 0x38 ∨ k = 0x49 → a.absent = true → isLatched s k = false → ∃ t,
      exec (.quietPeriodEnd k a.unit) s = .next t
      ∧ (recoveryOf t k).count = min ((recoveryOf s k).count + 1) (2 ^ 16 - 1)
      ∧ (isEighthRecovery (nowUs s) (recoveryOf s k).times = false → isActive t k a.unit = false)
      ∧ (isEighthRecovery (nowUs s) (recoveryOf s k).times = true → isLatched t k = true ∧ isActive t k a.unit = true)
      ∧ (k = 0x49 → kindActive t k = false → t.caravan.state = 1 ∧ t.caravan.loopValid = false))
  ∧ (∀ s a, (s.faults.active.find? fun b => b.kind == 0x3E && b.unit == 0x18) = some a → isLatched s 0x3E = false →
      exec (.quietPeriodEnd 0x3E 0x18) s = .next { s with safety := { s.safety with retestDue := true } })
  ∧ (∀ s n, isOn s .dram = true → ∃ t, exec (.dramErrorRateWindow n) s = .next t
      ∧ t.dramRate = min n.dram 0xFFFF ∧ t.dramCorrected = min (s.dramCorrected + n.dram) (2 ^ 32 - 1)
      ∧ t.sramCorrected = (if isOn s .pix then min (s.sramCorrected + n.sram) (2 ^ 32 - 1) else s.sramCorrected)
      ∧ (min n.dram 0xFFFF > cfg s 0xB000 3 →
          Raised 0x26 0x10 { s with
            dramRate := t.dramRate, dramCorrected := t.dramCorrected, sramCorrected := t.sramCorrected } t)
      ∧ (min n.dram 0xFFFF ≤ cfg s 0xB000 3 → isLatched s 0x26 = false → (∀ a ∈ s.faults.active, a.kind = 0x26 → a.escalated = false) →
          isActive t 0x26 0x10 = false))
  ∧ (∀ s p r, (s.pixels.get p).pendingRow = some r → exec (.statusMapSnapshotDone p) s
      = .next { s with pixels := s.pixels.modify p fun x =>
          { x with pendingRow := none, selectedRow := r, snapshot := statusRow s p r } })
  ∧ (∀ s cause verified, s.journal.commit = some cause → isOn s .safe = true → ∃ t,
      exec (.blackBoxCommitDone verified) s = .next t
      ∧ t.nvm.boxRecord = some {
          newest := s.journal.commitNewest, cause := BitVec.ofNat 32 (cause.toNat / 2 ^ 32)
          crc := BitVec.ofNat 32 (areaCrc s.nvm.boxArea), erases := min (eraseCount s + 1) 99000 }
      ∧ t.aon.commitCount = min (s.aon.commitCount + 1) (2 ^ 32 - 1)
      ∧ (s.journal.commitNext = none → t.journal.commit = none ∧ t.nvm.boxGood = verified)
      ∧ (verified = false → (blockOf t 0x16).bits.getLsbD (kindBit 0x16 0x3A) = true))
  ∧ (∀ s, exec .commitAllowanceRefill s
      = .next { s with aon := { s.aon with commitAllowance := min 4 (s.aon.commitAllowance + 1) } })

/-- O20. The safety functions' commands (R340, R378 to R381, R384, R388, R390, R391). -/
def Obligations.SafetyCommandsActOnTheBeam : Prop :=
  (∀ s a b, inReset s = false → isOn s .safe = true → ∃ t, exec (.beamReqChange a b) s = .next t
      ∧ (isOn t .safe = true → t.safety.reqA = a ∧ t.safety.reqB = b)
      ∧ t.safety.agreed = (if a = b then s.safety.agreed else some a)
      ∧ (beamAllowed t = false → ∀ p, (t.link.get p).enable = false))
  ∧ (∀ s, inReset s = false → isOn s .safe = true → beamReading s = none → kindActive s 0x3D = false →
      (s.power.options.beamHoldsRun = true ∨ s.power.votes.sm = 0) → ∃ t,
      exec .beamReqDiscrepancy s = .next t
      ∧ t.safety.discrepancyCount = min (s.safety.discrepancyCount + 1) (2 ^ 32 - 1)
      ∧ isActive t 0x3D 0x18 = true ∧ beamRequestAgreed t = 2)
  ∧ (∀ s r, beamReading s = some r → isActive s 0x3D 0x18 = true → ∃ t, exec .discrepancyExit s = .next t
      ∧ t.safety.agreed = some r ∧ isActive t 0x3D 0x18 = false ∧ t.aon.recoveries = s.aon.recoveries)
  ∧ (∀ s demand, outputDemanded s = true → kindActive s 0x3E = false →
      exec (.safeOutTest true false demand) s = .next { s with safety :=
        if demand then { s.safety with abandoned := min (s.safety.abandoned + 1) (2 ^ 32 - 1) }
        else { s.safety with testCount := min (s.safety.testCount + 1) (2 ^ 32 - 1), retestDue := false } })
  ∧ (∀ s high2 high4 demand, outputDemanded s = true → kindActive s 0x3E = false →
      high2 = false ∨ (high4 = true ∧ demand = false) → ∃ t,
      exec (.safeOutTest high2 high4 demand) s = .next t
      ∧ t.safety.testCount = (if high2 then min (s.safety.testCount + 1) (2 ^ 32 - 1) else s.safety.testCount)
      ∧ Raised 0x3E 0x18 { s with safety := t.safety } t)
  ∧ (∀ s, isOn s .safe = true → s.journal.scanned = true → ∃ t, exec .commissioningCheckComputed s = .next t
      ∧ t.safety.computed = checkValue s
      ∧ t = { s with safety := t.safety, ceiling := t.ceiling }
      ∧ (s.safety.startPassed = true → t.safety.state = commissioningState t)
      ∧ (s.safety.startPassed = true → t.safety.state = 1 → t.ceiling.sourceNext = 0)
      ∧ (t.safety.state ≠ 1 → t.ceiling = s.ceiling))
  ∧ (∀ s, isOn s .pix = true → isOn s .safe = true → s.safeBeam.copying = true → ∃ t, exec .safeBeamCopyDone s = .next t
      ∧ t.safeBeam = { s.safeBeam with
          copy := some s.nvm.area, copying := false, repairing := []
          valid := patternValid s.nvm.area, ceilingValid := factoryValid s.nvm.area }
      ∧ t = { s with safeBeam := t.safeBeam, ceiling := t.ceiling }
      ∧ (s.ceiling.source = 0 → t.ceiling = s.ceiling)
      ∧ (s.ceiling.source ≠ 0 → t.ceiling.source = if factoryValid s.nvm.area then 1 else 2))
  ∧ (∀ s tile flaws e x, inReset s = false → isOn s .safe = true → isOn s .link = true → s.scan.running = true →
      s.units.sm = .ready → tile < 2048 → tile ∉ s.checker.judged → sampledFrame s (Port.ofNum (tile / 512)) tile = some e →
      forwarded s e (Port.ofNum (tile / 512)) (tile % 512) flaws = some x → ∃ t,
      exec (.smTileJudged tile flaws) s = .next t
      ∧ t.checker.checked = s.checker.checked + 1
      ∧ (crcAgrees x = true → belowFloor s tile x = false → t.checker.disagreed = s.checker.disagreed)
      ∧ (crcAgrees x = false ∨ belowFloor s tile x = true →
          t.checker.disagreed = min (s.checker.disagreed + 1) (2 ^ 32 - 1)
          ∧ (blockOf t 0x19).bits.getLsbD (kindBit 0x19 0x3F) = true)
      ∧ (ceilingBroken s (Port.ofNum (tile / 512)) (tile % 512) x = false → t.checker.violations = s.checker.violations)
      ∧ (ceilingBroken s (Port.ofNum (tile / 512)) (tile % 512) x = true →
          t.checker.violations = min (s.checker.violations + 1) (2 ^ 32 - 1) ∧ isActive t 0x41 0x19 = true))

/-- O21. EIGHTH_BOUNDARY (R40, R42, R43, R52 to R55, R63). -/
def Obligations.EighthBoundaryAdvancesTheScan : Prop :=
  let powered := fun (s : State) => inReset s = false ∧ isOn s .link = true ∧ isOn s .pix = true ∧ isOn s .core = true
  (∀ s leap bad, powered s → s.scan.running = true → s.scan.pos ≠ 4095 → ∃ t,
      exec (.eighthBoundary leap bad) s = .next t
      ∧ t.scan = { s.scan with
          pos := s.scan.pos + 1, eighths := s.scan.eighths + 1
          dt := s.scan.dt + BitVec.ofNat 48 ((s.scan.clkRest + s.scan.clocks) / 200)
          clkRest := (s.scan.clkRest + s.scan.clocks) % 200
          clkTotal := s.scan.clkTotal + s.scan.clocks
          clocks := (s.scan.phi.toNat + s.scan.period) / 2 ^ 24
          phi := BitVec.ofNat 24 (s.scan.phi.toNat + s.scan.period) }
      ∧ t.aon.leap = s.aon.leap + BitVec.ofNat 40 leap
      ∧ t.almanac.maskCount = s.almanac.maskCount)
  ∧ (∀ s leap bad, powered s → (s.scan.running = true ∧ s.scan.pos = 4095 ∨ s.scan.running = false) →
      s.caravan.adopt = none → s.power.votes.cp &&& allDomains ≠ 0 → ∃ t,
      exec (.eighthBoundary leap bad) s = .next t
      ∧ t.scan.running = true ∧ t.scan.pos = 0 ∧ t.scan.firstFrame = false
      ∧ t.scan.epoch = (if s.scan.firstFrame then s.scan.epoch else s.scan.epoch + 1)
      ∧ t.scan.dt = (if s.scan.running
          then s.scan.dt + BitVec.ofNat 48 ((s.scan.clkRest + s.scan.clocks) / 200) else s.scan.dt)
      ∧ t.scan.rate = (match s.scan.rateNext.find? fun x => decide (x.2 ≤ 1) with
          | some x => x.1
          | none => s.scan.rate)
      ∧ t.almanac.maskCount = (if s.almanac.restart then 0 else s.almanac.maskCount + 1)
      ∧ t.aon.shadow.dt = t.scan.dt ∧ t.aon.shadow.epoch = t.scan.epoch
      ∧ t.aon.shadow.leap = s.aon.leap + BitVec.ofNat 40 leap)
  ∧ (∀ s leap bad, ¬powered s → exec (.eighthBoundary leap bad) s
      = .next { s with aon := { s.aon with leap := s.aon.leap + BitVec.ofNat 40 leap } })

/-- O22. The commands of the Almanac and of the references (R44 to R48, R56, R60, R61, R68, R69, R72, R245, R295). -/
def Obligations.AlmanacAndReferenceCommands : Prop :=
  let cleared := fun (s : State) (n : Nat) =>
    (⟨0xA100 + n / 256, n % 256, 1, 12,
      (disabledEntry (BitVec.ofNat 96 (cfg s (0xA100 + n / 256) (n % 256)))).toNat, none⟩ : JWrite)
  let offer := fun (s : State) (n : Nat) =>
    if s.journal.queue.any (fun w => w.index == 0xA100 + n / 256 && w.sub == n % 256) then s
    else match judgeWrite s (cleared s n) with
      | .taken => { s with journal := { s.journal with queue := s.journal.queue ++ [cleared s n] } }
      | .busy => s
      | .full => raiseJournal (0xA100 + n / 256) (n % 256) s
  (∀ s, s.almanac.pulse = some 0 → exec .syncOutPulseEnd s
      = .next { s with almanac := { s.almanac with syncOut := false, pulse := none } })
  ∧ (∀ s raw c rest, s.hk.queue = c :: rest → c < 256 → s.hk.ring.length = 16 → s.hk.ringNext < 16 → ∃ t,
      exec (.sampleHkConversionDone raw) s = .next t ∧ t = { s with hk := t.hk }
      ∧ t.hk.queue = rest ∧ t.hk.result.toNat / 2 ^ 24 = c
      ∧ t.hk.ring[s.hk.ringNext]? = some t.hk.result
      ∧ t.hk.ringNewest = s.hk.ringNext ∧ t.hk.ringNext = (s.hk.ringNext + 1) % 16)
  ∧ (∀ s firmware, cpReady s = true → isOn s .pix = true → ∃ t, exec (.almanacReloadDone firmware) s = .next t
      ∧ t.almanac.ready = true ∧ t = { s with almanac := t.almanac }
      ∧ t.almanac.entries = (integratorEntries s ++ firmwareEntries firmware).foldl (fun m e => putEntry e.1 e.2 m) [])
  ∧ (∀ s e, entryAction e = 0x01 →
      (28 ≤ entryTarget e → entryActs e s = s)
      ∧ (entryTarget e < 28 → entryTarget e ≠ 22 → entryTarget e ≠ 23 → entryActs e s = { s with hk :=
          if s.hk.queue.length < 16 then { s.hk with queue := s.hk.queue ++ [entryTarget e] }
          else { s.hk with dropCount := min (s.hk.dropCount + 1) (2 ^ 32 - 1) } }))
  ∧ (∀ s, cpReady s = true → exec .almanacOneshotJournalRetry s = .next (s.almanac.unsaved.foldl offer s))
  ∧ (∀ s rising fraction, s.scan.running = true → edgeSelected s.scan.ref.edge rising = true →
      s.power.backupClock = false → takesSource s.scan 2 = true →
      (tooEarly s.scan (eventClock s.scan (fraction % 256)) = true →
        exec (.syncInEdge rising fraction) s = .next { s with scan := { s.scan with
          rejectCount := min (s.scan.rejectCount + 1) (2 ^ 32 - 1) } })
      ∧ (tooEarly s.scan (eventClock s.scan (fraction % 256)) = false → s.scan.active = 2 → s.scan.lock = .acquiring →
          s.scan.eventCount = 0 → ∃ t, exec (.syncInEdge rising fraction) s = .next t
          ∧ t.scan.phaseError = wrapPhase (captured s.scan (fraction % 256) 4 - ((s.scan.ref.phase * 256 : Nat) : Int))
          ∧ t.scan.delta.natAbs ≤ s.scan.ref.clamp * 1000
          ∧ t.scan.period = periodOf s.scan.rate t.scan.delta
          ∧ t.scan.lastEvent = some (eventClock s.scan (fraction % 256))
          ∧ (t.scan.lock = .locked ↔ t.scan.phaseError.natAbs ≤ 256 ∧ s.scan.goodRun ≥ 15)))
  ∧ (∀ s lane packet fraction, isOn s .link = true → (hostLane s lane).state = 1 → onControlLane s lane packet = true →
      s.host.queue = [] → recordsWait s = false →
      uhlGood packet 5 24 = true → packet.payload.length = 16 → bitsOf (leNat packet.payload) 64 16 ≤ 4095 →
      bitsOf (leNat packet.payload) 80 48 = 0 →
      (hostLane s lane).lastSeq ≠ some (BitVec.ofNat 16 (hdrSequence packet.header)) → ∃ t,
      exec (.uhlTimeSync lane packet fraction) s = .next t
      ∧ t.scan.hostTime = BitVec.ofNat 64 (leNat packet.payload)
      ∧ t.scan.dtAtSync = s.scan.dt + BitVec.ofNat 48 ((s.scan.clkRest + fraction % 256 * s.scan.clocks / 256) / 200))
  ∧ (∀ s, s.scan.lock = .acquiring ∨ s.scan.lock = .locked → ∃ t, exec .referenceHoldover s = .next t
      ∧ t.scan = { s.scan with lock := .holdover, goodRun := 0, badRun := 0, lastEvent := none }
      ∧ Noted 0x44 0x1D { s with scan := t.scan } t)
  ∧ (∀ s, s.scan.onFallback = true → s.power.backupClock = false → exec .referencePrimaryReturn s
      = .next { s with scan := { s.scan with
          lock := .acquiring, active := s.scan.ref.primary, onFallback := false
          eventCount := if s.scan.lock = .freeRun then 0 else s.scan.eventCount
          goodRun := 0, badRun := 0, lastEvent := none } })
  ∧ (∀ s count, isOn s .core = true → s.power.backupClock = false → count ≠ 0 → exec (.rcMeasureWindow count) s
      = .next { s with aon := { s.aon with shadow := { s.aon.shadow with nRef := count, measured := true } } })
  ∧ (∀ s, inStop s = true → exec .leapWrapped s = .next { s with aon := { s.aon with
      leapWrapped := true, shadow := { s.aon.shadow with wrapped := true } } })

/-- O23. The commands of the fetch engines, of pinning, of the mesh inverter and of the planner (R87 to R92, R97, R98, R102, R113). -/
def Obligations.SourceTilesAndPinsAreJudged : Prop :=
  (∀ s p n k flaws f, s.compose.busy = true → s.compose.older = none → readingSurface s p n k = some f →
      storedTile s p n f k = none → ∃ t,
      exec (.tileDecodeDone p n k flaws) s = .next t ∧ t = { s with fetch := { s.fetch with store := t.fetch.store } }
      ∧ storedTile t p n f k = some (match readTile s f (bufferOf s f) k flaws with
          | some xs => .decoded xs
          | none => .failedOnce))
  ∧ (∀ s p n k flaws f, s.compose.busy = true → s.compose.older = none → readingSurface s p n k = some f →
      storedTile s p n f k = some .failedOnce → ∃ t,
      exec (.tileRefetchDone p n k flaws) s = .next t
      ∧ OnlyFaultParts { s with fetch := t.fetch } t
      ∧ (∀ xs, readTile s f (bufferOf s f) k flaws = some xs →
          storedTile t p n f k = some (.decodedAgain xs) ∧ t.fetch.refetchCount = min (s.fetch.refetchCount + 1) (2 ^ 32 - 1)
          ∧ t.fetch.lastFailed = s.fetch.lastFailed ∧ (s.compose.frame, 6, n) ∈ t.fetch.raised)
      ∧ (readTile s f (bufferOf s f) k flaws = none →
          storedTile t p n f k = some .failed ∧ t.fetch.refetchCount = s.fetch.refetchCount
          ∧ t.fetch.lastFailed = BitVec.ofNat 32 (n * 2 ^ 29 + f * 2 ^ 20 + k)
          ∧ (s.compose.frame, (if isCritical s s.compose.manifest n then 8 else 7), n) ∈ t.fetch.raised
          ∧ t.fetch.transparentCount = (if isCritical s s.compose.manifest n then s.fetch.transparentCount
              else min (s.fetch.transparentCount + 1) (2 ^ 32 - 1))))
  ∧ (∀ s p n k f, s.compose.busy = true → s.compose.older = none → readingSurface s p n k = some f →
      storedTile s p n f k = none ∨ storedTile s p n f k = some .failedOnce → ∃ t,
      exec (.tileLateTimeout p n k) s = .next t
      ∧ OnlyFaultParts { s with fetch := t.fetch } t
      ∧ storedTile t p n f k = some .failed ∧ t.fetch.lateCount = min (s.fetch.lateCount + 1) (2 ^ 32 - 1)
      ∧ t.fetch.lastFailed = BitVec.ofNat 32 (n * 2 ^ 29 + f * 2 ^ 20 + k))
  ∧ (∀ s f, pinState s f = 1 → ∃ t, exec (.pinCopyDone f) s = .next t
      ∧ t = { s with fetch := { s.fetch with pins := t.fetch.pins }, faults := t.faults }
      ∧ (∀ ts, dramReadable s = true → pinTiles s f = some ts → otherPinnedBytes s f + pinSize ts ≤ 2097152 →
          ∃ x, pinOf t f = some x ∧ x.state = 2 ∧ x.next = some ts ∧ x.bytes = pinSize ts)
      ∧ (dramReadable s = false ∨ pinTiles s f = none → pinState t f = 3)
      ∧ (∀ ts, pinTiles s f = some ts → otherPinnedBytes s f + pinSize ts > 2097152 → pinState t f = 3))
  ∧ (∀ s p, (s.warp.get p).inverting = true → exec (.meshInversionDone p) s
      = .next { s with warp := s.warp.modify p fun w => { w with inverting := false, done := true } })
  ∧ (∀ s, isOn s .pix = true → exec .plannerRecomputeDone s = .next { s with manifest := { s.manifest with
      stagedFigures := figuresOf s s.manifest.staged, recompute := false } })

/-- O24. Refills (R124, R125, R135), staleness (R128), the ceiling (R130), the composer (R358, R442). -/
def Obligations.ManifestShadeAndComposerCommands : Prop :=
  (∀ s, s.manifest.refilling = true → exec .manifestRefillDone s = .next { s with manifest := { s.manifest with
      staged := s.manifest.committed, stagedFigures := s.manifest.committedFigures, refilling := false } })
  ∧ (∀ s, s.shade.refilling = true → ∃ t, exec .stagedBankRefillDone s = .next t
      ∧ t.shade.refilling = false ∧ t.shade.waiting = none ∧ t.shade.active = s.shade.active
      ∧ (s.shade.waiting = none →
          t = { s with shade := { s.shade with staged := s.shade.active, refilling := false, waiting := none } })
      ∧ (∀ objs, s.shade.waiting = some objs → t.shade.staged = objs ∧ t.shade.written = true
          ∧ t.shade.freshAt = dtNow s ∧ t.shade.stale = false))
  ∧ (∀ s, isOn s .pix = true → s.shade.armed = true → s.shade.stale = false →
      cfg s 0x3300 2 < shadeAge s → ∃ t, exec .shadeStale s = .next t
      ∧ t.shade = { s.shade with stale := true } ∧ Raised 0x0B 0x06 { s with shade := t.shade } t)
  ∧ (∀ s, reloadDue s = true → cpReady s = true → ∃ t, exec .ceilingMapReloadDone s = .next t
      ∧ OnlyFaultParts { s with ceiling := t.ceiling } t
      ∧ (isLatched s 0x0D = false → isActive t 0x0D 0x07 = false)
      ∧ t.ceiling = { s.ceiling with
          bad := (s.ceiling.bad.filter fun b => !b.overdue).map fun b => { b with reloaded := true } })
  ∧ (∀ s, isOn s .pix = true → s.compose.busy = true → s.units.composerRestart = false → ∃ t,
      exec .composerStall s = .next t
      ∧ t.units = { s.units with composerRestart := true }
      ∧ t.manifest = { s.manifest with safeUntilCommit := true, commitSeen := false }
      ∧ t.compose = { s.compose with
          busy := false, due := false, begun := false, staged := [], stagedRows := PerPort.const 0
          older := none, unpublished := none, ring := [] }
      ∧ Raised 0x0C 0x06 { s with units := t.units, manifest := t.manifest, compose := t.compose } t
      ∧ ∀ r ∈ t.faults.unacked, r.unit ≠ 0x06)
  ∧ (∀ s, s.units.composerRestart = true → ∃ t, exec .composerRestartDone s = .next t
      ∧ t = { s with units := { s.units with composerRestart := false }, manifest := { s.manifest with
          pending := s.manifest.pending || (isOn s .pix && !manifestFrozen s) } })

/-- O25. The composer's and the scan-out engine's commands (R26, R87, R139, R140, R146 to R148, R153). -/
def Obligations.CompositionFillsTheFrame : Prop :=
  (∀ s p zr bad, composing s p = true → s.compose.busy = true → s.compose.racing = false → zr < 4 →
      s.compose.stagedRows.get p = zr → ∃ t,
      exec (.zoneRowStagingDone p zr bad) s = .next t
      ∧ (∀ k < 128, ∃ x ∈ t.compose.staged, x.frame = s.compose.frame ∧ x.port = p ∧ x.tile = 128 * zr + k)
      ∧ (s.compose.due = false → t.compose.frame = s.compose.frame ∧ t.compose.out = s.compose.out
          ∧ t.compose.stagedRows = s.compose.stagedRows.set p (zr + 1))
      ∧ (s.compose.due = true → zr = 3 → (∀ q ∈ canvasPorts s, q ≠ p → s.compose.stagedRows.get q = 4) →
          t.compose.frame = s.compose.frame + 1 ∧ t.compose.busy = true ∧ t.compose.racing = false ∧ t.compose.due = false
          ∧ t.compose.unpublished = some (s.compose.frame, s.compose.scales)))
  ∧ (∀ s p row col lower bad x, composing s p = true → row < 16 → col < 32 → s.compose.racing = false →
      s.compose.older = none → isComposed s p (row * 32 + col) false = false →
      (s.compose.staged.find? fun y => y.port == p && y.tile == row * 32 + col) = some x → ∃ t o,
      exec (.tileComposed p row col lower bad) s = .next t
      ∧ outTile t s.compose.frame p (row * 32 + col) false = some o ∧ o.duties.length = 1024
      ∧ tstEntry t (tstIndex false s.compose.frame p (row * 32 + col) false)
          = ⟨tstIndex false s.compose.frame p (row * 32 + col) false, true, x.held, signature o.duties⟩)
  ∧ (∀ s p row col (lower : Bool) bad, composing s p = true → row < 16 → col < 32 → s.compose.racing = true →
      s.compose.older = none → s.compose.band = 2 * row + (if lower then 1 else 0) →
      (openHalves s).head? = some (p, col) → ∃ t o held,
      exec (.tileComposed p row col lower bad) s = .next t
      ∧ outTile t s.compose.frame p (row * 32 + col) lower = some o ∧ o ∈ t.compose.ring ∧ o.duties.length = 512
      ∧ tstEntry t (tstIndex true s.compose.frame p (row * 32 + col) lower)
          = ⟨tstIndex true s.compose.frame p (row * 32 + col) lower, true, held, signature o.duties⟩)
  ∧ (∀ s p row col (lower : Bool) flaws, isOn s .link = true → hasPort s p = true → row < 16 → col < 32 →
      let frame := readFrame s row lower
      let racing := frameRacing s frame
      let tile := row * 32 + col
      let z := zoneAt (32 * col) (32 * row)
      let read := checkedRead s frame racing p tile (racing && lower) flaws (s.compose.badTiles.contains (p.num * 512 + tile))
      let instead := substitute s frame p tile z (racing && lower)
      let into := fun (ds : List Nat) => (⟨frame, p, tile, racing && lower, ds, (framePair s p frame z).n,
        tileWords s frame p tile racing (racing && lower)⟩ : Checked)
      ∃ t ds, exec (.scanOutTileCheck p row col lower flaws) s = .next t
      ∧ into ds ∈ t.compose.checked
      ∧ (∀ y ∈ t.compose.checked, y.port = p → y.tile = tile → y.lower = (racing && lower) → y = into ds)
      ∧ (∀ xs, read = some xs → ds = xs ∧ t.compose.mismatchCount = s.compose.mismatchCount
          ∧ t.compose.fallbackCount = s.compose.fallbackCount)
      ∧ (read = none → t.compose.mismatchCount = min (s.compose.mismatchCount + 1) (2 ^ 32 - 1) ∧ p ∈ t.compose.mismatched)
      ∧ (∀ xs, read = none → instead = some xs → ds = xs ∧ t.compose.fallbackCount = s.compose.fallbackCount)
      ∧ (read = none → instead = none → t.compose.fallbackCount = min (s.compose.fallbackCount + 1) (2 ^ 32 - 1)
          ∧ ds = safeTile s frame p row col (if racing && lower then 16 else 0) (if racing then 16 else 32) z))
  ∧ (∀ s, isOn s .pix = true → (s.compose.busy || s.compose.unpublished.isSome) = true →
      let e := endingFrame s
      ∃ t, exec .frameCompositionDone s = .next t
      ∧ (cpReady s = false → t.toll.measured = [])
      ∧ (cpReady s = true → ∃ m, t.toll.measured = s.toll.measured ++ [m] ∧ m.frame = e.1 ∧ m.scales = e.2
          ∧ ∀ p, m.power.get p = litPower t p ∧ m.demand.get p = (t.compose.zones.get p).pubClass)
      ∧ t.compose.unpublished = none
      ∧ t.compose.busy = (s.compose.busy && s.compose.unpublished.isSome)
      ∧ t.fetch.store = s.fetch.store.filter (fun x => x.frame != e.1)
      ∧ ∀ p, (t.compose.zones.get p).pubPeaks
            = ofFrame 0 1 (s.compose.zones.get p) e.1 (s.compose.zones.get p).peaks (s.compose.zones.get p).prevPeaks
          ∧ (t.compose.zones.get p).pubSums
            = ofFrame 0 1 (s.compose.zones.get p) e.1 (s.compose.zones.get p).dutySums (s.compose.zones.get p).prevSums)

/-- O26. The four commands answer a next state under conditions on the state and the operands alone (R26, R139, R140, R146, R147). -/
def Obligations.TheComposersCommandsComplete : Prop :=
  (∀ s p zr bad, composing s p = true → s.compose.busy = true → s.compose.racing = false → zr < 4 →
      s.compose.stagedRows.get p = zr → s.compose.due = false →
      ∃ t, exec (.zoneRowStagingDone p zr bad) s = .next t ∧ t.compose.stagedRows.get p = zr + 1
      ∧ (∀ q, q ≠ p → t.compose.stagedRows.get q = s.compose.stagedRows.get q)
      ∧ OnlyFaultParts { s with
          compose := t.compose, fetch := t.fetch, shade := t.shade, ceiling := t.ceiling, headroom := t.headroom } t
      ∧ t.dict = s.dict ∧ t.nvm = s.nvm ∧ t.scan = s.scan)
  ∧ (∀ s p row col lower bad x, composing s p = true → row < 16 → col < 32 → s.compose.racing = false →
      s.compose.older = none → (s.compose.staged.find? fun y => y.port == p && y.tile == row * 32 + col) = some x →
      ∃ t, exec (.tileComposed p row col lower bad) s = .next t ∧ isComposed t p (row * 32 + col) false = true
      ∧ t.compose.frame = s.compose.frame ∧ t.compose.staged = s.compose.staged
      ∧ OnlyFaultParts { s with compose := t.compose, fetch := t.fetch, pixels := t.pixels } t
      ∧ t.dict = s.dict ∧ t.nvm = s.nvm ∧ t.scan = s.scan)
  ∧ (∀ s p row col (lower : Bool) bad, composing s p = true → row < 16 → col < 32 → s.compose.racing = true →
      s.compose.older = none → s.compose.band = 2 * row + (if lower then 1 else 0) →
      (openHalves s).head? = some (p, col) →
      ∃ t, exec (.tileComposed p row col lower bad) s = .next t ∧ isComposed t p (row * 32 + col) lower = true
      ∧ t.compose.frame = s.compose.frame ∧ t.compose.band = s.compose.band
      ∧ OnlyFaultParts { s with
          compose := t.compose, fetch := t.fetch, shade := t.shade, ceiling := t.ceiling, pixels := t.pixels } t
      ∧ t.dict = s.dict ∧ t.nvm = s.nvm ∧ t.scan = s.scan)
  ∧ (∀ s p row col lower flaws, isOn s .link = true → hasPort s p = true → row < 16 → col < 32 →
      ∃ t, exec (.scanOutTileCheck p row col lower flaws) s = .next t
      ∧ (∃ x ∈ t.compose.checked, x.frame = readFrame s row lower ∧ x.port = p ∧ x.tile = row * 32 + col)
      ∧ t.compose.out = s.compose.out ∧ t.compose.tst = s.compose.tst ∧ t.compose.ring = s.compose.ring
      ∧ OnlyFaultParts { s with compose := t.compose } t
      ∧ t.dict = s.dict ∧ t.nvm = s.nvm ∧ t.scan = s.scan)
  ∧ (∀ s, isOn s .pix = true → (s.compose.busy || s.compose.unpublished.isSome) = true →
      ∃ t, exec .frameCompositionDone s = .next t ∧ t.compose.unpublished = none
      ∧ t.compose.out = s.compose.out ∧ t.compose.tst = s.compose.tst ∧ t.compose.staged = s.compose.staged
      ∧ t.compose.frame = s.compose.frame ∧ t.dict = s.dict ∧ t.link = s.link ∧ t.nvm = s.nvm ∧ t.scan = s.scan)

/-- O27. Decisions of the thermal functions (R181, R296 to R298, R301, R302, R307, R312, R313). -/
def Obligations.ThermalDecisionsAct : Prop :=
  (∀ s k, k < 12 → isOn s .core = true → disagreement s k ≥ 3 →
      nth 0 (crossCheck s).hk.used k = neighbourMedian s k ∧ nth 0 (crossCheck s).hk.disagree k = disagreement s k)
  ∧ (∀ s k, k < 12 → nth 0 s.hk.disagree k ≥ 3 → isDisqualified s k = false → ∃ t,
      exec (.sensorDisqualify k) s = .next t
      ∧ (∀ j < 12, isDisqualified t j = (isDisqualified s j || j == k))
      ∧ t.hk.raw = s.hk.raw ∧ t.hk.used = s.hk.used
      ∧ Noted 0x2C 0x13 { s with hk := t.hk } t
      ∧ (2 ≤ badSensors t (k < 8) → isActive t 0x2D 0x13 = true ∧ (if k < 8 then t.hk.shiftLd else t.hk.shiftAd) = true)
      ∧ ((if k < 8 then 4 else 3) ≤ badSensors t (k < 8) → isActive t 0x2E 0x13 = true))
  ∧ (∀ s l, nth 0 s.hk.below (locationIndex l) ≥ 2 → locationIndex l < s.hk.thermal.length →
      thermalOf s l = .throttle ∨ thermalOf s l = .warning → ∃ t, exec (.thermalStateFall l) s = .next t
      ∧ thermalOf t l = (if thermalOf s l = .throttle then .warning else .normal)
      ∧ (∀ m, locationIndex m ≠ locationIndex l → thermalOf t m = thermalOf s m)
      ∧ OnlyFaultParts { s with hk := t.hk } t
      ∧ (thermalOf s l = .throttle → (blockOf t 0x13).bits.getLsbD (kindBit 0x13 0x2A) = true)
      ∧ (t.hk.thermal.contains .throttle = false → isLatched s 0x2B = false → isActive t 0x2B 0x13 = false))
  ∧ (∀ s p, hasPort s p = true → thermalOf s (.array p) ≠ .shutdown → 2 + p.num < s.hk.thermal.length →
      nth 0 s.hk.hot (2 + p.num) ≥ 2 ∨ s.hk.overTemp.get p = true → ∃ t, exec (.arrayThermalShutdown p) s = .next t
      ∧ thermalOf t (.array p) = .shutdown ∧ (t.link.get p).enable = false
      ∧ Raised (0x31 + p.num) 0x13 { s with hk := t.hk, link := t.link } t)
  ∧ (∀ s p, thermalOf s (.array p) = .shutdown → 2 + p.num < s.hk.thermal.length →
      nth 0 s.hk.cool (2 + p.num) ≥ 2 → ∃ t, exec (.arrayRestart p) s = .next t
      ∧ thermalOf t (.array p) = impliedState (thresholdsOf s (.array p)) (comparedValue s (.array p))
      ∧ OnlyFaultParts { s with hk := t.hk } t
      ∧ (isLatched s (0x31 + p.num) = false → isActive t (0x31 + p.num) 0x13 = false))
  ∧ (∀ s, s.hk.refBad ≥ 2 → ∃ t, exec .referenceDisagreement s = .next t ∧ Raised 0x36 0x14 s t)
  ∧ (∀ s p, (s.headroom.get p).lowRounds ≥ 8 → ∃ t, exec (.portSupplyInsufficient p) s = .next t
      ∧ Raised (0x1F + p.num) (0x0A + p.num) s t)
  ∧ (∀ s p q, q < 4 → nth 0 (modelOf s p).sensorBad q ≥ 3 → (modelOf s p).sensorOut.length = 4 →
      nth false (modelOf s p).sensorOut q = false → ∃ t, exec (.arraySensorDisqualify p q) s = .next t
      ∧ modelOf t p = { modelOf s p with sensorOut := (modelOf t p).sensorOut }
      ∧ (∀ r < 4, nth false (modelOf t p).sensorOut r = (nth false (modelOf s p).sensorOut r || r == q))
      ∧ (∀ r, r ≠ p → modelOf t r = modelOf s r) ∧ Noted 0x30 0x13 { s with toll := t.toll } t)
  ∧ (∀ s p, (modelOf s p).diverge ≥ 64 → (modelOf s p).divergent = false → ∃ t,
      exec (.tollModelDivergence p) s = .next t
      ∧ t.toll = { s.toll with models := s.toll.models.set p { modelOf s p with
          divergent := true, reinit := true, reinited := false, goodSince := 0 } }
      ∧ Raised 0x35 0x13 { s with toll := t.toll } t)
  ∧ (∀ s p, (modelOf s p).agree ≥ 64 → (modelOf s p).divergent = true → ∃ t,
      exec (.modelDivergenceClear p) s = .next t
      ∧ t.toll = { s.toll with models := s.toll.models.set p { modelOf s p with
          divergent := false, reinit := false, reinited := false } }
      ∧ OnlyFaultParts { s with toll := t.toll } t
      ∧ ((∃ q, (modelOf t q).divergent = true) → t = { s with toll := t.toll })
      ∧ ((∀ q, (modelOf t q).divergent = false) → isLatched s 0x35 = false →
          (∀ a ∈ s.faults.active, a.kind = 0x35 → a.escalated = false) → isActive t 0x35 0x13 = false))

/-- O28. The class-by-class solution of the Toll (R317). -/
def Obligations.TollSolutionMeetsItsLimits : Prop :=
  ∀ (w : Table) (cs : List Constraint), (solveToll w cs).length = 4
    ∧ (∀ k < 4, nth 0 (solveToll w cs) k ≤ fullScale32) ∧ nth 0 (solveToll w cs) 0 = fullScale32
    ∧ ∀ c ∈ cs, isMet w (solveToll w cs) c = true
        ∨ ∀ k, 1 ≤ k → k < 4 → classPower w c k * nth 0 (solveToll w cs) k = 0

/-- O29. The Toll, ageing, full scale and the housekeeping round (R172 to R175, R293, R308, R315, R317, R318, R362). That a
divergence is handled at the next frame boundary is log 174's choice. -/
def Obligations.CalibrationAndTollCommands : Prop :=
  (∀ s m ms, cpReady s = true → s.toll.measured = m :: ms → ∃ t new, exec .tollComputationDone s = .next t
      ∧ t = { s with toll := { s.toll with
          w := t.toll.w, coming := s.toll.coming ++ [(m.frame + 2, new)], measured := ms
          stateNext := t.toll.stateNext, portToll := t.toll.portToll, total := t.toll.total } }
      ∧ t.toll.stateNext < 4 ∧ new.length = 4 ∧ nth 0 new 0 = 0x8000 ∧ (∀ k < 4, nth 0 new k ≤ 0x8000)
      ∧ (∀ p, t.toll.portToll.get p = portAllowance s p * s.hk.m / 32768)
      ∧ t.toll.total = totalAllowance s * s.hk.m / 32768)
  ∧ (∀ s epoch,
      let due := s.toll.coming.filter fun x => decide ((epoch - x.1).toNat < 2 ^ 31)
      (due = [] → (takeScales epoch s).toll.scales = s.toll.scales)
      ∧ (∀ e, due.getLast? = some e → ∀ k < 4, nth 0x8000 (takeScales epoch s).toll.scales k
          = min (nth 0x8000 e.2 k) (nth 0x8000 s.toll.scales k + 0x0400)))
  ∧ (∀ s, cpReady s = true → s.toll.state ≤ 2 → ∃ t, exec .ageAveragingPeriod s = .next t ∧ t.drive.ages = []
      ∧ ((∀ a ∈ s.drive.ages, targetAge (cfg s (0x4200 + (portOfPixel a.pixel).num) 1) a ≤ wordAge (latestWord s a.pixel)) →
          t = { s with drive := { s.drive with ages := [] } })
      ∧ (∀ a, s.drive.ages = [a] → s.drive.queue.length + s.drive.applying.length < queueLimit →
          wordAge (latestWord s a.pixel) < targetAge (cfg s (0x4200 + (portOfPixel a.pixel).num) 1) a →
          wordAge (latestWord t a.pixel) = wordAge (latestWord s a.pixel) + 1))
  ∧ (∀ s, cpReady s = true → s.toll.state ≤ 2 → ∃ t, exec .ageWriteback s = .next t
      ∧ t = { s with drive := { s.drive with master := t.drive.master } }
      ∧ (∀ x, (∀ e ∈ s.drive.calMap, e.1 ≠ x) → masterOf t x = masterOf s x)
      ∧ ((s.drive.calMap.map (·.1)).Nodup → ∀ e ∈ s.drive.calMap, wordAge (masterOf t e.1).word = wordAge e.2))
  ∧ (∀ s p, cpReady s = true → s.toll.state ≤ 1 → (s.drive.fullScale.get p).rounds ≥ 4096 → ∃ t,
      exec (.fullScaleEstimate p) s = .next t
      ∧ (t.drive.fullScale.get p).rounds = 0
      ∧ (fitK (s.drive.fullScale.get p) = none → t.drive.fullScale.get p = clearWindow (s.drive.fullScale.get p))
      ∧ ∀ k, fitK (s.drive.fullScale.get p) = some k → (t.drive.fullScale.get p).estimate = k
        ∧ (kGood k = true → (t.drive.fullScale.get p).frozen = false
            ∧ 0x6666 ≤ (t.drive.fullScale.get p).correction ∧ (t.drive.fullScale.get p).correction ≤ 0xA000
            ∧ (0x6666 ≤ (s.drive.fullScale.get p).correction → (s.drive.fullScale.get p).correction ≤ 0xA000 →
              (t.drive.fullScale.get p).correction ≤ (s.drive.fullScale.get p).correction + 0x20
              ∧ (s.drive.fullScale.get p).correction ≤ (t.drive.fullScale.get p).correction + 0x20))
        ∧ (kGood k = false → (t.drive.fullScale.get p).frozen = true
            ∧ (t.drive.fullScale.get p).correction = (s.drive.fullScale.get p).correction ∧ isActive t 0x42 0x1C = true))
  ∧ (∀ s p, cpReady s = true → (s.faults.active.any fun a => a.kind == 0x42 && a.timing) = true →
      (∀ a ∈ (restoreDivergence s).faults.active, a.kind = 0x42 → a.timing = false)
      ∧ ((s.drive.fullScale.get p).frozen = true → (restoreDivergence s).drive.fullScale.get p
          = { s.drive.fullScale.get p with correction := (s.drive.fullScale.get p).lastGood })
      ∧ ((s.drive.fullScale.get p).frozen = false → (restoreDivergence s).drive.fullScale.get p = s.drive.fullScale.get p))
  ∧ (∀ s raw ld leap, isOn s .safe = true → inReset s = false →
      s.power.votes.wake ||| s.power.votes.sbp = 0 ∨ s.power.votes.cp &&& allDomains ≠ 0 → ∃ t, exec (.housekeepingSlot raw ld leap) s = .next t
      ∧ t.hk.slot = (if s.hk.slot < 31 then s.hk.slot + 1 else 0)
      ∧ t.hk.round = (if s.hk.slot < 31 then s.hk.round else s.hk.round + 1)
      ∧ t.hk.gnd = (if s.hk.slot = 0 then raw % 4096 else s.hk.gnd)
      ∧ t.hk.bg = (if s.hk.slot = 1 then raw % 4096 else s.hk.bg)
      ∧ (t.hk.gndPrev, t.hk.bgPrev) = (if s.hk.slot < 31 then (s.hk.gndPrev, s.hk.bgPrev) else (s.hk.gnd, s.hk.bg))
      ∧ t.hk.m = (if s.hk.slot = 28 then
          (if t.hk.thermal.any fun x => x == .throttle || x == .shutdown then s.hk.m * 3 / 4
           else min 0x8000 (s.hk.m + 0x0400)) else s.hk.m)
      ∧ (s.hk.slot = 27 → t.hk.arrayTemps = s.hk.tempIn)
      ∧ t.aon.leap = s.aon.leap + BitVec.ofNat 40 leap
      ∧ t.scan.dt = (if isOn s .core && !s.scan.running then s.scan.dt + 32 else s.scan.dt))

/-- O30. Return packets (R197, R208 to R212, R342), pixel checks (R330 to R334, R345) and the echo (R338). That the record of a
stuck-lit pixel stands over that of a persistent echo is the model's choice (log 163). -/
def Obligations.ReturnPacketsAreJudged : Prop :=
  let taken := fun (s : State) (p : Port) (k : RxPacket) (ty n : Nat) =>
    hears s p ty = true ∧ packetGood k = true ∧ packetOfType k ty = true ∧ k.payload.length = n
  let sample := fun (s : State) (p : Port) (k : RxPacket) (e : Sample) =>
    taken s p k 9 4 ∧ samplesOf (hdrBand k.header) k.payload = [e]
  let confirming := fun (s : State) (p : Port) (e : Sample) (f : Confirm) =>
    ((s.pixels.get p).confirms.find? fun g => g.pixel == e.pixel) = some f ∧ f.started = true
  let decided := fun (t : State) (p : Port) (i code : Nat) =>
    statusOf t p i = code ∧ (t.pixels.get p).lastFailed = BitVec.ofNat 32 (p.num * 524288 + i)
      ∧ (∀ f ∈ (t.pixels.get p).confirms, f.pixel ≠ i) ∧ (blockOf t 0x09).bits.getLsbD (kindBit 0x09 0x0F) = true
  (∀ s p k c ty, (ty, c) ∈ [(8, Instr.bandStatus p k), (9, .vfSample p k), (0xA, .temp p k), (0xB, .ack p k),
        (0xB, .laneFail p k), (0xB, .holdExpired p k)] →
      (hears s p ty = (listening s p || (ty == 9 && isOn s .link && (s.link.get p).state == .lost)))
      ∧ (hears s p ty = false → exec c s = .next s)
      ∧ (hears s p ty = true → crcGood k = false → exec c s = .next { s with link := s.link.modify p fun l =>
          { l with codeErrors := l.codeErrors + k.codeErrors, counts := { l.counts with returnErrors := min (l.counts.returnErrors + 1) (2 ^ 32 - 1) } } })
      ∧ (hears s p ty = true → crcGood k = true → (k.codeErrors ≠ 0 ∨ packetOfType k ty = false) →
          exec c s = .next { s with link := s.link.modify p fun l => { l with codeErrors := l.codeErrors + k.codeErrors } }))
  ∧ (∀ s p k, taken s p k 8 2056 →
      let band := hdrBand k.header
      let v := leNat (k.payload.take 8)
      let mask := halfOf v 2
      let matched : Prop := echoOf (s.link.get p) (maskedRows band mask) = some (wordOf v 0)
      let flags := flaggedPixels band k.payload
      ∃ t, exec (.bandStatus p k) s = .next t
      ∧ (t.link.get p).returnGrace = false
      ∧ (t.link.get p).returnSeq = some (BitVec.ofNat 16 (hdrSequence k.header))
      ∧ (∀ r ∈ maskedRows band (halfOf v 3), r ∈ (t.link.get p).resend)
      ∧ (t.link.get p).counts.rowsNotLatched = min ((s.link.get p).counts.rowsNotLatched
          + ((dueRows (hdrEpoch k.header) (s.link.get p)).filter fun i => !bitOf mask i).length) (2 ^ 32 - 1)
      ∧ (matched → (t.pixels.get p).echoGood = (s.pixels.get p).echoGood + 1
          ∧ (t.pixels.get p).echoErrors = (s.pixels.get p).echoErrors)
      ∧ (¬matched → (t.pixels.get p).echoGood = 0
          ∧ (t.pixels.get p).echoErrors = min ((s.pixels.get p).echoErrors + 1) (2 ^ 32 - 1)
          ∧ (blockOf t 0x09).bits.getLsbD (kindBit 0x09 0x12) = true
          ∧ ((s.pixels.get p).echoFrame = false → (s.pixels.get p).echoRun ≥ 2 → (s.pixels.get p).echoHeld = false →
              (t.pixels.get p).echoHeld = true ∧ kindActive t 0x13 = true ∧ (t.link.get p).enable = false
              ∧ t.nvm.disabled.get p = if s.nvm.disabled.get p = 1 then 1 else 2))
      ∧ ((s.link.get p).enable = false → (t.pixels.get p).candidates = (s.pixels.get p).candidates
          ∧ (t.pixels.get p).flagged = (s.pixels.get p).flagged)
      ∧ ((s.link.get p).enable = true → matched → flags.length > limitOf s p 0x13 →
          (t.pixels.get p).candidates = (s.pixels.get p).candidates
          ∧ (t.pixels.get p).storms = min ((s.pixels.get p).storms + 1) (2 ^ 32 - 1))
      ∧ ((s.link.get p).enable = true → matched → flags.length ≤ limitOf s p 0x13 →
          (s.pixels.get p).candidates.length + flags.length ≤ candidateLimit →
          ∀ i ∈ flags, statusOf s p i = 0 → (∀ f ∈ (s.pixels.get p).confirms, f.pixel ≠ i) →
            inSf1 s p (i % 1024) (i / 1024) = true
              ∨ ((s.pixels.get p).flagged.contains i = true ∧ rowCounts (s.link.get p) mask (i / 1024 % 16) = true) →
            i ∈ (t.pixels.get p).candidates))
  ∧ (∀ s p k e f, sample s p k e → confirming s p e f → e.state = 1 → f.step = 1 → ∃ t,
      exec (.vfSample p k) s = .next t ∧ decided t p e.pixel (if e.vf ≥ limitOf s p 0x12 then 3 else 5))
  ∧ (∀ s p k e f, sample s p k e → confirming s p e f → e.state = 0 → f.step = 2 → ∃ t,
      exec (.vfSample p k) s = .next t
      ∧ (e.vf > limitOf s p 0x11 → decided t p e.pixel 1)
      ∧ (e.vf ≤ limitOf s p 0x11 → e.vf < limitOf s p 0x10 → decided t p e.pixel 2)
      ∧ (e.vf ≤ limitOf s p 0x11 → e.vf ≥ limitOf s p 0x10 → statusOf t p e.pixel = statusOf s p e.pixel
          ∧ (t.pixels.get p).falseAlarms = min ((s.pixels.get p).falseAlarms + 1) (2 ^ 32 - 1)
          ∧ ∀ g ∈ (t.pixels.get p).confirms, g.pixel ≠ e.pixel))
  ∧ (∀ s p k e f, sample s p k e → confirming s p e f → e.state = 1 → f.step = 0 → ∃ t,
      exec (.vfSample p k) s = .next t
      ∧ (e.vf ≥ limitOf s p 0x12 → inSf1 s p (e.pixel % 1024) (e.pixel / 1024) = true →
          decided t p e.pixel 3 ∧ t.nvm.disabled.get p = 1
          ∧ (s.nvm.disabled.get p ≠ 1 → (t.link.get p).enable = false))
      ∧ (¬(e.vf ≥ limitOf s p 0x12 ∧ inSf1 s p (e.pixel % 1024) (e.pixel / 1024) = true) →
          ∃ g ∈ (t.pixels.get p).confirms, g.pixel = e.pixel ∧ g.tries = 0 ∧ g.started = false
            ∧ g.step = if e.vf ≥ limitOf s p 0x12 then 1 else 2))
  ∧ (∀ s p k e f, sample s p k e → confirming s p e f → e.state = 2 → ∃ t, exec (.vfSample p k) s = .next t
      ∧ (f.tries < 2 → ∃ g ∈ (t.pixels.get p).confirms,
          g = { f with tries := f.tries + 1, started := false, raised := false, skip := none })
      ∧ (f.tries ≥ 2 → f.step = 1 → decided t p e.pixel 5)
      ∧ (f.tries ≥ 2 → f.step ≠ 1 → (t.pixels.get p).dropped = min ((s.pixels.get p).dropped + 1) (2 ^ 32 - 1)
          ∧ statusOf t p e.pixel = statusOf s p e.pixel))
  ∧ (∀ s p k e, sample s p k e → (∀ f ∈ (s.pixels.get p).confirms, f.pixel ≠ e.pixel) → e.state ≠ 2 → ∃ t,
      exec (.vfSample p k) s = .next t
      ∧ getEntry 0 (sampleKey (hdrBand k.header) (phaseOf (e.pixel % 1024) (e.pixel / 1024))) (t.pixels.get p).samples
          = reportEpoch s k
      ∧ (e.state = 1 → e.vf ≥ limitOf s p 0x12 → statusOf s p e.pixel = 3 →
          inSf1 s p (e.pixel % 1024) (e.pixel / 1024) = true →
          t.nvm.disabled.get p = 1 ∧ (s.nvm.disabled.get p ≠ 1 → (t.link.get p).enable = false))
      ∧ (e.state = 1 → e.vf ≥ limitOf s p 0x12 → statusOf s p e.pixel = 0 → e.pixel ∉ (s.pixels.get p).candidates →
          (s.pixels.get p).candidates.length < candidateLimit →
          (t.pixels.get p).candidates = (s.pixels.get p).candidates ++ [e.pixel]))

/-- O31. TEMP, ACK and the failures of lanes (R210, R211, R214, R217 to R220, R223). -/
def Obligations.TempAndAcknowledgementsAct : Prop :=
  let taken := fun (s : State) (p : Port) (k : RxPacket) (ty n : Nat) =>
    listening s p = true ∧ packetGood k = true ∧ packetOfType k ty = true ∧ k.payload.length = n
  let answers := fun (s : State) (p : Port) (k : RxPacket) (c : Ctrl) =>
    taken s p k 0xB 8 ∧ ((s.link.get p).ctrls.find? fun d => d.sequence.toNat == ackSequence k) = some c
  let fails := fun (s : State) (p : Port) (lane : Nat) (t : State) =>
    portServing s p = true → (s.link.get p).state ≠ .hold → (s.link.get p).lanes.length = 5 →
    (s.link.get p).laneFails.length = 5 →
    (nth .failed (s.link.get p).lanes lane = .working → (s.link.get p).spare ≠ some lane →
      nth .failed (t.link.get p).lanes lane
        = (if nth 0 (s.link.get p).laneFails lane + 1 ≥ 4 then .failedForGood else .failed)
      ∧ nth 0 (t.link.get p).laneFails lane = nth 0 (s.link.get p).laneFails lane + 1
      ∧ (blockOf t (0x0A + p.num)).bits.getLsbD (kindBit (0x0A + p.num) 0x14) = true
      ∧ (let left := ((s.link.get p).map.filter fun y => y != lane && nth .failed (s.link.get p).lanes y == .working).length
            + ofBool (s.link.get p).spare.isSome
         (left < 2 → (t.link.get p).state = .lost ∧ isActive t (0x1B + p.num) (0x0A + p.num) = true)
         ∧ (left ≥ 2 → (t.link.get p).state = (s.link.get p).state ∧ (t.link.get p).remap = true)))
    ∧ (nth .failed (s.link.get p).lanes lane = .spare → (s.link.get p).spare = some lane →
      nth .failed (t.link.get p).lanes lane
        = (if nth 0 (s.link.get p).laneFails lane + 1 ≥ 4 then .failedForGood else .failed)
      ∧ (t.link.get p).spare = none ∧ (t.link.get p).map = (s.link.get p).map
      ∧ (blockOf t (0x0A + p.num)).bits.getLsbD (kindBit (0x0A + p.num) 0x15) = true)
  (∀ s p k, taken s p k 0xA 16 →
      let v := leNat k.payload
      let temps := (List.range 4).map fun q => toSigned 16 (halfOf v q)
      (∀ i < 5, byteOf v (10 + i) = 0) → linkCfg s p 0x0C ≥ 1 → ∃ t, exec (.temp p k) s = .next t
      ∧ t.hk = { s.hk with
          tempIn := s.hk.tempIn.set p temps, tempInAt := s.hk.tempInAt.set p (some (dtNow s))
          overTemp := s.hk.overTemp.set p (bitOf v 120) }
      ∧ (t.headroom.get p).lowest = some (match (s.headroom.get p).lowest with
          | some x => min x (halfOf v 4) | none => halfOf v 4)
      ∧ (t.link.get p).errorRuns = [0, 0, 0, 0, 0] ∧ (t.link.get p).lanes = (s.link.get p).lanes
      ∧ (cpReady s = true → (modelOf s p).ready = false → modelOf t p = initModel temps (modelOf s p))
      ∧ ((modelOf s p).ready = true ∨ cpReady s = false → t.toll = s.toll)
      ∧ (halfOf v 4 ≥ cfg s (0x4300 + p.num) 2 → t.pixels = s.pixels)
      ∧ (∀ r, halfOf v 4 < cfg s (0x4300 + p.num) 2 → (s.pixels.get p).report = some r → r.counted = true →
          r.band = hdrBand k.header → (t.pixels.get p).flagged = r.flagged
          ∧ ∀ i ∈ r.added, i ∉ (t.pixels.get p).candidates))
  ∧ (∀ s p k c, answers s p k c → c.opcode = holdOp → (s.link.get p).state = .service → (s.link.get p).remap = false → ∃ t,
      exec (.ack p k) s = .next t
      ∧ t = { s with link := t.link } ∧ (∀ q, q ≠ p → t.link.get q = s.link.get q)
      ∧ (t.link.get p).state = .hold
      ∧ (t.link.get p).counts.holds = min ((s.link.get p).counts.holds + 1) (2 ^ 32 - 1)
      ∧ (t.link.get p).ctrls = (s.link.get p).ctrls.filter fun x => x.sequence != c.sequence)
  ∧ (∀ s p k c, answers s p k c → c.opcode ≠ holdOp →
      ((s.link.get p).state ≠ .bringUp ∨ (c.opcode = 5 ∧ ackStatus k = 0 ∧ (s.link.get p).step ≠ 7)) → ∃ t,
      exec (.ack p k) s = .next t
      ∧ t = { s with link := t.link } ∧ (∀ q, q ≠ p → t.link.get q = s.link.get q)
      ∧ t.link.get p = { noteSequence (BitVec.ofNat 16 (hdrSequence k.header)) (s.link.get p) with
          ctrls := (s.link.get p).ctrls.filter fun x => x.sequence != c.sequence })
  ∧ (∀ s p k c, answers s p k c → c.opcode ≠ holdOp → (s.link.get p).state = .bringUp →
      ackStatus k ≠ 0 ∨ (c.opcode ≠ 5 ∧ (s.link.get p).step = 2 ∧ (s.link.get p).sub = 2
        ∧ ¬(bitsOf (ackValue k) 16 10 = 1023 ∧ bitsOf (ackValue k) 0 9 = 511)) → ∃ t,
      exec (.ack p k) s = .next t
      ∧ ((s.link.get p).failures < 2 → portWanted s p = false → (t.link.get p).state = .off)
      ∧ ((s.link.get p).failures < 2 → portWanted s p = true → (t.link.get p).state = .bringUp ∧ (t.link.get p).step = 2
          ∧ (t.link.get p).sub = 0 ∧ (t.link.get p).failures = (s.link.get p).failures + 1)
      ∧ ((s.link.get p).failures ≥ 2 → (t.link.get p).state = .lost
          ∧ isActive t (0x1B + p.num) (0x0A + p.num) = true))
  ∧ (∀ s p k c, answers s p k c → c.opcode ≠ holdOp → (s.link.get p).state = .bringUp → ackStatus k = 0 →
      c.opcode ≠ 5 ∨ (s.link.get p).step = 7 → ∃ t, exec (.ack p k) s = .next t ∧
      let l := s.link.get p
      let m := t.link.get p
      (l.step = 2 → l.sub = 0 → (m.step, m.sub) = (2, 1))
      ∧ (l.step = 2 → l.sub = 1 → (m.step, m.sub) = (2, 2) ∧ m.arrayId = BitVec.ofNat 32 (ackValue k))
      ∧ (l.step = 2 → l.sub = 2 → bitsOf (ackValue k) 16 10 = 1023 → bitsOf (ackValue k) 0 9 = 511 →
          (m.step, m.sub) = (4, 0) ∧ (linkCfg s p 9 = 1 → m.ctle = linkCfg s p 0x0A))
      ∧ (l.step = 4 → l.sub % 6 < 5 → (m.step, m.sub) = (4, l.sub + 1))
      ∧ (l.step = 4 → l.sub % 6 = 5 → l.sub / 6 + 1 < (sweepCodes s p).length → (m.step, m.sub) = (4, 6 * (l.sub / 6 + 1)))
      ∧ (l.step = 4 → l.sub % 6 = 5 → l.sub / 6 + 1 ≥ (sweepCodes s p).length → (m.step, m.sub) = (5, 0)
          ∧ m.deemphasis = (endSweep (sweepCodes s p) { l with sweep := ackValue k :: l.sweep }).deemphasis)
      ∧ (l.step = 5 → l.sub < 4 → (m.step, m.sub) = (5, l.sub + 1) ∧ m.sweep = ackValue k :: l.sweep)
      ∧ (l.step = 5 → l.sub = 4 → (goodLanes (endSkew { l with sweep := ackValue k :: l.sweep })).length ≥ 3 →
          (m.step, m.sub) = (6, 0)
          ∧ m.map = (goodLanes (endSkew { l with sweep := ackValue k :: l.sweep })).take 4)
      ∧ (l.step = 6 → (m.step, m.sub) = (7, 0))
      ∧ (l.step = 7 →
          let waits := l.ctrls.any (fun d => d.sequence != c.sequence && d.opcode == 5) || l.deferred.any fun d => d.1 == 5
          (waits = true → (m.step, m.sub) = (7, l.sub + 1)) ∧ (waits = false → (m.step, m.sub) = (8, 0)))
      ∧ (l.step = 8 → l.sub = 0 → (m.step, m.sub) = (8, 1) ∧ m.startAt = some (startFrame s))
      ∧ (l.step = 8 → l.sub = 1 → m.step = 9))
  ∧ (∀ s p k, taken s p k 0xB 8 → isUnsolicited k 0x10 = true → ∃ t, exec (.laneFail p k) s = .next t ∧ fails s p (ackLane k) t)
  ∧ (∀ s p lane, isOn s .link = true → lane < 5 → ∃ t, exec (.laneTxFault p lane) s = .next t ∧ fails s p lane t)
  ∧ (∀ s p k, taken s p k 0xB 8 → isUnsolicited k 0x11 = true → ∃ t, exec (.holdExpired p k) s = .next t
      ∧ t = { s with link := s.link.set p { noteSequence (BitVec.ofNat 16 (hdrSequence k.header)) (s.link.get p) with
          expired := true } })

/-- O32. The commands of a link port (R35, R212, R215, R218, R222, R223, R225, R226, R332, R338, R339). That a lane retrained
while another is the spare stays failed is the model's choice (log 162). -/
def Obligations.PortCommandsFollowTheLink : Prop :=
  let lost := fun (s t : State) (p : Port) (lasting : Bool) =>
    (t.link.get p).state = .lost ∧ (t.link.get p).enable = false ∧ (t.link.get p).lostCause = lasting
      ∧ (t.link.get p).map = [] ∧ (t.link.get p).counts.losses = min ((s.link.get p).counts.losses + 1) (2 ^ 32 - 1)
      ∧ isActive t (0x1B + p.num) (0x0A + p.num) = true
  let restarted := fun (s t : State) (p : Port) =>
    ((s.link.get p).failures < 2 → portWanted s p = false → (t.link.get p).state = .off)
    ∧ ((s.link.get p).failures < 2 → portWanted s p = true → (t.link.get p).state = .bringUp ∧ (t.link.get p).step = 2
        ∧ (t.link.get p).failures = (s.link.get p).failures + 1
        ∧ (t.link.get p).counts.attempts = min ((s.link.get p).counts.attempts + 1) (2 ^ 32 - 1))
    ∧ ((s.link.get p).failures ≥ 2 → lost s t p false)
  (∀ s p, portServing s p = true → (s.link.get p).returnLost = false → ∃ t, exec (.returnLaneLost p) s = .next t
      ∧ Raised 0x18 (0x0A + p.num) { s with link := s.link.set p { s.link.get p with
          returnLost := true, returnGrace := true } } t)
  ∧ (∀ s p, (s.link.get p).returnLost = true → ∃ t, exec (.returnReceiverRetrained p) s = .next t
      ∧ (t.link.get p).returnLost = false ∧ (linkCfg s p 9 = 1 → (t.link.get p).ctle = linkCfg s p 0x0A)
      ∧ (isLatched s 0x18 = false → isActive t 0x18 (0x0A + p.num) = false))
  ∧ (∀ s p, portServing s p = true → (s.link.get p).returnGrace = true → ∃ t,
      exec (.returnLaneGraceExpiry p) s = .next t ∧ lost s t p false)
  ∧ (∀ s p band, (s.pixels.get p).reported.getLsbD band = true → exec (.bandStatusMissed p band) s = .next s)
  ∧ (∀ s p band, listening s p = true → (s.pixels.get p).reported.getLsbD band = false → exec (.bandStatusMissed p band) s = .next { s with
      pixels := s.pixels.set p { s.pixels.get p with missed := min ((s.pixels.get p).missed + 1) (2 ^ 32 - 1) } })
  ∧ (∀ s p lane, portServing s p = true → s.units.ls.get p = .ready → linkCfg s p 0x10 = 1 →
      (s.link.get p).retraining = none → lane < 5 → nth .untrained (s.link.get p).lanes lane = .failed →
      exec (.laneRetrain p lane) s = .next { s with link := s.link.set p (sendCtrl (lineNow s) s.scan.epoch.toNat 4
        (leBytes 8 (0x20 + 4 * lane)) (sendCtrl (lineNow s) s.scan.epoch.toNat 9
          (1 :: ((s.link.get p).deemphasis.map (BitVec.ofNat 8) ++ [0, 0]))
          { s.link.get p with retraining := some lane })) })
  ∧ (∀ s p lane errors, portServing s p = true → (s.link.get p).retraining = some lane → ∃ l,
      exec (.laneRetrainDone p lane errors) s = .next { s with link := s.link.set p l }
      ∧ (errors ≠ 0 → l = { s.link.get p with retraining := none })
      ∧ (errors = 0 → (s.link.get p).spare = none → l.spare = some lane
          ∧ l.lanes = modifyAt (fun _ => .spare) lane (s.link.get p).lanes
          ∧ l.retraining = none
          ∧ l.regained = ((s.link.get p).regained || decide ((s.link.get p).map.length < 4)))
      ∧ (errors = 0 → (s.link.get p).spare ≠ none → l.lanes = (s.link.get p).lanes ∧ l.spare = (s.link.get p).spare))
  ∧ (∀ s p, portServing s p = true → (s.link.get p).holdSent = true →
      s.units.ls.get p ≠ .ready ∨ (s.link.get p).startAt ≠ none → ∃ t, exec (.lsResumeTimeout p) s = .next t
      ∧ lost s t p (s.units.ls.get p != .ready))
  ∧ (∀ s p, inReset s = false → isOn s .safe = true → portActive s p = true →
      ((s.link.get p).enable = true → (s.link.get p).state ≠ .lost → ∃ t, exec (.portFltAssert p) s = .next t
        ∧ lost s t p true ∧ (t.link.get p).fault = true)
      ∧ ((s.link.get p).enable = false → (s.link.get p).state = .bringUp → ∃ t,
        exec (.portFltAssert p) s = .next t ∧ restarted s t p ∧ (t.link.get p).fault = true)
      ∧ ((s.link.get p).enable = false → (s.link.get p).state ≠ .bringUp →
        exec (.portFltAssert p) s = .next { s with link := s.link.set p { s.link.get p with fault := true } }))
  ∧ (∀ s p, (s.link.get p).fault = true → ∃ t, exec (.portFltRelease p) s = .next t
      ∧ (t.link.get p).fault = false
      ∧ ((s.link.get p).state = .lost → (s.link.get p).lostCause = true → (t.link.get p).lostCause = false
          ∧ ∀ a ∈ t.faults.active, a.kind = 0x1B + p.num → a.unit = 0x0A + p.num → a.absent = true)
      ∧ ((s.link.get p).state ≠ .lost → t = { s with link := s.link.set p { s.link.get p with fault := false } }))
  ∧ (∀ s p c rest, (s.link.get p).ctrls = c :: rest →
      ((s.link.get p).state = .bringUp → ∃ t, exec (.ctrlAckTimeout p) s = .next t ∧ restarted s t p)
      ∧ ((s.link.get p).state ≠ .bringUp → c.opcode = 8 → ∃ t, exec (.ctrlAckTimeout p) s = .next t
        ∧ Noted 0x16 (0x0A + p.num) { s with link := s.link.set p { s.link.get p with ctrls := rest } } t)
      ∧ ((s.link.get p).state ≠ .bringUp → c.opcode ≠ 8 → exec (.ctrlAckTimeout p) s
        = .next { s with link := s.link.set p { s.link.get p with ctrls := rest } }))
  ∧ (∀ s p i rest k, portServing s p = true → s.units.ls.get p = .ready →
      (∀ f ∈ (s.pixels.get p).confirms, f.started = true) → (s.pixels.get p).candidates = i :: rest →
      freeEntry (s.pixels.get p).confirms = some k → ∃ t, exec (.confirmationStepStart p) s = .next t
      ∧ t = { s with pixels := t.pixels, link := t.link } ∧ k < 16
      ∧ (t.pixels.get p).candidates = rest
      ∧ (t.pixels.get p).confirms = (s.pixels.get p).confirms ++ [⟨k, i, 0, 0, true, false,
          if rowBegun s p (i / 1024) then some s.compose.frame else none⟩]
      ∧ t.link.get p = sendCtrl (lineNow s) s.scan.epoch.toNat 7
          (leBytes 2 (8 * ((lineNow s + 4) % 512)) ++ leBytes 2 4096 ++ leBytes 4 0)
          (sendCtrl (lineNow s) s.scan.epoch.toNat 5
            (leBytes 4 (0x80 + 4 * k) ++ leBytes 4 (2 ^ 31 + 2 ^ 29 + i % 1024 * 2 ^ 19 + i / 1024 * 2 ^ 10))
            (s.link.get p)))
  ∧ (∀ s p, s.nvm.disabled.get p = 2 ∨ (s.pixels.get p).echoHeld = true → (s.pixels.get p).echoGood ≥ 64 → ∃ t,
      exec (.portEchoReenable p) s = .next t
      ∧ t.nvm.disabled.get p = (if s.nvm.disabled.get p = 2 then 0 else s.nvm.disabled.get p)
      ∧ (∀ q, q ≠ p → t.nvm.disabled.get q = s.nvm.disabled.get q)
      ∧ t.pixels = s.pixels.set p { s.pixels.get p with echoRun := 0, echoHeld := false }
      ∧ ((∃ q, t.nvm.disabled.get q = 2 ∨ (t.pixels.get q).echoHeld = true) → t.faults = s.faults)
      ∧ ((∀ q, t.nvm.disabled.get q ≠ 2 ∧ (t.pixels.get q).echoHeld = false) → isLatched s 0x13 = false →
          isActive t 0x13 0x09 = false))

/-- O33. Decode of encode is the identity on tiles (R82 to R86, R239). -/
def Obligations.TileCodecRoundTrip : Prop :=
  ∀ (code tag tx ty : Nat) (rows : List (List Nat)) (rest : List Byte),
    1 ≤ code → code ≤ 6 → tag < 2 ^ 8 → tx < 2 ^ 16 → ty < 2 ^ 16 → rows.length = 32 →
    (∀ row ∈ rows, row.length = 32 ∧ ∀ x ∈ row, x < 2 ^ formatWidth code) →
    decodeTile code tag tx ty (encodeTile code tag tx ty rows ++ rest) = some rows.flatten

/-- O34. The lanes of the host link (R231, R232, R260). That a lane's first training needs no wait (log 85) and that lanes settle
in the order in which they entered service (log 89) are the model's choices. -/
def Obligations.HostLanesFollowTraining : Prop :=
  let lowest := fun (t : State) => match t.host.control with
    | some k => k < 4 ∧ (hostLane t k).state = 1 ∧ k ∉ t.host.fresh ∧ ∀ j < k, (hostLane t j).state = 1 → j ∈ t.host.fresh
    | none => ∀ j < 4, (hostLane t j).state = 1 → j ∈ t.host.fresh
  (∀ s lane, isOn s .link = true → lane < 4 → s.host.lanes.length = 4 → (hostLane s lane).state ≠ 1 → ∃ t,
      exec (.hostLaneTrained lane) s = .next t
      ∧ t = { s with
          host := { s.host with
            lanes := t.host.lanes, control := t.host.control, former := t.host.former, irq := s.host.irq ||| 4
            fresh := if (hostLane s lane).state = 0 ∧ s.host.control = none then s.host.fresh else s.host.fresh ++ [lane] }
          free := t.free }
      ∧ (hostLane t lane).state = 1 ∧ (hostLane t lane).lastSeq = (hostLane s lane).lastSeq
      ∧ (∀ j, j ≠ lane → hostLane t j = hostLane s j)
      ∧ (cfg s 0x1200 1 = 1 → (hostLane t lane).ctle = cfg s 0x1200 2 ∧ t.free = s.free) ∧ lowest t)
  ∧ (∀ s (r : LaneReport), isOn s .link = true → (hostLane s r.lane).state = 1 →
      (8 ≤ r.consecutive ∨ 2 ≤ r.markers ∨ cfg s 0x1200 5 ≤ r.perMs → ∃ t, exec (.hostLaneFail r) s = .next t
        ∧ Noted 0x23 0x0E { s with host := t.host } t
        ∧ t.host = { s.host with
            lanes := t.host.lanes, control := t.host.control, former := t.host.former, irq := s.host.irq ||| 4
            fresh := s.host.fresh.erase r.lane }
        ∧ hostLane t r.lane = { hostLane s r.lane with state := 2 } ∧ (∀ j, j ≠ r.lane → hostLane t j = hostLane s j)
        ∧ lowest t)
      ∧ (r.consecutive < 8 → r.markers < 2 → r.perMs < cfg s 0x1200 5 → exec (.hostLaneFail r) s = .next s))
  ∧ (∀ s lane, exec (.hostLaneRetrain lane) s = .next s)
  ∧ (∀ s, isOn s .link = true → ∃ t, exec .controlLaneChange s = .next t
      ∧ t = { s with host := { s.host with
          control := t.host.control, former := t.host.former, irq := t.host.irq, fresh := s.host.fresh.drop 1 } }
      ∧ lowest t ∧ t.host.irq = (if t.host.control = s.host.control then s.host.irq else s.host.irq ||| 4)
      ∧ t.host.former = (if t.host.control = s.host.control then s.host.former else s.host.control))
  ∧ (∀ s, isOn s .core = true → s.host.linkArmed = true → s.host.linkLost = false → cfg s 0x1200 6 ≠ 0 → ∃ t,
      exec .hostLinkLoss s = .next t ∧ Raised 0x24 0x0E { s with host := { s.host with linkLost := true } } t)

/-- O35. Packets of the host link (R232 to R238, R241 to R244). -/
def Obligations.UhlPacketsAreReceived : Prop :=
  let sequenceOf := fun (k : RxPacket) => BitVec.ofNat 16 (hdrSequence k.header)
  let open' := fun (s : State) (lane : Nat) => isOn s .link = true ∧ (hostLane s lane).state = 1
  let arrives := fun (s : State) (lane : Nat) (k : RxPacket) =>
    isOn s .link = true ∧ (hostLane s lane).state = 1 ∧ (hostLane s lane).lastSeq ≠ some (sequenceOf k)
      ∧ lane < s.host.lanes.length
  let onControl := fun (s : State) (lane : Nat) (k : RxPacket) =>
    (if k.early then s.host.former else s.host.control) == some lane
  let waits := fun (s : State) => recordsWait s = true ∨ ∃ n bs q, s.host.queue = .odWrite n bs :: q
  (∀ s lane k f c, c ∈ [Instr.uhlVideoLine lane k, .uhlShadeList lane k, .uhlManifestCommit lane k, .uhlOdWrite lane k,
      .uhlTimeSync lane k f] →
      (isOn s .link = false ∨ (hostLane s lane).state ≠ 1 → exec c s = .next s)
      ∧ (open' s lane → packetGood k = false → exec c s = .next { s with host := { s.host with
          lanes := modifyAt (fun l => { l with
            codeErrors := l.codeErrors + k.codeErrors, errors := min (l.errors + 1) (2 ^ 32 - 1) }) lane s.host.lanes } }))
  ∧ (∀ s lane k, open' s lane → uhlGood k 3 24 = true → k.payload = [] →
      (onControl s lane k = false → exec (.uhlManifestCommit lane k) s = .next { s with host := { s.host with
          misrouted := min (s.host.misrouted + 1) (2 ^ 32 - 1) } })
      ∧ (onControl s lane k = true → (hostLane s lane).lastSeq = some (sequenceOf k) →
          exec (.uhlManifestCommit lane k) s = .next { s with host := { s.host with
            duplicates := min (s.host.duplicates + 1) (2 ^ 32 - 1) } })
      ∧ (onControl s lane k = true → arrives s lane k → ∃ t, exec (.uhlManifestCommit lane k) s = .next t
          ∧ (hostLane t lane).lastSeq = some (sequenceOf k)
          ∧ (s.host.queue = [] → recordsWait s = false →
              t.manifest.pending = (s.manifest.pending || (isOn s .pix && !manifestFrozen s)) ∧ t.host.queue = [])
          ∧ (waits s → t.manifest = s.manifest ∧ t.host.queue = s.host.queue ++ [.commit])))
  ∧ (∀ s lane k n, n = bitsOf (uhlField k) 16 8 → onControl s lane k = true → arrives s lane k →
      uhlGood k 4 16 = true → 1 ≤ n → 6 ≤ k.payload.length → k.payload.length ≤ 8192 →
      (recordsOf n k.payload).isSome = true → ∃ t, exec (.uhlOdWrite lane k) s = .next t
      ∧ (cpReady s = true → queuedWrites s < 8 → t.host.queue = s.host.queue ++ [.odWrite n k.payload]
          ∧ t.host.odDiscards = s.host.odDiscards)
      ∧ (cpReady s = false ∨ queuedWrites s ≥ 8 → t.host.queue = s.host.queue
          ∧ t.host.odDiscards = min (s.host.odDiscards + 1) (2 ^ 32 - 1)))
  ∧ (∀ s lane k n, n = bitsOf (uhlField k) 17 7 → onControl s lane k = true → arrives s lane k →
      uhlGood k 2 17 = true → n ≤ 64 → k.payload.length = 16 * n → ∃ t, exec (.uhlShadeList lane k) s = .next t
      ∧ (waits s → t.shade = s.shade ∧ t.host.queue = s.host.queue ++ [.shades (objectsOf n k.payload)])
      ∧ (s.host.queue = [] → recordsWait s = false → t.host.queue = []
          ∧ (s.shade.source ≠ 0 ∨ (∃ o ∈ objectsOf n k.payload, shadeInvalid o = true) →
              t.shade = { s.shade with rejected := min (s.shade.rejected + 1) (2 ^ 32 - 1) }
              ∧ t.host.irq = s.host.irq ||| 64)
          ∧ (s.shade.source = 0 → (∀ o ∈ objectsOf n k.payload, shadeInvalid o = false) → s.shade.refilling = true →
              t.shade.staged = s.shade.staged ∧ t.shade.waiting = some ((objectsOf n k.payload).map keptObject))
          ∧ (s.shade.source = 0 → (∀ o ∈ objectsOf n k.payload, shadeInvalid o = false) → s.shade.refilling = false →
              t.shade.staged = (objectsOf n k.payload).map keptObject ∧ t.shade.written = true
              ∧ t.shade.freshAt = dtNow s ∧ t.shade.armed = true ∧ t.shade.stale = false
              ∧ t.shade.swapRequested = (s.shade.swapRequested || cfg s 0x3300 0x0D == 0))))
  ∧ (∀ s lane k f, let h := uhlField k
      let n := bitsOf h 23 1
      arrives s lane k → uhlGood k 1 9 = true → streamSurface s n = some f → k.payload.length = lineBytes s f →
      bitsOf h 13 10 < surfaceValue s f 3 → ∃ t, exec (.uhlVideoLine lane k) s = .next t
      ∧ (∀ b, (streamOf s n).picture = none → freeBuffer s f = some b → bitsOf h 13 10 < 64 →
          (streamOf t n).picture = some (bitsOf h 9 4) ∧ (streamOf t n).buffer = b
          ∧ (streamOf t n).lines = [(bitsOf h 13 10, k.payload)] ∧ (streamOf t n).discarded = false)
      ∧ ((streamOf s n).picture = none → freeBuffer s f = none → (streamOf t n).discarded = true
          ∧ (streamOf t n).discards = min ((streamOf s n).discards + 1) (2 ^ 32 - 1))
      ∧ ((streamOf s n).picture = some (bitsOf h 9 4) → (streamOf s n).discarded = false → (streamOf s n).complete = false →
          lineTaken (streamOf s n) (bitsOf h 13 10) = false →
          ((∃ i ≤ bitsOf h 13 10 / 32, i + 1 ≥ bitsOf h 13 10 / 32 ∧ i < tileRows s f ∧ rowComplete s f (streamOf s n) i = false
            ∧ ∀ j < i, rowComplete s f (streamOf s n) j = true) →
            (streamOf t n).lines = putEntry (bitsOf h 13 10) k.payload (streamOf s n).lines))
      ∧ (∀ q, (streamOf s n).picture = some q → (bitsOf h 9 4 + 16 - q) % 16 ≥ 8 → streamOf t n = streamOf s n))
  ∧ (∀ s, cpReady s = false ∨ recordsWait s = true → exec .odWriteApply s = .next s)
  ∧ (∀ s n payload q r st u, s.host.queue = .odWrite n payload :: q → cpReady s = true → recordsWait s = false →
      recordsOf n payload = some [r] →
      writeObject { via := .uhl 0, index := r.1, sub := r.2.1, last := true } r.1 r.2.1 r.2.2
        { s with host := { s.host with queue := q } } = (some st, u) → ∃ t, exec .odWriteApply s = .next t
      ∧ (st ≠ 0 → t.host.odStatus = BitVec.ofNat 32 (st * 2 ^ 24)
          ∧ t.host.odObject = BitVec.ofNat 32 (r.1 * 2 ^ 8 + r.2.1) ∧ t.host.irq.getLsbD 1 = true)
      ∧ (u.host.queue = [] → (st = 0 → t = u) ∧ (st ≠ 0 → t.dict = u.dict ∧ t.host.irq = u.host.irq ||| 2)))

/-- O36. SPI host port and dictionary requests (R229, R247 to R251, R267, R276, R279). -/
def Obligations.ShpAndDictionaryRequests : Prop :=
  let short := fun (op : Nat) (f : ShpFrame) => (op = 2 ∨ op = 5) ∧ f.data.length < f.length
  let good := fun (op : Nat) (f : ShpFrame) => ¬short op f ∧ f.crc = some (BitVec.ofNat 8 (crc8 (shpBytes op f)))
  (∀ s f op0 c, (op0, c) ∈ [(1, Instr.shpRead f), (2, .shpWrite f), (3, .shpPoll f), (4, .shpBurstRead f), (5, .shpBurstWrite f)] →
      let op := shpOp op0 f
      (isOn s .core = false → exec c s = .next s)
      ∧ (isOn s .core = true → ∃ t, exec c s = .next t
        ∧ (∀ rest, (shpOut f.clocked s).host.shpResponses = rest →
          t.host.miso = (match s.host.shpResponses with
            | [] => shpIdle.take f.clocked | r :: _ => (shpAnswer r).take f.clocked)
          ∧ (f.crc = none ∨ short op f → t = { shpOut f.clocked s with host := { (shpOut f.clocked s).host with
              shpErrors := min (s.host.shpErrors + 1) (2 ^ 32 - 1) } })
          ∧ (∀ x, f.crc = some x → ¬short op f → x.toNat ≠ crc8 (shpBytes op f) →
              t.host.shpErrors = min (s.host.shpErrors + 1) (2 ^ 32 - 1)
              ∧ t.host.shpRequests = s.host.shpRequests ∧ t.host.shpResponses = rest ++ [⟨0x06, f.tag % 16, []⟩])
          ∧ (good op f → op = 3 → t.host.shpRequests = s.host.shpRequests ∧ t.host.shpResponses = rest)
          ∧ (good op f → op ≠ 3 → cpReady s = false ∨ shpPending s ≥ 8 →
              t.host.shpRequests = s.host.shpRequests ∧ t.host.shpResponses = rest ++ [⟨0x01, f.tag % 16, []⟩])
          ∧ (good op f → op ≠ 3 → cpReady s = true → shpPending s < 8 →
              op = 0 ∨ 6 ≤ op ∨ shpLengthGood op f.length = false →
              t.host.shpRequests = s.host.shpRequests ∧ t.host.shpResponses = rest ++ [⟨0x04, f.tag % 16, []⟩])
          ∧ (good op f → op ≠ 3 → cpReady s = true → shpPending s < 8 → 1 ≤ op → op ≤ 5 →
              shpLengthGood op f.length = true →
              t.host.shpResponses = rest ∧ t.host.shpRequests = s.host.shpRequests
                ++ [⟨op, f.tag % 16, f.index % 2 ^ 16, f.sub % 256, f.length, f.data, none⟩]))))
  ∧ (∀ s r q, cpReady s = true → s.host.shpRequests = r :: q → r.inside = none →
      let u := { s with host := { s.host with shpRequests := q } }
      (r.op = 1 → exec (.dictionaryRequestDone true) s = .next (answer (.shp r.tag) false r.index r.sub
          (readObject (.shp r.tag) r.index r.sub u).1 (readObject (.shp r.tag) r.index r.sub u).2.1
          (readObject (.shp r.tag) r.index r.sub u).2.2))
      ∧ (r.op = 2 → ∀ st v, writeObject { via := .shp r.tag, index := r.index, sub := r.sub } r.index r.sub r.data u = (st, v) →
          exec (.dictionaryRequestDone true) s = .next (match st with
            | some x => answer (.shp r.tag) true r.index r.sub x [] v | none => v))
      ∧ (r.op = 4 → r.length = 2 → ∀ x y a, a = r.index * 256 + r.sub →
          readObject (.shp r.tag) (a / 256) (a % 256) u = (0, x, u) →
          readObject (.shp r.tag) ((a + 1) / 256) ((a + 1) % 256) u = (0, y, u) →
          exec (.dictionaryRequestDone true) s = .next (answer (.shp r.tag) false r.index r.sub 0 (x ++ y) u))
      ∧ (r.op = 5 → r.data = [] → s.journal.queue = [] → s.journal.optionWrite = none →
          exec (.dictionaryRequestDone true) s = .next (answer (.shp r.tag) true r.index r.sub 0 [] u)))
  ∧ (∀ s r q, cpReady s = true → s.host.canRequests = r :: q → r.inside = none →
      let u := { s with host := { s.host with canRequests := q } }
      (r.write = false → exec (.dictionaryRequestDone false) s = .next (answer (.can r.bus r.tag) false r.index r.sub
          (readObject (.can r.bus r.tag) r.index r.sub u).1 (readObject (.can r.bus r.tag) r.index r.sub u).2.1
          (readObject (.can r.bus r.tag) r.index r.sub u).2.2))
      ∧ (r.write = true → ∀ st v, writeObject { via := .can r.bus r.tag, index := r.index, sub := r.sub }
            r.index r.sub r.data u = (st, v) →
          exec (.dictionaryRequestDone false) s = .next (match st with
            | some x => answer (.can r.bus r.tag) true r.index r.sub x [] v | none => v)))
  ∧ (∀ s r q x st v, cpReady s = true → s.host.canRequests = r :: q → r.inside = some x → r.write = true →
      writeObject { via := .can r.bus r.tag, index := r.index, sub := r.sub } r.index r.sub r.data
        { s with host := { s.host with canRequests := q }, access := { s.access with session := some x } } = (st, v) →
      let w := match st with
        | some c => answer (.can r.bus r.tag) true r.index r.sub c [] v | none => v
      exec (.dictionaryRequestDone false) s = .next (if w.access.session = some x then
        { w with access := { w.access with session := s.access.session } } else w))
  ∧ (∀ s via i j o, objectAt i j = some o → readAllowed s i j = true → o.access ≠ .wo → o.size ≤ readLimit via →
      isFused s i = true ∨ unitBusy s i j = false → (i, j) ≠ (0x1010, 1) → ¬(0xB100 ≤ i ∧ i < 0xB104 ∧ j = 0x21) →
      readObject via i j s = (0x00, leBytes o.size (objectValue s o i j), s))
  ∧ (∀ s via f j data, f < 64 → j ≠ 0x0A → cpReady s = true → judgeRequest s via (0x3400 + f) j data = 0x00 →
      exec (.odObjectWrite via (0x3400 + f) j data) s
        = .next (answer via true (0x3400 + f) j 0x00 [] (setCfg (0x3400 + f) j (leNat data) s)))
  ∧ (∀ s via i j data o, cpReady s = true → judgeRequest s via i j data = 0x00 → objectAt i j = some o → o.journal = true →
      i ≠ 0x1020 → i ≠ 0x9030 →
      judgeWrite s ⟨i, j, 1, o.size, cleanValue i j (leNat data), some { via := via, index := i, sub := j }⟩ = .taken →
      exec (.odObjectWrite via i j data) s = .next { s with journal := { s.journal with queue := s.journal.queue
        ++ [⟨i, j, 1, o.size, cleanValue i j (leNat data), some { via := via, index := i, sub := j }⟩] } })

/-- O37. CAN FD (R252 to R256) and the sideband port (R257 to R259). The slots of a recovery from bus-off are the model's reading
of the CAN standard (log 55). -/
def Obligations.CanAndSidebandRequests : Prop :=
  let mine := fun (s : State) (f : CanFrame) (kind least : Nat) =>
    busListens s f.bus = true ∧ isRequestId s f.id = true ∧ least ≤ f.data.length ∧ frameKind f.data = kind
      ∧ idNode f.id = s.power.options.nodeId
  let aborted := fun (s t : State) (b : Bus) => transferOf t b = none
      ∧ t.host.canAborts = min (s.host.canAborts + 1) (2 ^ 32 - 1) ∧ t.host.canRequests = s.host.canRequests
  let failed := fun (s : State) => { s with host := { s.host with sbp := { s.host.sbp with
      errors := min (s.host.sbp.errors + 1) (2 ^ 32 - 1), status := some 0x06 } } }
  let listens := fun (s : State) => isOn s .core = true
    ∨ (isOn s .safe = true ∧ inReset s = false ∧ s.power.votes.wake ||| s.power.votes.sbp ≠ 0 ∧ s.aon.frozen = none)
  let frames := fun (s : State) (b : Bus) (index : Nat) (bs : List (List Byte)) =>
    bs.map fun x => ({ bus := b, id := canId s true s.power.options.nodeId index, data := x } : CanTx)
  (∀ s f c, c ∈ [Instr.canSingleFrame f, .canFirstFrame f, .canConsecutiveFrame f, .canAbortFrame f] →
      busListens s f.bus = false → exec c s = .next s)
  ∧ (∀ s f, mine s f 0 2 → cfg s 0x1100 5 ≠ 2 → ∃ t, exec (.canSingleFrame f) s = .next t
      ∧ transferOf t f.bus = none
      ∧ (cpReady s = true → frameOp f.data ≤ 1 → ∃ d, t.host.canRequests = s.host.canRequests
          ++ [⟨f.bus, frameOp f.data == 1, frameTag f.data, idIndex f.id, frameByte f.data, d.length, 1, d, none⟩]
          ∧ d = if frameOp f.data = 1 then singleData (idIndex f.id) (frameByte f.data) (f.data.drop 2) else [])
      ∧ (frameOp f.data > 1 ∨ cpReady s = false → t.host.canRequests = s.host.canRequests)
      ∧ (transferOf s f.bus = none → cpReady s = true → frameOp f.data > 1 → t
          = answerCan s.power.options.nodeId f.bus false (frameTag f.data) (idIndex f.id) 0x04 [] (hostActive false s))
      ∧ (transferOf s f.bus = none → cpReady s = false → t
          = answerCan s.power.options.nodeId f.bus (frameOp f.data == 1) (frameTag f.data) (idIndex f.id) 0x01 [] (hostActive false s)))
  ∧ (∀ s f, mine s f 0 2 → cfg s 0x1100 5 = 2 → transferOf s f.bus = none → cpReady s = true → frameOp f.data ≤ 1 →
      (∀ r ∈ s.host.canRecent, r.bus ≠ f.bus → r.id = f.id → r.data = f.data → r.doubled = false → r.dt + 10000 < dtNow s) →
      ∃ t d, exec (.canSingleFrame f) s = .next t
      ∧ d = (if frameOp f.data = 1 then singleData (idIndex f.id) (frameByte f.data) (f.data.drop 2) else [])
      ∧ t.host.canRequests = s.host.canRequests
          ++ [⟨f.bus, frameOp f.data == 1, frameTag f.data, idIndex f.id, frameByte f.data, d.length, 1, d, none⟩]
      ∧ ⟨f.bus, f.id, f.data, dtNow s, false, []⟩ ∈ t.host.canRecent ∧ t.host.canDuplicates = s.host.canDuplicates)
  ∧ (∀ s f r, mine s f 0 2 → cfg s 0x1100 5 = 2 → transferOf s f.bus = none → dtNow s ≤ r.dt + 10000 →
      r.bus ≠ f.bus → r.id = f.id → r.data = f.data → r.doubled = false → r ∈ s.host.canRecent → ∃ t, exec (.canSingleFrame f) s = .next t
      ∧ t.host.canRequests = s.host.canRequests ∧ t.host.canDuplicates = min (s.host.canDuplicates + 1) (2 ^ 32 - 1)
      ∧ (s.host.canRecent = [r] → t.host.canRecent = [{ r with doubled := true }]
          ∧ (busOff s f.bus = false → t.host.canOut = s.host.canOut ++ frames s f.bus (idIndex f.id) r.frames)))
  ∧ (∀ s r q x st bs, cpReady s = true → s.host.canRequests = r :: q → r.inside = none → r.write = false →
      readObject (.can r.bus r.tag) r.index r.sub { s with host := { s.host with canRequests := q } }
        = (st, bs, { s with host := { s.host with canRequests := q } }) →
      s.host.canRecent = [x] → x.bus = r.bus → x.id = canId s false s.power.options.nodeId r.index →
      (x.data.headD 0).toNat % 16 = r.tag → x.frames = [] → busOff s .a = false → busOff s .b = false → ∃ t,
      exec (.dictionaryRequestDone false) s = .next t
      ∧ t.host.canRecent = [{ x with frames := canFrames 0 r.tag st bs }]
      ∧ t.host.canOut = s.host.canOut ++ frames s r.bus r.index (canFrames 0 r.tag st bs)
          ++ (if x.doubled then frames s (otherBus r.bus) r.index (canFrames 0 r.tag st bs) else []))
  ∧ (∀ s f, mine s f 1 64 → cpReady s = true → frameOp f.data ≤ 1 →
      63 ≤ leNat ((f.data.drop 2).take 2) → leNat ((f.data.drop 2).take 2) ≤ 8192 → ∃ t,
      exec (.canFirstFrame f) s = .next t ∧ t.host.canRequests = s.host.canRequests
      ∧ transferOf t f.bus = some ⟨f.bus, frameOp f.data == 1, frameTag f.data, idIndex f.id, frameByte f.data,
          leNat ((f.data.drop 2).take 2), 1, (f.data.drop 4).take 60, none⟩)
  ∧ (∀ s f r, mine s f 2 2 → transferOf s f.bus = some r → idIndex f.id = r.index → frameTag f.data = r.tag →
      frameOp f.data = ofBool r.write →
      let d := (r.data ++ (f.data.drop 2).take 62).take r.total
      (frameByte f.data ≠ r.next → ∃ t, exec (.canConsecutiveFrame f) s = .next t ∧ aborted s t f.bus)
      ∧ (frameByte f.data = r.next → d.length < r.total → ∃ t, exec (.canConsecutiveFrame f) s = .next t
          ∧ transferOf t f.bus = some { r with next := r.next + 1, data := d } ∧ t.host.canRequests = s.host.canRequests)
      ∧ (frameByte f.data = r.next → d.length = r.total → cfg s 0x1100 5 ≠ 2 → ∃ t,
          exec (.canConsecutiveFrame f) s = .next t ∧ transferOf t f.bus = none
          ∧ t.host.canRequests = s.host.canRequests ++ [{ r with next := r.next + 1, data := d }]))
  ∧ (∀ s f r, mine s f 3 2 → transferOf s f.bus = some r → ∃ t, exec (.canAbortFrame f) s = .next t
      ∧ aborted s t f.bus ∧ t.host.canOut = s.host.canOut)
  ∧ (∀ s b, (transferOf s b = none → exec (.canTransferTimeout b) s = .next s)
      ∧ (∀ r, transferOf s b = some r → ∃ t, exec (.canTransferTimeout b) s = .next t ∧ aborted s t b
          ∧ (busOff s b = false → t.host.canOut = s.host.canOut ++ [⟨b, canId s true s.power.options.nodeId r.index,
              [canByte0 3 (ofBool r.write) r.tag, 0x07], true⟩])))
  ∧ (∀ s, isOn s .core = true →
      (∃ t, exec (.canBusOff .a) s = .next t ∧ Noted 0x25 0x0F { s with host := { s.host with
        busOffA := min (s.host.busOffA + 1) (2 ^ 32 - 1), recoveringA := if cfg s 0x1100 1 = 0 then 88 else 44 } } t)
      ∧ (∃ t, exec (.canBusOff .b) s = .next t ∧ Noted 0x25 0x0F { s with host := { s.host with
        busOffB := min (s.host.busOffB + 1) (2 ^ 32 - 1), recoveringB := if cfg s 0x1100 1 = 0 then 88 else 44 } } t))
  ∧ (∀ s c i j data crc, c ∈ [Instr.sbpSetPointer i j crc, .sbpWrite i j data crc, .sbpRead] → ¬listens s → exec c s = .next s)
  ∧ (∀ s i j crc, listens s →
      (sbpCrcGood s (leBytes 2 i ++ leBytes 1 j) crc = true → ∃ t, exec (.sbpSetPointer i j crc) s = .next t
        ∧ t.host.sbp = { s.host.sbp with pointer := some (i % 2 ^ 16, j % 256), fetched := none })
      ∧ (sbpCrcGood s (leBytes 2 i ++ leBytes 1 j) crc = false → exec (.sbpSetPointer i j crc) s = .next (failed s)))
  ∧ (∀ s i j data crc, listens s → i < 2 ^ 16 → j < 256 →
      (sbpCrcGood s (leBytes 2 i ++ leBytes 1 j ++ data) crc = false → exec (.sbpWrite i j data crc) s = .next (failed s))
      ∧ (sbpCrcGood s (leBytes 2 i ++ leBytes 1 j ++ data) crc = true → cpReady s = false → ∃ t,
        exec (.sbpWrite i j data crc) s = .next t ∧ t.host.sbp.status = some 0x01)
      ∧ (sbpCrcGood s (leBytes 2 i ++ leBytes 1 j ++ data) crc = true → cpReady s = true → (i, j) = (0x1300, 3) →
        judgeRequest s .sbp i j data = 0x00 → ∃ t, exec (.sbpWrite i j data crc) s = .next t
        ∧ t.host.sbp.status = some 0x00 ∧ t.host.irq = s.host.irq &&& ~~~(BitVec.ofNat 32 (leNat data))))
  ∧ (∀ s, listens s → ∃ t, exec .sbpRead s = .next t ∧ t.host.sbp.pointer = s.host.sbp.pointer
      ∧ (cpReady s = false ∨ sbpWaits s = true → t.host.sbp = { s.host.sbp with out := sbpBytes s 0x01 [] })
      ∧ (cpReady s = true → sbpWaits s = false →
          (∀ c, s.host.sbp.status = some c → t.host.sbp = { s.host.sbp with out := sbpBytes s c [], status := none })
          ∧ (s.host.sbp.status = none → s.host.sbp.pointer = none → t.host.sbp.out = sbpBytes s 0xFF [])
          ∧ (∀ q, s.host.sbp.status = none → s.host.sbp.pointer = some q → s.host.sbp.fetched = none →
              t.host.sbp.out = sbpBytes s 0x01 [])
          ∧ (∀ q st bs, s.host.sbp.status = none → s.host.sbp.pointer = some q → s.host.sbp.fetched = some (st, bs) →
              t.host.sbp.out = sbpBytes s st bs)))
  ∧ (∀ s i j st bs u, s.host.sbp.pointer = some (i, j) → cpReady s = true → readObject .sbp i j s = (st, bs, u) →
      exec .sbpFetchDone s = .next { u with host := { u.host with sbp := { u.host.sbp with fetched := some (st, bs) } } })

/-- O38. The sink channels (R398 to R414). -/
def Obligations.SinksFollowTheirPeriods : Prop :=
  (∀ s g, isOn s .aux = true → g < 4 → s.sinks.groups.length = 4 → s.sinks.channels.length = 48 →
      ((sinkGroup s g).off = true → exec (.sinkPeriodBoundary g) s = .next s)
      ∧ ((sinkGroup s g).off = false → ∃ t, exec (.sinkPeriodBoundary g) s = .next t
        ∧ t = { s with sinks := t.sinks, free := t.free }
        ∧ sinkGroup t g = { sinkGroup s g with reference := (groupSettings s g).1, divider := (groupSettings s g).2, resuming := false }
        ∧ t.sinks.applied = (s.sinks.applied || s.sinks.restored)
        ∧ (∀ h, h ≠ g → sinkGroup t h = sinkGroup s h)
        ∧ (∀ c, c / 12 = g → (sinkOf t c).enable = (channelSettings s c).1 ∧ (sinkOf t c).duty = (channelSettings s c).2.2
            ∧ (sinkOf t c).status = (sinkOf s c).status
            ∧ (sinkOf t c).code = (if (sinkOf s c).status = 2 then (sinkOf s c).code else (channelSettings s c).2.1)
            ∧ (sinkOf t c).oldCode = (sinkOf s c).code ∧ (sinkOf t c).oldRef = (sinkGroup s g).reference
            ∧ (sinkOf t c).oldTrim = (sinkOf s c).trim ∧ ∃ x, (sinkOf t c).trim = some x ∧ -8 ≤ x ∧ x ≤ 7)
        ∧ (∀ c, c / 12 ≠ g → sinkOf t c = sinkOf s c)))
  ∧ (∀ s c pin, sinkAlive s c = false ∨ (sinkOf s c).probeDue = false ∨ hasOffRun s c = false →
      exec (.sinkOpenProbe c pin) s = .next s)
  ∧ (∀ s c pin, sinkAlive s c = true → (sinkOf s c).probeDue = true → hasOffRun s c = true → s.sinks.channels.length = 48 →
      (pin ≥ cfg s 0x5000 5 → exec (.sinkOpenProbe c pin) s = .next (onSink c (fun k => { k with
          noProbe := 0, probed := true, probeDue := false, opens := 0, goods := k.goods + 1, status := if k.status = 1 ∧ k.goods ≥ 1 then 0 else k.status }) s))
      ∧ (pin < cfg s 0x5000 5 → ∃ t, exec (.sinkOpenProbe c pin) s = .next t
        ∧ (sinkOf t c).opens = (sinkOf s c).opens + 1 ∧ (sinkOf t c).probeDue = false ∧ (sinkOf t c).noProbe = 0
        ∧ (¬((sinkOf s c).status = 0 ∧ (sinkOf s c).opens ≥ 1) →
            (sinkOf t c).status = (sinkOf s c).status ∧ t = { s with sinks := t.sinks })
        ∧ ((sinkOf s c).status = 0 → (sinkOf s c).opens ≥ 1 →
            (sinkOf t c).status = 1 ∧ Noted 0x45 0x1A { s with sinks := t.sinks } t)))
  ∧ (∀ s c pin, hasOnRun s c = false ∨ pin ≤ cfg s 0x5000 4 → exec (.sinkShortTrip ⟨c, pin⟩) s = .next s)
  ∧ (∀ s c pin, sinkAlive s c = true → hasOnRun s c = true → pin > cfg s 0x5000 4 → s.sinks.channels.length = 48 → ∃ t,
      exec (.sinkShortTrip ⟨c, pin⟩) s = .next t ∧ (sinkOf t c).status = 2 ∧ isDriven t c = false
      ∧ Noted 0x46 0x1A { s with sinks := t.sinks } t)
  ∧ (∀ s c pin, (sinkOf s c).status ≠ 2 → exec (.sinkShortRetry c pin) s = .next s)
  ∧ (∀ s c pin, sinkAlive s c = true → (sinkOf s c).status = 2 → exec (.sinkShortRetry c pin) s
      = .next (onSink c (fun k => { k with code := (channelSettings s c).2.1, status := if longRun s c = true ∧ pin > cfg s 0x5000 4 then 2 else 0 }) s))
  ∧ (∀ s c pin, (sinkOf s c).testDue = false ∨ pairPossible s c = false → exec (.sinkNeighbourTest c pin) s = .next s)
  ∧ (∀ s c pin, sinkAlive s c = true → (sinkOf s c).testDue = true → pairPossible s c = true → s.sinks.channels.length = 48 → ∃ t, exec (.sinkNeighbourTest c pin) s = .next t
      ∧ (∀ d, d ≠ c → sinkOf t d = sinkOf s d) ∧ (sinkOf t c).testDue = false
      ∧ (pin < cfg s 0x5000 6 → (sinkOf t c).pairShort = ((sinkOf s c).pairShort || decide ((sinkOf s c).nShorts ≥ 1)))
      ∧ (pin < cfg s 0x5000 6 → (sinkOf s c).pairShort = false → (sinkOf s c).nShorts ≥ 1 →
          Noted 0x47 0x1A { s with sinks := t.sinks } t)
      ∧ (pin ≥ cfg s 0x5000 6 → t = { s with sinks := t.sinks }
          ∧ (sinkOf t c).pairShort = ((sinkOf s c).pairShort && (sinkOf s c).nCleans == 0)))
  ∧ (∀ s g, isOn s .aux = true → g < 4 → s.sinks.groups.length = 4 → (sinkGroup s g).off = false → ∃ t,
      exec (.sinkHeadroomCycleEnd g) s = .next t ∧ t = { s with sinks := t.sinks }
      ∧ (∀ h, h ≠ g → sinkGroup t h = sinkGroup s h) ∧ (sinkGroup t g).lowest = none
      ∧ ((sinkGroup s g).lowest = none → (sinkGroup t g).hrctl = (sinkGroup s g).hrctl)
      ∧ hrctlOutput t g = some ((sinkGroup t g).hrctl * 400)
      ∧ (∀ h, (sinkGroup s g).lowest = some h → (sinkGroup t g).headroom = h
        ∧ (sinkGroup t g).hrctl = (if h + 100 < cfg s 0x5000 2 then (sinkGroup s g).hrctl
          else if h < cfg s 0x5000 2 then (sinkGroup s g).hrctl - 2
          else if h ≤ cfg s 0x5000 2 + 200 ∨ (sinkGroup s g).noRise > 0 then (sinkGroup s g).hrctl
          else min (cfg s (0x5010 + g) 7) ((sinkGroup s g).hrctl + 1))))
  ∧ (∀ s g, isOn s .aux = true → g < 4 → s.sinks.groups.length = 4 → (sinkGroup s g).off = false →
      (sinkGroup s g).hot ≥ 2 → ∃ t, exec (.sinkGroupShutdown g) s = .next t
      ∧ (sinkGroup t g).off = true ∧ (sinkGroup t g).hrctl = 0 ∧ hrctlOutput t g = none
      ∧ (sinkGroup t g).shutdowns = min ((sinkGroup s g).shutdowns + 1) (2 ^ 32 - 1)
      ∧ (∀ c, c / 12 = g → isDriven t c = false) ∧ Raised 0x48 0x1A { s with sinks := t.sinks } t)
  ∧ (∀ s g, isOn s .aux = true → g < 4 → s.sinks.groups.length = 4 → (sinkGroup s g).off = true →
      (sinkGroup s g).cool ≥ 2 → isLatched s 0x48 = false → ∃ t, exec (.sinkGroupRestart g) s = .next t
      ∧ OnlyFaultParts { s with sinks := t.sinks } t
      ∧ (isActive s 0x48 0x1A = true → isEighthRecovery (nowUs s) (recoveryOf s 0x48).times = true →
          (sinkGroup t g).off = true ∧ isLatched t 0x48 = true)
      ∧ (isEighthRecovery (nowUs s) (recoveryOf s 0x48).times = false → (sinkGroup t g).off = false
          ∧ (sinkGroup t g).resuming = true ∧ (∀ c, c / 12 = g → isDriven t c = false)
          ∧ (isActive s 0x48 0x1A = true →
            (recoveryOf t 0x48).count = min ((recoveryOf s 0x48).count + 1) (2 ^ 16 - 1)
            ∧ isActive t 0x48 0x1A = otherGroupOff s g)))

/-- O39. Frames of the bridge (R16, R17, R357). The steps of the sequence by idle and reserved frames (log 63), the sign that a
send got through (log 64) and the way of the LD end's Waybill (log 165) are the model's choices. -/
def Obligations.BridgeFramesAreJudged : Prop :=
  let sequenced := fun (d : Die) (x : BitVec 80) => [(1, Instr.ddbReadRequest d x), (2, .ddbReadResponse d x), (3, .ddbWrite d x),
    (4, .ddbWriteAcknowledge d x), (5, .ddbWaybill d x), (6, .ddbEvent d x)]
  let naked := fun (d : Die) (s : State) => onDdb d (fun e => { e with
    seq := e.seq + 1, sent := e.sent ++ [ddbFrame 7 (e.seq + 1) 0]
    waiting := e.waiting ++ [(ddbFrame 7 (e.seq + 1) 0, 0)] }) s
  let heard := fun (s t : State) (d : Die) (x : BitVec 80) (ty : Nat) => (ddbEnd t d).heard = ddbSequence x
    ∧ (ddbEnd t d).last = BitVec.ofNat 60 (ty * 2 ^ 56 + ddbPayload x) ∧ OnlyFaultParts s t
  let accepted := fun (s : State) (d : Die) (x : BitVec 80) (ty : Nat) =>
    ddbRuns s = true ∧ ddbCrcGood x = true ∧ ddbFollows s d x = true ∧ ddbType x = ty
  let absent := fun (t : State) => ∀ a ∈ t.faults.active, a.kind = 0x05 → a.unit = 0x04 → a.absent = true
  (∀ s d x k ty c, (ty, c) ∈ (0, Instr.ddbIdleFrame d x) :: (7, .ddbNegativeAcknowledge d ⟨x, k⟩) :: sequenced d x →
      (ddbRuns s = false → exec c s = .next s)
      ∧ (ddbRuns s = true → ddbCrcGood x = false ∨ ddbFollows s d x = false → exec c s = .next (naked d s))
      ∧ (ddbRuns s = true → ddbCrcGood x = true → ddbFollows s d x = true → ddbType x ≠ ty → ddbType x < 8 →
          exec c s = .next s)
      ∧ (ddbRuns s = true → ddbCrcGood x = true → ddbFollows s d x = true → ty ≠ 0 → ddbType x ≥ 8 → ∃ t, exec c s = .next t
          ∧ t = { s with faults := t.faults } ∧ ddbEnd t d = { ddbEnd s d with heard := ddbSequence x } ∧ absent t)
      ∧ (accepted s d x ty → ty ≠ 0 → ty ≠ 5 → ty ≠ 7 → ∃ t, exec c s = .next t ∧ heard s t d x ty
        ∧ t = { s with faults := t.faults } ∧ absent t ∧ (ddbEnd t d).waiting = [] ∧ (ddbEnd t d).sent = (ddbEnd s d).sent
        ∧ (ddbEnd t d).parts = if (ddbEnd s d).parts.length < 3 then [] else (ddbEnd s d).parts))
  ∧ (∀ s d x, accepted s d x 5 → ∃ t, exec (.ddbWaybill d x) s = .next t ∧ heard s t d x 5
      ∧ t = { s with faults := t.faults } ∧ absent t ∧ (ddbEnd t d).parts = takePart (ddbPayload x) (ddbEnd s d).parts
      ∧ (partOutOfOrder (ddbPayload x) (ddbEnd s d).parts = false →
          (ddbEnd t d).waiting = [] ∧ (ddbEnd t d).sent = (ddbEnd s d).sent)
      ∧ (partOutOfOrder (ddbPayload x) (ddbEnd s d).parts = true →
          (ddbEnd t d).sent = (ddbEnd s d).sent ++ [ddbFrame 7 ((ddbEnd s d).seq + 1) 0]))
  ∧ (∀ s d x i f n, accepted s d x 7 → (ddbEnd s d).waiting[i]? = some (f, n) → ∃ t,
      exec (.ddbNegativeAcknowledge d ⟨x, .frame i⟩) s = .next t ∧ heard s t d x 7
      ∧ (n < 3 → (ddbEnd t d).sent = (ddbEnd s d).sent ++ [f] ∧ (ddbEnd t d).waiting[i]? = some (f, n + 1)
          ∧ t.faults.ddbRetries = min (s.faults.ddbRetries + 1) (2 ^ 32 - 1))
      ∧ (n ≥ 3 → isActive t 0x05 0x04 = true ∧ t.faults.ddbRetries = s.faults.ddbRetries))
  ∧ (∀ s d x i f n, accepted s d x 7 → (ddbEnd s d).waiting[i]? = some (f, n) → ddbType f = 5 → ∃ t,
      exec (.ddbNegativeAcknowledge d ⟨x, .record i⟩) s = .next t ∧ heard s t d x 7
      ∧ t.faults.ddbRetries = min (s.faults.ddbRetries + 1) (2 ^ 32 - 1)
      ∧ (∀ a b c rest before, (ddbEnd s d).waiting = before ++ a :: b :: c :: rest →
          i - bitsOf (ddbPayload f) 54 2 = before.length →
          (ddbEnd t d).sent = (ddbEnd s d).sent ++ [ddbFrame 5 ((ddbEnd s d).seq + 1) (ddbPayload a.1),
            ddbFrame 5 ((ddbEnd s d).seq + 2) (ddbPayload b.1), ddbFrame 5 ((ddbEnd s d).seq + 3) (ddbPayload c.1)]))
  ∧ (∀ s d, (silenceCounts s d = false → exec (.ddbSilenceTimeout d) s = .next s)
      ∧ (silenceCounts s d = true → ∃ t, exec (.ddbSilenceTimeout d) s = .next t ∧ Raised 0x05 0x04 s t
        ∧ (d = .ld → isActive s 0x05 0x04 = false → (∀ r ∈ s.faults.unacked, r.unit ≠ 0x04) → ∀ r ∈ t.faults.unacked, r.unit ≠ 0x04)))
  ∧ (∀ s, (ddbRuns s = true → silenceCounts s .ld = true ∧ silenceCounts s .ad = true)
      ∧ (isOn s .core = false → s.aon.supplyOff = false → silenceCounts s .ad = false))
  ∧ (∀ s d x, ddbRuns s = true → ddbCrcGood x = true → ddbFollows s d x = true → ddbType x = 0 → ∃ t,
      exec (.ddbIdleFrame d x) s = .next t
      ∧ t = { s with faults := { s.faults with active := t.faults.active } } ∧ absent t)

/-- O40. Video ingest (R239, R240). -/
def Obligations.VideoRowsAreEncoded : Prop :=
  (∀ s k f r, k < 2 → streamSurface s k = some f → rowToEncode s f (streamOf s k) = some r → ∃ t,
      exec (.videoTileRowEncoded k) s = .next t
      ∧ t = { s with host := t.host, dram := t.dram, free := t.free }
      ∧ (∀ j < 2, j ≠ k → streamOf t j = streamOf s j)
      ∧ streamOf t k = { streamOf s k with
          row := if r ≠ (streamOf s k).row then (streamOf s k).row
            else if (streamOf s k).ahead then (streamOf s k).row + 2 else (streamOf s k).row + 1
          ahead := decide (r ≠ (streamOf s k).row)
          lines := (streamOf s k).lines.filter fun e => e.1 / 32 != r }
      ∧ (dramReadable s = false → t.dram = s.dram)
      ∧ (dramReadable s = true → t.dram = (List.range (tileCols s f)).foldl
          (fun m tx => storeTile s f (streamOf s k).buffer tx r (streamOf s k).lines m) s.dram))
  ∧ (∀ s k f q, k < 2 → streamSurface s k = some f → (streamOf s k).picture = some q → (streamOf s k).discarded = false →
      (streamOf s k).complete = false → tileRows s f ≤ (streamOf s k).row → ∃ t,
      exec (.videoPictureComplete k) s = .next t
      ∧ t = { setCfg (0x3400 + f) 7 (streamOf s k).buffer s with host := t.host }
      ∧ (∀ j < 2, j ≠ k → streamOf t j = streamOf s j)
      ∧ streamOf t k = { streamOf s k with complete := true, count := (streamOf s k).count + 1, last := q })

/-- O41. Caravan frames (R452 to R459), closing and breaks (R467, R468). -/
def Obligations.RingFramesAreForwarded : Prop :=
  let settled := fun (s : State) => isStation s = true ∨ s.power.votes.caravan = 0
  (∀ s l x, isOn s .core = false → ∀ c ∈ [Instr.caravanFrameSend x, .caravanFrameReceived l, .caravanRingBreak,
      .caravanTokenLost, .caravanClosing], exec c s = .next s)
  ∧ (∀ s x, isOn s .core = true → isHead s = true → ∃ t, exec (.caravanFrameSend x) s = .next t
      ∧ t.caravan.tokenSeq = s.caravan.tokenSeq + 1 ∧ t.scan = s.scan
      ∧ t.caravan.sent.take 5 = tokenSlots { s with caravan := { s.caravan with tokenSeq := s.caravan.tokenSeq + 1 } } x
      ∧ frameValid ⟨false, t.caravan.sent, 0, 0⟩ = true
      ∧ frameClosing ⟨false, t.caravan.sent, 0, 0⟩ = s.caravan.closing)
  ∧ (∀ s x p, isOn s .core = true → isStation s = true →
      (s.caravan.state ≠ 4 → exec (.caravanFrameSend x) s = .next s)
      ∧ (s.caravan.state = 4 → s.caravan.position = some p → p ≠ 0 → ∃ t, exec (.caravanFrameSend x) s = .next t
        ∧ t.caravan.sent.take 5 = List.replicate 5 0 ∧ t.scan = s.scan
        ∧ frameValid ⟨false, t.caravan.sent, 0, 0⟩ = true))
  ∧ (∀ s l f p, f = readRing l → isOn s .core = true → isStation s = true → frameValid f = true → s.caravan.state = 2 →
      s.caravan.position = some p → ∃ t, exec (.caravanFrameReceived l) s = .next t
      ∧ t.caravan.state = 2 ∧ t.caravan.position = some p ∧ t.caravan.goodFrames = s.caravan.goodFrames + 1
      ∧ t.caravan.closing = frameClosing f ∧ frameClosing ⟨false, t.caravan.sent, 0, 0⟩ = frameClosing f
      ∧ t.caravan.partials = (ownSlots f).foldl takeSlot s.caravan.partials
      ∧ t.caravan.sent.take 5 = (if hasToken f = true then forwardToken p f.slots else f.slots.take 5)
      ∧ (hasToken f = true → t.caravan.loopValid = bitOf (tokenWord f 0) 4
        ∧ t.caravan.tokenSeq = BitVec.ofNat 8 (tokenWord f 0 / 256))
      ∧ (hasToken f = false → ∀ a ∈ t.faults.active, a.kind = 0x49 → a.unit = 0x1B → a.absent = false)
      ∧ ∀ k, k < 10 → 2 ≤ slotType (nth 0 f.slots (5 + k)) → 1 ≤ slotHops (nth 0 f.slots (5 + k)) →
          nth 0 t.caravan.sent (5 + k) = nth 0 f.slots (5 + k) - BitVec.ofNat 24 (2 ^ 21))
  ∧ (∀ s l f, f = readRing l → isOn s .core = true → isStation s = true → frameValid f = true → s.caravan.state = 1 ∨ s.caravan.state = 3 →
      (s.caravan.goodFrames + 1 < 4 ∨ hasToken f = false → ∃ t, exec (.caravanFrameReceived l) s = .next t
        ∧ t.caravan.state = s.caravan.state ∧ t.caravan.goodFrames = s.caravan.goodFrames + 1
        ∧ t.caravan.sent = s.caravan.sent)
      ∧ (4 ≤ s.caravan.goodFrames + 1 → hasToken f = true → ∃ t, exec (.caravanFrameReceived l) s = .next t
        ∧ t.caravan.state = 2 ∧ t.caravan.position = some ((tokenWord f 0 + 1) % 8)
        ∧ t.caravan.sent.take 5 = forwardToken ((tokenWord f 0 + 1) % 8) f.slots))
  ∧ (∀ s l f p, f = readRing l → isOn s .core = true → frameValid f = false → isStation s = true ∨ isHead s = true →
      ∃ t, exec (.caravanFrameReceived l) s = .next t
      ∧ t.caravan.frameErrors = min (s.caravan.frameErrors + 1) (2 ^ 32 - 1) ∧ t.caravan.partials = []
      ∧ t.caravan.goodFrames = 0 ∧ t.caravan.state = s.caravan.state
      ∧ (isStation s = true → s.caravan.state = 2 ∨ s.caravan.state = 4 → s.caravan.position = some p → p ≠ 0 →
        t.caravan.sent.take 5 = List.replicate 5 0))
  ∧ (∀ s l f, f = readRing l → isOn s .core = true → isHead s = true → frameValid f = true → hasToken f = false →
      ∃ t, exec (.caravanFrameReceived l) s = .next t ∧ t.caravan.goodFrames = 0
      ∧ ∀ a ∈ t.faults.active, a.kind = 0x49 → a.unit = 0x1B → a.absent = false)
  ∧ (∀ s l f, f = readRing l → isOn s .core = true → isHead s = true → frameValid f = true → hasToken f = true →
      ∃ t, exec (.caravanFrameReceived l) s = .next t ∧ t.caravan.goodFrames = s.caravan.goodFrames + 1
      ∧ t.caravan.partials = (ownSlots f).foldl takeSlot s.caravan.partials
      ∧ (4 ≤ s.caravan.goodFrames + 1 → s.caravan.loopValid = false → t.caravan.loopValid = true
        ∧ t.caravan.size = tokenWord f 0 % 8 + 1 ∧ t.caravan.loopDelay = f.delay % 8192))
  ∧ (∀ s source, ((s.caravan.partials.any fun m => m.source == source) = false →
        exec (.caravanMessageTimeout source) s = .next s)
      ∧ ((s.caravan.partials.any fun m => m.source == source) = true → exec (.caravanMessageTimeout source) s
        = .next { s with caravan := { s.caravan with
            partials := s.caravan.partials.filter (fun m => m.source != source),
            dropped := min (s.caravan.dropped + 1) (2 ^ 32 - 1) } }))
  ∧ (∀ s, isOn s .core = true → isStation s = true → s.caravan.closing = false → s.caravan.state = 2 ∨ s.caravan.state = 4 →
      ∃ u t, exec .caravanRingBreak s = .next t ∧ u.caravan.state = 4 ∧ u.caravan.relays = []
        ∧ holds u .caravan = false ∧ u.link = s.link ∧ Raised 0x49 0x1B u t)
  ∧ (∀ s, isOn s .core = true → isHead s = true → s.caravan.closing = false → s.power.votes.caravan = 0 →
      ∃ u t, exec .caravanTokenLost s = .next t ∧ u.caravan.relays = [] ∧ u.link = s.link ∧ Raised 0x49 0x1B u t)
  ∧ (∀ s, isOn s .core = true → s.caravan.enabled = true →
      (s.caravan.closing = false → exec .caravanClosing s = .next s)
      ∧ (s.caravan.closing = true → settled s → ∃ t, exec .caravanClosing s = .next t ∧ t.caravan.state = 3
        ∧ t.caravan.relays = [] ∧ t.faults = s.faults ∧ t.link = s.link))

/-- O42. Caravan messages (R458, R459, R463 to R466) and the session over the ring (R481, R482). -/
def Obligations.RingMessagesAreDelivered : Prop :=
  let word := fun (m : RingMessage) (k : Nat) => (nth 0 m.words k).toNat
  let bytes := fun (ws : List (BitVec 16)) => ws.flatMap fun w => leBytes 2 w.toNat
  let rest := fun (s : State) (r : Relay) => s.caravan.relays.erase r ≠ [] ∨ s.update.relayTarget ≠ 0
    ∨ cpVotesAlone { s.power.votes with caravan := 0 } = false
  let voted := fun (s : State) => if s.power.votes.caravan = 0
    then { s with power := { s.power with votes := { s.power.votes with caravan := 0x04 } } } else s
  (∀ s m, isOn s .core = false → ∀ c ∈ [Instr.caravanDictionaryRequest m, .caravanDictionaryResponse m, .caravanWaybill m,
      .caravanImageStream m, .caravanStreamCredit m, .caravanAnnounce m, .caravanVoteRelease], exec c s = .next s)
  ∧ (∀ s m, isOn s .core = true → isHead s = true → busOff s .a = false →
      (∀ n, nth 0xFF s.caravan.nodeMap m.source = n → n ≠ 0xFF → ∃ t, exec (.caravanWaybill m) s = .next t
        ∧ t.host.canOut = s.host.canOut ++ [⟨.a, canId s true n 0, waybillFrame (BitVec.ofNat 64 (leNat (bytes (m.words.take 4)))), true⟩]
        ∧ t.aon = s.aon ∧ t.caravan = s.caravan)
      ∧ (nth 0xFF s.caravan.nodeMap m.source = 0xFF → ∃ t n, exec (.caravanWaybill m) s = .next t ∧ n < 16
        ∧ t.host.canOut = s.host.canOut ++ [⟨.a, canId s true n 0, waybillFrame (BitVec.ofNat 64 (leNat (bytes (m.words.take 4)))), true⟩]
        ∧ t.aon = s.aon ∧ t.caravan = s.caravan))
  ∧ (∀ s m, isOn s .core = true → isHead s = true → m.source < 8 →
      let n := word m 0 % 16
      (n = 0 ∨ n ∈ s.caravan.banned → exec (.caravanAnnounce m) s = .next s)
      ∧ (n ≠ 0 → n ∉ s.caravan.banned → (∀ q, q < 8 → q ≠ m.source → nth 0xFF s.caravan.nodeMap q ≠ n) →
        exec (.caravanAnnounce m) s = .next { s with caravan := { s.caravan with nodeMap := s.caravan.nodeMap.set m.source n } })
      ∧ (∀ q, n ≠ 0 → n ∉ s.caravan.banned → q < 8 → q ≠ m.source → nth 0xFF s.caravan.nodeMap q = n →
        ∃ t, exec (.caravanAnnounce m) s = .next t ∧ n ∈ t.caravan.banned ∧ positionOf t n = none))
  ∧ (∀ s m, isOn s .core = true → isStation s = true →
      (cpReady s = false → ∃ t, exec (.caravanDictionaryRequest m) s = .next t
        ∧ t.power = (voted s).power
        ∧ t.caravan.dictionary = s.caravan.dictionary ++ [⟨0, false, ringResponse m.tag 0x01 []⟩])
      ∧ (cpReady s = true → bitOf (word m 0) 15 = false →
        let r := readObject (.caravan m.tag) (word m 1) (word m 0 % 256) (voted s)
        exec (.caravanDictionaryRequest m) s = .next (answer (.caravan m.tag) false (word m 1) (word m 0 % 256) r.1 r.2.1 r.2.2))
      ∧ (cpReady s = true → bitOf (word m 0) 15 = true → ∀ st v, writeObject { via := .caravan m.tag, index := word m 1, sub := word m 0 % 256 } (word m 1) (word m 0 % 256) ((bytes (m.words.drop 3)).take (word m 2)) (voted s) = (st, v) →
        exec (.caravanDictionaryRequest m) s = .next (match st with
          | some x => answer (.caravan m.tag) true (word m 1) (word m 0 % 256) x [] v | none => v)))
  ∧ (∀ s m, isOn s .core = true → isHead s = true →
      let known := fun (r : Relay) => r.node == nth 0xFF s.caravan.nodeMap m.source && r.tag == m.tag
      (s.caravan.relays.find? known = none → exec (.caravanDictionaryResponse m) s = .next s)
      ∧ (∀ r, s.caravan.relays.find? known = some r → busOff s r.bus = false → rest s r → ∃ t more, exec (.caravanDictionaryResponse m) s = .next t
        ∧ t.caravan.relays = s.caravan.relays.erase r
        ∧ t.host.canOut = s.host.canOut ++ (canFrames (ofBool r.write) r.tag (word m 0 / 256)
            ((bytes (m.words.drop 1)).take (word m 0 % 256))).map (fun f => ⟨r.bus, canId s true r.node r.index, f, true⟩) ++ more))
  ∧ (∀ s, (s.caravan.relays = [] → exec .caravanRelayTimeout s = .next s)
      ∧ (∀ r q, s.caravan.relays = r :: q → busOff s r.bus = false → rest s r → ∃ t more, exec .caravanRelayTimeout s = .next t
        ∧ t.caravan.relays = q
        ∧ t.host.canOut = s.host.canOut ++ (canFrames (ofBool r.write) r.tag 0x07 []).map
            (fun f => ⟨r.bus, canId s true r.node r.index, f, true⟩) ++ more))
  ∧ (∀ s m, isOn s .core = true → isStation s = true → ∀ l, l = s.caravan.streamIn ++ bytes m.words →
      (nextSession l.length l = none → ∃ t, exec (.caravanImageStream m) s = .next t
        ∧ t.caravan.streamIn = l ∧ t.power = (voted s).power
        ∧ t.caravan.announces = s.caravan.announces ++ [ringMessage m.source 5 1 []])
      ∧ (∀ f, inReset s = false → nextSession l.length l = some (5, f, []) → ∃ t, exec (.caravanImageStream m) s = .next t
        ∧ t.caravan.streamIn = [] ∧ s.caravan.stream.length < t.caravan.stream.length
        ∧ t.caravan.announces = s.caravan.announces ++ [ringMessage m.source 5 1 []]))
  ∧ (∀ s m, isOn s .core = true → isStation s = true →
      (m.tag ≠ 15 → exec (.caravanStreamCredit m) s
        = .next { s with caravan := { s.caravan with credits := s.caravan.credits + m.tag } })
      ∧ (m.tag = 15 → exec (.caravanStreamCredit m) s = .next { s with caravan := { s.caravan with
          credits := 15, stream := [], streamIn := [], announces := s.caravan.announces ++ [ringMessage m.source 5 15 []] } }))
  ∧ (∀ s m, isOn s .core = true → isHead s = true → s.update.relayTarget ≠ 0 →
      positionOf s s.update.relayTarget = some m.source → ∃ t, exec (.caravanStreamCredit m) s = .next t
      ∧ t.caravan.credits = s.caravan.credits + m.tag ∧ t.update.relayBusy = false
      ∧ (s.update.relayBusy = true → t.update.out = s.update.out ++ [⟨.svc, 0x88, s.update.relayTag, [0]⟩]))
  ∧ (∀ s, isOn s .core = true → isStation s = true → cpVotesAlone { s.power.votes with caravan := 0 } = false →
      exec .caravanVoteRelease s = .next { s with power := { s.power with votes := { s.power.votes with caravan := 0 } } })
  ∧ (∀ s, (holds s .caravan = false → exec .caravanSessionIdleTimeout s = .next s)
      ∧ (holds s .caravan = true → exec .caravanSessionIdleTimeout s
        = .next { s with update := { s.update with session := none } }))

/-- O43. The update session (R480 to R482) and its relay (R485). -/
def Obligations.SessionFramesAreAnswered : Prop :=
  let opened := fun (s : State) (f : SvcFrame) =>
    inReset s = false ∧ isOn s .core = true ∧ (if f.source = .svc then s.update.svcEnabled else isStation s) = true
  let heard := fun (s : State) (op : Nat) (f : SvcFrame) =>
    opened s f ∧ cpReady s = true ∧ (f.source = .svc → s.update.relayTarget = 0) ∧ svcGood op f = true
  let tells := fun (op : Nat) (f : SvcFrame) (st : Nat) (rest : List Byte) (s t : State) =>
    (f.source = .svc → t.update.out = s.update.out ++ [⟨.svc, op + 128, f.tag, BitVec.ofNat 8 st :: rest⟩]
      ∧ t.caravan = s.caravan)
    ∧ (f.source = .caravan → t.caravan = (queueStream 0 (svcBytes (op + 128) f.tag (BitVec.ofNat 8 st :: rest)) s).caravan
      ∧ t.update.out = s.update.out)
  let kept := fun (s t : State) => t.nvm = s.nvm ∧ t.update.session = s.update.session ∧ t.update.baud = s.update.baud
  let mine := fun (s : State) (f : SvcFrame) => (∀ x, s.update.session = some x → x.source = f.source ∧ x.opening = none)
  (∀ s f op c, (op, c) ∈ [(1, Instr.svcOpen f), (2, .svcWrite f), (3, .svcFinish f), (4, .svcActivate f), (5, .svcStatus f),
        (6, .svcClose f), (7, .svcSetRate f)] →
      (¬opened s f → exec c s = .next s)
      ∧ (opened s f → cpReady s = false → ∃ t, exec c s = .next t ∧ tells op f 0x01 [] s t ∧ kept s t)
      ∧ (opened s f → cpReady s = true → f.source = .svc → s.update.relayTarget ≠ 0 → ∀ q,
          positionOf s s.update.relayTarget = some q → exec c s
            = .next (queueStream q ([0xC3, 0x5A] ++ svcBody op f.tag f.payload ++ leBytes 4 f.crc.toNat) s))
      ∧ (opened s f → cpReady s = true → (f.source = .svc → s.update.relayTarget = 0) → svcGood op f = false →
          ∃ t, exec c s = .next t ∧ tells op f 0x06 [] s t ∧ kept s t))
  ∧ (∀ s f, heard s 1 f → f.payload.length = 8 →
      let length := field f.payload 0 4
      (lifeState s = 0 → ∃ t, exec (.svcOpen f) s = .next t ∧ tells 1 f 0x02 [] s t ∧ kept s t)
      ∧ (lifeState s ≠ 0 → heldByOther s f.source = true →
        ∃ t, exec (.svcOpen f) s = .next t ∧ tells 1 f 0x10 [] s t ∧ kept s t)
      ∧ (lifeState s ≠ 0 → mine s f → 320 ≤ length → length ≤ 8388608 → activating s = true ∨ inactiveSlot s = none →
        ∃ t, exec (.svcOpen f) s = .next t ∧ tells 1 f 0x13 [] s t ∧ kept s t)
      ∧ (∀ n, lifeState s ≠ 0 → mine s f → 320 ≤ length → length ≤ 8388608 → activating s = false → inactiveSlot s = some n →
        ∃ t, exec (.svcOpen f) s = .next t ∧ t.update.out = s.update.out ∧ t.caravan = s.caravan
          ∧ slotOf t n = { package := .writing [] }
          ∧ t.update.session = some ⟨f.source, n, length, BitVec.ofNat 32 (field f.payload 4 4), some f.tag⟩))
  ∧ (∀ s, (∀ x tag, s.update.session = some x → x.opening = some tag → ∃ t, exec .slotEraseDone s = .next t
        ∧ tells 1 ⟨x.source, tag, [], 0⟩ 0x00 [BitVec.ofNat 8 x.slot] s t
        ∧ t.update.session = some { x with opening := none } ∧ t.nvm = s.nvm)
      ∧ ((∀ x, s.update.session = some x → x.opening = none) → exec .slotEraseDone s = .next s))
  ∧ (∀ s f, heard s 2 f → 5 ≤ f.payload.length → f.payload.length ≤ 4100 →
      (heldByOther s f.source = true → ∃ t, exec (.svcWrite f) s = .next t ∧ tells 2 f 0x10 [] s t ∧ kept s t)
      ∧ (s.update.session = none → ∃ t, exec (.svcWrite f) s = .next t ∧ tells 2 f 0x11 [] s t ∧ kept s t)
      ∧ (∀ x, s.update.session = some x → mine s f →
        let bs := packageBytes (slotOf s x.slot).package
        let n := bs.length + (f.payload.length - 4)
        (field f.payload 0 4 ≠ bs.length ∨ x.length < n →
          ∃ t, exec (.svcWrite f) s = .next t ∧ tells 2 f 0x12 [] s t ∧ kept s t)
        ∧ (field f.payload 0 4 = bs.length → n ≤ x.length → ∃ t, exec (.svcWrite f) s = .next t
          ∧ tells 2 f 0x00 (leBytes 4 n) s t ∧ t.update.session = s.update.session
          ∧ (slotOf t x.slot).package = .writing (bs ++ f.payload.drop 4))))
  ∧ (∀ s f, heard s 3 f → f.payload = [] →
      (s.update.session = none → ∃ t, exec (.svcFinish f) s = .next t ∧ tells 3 f 0x11 [] s t ∧ kept s t)
      ∧ (∀ x, s.update.session = some x → mine s f →
        let bs := packageBytes (slotOf s x.slot).package
        (finishGood x bs = false → ∃ t, exec (.svcFinish f) s = .next t ∧ tells 3 f 0x14 [] s t ∧ kept s t)
        ∧ (finishGood x bs = true → ∃ t, exec (.svcFinish f) s = .next t ∧ tells 3 f 0x00 [] s t
          ∧ t.update.session = s.update.session ∧ (slotOf t x.slot).package = .complete bs)))
  ∧ (∀ s f, heard s 5 f → f.payload = [] → ∃ t holder, exec (.svcStatus f) s = .next t ∧ kept s t
      ∧ tells 5 f 0x00 ([holder, BitVec.ofNat 8 (activeSlots s), BitVec.ofNat 8 s.update.activation]
          ++ slotContent s.nvm.slot0 ++ slotContent s.nvm.slot1) s t
      ∧ (holder = 0 ↔ s.update.session = none) ∧ (holder = 1 ↔ ∃ x, s.update.session = some x ∧ x.source = .svc))
  ∧ (∀ s f, heard s 6 f → f.payload = [] →
      (holds s f.source = true → ∃ t, exec (.svcClose f) s = .next t ∧ tells 6 f 0x00 [] s t
        ∧ t.update.session = none ∧ t.nvm = s.nvm)
      ∧ (holds s f.source = false → ∃ t, exec (.svcClose f) s = .next t ∧ tells 6 f 0x11 [] s t ∧ kept s t))
  ∧ (∀ s f, heard s 7 f → f.payload.length = 4 →
      let r := field f.payload 0 4
      (r ∈ [115200, 921600, 3000000, 6000000] → ∃ t, exec (.svcSetRate f) s = .next t ∧ tells 7 f 0x00 [] s t
        ∧ (f.source = .svc → t.update.baud = r) ∧ t.update.session = s.update.session ∧ t.nvm = s.nvm)
      ∧ (r ∉ [115200, 921600, 3000000, 6000000] → ∃ t, exec (.svcSetRate f) s = .next t ∧ tells 7 f 0x04 [] s t ∧ kept s t))
  ∧ (∀ s, let closed := if holds s .svc = true then none else s.update.session
      exec .svcIdleTimeout s = .next { s with update := { s.update with baud := 115200, session := closed } }
      ∧ exec .svcEnRise s = .next { s with update := { s.update with baud := 115200, svcEnabled := false, session := closed } }
      ∧ exec .svcEnFall s = .next { s with update := { s.update with baud := 115200, svcEnabled := true } })

/-- O44. Activation (R484) and RELAY_SELECT (R481, R485). -/
def Obligations.ActivationFollowsItsSteps : Prop :=
  let heard := fun (s : State) (op : Nat) (f : SvcFrame) => inReset s = false ∧ cpReady s = true ∧ f.source = .svc
    ∧ s.update.svcEnabled = true ∧ svcGood op f = true
  let tells := fun (op : Nat) (f : SvcFrame) (st : Nat) (s t : State) =>
    t.update.out = s.update.out ++ [⟨.svc, op + 128, f.tag, [BitVec.ofNat 8 st]⟩]
  let quiet := fun (s : State) => isHead s = false ∨ s.power.votes.caravan = 0
  let held := fun (s : State) => isHead s = false ∨ cpVotesAlone { s.power.votes with caravan := 0 } = false
  (∀ s f, heard s 4 f → s.update.relayTarget = 0 → f.payload.length = 1 →
      let n := field f.payload 0 1
      (2 ≤ n → ∃ t, exec (.svcActivate f) s = .next t ∧ tells 4 f 0x04 s t ∧ t.update.activation = s.update.activation)
      ∧ (n < 2 → heldByOther s .svc = true → ∃ t, exec (.svcActivate f) s = .next t ∧ tells 4 f 0x10 s t
        ∧ t.update.activation = s.update.activation ∧ t.nvm = s.nvm)
      ∧ (n < 2 → heldByOther s .svc = false → activating s = true ∨ slotComplete s n = false →
        ∃ t, exec (.svcActivate f) s = .next t ∧ tells 4 f 0x13 s t ∧ t.update.activation = s.update.activation ∧ t.nvm = s.nvm)
      ∧ (n < 2 → heldByOther s .svc = false → activating s = false → slotComplete s n = true → s.update.activation ≠ 5 →
        ∃ t, exec (.svcActivate f) s = .next t ∧ tells 4 f 0x00 s t ∧ t.update.activation = 1 ∧ t.update.slot = n
          ∧ t.update.session = none ∧ bankOf t n = .writing []))
  ∧ (∀ s, s.update.activation = 1 → cpReady s = true → s.update.slot < 2 →
      let n := s.update.slot
      (∀ p, lsToMove s = some p → isOn s .link = true → ∃ t, exec .programStoreCopyDone s = .next t
        ∧ t.update.activation = 2 ∧ t.update.port = some p ∧ t.units.ls.get p = .booting
        ∧ bankOf t n = (slotOf s n).package ∧ slotOf t n = slotOf s n)
      ∧ (lsToMove s = none → s.units.runCp ≠ n ∨ s.units.cpRecoveryBoot = true → quiet s → ∃ t, exec .programStoreCopyDone s = .next t
        ∧ t.update.activation = 3 ∧ t.units.cp = .booting ∧ t.units.cpColdBoot = false ∧ t.update.session = none
        ∧ bankOf t n = (slotOf s n).package)
      ∧ (lsToMove s = none → s.units.runCp = n → s.units.cpRecoveryBoot = false → s.update.back = false → s.units.runSm ≠ n →
        ∃ t, exec .programStoreCopyDone s = .next t ∧ t.update.activation = 4 ∧ t.nvm.selSmNext = some n
        ∧ bankOf t n = (slotOf s n).package ∧ t.units = s.units))
  ∧ (∀ s, s.update.activation ≠ 1 → exec .programStoreCopyDone s = .next s)
  ∧ (∀ s f, heard s 8 f → f.payload.length = 1 →
      let n := field f.payload 0 1
      (16 ≤ n → held s ∨ s.update.relayTarget ≠ 0 → ∃ t, exec (.svcRelaySelect f) s = .next t ∧ tells 8 f 0x04 s t
        ∧ t.update.relayTarget = s.update.relayTarget)
      ∧ (n < 16 → s.update.relayTarget ≠ 0 → n ≠ s.update.relayTarget → 1 ≤ s.update.relayState → s.update.relayState ≤ 3 →
        ∃ t, exec (.svcRelaySelect f) s = .next t ∧ tells 8 f 0x13 s t ∧ t.update.relayTarget = s.update.relayTarget)
      ∧ (n = 0 → s.update.relayTarget = 0 → held s → ∃ t, exec (.svcRelaySelect f) s = .next t ∧ tells 8 f 0x00 s t
        ∧ t.update.relayTarget = 0)
      ∧ (n ≠ 0 → n < 16 → s.update.relayTarget = 0 → held s → isHead s = false ∨ positionOf s n = none →
        ∃ t, exec (.svcRelaySelect f) s = .next t ∧ tells 8 f 0x15 s t ∧ t.update.relayTarget = 0)
      ∧ (∀ q, n ≠ 0 → n < 16 → s.update.relayTarget = 0 ∨ n = s.update.relayTarget → isHead s = true →
          positionOf s n = some q → ∃ t, exec (.svcRelaySelect f) s = .next t ∧ t.update.out = s.update.out
        ∧ t.update.relayTarget = n ∧ t.update.relayBusy = true ∧ t.update.relayTag = f.tag ∧ t.power.votes.caravan ≠ 0
        ∧ t.caravan.announces = s.caravan.announces ++ [ringMessage q 5 15 []]))
  ∧ (∀ s, (s.update.relayBusy = false → exec .relaySelectTimeout s = .next s)
      ∧ (s.update.relayBusy = true → held s → ∃ t, exec .relaySelectTimeout s = .next t ∧ t.update.relayTarget = 0
        ∧ t.update.relayBusy = false ∧ t.update.out = s.update.out ++ [⟨.svc, 0x88, s.update.relayTag, [0x15]⟩]))

/-- O45. Phase corrections change the period of the coming eighths, never the position (R42). -/
def Obligations.PhaseCorrectionsNeverStepThePosition : Prop :=
  ∀ s c, (∃ rising fraction, c = .syncInEdge rising fraction) ∨ (∃ lane packet fraction, c = .uhlTimeSync lane packet fraction)
      ∨ (∃ frame, c = .caravanFrameReceived frame) →
    ∃ t, exec c s = .next t ∧ t.scan.pos = s.scan.pos ∧ t.scan.eighths = s.scan.eighths ∧ t.scan.phi = s.scan.phi
      ∧ t.scan.clocks = s.scan.clocks ∧ t.scan.dt = s.scan.dt ∧ t.scan.clkTotal = s.scan.clkTotal
      ∧ t.scan.running = s.scan.running

/-- O46. R56: the time pair of a TIME_SYNC packet. -/
def Obligations.TimePairOfTimeSync : Prop :=
  let waits := fun (s : State) => recordsWait s = true ∨ ∃ n bs q, s.host.queue = .odWrite n bs :: q
  (∀ s lane packet fraction, isOn s .link = true → (hostLane s lane).state = 1 → onControlLane s lane packet = true →
      uhlGood packet 5 24 = true → packet.payload.length = 16 → bitsOf (leNat packet.payload) 64 16 ≤ 4095 →
      bitsOf (leNat packet.payload) 80 48 = 0 →
      (hostLane s lane).lastSeq ≠ some (BitVec.ofNat 16 (hdrSequence packet.header)) →
      let time := BitVec.ofNat 64 (leNat packet.payload)
      let dt := s.scan.dt + BitVec.ofNat 48 ((s.scan.clkRest + fraction % 256 * s.scan.clocks / 256) / 200)
      ∃ t, exec (.uhlTimeSync lane packet fraction) s = .next t
      ∧ t.scan.dt = s.scan.dt ∧ t.scan.clkRest = s.scan.clkRest
      ∧ (s.host.queue = [] → recordsWait s = false →
          t.scan.hostTime = time ∧ t.scan.dtAtSync = dt ∧ t.host.queue = [])
      ∧ (waits s → t.scan.hostTime = s.scan.hostTime ∧ t.scan.dtAtSync = s.scan.dtAtSync
          ∧ t.host.queue = s.host.queue ++ [.timePair time dt]))
  ∧ (∀ s time dt q, s.host.queue = .timePair time dt :: q → recordsWait s = false → (∀ x y, .timePair x y ∉ q) →
      (runQueue s).scan.hostTime = time ∧ (runQueue s).scan.dtAtSync = dt ∧ (runQueue s).scan.dt = s.scan.dt)
  ∧ (∀ s o x, objectAt 0x8100 0x12 = some o → objectAt 0x8100 0x13 = some x →
      objectValue s o 0x8100 0x12 = s.scan.hostTime.toNat ∧ objectValue s x 0x8100 0x13 = s.scan.dtAtSync.toNat)

/-- O47. R285: writes of the fault objects. -/
def Obligations.FaultObjectWritesAreJudged : Prop :=
  let sound := fun (s : State) (via : Via) (i j : Nat) (data : List Byte) => cpReady s = true ∧ ∃ o, objectAt i j = some o
    ∧ isFused s i = false ∧ unitBusy s i j = false ∧ writeAllowed s via o i j = true
    ∧ data.length = o.size ∧ inRange o.range o.size (leNat data) = true
  (∀ s via k data, sound s via 0x7120 k data → (kindRow k).fixed = true →
      exec (.odObjectWrite via 0x7120 k data) s = .next (answer via true 0x7120 k 0x02 [] s))
  ∧ (∀ s via data, sound s via 0x7502 1 data → isLatched s (leNat data) = false →
      exec (.faultLatchClear via data) s = .next (answer via true 0x7502 1 0x04 [] s))
  ∧ (∀ s via u data, sound s via 0x7301 (u % 256) data → ∃ t, exec (.blockAck via u ⟨data, 0⟩) s
        = .next (answer via true 0x7301 (u % 256) 0x00 [] t)
      ∧ t = { s with faults := { s.faults with blocks := t.faults.blocks } }
      ∧ (∀ x, x ≠ u % 256 → blockOf t x = blockOf s x)
      ∧ (∀ b, b < 16 → (blockOf t (u % 256)).bits.getLsbD b
          = ((blockOf s (u % 256)).bits.getLsbD b && !(leNat data).testBit b))
      ∧ ((blockOf s (u % 256)).bits &&& BitVec.ofNat 16 (leNat data) = 0 → ∀ x, blockOf t x = blockOf s x))

/-- O48. R410: the relations of the sinks' diagnosis levels. -/
def Obligations.AuxLevelsStayApart : Prop :=
  ∀ s via j data o, j = 2 ∨ j = 4 ∨ j = 6 → cpReady s = true → objectAt 0x5000 j = some o → isFused s 0x5000 = false →
    unitBusy s 0x5000 j = false → writeAllowed s via o 0x5000 j = true → data.length = o.size →
    inRange o.range o.size (leNat data) = true →
    let level := cfg (setCfg 0x5000 j (leNat data) (withQueued s)) 0x5000
    (level 6 > level 2 + 200 ∧ level 4 > level 2 + 1000 → judgeRequest s via 0x5000 j data = 0x00)
    ∧ (¬(level 6 > level 2 + 200 ∧ level 4 > level 2 + 1000) → judgeRequest s via 0x5000 j data = 0x04
      ∧ exec (.odObjectWrite via 0x5000 j data) s = .next (answer via true 0x5000 j 0x04 [] s))

/-- O49. R310: the products of the model parameters of a port, in 10 µs. -/
def Obligations.ModelTimeConstantsStayLong : Prop :=
  (∀ s via (p : Port) j data o, 1 ≤ j → j ≤ 6 → cpReady s = true → objectAt (0x6010 + p.num) j = some o →
    isFused s (0x6010 + p.num) = false → unitBusy s (0x6010 + p.num) j = false →
    writeAllowed s via o (0x6010 + p.num) j = true → data.length = o.size →
    inRange o.range o.size (leNat data) = true →
    let x := cfg (setCfg (0x6010 + p.num) j (leNat data) (withQueued s)) (0x6010 + p.num)
    (x 1 * x 2 ≥ 1024 ∧ x 3 * x 4 ≥ 1024 ∧ x 5 * x 6 ≥ 1024 → judgeRequest s via (0x6010 + p.num) j data = 0x00)
    ∧ (x 1 * x 2 < 1024 ∨ x 3 * x 4 < 1024 ∨ x 5 * x 6 < 1024 → judgeRequest s via (0x6010 + p.num) j data = 0x04
      ∧ exec (.odObjectWrite via (0x6010 + p.num) j data) s = .next (answer via true (0x6010 + p.num) j 0x04 [] s)))
  ∧ ∀ s (p : Port), let d := defaultOf s (0x6010 + p.num)
    d 1 * d 2 = 12500 ∧ d 3 * d 4 = 800000 ∧ d 5 * d 6 = 22500000

/-- O50. R401: the spread of a sink's duty. -/
def Obligations.SinkTicksAreSpread : Prop :=
  ∀ c d, d < 4096 →
    (∀ k, k < 16 → segmentTicks c d k = if reverse4 ((k + c % 16) % 16) < d % 16 then d / 16 + 1 else d / 16)
    ∧ (∀ x, x < 16 → reverse4 x < 16 ∧ ∀ i, i < 4 → (reverse4 x).testBit i = x.testBit (3 - i))
    ∧ (∀ k t, k < 16 → t < 256 → (isOnTick c d k t = true ↔ ∃ i, i < segmentTicks c d k ∧ t = (16 * (c % 12) + i) % 256))
    ∧ ((List.range 16).map (segmentTicks c d)).sum = d
    ∧ (∀ k, ((List.range 256).filter (isOnTick c d k)).length = segmentTicks c d k)

/-- O51. The model's choice (assumption log 3): with no command waiting a step changes nothing. -/
def Obligations.EmptyQueueIdles : Prop := ∀ s, s.pending = [] → step s = .next s

/-- O52. The state after reset (R416, R423, R425, R492). -/
def Obligations.ResetLeavesTheStatedValues : Prop :=
  let s := State.reset
  isOn s .safe = true ∧ (∀ d ∈ [Domain.core, .dram, .pix, .link, .aux], isOn s d = false) ∧ s.power.loadRunning = true
    ∧ inReset s = false ∧ s.aon.resetCause = 0x8000 ∧ s.aon.journalBudget = 65536 ∧ s.aon.ring = []
    ∧ (∀ p, (s.link.get p).enable = false ∧ (s.link.get p).state = .off ∧ mayEmit s p = false)
    ∧ s.faults.active = [] ∧ s.faults.safeState = .none ∧ s.journal.queue = [] ∧ s.pending = [] ∧ s.dram = []
    ∧ s.units.cp = .off ∧ cpReady s = false ∧ s.scan.running = false

/-- O53. The invariant holds after reset. -/
def Obligations.ResetMeetsTheInvariant : Prop := Invariant State.reset

/-- O54. The invariant is kept by every step (R30, R295, R360, R366, R371, R492). -/
def Obligations.EveryStepKeepsTheInvariant : Prop := ∀ s t, Invariant s → step s = .next t → Invariant t

/-- O55. DRAM as a memory (R30). -/
def Obligations.MemoryReadsWhatWasWritten : Prop :=
  (∀ m a b x, Memory.wf m = true → memRead x (memWrite a b m) = if x = a ∧ a < dramSize then b else memRead x m)
  ∧ (∀ m a bs x, Memory.wf m = true → a + bs.length ≤ dramSize → memRead x (memWriteAll a bs m)
      = if a ≤ x ∧ x < a + bs.length then nth 0 bs (x - a) else memRead x m)
  ∧ (∀ m a bs, Memory.wf m = true → a + bs.length ≤ dramSize → memReadAll a bs.length (memWriteAll a bs m) = bs)
  ∧ (∀ m n, Memory.wf m = true → Memory.wf n = true → (∀ x, memRead x m = memRead x n) → m = n)

/-- O56. The life cycle runs one way (R495). -/
def Obligations.LifeCycleRunsOneWay : Prop :=
  ∀ c s t, exec c s = .next t → t.nvm.life.length = s.nvm.life.length
    ∧ (∀ i, nth 0 s.nvm.life i ≠ 0 → nth 0 t.nvm.life i ≠ 0) ∧ lifeState s ≤ lifeState t

/-- O57. The frame of every command. -/
def Obligations.EveryCommandTouchesOnlyItsParts : Prop :=
  ∀ c s t p, exec c s = .next t → p ∉ touches c → SamePart p s t

/-- O58. The dither matrix and the thresholds (R163), for every matrix that the part may hold. -/
def Obligations.DitherMeetsEveryThresholdOnce : Prop :=
  ((List.range 4096).map ditherEntry).Perm (List.range 4096)
  ∧ (∀ s o, objectAt 0x4000 2 = some o → ∀ i, i < 4096 → objectValue s o 0x4000 2 / 2 ^ (16 * i) % 2 ^ 16 = ditherEntry i)
  ∧ (∀ s p c r e, cfg s 0x4000 1 ≠ 1 → guardEnabled s = false ∨ cfg s 0x4000 3 ≠ 1 → c < 1024 → r < 512 →
      ((List.range 4096).map fun k => threshold s p c r (e + k)).Perm (List.range 4096))
  ∧ (∀ s p c r e, cfg s 0x4000 1 = 1 → threshold s p c r e = 2048)
  ∧ (∀ s p c r e f, guardEnabled s = true → cfg s 0x4000 3 = 1 → threshold s p c r e = threshold s p c r f)

/-- O59. Decode of encode on the symbols of the pixel link and of the host lanes (R188, R189, R193); the tables are those of log
10. -/
def Obligations.SymbolsRoundTrip : Prop :=
  (∀ rd c, decodeGroup rd (encodeCharacter rd c).1 = .char c
      ∧ disparityAfter 10 rd (encodeCharacter rd c).1.toNat = (encodeCharacter rd c).2)
  ∧ (∀ rd cs, decodeGroups rd (encodeCharacters rd cs).1 = cs.map .char)
  ∧ (∀ (t : TxPacket) (rd : Bool), ∃ xs, decodeGroups rd (encodeCharacters rd (packetCharacters t)).1
        = .char .sop :: (xs ++ [.char .eop])
      ∧ (let k : RxPacket := { symbols := xs }
        packetGood k = true ∧ k.codeErrors = 0 ∧ k.header = t.header ∧ k.payload = t.payload)
      ∧ ∀ n (a b : Byte), let m : RxPacket := { symbols := xs.take n ++ [.char .marker, .char (.data a), .char (.data b)] ++ xs.drop n }
        packetGood m = true ∧ m.codeErrors = 0 ∧ m.header = t.header ∧ m.payload = t.payload)

/-- O60. Decode of encode on the line of the Caravan (R450 to R452). -/
def Obligations.RingLineRoundTrip : Prop :=
  (∀ slots : List (BitVec 24), slots.length = 16 → (frameCells slots).length = 400
      ∧ (frameCells slots).take 2 = [(0, 16), (0, 16)]
      ∧ (∀ x ∈ (frameCells slots).drop 2, x = (4, 12) ∨ x = (12, 4))
      ∧ ∀ (edges : List (Nat × Nat)) (clock delay : Nat), edges.length = 398 →
        (∀ k, k < 398 → let high := (nth (0, 0) (frameCells slots) (k + 2)).1
          high ≤ (nth (0, 0) edges k).1 + 2 ∧ (nth (0, 0) edges k).1 ≤ high + 2) →
        (∀ k, k < 397 → 14 ≤ (nth (0, 0) edges k).2 ∧ (nth (0, 0) edges k).2 ≤ 18) → 24 ≤ (nth (0, 0) edges 397).2 →
        readRing ⟨edges, clock, delay⟩ = ⟨false, slots, clock, delay⟩)
  ∧ (∀ (l : RingLine) k, k < l.edges.length → let high := (nth (0, 0) l.edges k).1
      high < 2 ∨ (6 < high ∧ high < 10) ∨ 14 < high → frameValid (readRing l) = false)
end

