-- ==== Sys2Proof/Laws/Footprint.lean ====
section
/-!
SUPPORT. Laws/Footprint.lean: footprints. `Outside.X s` is `s` with the parts that a group of operations may change
put to a fixed value, so `Outside.X t = Outside.X s` says that `t` and `s` agree on everything else. For a field `f` outside
the footprint, `(congrArg State.f h :)` of such an equation `h` says that `f` is unchanged.
-/

namespace Sys2Proof.Laws

open Sys2Proof Sys2Proof.Machine

/-- The fixed value of a part outside a footprint. -/
@[irreducible] def blank : State := State.reset

/-- A smaller footprint is kept in a larger one. -/
theorem lift {c d : State → State} (h : ∀ s, c (d s) = c s) {x y : State} (e : d x = d y) : c x = c y := by
  rw [← h x, e, h]

/-- What every step of a fold keeps, the fold keeps. -/
theorem foldl_keeps {σ α β : Type} (h : σ → α) {g : σ → β → σ} (hg : ∀ s x, h (g s x) = h s) (l : List β) (s : σ) :
    h (l.foldl g s) = h s := by
  induction l generalizing s with
  | nil => rfl
  | cons x l ih => rw [List.foldl_cons, ih, hg]

/-- The state outside access. -/
def Outside.access (s : State) : State :=
  { s with
    access := blank.access }

@[simp] theorem Outside.access_update (s : State) x0 :
    Outside.access { s with
      access := x0 } = Outside.access s := (rfl)

theorem Outside.access_eq {s t : State} (h : Outside.access t = Outside.access s) :
    t = { s with
      access := t.access } := by
  cases s
  cases t
  simp only [Outside.access, State.mk.injEq] at h
  simp only [h]

/-- The state outside almanac. -/
def Outside.almanac (s : State) : State :=
  { s with
    almanac := blank.almanac }

@[simp] theorem Outside.almanac_update (s : State) x0 :
    Outside.almanac { s with
      almanac := x0 } = Outside.almanac s := (rfl)

theorem Outside.almanac_eq {s t : State} (h : Outside.almanac t = Outside.almanac s) :
    t = { s with
      almanac := t.almanac } := by
  cases s
  cases t
  simp only [Outside.almanac, State.mk.injEq] at h
  simp only [h]

/-- The state outside aon. -/
def Outside.aon (s : State) : State :=
  { s with
    aon := blank.aon }

@[simp] theorem Outside.aon_update (s : State) x0 :
    Outside.aon { s with
      aon := x0 } = Outside.aon s := (rfl)

theorem Outside.aon_eq {s t : State} (h : Outside.aon t = Outside.aon s) :
    t = { s with
      aon := t.aon } := by
  cases s
  cases t
  simp only [Outside.aon, State.mk.injEq] at h
  simp only [h]

/-- The state outside caravan. -/
def Outside.caravan (s : State) : State :=
  { s with
    caravan := blank.caravan }

@[simp] theorem Outside.caravan_update (s : State) x0 :
    Outside.caravan { s with
      caravan := x0 } = Outside.caravan s := (rfl)

theorem Outside.caravan_eq {s t : State} (h : Outside.caravan t = Outside.caravan s) :
    t = { s with
      caravan := t.caravan } := by
  cases s
  cases t
  simp only [Outside.caravan, State.mk.injEq] at h
  simp only [h]

/-- The state outside ceiling. -/
def Outside.ceiling (s : State) : State :=
  { s with
    ceiling := blank.ceiling }

@[simp] theorem Outside.ceiling_update (s : State) x0 :
    Outside.ceiling { s with
      ceiling := x0 } = Outside.ceiling s := (rfl)

theorem Outside.ceiling_eq {s t : State} (h : Outside.ceiling t = Outside.ceiling s) :
    t = { s with
      ceiling := t.ceiling } := by
  cases s
  cases t
  simp only [Outside.ceiling, State.mk.injEq] at h
  simp only [h]

/-- The state outside compose. -/
def Outside.compose (s : State) : State :=
  { s with
    compose := blank.compose }

@[simp] theorem Outside.compose_update (s : State) x0 :
    Outside.compose { s with
      compose := x0 } = Outside.compose s := (rfl)

theorem Outside.compose_eq {s t : State} (h : Outside.compose t = Outside.compose s) :
    t = { s with
      compose := t.compose } := by
  cases s
  cases t
  simp only [Outside.compose, State.mk.injEq] at h
  simp only [h]

/-- The state outside dict. -/
def Outside.dict (s : State) : State :=
  { s with
    dict := blank.dict }

@[simp] theorem Outside.dict_update (s : State) x0 :
    Outside.dict { s with
      dict := x0 } = Outside.dict s := (rfl)

theorem Outside.dict_eq {s t : State} (h : Outside.dict t = Outside.dict s) :
    t = { s with
      dict := t.dict } := by
  cases s
  cases t
  simp only [Outside.dict, State.mk.injEq] at h
  simp only [h]

/-- The state outside drive. -/
def Outside.drive (s : State) : State :=
  { s with
    drive := blank.drive }

@[simp] theorem Outside.drive_update (s : State) x0 :
    Outside.drive { s with
      drive := x0 } = Outside.drive s := (rfl)

theorem Outside.drive_eq {s t : State} (h : Outside.drive t = Outside.drive s) :
    t = { s with
      drive := t.drive } := by
  cases s
  cases t
  simp only [Outside.drive, State.mk.injEq] at h
  simp only [h]

/-- The state outside faults. -/
def Outside.faults (s : State) : State :=
  { s with
    faults := blank.faults }

@[simp] theorem Outside.faults_update (s : State) x0 :
    Outside.faults { s with
      faults := x0 } = Outside.faults s := (rfl)

theorem Outside.faults_eq {s t : State} (h : Outside.faults t = Outside.faults s) :
    t = { s with
      faults := t.faults } := by
  cases s
  cases t
  simp only [Outside.faults, State.mk.injEq] at h
  simp only [h]

/-- The state outside fetch. -/
def Outside.fetch (s : State) : State :=
  { s with
    fetch := blank.fetch }

@[simp] theorem Outside.fetch_update (s : State) x0 :
    Outside.fetch { s with
      fetch := x0 } = Outside.fetch s := (rfl)

theorem Outside.fetch_eq {s t : State} (h : Outside.fetch t = Outside.fetch s) :
    t = { s with
      fetch := t.fetch } := by
  cases s
  cases t
  simp only [Outside.fetch, State.mk.injEq] at h
  simp only [h]

/-- The state outside free. -/
def Outside.free (s : State) : State :=
  { s with
    free := blank.free }

@[simp] theorem Outside.free_update (s : State) x0 :
    Outside.free { s with
      free := x0 } = Outside.free s := (rfl)

theorem Outside.free_eq {s t : State} (h : Outside.free t = Outside.free s) :
    t = { s with
      free := t.free } := by
  cases s
  cases t
  simp only [Outside.free, State.mk.injEq] at h
  simp only [h]

/-- The state outside headroom. -/
def Outside.headroom (s : State) : State :=
  { s with
    headroom := blank.headroom }

@[simp] theorem Outside.headroom_update (s : State) x0 :
    Outside.headroom { s with
      headroom := x0 } = Outside.headroom s := (rfl)

theorem Outside.headroom_eq {s t : State} (h : Outside.headroom t = Outside.headroom s) :
    t = { s with
      headroom := t.headroom } := by
  cases s
  cases t
  simp only [Outside.headroom, State.mk.injEq] at h
  simp only [h]

/-- The state outside hk. -/
def Outside.hk (s : State) : State :=
  { s with
    hk := blank.hk }

@[simp] theorem Outside.hk_update (s : State) x0 :
    Outside.hk { s with
      hk := x0 } = Outside.hk s := (rfl)

theorem Outside.hk_eq {s t : State} (h : Outside.hk t = Outside.hk s) :
    t = { s with
      hk := t.hk } := by
  cases s
  cases t
  simp only [Outside.hk, State.mk.injEq] at h
  simp only [h]

/-- The state outside host. -/
def Outside.host (s : State) : State :=
  { s with
    host := blank.host }

@[simp] theorem Outside.host_update (s : State) x0 :
    Outside.host { s with
      host := x0 } = Outside.host s := (rfl)

theorem Outside.host_eq {s t : State} (h : Outside.host t = Outside.host s) :
    t = { s with
      host := t.host } := by
  cases s
  cases t
  simp only [Outside.host, State.mk.injEq] at h
  simp only [h]

/-- The state outside journal. -/
def Outside.journal (s : State) : State :=
  { s with
    journal := blank.journal }

@[simp] theorem Outside.journal_update (s : State) x0 :
    Outside.journal { s with
      journal := x0 } = Outside.journal s := (rfl)

theorem Outside.journal_eq {s t : State} (h : Outside.journal t = Outside.journal s) :
    t = { s with
      journal := t.journal } := by
  cases s
  cases t
  simp only [Outside.journal, State.mk.injEq] at h
  simp only [h]

/-- The state outside leap. -/
def Outside.leap (s : State) : State :=
  { s with
    leap := blank.leap }

@[simp] theorem Outside.leap_update (s : State) x0 :
    Outside.leap { s with
      leap := x0 } = Outside.leap s := (rfl)

theorem Outside.leap_eq {s t : State} (h : Outside.leap t = Outside.leap s) :
    t = { s with
      leap := t.leap } := by
  cases s
  cases t
  simp only [Outside.leap, State.mk.injEq] at h
  simp only [h]

/-- The state outside link. -/
def Outside.link (s : State) : State :=
  { s with
    link := blank.link }

@[simp] theorem Outside.link_update (s : State) x0 :
    Outside.link { s with
      link := x0 } = Outside.link s := (rfl)

theorem Outside.link_eq {s t : State} (h : Outside.link t = Outside.link s) :
    t = { s with
      link := t.link } := by
  cases s
  cases t
  simp only [Outside.link, State.mk.injEq] at h
  simp only [h]

/-- The state outside manifest. -/
def Outside.manifest (s : State) : State :=
  { s with
    manifest := blank.manifest }

@[simp] theorem Outside.manifest_update (s : State) x0 :
    Outside.manifest { s with
      manifest := x0 } = Outside.manifest s := (rfl)

theorem Outside.manifest_eq {s t : State} (h : Outside.manifest t = Outside.manifest s) :
    t = { s with
      manifest := t.manifest } := by
  cases s
  cases t
  simp only [Outside.manifest, State.mk.injEq] at h
  simp only [h]

/-- The state outside nvm. -/
def Outside.nvm (s : State) : State :=
  { s with
    nvm := blank.nvm }

@[simp] theorem Outside.nvm_update (s : State) x0 :
    Outside.nvm { s with
      nvm := x0 } = Outside.nvm s := (rfl)

theorem Outside.nvm_eq {s t : State} (h : Outside.nvm t = Outside.nvm s) :
    t = { s with
      nvm := t.nvm } := by
  cases s
  cases t
  simp only [Outside.nvm, State.mk.injEq] at h
  simp only [h]

/-- The state outside pixels. -/
def Outside.pixels (s : State) : State :=
  { s with
    pixels := blank.pixels }

@[simp] theorem Outside.pixels_update (s : State) x0 :
    Outside.pixels { s with
      pixels := x0 } = Outside.pixels s := (rfl)

theorem Outside.pixels_eq {s t : State} (h : Outside.pixels t = Outside.pixels s) :
    t = { s with
      pixels := t.pixels } := by
  cases s
  cases t
  simp only [Outside.pixels, State.mk.injEq] at h
  simp only [h]

/-- The state outside power. -/
def Outside.power (s : State) : State :=
  { s with
    power := blank.power }

@[simp] theorem Outside.power_update (s : State) x0 :
    Outside.power { s with
      power := x0 } = Outside.power s := (rfl)

theorem Outside.power_eq {s t : State} (h : Outside.power t = Outside.power s) :
    t = { s with
      power := t.power } := by
  cases s
  cases t
  simp only [Outside.power, State.mk.injEq] at h
  simp only [h]

/-- The state outside safeBeam. -/
def Outside.safeBeam (s : State) : State :=
  { s with
    safeBeam := blank.safeBeam }

@[simp] theorem Outside.safeBeam_update (s : State) x0 :
    Outside.safeBeam { s with
      safeBeam := x0 } = Outside.safeBeam s := (rfl)

theorem Outside.safeBeam_eq {s t : State} (h : Outside.safeBeam t = Outside.safeBeam s) :
    t = { s with
      safeBeam := t.safeBeam } := by
  cases s
  cases t
  simp only [Outside.safeBeam, State.mk.injEq] at h
  simp only [h]

/-- The state outside safety. -/
def Outside.safety (s : State) : State :=
  { s with
    safety := blank.safety }

@[simp] theorem Outside.safety_update (s : State) x0 :
    Outside.safety { s with
      safety := x0 } = Outside.safety s := (rfl)

theorem Outside.safety_eq {s t : State} (h : Outside.safety t = Outside.safety s) :
    t = { s with
      safety := t.safety } := by
  cases s
  cases t
  simp only [Outside.safety, State.mk.injEq] at h
  simp only [h]

/-- The state outside scan. -/
def Outside.scan (s : State) : State :=
  { s with
    scan := blank.scan }

@[simp] theorem Outside.scan_update (s : State) x0 :
    Outside.scan { s with
      scan := x0 } = Outside.scan s := (rfl)

theorem Outside.scan_eq {s t : State} (h : Outside.scan t = Outside.scan s) :
    t = { s with
      scan := t.scan } := by
  cases s
  cases t
  simp only [Outside.scan, State.mk.injEq] at h
  simp only [h]

/-- The state outside shade. -/
def Outside.shade (s : State) : State :=
  { s with
    shade := blank.shade }

@[simp] theorem Outside.shade_update (s : State) x0 :
    Outside.shade { s with
      shade := x0 } = Outside.shade s := (rfl)

theorem Outside.shade_eq {s t : State} (h : Outside.shade t = Outside.shade s) :
    t = { s with
      shade := t.shade } := by
  cases s
  cases t
  simp only [Outside.shade, State.mk.injEq] at h
  simp only [h]

/-- The state outside sinks. -/
def Outside.sinks (s : State) : State :=
  { s with
    sinks := blank.sinks }

@[simp] theorem Outside.sinks_update (s : State) x0 :
    Outside.sinks { s with
      sinks := x0 } = Outside.sinks s := (rfl)

theorem Outside.sinks_eq {s t : State} (h : Outside.sinks t = Outside.sinks s) :
    t = { s with
      sinks := t.sinks } := by
  cases s
  cases t
  simp only [Outside.sinks, State.mk.injEq] at h
  simp only [h]

/-- The state outside sramCorrected. -/
def Outside.sramCorrected (s : State) : State :=
  { s with
    sramCorrected := blank.sramCorrected }

@[simp] theorem Outside.sramCorrected_update (s : State) x0 :
    Outside.sramCorrected { s with
      sramCorrected := x0 } = Outside.sramCorrected s := (rfl)

theorem Outside.sramCorrected_eq {s t : State} (h : Outside.sramCorrected t = Outside.sramCorrected s) :
    t = { s with
      sramCorrected := t.sramCorrected } := by
  cases s
  cases t
  simp only [Outside.sramCorrected, State.mk.injEq] at h
  simp only [h]

/-- The state outside toll. -/
def Outside.toll (s : State) : State :=
  { s with
    toll := blank.toll }

@[simp] theorem Outside.toll_update (s : State) x0 :
    Outside.toll { s with
      toll := x0 } = Outside.toll s := (rfl)

theorem Outside.toll_eq {s t : State} (h : Outside.toll t = Outside.toll s) :
    t = { s with
      toll := t.toll } := by
  cases s
  cases t
  simp only [Outside.toll, State.mk.injEq] at h
  simp only [h]

/-- The state outside units. -/
def Outside.units (s : State) : State :=
  { s with
    units := blank.units }

@[simp] theorem Outside.units_update (s : State) x0 :
    Outside.units { s with
      units := x0 } = Outside.units s := (rfl)

theorem Outside.units_eq {s t : State} (h : Outside.units t = Outside.units s) :
    t = { s with
      units := t.units } := by
  cases s
  cases t
  simp only [Outside.units, State.mk.injEq] at h
  simp only [h]

/-- The state outside update. -/
def Outside.update (s : State) : State :=
  { s with
    update := blank.update }

@[simp] theorem Outside.update_update (s : State) x0 :
    Outside.update { s with
      update := x0 } = Outside.update s := (rfl)

theorem Outside.update_eq {s t : State} (h : Outside.update t = Outside.update s) :
    t = { s with
      update := t.update } := by
  cases s
  cases t
  simp only [Outside.update, State.mk.injEq] at h
  simp only [h]

/-- The state outside warp. -/
def Outside.warp (s : State) : State :=
  { s with
    warp := blank.warp }

@[simp] theorem Outside.warp_update (s : State) x0 :
    Outside.warp { s with
      warp := x0 } = Outside.warp s := (rfl)

theorem Outside.warp_eq {s t : State} (h : Outside.warp t = Outside.warp s) :
    t = { s with
      warp := t.warp } := by
  cases s
  cases t
  simp only [Outside.warp, State.mk.injEq] at h
  simp only [h]

/-- The state outside host, access. -/
def Outside.accessHost (s : State) : State :=
  { s with
    host := blank.host, access := blank.access }

@[simp] theorem Outside.accessHost_update (s : State) x0 x1 :
    Outside.accessHost { s with
      host := x0, access := x1 } = Outside.accessHost s := (rfl)

/-- The state outside aon, free. -/
def Outside.aonFree (s : State) : State :=
  { s with
    aon := blank.aon, free := blank.free }

@[simp] theorem Outside.aonFree_update (s : State) x0 x1 :
    Outside.aonFree { s with
      aon := x0, free := x1 } = Outside.aonFree s := (rfl)

theorem Outside.aonFree_eq {s t : State} (h : Outside.aonFree t = Outside.aonFree s) :
    t = { s with
      aon := t.aon, free := t.free } := by
  cases s
  cases t
  simp only [Outside.aonFree, State.mk.injEq] at h
  simp only [h]

/-- The state outside faults, caravan. -/
def Outside.caravanFaults (s : State) : State :=
  { s with
    faults := blank.faults, caravan := blank.caravan }

@[simp] theorem Outside.caravanFaults_update (s : State) x0 x1 :
    Outside.caravanFaults { s with
      faults := x0, caravan := x1 } = Outside.caravanFaults s := (rfl)

theorem Outside.caravanFaults_eq {s t : State} (h : Outside.caravanFaults t = Outside.caravanFaults s) :
    t = { s with
      faults := t.faults, caravan := t.caravan } := by
  cases s
  cases t
  simp only [Outside.caravanFaults, State.mk.injEq] at h
  simp only [h]

/-- The state outside update, caravan. -/
def Outside.caravanUpdate (s : State) : State :=
  { s with
    update := blank.update, caravan := blank.caravan }

@[simp] theorem Outside.caravanUpdate_update (s : State) x0 x1 :
    Outside.caravanUpdate { s with
      update := x0, caravan := x1 } = Outside.caravanUpdate s := (rfl)

theorem Outside.caravanUpdate_eq {s t : State} (h : Outside.caravanUpdate t = Outside.caravanUpdate s) :
    t = { s with
      update := t.update, caravan := t.caravan } := by
  cases s
  cases t
  simp only [Outside.caravanUpdate, State.mk.injEq] at h
  simp only [h]

/-- The state outside safeBeam, ceiling. -/
def Outside.ceilingSafeBeam (s : State) : State :=
  { s with
    safeBeam := blank.safeBeam, ceiling := blank.ceiling }

@[simp] theorem Outside.ceilingSafeBeam_update (s : State) x0 x1 :
    Outside.ceilingSafeBeam { s with
      safeBeam := x0, ceiling := x1 } = Outside.ceilingSafeBeam s := (rfl)

/-- The state outside safety, ceiling. -/
def Outside.ceilingSafety (s : State) : State :=
  { s with
    safety := blank.safety, ceiling := blank.ceiling }

@[simp] theorem Outside.ceilingSafety_update (s : State) x0 x1 :
    Outside.ceilingSafety { s with
      safety := x0, ceiling := x1 } = Outside.ceilingSafety s := (rfl)

theorem Outside.ceilingSafety_eq {s t : State} (h : Outside.ceilingSafety t = Outside.ceilingSafety s) :
    t = { s with
      safety := t.safety, ceiling := t.ceiling } := by
  cases s
  cases t
  simp only [Outside.ceilingSafety, State.mk.injEq] at h
  simp only [h]

/-- The state outside compose, fetch. -/
def Outside.composeFetch (s : State) : State :=
  { s with
    compose := blank.compose, fetch := blank.fetch }

@[simp] theorem Outside.composeFetch_update (s : State) x0 x1 :
    Outside.composeFetch { s with
      compose := x0, fetch := x1 } = Outside.composeFetch s := (rfl)

theorem Outside.composeFetch_eq {s t : State} (h : Outside.composeFetch t = Outside.composeFetch s) :
    t = { s with
      compose := t.compose, fetch := t.fetch } := by
  cases s
  cases t
  simp only [Outside.composeFetch, State.mk.injEq] at h
  simp only [h]

/-- The state outside compose, headroom. -/
def Outside.composeHeadroom (s : State) : State :=
  { s with
    compose := blank.compose, headroom := blank.headroom }

@[simp] theorem Outside.composeHeadroom_update (s : State) x0 x1 :
    Outside.composeHeadroom { s with
      compose := x0, headroom := x1 } = Outside.composeHeadroom s := (rfl)

theorem Outside.composeHeadroom_eq {s t : State} (h : Outside.composeHeadroom t = Outside.composeHeadroom s) :
    t = { s with
      compose := t.compose, headroom := t.headroom } := by
  cases s
  cases t
  simp only [Outside.composeHeadroom, State.mk.injEq] at h
  simp only [h]

/-- The state outside host, dict. -/
def Outside.dictHost (s : State) : State :=
  { s with
    host := blank.host, dict := blank.dict }

@[simp] theorem Outside.dictHost_update (s : State) x0 x1 :
    Outside.dictHost { s with
      host := x0, dict := x1 } = Outside.dictHost s := (rfl)

theorem Outside.dictHost_eq {s t : State} (h : Outside.dictHost t = Outside.dictHost s) :
    t = { s with
      host := t.host, dict := t.dict } := by
  cases s
  cases t
  simp only [Outside.dictHost, State.mk.injEq] at h
  simp only [h]

/-- The state outside sinks, dict. -/
def Outside.dictSinks (s : State) : State :=
  { s with
    sinks := blank.sinks, dict := blank.dict }

@[simp] theorem Outside.dictSinks_update (s : State) x0 x1 :
    Outside.dictSinks { s with
      sinks := x0, dict := x1 } = Outside.dictSinks s := (rfl)

theorem Outside.dictSinks_eq {s t : State} (h : Outside.dictSinks t = Outside.dictSinks s) :
    t = { s with
      sinks := t.sinks, dict := t.dict } := by
  cases s
  cases t
  simp only [Outside.dictSinks, State.mk.injEq] at h
  simp only [h]

/-- The state outside dict, units. -/
def Outside.dictUnits (s : State) : State :=
  { s with
    dict := blank.dict, units := blank.units }

@[simp] theorem Outside.dictUnits_update (s : State) x0 x1 :
    Outside.dictUnits { s with
      dict := x0, units := x1 } = Outside.dictUnits s := (rfl)

theorem Outside.dictUnits_eq {s t : State} (h : Outside.dictUnits t = Outside.dictUnits s) :
    t = { s with
      dict := t.dict, units := t.units } := by
  cases s
  cases t
  simp only [Outside.dictUnits, State.mk.injEq] at h
  simp only [h]

/-- The state outside drive, pixels. -/
def Outside.drivePixels (s : State) : State :=
  { s with
    drive := blank.drive, pixels := blank.pixels }

@[simp] theorem Outside.drivePixels_update (s : State) x0 x1 :
    Outside.drivePixels { s with
      drive := x0, pixels := x1 } = Outside.drivePixels s := (rfl)

theorem Outside.drivePixels_eq {s t : State} (h : Outside.drivePixels t = Outside.drivePixels s) :
    t = { s with
      drive := t.drive, pixels := t.pixels } := by
  cases s
  cases t
  simp only [Outside.drivePixels, State.mk.injEq] at h
  simp only [h]

/-- The state outside faults, fetch. -/
def Outside.faultsFetch (s : State) : State :=
  { s with
    faults := blank.faults, fetch := blank.fetch }

@[simp] theorem Outside.faultsFetch_update (s : State) x0 x1 :
    Outside.faultsFetch { s with
      faults := x0, fetch := x1 } = Outside.faultsFetch s := (rfl)

/-- The state outside host, faults. -/
def Outside.faultsHost (s : State) : State :=
  { s with
    host := blank.host, faults := blank.faults }

@[simp] theorem Outside.faultsHost_update (s : State) x0 x1 :
    Outside.faultsHost { s with
      host := x0, faults := x1 } = Outside.faultsHost s := (rfl)

theorem Outside.faultsHost_eq {s t : State} (h : Outside.faultsHost t = Outside.faultsHost s) :
    t = { s with
      host := t.host, faults := t.faults } := by
  cases s
  cases t
  simp only [Outside.faultsHost, State.mk.injEq] at h
  simp only [h]

/-- The state outside faults, link. -/
def Outside.faultsLink (s : State) : State :=
  { s with
    faults := blank.faults, link := blank.link }

@[simp] theorem Outside.faultsLink_update (s : State) x0 x1 :
    Outside.faultsLink { s with
      faults := x0, link := x1 } = Outside.faultsLink s := (rfl)

theorem Outside.faultsLink_eq {s t : State} (h : Outside.faultsLink t = Outside.faultsLink s) :
    t = { s with
      faults := t.faults, link := t.link } := by
  cases s
  cases t
  simp only [Outside.faultsLink, State.mk.injEq] at h
  simp only [h]

/-- The state outside host, free. -/
def Outside.freeHost (s : State) : State :=
  { s with
    host := blank.host, free := blank.free }

@[simp] theorem Outside.freeHost_update (s : State) x0 x1 :
    Outside.freeHost { s with
      host := x0, free := x1 } = Outside.freeHost s := (rfl)

/-- The state outside sinks, free. -/
def Outside.freeSinks (s : State) : State :=
  { s with
    sinks := blank.sinks, free := blank.free }

@[simp] theorem Outside.freeSinks_update (s : State) x0 x1 :
    Outside.freeSinks { s with
      sinks := x0, free := x1 } = Outside.freeSinks s := (rfl)

theorem Outside.freeSinks_eq {s t : State} (h : Outside.freeSinks t = Outside.freeSinks s) :
    t = { s with
      sinks := t.sinks, free := t.free } := by
  cases s
  cases t
  simp only [Outside.freeSinks, State.mk.injEq] at h
  simp only [h]

/-- The state outside headroom, link. -/
def Outside.headroomLink (s : State) : State :=
  { s with
    headroom := blank.headroom, link := blank.link }

@[simp] theorem Outside.headroomLink_update (s : State) x0 x1 :
    Outside.headroomLink { s with
      headroom := x0, link := x1 } = Outside.headroomLink s := (rfl)

theorem Outside.headroomLink_eq {s t : State} (h : Outside.headroomLink t = Outside.headroomLink s) :
    t = { s with
      headroom := t.headroom, link := t.link } := by
  cases s
  cases t
  simp only [Outside.headroomLink, State.mk.injEq] at h
  simp only [h]

/-- The state outside journal, host. -/
def Outside.hostJournal (s : State) : State :=
  { s with
    journal := blank.journal, host := blank.host }

@[simp] theorem Outside.hostJournal_update (s : State) x0 x1 :
    Outside.hostJournal { s with
      journal := x0, host := x1 } = Outside.hostJournal s := (rfl)

theorem Outside.hostJournal_eq {s t : State} (h : Outside.hostJournal t = Outside.hostJournal s) :
    t = { s with
      journal := t.journal, host := t.host } := by
  cases s
  cases t
  simp only [Outside.hostJournal, State.mk.injEq] at h
  simp only [h]

/-- The state outside journal, nvm. -/
def Outside.journalNvm (s : State) : State :=
  { s with
    journal := blank.journal, nvm := blank.nvm }

@[simp] theorem Outside.journalNvm_update (s : State) x0 x1 :
    Outside.journalNvm { s with
      journal := x0, nvm := x1 } = Outside.journalNvm s := (rfl)

theorem Outside.journalNvm_eq {s t : State} (h : Outside.journalNvm t = Outside.journalNvm s) :
    t = { s with
      journal := t.journal, nvm := t.nvm } := by
  cases s
  cases t
  simp only [Outside.journalNvm, State.mk.injEq] at h
  simp only [h]

/-- The state outside pixels, link. -/
def Outside.linkPixels (s : State) : State :=
  { s with
    pixels := blank.pixels, link := blank.link }

@[simp] theorem Outside.linkPixels_update (s : State) x0 x1 :
    Outside.linkPixels { s with
      pixels := x0, link := x1 } = Outside.linkPixels s := (rfl)

theorem Outside.linkPixels_eq {s t : State} (h : Outside.linkPixels t = Outside.linkPixels s) :
    t = { s with
      pixels := t.pixels, link := t.link } := by
  cases s
  cases t
  simp only [Outside.linkPixels, State.mk.injEq] at h
  simp only [h]

/-- The state outside manifest, units. -/
def Outside.manifestUnits (s : State) : State :=
  { s with
    manifest := blank.manifest, units := blank.units }

@[simp] theorem Outside.manifestUnits_update (s : State) x0 x1 :
    Outside.manifestUnits { s with
      manifest := x0, units := x1 } = Outside.manifestUnits s := (rfl)

/-- The state outside nvm, update. -/
def Outside.nvmUpdate (s : State) : State :=
  { s with
    nvm := blank.nvm, update := blank.update }

@[simp] theorem Outside.nvmUpdate_update (s : State) x0 x1 :
    Outside.nvmUpdate { s with
      nvm := x0, update := x1 } = Outside.nvmUpdate s := (rfl)

theorem Outside.nvmUpdate_eq {s t : State} (h : Outside.nvmUpdate t = Outside.nvmUpdate s) :
    t = { s with
      nvm := t.nvm, update := t.update } := by
  cases s
  cases t
  simp only [Outside.nvmUpdate, State.mk.injEq] at h
  simp only [h]

/-- The state outside power, units. -/
def Outside.powerUnits (s : State) : State :=
  { s with
    power := blank.power, units := blank.units }

@[simp] theorem Outside.powerUnits_update (s : State) x0 x1 :
    Outside.powerUnits { s with
      power := x0, units := x1 } = Outside.powerUnits s := (rfl)

theorem Outside.powerUnits_eq {s t : State} (h : Outside.powerUnits t = Outside.powerUnits s) :
    t = { s with
      power := t.power, units := t.units } := by
  cases s
  cases t
  simp only [Outside.powerUnits, State.mk.injEq] at h
  simp only [h]

/-- The state outside faults, aon, free. -/
def Outside.aonFaultsFree (s : State) : State :=
  { s with
    faults := blank.faults, aon := blank.aon, free := blank.free }

@[simp] theorem Outside.aonFaultsFree_update (s : State) x0 x1 x2 :
    Outside.aonFaultsFree { s with
      faults := x0, aon := x1, free := x2 } = Outside.aonFaultsFree s := (rfl)

theorem Outside.aonFaultsFree_eq {s t : State} (h : Outside.aonFaultsFree t = Outside.aonFaultsFree s) :
    t = { s with
      faults := t.faults, aon := t.aon, free := t.free } := by
  cases s
  cases t
  simp only [Outside.aonFaultsFree, State.mk.injEq] at h
  simp only [h]

/-- The state outside aon, free, scan. -/
def Outside.aonFreeScan (s : State) : State :=
  { s with
    aon := blank.aon, free := blank.free, scan := blank.scan }

@[simp] theorem Outside.aonFreeScan_update (s : State) x0 x1 x2 :
    Outside.aonFreeScan { s with
      aon := x0, free := x1, scan := x2 } = Outside.aonFreeScan s := (rfl)

theorem Outside.aonFreeScan_eq {s t : State} (h : Outside.aonFreeScan t = Outside.aonFreeScan s) :
    t = { s with
      aon := t.aon, free := t.free, scan := t.scan } := by
  cases s
  cases t
  simp only [Outside.aonFreeScan, State.mk.injEq] at h
  simp only [h]

/-- The state outside journal, nvm, aon. -/
def Outside.aonJournalNvm (s : State) : State :=
  { s with
    journal := blank.journal, nvm := blank.nvm, aon := blank.aon }

@[simp] theorem Outside.aonJournalNvm_update (s : State) x0 x1 x2 :
    Outside.aonJournalNvm { s with
      journal := x0, nvm := x1, aon := x2 } = Outside.aonJournalNvm s := (rfl)

theorem Outside.aonJournalNvm_eq {s t : State} (h : Outside.aonJournalNvm t = Outside.aonJournalNvm s) :
    t = { s with
      journal := t.journal, nvm := t.nvm, aon := t.aon } := by
  cases s
  cases t
  simp only [Outside.aonJournalNvm, State.mk.injEq] at h
  simp only [h]

/-- The state outside journal, host, caravan. -/
def Outside.caravanHostJournal (s : State) : State :=
  { s with
    journal := blank.journal, host := blank.host, caravan := blank.caravan }

@[simp] theorem Outside.caravanHostJournal_update (s : State) x0 x1 x2 :
    Outside.caravanHostJournal { s with
      journal := x0, host := x1, caravan := x2 } = Outside.caravanHostJournal s := (rfl)

theorem Outside.caravanHostJournal_eq {s t : State} (h : Outside.caravanHostJournal t = Outside.caravanHostJournal
    s) :
    t = { s with
      journal := t.journal, host := t.host, caravan := t.caravan } := by
  cases s
  cases t
  simp only [Outside.caravanHostJournal, State.mk.injEq] at h
  simp only [h]

/-- The state outside nvm, update, caravan. -/
def Outside.caravanNvmUpdate (s : State) : State :=
  { s with
    nvm := blank.nvm, update := blank.update, caravan := blank.caravan }

@[simp] theorem Outside.caravanNvmUpdate_update (s : State) x0 x1 x2 :
    Outside.caravanNvmUpdate { s with
      nvm := x0, update := x1, caravan := x2 } = Outside.caravanNvmUpdate s := (rfl)

theorem Outside.caravanNvmUpdate_eq {s t : State} (h : Outside.caravanNvmUpdate t = Outside.caravanNvmUpdate s) :
    t = { s with
      nvm := t.nvm, update := t.update, caravan := t.caravan } := by
  cases s
  cases t
  simp only [Outside.caravanNvmUpdate, State.mk.injEq] at h
  simp only [h]

/-- The state outside compose, drive, fetch. -/
def Outside.composeDriveFetch (s : State) : State :=
  { s with
    compose := blank.compose, drive := blank.drive, fetch := blank.fetch }

@[simp] theorem Outside.composeDriveFetch_update (s : State) x0 x1 x2 :
    Outside.composeDriveFetch { s with
      compose := x0, drive := x1, fetch := x2 } = Outside.composeDriveFetch s := (rfl)

theorem Outside.composeDriveFetch_eq {s t : State} (h : Outside.composeDriveFetch t = Outside.composeDriveFetch s) :
    t = { s with
      compose := t.compose, drive := t.drive, fetch := t.fetch } := by
  cases s
  cases t
  simp only [Outside.composeDriveFetch, State.mk.injEq] at h
  simp only [h]

/-- The state outside dram, host, free. -/
def Outside.dramFreeHost (s : State) : State :=
  { s with
    dram := blank.dram, host := blank.host, free := blank.free }

@[simp] theorem Outside.dramFreeHost_update (s : State) x0 x1 x2 :
    Outside.dramFreeHost { s with
      dram := x0, host := x1, free := x2 } = Outside.dramFreeHost s := (rfl)

theorem Outside.dramFreeHost_eq {s t : State} (h : Outside.dramFreeHost t = Outside.dramFreeHost s) :
    t = { s with
      dram := t.dram, host := t.host, free := t.free } := by
  cases s
  cases t
  simp only [Outside.dramFreeHost, State.mk.injEq] at h
  simp only [h]

/-- The state outside host, faults, free. -/
def Outside.faultsFreeHost (s : State) : State :=
  { s with
    host := blank.host, faults := blank.faults, free := blank.free }

@[simp] theorem Outside.faultsFreeHost_update (s : State) x0 x1 x2 :
    Outside.faultsFreeHost { s with
      host := x0, faults := x1, free := x2 } = Outside.faultsFreeHost s := (rfl)

/-- The state outside pixels, toll, link. -/
def Outside.linkPixelsToll (s : State) : State :=
  { s with
    pixels := blank.pixels, toll := blank.toll, link := blank.link }

@[simp] theorem Outside.linkPixelsToll_update (s : State) x0 x1 x2 :
    Outside.linkPixelsToll { s with
      pixels := x0, toll := x1, link := x2 } = Outside.linkPixelsToll s := (rfl)

theorem Outside.linkPixelsToll_eq {s t : State} (h : Outside.linkPixelsToll t = Outside.linkPixelsToll s) :
    t = { s with
      pixels := t.pixels, toll := t.toll, link := t.link } := by
  cases s
  cases t
  simp only [Outside.linkPixelsToll, State.mk.injEq] at h
  simp only [h]

/-- The state outside journal, host, nvm, caravan. -/
def Outside.caravanHostJournalNvm (s : State) : State :=
  { s with
    journal := blank.journal, host := blank.host, nvm := blank.nvm, caravan := blank.caravan }

@[simp] theorem Outside.caravanHostJournalNvm_update (s : State) x0 x1 x2 x3 :
    Outside.caravanHostJournalNvm { s with
      journal := x0, host := x1, nvm := x2, caravan := x3 } = Outside.caravanHostJournalNvm s := (rfl)

theorem Outside.caravanHostJournalNvm_eq {s t : State} (h : Outside.caravanHostJournalNvm t =
    Outside.caravanHostJournalNvm s) :
    t = { s with
      journal := t.journal, host := t.host, nvm := t.nvm, caravan := t.caravan } := by
  cases s
  cases t
  simp only [Outside.caravanHostJournalNvm, State.mk.injEq] at h
  simp only [h]

/-- The state outside journal, host, sinks, caravan. -/
def Outside.caravanHostJournalSinks (s : State) : State :=
  { s with
    journal := blank.journal, host := blank.host, sinks := blank.sinks, caravan := blank.caravan }

@[simp] theorem Outside.caravanHostJournalSinks_update (s : State) x0 x1 x2 x3 :
    Outside.caravanHostJournalSinks { s with
      journal := x0, host := x1, sinks := x2, caravan := x3 } = Outside.caravanHostJournalSinks s := (rfl)

/-- The state outside compose, drive, toll, fetch. -/
def Outside.composeDriveFetchToll (s : State) : State :=
  { s with
    compose := blank.compose, drive := blank.drive, toll := blank.toll, fetch := blank.fetch }

@[simp] theorem Outside.composeDriveFetchToll_update (s : State) x0 x1 x2 x3 :
    Outside.composeDriveFetchToll { s with
      compose := x0, drive := x1, toll := x2, fetch := x3 } = Outside.composeDriveFetchToll s := (rfl)

/-- The state outside faults, aon, free, link. -/
def Outside.records (s : State) : State :=
  { s with
    faults := blank.faults, aon := blank.aon, free := blank.free, link := blank.link }

@[simp] theorem Outside.records_update (s : State) x0 x1 x2 x3 :
    Outside.records { s with
      faults := x0, aon := x1, free := x2, link := x3 } = Outside.records s := (rfl)

theorem Outside.records_eq {s t : State} (h : Outside.records t = Outside.records s) :
    t = { s with
      faults := t.faults, aon := t.aon, free := t.free, link := t.link } := by
  cases s
  cases t
  simp only [Outside.records, State.mk.injEq] at h
  simp only [h]

/-- The state outside journal, host, free, caravan, access. -/
def Outside.accessCaravanFreeHostJournal (s : State) : State :=
  { s with
    journal := blank.journal, host := blank.host, free := blank.free, caravan := blank.caravan
    access := blank.access }

@[simp] theorem Outside.accessCaravanFreeHostJournal_update (s : State) x0 x1 x2 x3 x4 :
    Outside.accessCaravanFreeHostJournal { s with
      journal := x0, host := x1, free := x2, caravan := x3, access := x4 } = Outside.accessCaravanFreeHostJournal s := (rfl)

theorem Outside.accessCaravanFreeHostJournal_eq {s t : State} (h : Outside.accessCaravanFreeHostJournal t =
    Outside.accessCaravanFreeHostJournal s) :
    t = { s with
      journal := t.journal, host := t.host, free := t.free, caravan := t.caravan, access := t.access } := by
  cases s
  cases t
  simp only [Outside.accessCaravanFreeHostJournal, State.mk.injEq] at h
  simp only [h]

/-- The state outside host, faults, aon, free, caravan. -/
def Outside.aonCaravanFaultsFreeHost (s : State) : State :=
  { s with
    host := blank.host, faults := blank.faults, aon := blank.aon, free := blank.free, caravan := blank.caravan }

@[simp] theorem Outside.aonCaravanFaultsFreeHost_update (s : State) x0 x1 x2 x3 x4 :
    Outside.aonCaravanFaultsFreeHost { s with
      host := x0, faults := x1, aon := x2, free := x3, caravan := x4 } = Outside.aonCaravanFaultsFreeHost s := (rfl)

theorem Outside.aonCaravanFaultsFreeHost_eq {s t : State} (h : Outside.aonCaravanFaultsFreeHost t =
    Outside.aonCaravanFaultsFreeHost s) :
    t = { s with
      host := t.host, faults := t.faults, aon := t.aon, free := t.free, caravan := t.caravan } := by
  cases s
  cases t
  simp only [Outside.aonCaravanFaultsFreeHost, State.mk.injEq] at h
  simp only [h]

/-- The state outside sinks, power, aon, hk, units. -/
def Outside.aonHkPowerSinksUnits (s : State) : State :=
  { s with
    sinks := blank.sinks, power := blank.power, aon := blank.aon, hk := blank.hk, units := blank.units }

@[simp] theorem Outside.aonHkPowerSinksUnits_update (s : State) x0 x1 x2 x3 x4 :
    Outside.aonHkPowerSinksUnits { s with
      sinks := x0, power := x1, aon := x2, hk := x3, units := x4 } = Outside.aonHkPowerSinksUnits s := (rfl)

theorem Outside.aonHkPowerSinksUnits_eq {s t : State} (h : Outside.aonHkPowerSinksUnits t =
    Outside.aonHkPowerSinksUnits s) :
    t = { s with
      sinks := t.sinks, power := t.power, aon := t.aon, hk := t.hk, units := t.units } := by
  cases s
  cases t
  simp only [Outside.aonHkPowerSinksUnits, State.mk.injEq] at h
  simp only [h]

/-- The state outside journal, host, nvm, dict, caravan. -/
def Outside.caravanDictHostJournalNvm (s : State) : State :=
  { s with
    journal := blank.journal, host := blank.host, nvm := blank.nvm, dict := blank.dict, caravan := blank.caravan }

@[simp] theorem Outside.caravanDictHostJournalNvm_update (s : State) x0 x1 x2 x3 x4 :
    Outside.caravanDictHostJournalNvm { s with
      journal := x0, host := x1, nvm := x2, dict := x3, caravan := x4 } = Outside.caravanDictHostJournalNvm s := (rfl)

/-- The state outside compose, shade, drive, toll, fetch. -/
def Outside.composeDriveFetchShadeToll (s : State) : State :=
  { s with
    compose := blank.compose, shade := blank.shade, drive := blank.drive, toll := blank.toll, fetch := blank.fetch }

@[simp] theorem Outside.composeDriveFetchShadeToll_update (s : State) x0 x1 x2 x3 x4 :
    Outside.composeDriveFetchShadeToll { s with
      compose := x0, shade := x1, drive := x2, toll := x3, fetch := x4 } = Outside.composeDriveFetchShadeToll s := (rfl)

theorem Outside.composeDriveFetchShadeToll_eq {s t : State} (h : Outside.composeDriveFetchShadeToll t =
    Outside.composeDriveFetchShadeToll s) :
    t = { s with
      compose := t.compose, shade := t.shade, drive := t.drive, toll := t.toll, fetch := t.fetch } := by
  cases s
  cases t
  simp only [Outside.composeDriveFetchShadeToll, State.mk.injEq] at h
  simp only [h]

/-- The state outside faults, aon, free, link, ceiling. -/
def Outside.recordsCeiling (s : State) : State :=
  { s with
    faults := blank.faults, aon := blank.aon, free := blank.free, link := blank.link, ceiling := blank.ceiling }

@[simp] theorem Outside.recordsCeiling_update (s : State) x0 x1 x2 x3 x4 :
    Outside.recordsCeiling { s with
      faults := x0, aon := x1, free := x2, link := x3, ceiling := x4 } = Outside.recordsCeiling s := (rfl)

/-- The state outside host, faults, aon, free, link. -/
def Outside.recordsHost (s : State) : State :=
  { s with
    host := blank.host, faults := blank.faults, aon := blank.aon, free := blank.free, link := blank.link }

@[simp] theorem Outside.recordsHost_update (s : State) x0 x1 x2 x3 x4 :
    Outside.recordsHost { s with
      host := x0, faults := x1, aon := x2, free := x3, link := x4 } = Outside.recordsHost s := (rfl)

theorem Outside.recordsHost_eq {s t : State} (h : Outside.recordsHost t = Outside.recordsHost s) :
    t = { s with
      host := t.host, faults := t.faults, aon := t.aon, free := t.free, link := t.link } := by
  cases s
  cases t
  simp only [Outside.recordsHost, State.mk.injEq] at h
  simp only [h]

/-- The state outside shade, faults, aon, free, link. -/
def Outside.recordsShade (s : State) : State :=
  { s with
    shade := blank.shade, faults := blank.faults, aon := blank.aon, free := blank.free, link := blank.link }

@[simp] theorem Outside.recordsShade_update (s : State) x0 x1 x2 x3 x4 :
    Outside.recordsShade { s with
      shade := x0, faults := x1, aon := x2, free := x3, link := x4 } = Outside.recordsShade s := (rfl)

theorem Outside.recordsShade_eq {s t : State} (h : Outside.recordsShade t = Outside.recordsShade s) :
    t = { s with
      shade := t.shade, faults := t.faults, aon := t.aon, free := t.free, link := t.link } := by
  cases s
  cases t
  simp only [Outside.recordsShade, State.mk.injEq] at h
  simp only [h]

/-- The state outside sinks, faults, aon, free, link. -/
def Outside.recordsSinks (s : State) : State :=
  { s with
    sinks := blank.sinks, faults := blank.faults, aon := blank.aon, free := blank.free, link := blank.link }

@[simp] theorem Outside.recordsSinks_update (s : State) x0 x1 x2 x3 x4 :
    Outside.recordsSinks { s with
      sinks := x0, faults := x1, aon := x2, free := x3, link := x4 } = Outside.recordsSinks s := (rfl)

theorem Outside.recordsSinks_eq {s t : State} (h : Outside.recordsSinks t = Outside.recordsSinks s) :
    t = { s with
      sinks := t.sinks, faults := t.faults, aon := t.aon, free := t.free, link := t.link } := by
  cases s
  cases t
  simp only [Outside.recordsSinks, State.mk.injEq] at h
  simp only [h]

/-- The state outside toll, faults, aon, free, link. -/
def Outside.recordsToll (s : State) : State :=
  { s with
    toll := blank.toll, faults := blank.faults, aon := blank.aon, free := blank.free, link := blank.link }

@[simp] theorem Outside.recordsToll_update (s : State) x0 x1 x2 x3 x4 :
    Outside.recordsToll { s with
      toll := x0, faults := x1, aon := x2, free := x3, link := x4 } = Outside.recordsToll s := (rfl)

theorem Outside.recordsToll_eq {s t : State} (h : Outside.recordsToll t = Outside.recordsToll s) :
    t = { s with
      toll := t.toll, faults := t.faults, aon := t.aon, free := t.free, link := t.link } := by
  cases s
  cases t
  simp only [Outside.recordsToll, State.mk.injEq] at h
  simp only [h]

/-- The state outside host, faults, aon, free, caravan, units. -/
def Outside.aonCaravanFaultsFreeHostUnits (s : State) : State :=
  { s with
    host := blank.host, faults := blank.faults, aon := blank.aon, free := blank.free, caravan := blank.caravan
    units := blank.units }

@[simp] theorem Outside.aonCaravanFaultsFreeHostUnits_update (s : State) x0 x1 x2 x3 x4 x5 :
    Outside.aonCaravanFaultsFreeHostUnits { s with
      host := x0, faults := x1, aon := x2, free := x3, caravan := x4, units := x5 } = Outside.aonCaravanFaultsFreeHostUnits s := (rfl)

/-- The state outside pixels, nvm, faults, aon, free, link. -/
def Outside.recordsNvmPixels (s : State) : State :=
  { s with
    pixels := blank.pixels, nvm := blank.nvm, faults := blank.faults, aon := blank.aon, free := blank.free
    link := blank.link }

@[simp] theorem Outside.recordsNvmPixels_update (s : State) x0 x1 x2 x3 x4 x5 :
    Outside.recordsNvmPixels { s with
      pixels := x0, nvm := x1, faults := x2, aon := x3, free := x4, link := x5 } = Outside.recordsNvmPixels s := (rfl)

theorem Outside.recordsNvmPixels_eq {s t : State} (h : Outside.recordsNvmPixels t = Outside.recordsNvmPixels s) :
    t = { s with
      pixels := t.pixels, nvm := t.nvm, faults := t.faults, aon := t.aon, free := t.free, link := t.link } := by
  cases s
  cases t
  simp only [Outside.recordsNvmPixels, State.mk.injEq] at h
  simp only [h]

/-- The state outside power, faults, aon, free, link, safety. -/
def Outside.recordsPowerSafety (s : State) : State :=
  { s with
    power := blank.power, faults := blank.faults, aon := blank.aon, free := blank.free, link := blank.link
    safety := blank.safety }

@[simp] theorem Outside.recordsPowerSafety_update (s : State) x0 x1 x2 x3 x4 x5 :
    Outside.recordsPowerSafety { s with
      power := x0, faults := x1, aon := x2, free := x3, link := x4, safety := x5 } = Outside.recordsPowerSafety s := (rfl)

theorem Outside.recordsPowerSafety_eq {s t : State} (h : Outside.recordsPowerSafety t = Outside.recordsPowerSafety
    s) :
    t = { s with
      power := t.power, faults := t.faults, aon := t.aon, free := t.free, link := t.link, safety := t.safety } := by
  cases s
  cases t
  simp only [Outside.recordsPowerSafety, State.mk.injEq] at h
  simp only [h]

/-- The state outside journal, host, nvm, faults, aon, free, caravan. -/
def Outside.aonCaravanFaultsFreeHostJournalNvm (s : State) : State :=
  { s with
    journal := blank.journal, host := blank.host, nvm := blank.nvm, faults := blank.faults, aon := blank.aon
    free := blank.free, caravan := blank.caravan }

@[simp] theorem Outside.aonCaravanFaultsFreeHostJournalNvm_update (s : State) x0 x1 x2 x3 x4 x5 x6 :
    Outside.aonCaravanFaultsFreeHostJournalNvm { s with
      journal := x0, host := x1, nvm := x2, faults := x3, aon := x4, free := x5, caravan := x6 } = Outside.aonCaravanFaultsFreeHostJournalNvm s := (rfl)

theorem Outside.aonCaravanFaultsFreeHostJournalNvm_eq {s t : State} (h :
    Outside.aonCaravanFaultsFreeHostJournalNvm t = Outside.aonCaravanFaultsFreeHostJournalNvm s) :
    t = { s with
      journal := t.journal, host := t.host, nvm := t.nvm, faults := t.faults, aon := t.aon, free := t.free
      caravan := t.caravan } := by
  cases s
  cases t
  simp only [Outside.aonCaravanFaultsFreeHostJournalNvm, State.mk.injEq] at h
  simp only [h]

/-- The state outside journal, host, faults, aon, free, link, caravan. -/
def Outside.recordsCaravanHostJournal (s : State) : State :=
  { s with
    journal := blank.journal, host := blank.host, faults := blank.faults, aon := blank.aon, free := blank.free
    link := blank.link, caravan := blank.caravan }

@[simp] theorem Outside.recordsCaravanHostJournal_update (s : State) x0 x1 x2 x3 x4 x5 x6 :
    Outside.recordsCaravanHostJournal { s with
      journal := x0, host := x1, faults := x2, aon := x3, free := x4, link := x5, caravan := x6 } = Outside.recordsCaravanHostJournal s := (rfl)

theorem Outside.recordsCaravanHostJournal_eq {s t : State} (h : Outside.recordsCaravanHostJournal t =
    Outside.recordsCaravanHostJournal s) :
    t = { s with
      journal := t.journal, host := t.host, faults := t.faults, aon := t.aon, free := t.free, link := t.link
      caravan := t.caravan } := by
  cases s
  cases t
  simp only [Outside.recordsCaravanHostJournal, State.mk.injEq] at h
  simp only [h]

/-- The state outside dram, host, faults, dict, aon, free, link. -/
def Outside.recordsDictDramHost (s : State) : State :=
  { s with
    dram := blank.dram, host := blank.host, faults := blank.faults, dict := blank.dict, aon := blank.aon
    free := blank.free, link := blank.link }

@[simp] theorem Outside.recordsDictDramHost_update (s : State) x0 x1 x2 x3 x4 x5 x6 :
    Outside.recordsDictDramHost { s with
      dram := x0, host := x1, faults := x2, dict := x3, aon := x4, free := x5, link := x6 } = Outside.recordsDictDramHost s := (rfl)

theorem Outside.recordsDictDramHost_eq {s t : State} (h : Outside.recordsDictDramHost t =
    Outside.recordsDictDramHost s) :
    t = { s with
      dram := t.dram, host := t.host, faults := t.faults, dict := t.dict, aon := t.aon, free := t.free
      link := t.link } := by
  cases s
  cases t
  simp only [Outside.recordsDictDramHost, State.mk.injEq] at h
  simp only [h]

/-- The state outside journal, host, nvm, faults, aon, free, link, caravan. -/
def Outside.entry (s : State) : State :=
  { s with
    journal := blank.journal, host := blank.host, nvm := blank.nvm, faults := blank.faults, aon := blank.aon
    free := blank.free, link := blank.link, caravan := blank.caravan }

@[simp] theorem Outside.entry_update (s : State) x0 x1 x2 x3 x4 x5 x6 x7 :
    Outside.entry { s with
      journal := x0, host := x1, nvm := x2, faults := x3, aon := x4, free := x5, link := x6, caravan := x7 } = Outside.entry s := (rfl)

theorem Outside.entry_eq {s t : State} (h : Outside.entry t = Outside.entry s) :
    t = { s with
      journal := t.journal, host := t.host, nvm := t.nvm, faults := t.faults, aon := t.aon, free := t.free
      link := t.link, caravan := t.caravan } := by
  cases s
  cases t
  simp only [Outside.entry, State.mk.injEq] at h
  simp only [h]

/-- The state outside shade, host, manifest, faults, aon, free, link, scan. -/
def Outside.recordsHostManifestScanShade (s : State) : State :=
  { s with
    shade := blank.shade, host := blank.host, manifest := blank.manifest, faults := blank.faults, aon := blank.aon
    free := blank.free, link := blank.link, scan := blank.scan }

@[simp] theorem Outside.recordsHostManifestScanShade_update (s : State) x0 x1 x2 x3 x4 x5 x6 x7 :
    Outside.recordsHostManifestScanShade { s with
      shade := x0, host := x1, manifest := x2, faults := x3, aon := x4, free := x5, link := x6, scan := x7 } = Outside.recordsHostManifestScanShade s := (rfl)

theorem Outside.recordsHostManifestScanShade_eq {s t : State} (h : Outside.recordsHostManifestScanShade t =
    Outside.recordsHostManifestScanShade s) :
    t = { s with
      shade := t.shade, host := t.host, manifest := t.manifest, faults := t.faults, aon := t.aon, free := t.free
      link := t.link, scan := t.scan } := by
  cases s
  cases t
  simp only [Outside.recordsHostManifestScanShade, State.mk.injEq] at h
  simp only [h]

/-- The state outside journal, host, nvm, faults, aon, free, link, caravan, ceiling. -/
def Outside.entryCeiling (s : State) : State :=
  { s with
    journal := blank.journal, host := blank.host, nvm := blank.nvm, faults := blank.faults, aon := blank.aon
    free := blank.free, link := blank.link, caravan := blank.caravan, ceiling := blank.ceiling }

@[simp] theorem Outside.entryCeiling_update (s : State) x0 x1 x2 x3 x4 x5 x6 x7 x8 :
    Outside.entryCeiling { s with
      journal := x0, host := x1, nvm := x2, faults := x3, aon := x4, free := x5, link := x6, caravan := x7
      ceiling := x8 } = Outside.entryCeiling s := (rfl)

theorem Outside.entryCeiling_eq {s t : State} (h : Outside.entryCeiling t = Outside.entryCeiling s) :
    t = { s with
      journal := t.journal, host := t.host, nvm := t.nvm, faults := t.faults, aon := t.aon, free := t.free
      link := t.link, caravan := t.caravan, ceiling := t.ceiling } := by
  cases s
  cases t
  simp only [Outside.entryCeiling, State.mk.injEq] at h
  simp only [h]

/-- The state outside journal, host, nvm, faults, aon, free, checker, link, caravan. -/
def Outside.entryChecker (s : State) : State :=
  { s with
    journal := blank.journal, host := blank.host, nvm := blank.nvm, faults := blank.faults, aon := blank.aon
    free := blank.free, checker := blank.checker, link := blank.link, caravan := blank.caravan }

@[simp] theorem Outside.entryChecker_update (s : State) x0 x1 x2 x3 x4 x5 x6 x7 x8 :
    Outside.entryChecker { s with
      journal := x0, host := x1, nvm := x2, faults := x3, aon := x4, free := x5, checker := x6, link := x7
      caravan := x8 } = Outside.entryChecker s := (rfl)

theorem Outside.entryChecker_eq {s t : State} (h : Outside.entryChecker t = Outside.entryChecker s) :
    t = { s with
      journal := t.journal, host := t.host, nvm := t.nvm, faults := t.faults, aon := t.aon, free := t.free
      checker := t.checker, link := t.link, caravan := t.caravan } := by
  cases s
  cases t
  simp only [Outside.entryChecker, State.mk.injEq] at h
  simp only [h]

/-- The state outside compose, journal, host, nvm, faults, aon, free, link, caravan. -/
def Outside.entryCompose (s : State) : State :=
  { s with
    compose := blank.compose, journal := blank.journal, host := blank.host, nvm := blank.nvm, faults := blank.faults
    aon := blank.aon, free := blank.free, link := blank.link, caravan := blank.caravan }

@[simp] theorem Outside.entryCompose_update (s : State) x0 x1 x2 x3 x4 x5 x6 x7 x8 :
    Outside.entryCompose { s with
      compose := x0, journal := x1, host := x2, nvm := x3, faults := x4, aon := x5, free := x6, link := x7
      caravan := x8 } = Outside.entryCompose s := (rfl)

theorem Outside.entryCompose_eq {s t : State} (h : Outside.entryCompose t = Outside.entryCompose s) :
    t = { s with
      compose := t.compose, journal := t.journal, host := t.host, nvm := t.nvm, faults := t.faults, aon := t.aon
      free := t.free, link := t.link, caravan := t.caravan } := by
  cases s
  cases t
  simp only [Outside.entryCompose, State.mk.injEq] at h
  simp only [h]

/-- The state outside journal, host, nvm, faults, dict, aon, free, link, caravan. -/
def Outside.entryDict (s : State) : State :=
  { s with
    journal := blank.journal, host := blank.host, nvm := blank.nvm, faults := blank.faults, dict := blank.dict
    aon := blank.aon, free := blank.free, link := blank.link, caravan := blank.caravan }

@[simp] theorem Outside.entryDict_update (s : State) x0 x1 x2 x3 x4 x5 x6 x7 x8 :
    Outside.entryDict { s with
      journal := x0, host := x1, nvm := x2, faults := x3, dict := x4, aon := x5, free := x6, link := x7
      caravan := x8 } = Outside.entryDict s := (rfl)

theorem Outside.entryDict_eq {s t : State} (h : Outside.entryDict t = Outside.entryDict s) :
    t = { s with
      journal := t.journal, host := t.host, nvm := t.nvm, faults := t.faults, dict := t.dict, aon := t.aon
      free := t.free, link := t.link, caravan := t.caravan } := by
  cases s
  cases t
  simp only [Outside.entryDict, State.mk.injEq] at h
  simp only [h]

/-- The state outside journal, host, nvm, faults, aon, fetch, free, link, caravan. -/
def Outside.entryFetch (s : State) : State :=
  { s with
    journal := blank.journal, host := blank.host, nvm := blank.nvm, faults := blank.faults, aon := blank.aon
    fetch := blank.fetch, free := blank.free, link := blank.link, caravan := blank.caravan }

@[simp] theorem Outside.entryFetch_update (s : State) x0 x1 x2 x3 x4 x5 x6 x7 x8 :
    Outside.entryFetch { s with
      journal := x0, host := x1, nvm := x2, faults := x3, aon := x4, fetch := x5, free := x6, link := x7
      caravan := x8 } = Outside.entryFetch s := (rfl)

theorem Outside.entryFetch_eq {s t : State} (h : Outside.entryFetch t = Outside.entryFetch s) :
    t = { s with
      journal := t.journal, host := t.host, nvm := t.nvm, faults := t.faults, aon := t.aon, fetch := t.fetch
      free := t.free, link := t.link, caravan := t.caravan } := by
  cases s
  cases t
  simp only [Outside.entryFetch, State.mk.injEq] at h
  simp only [h]

/-- The state outside journal, host, nvm, faults, aon, hk, free, link, caravan. -/
def Outside.entryHk (s : State) : State :=
  { s with
    journal := blank.journal, host := blank.host, nvm := blank.nvm, faults := blank.faults, aon := blank.aon
    hk := blank.hk, free := blank.free, link := blank.link, caravan := blank.caravan }

@[simp] theorem Outside.entryHk_update (s : State) x0 x1 x2 x3 x4 x5 x6 x7 x8 :
    Outside.entryHk { s with
      journal := x0, host := x1, nvm := x2, faults := x3, aon := x4, hk := x5, free := x6, link := x7, caravan := x8 } = Outside.entryHk s := (rfl)

theorem Outside.entryHk_eq {s t : State} (h : Outside.entryHk t = Outside.entryHk s) :
    t = { s with
      journal := t.journal, host := t.host, nvm := t.nvm, faults := t.faults, aon := t.aon, hk := t.hk
      free := t.free, link := t.link, caravan := t.caravan } := by
  cases s
  cases t
  simp only [Outside.entryHk, State.mk.injEq] at h
  simp only [h]

/-- The state outside pixels, journal, host, nvm, faults, aon, free, link, caravan. -/
def Outside.entryPixels (s : State) : State :=
  { s with
    pixels := blank.pixels, journal := blank.journal, host := blank.host, nvm := blank.nvm, faults := blank.faults
    aon := blank.aon, free := blank.free, link := blank.link, caravan := blank.caravan }

@[simp] theorem Outside.entryPixels_update (s : State) x0 x1 x2 x3 x4 x5 x6 x7 x8 :
    Outside.entryPixels { s with
      pixels := x0, journal := x1, host := x2, nvm := x3, faults := x4, aon := x5, free := x6, link := x7
      caravan := x8 } = Outside.entryPixels s := (rfl)

theorem Outside.entryPixels_eq {s t : State} (h : Outside.entryPixels t = Outside.entryPixels s) :
    t = { s with
      pixels := t.pixels, journal := t.journal, host := t.host, nvm := t.nvm, faults := t.faults, aon := t.aon
      free := t.free, link := t.link, caravan := t.caravan } := by
  cases s
  cases t
  simp only [Outside.entryPixels, State.mk.injEq] at h
  simp only [h]

/-- The state outside journal, host, nvm, power, faults, aon, free, link, caravan. -/
def Outside.entryPower (s : State) : State :=
  { s with
    journal := blank.journal, host := blank.host, nvm := blank.nvm, power := blank.power, faults := blank.faults
    aon := blank.aon, free := blank.free, link := blank.link, caravan := blank.caravan }

@[simp] theorem Outside.entryPower_update (s : State) x0 x1 x2 x3 x4 x5 x6 x7 x8 :
    Outside.entryPower { s with
      journal := x0, host := x1, nvm := x2, power := x3, faults := x4, aon := x5, free := x6, link := x7
      caravan := x8 } = Outside.entryPower s := (rfl)

/-- The state outside journal, host, nvm, faults, aon, free, link, caravan, safety. -/
def Outside.entrySafety (s : State) : State :=
  { s with
    journal := blank.journal, host := blank.host, nvm := blank.nvm, faults := blank.faults, aon := blank.aon
    free := blank.free, link := blank.link, caravan := blank.caravan, safety := blank.safety }

@[simp] theorem Outside.entrySafety_update (s : State) x0 x1 x2 x3 x4 x5 x6 x7 x8 :
    Outside.entrySafety { s with
      journal := x0, host := x1, nvm := x2, faults := x3, aon := x4, free := x5, link := x6, caravan := x7
      safety := x8 } = Outside.entrySafety s := (rfl)

theorem Outside.entrySafety_eq {s t : State} (h : Outside.entrySafety t = Outside.entrySafety s) :
    t = { s with
      journal := t.journal, host := t.host, nvm := t.nvm, faults := t.faults, aon := t.aon, free := t.free
      link := t.link, caravan := t.caravan, safety := t.safety } := by
  cases s
  cases t
  simp only [Outside.entrySafety, State.mk.injEq] at h
  simp only [h]

/-- The state outside journal, host, nvm, faults, aon, free, link, caravan, scan. -/
def Outside.entryScan (s : State) : State :=
  { s with
    journal := blank.journal, host := blank.host, nvm := blank.nvm, faults := blank.faults, aon := blank.aon
    free := blank.free, link := blank.link, caravan := blank.caravan, scan := blank.scan }

@[simp] theorem Outside.entryScan_update (s : State) x0 x1 x2 x3 x4 x5 x6 x7 x8 :
    Outside.entryScan { s with
      journal := x0, host := x1, nvm := x2, faults := x3, aon := x4, free := x5, link := x6, caravan := x7
      scan := x8 } = Outside.entryScan s := (rfl)

theorem Outside.entryScan_eq {s t : State} (h : Outside.entryScan t = Outside.entryScan s) :
    t = { s with
      journal := t.journal, host := t.host, nvm := t.nvm, faults := t.faults, aon := t.aon, free := t.free
      link := t.link, caravan := t.caravan, scan := t.scan } := by
  cases s
  cases t
  simp only [Outside.entryScan, State.mk.injEq] at h
  simp only [h]

/-- The state outside shade, journal, host, nvm, faults, aon, free, link, caravan. -/
def Outside.entryShade (s : State) : State :=
  { s with
    shade := blank.shade, journal := blank.journal, host := blank.host, nvm := blank.nvm, faults := blank.faults
    aon := blank.aon, free := blank.free, link := blank.link, caravan := blank.caravan }

@[simp] theorem Outside.entryShade_update (s : State) x0 x1 x2 x3 x4 x5 x6 x7 x8 :
    Outside.entryShade { s with
      shade := x0, journal := x1, host := x2, nvm := x3, faults := x4, aon := x5, free := x6, link := x7
      caravan := x8 } = Outside.entryShade s := (rfl)

theorem Outside.entryShade_eq {s t : State} (h : Outside.entryShade t = Outside.entryShade s) :
    t = { s with
      shade := t.shade, journal := t.journal, host := t.host, nvm := t.nvm, faults := t.faults, aon := t.aon
      free := t.free, link := t.link, caravan := t.caravan } := by
  cases s
  cases t
  simp only [Outside.entryShade, State.mk.injEq] at h
  simp only [h]

/-- The state outside journal, host, sinks, nvm, faults, aon, free, link, caravan. -/
def Outside.entrySinks (s : State) : State :=
  { s with
    journal := blank.journal, host := blank.host, sinks := blank.sinks, nvm := blank.nvm, faults := blank.faults
    aon := blank.aon, free := blank.free, link := blank.link, caravan := blank.caravan }

@[simp] theorem Outside.entrySinks_update (s : State) x0 x1 x2 x3 x4 x5 x6 x7 x8 :
    Outside.entrySinks { s with
      journal := x0, host := x1, sinks := x2, nvm := x3, faults := x4, aon := x5, free := x6, link := x7
      caravan := x8 } = Outside.entrySinks s := (rfl)

/-- The state outside journal, toll, host, nvm, faults, aon, free, link, caravan. -/
def Outside.entryToll (s : State) : State :=
  { s with
    journal := blank.journal, toll := blank.toll, host := blank.host, nvm := blank.nvm, faults := blank.faults
    aon := blank.aon, free := blank.free, link := blank.link, caravan := blank.caravan }

@[simp] theorem Outside.entryToll_update (s : State) x0 x1 x2 x3 x4 x5 x6 x7 x8 :
    Outside.entryToll { s with
      journal := x0, toll := x1, host := x2, nvm := x3, faults := x4, aon := x5, free := x6, link := x7
      caravan := x8 } = Outside.entryToll s := (rfl)

/-- The state outside journal, host, nvm, faults, aon, free, link, caravan, units. -/
def Outside.entryUnits (s : State) : State :=
  { s with
    journal := blank.journal, host := blank.host, nvm := blank.nvm, faults := blank.faults, aon := blank.aon
    free := blank.free, link := blank.link, caravan := blank.caravan, units := blank.units }

@[simp] theorem Outside.entryUnits_update (s : State) x0 x1 x2 x3 x4 x5 x6 x7 x8 :
    Outside.entryUnits { s with
      journal := x0, host := x1, nvm := x2, faults := x3, aon := x4, free := x5, link := x6, caravan := x7
      units := x8 } = Outside.entryUnits s := (rfl)

theorem Outside.entryUnits_eq {s t : State} (h : Outside.entryUnits t = Outside.entryUnits s) :
    t = { s with
      journal := t.journal, host := t.host, nvm := t.nvm, faults := t.faults, aon := t.aon, free := t.free
      link := t.link, caravan := t.caravan, units := t.units } := by
  cases s
  cases t
  simp only [Outside.entryUnits, State.mk.injEq] at h
  simp only [h]

/-- The state outside journal, host, nvm, faults, aon, free, link, update, caravan. -/
def Outside.entryUpdate (s : State) : State :=
  { s with
    journal := blank.journal, host := blank.host, nvm := blank.nvm, faults := blank.faults, aon := blank.aon
    free := blank.free, link := blank.link, update := blank.update, caravan := blank.caravan }

@[simp] theorem Outside.entryUpdate_update (s : State) x0 x1 x2 x3 x4 x5 x6 x7 x8 :
    Outside.entryUpdate { s with
      journal := x0, host := x1, nvm := x2, faults := x3, aon := x4, free := x5, link := x6, update := x7
      caravan := x8 } = Outside.entryUpdate s := (rfl)

theorem Outside.entryUpdate_eq {s t : State} (h : Outside.entryUpdate t = Outside.entryUpdate s) :
    t = { s with
      journal := t.journal, host := t.host, nvm := t.nvm, faults := t.faults, aon := t.aon, free := t.free
      link := t.link, update := t.update, caravan := t.caravan } := by
  cases s
  cases t
  simp only [Outside.entryUpdate, State.mk.injEq] at h
  simp only [h]

/-- The state outside compose, drive, journal, host, nvm, faults, aon, free, link, caravan. -/
def Outside.entryComposeDrive (s : State) : State :=
  { s with
    compose := blank.compose, drive := blank.drive, journal := blank.journal, host := blank.host, nvm := blank.nvm
    faults := blank.faults, aon := blank.aon, free := blank.free, link := blank.link, caravan := blank.caravan }

@[simp] theorem Outside.entryComposeDrive_update (s : State) x0 x1 x2 x3 x4 x5 x6 x7 x8 x9 :
    Outside.entryComposeDrive { s with
      compose := x0, drive := x1, journal := x2, host := x3, nvm := x4, faults := x5, aon := x6, free := x7
      link := x8, caravan := x9 } = Outside.entryComposeDrive s := (rfl)

theorem Outside.entryComposeDrive_eq {s t : State} (h : Outside.entryComposeDrive t = Outside.entryComposeDrive s) :
    t = { s with
      compose := t.compose, drive := t.drive, journal := t.journal, host := t.host, nvm := t.nvm, faults := t.faults
      aon := t.aon, free := t.free, link := t.link, caravan := t.caravan } := by
  cases s
  cases t
  simp only [Outside.entryComposeDrive, State.mk.injEq] at h
  simp only [h]

/-- The state outside drive, pixels, journal, host, nvm, faults, aon, free, link, caravan. -/
def Outside.entryDrivePixels (s : State) : State :=
  { s with
    drive := blank.drive, pixels := blank.pixels, journal := blank.journal, host := blank.host, nvm := blank.nvm
    faults := blank.faults, aon := blank.aon, free := blank.free, link := blank.link, caravan := blank.caravan }

@[simp] theorem Outside.entryDrivePixels_update (s : State) x0 x1 x2 x3 x4 x5 x6 x7 x8 x9 :
    Outside.entryDrivePixels { s with
      drive := x0, pixels := x1, journal := x2, host := x3, nvm := x4, faults := x5, aon := x6, free := x7
      link := x8, caravan := x9 } = Outside.entryDrivePixels s := (rfl)

theorem Outside.entryDrivePixels_eq {s t : State} (h : Outside.entryDrivePixels t = Outside.entryDrivePixels s) :
    t = { s with
      drive := t.drive, pixels := t.pixels, journal := t.journal, host := t.host, nvm := t.nvm, faults := t.faults
      aon := t.aon, free := t.free, link := t.link, caravan := t.caravan } := by
  cases s
  cases t
  simp only [Outside.entryDrivePixels, State.mk.injEq] at h
  simp only [h]

/-- The state outside journal, host, nvm, faults, aon, fetch, free, link, caravan, units. -/
def Outside.entryFetchUnits (s : State) : State :=
  { s with
    journal := blank.journal, host := blank.host, nvm := blank.nvm, faults := blank.faults, aon := blank.aon
    fetch := blank.fetch, free := blank.free, link := blank.link, caravan := blank.caravan, units := blank.units }

@[simp] theorem Outside.entryFetchUnits_update (s : State) x0 x1 x2 x3 x4 x5 x6 x7 x8 x9 :
    Outside.entryFetchUnits { s with
      journal := x0, host := x1, nvm := x2, faults := x3, aon := x4, fetch := x5, free := x6, link := x7
      caravan := x8, units := x9 } = Outside.entryFetchUnits s := (rfl)

theorem Outside.entryFetchUnits_eq {s t : State} (h : Outside.entryFetchUnits t = Outside.entryFetchUnits s) :
    t = { s with
      journal := t.journal, host := t.host, nvm := t.nvm, faults := t.faults, aon := t.aon, fetch := t.fetch
      free := t.free, link := t.link, caravan := t.caravan, units := t.units } := by
  cases s
  cases t
  simp only [Outside.entryFetchUnits, State.mk.injEq] at h
  simp only [h]

/-- The state outside pixels, journal, toll, host, nvm, faults, aon, free, link, caravan. -/
def Outside.entryPixelsToll (s : State) : State :=
  { s with
    pixels := blank.pixels, journal := blank.journal, toll := blank.toll, host := blank.host, nvm := blank.nvm
    faults := blank.faults, aon := blank.aon, free := blank.free, link := blank.link, caravan := blank.caravan }

@[simp] theorem Outside.entryPixelsToll_update (s : State) x0 x1 x2 x3 x4 x5 x6 x7 x8 x9 :
    Outside.entryPixelsToll { s with
      pixels := x0, journal := x1, toll := x2, host := x3, nvm := x4, faults := x5, aon := x6, free := x7, link := x8
      caravan := x9 } = Outside.entryPixelsToll s := (rfl)

theorem Outside.entryPixelsToll_eq {s t : State} (h : Outside.entryPixelsToll t = Outside.entryPixelsToll s) :
    t = { s with
      pixels := t.pixels, journal := t.journal, toll := t.toll, host := t.host, nvm := t.nvm, faults := t.faults
      aon := t.aon, free := t.free, link := t.link, caravan := t.caravan } := by
  cases s
  cases t
  simp only [Outside.entryPixelsToll, State.mk.injEq] at h
  simp only [h]

/-- The state outside journal, host, nvm, power, faults, aon, free, link, caravan, scan. -/
def Outside.entryPowerScan (s : State) : State :=
  { s with
    journal := blank.journal, host := blank.host, nvm := blank.nvm, power := blank.power, faults := blank.faults
    aon := blank.aon, free := blank.free, link := blank.link, caravan := blank.caravan, scan := blank.scan }

@[simp] theorem Outside.entryPowerScan_update (s : State) x0 x1 x2 x3 x4 x5 x6 x7 x8 x9 :
    Outside.entryPowerScan { s with
      journal := x0, host := x1, nvm := x2, power := x3, faults := x4, aon := x5, free := x6, link := x7
      caravan := x8, scan := x9 } = Outside.entryPowerScan s := (rfl)

/-- The state outside journal, host, nvm, faults, aon, free, link, caravan, units, safety. -/
def Outside.entrySafetyUnits (s : State) : State :=
  { s with
    journal := blank.journal, host := blank.host, nvm := blank.nvm, faults := blank.faults, aon := blank.aon
    free := blank.free, link := blank.link, caravan := blank.caravan, units := blank.units, safety := blank.safety }

@[simp] theorem Outside.entrySafetyUnits_update (s : State) x0 x1 x2 x3 x4 x5 x6 x7 x8 x9 :
    Outside.entrySafetyUnits { s with
      journal := x0, host := x1, nvm := x2, faults := x3, aon := x4, free := x5, link := x6, caravan := x7
      units := x8, safety := x9 } = Outside.entrySafetyUnits s := (rfl)

/-- The state outside compose, drive, journal, host, nvm, faults, aon, fetch, free, link, caravan. -/
def Outside.entryComposeDriveFetch (s : State) : State :=
  { s with
    compose := blank.compose, drive := blank.drive, journal := blank.journal, host := blank.host, nvm := blank.nvm
    faults := blank.faults, aon := blank.aon, fetch := blank.fetch, free := blank.free, link := blank.link
    caravan := blank.caravan }

@[simp] theorem Outside.entryComposeDriveFetch_update (s : State) x0 x1 x2 x3 x4 x5 x6 x7 x8 x9 x10 :
    Outside.entryComposeDriveFetch { s with
      compose := x0, drive := x1, journal := x2, host := x3, nvm := x4, faults := x5, aon := x6, fetch := x7
      free := x8, link := x9, caravan := x10 } = Outside.entryComposeDriveFetch s := (rfl)

theorem Outside.entryComposeDriveFetch_eq {s t : State} (h : Outside.entryComposeDriveFetch t =
    Outside.entryComposeDriveFetch s) :
    t = { s with
      compose := t.compose, drive := t.drive, journal := t.journal, host := t.host, nvm := t.nvm, faults := t.faults
      aon := t.aon, fetch := t.fetch, free := t.free, link := t.link, caravan := t.caravan } := by
  cases s
  cases t
  simp only [Outside.entryComposeDriveFetch, State.mk.injEq] at h
  simp only [h]

/-- The state outside compose, journal, host, nvm, manifest, faults, aon, free, link, caravan, units. -/
def Outside.entryComposeManifestUnits (s : State) : State :=
  { s with
    compose := blank.compose, journal := blank.journal, host := blank.host, nvm := blank.nvm
    manifest := blank.manifest, faults := blank.faults, aon := blank.aon, free := blank.free, link := blank.link
    caravan := blank.caravan, units := blank.units }

@[simp] theorem Outside.entryComposeManifestUnits_update (s : State) x0 x1 x2 x3 x4 x5 x6 x7 x8 x9 x10 :
    Outside.entryComposeManifestUnits { s with
      compose := x0, journal := x1, host := x2, nvm := x3, manifest := x4, faults := x5, aon := x6, free := x7
      link := x8, caravan := x9, units := x10 } = Outside.entryComposeManifestUnits s := (rfl)

theorem Outside.entryComposeManifestUnits_eq {s t : State} (h : Outside.entryComposeManifestUnits t =
    Outside.entryComposeManifestUnits s) :
    t = { s with
      compose := t.compose, journal := t.journal, host := t.host, nvm := t.nvm, manifest := t.manifest
      faults := t.faults, aon := t.aon, free := t.free, link := t.link, caravan := t.caravan, units := t.units } := by
  cases s
  cases t
  simp only [Outside.entryComposeManifestUnits, State.mk.injEq] at h
  simp only [h]

/-- The state outside journal, host, nvm, sramCorrected, dramRate, faults, dramCorrected, aon, free, link, caravan. -/
def Outside.entryDramCorrectedDramRateSramCorrected (s : State) : State :=
  { s with
    journal := blank.journal, host := blank.host, nvm := blank.nvm, sramCorrected := blank.sramCorrected
    dramRate := blank.dramRate, faults := blank.faults, dramCorrected := blank.dramCorrected, aon := blank.aon
    free := blank.free, link := blank.link, caravan := blank.caravan }

@[simp] theorem Outside.entryDramCorrectedDramRateSramCorrected_update (s : State) x0 x1 x2 x3 x4 x5 x6 x7 x8 x9 x10 :
    Outside.entryDramCorrectedDramRateSramCorrected { s with
      journal := x0, host := x1, nvm := x2, sramCorrected := x3, dramRate := x4, faults := x5, dramCorrected := x6
      aon := x7, free := x8, link := x9, caravan := x10 } = Outside.entryDramCorrectedDramRateSramCorrected s := (rfl)

/-- The state outside shade, journal, host, nvm, manifest, faults, aon, free, link, caravan, scan. -/
def Outside.entryManifestScanShade (s : State) : State :=
  { s with
    shade := blank.shade, journal := blank.journal, host := blank.host, nvm := blank.nvm, manifest := blank.manifest
    faults := blank.faults, aon := blank.aon, free := blank.free, link := blank.link, caravan := blank.caravan
    scan := blank.scan }

@[simp] theorem Outside.entryManifestScanShade_update (s : State) x0 x1 x2 x3 x4 x5 x6 x7 x8 x9 x10 :
    Outside.entryManifestScanShade { s with
      shade := x0, journal := x1, host := x2, nvm := x3, manifest := x4, faults := x5, aon := x6, free := x7
      link := x8, caravan := x9, scan := x10 } = Outside.entryManifestScanShade s := (rfl)

theorem Outside.entryManifestScanShade_eq {s t : State} (h : Outside.entryManifestScanShade t =
    Outside.entryManifestScanShade s) :
    t = { s with
      shade := t.shade, journal := t.journal, host := t.host, nvm := t.nvm, manifest := t.manifest
      faults := t.faults, aon := t.aon, free := t.free, link := t.link, caravan := t.caravan, scan := t.scan } := by
  cases s
  cases t
  simp only [Outside.entryManifestScanShade, State.mk.injEq] at h
  simp only [h]

/-- The state outside journal, host, nvm, faults, aon, free, link, update, caravan, units, safety, ceiling. -/
def Outside.entryCeilingSafetyUnitsUpdate (s : State) : State :=
  { s with
    journal := blank.journal, host := blank.host, nvm := blank.nvm, faults := blank.faults, aon := blank.aon
    free := blank.free, link := blank.link, update := blank.update, caravan := blank.caravan, units := blank.units
    safety := blank.safety, ceiling := blank.ceiling }

@[simp] theorem Outside.entryCeilingSafetyUnitsUpdate_update (s : State) x0 x1 x2 x3 x4 x5 x6 x7 x8 x9 x10 x11 :
    Outside.entryCeilingSafetyUnitsUpdate { s with
      journal := x0, host := x1, nvm := x2, faults := x3, aon := x4, free := x5, link := x6, update := x7
      caravan := x8, units := x9, safety := x10, ceiling := x11 } = Outside.entryCeilingSafetyUnitsUpdate s := (rfl)

/-- The state outside headroom, pixels, journal, toll, host, nvm, faults, aon, hk, free, link, caravan. -/
def Outside.entryHeadroomHkPixelsToll (s : State) : State :=
  { s with
    headroom := blank.headroom, pixels := blank.pixels, journal := blank.journal, toll := blank.toll
    host := blank.host, nvm := blank.nvm, faults := blank.faults, aon := blank.aon, hk := blank.hk
    free := blank.free, link := blank.link, caravan := blank.caravan }

@[simp] theorem Outside.entryHeadroomHkPixelsToll_update (s : State) x0 x1 x2 x3 x4 x5 x6 x7 x8 x9 x10 x11 :
    Outside.entryHeadroomHkPixelsToll { s with
      headroom := x0, pixels := x1, journal := x2, toll := x3, host := x4, nvm := x5, faults := x6, aon := x7
      hk := x8, free := x9, link := x10, caravan := x11 } = Outside.entryHeadroomHkPixelsToll s := (rfl)

theorem Outside.entryHeadroomHkPixelsToll_eq {s t : State} (h : Outside.entryHeadroomHkPixelsToll t =
    Outside.entryHeadroomHkPixelsToll s) :
    t = { s with
      headroom := t.headroom, pixels := t.pixels, journal := t.journal, toll := t.toll, host := t.host, nvm := t.nvm
      faults := t.faults, aon := t.aon, hk := t.hk, free := t.free, link := t.link, caravan := t.caravan } := by
  cases s
  cases t
  simp only [Outside.entryHeadroomHkPixelsToll, State.mk.injEq] at h
  simp only [h]

/-- The state outside shade, journal, host, nvm, manifest, faults, aon, free, link, update, caravan, scan, access. -/
def Outside.entries (s : State) : State :=
  { s with
    shade := blank.shade, journal := blank.journal, host := blank.host, nvm := blank.nvm, manifest := blank.manifest
    faults := blank.faults, aon := blank.aon, free := blank.free, link := blank.link, update := blank.update
    caravan := blank.caravan, scan := blank.scan, access := blank.access }

@[simp] theorem Outside.entries_update (s : State) x0 x1 x2 x3 x4 x5 x6 x7 x8 x9 x10 x11 x12 :
    Outside.entries { s with
      shade := x0, journal := x1, host := x2, nvm := x3, manifest := x4, faults := x5, aon := x6, free := x7
      link := x8, update := x9, caravan := x10, scan := x11, access := x12 } = Outside.entries s := (rfl)

theorem Outside.entries_eq {s t : State} (h : Outside.entries t = Outside.entries s) :
    t = { s with
      shade := t.shade, journal := t.journal, host := t.host, nvm := t.nvm, manifest := t.manifest
      faults := t.faults, aon := t.aon, free := t.free, link := t.link, update := t.update, caravan := t.caravan
      scan := t.scan, access := t.access } := by
  cases s
  cases t
  simp only [Outside.entries, State.mk.injEq] at h
  simp only [h]

/-- The state outside compose, shade, drive, pixels, journal, host, nvm, faults, aon, fetch, free, link, caravan,
    ceiling. -/
def Outside.line (s : State) : State :=
  { s with
    compose := blank.compose, shade := blank.shade, drive := blank.drive, pixels := blank.pixels
    journal := blank.journal, host := blank.host, nvm := blank.nvm, faults := blank.faults, aon := blank.aon
    fetch := blank.fetch, free := blank.free, link := blank.link, caravan := blank.caravan, ceiling := blank.ceiling }

@[simp] theorem Outside.line_update (s : State) x0 x1 x2 x3 x4 x5 x6 x7 x8 x9 x10 x11 x12 x13 :
    Outside.line { s with
      compose := x0, shade := x1, drive := x2, pixels := x3, journal := x4, host := x5, nvm := x6, faults := x7
      aon := x8, fetch := x9, free := x10, link := x11, caravan := x12, ceiling := x13 } = Outside.line s := (rfl)

theorem Outside.line_eq {s t : State} (h : Outside.line t = Outside.line s) :
    t = { s with
      compose := t.compose, shade := t.shade, drive := t.drive, pixels := t.pixels, journal := t.journal
      host := t.host, nvm := t.nvm, faults := t.faults, aon := t.aon, fetch := t.fetch, free := t.free
      link := t.link, caravan := t.caravan, ceiling := t.ceiling } := by
  cases s
  cases t
  simp only [Outside.line, State.mk.injEq] at h
  simp only [h]

/-- The state outside shade, pixels, journal, host, nvm, power, manifest, faults, aon, hk, almanac, free, link,
    caravan, units. -/
def Outside.entries2 (s : State) : State :=
  { s with
    shade := blank.shade, pixels := blank.pixels, journal := blank.journal, host := blank.host, nvm := blank.nvm
    power := blank.power, manifest := blank.manifest, faults := blank.faults, aon := blank.aon, hk := blank.hk
    almanac := blank.almanac, free := blank.free, link := blank.link, caravan := blank.caravan, units := blank.units }

@[simp] theorem Outside.entries2_update (s : State) x0 x1 x2 x3 x4 x5 x6 x7 x8 x9 x10 x11 x12 x13 x14 :
    Outside.entries2 { s with
      shade := x0, pixels := x1, journal := x2, host := x3, nvm := x4, power := x5, manifest := x6, faults := x7
      aon := x8, hk := x9, almanac := x10, free := x11, link := x12, caravan := x13, units := x14 } = Outside.entries2 s := (rfl)

theorem Outside.entries2_eq {s t : State} (h : Outside.entries2 t = Outside.entries2 s) :
    t = { s with
      shade := t.shade, pixels := t.pixels, journal := t.journal, host := t.host, nvm := t.nvm, power := t.power
      manifest := t.manifest, faults := t.faults, aon := t.aon, hk := t.hk, almanac := t.almanac, free := t.free
      link := t.link, caravan := t.caravan, units := t.units } := by
  cases s
  cases t
  simp only [Outside.entries2, State.mk.injEq] at h
  simp only [h]

/-- The state outside compose, shade, headroom, drive, journal, toll, host, nvm, faults, aon, fetch, free, link,
    caravan, ceiling. -/
def Outside.line3 (s : State) : State :=
  { s with
    compose := blank.compose, shade := blank.shade, headroom := blank.headroom, drive := blank.drive
    journal := blank.journal, toll := blank.toll, host := blank.host, nvm := blank.nvm, faults := blank.faults
    aon := blank.aon, fetch := blank.fetch, free := blank.free, link := blank.link, caravan := blank.caravan
    ceiling := blank.ceiling }

@[simp] theorem Outside.line3_update (s : State) x0 x1 x2 x3 x4 x5 x6 x7 x8 x9 x10 x11 x12 x13 x14 :
    Outside.line3 { s with
      compose := x0, shade := x1, headroom := x2, drive := x3, journal := x4, toll := x5, host := x6, nvm := x7
      faults := x8, aon := x9, fetch := x10, free := x11, link := x12, caravan := x13, ceiling := x14 } = Outside.line3 s := (rfl)

theorem Outside.line3_eq {s t : State} (h : Outside.line3 t = Outside.line3 s) :
    t = { s with
      compose := t.compose, shade := t.shade, headroom := t.headroom, drive := t.drive, journal := t.journal
      toll := t.toll, host := t.host, nvm := t.nvm, faults := t.faults, aon := t.aon, fetch := t.fetch
      free := t.free, link := t.link, caravan := t.caravan, ceiling := t.ceiling } := by
  cases s
  cases t
  simp only [Outside.line3, State.mk.injEq] at h
  simp only [h]

/-- The state outside leap, safeBeam, warp, sinks, power, manifest, faults, dict, aon, almanac, free, link,
    caravan, units, safety, scan. -/
def Outside.powerUp2 (s : State) : State :=
  { s with
    leap := blank.leap, safeBeam := blank.safeBeam, warp := blank.warp, sinks := blank.sinks, power := blank.power
    manifest := blank.manifest, faults := blank.faults, dict := blank.dict, aon := blank.aon
    almanac := blank.almanac, free := blank.free, link := blank.link, caravan := blank.caravan, units := blank.units
    safety := blank.safety, scan := blank.scan }

@[simp] theorem Outside.powerUp2_update (s : State) x0 x1 x2 x3 x4 x5 x6 x7 x8 x9 x10 x11 x12 x13 x14 x15 :
    Outside.powerUp2 { s with
      leap := x0, safeBeam := x1, warp := x2, sinks := x3, power := x4, manifest := x5, faults := x6, dict := x7
      aon := x8, almanac := x9, free := x10, link := x11, caravan := x12, units := x13, safety := x14, scan := x15 } = Outside.powerUp2 s := (rfl)

theorem Outside.powerUp2_eq {s t : State} (h : Outside.powerUp2 t = Outside.powerUp2 s) :
    t = { s with
      leap := t.leap, safeBeam := t.safeBeam, warp := t.warp, sinks := t.sinks, power := t.power
      manifest := t.manifest, faults := t.faults, dict := t.dict, aon := t.aon, almanac := t.almanac, free := t.free
      link := t.link, caravan := t.caravan, units := t.units, safety := t.safety, scan := t.scan } := by
  cases s
  cases t
  simp only [Outside.powerUp2, State.mk.injEq] at h
  simp only [h]

/-- The state outside headroom, drive, pixels, journal, toll, host, sinks, nvm, power, faults, aon, hk, free,
    link, caravan, scan. -/
def Outside.slot (s : State) : State :=
  { s with
    headroom := blank.headroom, drive := blank.drive, pixels := blank.pixels, journal := blank.journal
    toll := blank.toll, host := blank.host, sinks := blank.sinks, nvm := blank.nvm, power := blank.power
    faults := blank.faults, aon := blank.aon, hk := blank.hk, free := blank.free, link := blank.link
    caravan := blank.caravan, scan := blank.scan }

@[simp] theorem Outside.slot_update (s : State) x0 x1 x2 x3 x4 x5 x6 x7 x8 x9 x10 x11 x12 x13 x14 x15 :
    Outside.slot { s with
      headroom := x0, drive := x1, pixels := x2, journal := x3, toll := x4, host := x5, sinks := x6, nvm := x7
      power := x8, faults := x9, aon := x10, hk := x11, free := x12, link := x13, caravan := x14, scan := x15 } = Outside.slot s := (rfl)

theorem Outside.slot_eq {s t : State} (h : Outside.slot t = Outside.slot s) :
    t = { s with
      headroom := t.headroom, drive := t.drive, pixels := t.pixels, journal := t.journal, toll := t.toll
      host := t.host, sinks := t.sinks, nvm := t.nvm, power := t.power, faults := t.faults, aon := t.aon, hk := t.hk
      free := t.free, link := t.link, caravan := t.caravan, scan := t.scan } := by
  cases s
  cases t
  simp only [Outside.slot, State.mk.injEq] at h
  simp only [h]

/-- The state outside compose, shade, headroom, drive, pixels, journal, toll, host, nvm, manifest, faults, aon,
    fetch, free, link, caravan, ceiling. -/
def Outside.line2 (s : State) : State :=
  { s with
    compose := blank.compose, shade := blank.shade, headroom := blank.headroom, drive := blank.drive
    pixels := blank.pixels, journal := blank.journal, toll := blank.toll, host := blank.host, nvm := blank.nvm
    manifest := blank.manifest, faults := blank.faults, aon := blank.aon, fetch := blank.fetch, free := blank.free
    link := blank.link, caravan := blank.caravan, ceiling := blank.ceiling }

@[simp] theorem Outside.line2_update (s : State) x0 x1 x2 x3 x4 x5 x6 x7 x8 x9 x10 x11 x12 x13 x14 x15 x16 :
    Outside.line2 { s with
      compose := x0, shade := x1, headroom := x2, drive := x3, pixels := x4, journal := x5, toll := x6, host := x7
      nvm := x8, manifest := x9, faults := x10, aon := x11, fetch := x12, free := x13, link := x14, caravan := x15
      ceiling := x16 } = Outside.line2 s := (rfl)

theorem Outside.line2_eq {s t : State} (h : Outside.line2 t = Outside.line2 s) :
    t = { s with
      compose := t.compose, shade := t.shade, headroom := t.headroom, drive := t.drive, pixels := t.pixels
      journal := t.journal, toll := t.toll, host := t.host, nvm := t.nvm, manifest := t.manifest, faults := t.faults
      aon := t.aon, fetch := t.fetch, free := t.free, link := t.link, caravan := t.caravan, ceiling := t.ceiling } := by
  cases s
  cases t
  simp only [Outside.line2, State.mk.injEq] at h
  simp only [h]

/-- The state outside compose, leap, safeBeam, warp, sinks, power, manifest, faults, dict, aon, hk, almanac, free,
    link, caravan, units, safety, scan. -/
def Outside.powerUp (s : State) : State :=
  { s with
    compose := blank.compose, leap := blank.leap, safeBeam := blank.safeBeam, warp := blank.warp
    sinks := blank.sinks, power := blank.power, manifest := blank.manifest, faults := blank.faults
    dict := blank.dict, aon := blank.aon, hk := blank.hk, almanac := blank.almanac, free := blank.free
    link := blank.link, caravan := blank.caravan, units := blank.units, safety := blank.safety, scan := blank.scan }

@[simp] theorem Outside.powerUp_update (s : State) x0 x1 x2 x3 x4 x5 x6 x7 x8 x9 x10 x11 x12 x13 x14 x15 x16 x17 :
    Outside.powerUp { s with
      compose := x0, leap := x1, safeBeam := x2, warp := x3, sinks := x4, power := x5, manifest := x6, faults := x7
      dict := x8, aon := x9, hk := x10, almanac := x11, free := x12, link := x13, caravan := x14, units := x15
      safety := x16, scan := x17 } = Outside.powerUp s := (rfl)

theorem Outside.powerUp_eq {s t : State} (h : Outside.powerUp t = Outside.powerUp s) :
    t = { s with
      compose := t.compose, leap := t.leap, safeBeam := t.safeBeam, warp := t.warp, sinks := t.sinks
      power := t.power, manifest := t.manifest, faults := t.faults, dict := t.dict, aon := t.aon, hk := t.hk
      almanac := t.almanac, free := t.free, link := t.link, caravan := t.caravan, units := t.units
      safety := t.safety, scan := t.scan } := by
  cases s
  cases t
  simp only [Outside.powerUp, State.mk.injEq] at h
  simp only [h]

/-- The state outside all but variant, pending, sramCorrected, checker, safety. -/
def Outside.service (s : State) : State :=
  { s with
    compose := blank.compose, dram := blank.dram, leap := blank.leap, shade := blank.shade
    headroom := blank.headroom, safeBeam := blank.safeBeam, warp := blank.warp, drive := blank.drive
    pixels := blank.pixels, journal := blank.journal, toll := blank.toll, host := blank.host, sinks := blank.sinks
    nvm := blank.nvm, power := blank.power, manifest := blank.manifest, dramRate := blank.dramRate
    faults := blank.faults, dict := blank.dict, dramCorrected := blank.dramCorrected, aon := blank.aon
    hk := blank.hk, almanac := blank.almanac, fetch := blank.fetch, free := blank.free, link := blank.link
    update := blank.update, caravan := blank.caravan, units := blank.units, scan := blank.scan
    ceiling := blank.ceiling, access := blank.access }

@[simp] theorem Outside.service_update (s : State) x0 x1 x2 x3 x4 x5 x6 x7 x8 x9 x10 x11 x12 x13 x14 x15 x16 x17
    x18 x19 x20 x21 x22 x23 x24 x25 x26 x27 x28 x29 x30 x31 :
    Outside.service { s with
      compose := x0, dram := x1, leap := x2, shade := x3, headroom := x4, safeBeam := x5, warp := x6, drive := x7
      pixels := x8, journal := x9, toll := x10, host := x11, sinks := x12, nvm := x13, power := x14, manifest := x15
      dramRate := x16, faults := x17, dict := x18, dramCorrected := x19, aon := x20, hk := x21, almanac := x22
      fetch := x23, free := x24, link := x25, update := x26, caravan := x27, units := x28, scan := x29
      ceiling := x30, access := x31 } = Outside.service s := (rfl)

/-- The state outside all but variant, pending, sramCorrected, checker. -/
def Outside.work (s : State) : State :=
  { s with
    compose := blank.compose, dram := blank.dram, leap := blank.leap, shade := blank.shade
    headroom := blank.headroom, safeBeam := blank.safeBeam, warp := blank.warp, drive := blank.drive
    pixels := blank.pixels, journal := blank.journal, toll := blank.toll, host := blank.host, sinks := blank.sinks
    nvm := blank.nvm, power := blank.power, manifest := blank.manifest, dramRate := blank.dramRate
    faults := blank.faults, dict := blank.dict, dramCorrected := blank.dramCorrected, aon := blank.aon
    hk := blank.hk, almanac := blank.almanac, fetch := blank.fetch, free := blank.free, link := blank.link
    update := blank.update, caravan := blank.caravan, units := blank.units, safety := blank.safety
    scan := blank.scan, ceiling := blank.ceiling, access := blank.access }

@[simp] theorem Outside.work_update (s : State) x0 x1 x2 x3 x4 x5 x6 x7 x8 x9 x10 x11 x12 x13 x14 x15 x16 x17 x18
    x19 x20 x21 x22 x23 x24 x25 x26 x27 x28 x29 x30 x31 x32 :
    Outside.work { s with
      compose := x0, dram := x1, leap := x2, shade := x3, headroom := x4, safeBeam := x5, warp := x6, drive := x7
      pixels := x8, journal := x9, toll := x10, host := x11, sinks := x12, nvm := x13, power := x14, manifest := x15
      dramRate := x16, faults := x17, dict := x18, dramCorrected := x19, aon := x20, hk := x21, almanac := x22
      fetch := x23, free := x24, link := x25, update := x26, caravan := x27, units := x28, safety := x29, scan := x30
      ceiling := x31, access := x32 } = Outside.work s := (rfl)

/-- The state outside all but variant, pending, nvm. -/
def Outside.poweredDown (s : State) : State :=
  { s with
    compose := blank.compose, dram := blank.dram, leap := blank.leap, shade := blank.shade
    headroom := blank.headroom, safeBeam := blank.safeBeam, warp := blank.warp, drive := blank.drive
    pixels := blank.pixels, journal := blank.journal, toll := blank.toll, host := blank.host, sinks := blank.sinks
    power := blank.power, sramCorrected := blank.sramCorrected, manifest := blank.manifest
    dramRate := blank.dramRate, faults := blank.faults, dict := blank.dict, dramCorrected := blank.dramCorrected
    aon := blank.aon, hk := blank.hk, almanac := blank.almanac, fetch := blank.fetch, free := blank.free
    checker := blank.checker, link := blank.link, update := blank.update, caravan := blank.caravan
    units := blank.units, safety := blank.safety, scan := blank.scan, ceiling := blank.ceiling
    access := blank.access }

@[simp] theorem Outside.poweredDown_update (s : State) x0 x1 x2 x3 x4 x5 x6 x7 x8 x9 x10 x11 x12 x13 x14 x15 x16
    x17 x18 x19 x20 x21 x22 x23 x24 x25 x26 x27 x28 x29 x30 x31 x32 x33 :
    Outside.poweredDown { s with
      compose := x0, dram := x1, leap := x2, shade := x3, headroom := x4, safeBeam := x5, warp := x6, drive := x7
      pixels := x8, journal := x9, toll := x10, host := x11, sinks := x12, power := x13, sramCorrected := x14
      manifest := x15, dramRate := x16, faults := x17, dict := x18, dramCorrected := x19, aon := x20, hk := x21
      almanac := x22, fetch := x23, free := x24, checker := x25, link := x26, update := x27, caravan := x28
      units := x29, safety := x30, scan := x31, ceiling := x32, access := x33 } = Outside.poweredDown s := (rfl)

/-- The state outside all but variant, pending, free. -/
def Outside.queueFree (s : State) : State :=
  { s with
    compose := blank.compose, dram := blank.dram, leap := blank.leap, shade := blank.shade
    headroom := blank.headroom, safeBeam := blank.safeBeam, warp := blank.warp, drive := blank.drive
    pixels := blank.pixels, journal := blank.journal, toll := blank.toll, host := blank.host, sinks := blank.sinks
    nvm := blank.nvm, power := blank.power, sramCorrected := blank.sramCorrected, manifest := blank.manifest
    dramRate := blank.dramRate, faults := blank.faults, dict := blank.dict, dramCorrected := blank.dramCorrected
    aon := blank.aon, hk := blank.hk, almanac := blank.almanac, fetch := blank.fetch, checker := blank.checker
    link := blank.link, update := blank.update, caravan := blank.caravan, units := blank.units
    safety := blank.safety, scan := blank.scan, ceiling := blank.ceiling, access := blank.access }

@[simp] theorem Outside.queueFree_update (s : State) x0 x1 x2 x3 x4 x5 x6 x7 x8 x9 x10 x11 x12 x13 x14 x15 x16 x17
    x18 x19 x20 x21 x22 x23 x24 x25 x26 x27 x28 x29 x30 x31 x32 x33 :
    Outside.queueFree { s with
      compose := x0, dram := x1, leap := x2, shade := x3, headroom := x4, safeBeam := x5, warp := x6, drive := x7
      pixels := x8, journal := x9, toll := x10, host := x11, sinks := x12, nvm := x13, power := x14
      sramCorrected := x15, manifest := x16, dramRate := x17, faults := x18, dict := x19, dramCorrected := x20
      aon := x21, hk := x22, almanac := x23, fetch := x24, checker := x25, link := x26, update := x27, caravan := x28
      units := x29, safety := x30, scan := x31, ceiling := x32, access := x33 } = Outside.queueFree s := (rfl)

/-- The state outside all but variant, pending. -/
def Outside.queue (s : State) : State :=
  { s with
    compose := blank.compose, dram := blank.dram, leap := blank.leap, shade := blank.shade
    headroom := blank.headroom, safeBeam := blank.safeBeam, warp := blank.warp, drive := blank.drive
    pixels := blank.pixels, journal := blank.journal, toll := blank.toll, host := blank.host, sinks := blank.sinks
    nvm := blank.nvm, power := blank.power, sramCorrected := blank.sramCorrected, manifest := blank.manifest
    dramRate := blank.dramRate, faults := blank.faults, dict := blank.dict, dramCorrected := blank.dramCorrected
    aon := blank.aon, hk := blank.hk, almanac := blank.almanac, fetch := blank.fetch, free := blank.free
    checker := blank.checker, link := blank.link, update := blank.update, caravan := blank.caravan
    units := blank.units, safety := blank.safety, scan := blank.scan, ceiling := blank.ceiling
    access := blank.access }

@[simp] theorem Outside.queue_update (s : State) x0 x1 x2 x3 x4 x5 x6 x7 x8 x9 x10 x11 x12 x13 x14 x15 x16 x17 x18
    x19 x20 x21 x22 x23 x24 x25 x26 x27 x28 x29 x30 x31 x32 x33 x34 :
    Outside.queue { s with
      compose := x0, dram := x1, leap := x2, shade := x3, headroom := x4, safeBeam := x5, warp := x6, drive := x7
      pixels := x8, journal := x9, toll := x10, host := x11, sinks := x12, nvm := x13, power := x14
      sramCorrected := x15, manifest := x16, dramRate := x17, faults := x18, dict := x19, dramCorrected := x20
      aon := x21, hk := x22, almanac := x23, fetch := x24, free := x25, checker := x26, link := x27, update := x28
      caravan := x29, units := x30, safety := x31, scan := x32, ceiling := x33, access := x34 } = Outside.queue s := (rfl)

theorem Outside.accessCaravanFreeHostJournal_of_access {x y : State} (e : Outside.access x = Outside.access y) :
    Outside.accessCaravanFreeHostJournal x = Outside.accessCaravanFreeHostJournal y := lift (d := Outside.access)
        (fun _ => rfl) e

theorem Outside.accessHost_of_access {x y : State} (e : Outside.access x = Outside.access y) :
    Outside.accessHost x = Outside.accessHost y := lift (d := Outside.access) (fun _ => rfl) e

theorem Outside.entries_of_access {x y : State} (e : Outside.access x = Outside.access y) :
    Outside.entries x = Outside.entries y := lift (d := Outside.access) (fun _ => rfl) e

theorem Outside.queue_of_access {x y : State} (e : Outside.access x = Outside.access y) :
    Outside.queue x = Outside.queue y := lift (d := Outside.access) (fun _ => rfl) e

theorem Outside.queue_of_accessCaravanFreeHostJournal {x y : State} (e : Outside.accessCaravanFreeHostJournal x =
    Outside.accessCaravanFreeHostJournal y) :
    Outside.queue x = Outside.queue y := lift (d := Outside.accessCaravanFreeHostJournal) (fun _ => rfl) e

theorem Outside.entries2_of_almanac {x y : State} (e : Outside.almanac x = Outside.almanac y) :
    Outside.entries2 x = Outside.entries2 y := lift (d := Outside.almanac) (fun _ => rfl) e

theorem Outside.queue_of_almanac {x y : State} (e : Outside.almanac x = Outside.almanac y) :
    Outside.queue x = Outside.queue y := lift (d := Outside.almanac) (fun _ => rfl) e

theorem Outside.aonHkPowerSinksUnits_of_aon {x y : State} (e : Outside.aon x = Outside.aon y) :
    Outside.aonHkPowerSinksUnits x = Outside.aonHkPowerSinksUnits y := lift (d := Outside.aon) (fun _ => rfl) e

theorem Outside.queue_of_aon {x y : State} (e : Outside.aon x = Outside.aon y) :
    Outside.queue x = Outside.queue y := lift (d := Outside.aon) (fun _ => rfl) e

theorem Outside.records_of_aon {x y : State} (e : Outside.aon x = Outside.aon y) :
    Outside.records x = Outside.records y := lift (d := Outside.aon) (fun _ => rfl) e

theorem Outside.recordsPowerSafety_of_aon {x y : State} (e : Outside.aon x = Outside.aon y) :
    Outside.recordsPowerSafety x = Outside.recordsPowerSafety y := lift (d := Outside.aon) (fun _ => rfl) e

theorem Outside.recordsSinks_of_aon {x y : State} (e : Outside.aon x = Outside.aon y) :
    Outside.recordsSinks x = Outside.recordsSinks y := lift (d := Outside.aon) (fun _ => rfl) e

theorem Outside.service_of_aon {x y : State} (e : Outside.aon x = Outside.aon y) :
    Outside.service x = Outside.service y := lift (d := Outside.aon) (fun _ => rfl) e

theorem Outside.work_of_aon {x y : State} (e : Outside.aon x = Outside.aon y) :
    Outside.work x = Outside.work y := lift (d := Outside.aon) (fun _ => rfl) e

theorem Outside.aonCaravanFaultsFreeHostJournalNvm_of_aonCaravanFaultsFreeHost {x y : State} (e :
    Outside.aonCaravanFaultsFreeHost x = Outside.aonCaravanFaultsFreeHost y) :
    Outside.aonCaravanFaultsFreeHostJournalNvm x = Outside.aonCaravanFaultsFreeHostJournalNvm y := lift (d :=
        Outside.aonCaravanFaultsFreeHost) (fun _ => rfl) e

theorem Outside.aonCaravanFaultsFreeHostUnits_of_aonCaravanFaultsFreeHost {x y : State} (e :
    Outside.aonCaravanFaultsFreeHost x = Outside.aonCaravanFaultsFreeHost y) :
    Outside.aonCaravanFaultsFreeHostUnits x = Outside.aonCaravanFaultsFreeHostUnits y := lift (d :=
        Outside.aonCaravanFaultsFreeHost) (fun _ => rfl) e

theorem Outside.entry_of_aonCaravanFaultsFreeHost {x y : State} (e : Outside.aonCaravanFaultsFreeHost x =
    Outside.aonCaravanFaultsFreeHost y) :
    Outside.entry x = Outside.entry y := lift (d := Outside.aonCaravanFaultsFreeHost) (fun _ => rfl) e

theorem Outside.entryComposeManifestUnits_of_aonCaravanFaultsFreeHost {x y : State} (e :
    Outside.aonCaravanFaultsFreeHost x = Outside.aonCaravanFaultsFreeHost y) :
    Outside.entryComposeManifestUnits x = Outside.entryComposeManifestUnits y := lift (d :=
        Outside.aonCaravanFaultsFreeHost) (fun _ => rfl) e

theorem Outside.entrySafetyUnits_of_aonCaravanFaultsFreeHost {x y : State} (e : Outside.aonCaravanFaultsFreeHost x
    = Outside.aonCaravanFaultsFreeHost y) :
    Outside.entrySafetyUnits x = Outside.entrySafetyUnits y := lift (d := Outside.aonCaravanFaultsFreeHost) (fun _
        => rfl) e

theorem Outside.entryUnits_of_aonCaravanFaultsFreeHost {x y : State} (e : Outside.aonCaravanFaultsFreeHost x =
    Outside.aonCaravanFaultsFreeHost y) :
    Outside.entryUnits x = Outside.entryUnits y := lift (d := Outside.aonCaravanFaultsFreeHost) (fun _ => rfl) e

theorem Outside.queue_of_aonCaravanFaultsFreeHost {x y : State} (e : Outside.aonCaravanFaultsFreeHost x =
    Outside.aonCaravanFaultsFreeHost y) :
    Outside.queue x = Outside.queue y := lift (d := Outside.aonCaravanFaultsFreeHost) (fun _ => rfl) e

theorem Outside.entry_of_aonCaravanFaultsFreeHostJournalNvm {x y : State} (e :
    Outside.aonCaravanFaultsFreeHostJournalNvm x = Outside.aonCaravanFaultsFreeHostJournalNvm y) :
    Outside.entry x = Outside.entry y := lift (d := Outside.aonCaravanFaultsFreeHostJournalNvm) (fun _ => rfl) e

theorem Outside.aonCaravanFaultsFreeHost_of_aonFaultsFree {x y : State} (e : Outside.aonFaultsFree x =
    Outside.aonFaultsFree y) :
    Outside.aonCaravanFaultsFreeHost x = Outside.aonCaravanFaultsFreeHost y := lift (d := Outside.aonFaultsFree)
        (fun _ => rfl) e

theorem Outside.aonCaravanFaultsFreeHost_of_aonFree {x y : State} (e : Outside.aonFree x = Outside.aonFree y) :
    Outside.aonCaravanFaultsFreeHost x = Outside.aonCaravanFaultsFreeHost y := lift (d := Outside.aonFree) (fun _
        => rfl) e

theorem Outside.aonCaravanFaultsFreeHostJournalNvm_of_aonFree {x y : State} (e : Outside.aonFree x =
    Outside.aonFree y) :
    Outside.aonCaravanFaultsFreeHostJournalNvm x = Outside.aonCaravanFaultsFreeHostJournalNvm y := lift (d :=
        Outside.aonFree) (fun _ => rfl) e

theorem Outside.aonFaultsFree_of_aonFree {x y : State} (e : Outside.aonFree x = Outside.aonFree y) :
    Outside.aonFaultsFree x = Outside.aonFaultsFree y := lift (d := Outside.aonFree) (fun _ => rfl) e

theorem Outside.aonFreeScan_of_aonFree {x y : State} (e : Outside.aonFree x = Outside.aonFree y) :
    Outside.aonFreeScan x = Outside.aonFreeScan y := lift (d := Outside.aonFree) (fun _ => rfl) e

theorem Outside.entry_of_aonFree {x y : State} (e : Outside.aonFree x = Outside.aonFree y) :
    Outside.entry x = Outside.entry y := lift (d := Outside.aonFree) (fun _ => rfl) e

theorem Outside.entryUnits_of_aonFree {x y : State} (e : Outside.aonFree x = Outside.aonFree y) :
    Outside.entryUnits x = Outside.entryUnits y := lift (d := Outside.aonFree) (fun _ => rfl) e

theorem Outside.queue_of_aonFree {x y : State} (e : Outside.aonFree x = Outside.aonFree y) :
    Outside.queue x = Outside.queue y := lift (d := Outside.aonFree) (fun _ => rfl) e

theorem Outside.records_of_aonFree {x y : State} (e : Outside.aonFree x = Outside.aonFree y) :
    Outside.records x = Outside.records y := lift (d := Outside.aonFree) (fun _ => rfl) e

theorem Outside.work_of_aonFree {x y : State} (e : Outside.aonFree x = Outside.aonFree y) :
    Outside.work x = Outside.work y := lift (d := Outside.aonFree) (fun _ => rfl) e

theorem Outside.entryScan_of_aonFreeScan {x y : State} (e : Outside.aonFreeScan x = Outside.aonFreeScan y) :
    Outside.entryScan x = Outside.entryScan y := lift (d := Outside.aonFreeScan) (fun _ => rfl) e

theorem Outside.queue_of_aonHkPowerSinksUnits {x y : State} (e : Outside.aonHkPowerSinksUnits x =
    Outside.aonHkPowerSinksUnits y) :
    Outside.queue x = Outside.queue y := lift (d := Outside.aonHkPowerSinksUnits) (fun _ => rfl) e

theorem Outside.aonCaravanFaultsFreeHostJournalNvm_of_aonJournalNvm {x y : State} (e : Outside.aonJournalNvm x =
    Outside.aonJournalNvm y) :
    Outside.aonCaravanFaultsFreeHostJournalNvm x = Outside.aonCaravanFaultsFreeHostJournalNvm y := lift (d :=
        Outside.aonJournalNvm) (fun _ => rfl) e

theorem Outside.entryCeilingSafetyUnitsUpdate_of_aonJournalNvm {x y : State} (e : Outside.aonJournalNvm x =
    Outside.aonJournalNvm y) :
    Outside.entryCeilingSafetyUnitsUpdate x = Outside.entryCeilingSafetyUnitsUpdate y := lift (d :=
        Outside.aonJournalNvm) (fun _ => rfl) e

theorem Outside.aonCaravanFaultsFreeHost_of_caravan {x y : State} (e : Outside.caravan x = Outside.caravan y) :
    Outside.aonCaravanFaultsFreeHost x = Outside.aonCaravanFaultsFreeHost y := lift (d := Outside.caravan) (fun _
        => rfl) e

theorem Outside.caravanFaults_of_caravan {x y : State} (e : Outside.caravan x = Outside.caravan y) :
    Outside.caravanFaults x = Outside.caravanFaults y := lift (d := Outside.caravan) (fun _ => rfl) e

theorem Outside.caravanUpdate_of_caravan {x y : State} (e : Outside.caravan x = Outside.caravan y) :
    Outside.caravanUpdate x = Outside.caravanUpdate y := lift (d := Outside.caravan) (fun _ => rfl) e

theorem Outside.entry_of_caravan {x y : State} (e : Outside.caravan x = Outside.caravan y) :
    Outside.entry x = Outside.entry y := lift (d := Outside.caravan) (fun _ => rfl) e

theorem Outside.entryScan_of_caravan {x y : State} (e : Outside.caravan x = Outside.caravan y) :
    Outside.entryScan x = Outside.entryScan y := lift (d := Outside.caravan) (fun _ => rfl) e

theorem Outside.queue_of_caravan {x y : State} (e : Outside.caravan x = Outside.caravan y) :
    Outside.queue x = Outside.queue y := lift (d := Outside.caravan) (fun _ => rfl) e

theorem Outside.entryScan_of_caravanFaults {x y : State} (e : Outside.caravanFaults x = Outside.caravanFaults y) :
    Outside.entryScan x = Outside.entryScan y := lift (d := Outside.caravanFaults) (fun _ => rfl) e

theorem Outside.accessCaravanFreeHostJournal_of_caravanHostJournal {x y : State} (e : Outside.caravanHostJournal x
    = Outside.caravanHostJournal y) :
    Outside.accessCaravanFreeHostJournal x = Outside.accessCaravanFreeHostJournal y := lift (d :=
        Outside.caravanHostJournal) (fun _ => rfl) e

theorem Outside.caravanHostJournalNvm_of_caravanHostJournal {x y : State} (e : Outside.caravanHostJournal x =
    Outside.caravanHostJournal y) :
    Outside.caravanHostJournalNvm x = Outside.caravanHostJournalNvm y := lift (d := Outside.caravanHostJournal)
        (fun _ => rfl) e

theorem Outside.caravanHostJournalSinks_of_caravanHostJournal {x y : State} (e : Outside.caravanHostJournal x =
    Outside.caravanHostJournal y) :
    Outside.caravanHostJournalSinks x = Outside.caravanHostJournalSinks y := lift (d :=
        Outside.caravanHostJournal) (fun _ => rfl) e

theorem Outside.entry_of_caravanHostJournal {x y : State} (e : Outside.caravanHostJournal x =
    Outside.caravanHostJournal y) :
    Outside.entry x = Outside.entry y := lift (d := Outside.caravanHostJournal) (fun _ => rfl) e

theorem Outside.entryManifestScanShade_of_caravanHostJournal {x y : State} (e : Outside.caravanHostJournal x =
    Outside.caravanHostJournal y) :
    Outside.entryManifestScanShade x = Outside.entryManifestScanShade y := lift (d := Outside.caravanHostJournal)
        (fun _ => rfl) e

theorem Outside.queue_of_caravanHostJournal {x y : State} (e : Outside.caravanHostJournal x =
    Outside.caravanHostJournal y) :
    Outside.queue x = Outside.queue y := lift (d := Outside.caravanHostJournal) (fun _ => rfl) e

theorem Outside.recordsCaravanHostJournal_of_caravanHostJournal {x y : State} (e : Outside.caravanHostJournal x =
    Outside.caravanHostJournal y) :
    Outside.recordsCaravanHostJournal x = Outside.recordsCaravanHostJournal y := lift (d :=
        Outside.caravanHostJournal) (fun _ => rfl) e

theorem Outside.caravanDictHostJournalNvm_of_caravanHostJournalNvm {x y : State} (e :
    Outside.caravanHostJournalNvm x = Outside.caravanHostJournalNvm y) :
    Outside.caravanDictHostJournalNvm x = Outside.caravanDictHostJournalNvm y := lift (d :=
        Outside.caravanHostJournalNvm) (fun _ => rfl) e

theorem Outside.entries_of_caravanHostJournalNvm {x y : State} (e : Outside.caravanHostJournalNvm x =
    Outside.caravanHostJournalNvm y) :
    Outside.entries x = Outside.entries y := lift (d := Outside.caravanHostJournalNvm) (fun _ => rfl) e

theorem Outside.queue_of_caravanHostJournalNvm {x y : State} (e : Outside.caravanHostJournalNvm x =
    Outside.caravanHostJournalNvm y) :
    Outside.queue x = Outside.queue y := lift (d := Outside.caravanHostJournalNvm) (fun _ => rfl) e

theorem Outside.queue_of_caravanNvmUpdate {x y : State} (e : Outside.caravanNvmUpdate x = Outside.caravanNvmUpdate
    y) :
    Outside.queue x = Outside.queue y := lift (d := Outside.caravanNvmUpdate) (fun _ => rfl) e

theorem Outside.caravanNvmUpdate_of_caravanUpdate {x y : State} (e : Outside.caravanUpdate x =
    Outside.caravanUpdate y) :
    Outside.caravanNvmUpdate x = Outside.caravanNvmUpdate y := lift (d := Outside.caravanUpdate) (fun _ => rfl) e

theorem Outside.queue_of_caravanUpdate {x y : State} (e : Outside.caravanUpdate x = Outside.caravanUpdate y) :
    Outside.queue x = Outside.queue y := lift (d := Outside.caravanUpdate) (fun _ => rfl) e

theorem Outside.line_of_ceiling {x y : State} (e : Outside.ceiling x = Outside.ceiling y) :
    Outside.line x = Outside.line y := lift (d := Outside.ceiling) (fun _ => rfl) e

theorem Outside.entryCeilingSafetyUnitsUpdate_of_ceilingSafety {x y : State} (e : Outside.ceilingSafety x =
    Outside.ceilingSafety y) :
    Outside.entryCeilingSafetyUnitsUpdate x = Outside.entryCeilingSafetyUnitsUpdate y := lift (d :=
        Outside.ceilingSafety) (fun _ => rfl) e

theorem Outside.queue_of_ceilingSafety {x y : State} (e : Outside.ceilingSafety x = Outside.ceilingSafety y) :
    Outside.queue x = Outside.queue y := lift (d := Outside.ceilingSafety) (fun _ => rfl) e

theorem Outside.composeDriveFetch_of_compose {x y : State} (e : Outside.compose x = Outside.compose y) :
    Outside.composeDriveFetch x = Outside.composeDriveFetch y := lift (d := Outside.compose) (fun _ => rfl) e

theorem Outside.composeDriveFetchShadeToll_of_compose {x y : State} (e : Outside.compose x = Outside.compose y) :
    Outside.composeDriveFetchShadeToll x = Outside.composeDriveFetchShadeToll y := lift (d := Outside.compose)
        (fun _ => rfl) e

theorem Outside.composeDriveFetchToll_of_compose {x y : State} (e : Outside.compose x = Outside.compose y) :
    Outside.composeDriveFetchToll x = Outside.composeDriveFetchToll y := lift (d := Outside.compose) (fun _ => rfl) e

theorem Outside.composeFetch_of_compose {x y : State} (e : Outside.compose x = Outside.compose y) :
    Outside.composeFetch x = Outside.composeFetch y := lift (d := Outside.compose) (fun _ => rfl) e

theorem Outside.composeHeadroom_of_compose {x y : State} (e : Outside.compose x = Outside.compose y) :
    Outside.composeHeadroom x = Outside.composeHeadroom y := lift (d := Outside.compose) (fun _ => rfl) e

theorem Outside.entryCompose_of_compose {x y : State} (e : Outside.compose x = Outside.compose y) :
    Outside.entryCompose x = Outside.entryCompose y := lift (d := Outside.compose) (fun _ => rfl) e

theorem Outside.entryComposeDrive_of_compose {x y : State} (e : Outside.compose x = Outside.compose y) :
    Outside.entryComposeDrive x = Outside.entryComposeDrive y := lift (d := Outside.compose) (fun _ => rfl) e

theorem Outside.entryComposeManifestUnits_of_compose {x y : State} (e : Outside.compose x = Outside.compose y) :
    Outside.entryComposeManifestUnits x = Outside.entryComposeManifestUnits y := lift (d := Outside.compose) (fun
        _ => rfl) e

theorem Outside.line_of_compose {x y : State} (e : Outside.compose x = Outside.compose y) :
    Outside.line x = Outside.line y := lift (d := Outside.compose) (fun _ => rfl) e

theorem Outside.line2_of_compose {x y : State} (e : Outside.compose x = Outside.compose y) :
    Outside.line2 x = Outside.line2 y := lift (d := Outside.compose) (fun _ => rfl) e

theorem Outside.line3_of_compose {x y : State} (e : Outside.compose x = Outside.compose y) :
    Outside.line3 x = Outside.line3 y := lift (d := Outside.compose) (fun _ => rfl) e

theorem Outside.powerUp_of_compose {x y : State} (e : Outside.compose x = Outside.compose y) :
    Outside.powerUp x = Outside.powerUp y := lift (d := Outside.compose) (fun _ => rfl) e

theorem Outside.queue_of_compose {x y : State} (e : Outside.compose x = Outside.compose y) :
    Outside.queue x = Outside.queue y := lift (d := Outside.compose) (fun _ => rfl) e

theorem Outside.service_of_compose {x y : State} (e : Outside.compose x = Outside.compose y) :
    Outside.service x = Outside.service y := lift (d := Outside.compose) (fun _ => rfl) e

theorem Outside.entryComposeDriveFetch_of_composeDriveFetch {x y : State} (e : Outside.composeDriveFetch x =
    Outside.composeDriveFetch y) :
    Outside.entryComposeDriveFetch x = Outside.entryComposeDriveFetch y := lift (d := Outside.composeDriveFetch)
        (fun _ => rfl) e

theorem Outside.line_of_composeDriveFetch {x y : State} (e : Outside.composeDriveFetch x =
    Outside.composeDriveFetch y) :
    Outside.line x = Outside.line y := lift (d := Outside.composeDriveFetch) (fun _ => rfl) e

theorem Outside.service_of_composeDriveFetch {x y : State} (e : Outside.composeDriveFetch x =
    Outside.composeDriveFetch y) :
    Outside.service x = Outside.service y := lift (d := Outside.composeDriveFetch) (fun _ => rfl) e

theorem Outside.line2_of_composeDriveFetchShadeToll {x y : State} (e : Outside.composeDriveFetchShadeToll x =
    Outside.composeDriveFetchShadeToll y) :
    Outside.line2 x = Outside.line2 y := lift (d := Outside.composeDriveFetchShadeToll) (fun _ => rfl) e

theorem Outside.line3_of_composeDriveFetchShadeToll {x y : State} (e : Outside.composeDriveFetchShadeToll x =
    Outside.composeDriveFetchShadeToll y) :
    Outside.line3 x = Outside.line3 y := lift (d := Outside.composeDriveFetchShadeToll) (fun _ => rfl) e

theorem Outside.composeDriveFetchShadeToll_of_composeFetch {x y : State} (e : Outside.composeFetch x =
    Outside.composeFetch y) :
    Outside.composeDriveFetchShadeToll x = Outside.composeDriveFetchShadeToll y := lift (d :=
        Outside.composeFetch) (fun _ => rfl) e

theorem Outside.line_of_composeFetch {x y : State} (e : Outside.composeFetch x = Outside.composeFetch y) :
    Outside.line x = Outside.line y := lift (d := Outside.composeFetch) (fun _ => rfl) e

theorem Outside.line3_of_composeFetch {x y : State} (e : Outside.composeFetch x = Outside.composeFetch y) :
    Outside.line3 x = Outside.line3 y := lift (d := Outside.composeFetch) (fun _ => rfl) e

theorem Outside.line2_of_composeHeadroom {x y : State} (e : Outside.composeHeadroom x = Outside.composeHeadroom y) :
    Outside.line2 x = Outside.line2 y := lift (d := Outside.composeHeadroom) (fun _ => rfl) e

theorem Outside.line3_of_composeHeadroom {x y : State} (e : Outside.composeHeadroom x = Outside.composeHeadroom y) :
    Outside.line3 x = Outside.line3 y := lift (d := Outside.composeHeadroom) (fun _ => rfl) e

theorem Outside.queue_of_composeHeadroom {x y : State} (e : Outside.composeHeadroom x = Outside.composeHeadroom y) :
    Outside.queue x = Outside.queue y := lift (d := Outside.composeHeadroom) (fun _ => rfl) e

theorem Outside.caravanDictHostJournalNvm_of_dict {x y : State} (e : Outside.dict x = Outside.dict y) :
    Outside.caravanDictHostJournalNvm x = Outside.caravanDictHostJournalNvm y := lift (d := Outside.dict) (fun _
        => rfl) e

theorem Outside.dictHost_of_dict {x y : State} (e : Outside.dict x = Outside.dict y) :
    Outside.dictHost x = Outside.dictHost y := lift (d := Outside.dict) (fun _ => rfl) e

theorem Outside.dictSinks_of_dict {x y : State} (e : Outside.dict x = Outside.dict y) :
    Outside.dictSinks x = Outside.dictSinks y := lift (d := Outside.dict) (fun _ => rfl) e

theorem Outside.dictUnits_of_dict {x y : State} (e : Outside.dict x = Outside.dict y) :
    Outside.dictUnits x = Outside.dictUnits y := lift (d := Outside.dict) (fun _ => rfl) e

theorem Outside.entryDict_of_dict {x y : State} (e : Outside.dict x = Outside.dict y) :
    Outside.entryDict x = Outside.entryDict y := lift (d := Outside.dict) (fun _ => rfl) e

theorem Outside.powerUp_of_dict {x y : State} (e : Outside.dict x = Outside.dict y) :
    Outside.powerUp x = Outside.powerUp y := lift (d := Outside.dict) (fun _ => rfl) e

theorem Outside.queue_of_dict {x y : State} (e : Outside.dict x = Outside.dict y) :
    Outside.queue x = Outside.queue y := lift (d := Outside.dict) (fun _ => rfl) e

theorem Outside.service_of_dict {x y : State} (e : Outside.dict x = Outside.dict y) :
    Outside.service x = Outside.service y := lift (d := Outside.dict) (fun _ => rfl) e

theorem Outside.recordsDictDramHost_of_dictHost {x y : State} (e : Outside.dictHost x = Outside.dictHost y) :
    Outside.recordsDictDramHost x = Outside.recordsDictDramHost y := lift (d := Outside.dictHost) (fun _ => rfl) e

theorem Outside.work_of_dictSinks {x y : State} (e : Outside.dictSinks x = Outside.dictSinks y) :
    Outside.work x = Outside.work y := lift (d := Outside.dictSinks) (fun _ => rfl) e

theorem Outside.work_of_dictUnits {x y : State} (e : Outside.dictUnits x = Outside.dictUnits y) :
    Outside.work x = Outside.work y := lift (d := Outside.dictUnits) (fun _ => rfl) e

theorem Outside.recordsDictDramHost_of_dramFreeHost {x y : State} (e : Outside.dramFreeHost x =
    Outside.dramFreeHost y) :
    Outside.recordsDictDramHost x = Outside.recordsDictDramHost y := lift (d := Outside.dramFreeHost) (fun _ => rfl) e

theorem Outside.composeDriveFetch_of_drive {x y : State} (e : Outside.drive x = Outside.drive y) :
    Outside.composeDriveFetch x = Outside.composeDriveFetch y := lift (d := Outside.drive) (fun _ => rfl) e

theorem Outside.composeDriveFetchShadeToll_of_drive {x y : State} (e : Outside.drive x = Outside.drive y) :
    Outside.composeDriveFetchShadeToll x = Outside.composeDriveFetchShadeToll y := lift (d := Outside.drive) (fun
        _ => rfl) e

theorem Outside.composeDriveFetchToll_of_drive {x y : State} (e : Outside.drive x = Outside.drive y) :
    Outside.composeDriveFetchToll x = Outside.composeDriveFetchToll y := lift (d := Outside.drive) (fun _ => rfl) e

theorem Outside.drivePixels_of_drive {x y : State} (e : Outside.drive x = Outside.drive y) :
    Outside.drivePixels x = Outside.drivePixels y := lift (d := Outside.drive) (fun _ => rfl) e

theorem Outside.entryComposeDrive_of_drive {x y : State} (e : Outside.drive x = Outside.drive y) :
    Outside.entryComposeDrive x = Outside.entryComposeDrive y := lift (d := Outside.drive) (fun _ => rfl) e

theorem Outside.entryDrivePixels_of_drive {x y : State} (e : Outside.drive x = Outside.drive y) :
    Outside.entryDrivePixels x = Outside.entryDrivePixels y := lift (d := Outside.drive) (fun _ => rfl) e

theorem Outside.line2_of_drive {x y : State} (e : Outside.drive x = Outside.drive y) :
    Outside.line2 x = Outside.line2 y := lift (d := Outside.drive) (fun _ => rfl) e

theorem Outside.line3_of_drive {x y : State} (e : Outside.drive x = Outside.drive y) :
    Outside.line3 x = Outside.line3 y := lift (d := Outside.drive) (fun _ => rfl) e

theorem Outside.queue_of_drive {x y : State} (e : Outside.drive x = Outside.drive y) :
    Outside.queue x = Outside.queue y := lift (d := Outside.drive) (fun _ => rfl) e

theorem Outside.work_of_drive {x y : State} (e : Outside.drive x = Outside.drive y) :
    Outside.work x = Outside.work y := lift (d := Outside.drive) (fun _ => rfl) e

theorem Outside.entryDrivePixels_of_drivePixels {x y : State} (e : Outside.drivePixels x = Outside.drivePixels y) :
    Outside.entryDrivePixels x = Outside.entryDrivePixels y := lift (d := Outside.drivePixels) (fun _ => rfl) e

theorem Outside.poweredDown_of_drivePixels {x y : State} (e : Outside.drivePixels x = Outside.drivePixels y) :
    Outside.poweredDown x = Outside.poweredDown y := lift (d := Outside.drivePixels) (fun _ => rfl) e

theorem Outside.queue_of_drivePixels {x y : State} (e : Outside.drivePixels x = Outside.drivePixels y) :
    Outside.queue x = Outside.queue y := lift (d := Outside.drivePixels) (fun _ => rfl) e

theorem Outside.service_of_drivePixels {x y : State} (e : Outside.drivePixels x = Outside.drivePixels y) :
    Outside.service x = Outside.service y := lift (d := Outside.drivePixels) (fun _ => rfl) e

theorem Outside.queue_of_entries {x y : State} (e : Outside.entries x = Outside.entries y) :
    Outside.queue x = Outside.queue y := lift (d := Outside.entries) (fun _ => rfl) e

theorem Outside.queue_of_entries2 {x y : State} (e : Outside.entries2 x = Outside.entries2 y) :
    Outside.queue x = Outside.queue y := lift (d := Outside.entries2) (fun _ => rfl) e

theorem Outside.entries2_of_entry {x y : State} (e : Outside.entry x = Outside.entry y) :
    Outside.entries2 x = Outside.entries2 y := lift (d := Outside.entry) (fun _ => rfl) e

theorem Outside.entryCeiling_of_entry {x y : State} (e : Outside.entry x = Outside.entry y) :
    Outside.entryCeiling x = Outside.entryCeiling y := lift (d := Outside.entry) (fun _ => rfl) e

theorem Outside.entryChecker_of_entry {x y : State} (e : Outside.entry x = Outside.entry y) :
    Outside.entryChecker x = Outside.entryChecker y := lift (d := Outside.entry) (fun _ => rfl) e

theorem Outside.entryCompose_of_entry {x y : State} (e : Outside.entry x = Outside.entry y) :
    Outside.entryCompose x = Outside.entryCompose y := lift (d := Outside.entry) (fun _ => rfl) e

theorem Outside.entryComposeDrive_of_entry {x y : State} (e : Outside.entry x = Outside.entry y) :
    Outside.entryComposeDrive x = Outside.entryComposeDrive y := lift (d := Outside.entry) (fun _ => rfl) e

theorem Outside.entryComposeManifestUnits_of_entry {x y : State} (e : Outside.entry x = Outside.entry y) :
    Outside.entryComposeManifestUnits x = Outside.entryComposeManifestUnits y := lift (d := Outside.entry) (fun _
        => rfl) e

theorem Outside.entryDict_of_entry {x y : State} (e : Outside.entry x = Outside.entry y) :
    Outside.entryDict x = Outside.entryDict y := lift (d := Outside.entry) (fun _ => rfl) e

theorem Outside.entryDramCorrectedDramRateSramCorrected_of_entry {x y : State} (e : Outside.entry x =
    Outside.entry y) :
    Outside.entryDramCorrectedDramRateSramCorrected x = Outside.entryDramCorrectedDramRateSramCorrected y := lift
        (d := Outside.entry) (fun _ => rfl) e

theorem Outside.entryDrivePixels_of_entry {x y : State} (e : Outside.entry x = Outside.entry y) :
    Outside.entryDrivePixels x = Outside.entryDrivePixels y := lift (d := Outside.entry) (fun _ => rfl) e

theorem Outside.entryFetch_of_entry {x y : State} (e : Outside.entry x = Outside.entry y) :
    Outside.entryFetch x = Outside.entryFetch y := lift (d := Outside.entry) (fun _ => rfl) e

theorem Outside.entryFetchUnits_of_entry {x y : State} (e : Outside.entry x = Outside.entry y) :
    Outside.entryFetchUnits x = Outside.entryFetchUnits y := lift (d := Outside.entry) (fun _ => rfl) e

theorem Outside.entryHeadroomHkPixelsToll_of_entry {x y : State} (e : Outside.entry x = Outside.entry y) :
    Outside.entryHeadroomHkPixelsToll x = Outside.entryHeadroomHkPixelsToll y := lift (d := Outside.entry) (fun _
        => rfl) e

theorem Outside.entryHk_of_entry {x y : State} (e : Outside.entry x = Outside.entry y) :
    Outside.entryHk x = Outside.entryHk y := lift (d := Outside.entry) (fun _ => rfl) e

theorem Outside.entryPixels_of_entry {x y : State} (e : Outside.entry x = Outside.entry y) :
    Outside.entryPixels x = Outside.entryPixels y := lift (d := Outside.entry) (fun _ => rfl) e

theorem Outside.entryPixelsToll_of_entry {x y : State} (e : Outside.entry x = Outside.entry y) :
    Outside.entryPixelsToll x = Outside.entryPixelsToll y := lift (d := Outside.entry) (fun _ => rfl) e

theorem Outside.entryPower_of_entry {x y : State} (e : Outside.entry x = Outside.entry y) :
    Outside.entryPower x = Outside.entryPower y := lift (d := Outside.entry) (fun _ => rfl) e

theorem Outside.entryPowerScan_of_entry {x y : State} (e : Outside.entry x = Outside.entry y) :
    Outside.entryPowerScan x = Outside.entryPowerScan y := lift (d := Outside.entry) (fun _ => rfl) e

theorem Outside.entrySafety_of_entry {x y : State} (e : Outside.entry x = Outside.entry y) :
    Outside.entrySafety x = Outside.entrySafety y := lift (d := Outside.entry) (fun _ => rfl) e

theorem Outside.entrySafetyUnits_of_entry {x y : State} (e : Outside.entry x = Outside.entry y) :
    Outside.entrySafetyUnits x = Outside.entrySafetyUnits y := lift (d := Outside.entry) (fun _ => rfl) e

theorem Outside.entryScan_of_entry {x y : State} (e : Outside.entry x = Outside.entry y) :
    Outside.entryScan x = Outside.entryScan y := lift (d := Outside.entry) (fun _ => rfl) e

theorem Outside.entryShade_of_entry {x y : State} (e : Outside.entry x = Outside.entry y) :
    Outside.entryShade x = Outside.entryShade y := lift (d := Outside.entry) (fun _ => rfl) e

theorem Outside.entrySinks_of_entry {x y : State} (e : Outside.entry x = Outside.entry y) :
    Outside.entrySinks x = Outside.entrySinks y := lift (d := Outside.entry) (fun _ => rfl) e

theorem Outside.entryToll_of_entry {x y : State} (e : Outside.entry x = Outside.entry y) :
    Outside.entryToll x = Outside.entryToll y := lift (d := Outside.entry) (fun _ => rfl) e

theorem Outside.entryUnits_of_entry {x y : State} (e : Outside.entry x = Outside.entry y) :
    Outside.entryUnits x = Outside.entryUnits y := lift (d := Outside.entry) (fun _ => rfl) e

theorem Outside.entryUpdate_of_entry {x y : State} (e : Outside.entry x = Outside.entry y) :
    Outside.entryUpdate x = Outside.entryUpdate y := lift (d := Outside.entry) (fun _ => rfl) e

theorem Outside.queue_of_entry {x y : State} (e : Outside.entry x = Outside.entry y) :
    Outside.queue x = Outside.queue y := lift (d := Outside.entry) (fun _ => rfl) e

theorem Outside.service_of_entry {x y : State} (e : Outside.entry x = Outside.entry y) :
    Outside.service x = Outside.service y := lift (d := Outside.entry) (fun _ => rfl) e

theorem Outside.line_of_entryCeiling {x y : State} (e : Outside.entryCeiling x = Outside.entryCeiling y) :
    Outside.line x = Outside.line y := lift (d := Outside.entryCeiling) (fun _ => rfl) e

theorem Outside.line2_of_entryCeiling {x y : State} (e : Outside.entryCeiling x = Outside.entryCeiling y) :
    Outside.line2 x = Outside.line2 y := lift (d := Outside.entryCeiling) (fun _ => rfl) e

theorem Outside.queue_of_entryComposeDrive {x y : State} (e : Outside.entryComposeDrive x =
    Outside.entryComposeDrive y) :
    Outside.queue x = Outside.queue y := lift (d := Outside.entryComposeDrive) (fun _ => rfl) e

theorem Outside.queue_of_entryComposeDriveFetch {x y : State} (e : Outside.entryComposeDriveFetch x =
    Outside.entryComposeDriveFetch y) :
    Outside.queue x = Outside.queue y := lift (d := Outside.entryComposeDriveFetch) (fun _ => rfl) e

theorem Outside.queue_of_entryComposeManifestUnits {x y : State} (e : Outside.entryComposeManifestUnits x =
    Outside.entryComposeManifestUnits y) :
    Outside.queue x = Outside.queue y := lift (d := Outside.entryComposeManifestUnits) (fun _ => rfl) e

theorem Outside.service_of_entryDict {x y : State} (e : Outside.entryDict x = Outside.entryDict y) :
    Outside.service x = Outside.service y := lift (d := Outside.entryDict) (fun _ => rfl) e

theorem Outside.entryComposeDriveFetch_of_entryFetch {x y : State} (e : Outside.entryFetch x = Outside.entryFetch y) :
    Outside.entryComposeDriveFetch x = Outside.entryComposeDriveFetch y := lift (d := Outside.entryFetch) (fun _
        => rfl) e

theorem Outside.line_of_entryFetch {x y : State} (e : Outside.entryFetch x = Outside.entryFetch y) :
    Outside.line x = Outside.line y := lift (d := Outside.entryFetch) (fun _ => rfl) e

theorem Outside.line3_of_entryFetch {x y : State} (e : Outside.entryFetch x = Outside.entryFetch y) :
    Outside.line3 x = Outside.line3 y := lift (d := Outside.entryFetch) (fun _ => rfl) e

theorem Outside.queue_of_entryFetchUnits {x y : State} (e : Outside.entryFetchUnits x = Outside.entryFetchUnits y) :
    Outside.queue x = Outside.queue y := lift (d := Outside.entryFetchUnits) (fun _ => rfl) e

theorem Outside.queue_of_entryHeadroomHkPixelsToll {x y : State} (e : Outside.entryHeadroomHkPixelsToll x =
    Outside.entryHeadroomHkPixelsToll y) :
    Outside.queue x = Outside.queue y := lift (d := Outside.entryHeadroomHkPixelsToll) (fun _ => rfl) e

theorem Outside.work_of_entryHeadroomHkPixelsToll {x y : State} (e : Outside.entryHeadroomHkPixelsToll x =
    Outside.entryHeadroomHkPixelsToll y) :
    Outside.work x = Outside.work y := lift (d := Outside.entryHeadroomHkPixelsToll) (fun _ => rfl) e

theorem Outside.queue_of_entryHk {x y : State} (e : Outside.entryHk x = Outside.entryHk y) :
    Outside.queue x = Outside.queue y := lift (d := Outside.entryHk) (fun _ => rfl) e

theorem Outside.slot_of_entryHk {x y : State} (e : Outside.entryHk x = Outside.entryHk y) :
    Outside.slot x = Outside.slot y := lift (d := Outside.entryHk) (fun _ => rfl) e

theorem Outside.work_of_entryHk {x y : State} (e : Outside.entryHk x = Outside.entryHk y) :
    Outside.work x = Outside.work y := lift (d := Outside.entryHk) (fun _ => rfl) e

theorem Outside.queue_of_entryManifestScanShade {x y : State} (e : Outside.entryManifestScanShade x =
    Outside.entryManifestScanShade y) :
    Outside.queue x = Outside.queue y := lift (d := Outside.entryManifestScanShade) (fun _ => rfl) e

theorem Outside.entryHeadroomHkPixelsToll_of_entryPixels {x y : State} (e : Outside.entryPixels x =
    Outside.entryPixels y) :
    Outside.entryHeadroomHkPixelsToll x = Outside.entryHeadroomHkPixelsToll y := lift (d := Outside.entryPixels)
        (fun _ => rfl) e

theorem Outside.queue_of_entryPixelsToll {x y : State} (e : Outside.entryPixelsToll x = Outside.entryPixelsToll y) :
    Outside.queue x = Outside.queue y := lift (d := Outside.entryPixelsToll) (fun _ => rfl) e

theorem Outside.entryManifestScanShade_of_entryScan {x y : State} (e : Outside.entryScan x = Outside.entryScan y) :
    Outside.entryManifestScanShade x = Outside.entryManifestScanShade y := lift (d := Outside.entryScan) (fun _ =>
        rfl) e

theorem Outside.queue_of_entryScan {x y : State} (e : Outside.entryScan x = Outside.entryScan y) :
    Outside.queue x = Outside.queue y := lift (d := Outside.entryScan) (fun _ => rfl) e

theorem Outside.line_of_entryShade {x y : State} (e : Outside.entryShade x = Outside.entryShade y) :
    Outside.line x = Outside.line y := lift (d := Outside.entryShade) (fun _ => rfl) e

theorem Outside.queue_of_entryUnits {x y : State} (e : Outside.entryUnits x = Outside.entryUnits y) :
    Outside.queue x = Outside.queue y := lift (d := Outside.entryUnits) (fun _ => rfl) e

theorem Outside.entryCeilingSafetyUnitsUpdate_of_entryUpdate {x y : State} (e : Outside.entryUpdate x =
    Outside.entryUpdate y) :
    Outside.entryCeilingSafetyUnitsUpdate x = Outside.entryCeilingSafetyUnitsUpdate y := lift (d :=
        Outside.entryUpdate) (fun _ => rfl) e

theorem Outside.queue_of_entryUpdate {x y : State} (e : Outside.entryUpdate x = Outside.entryUpdate y) :
    Outside.queue x = Outside.queue y := lift (d := Outside.entryUpdate) (fun _ => rfl) e

theorem Outside.aonCaravanFaultsFreeHost_of_faults {x y : State} (e : Outside.faults x = Outside.faults y) :
    Outside.aonCaravanFaultsFreeHost x = Outside.aonCaravanFaultsFreeHost y := lift (d := Outside.faults) (fun _
        => rfl) e

theorem Outside.caravanFaults_of_faults {x y : State} (e : Outside.faults x = Outside.faults y) :
    Outside.caravanFaults x = Outside.caravanFaults y := lift (d := Outside.faults) (fun _ => rfl) e

theorem Outside.entry_of_faults {x y : State} (e : Outside.faults x = Outside.faults y) :
    Outside.entry x = Outside.entry y := lift (d := Outside.faults) (fun _ => rfl) e

theorem Outside.entryChecker_of_faults {x y : State} (e : Outside.faults x = Outside.faults y) :
    Outside.entryChecker x = Outside.entryChecker y := lift (d := Outside.faults) (fun _ => rfl) e

theorem Outside.entryComposeDrive_of_faults {x y : State} (e : Outside.faults x = Outside.faults y) :
    Outside.entryComposeDrive x = Outside.entryComposeDrive y := lift (d := Outside.faults) (fun _ => rfl) e

theorem Outside.entryDramCorrectedDramRateSramCorrected_of_faults {x y : State} (e : Outside.faults x =
    Outside.faults y) :
    Outside.entryDramCorrectedDramRateSramCorrected x = Outside.entryDramCorrectedDramRateSramCorrected y := lift
        (d := Outside.faults) (fun _ => rfl) e

theorem Outside.entryFetchUnits_of_faults {x y : State} (e : Outside.faults x = Outside.faults y) :
    Outside.entryFetchUnits x = Outside.entryFetchUnits y := lift (d := Outside.faults) (fun _ => rfl) e

theorem Outside.entryHeadroomHkPixelsToll_of_faults {x y : State} (e : Outside.faults x = Outside.faults y) :
    Outside.entryHeadroomHkPixelsToll x = Outside.entryHeadroomHkPixelsToll y := lift (d := Outside.faults) (fun _
        => rfl) e

theorem Outside.entryHk_of_faults {x y : State} (e : Outside.faults x = Outside.faults y) :
    Outside.entryHk x = Outside.entryHk y := lift (d := Outside.faults) (fun _ => rfl) e

theorem Outside.entryScan_of_faults {x y : State} (e : Outside.faults x = Outside.faults y) :
    Outside.entryScan x = Outside.entryScan y := lift (d := Outside.faults) (fun _ => rfl) e

theorem Outside.faultsFetch_of_faults {x y : State} (e : Outside.faults x = Outside.faults y) :
    Outside.faultsFetch x = Outside.faultsFetch y := lift (d := Outside.faults) (fun _ => rfl) e

theorem Outside.faultsLink_of_faults {x y : State} (e : Outside.faults x = Outside.faults y) :
    Outside.faultsLink x = Outside.faultsLink y := lift (d := Outside.faults) (fun _ => rfl) e

theorem Outside.queue_of_faults {x y : State} (e : Outside.faults x = Outside.faults y) :
    Outside.queue x = Outside.queue y := lift (d := Outside.faults) (fun _ => rfl) e

theorem Outside.records_of_faults {x y : State} (e : Outside.faults x = Outside.faults y) :
    Outside.records x = Outside.records y := lift (d := Outside.faults) (fun _ => rfl) e

theorem Outside.recordsHostManifestScanShade_of_faults {x y : State} (e : Outside.faults x = Outside.faults y) :
    Outside.recordsHostManifestScanShade x = Outside.recordsHostManifestScanShade y := lift (d := Outside.faults)
        (fun _ => rfl) e

theorem Outside.recordsPowerSafety_of_faults {x y : State} (e : Outside.faults x = Outside.faults y) :
    Outside.recordsPowerSafety x = Outside.recordsPowerSafety y := lift (d := Outside.faults) (fun _ => rfl) e

theorem Outside.recordsSinks_of_faults {x y : State} (e : Outside.faults x = Outside.faults y) :
    Outside.recordsSinks x = Outside.recordsSinks y := lift (d := Outside.faults) (fun _ => rfl) e

theorem Outside.recordsToll_of_faults {x y : State} (e : Outside.faults x = Outside.faults y) :
    Outside.recordsToll x = Outside.recordsToll y := lift (d := Outside.faults) (fun _ => rfl) e

theorem Outside.aonCaravanFaultsFreeHost_of_faultsHost {x y : State} (e : Outside.faultsHost x =
    Outside.faultsHost y) :
    Outside.aonCaravanFaultsFreeHost x = Outside.aonCaravanFaultsFreeHost y := lift (d := Outside.faultsHost) (fun
        _ => rfl) e

theorem Outside.entry_of_faultsHost {x y : State} (e : Outside.faultsHost x = Outside.faultsHost y) :
    Outside.entry x = Outside.entry y := lift (d := Outside.faultsHost) (fun _ => rfl) e

theorem Outside.faultsFreeHost_of_faultsHost {x y : State} (e : Outside.faultsHost x = Outside.faultsHost y) :
    Outside.faultsFreeHost x = Outside.faultsFreeHost y := lift (d := Outside.faultsHost) (fun _ => rfl) e

theorem Outside.queue_of_faultsHost {x y : State} (e : Outside.faultsHost x = Outside.faultsHost y) :
    Outside.queue x = Outside.queue y := lift (d := Outside.faultsHost) (fun _ => rfl) e

theorem Outside.entry_of_faultsLink {x y : State} (e : Outside.faultsLink x = Outside.faultsLink y) :
    Outside.entry x = Outside.entry y := lift (d := Outside.faultsLink) (fun _ => rfl) e

theorem Outside.entryCeilingSafetyUnitsUpdate_of_faultsLink {x y : State} (e : Outside.faultsLink x =
    Outside.faultsLink y) :
    Outside.entryCeilingSafetyUnitsUpdate x = Outside.entryCeilingSafetyUnitsUpdate y := lift (d :=
        Outside.faultsLink) (fun _ => rfl) e

theorem Outside.entryChecker_of_faultsLink {x y : State} (e : Outside.faultsLink x = Outside.faultsLink y) :
    Outside.entryChecker x = Outside.entryChecker y := lift (d := Outside.faultsLink) (fun _ => rfl) e

theorem Outside.queue_of_faultsLink {x y : State} (e : Outside.faultsLink x = Outside.faultsLink y) :
    Outside.queue x = Outside.queue y := lift (d := Outside.faultsLink) (fun _ => rfl) e

theorem Outside.queueFree_of_faultsLink {x y : State} (e : Outside.faultsLink x = Outside.faultsLink y) :
    Outside.queueFree x = Outside.queueFree y := lift (d := Outside.faultsLink) (fun _ => rfl) e

theorem Outside.records_of_faultsLink {x y : State} (e : Outside.faultsLink x = Outside.faultsLink y) :
    Outside.records x = Outside.records y := lift (d := Outside.faultsLink) (fun _ => rfl) e

theorem Outside.work_of_faultsLink {x y : State} (e : Outside.faultsLink x = Outside.faultsLink y) :
    Outside.work x = Outside.work y := lift (d := Outside.faultsLink) (fun _ => rfl) e

theorem Outside.composeDriveFetch_of_fetch {x y : State} (e : Outside.fetch x = Outside.fetch y) :
    Outside.composeDriveFetch x = Outside.composeDriveFetch y := lift (d := Outside.fetch) (fun _ => rfl) e

theorem Outside.entryComposeDriveFetch_of_fetch {x y : State} (e : Outside.fetch x = Outside.fetch y) :
    Outside.entryComposeDriveFetch x = Outside.entryComposeDriveFetch y := lift (d := Outside.fetch) (fun _ => rfl) e

theorem Outside.entryFetch_of_fetch {x y : State} (e : Outside.fetch x = Outside.fetch y) :
    Outside.entryFetch x = Outside.entryFetch y := lift (d := Outside.fetch) (fun _ => rfl) e

theorem Outside.entryFetchUnits_of_fetch {x y : State} (e : Outside.fetch x = Outside.fetch y) :
    Outside.entryFetchUnits x = Outside.entryFetchUnits y := lift (d := Outside.fetch) (fun _ => rfl) e

theorem Outside.faultsFetch_of_fetch {x y : State} (e : Outside.fetch x = Outside.fetch y) :
    Outside.faultsFetch x = Outside.faultsFetch y := lift (d := Outside.fetch) (fun _ => rfl) e

theorem Outside.queue_of_fetch {x y : State} (e : Outside.fetch x = Outside.fetch y) :
    Outside.queue x = Outside.queue y := lift (d := Outside.fetch) (fun _ => rfl) e

theorem Outside.service_of_fetch {x y : State} (e : Outside.fetch x = Outside.fetch y) :
    Outside.service x = Outside.service y := lift (d := Outside.fetch) (fun _ => rfl) e

theorem Outside.entryHeadroomHkPixelsToll_of_free {x y : State} (e : Outside.free x = Outside.free y) :
    Outside.entryHeadroomHkPixelsToll x = Outside.entryHeadroomHkPixelsToll y := lift (d := Outside.free) (fun _
        => rfl) e

theorem Outside.faultsFreeHost_of_free {x y : State} (e : Outside.free x = Outside.free y) :
    Outside.faultsFreeHost x = Outside.faultsFreeHost y := lift (d := Outside.free) (fun _ => rfl) e

theorem Outside.freeHost_of_free {x y : State} (e : Outside.free x = Outside.free y) :
    Outside.freeHost x = Outside.freeHost y := lift (d := Outside.free) (fun _ => rfl) e

theorem Outside.freeSinks_of_free {x y : State} (e : Outside.free x = Outside.free y) :
    Outside.freeSinks x = Outside.freeSinks y := lift (d := Outside.free) (fun _ => rfl) e

theorem Outside.queue_of_free {x y : State} (e : Outside.free x = Outside.free y) :
    Outside.queue x = Outside.queue y := lift (d := Outside.free) (fun _ => rfl) e

theorem Outside.records_of_free {x y : State} (e : Outside.free x = Outside.free y) :
    Outside.records x = Outside.records y := lift (d := Outside.free) (fun _ => rfl) e

theorem Outside.work_of_free {x y : State} (e : Outside.free x = Outside.free y) :
    Outside.work x = Outside.work y := lift (d := Outside.free) (fun _ => rfl) e

theorem Outside.composeHeadroom_of_headroom {x y : State} (e : Outside.headroom x = Outside.headroom y) :
    Outside.composeHeadroom x = Outside.composeHeadroom y := lift (d := Outside.headroom) (fun _ => rfl) e

theorem Outside.headroomLink_of_headroom {x y : State} (e : Outside.headroom x = Outside.headroom y) :
    Outside.headroomLink x = Outside.headroomLink y := lift (d := Outside.headroom) (fun _ => rfl) e

theorem Outside.line3_of_headroomLink {x y : State} (e : Outside.headroomLink x = Outside.headroomLink y) :
    Outside.line3 x = Outside.line3 y := lift (d := Outside.headroomLink) (fun _ => rfl) e

theorem Outside.queue_of_headroomLink {x y : State} (e : Outside.headroomLink x = Outside.headroomLink y) :
    Outside.queue x = Outside.queue y := lift (d := Outside.headroomLink) (fun _ => rfl) e

theorem Outside.entries2_of_hk {x y : State} (e : Outside.hk x = Outside.hk y) :
    Outside.entries2 x = Outside.entries2 y := lift (d := Outside.hk) (fun _ => rfl) e

theorem Outside.entryHeadroomHkPixelsToll_of_hk {x y : State} (e : Outside.hk x = Outside.hk y) :
    Outside.entryHeadroomHkPixelsToll x = Outside.entryHeadroomHkPixelsToll y := lift (d := Outside.hk) (fun _ =>
        rfl) e

theorem Outside.entryHk_of_hk {x y : State} (e : Outside.hk x = Outside.hk y) :
    Outside.entryHk x = Outside.entryHk y := lift (d := Outside.hk) (fun _ => rfl) e

theorem Outside.queue_of_hk {x y : State} (e : Outside.hk x = Outside.hk y) :
    Outside.queue x = Outside.queue y := lift (d := Outside.hk) (fun _ => rfl) e

theorem Outside.slot_of_hk {x y : State} (e : Outside.hk x = Outside.hk y) :
    Outside.slot x = Outside.slot y := lift (d := Outside.hk) (fun _ => rfl) e

theorem Outside.work_of_hk {x y : State} (e : Outside.hk x = Outside.hk y) :
    Outside.work x = Outside.work y := lift (d := Outside.hk) (fun _ => rfl) e

theorem Outside.accessHost_of_host {x y : State} (e : Outside.host x = Outside.host y) :
    Outside.accessHost x = Outside.accessHost y := lift (d := Outside.host) (fun _ => rfl) e

theorem Outside.caravanHostJournal_of_host {x y : State} (e : Outside.host x = Outside.host y) :
    Outside.caravanHostJournal x = Outside.caravanHostJournal y := lift (d := Outside.host) (fun _ => rfl) e

theorem Outside.dictHost_of_host {x y : State} (e : Outside.host x = Outside.host y) :
    Outside.dictHost x = Outside.dictHost y := lift (d := Outside.host) (fun _ => rfl) e

theorem Outside.dramFreeHost_of_host {x y : State} (e : Outside.host x = Outside.host y) :
    Outside.dramFreeHost x = Outside.dramFreeHost y := lift (d := Outside.host) (fun _ => rfl) e

theorem Outside.entries2_of_host {x y : State} (e : Outside.host x = Outside.host y) :
    Outside.entries2 x = Outside.entries2 y := lift (d := Outside.host) (fun _ => rfl) e

theorem Outside.entry_of_host {x y : State} (e : Outside.host x = Outside.host y) :
    Outside.entry x = Outside.entry y := lift (d := Outside.host) (fun _ => rfl) e

theorem Outside.entryManifestScanShade_of_host {x y : State} (e : Outside.host x = Outside.host y) :
    Outside.entryManifestScanShade x = Outside.entryManifestScanShade y := lift (d := Outside.host) (fun _ => rfl) e

theorem Outside.faultsHost_of_host {x y : State} (e : Outside.host x = Outside.host y) :
    Outside.faultsHost x = Outside.faultsHost y := lift (d := Outside.host) (fun _ => rfl) e

theorem Outside.freeHost_of_host {x y : State} (e : Outside.host x = Outside.host y) :
    Outside.freeHost x = Outside.freeHost y := lift (d := Outside.host) (fun _ => rfl) e

theorem Outside.hostJournal_of_host {x y : State} (e : Outside.host x = Outside.host y) :
    Outside.hostJournal x = Outside.hostJournal y := lift (d := Outside.host) (fun _ => rfl) e

theorem Outside.queue_of_host {x y : State} (e : Outside.host x = Outside.host y) :
    Outside.queue x = Outside.queue y := lift (d := Outside.host) (fun _ => rfl) e

theorem Outside.recordsCaravanHostJournal_of_host {x y : State} (e : Outside.host x = Outside.host y) :
    Outside.recordsCaravanHostJournal x = Outside.recordsCaravanHostJournal y := lift (d := Outside.host) (fun _
        => rfl) e

theorem Outside.recordsDictDramHost_of_host {x y : State} (e : Outside.host x = Outside.host y) :
    Outside.recordsDictDramHost x = Outside.recordsDictDramHost y := lift (d := Outside.host) (fun _ => rfl) e

theorem Outside.recordsHost_of_host {x y : State} (e : Outside.host x = Outside.host y) :
    Outside.recordsHost x = Outside.recordsHost y := lift (d := Outside.host) (fun _ => rfl) e

theorem Outside.recordsHostManifestScanShade_of_host {x y : State} (e : Outside.host x = Outside.host y) :
    Outside.recordsHostManifestScanShade x = Outside.recordsHostManifestScanShade y := lift (d := Outside.host)
        (fun _ => rfl) e

theorem Outside.service_of_host {x y : State} (e : Outside.host x = Outside.host y) :
    Outside.service x = Outside.service y := lift (d := Outside.host) (fun _ => rfl) e

theorem Outside.caravanHostJournal_of_hostJournal {x y : State} (e : Outside.hostJournal x = Outside.hostJournal y) :
    Outside.caravanHostJournal x = Outside.caravanHostJournal y := lift (d := Outside.hostJournal) (fun _ => rfl) e

theorem Outside.queue_of_hostJournal {x y : State} (e : Outside.hostJournal x = Outside.hostJournal y) :
    Outside.queue x = Outside.queue y := lift (d := Outside.hostJournal) (fun _ => rfl) e

theorem Outside.entry_of_journal {x y : State} (e : Outside.journal x = Outside.journal y) :
    Outside.entry x = Outside.entry y := lift (d := Outside.journal) (fun _ => rfl) e

theorem Outside.hostJournal_of_journal {x y : State} (e : Outside.journal x = Outside.journal y) :
    Outside.hostJournal x = Outside.hostJournal y := lift (d := Outside.journal) (fun _ => rfl) e

theorem Outside.queue_of_journal {x y : State} (e : Outside.journal x = Outside.journal y) :
    Outside.queue x = Outside.queue y := lift (d := Outside.journal) (fun _ => rfl) e

theorem Outside.aonJournalNvm_of_journalNvm {x y : State} (e : Outside.journalNvm x = Outside.journalNvm y) :
    Outside.aonJournalNvm x = Outside.aonJournalNvm y := lift (d := Outside.journalNvm) (fun _ => rfl) e

theorem Outside.entry_of_journalNvm {x y : State} (e : Outside.journalNvm x = Outside.journalNvm y) :
    Outside.entry x = Outside.entry y := lift (d := Outside.journalNvm) (fun _ => rfl) e

theorem Outside.queue_of_journalNvm {x y : State} (e : Outside.journalNvm x = Outside.journalNvm y) :
    Outside.queue x = Outside.queue y := lift (d := Outside.journalNvm) (fun _ => rfl) e

theorem Outside.work_of_leap {x y : State} (e : Outside.leap x = Outside.leap y) :
    Outside.work x = Outside.work y := lift (d := Outside.leap) (fun _ => rfl) e

theorem Outside.line2_of_line {x y : State} (e : Outside.line x = Outside.line y) :
    Outside.line2 x = Outside.line2 y := lift (d := Outside.line) (fun _ => rfl) e

theorem Outside.queue_of_line {x y : State} (e : Outside.line x = Outside.line y) :
    Outside.queue x = Outside.queue y := lift (d := Outside.line) (fun _ => rfl) e

theorem Outside.queue_of_line2 {x y : State} (e : Outside.line2 x = Outside.line2 y) :
    Outside.queue x = Outside.queue y := lift (d := Outside.line2) (fun _ => rfl) e

theorem Outside.line2_of_line3 {x y : State} (e : Outside.line3 x = Outside.line3 y) :
    Outside.line2 x = Outside.line2 y := lift (d := Outside.line3) (fun _ => rfl) e

theorem Outside.service_of_line3 {x y : State} (e : Outside.line3 x = Outside.line3 y) :
    Outside.service x = Outside.service y := lift (d := Outside.line3) (fun _ => rfl) e

theorem Outside.entry_of_link {x y : State} (e : Outside.link x = Outside.link y) :
    Outside.entry x = Outside.entry y := lift (d := Outside.link) (fun _ => rfl) e

theorem Outside.entryDrivePixels_of_link {x y : State} (e : Outside.link x = Outside.link y) :
    Outside.entryDrivePixels x = Outside.entryDrivePixels y := lift (d := Outside.link) (fun _ => rfl) e

theorem Outside.entryHeadroomHkPixelsToll_of_link {x y : State} (e : Outside.link x = Outside.link y) :
    Outside.entryHeadroomHkPixelsToll x = Outside.entryHeadroomHkPixelsToll y := lift (d := Outside.link) (fun _
        => rfl) e

theorem Outside.entryHk_of_link {x y : State} (e : Outside.link x = Outside.link y) :
    Outside.entryHk x = Outside.entryHk y := lift (d := Outside.link) (fun _ => rfl) e

theorem Outside.entryPixels_of_link {x y : State} (e : Outside.link x = Outside.link y) :
    Outside.entryPixels x = Outside.entryPixels y := lift (d := Outside.link) (fun _ => rfl) e

theorem Outside.entryPixelsToll_of_link {x y : State} (e : Outside.link x = Outside.link y) :
    Outside.entryPixelsToll x = Outside.entryPixelsToll y := lift (d := Outside.link) (fun _ => rfl) e

theorem Outside.entryUnits_of_link {x y : State} (e : Outside.link x = Outside.link y) :
    Outside.entryUnits x = Outside.entryUnits y := lift (d := Outside.link) (fun _ => rfl) e

theorem Outside.faultsLink_of_link {x y : State} (e : Outside.link x = Outside.link y) :
    Outside.faultsLink x = Outside.faultsLink y := lift (d := Outside.link) (fun _ => rfl) e

theorem Outside.headroomLink_of_link {x y : State} (e : Outside.link x = Outside.link y) :
    Outside.headroomLink x = Outside.headroomLink y := lift (d := Outside.link) (fun _ => rfl) e

theorem Outside.line3_of_link {x y : State} (e : Outside.link x = Outside.link y) :
    Outside.line3 x = Outside.line3 y := lift (d := Outside.link) (fun _ => rfl) e

theorem Outside.linkPixels_of_link {x y : State} (e : Outside.link x = Outside.link y) :
    Outside.linkPixels x = Outside.linkPixels y := lift (d := Outside.link) (fun _ => rfl) e

theorem Outside.linkPixelsToll_of_link {x y : State} (e : Outside.link x = Outside.link y) :
    Outside.linkPixelsToll x = Outside.linkPixelsToll y := lift (d := Outside.link) (fun _ => rfl) e

theorem Outside.powerUp2_of_link {x y : State} (e : Outside.link x = Outside.link y) :
    Outside.powerUp2 x = Outside.powerUp2 y := lift (d := Outside.link) (fun _ => rfl) e

theorem Outside.queue_of_link {x y : State} (e : Outside.link x = Outside.link y) :
    Outside.queue x = Outside.queue y := lift (d := Outside.link) (fun _ => rfl) e

theorem Outside.records_of_link {x y : State} (e : Outside.link x = Outside.link y) :
    Outside.records x = Outside.records y := lift (d := Outside.link) (fun _ => rfl) e

theorem Outside.recordsNvmPixels_of_link {x y : State} (e : Outside.link x = Outside.link y) :
    Outside.recordsNvmPixels x = Outside.recordsNvmPixels y := lift (d := Outside.link) (fun _ => rfl) e

theorem Outside.entryPixelsToll_of_linkPixels {x y : State} (e : Outside.linkPixels x = Outside.linkPixels y) :
    Outside.entryPixelsToll x = Outside.entryPixelsToll y := lift (d := Outside.linkPixels) (fun _ => rfl) e

theorem Outside.poweredDown_of_linkPixels {x y : State} (e : Outside.linkPixels x = Outside.linkPixels y) :
    Outside.poweredDown x = Outside.poweredDown y := lift (d := Outside.linkPixels) (fun _ => rfl) e

theorem Outside.entryPixelsToll_of_linkPixelsToll {x y : State} (e : Outside.linkPixelsToll x =
    Outside.linkPixelsToll y) :
    Outside.entryPixelsToll x = Outside.entryPixelsToll y := lift (d := Outside.linkPixelsToll) (fun _ => rfl) e

theorem Outside.queue_of_linkPixelsToll {x y : State} (e : Outside.linkPixelsToll x = Outside.linkPixelsToll y) :
    Outside.queue x = Outside.queue y := lift (d := Outside.linkPixelsToll) (fun _ => rfl) e

theorem Outside.entries2_of_manifest {x y : State} (e : Outside.manifest x = Outside.manifest y) :
    Outside.entries2 x = Outside.entries2 y := lift (d := Outside.manifest) (fun _ => rfl) e

theorem Outside.entryComposeManifestUnits_of_manifest {x y : State} (e : Outside.manifest x = Outside.manifest y) :
    Outside.entryComposeManifestUnits x = Outside.entryComposeManifestUnits y := lift (d := Outside.manifest) (fun
        _ => rfl) e

theorem Outside.manifestUnits_of_manifest {x y : State} (e : Outside.manifest x = Outside.manifest y) :
    Outside.manifestUnits x = Outside.manifestUnits y := lift (d := Outside.manifest) (fun _ => rfl) e

theorem Outside.queue_of_manifest {x y : State} (e : Outside.manifest x = Outside.manifest y) :
    Outside.queue x = Outside.queue y := lift (d := Outside.manifest) (fun _ => rfl) e

theorem Outside.recordsHostManifestScanShade_of_manifest {x y : State} (e : Outside.manifest x = Outside.manifest y) :
    Outside.recordsHostManifestScanShade x = Outside.recordsHostManifestScanShade y := lift (d :=
        Outside.manifest) (fun _ => rfl) e

theorem Outside.service_of_manifest {x y : State} (e : Outside.manifest x = Outside.manifest y) :
    Outside.service x = Outside.service y := lift (d := Outside.manifest) (fun _ => rfl) e

theorem Outside.caravanDictHostJournalNvm_of_nvm {x y : State} (e : Outside.nvm x = Outside.nvm y) :
    Outside.caravanDictHostJournalNvm x = Outside.caravanDictHostJournalNvm y := lift (d := Outside.nvm) (fun _ =>
        rfl) e

theorem Outside.caravanHostJournalNvm_of_nvm {x y : State} (e : Outside.nvm x = Outside.nvm y) :
    Outside.caravanHostJournalNvm x = Outside.caravanHostJournalNvm y := lift (d := Outside.nvm) (fun _ => rfl) e

theorem Outside.caravanNvmUpdate_of_nvm {x y : State} (e : Outside.nvm x = Outside.nvm y) :
    Outside.caravanNvmUpdate x = Outside.caravanNvmUpdate y := lift (d := Outside.nvm) (fun _ => rfl) e

theorem Outside.entries_of_nvm {x y : State} (e : Outside.nvm x = Outside.nvm y) :
    Outside.entries x = Outside.entries y := lift (d := Outside.nvm) (fun _ => rfl) e

theorem Outside.entry_of_nvm {x y : State} (e : Outside.nvm x = Outside.nvm y) :
    Outside.entry x = Outside.entry y := lift (d := Outside.nvm) (fun _ => rfl) e

theorem Outside.entryPixels_of_nvm {x y : State} (e : Outside.nvm x = Outside.nvm y) :
    Outside.entryPixels x = Outside.entryPixels y := lift (d := Outside.nvm) (fun _ => rfl) e

theorem Outside.entryUpdate_of_nvm {x y : State} (e : Outside.nvm x = Outside.nvm y) :
    Outside.entryUpdate x = Outside.entryUpdate y := lift (d := Outside.nvm) (fun _ => rfl) e

theorem Outside.journalNvm_of_nvm {x y : State} (e : Outside.nvm x = Outside.nvm y) :
    Outside.journalNvm x = Outside.journalNvm y := lift (d := Outside.nvm) (fun _ => rfl) e

theorem Outside.queue_of_nvm {x y : State} (e : Outside.nvm x = Outside.nvm y) :
    Outside.queue x = Outside.queue y := lift (d := Outside.nvm) (fun _ => rfl) e

theorem Outside.recordsNvmPixels_of_nvm {x y : State} (e : Outside.nvm x = Outside.nvm y) :
    Outside.recordsNvmPixels x = Outside.recordsNvmPixels y := lift (d := Outside.nvm) (fun _ => rfl) e

theorem Outside.service_of_nvm {x y : State} (e : Outside.nvm x = Outside.nvm y) :
    Outside.service x = Outside.service y := lift (d := Outside.nvm) (fun _ => rfl) e

theorem Outside.queue_of_nvmUpdate {x y : State} (e : Outside.nvmUpdate x = Outside.nvmUpdate y) :
    Outside.queue x = Outside.queue y := lift (d := Outside.nvmUpdate) (fun _ => rfl) e

theorem Outside.drivePixels_of_pixels {x y : State} (e : Outside.pixels x = Outside.pixels y) :
    Outside.drivePixels x = Outside.drivePixels y := lift (d := Outside.pixels) (fun _ => rfl) e

theorem Outside.entries2_of_pixels {x y : State} (e : Outside.pixels x = Outside.pixels y) :
    Outside.entries2 x = Outside.entries2 y := lift (d := Outside.pixels) (fun _ => rfl) e

theorem Outside.entryDrivePixels_of_pixels {x y : State} (e : Outside.pixels x = Outside.pixels y) :
    Outside.entryDrivePixels x = Outside.entryDrivePixels y := lift (d := Outside.pixels) (fun _ => rfl) e

theorem Outside.entryPixels_of_pixels {x y : State} (e : Outside.pixels x = Outside.pixels y) :
    Outside.entryPixels x = Outside.entryPixels y := lift (d := Outside.pixels) (fun _ => rfl) e

theorem Outside.line_of_pixels {x y : State} (e : Outside.pixels x = Outside.pixels y) :
    Outside.line x = Outside.line y := lift (d := Outside.pixels) (fun _ => rfl) e

theorem Outside.linkPixels_of_pixels {x y : State} (e : Outside.pixels x = Outside.pixels y) :
    Outside.linkPixels x = Outside.linkPixels y := lift (d := Outside.pixels) (fun _ => rfl) e

theorem Outside.linkPixelsToll_of_pixels {x y : State} (e : Outside.pixels x = Outside.pixels y) :
    Outside.linkPixelsToll x = Outside.linkPixelsToll y := lift (d := Outside.pixels) (fun _ => rfl) e

theorem Outside.queue_of_pixels {x y : State} (e : Outside.pixels x = Outside.pixels y) :
    Outside.queue x = Outside.queue y := lift (d := Outside.pixels) (fun _ => rfl) e

theorem Outside.recordsNvmPixels_of_pixels {x y : State} (e : Outside.pixels x = Outside.pixels y) :
    Outside.recordsNvmPixels x = Outside.recordsNvmPixels y := lift (d := Outside.pixels) (fun _ => rfl) e

theorem Outside.service_of_pixels {x y : State} (e : Outside.pixels x = Outside.pixels y) :
    Outside.service x = Outside.service y := lift (d := Outside.pixels) (fun _ => rfl) e

theorem Outside.aonHkPowerSinksUnits_of_power {x y : State} (e : Outside.power x = Outside.power y) :
    Outside.aonHkPowerSinksUnits x = Outside.aonHkPowerSinksUnits y := lift (d := Outside.power) (fun _ => rfl) e

theorem Outside.entryPower_of_power {x y : State} (e : Outside.power x = Outside.power y) :
    Outside.entryPower x = Outside.entryPower y := lift (d := Outside.power) (fun _ => rfl) e

theorem Outside.powerUnits_of_power {x y : State} (e : Outside.power x = Outside.power y) :
    Outside.powerUnits x = Outside.powerUnits y := lift (d := Outside.power) (fun _ => rfl) e

theorem Outside.queue_of_power {x y : State} (e : Outside.power x = Outside.power y) :
    Outside.queue x = Outside.queue y := lift (d := Outside.power) (fun _ => rfl) e

theorem Outside.queueFree_of_power {x y : State} (e : Outside.power x = Outside.power y) :
    Outside.queueFree x = Outside.queueFree y := lift (d := Outside.power) (fun _ => rfl) e

theorem Outside.recordsPowerSafety_of_power {x y : State} (e : Outside.power x = Outside.power y) :
    Outside.recordsPowerSafety x = Outside.recordsPowerSafety y := lift (d := Outside.power) (fun _ => rfl) e

theorem Outside.service_of_power {x y : State} (e : Outside.power x = Outside.power y) :
    Outside.service x = Outside.service y := lift (d := Outside.power) (fun _ => rfl) e

theorem Outside.work_of_power {x y : State} (e : Outside.power x = Outside.power y) :
    Outside.work x = Outside.work y := lift (d := Outside.power) (fun _ => rfl) e

theorem Outside.aonHkPowerSinksUnits_of_powerUnits {x y : State} (e : Outside.powerUnits x = Outside.powerUnits y) :
    Outside.aonHkPowerSinksUnits x = Outside.aonHkPowerSinksUnits y := lift (d := Outside.powerUnits) (fun _ => rfl) e

theorem Outside.entries2_of_powerUnits {x y : State} (e : Outside.powerUnits x = Outside.powerUnits y) :
    Outside.entries2 x = Outside.entries2 y := lift (d := Outside.powerUnits) (fun _ => rfl) e

theorem Outside.work_of_powerUnits {x y : State} (e : Outside.powerUnits x = Outside.powerUnits y) :
    Outside.work x = Outside.work y := lift (d := Outside.powerUnits) (fun _ => rfl) e

theorem Outside.work_of_powerUp {x y : State} (e : Outside.powerUp x = Outside.powerUp y) :
    Outside.work x = Outside.work y := lift (d := Outside.powerUp) (fun _ => rfl) e

theorem Outside.queue_of_powerUp2 {x y : State} (e : Outside.powerUp2 x = Outside.powerUp2 y) :
    Outside.queue x = Outside.queue y := lift (d := Outside.powerUp2) (fun _ => rfl) e

theorem Outside.queue_of_poweredDown {x y : State} (e : Outside.poweredDown x = Outside.poweredDown y) :
    Outside.queue x = Outside.queue y := lift (d := Outside.poweredDown) (fun _ => rfl) e

theorem Outside.entry_of_records {x y : State} (e : Outside.records x = Outside.records y) :
    Outside.entry x = Outside.entry y := lift (d := Outside.records) (fun _ => rfl) e

theorem Outside.entryCeilingSafetyUnitsUpdate_of_records {x y : State} (e : Outside.records x = Outside.records y) :
    Outside.entryCeilingSafetyUnitsUpdate x = Outside.entryCeilingSafetyUnitsUpdate y := lift (d :=
        Outside.records) (fun _ => rfl) e

theorem Outside.entryChecker_of_records {x y : State} (e : Outside.records x = Outside.records y) :
    Outside.entryChecker x = Outside.entryChecker y := lift (d := Outside.records) (fun _ => rfl) e

theorem Outside.entryComposeDrive_of_records {x y : State} (e : Outside.records x = Outside.records y) :
    Outside.entryComposeDrive x = Outside.entryComposeDrive y := lift (d := Outside.records) (fun _ => rfl) e

theorem Outside.entryDramCorrectedDramRateSramCorrected_of_records {x y : State} (e : Outside.records x =
    Outside.records y) :
    Outside.entryDramCorrectedDramRateSramCorrected x = Outside.entryDramCorrectedDramRateSramCorrected y := lift
        (d := Outside.records) (fun _ => rfl) e

theorem Outside.entryHeadroomHkPixelsToll_of_records {x y : State} (e : Outside.records x = Outside.records y) :
    Outside.entryHeadroomHkPixelsToll x = Outside.entryHeadroomHkPixelsToll y := lift (d := Outside.records) (fun
        _ => rfl) e

theorem Outside.entryHk_of_records {x y : State} (e : Outside.records x = Outside.records y) :
    Outside.entryHk x = Outside.entryHk y := lift (d := Outside.records) (fun _ => rfl) e

theorem Outside.entryPixelsToll_of_records {x y : State} (e : Outside.records x = Outside.records y) :
    Outside.entryPixelsToll x = Outside.entryPixelsToll y := lift (d := Outside.records) (fun _ => rfl) e

theorem Outside.entrySafety_of_records {x y : State} (e : Outside.records x = Outside.records y) :
    Outside.entrySafety x = Outside.entrySafety y := lift (d := Outside.records) (fun _ => rfl) e

theorem Outside.queue_of_records {x y : State} (e : Outside.records x = Outside.records y) :
    Outside.queue x = Outside.queue y := lift (d := Outside.records) (fun _ => rfl) e

theorem Outside.recordsCeiling_of_records {x y : State} (e : Outside.records x = Outside.records y) :
    Outside.recordsCeiling x = Outside.recordsCeiling y := lift (d := Outside.records) (fun _ => rfl) e

theorem Outside.recordsHost_of_records {x y : State} (e : Outside.records x = Outside.records y) :
    Outside.recordsHost x = Outside.recordsHost y := lift (d := Outside.records) (fun _ => rfl) e

theorem Outside.recordsHostManifestScanShade_of_records {x y : State} (e : Outside.records x = Outside.records y) :
    Outside.recordsHostManifestScanShade x = Outside.recordsHostManifestScanShade y := lift (d := Outside.records)
        (fun _ => rfl) e

theorem Outside.recordsNvmPixels_of_records {x y : State} (e : Outside.records x = Outside.records y) :
    Outside.recordsNvmPixels x = Outside.recordsNvmPixels y := lift (d := Outside.records) (fun _ => rfl) e

theorem Outside.recordsPowerSafety_of_records {x y : State} (e : Outside.records x = Outside.records y) :
    Outside.recordsPowerSafety x = Outside.recordsPowerSafety y := lift (d := Outside.records) (fun _ => rfl) e

theorem Outside.recordsShade_of_records {x y : State} (e : Outside.records x = Outside.records y) :
    Outside.recordsShade x = Outside.recordsShade y := lift (d := Outside.records) (fun _ => rfl) e

theorem Outside.recordsSinks_of_records {x y : State} (e : Outside.records x = Outside.records y) :
    Outside.recordsSinks x = Outside.recordsSinks y := lift (d := Outside.records) (fun _ => rfl) e

theorem Outside.recordsToll_of_records {x y : State} (e : Outside.records x = Outside.records y) :
    Outside.recordsToll x = Outside.recordsToll y := lift (d := Outside.records) (fun _ => rfl) e

theorem Outside.entryManifestScanShade_of_recordsHost {x y : State} (e : Outside.recordsHost x =
    Outside.recordsHost y) :
    Outside.entryManifestScanShade x = Outside.entryManifestScanShade y := lift (d := Outside.recordsHost) (fun _
        => rfl) e

theorem Outside.queue_of_recordsHost {x y : State} (e : Outside.recordsHost x = Outside.recordsHost y) :
    Outside.queue x = Outside.queue y := lift (d := Outside.recordsHost) (fun _ => rfl) e

theorem Outside.recordsCaravanHostJournal_of_recordsHost {x y : State} (e : Outside.recordsHost x =
    Outside.recordsHost y) :
    Outside.recordsCaravanHostJournal x = Outside.recordsCaravanHostJournal y := lift (d := Outside.recordsHost)
        (fun _ => rfl) e

theorem Outside.recordsDictDramHost_of_recordsHost {x y : State} (e : Outside.recordsHost x = Outside.recordsHost y) :
    Outside.recordsDictDramHost x = Outside.recordsDictDramHost y := lift (d := Outside.recordsHost) (fun _ => rfl) e

theorem Outside.recordsHostManifestScanShade_of_recordsHost {x y : State} (e : Outside.recordsHost x =
    Outside.recordsHost y) :
    Outside.recordsHostManifestScanShade x = Outside.recordsHostManifestScanShade y := lift (d :=
        Outside.recordsHost) (fun _ => rfl) e

theorem Outside.entries_of_recordsHostManifestScanShade {x y : State} (e : Outside.recordsHostManifestScanShade x
    = Outside.recordsHostManifestScanShade y) :
    Outside.entries x = Outside.entries y := lift (d := Outside.recordsHostManifestScanShade) (fun _ => rfl) e

theorem Outside.entryManifestScanShade_of_recordsHostManifestScanShade {x y : State} (e :
    Outside.recordsHostManifestScanShade x = Outside.recordsHostManifestScanShade y) :
    Outside.entryManifestScanShade x = Outside.entryManifestScanShade y := lift (d :=
        Outside.recordsHostManifestScanShade) (fun _ => rfl) e

theorem Outside.queue_of_recordsHostManifestScanShade {x y : State} (e : Outside.recordsHostManifestScanShade x =
    Outside.recordsHostManifestScanShade y) :
    Outside.queue x = Outside.queue y := lift (d := Outside.recordsHostManifestScanShade) (fun _ => rfl) e

theorem Outside.service_of_recordsHostManifestScanShade {x y : State} (e : Outside.recordsHostManifestScanShade x
    = Outside.recordsHostManifestScanShade y) :
    Outside.service x = Outside.service y := lift (d := Outside.recordsHostManifestScanShade) (fun _ => rfl) e

theorem Outside.line_of_recordsNvmPixels {x y : State} (e : Outside.recordsNvmPixels x = Outside.recordsNvmPixels y) :
    Outside.line x = Outside.line y := lift (d := Outside.recordsNvmPixels) (fun _ => rfl) e

theorem Outside.queue_of_recordsNvmPixels {x y : State} (e : Outside.recordsNvmPixels x = Outside.recordsNvmPixels
    y) :
    Outside.queue x = Outside.queue y := lift (d := Outside.recordsNvmPixels) (fun _ => rfl) e

theorem Outside.work_of_recordsPowerSafety {x y : State} (e : Outside.recordsPowerSafety x =
    Outside.recordsPowerSafety y) :
    Outside.work x = Outside.work y := lift (d := Outside.recordsPowerSafety) (fun _ => rfl) e

theorem Outside.queue_of_recordsShade {x y : State} (e : Outside.recordsShade x = Outside.recordsShade y) :
    Outside.queue x = Outside.queue y := lift (d := Outside.recordsShade) (fun _ => rfl) e

theorem Outside.recordsHostManifestScanShade_of_recordsShade {x y : State} (e : Outside.recordsShade x =
    Outside.recordsShade y) :
    Outside.recordsHostManifestScanShade x = Outside.recordsHostManifestScanShade y := lift (d :=
        Outside.recordsShade) (fun _ => rfl) e

theorem Outside.slot_of_recordsToll {x y : State} (e : Outside.recordsToll x = Outside.recordsToll y) :
    Outside.slot x = Outside.slot y := lift (d := Outside.recordsToll) (fun _ => rfl) e

theorem Outside.queue_of_safeBeam {x y : State} (e : Outside.safeBeam x = Outside.safeBeam y) :
    Outside.queue x = Outside.queue y := lift (d := Outside.safeBeam) (fun _ => rfl) e

theorem Outside.ceilingSafety_of_safety {x y : State} (e : Outside.safety x = Outside.safety y) :
    Outside.ceilingSafety x = Outside.ceilingSafety y := lift (d := Outside.safety) (fun _ => rfl) e

theorem Outside.entryCeilingSafetyUnitsUpdate_of_safety {x y : State} (e : Outside.safety x = Outside.safety y) :
    Outside.entryCeilingSafetyUnitsUpdate x = Outside.entryCeilingSafetyUnitsUpdate y := lift (d :=
        Outside.safety) (fun _ => rfl) e

theorem Outside.entrySafety_of_safety {x y : State} (e : Outside.safety x = Outside.safety y) :
    Outside.entrySafety x = Outside.entrySafety y := lift (d := Outside.safety) (fun _ => rfl) e

theorem Outside.entrySafetyUnits_of_safety {x y : State} (e : Outside.safety x = Outside.safety y) :
    Outside.entrySafetyUnits x = Outside.entrySafetyUnits y := lift (d := Outside.safety) (fun _ => rfl) e

theorem Outside.queue_of_safety {x y : State} (e : Outside.safety x = Outside.safety y) :
    Outside.queue x = Outside.queue y := lift (d := Outside.safety) (fun _ => rfl) e

theorem Outside.work_of_safety {x y : State} (e : Outside.safety x = Outside.safety y) :
    Outside.work x = Outside.work y := lift (d := Outside.safety) (fun _ => rfl) e

theorem Outside.queue_of_scan {x y : State} (e : Outside.scan x = Outside.scan y) :
    Outside.queue x = Outside.queue y := lift (d := Outside.scan) (fun _ => rfl) e

theorem Outside.recordsHostManifestScanShade_of_scan {x y : State} (e : Outside.scan x = Outside.scan y) :
    Outside.recordsHostManifestScanShade x = Outside.recordsHostManifestScanShade y := lift (d := Outside.scan)
        (fun _ => rfl) e

theorem Outside.service_of_scan {x y : State} (e : Outside.scan x = Outside.scan y) :
    Outside.service x = Outside.service y := lift (d := Outside.scan) (fun _ => rfl) e

theorem Outside.slot_of_scan {x y : State} (e : Outside.scan x = Outside.scan y) :
    Outside.slot x = Outside.slot y := lift (d := Outside.scan) (fun _ => rfl) e

theorem Outside.work_of_scan {x y : State} (e : Outside.scan x = Outside.scan y) :
    Outside.work x = Outside.work y := lift (d := Outside.scan) (fun _ => rfl) e

theorem Outside.queue_of_service {x y : State} (e : Outside.service x = Outside.service y) :
    Outside.queue x = Outside.queue y := lift (d := Outside.service) (fun _ => rfl) e

theorem Outside.entries2_of_shade {x y : State} (e : Outside.shade x = Outside.shade y) :
    Outside.entries2 x = Outside.entries2 y := lift (d := Outside.shade) (fun _ => rfl) e

theorem Outside.entryShade_of_shade {x y : State} (e : Outside.shade x = Outside.shade y) :
    Outside.entryShade x = Outside.entryShade y := lift (d := Outside.shade) (fun _ => rfl) e

theorem Outside.queue_of_shade {x y : State} (e : Outside.shade x = Outside.shade y) :
    Outside.queue x = Outside.queue y := lift (d := Outside.shade) (fun _ => rfl) e

theorem Outside.recordsHostManifestScanShade_of_shade {x y : State} (e : Outside.shade x = Outside.shade y) :
    Outside.recordsHostManifestScanShade x = Outside.recordsHostManifestScanShade y := lift (d := Outside.shade)
        (fun _ => rfl) e

theorem Outside.recordsShade_of_shade {x y : State} (e : Outside.shade x = Outside.shade y) :
    Outside.recordsShade x = Outside.recordsShade y := lift (d := Outside.shade) (fun _ => rfl) e

theorem Outside.service_of_shade {x y : State} (e : Outside.shade x = Outside.shade y) :
    Outside.service x = Outside.service y := lift (d := Outside.shade) (fun _ => rfl) e

theorem Outside.caravanHostJournalSinks_of_sinks {x y : State} (e : Outside.sinks x = Outside.sinks y) :
    Outside.caravanHostJournalSinks x = Outside.caravanHostJournalSinks y := lift (d := Outside.sinks) (fun _ =>
        rfl) e

theorem Outside.dictSinks_of_sinks {x y : State} (e : Outside.sinks x = Outside.sinks y) :
    Outside.dictSinks x = Outside.dictSinks y := lift (d := Outside.sinks) (fun _ => rfl) e

theorem Outside.entrySinks_of_sinks {x y : State} (e : Outside.sinks x = Outside.sinks y) :
    Outside.entrySinks x = Outside.entrySinks y := lift (d := Outside.sinks) (fun _ => rfl) e

theorem Outside.freeSinks_of_sinks {x y : State} (e : Outside.sinks x = Outside.sinks y) :
    Outside.freeSinks x = Outside.freeSinks y := lift (d := Outside.sinks) (fun _ => rfl) e

theorem Outside.queue_of_sinks {x y : State} (e : Outside.sinks x = Outside.sinks y) :
    Outside.queue x = Outside.queue y := lift (d := Outside.sinks) (fun _ => rfl) e

theorem Outside.recordsSinks_of_sinks {x y : State} (e : Outside.sinks x = Outside.sinks y) :
    Outside.recordsSinks x = Outside.recordsSinks y := lift (d := Outside.sinks) (fun _ => rfl) e

theorem Outside.service_of_sinks {x y : State} (e : Outside.sinks x = Outside.sinks y) :
    Outside.service x = Outside.service y := lift (d := Outside.sinks) (fun _ => rfl) e

theorem Outside.slot_of_sinks {x y : State} (e : Outside.sinks x = Outside.sinks y) :
    Outside.slot x = Outside.slot y := lift (d := Outside.sinks) (fun _ => rfl) e

theorem Outside.work_of_sinks {x y : State} (e : Outside.sinks x = Outside.sinks y) :
    Outside.work x = Outside.work y := lift (d := Outside.sinks) (fun _ => rfl) e

theorem Outside.queue_of_slot {x y : State} (e : Outside.slot x = Outside.slot y) :
    Outside.queue x = Outside.queue y := lift (d := Outside.slot) (fun _ => rfl) e

theorem Outside.work_of_slot {x y : State} (e : Outside.slot x = Outside.slot y) :
    Outside.work x = Outside.work y := lift (d := Outside.slot) (fun _ => rfl) e

theorem Outside.entryDramCorrectedDramRateSramCorrected_of_sramCorrected {x y : State} (e : Outside.sramCorrected
    x = Outside.sramCorrected y) :
    Outside.entryDramCorrectedDramRateSramCorrected x = Outside.entryDramCorrectedDramRateSramCorrected y := lift
        (d := Outside.sramCorrected) (fun _ => rfl) e

theorem Outside.composeDriveFetchShadeToll_of_toll {x y : State} (e : Outside.toll x = Outside.toll y) :
    Outside.composeDriveFetchShadeToll x = Outside.composeDriveFetchShadeToll y := lift (d := Outside.toll) (fun _
        => rfl) e

theorem Outside.composeDriveFetchToll_of_toll {x y : State} (e : Outside.toll x = Outside.toll y) :
    Outside.composeDriveFetchToll x = Outside.composeDriveFetchToll y := lift (d := Outside.toll) (fun _ => rfl) e

theorem Outside.entryHeadroomHkPixelsToll_of_toll {x y : State} (e : Outside.toll x = Outside.toll y) :
    Outside.entryHeadroomHkPixelsToll x = Outside.entryHeadroomHkPixelsToll y := lift (d := Outside.toll) (fun _
        => rfl) e

theorem Outside.entryToll_of_toll {x y : State} (e : Outside.toll x = Outside.toll y) :
    Outside.entryToll x = Outside.entryToll y := lift (d := Outside.toll) (fun _ => rfl) e

theorem Outside.linkPixelsToll_of_toll {x y : State} (e : Outside.toll x = Outside.toll y) :
    Outside.linkPixelsToll x = Outside.linkPixelsToll y := lift (d := Outside.toll) (fun _ => rfl) e

theorem Outside.recordsToll_of_toll {x y : State} (e : Outside.toll x = Outside.toll y) :
    Outside.recordsToll x = Outside.recordsToll y := lift (d := Outside.toll) (fun _ => rfl) e

theorem Outside.aonCaravanFaultsFreeHostUnits_of_units {x y : State} (e : Outside.units x = Outside.units y) :
    Outside.aonCaravanFaultsFreeHostUnits x = Outside.aonCaravanFaultsFreeHostUnits y := lift (d := Outside.units)
        (fun _ => rfl) e

theorem Outside.dictUnits_of_units {x y : State} (e : Outside.units x = Outside.units y) :
    Outside.dictUnits x = Outside.dictUnits y := lift (d := Outside.units) (fun _ => rfl) e

theorem Outside.entryCeilingSafetyUnitsUpdate_of_units {x y : State} (e : Outside.units x = Outside.units y) :
    Outside.entryCeilingSafetyUnitsUpdate x = Outside.entryCeilingSafetyUnitsUpdate y := lift (d := Outside.units)
        (fun _ => rfl) e

theorem Outside.entryFetchUnits_of_units {x y : State} (e : Outside.units x = Outside.units y) :
    Outside.entryFetchUnits x = Outside.entryFetchUnits y := lift (d := Outside.units) (fun _ => rfl) e

theorem Outside.entrySafetyUnits_of_units {x y : State} (e : Outside.units x = Outside.units y) :
    Outside.entrySafetyUnits x = Outside.entrySafetyUnits y := lift (d := Outside.units) (fun _ => rfl) e

theorem Outside.entryUnits_of_units {x y : State} (e : Outside.units x = Outside.units y) :
    Outside.entryUnits x = Outside.entryUnits y := lift (d := Outside.units) (fun _ => rfl) e

theorem Outside.powerUnits_of_units {x y : State} (e : Outside.units x = Outside.units y) :
    Outside.powerUnits x = Outside.powerUnits y := lift (d := Outside.units) (fun _ => rfl) e

theorem Outside.queue_of_units {x y : State} (e : Outside.units x = Outside.units y) :
    Outside.queue x = Outside.queue y := lift (d := Outside.units) (fun _ => rfl) e

theorem Outside.service_of_units {x y : State} (e : Outside.units x = Outside.units y) :
    Outside.service x = Outside.service y := lift (d := Outside.units) (fun _ => rfl) e

theorem Outside.caravanNvmUpdate_of_update {x y : State} (e : Outside.update x = Outside.update y) :
    Outside.caravanNvmUpdate x = Outside.caravanNvmUpdate y := lift (d := Outside.update) (fun _ => rfl) e

theorem Outside.caravanUpdate_of_update {x y : State} (e : Outside.update x = Outside.update y) :
    Outside.caravanUpdate x = Outside.caravanUpdate y := lift (d := Outside.update) (fun _ => rfl) e

theorem Outside.entryUpdate_of_update {x y : State} (e : Outside.update x = Outside.update y) :
    Outside.entryUpdate x = Outside.entryUpdate y := lift (d := Outside.update) (fun _ => rfl) e

theorem Outside.nvmUpdate_of_update {x y : State} (e : Outside.update x = Outside.update y) :
    Outside.nvmUpdate x = Outside.nvmUpdate y := lift (d := Outside.update) (fun _ => rfl) e

theorem Outside.queue_of_update {x y : State} (e : Outside.update x = Outside.update y) :
    Outside.queue x = Outside.queue y := lift (d := Outside.update) (fun _ => rfl) e

theorem Outside.service_of_update {x y : State} (e : Outside.update x = Outside.update y) :
    Outside.service x = Outside.service y := lift (d := Outside.update) (fun _ => rfl) e

theorem Outside.powerUp_of_warp {x y : State} (e : Outside.warp x = Outside.warp y) :
    Outside.powerUp x = Outside.powerUp y := lift (d := Outside.warp) (fun _ => rfl) e

theorem Outside.queue_of_warp {x y : State} (e : Outside.warp x = Outside.warp y) :
    Outside.queue x = Outside.queue y := lift (d := Outside.warp) (fun _ => rfl) e

theorem Outside.service_of_warp {x y : State} (e : Outside.warp x = Outside.warp y) :
    Outside.service x = Outside.service y := lift (d := Outside.warp) (fun _ => rfl) e

theorem Outside.queue_of_work {x y : State} (e : Outside.work x = Outside.work y) :
    Outside.queue x = Outside.queue y := lift (d := Outside.work) (fun _ => rfl) e

end Sys2Proof.Laws
end

