-- ==== Sys2Proof/Laws/Flags.lean ====
section
/-!
SUPPORT. Laws/Flags.lean: what the operations of Machine/Flags.lean leave alone, one lemma each.
-/

namespace Sys2Proof.Laws

open Sys2Proof Sys2Proof.Machine

@[simp] theorem setIrq_frame (bit s) : Outside.host (setIrq bit s) = Outside.host s := by
  unfold setIrq
  simp only [↓Outside.host_update]

end Sys2Proof.Laws
end

