-- ==== Sys2Proof/Laws/BlackBox.lean ====
section
/-!
SUPPORT. Laws/BlackBox.lean: what the operations of Machine/BlackBox.lean leave alone, one lemma each.
-/

namespace Sys2Proof.Laws

open Sys2Proof Sys2Proof.Machine

@[simp] theorem writeEntry_frame (ad ty waybill context s) : Outside.aonFree (writeEntry ad ty waybill context s)
    = Outside.aonFree s := by
  unfold writeEntry
  simp only [↓Outside.aonFree_update]

@[simp] theorem commitEntry_frame (waybill outcome s) : Outside.aonFree (commitEntry waybill outcome s) =
    Outside.aonFree s := by
  unfold commitEntry
  simp only [↓writeEntry_frame]

@[simp] theorem runCommit_frame (cause s) : Outside.journalNvm (runCommit cause s) = Outside.journalNvm s := by
  unfold runCommit
  simp only [↓Outside.journalNvm_update]

@[simp] theorem startCommit_frame (waybill s) : Outside.aonJournalNvm (startCommit waybill s) =
    Outside.aonJournalNvm s := by
  unfold startCommit
  simp only [↓Outside.aonJournalNvm_of_journalNvm (runCommit_frame _ _), ↓Outside.aonJournalNvm_update]

@[simp] theorem skipCommit_frame (waybill s) : Outside.aonFree (skipCommit waybill s) = Outside.aonFree s := by
  unfold skipCommit
  repeat' split
  all_goals simp only [↓commitEntry_frame, ↓Outside.aonFree_update]

@[simp] theorem writeBoot_frame (cause port s) : Outside.aonFree (writeBoot cause port s) = Outside.aonFree s := by
  unfold writeBoot
  simp only [↓writeEntry_frame, ↓Outside.aonFree_update]

end Sys2Proof.Laws
end

