-- ==== Sys2Proof/Laws/Link.lean ====
section
/-!
SUPPORT. Laws/Link.lean: what the operations of Machine/Link.lean leave alone, one lemma each.
-/

namespace Sys2Proof.Laws

open Sys2Proof Sys2Proof.Machine

@[simp] theorem onLink_frame (p f s) : Outside.link (onLink p f s) = Outside.link s := by
  unfold onLink
  simp only [↓Outside.link_update]

@[simp] theorem ctrl_frame (p op payload s) : Outside.link (ctrl p op payload s) = Outside.link s := by
  unfold ctrl
  simp only [↓onLink_frame]

@[simp] theorem sendHold_frame (p s) : Outside.link (sendHold p s) = Outside.link s := by
  unfold sendHold
  simp only [↓onLink_frame]

@[simp] theorem sendStart_frame (p epoch s) : Outside.link (sendStart p epoch s) = Outside.link s := by
  unfold sendStart
  simp only [↓onLink_frame, ↓ctrl_frame]

end Sys2Proof.Laws
end

