-- ==== Sys2Proof/Laws/Faults.lean ====
section
/-!
SUPPORT. Laws/Faults.lean: what the operations of Machine/Faults.lean leave alone, one lemma each.
-/

namespace Sys2Proof.Laws

open Sys2Proof Sys2Proof.Machine

@[simp] theorem markAbsent_frame (k u s) : Outside.faults (markAbsent k u s) = Outside.faults s := by
  unfold markAbsent
  simp only [↓Outside.faults_update]

@[simp] theorem putBlock_frame (b s) : Outside.faults (putBlock b s) = Outside.faults s := by
  unfold putBlock
  simp only [↓Outside.faults_update]

@[simp] theorem noteBlock_frame (u k s) : Outside.faults (noteBlock u k s) = Outside.faults s := by
  unfold noteBlock
  simp only [↓putBlock_frame]

@[simp] theorem raiseEntry_frame (k u i w s) : Outside.aonFaultsFree (raiseEntry k u i w s) =
    Outside.aonFaultsFree s := by
  unfold raiseEntry
  simp only [↓Outside.aonFaultsFree_of_aonFree (writeEntry_frame _ _ _ _ _), ↓Outside.aonFaultsFree_update,
      ↓apply_ite Outside.aonFaultsFree, ite_self]

@[simp] theorem onDdb_frame (die f s) : Outside.faults (onDdb die f s) = Outside.faults s := by
  unfold onDdb
  repeat' split
  all_goals simp only [↓Outside.faults_update]

@[simp] theorem ddbSend_frame (die ty payload s) : Outside.faults (ddbSend die ty payload s) = Outside.faults s := by
  unfold ddbSend
  simp only [↓onDdb_frame, ↓apply_ite Outside.faults, ite_self]

@[simp] theorem ddbWaybillOut_frame (ad w s) : Outside.faults (ddbWaybillOut ad w s) = Outside.faults s := by
  unfold ddbWaybillOut
  simp only [↓ddbSend_frame, ↓foldl_keeps Outside.faults, implies_true]

@[simp] theorem canWaybill_frame (node w s) : Outside.faultsHost (canWaybill node w s) = Outside.faultsHost s := by
  unfold canWaybill
  simp only [↓Outside.faultsHost_update, ↓apply_ite Outside.faultsHost, ite_self]

@[simp] theorem caravanWaybill_frame (w s) : Outside.caravan (caravanWaybill w s) = Outside.caravan s := by
  unfold caravanWaybill
  simp only [↓Outside.caravan_update, ↓apply_ite Outside.caravan, ite_self]

@[simp] theorem sendWaybill_frame (ad reason w s) : Outside.aonCaravanFaultsFreeHost (sendWaybill ad reason w s) =
    Outside.aonCaravanFaultsFreeHost s := by
  unfold sendWaybill
  simp only [↓Outside.aonCaravanFaultsFreeHost_of_aonFree (writeEntry_frame _ _ _ _ _),
      ↓Outside.aonCaravanFaultsFreeHost_of_faults (ddbWaybillOut_frame _ _ _),
      ↓Outside.aonCaravanFaultsFreeHost_of_faultsHost (canWaybill_frame _ _ _),
      ↓Outside.aonCaravanFaultsFreeHost_of_caravan (caravanWaybill_frame _ _), ↓apply_ite
      Outside.aonCaravanFaultsFreeHost, ite_self]

@[simp] theorem interruptCp_frame (k u w s) : Outside.aonCaravanFaultsFreeHost (interruptCp k u w s) =
    Outside.aonCaravanFaultsFreeHost s := by
  unfold interruptCp
  simp only [↓sendWaybill_frame, ↓Outside.aonCaravanFaultsFreeHost_update, ↓apply_ite
      Outside.aonCaravanFaultsFreeHost, ite_self]

@[simp] theorem noteActive_frame (k u i w s) : Outside.faults (noteActive k u i w s) = Outside.faults s := by
  unfold noteActive
  simp only [↓Outside.faults_update, ↓apply_ite Outside.faults, ite_self]

@[simp] theorem raiseFresh_frame (k u i s) : Outside.aonCaravanFaultsFreeHost (raiseFresh k u i s) =
    Outside.aonCaravanFaultsFreeHost s := by
  unfold raiseFresh
  simp only [↓Outside.aonCaravanFaultsFreeHost_of_faults (noteBlock_frame _ _ _),
      ↓Outside.aonCaravanFaultsFreeHost_of_aonFaultsFree (raiseEntry_frame _ _ _ _ _), ↓interruptCp_frame,
      ↓Outside.aonCaravanFaultsFreeHost_of_faults (noteActive_frame _ _ _ _ _),
      ↓Outside.aonCaravanFaultsFreeHost_update, ↓apply_ite Outside.aonCaravanFaultsFreeHost, ite_self]

@[simp] theorem tryCommit_frame (w s) : Outside.aonCaravanFaultsFreeHostJournalNvm (tryCommit w s) =
    Outside.aonCaravanFaultsFreeHostJournalNvm s := by
  unfold tryCommit
  simp only [↓Outside.aonCaravanFaultsFreeHostJournalNvm_of_aonCaravanFaultsFreeHost (raiseFresh_frame _ _ _ _),
      ↓Outside.aonCaravanFaultsFreeHostJournalNvm_of_aonFree (commitEntry_frame _ _ _),
      ↓Outside.aonCaravanFaultsFreeHostJournalNvm_of_aonFree (skipCommit_frame _ _),
      ↓Outside.aonCaravanFaultsFreeHostJournalNvm_of_aonJournalNvm (startCommit_frame _ _), ↓apply_ite
      Outside.aonCaravanFaultsFreeHostJournalNvm, ite_self]

@[simp] theorem triggerCommit_frame (w s) : Outside.aonCaravanFaultsFreeHostJournalNvm (triggerCommit w s) =
    Outside.aonCaravanFaultsFreeHostJournalNvm s := by
  unfold triggerCommit
  repeat' split
  all_goals first | simp only [↓tryCommit_frame, ↓Outside.aonCaravanFaultsFreeHostJournalNvm_update] | rfl

@[simp] theorem putRecovery_frame (r s) : Outside.aon (putRecovery r s) = Outside.aon s := by
  unfold putRecovery
  simp only [↓Outside.aon_update]

@[simp] theorem closeWrappers_frame (closes s) : Outside.aonCaravanFaultsFreeHost (closeWrappers closes s) =
    Outside.aonCaravanFaultsFreeHost s := by
  unfold closeWrappers
  simp only [↓sendWaybill_frame, ↓Outside.aonCaravanFaultsFreeHost_update, ↓foldl_keeps
      Outside.aonCaravanFaultsFreeHost, implies_true]

@[simp] theorem dropEnables_frame (s) : Outside.link (dropEnables s) = Outside.link s := by
  unfold dropEnables
  simp only [↓Outside.link_update]

@[simp] theorem holdAll_frame (s) : Outside.link (holdAll s) = Outside.link s := by
  unfold holdAll
  simp only [↓sendHold_frame, ↓apply_ite Outside.link, ite_self, ↓foldl_keeps Outside.link, implies_true]

@[simp] theorem releaseHold_frame (s) : Outside.link (releaseHold s) = Outside.link s := by
  unfold releaseHold
  simp only [↓onLink_frame, ↓sendStart_frame, ↓apply_ite Outside.link, ite_self, ↓foldl_keeps Outside.link,
      implies_true]

@[simp] theorem enterSafeState_frame (new s) : Outside.faultsLink (enterSafeState new s) = Outside.faultsLink s := by
  unfold enterSafeState
  simp only [↓Outside.faultsLink_of_link (holdAll_frame _), ↓Outside.faultsLink_of_link (releaseHold_frame _),
      ↓Outside.faultsLink_update, ↓apply_ite Outside.faultsLink, ite_self]

@[simp] theorem settle_frame (s) : Outside.faultsLink (settle s) = Outside.faultsLink s := by
  unfold settle
  simp only [↓Outside.faultsLink_of_link (dropEnables_frame _), ↓enterSafeState_frame]

@[simp] theorem removeActive_frame (k u s) : Outside.faults (removeActive k u s) = Outside.faults s := by
  unfold removeActive
  simp only [↓Outside.faults_update]

@[simp] theorem exitKind_frame (k u s) : Outside.records (exitKind k u s) = Outside.records s := by
  unfold exitKind
  repeat' split
  all_goals simp only [↓Outside.records_of_faultsLink (settle_frame _), ↓Outside.records_of_faults
      (removeActive_frame _ _ _), ↓Outside.records_of_aonFree (writeEntry_frame _ _ _ _ _)]

@[simp] theorem recoverKind_frame (k u s) : Outside.records (recoverKind k u s) = Outside.records s := by
  unfold recoverKind
  repeat' split
  all_goals simp only [↓Outside.records_of_faultsLink (settle_frame _), ↓Outside.records_of_aonFree
      (writeEntry_frame _ _ _ _ _), ↓Outside.records_of_aon (putRecovery_frame _ _), ↓exitKind_frame, ↓apply_ite
      Outside.records, ite_self]

@[simp] theorem closeWrapper_frame (u s) : Outside.aonCaravanFaultsFreeHost (closeWrapper u s) =
    Outside.aonCaravanFaultsFreeHost s := by
  unfold closeWrapper
  simp only [↓closeWrappers_frame]

@[simp] theorem releaseHeld_frame (bus s) : Outside.host (releaseHeld bus s) = Outside.host s := by
  unfold releaseHeld
  simp only [↓Outside.host_update]

@[simp] theorem recoverBuses_frame (s) : Outside.faultsHost (recoverBuses s) = Outside.faultsHost s := by
  unfold recoverBuses
  repeat' split
  all_goals simp only [↓Outside.faultsHost_of_host (releaseHeld_frame _ _), ↓canWaybill_frame,
      ↓Outside.faultsHost_update, ↓apply_ite Outside.faultsHost, ite_self, ↓foldl_keeps Outside.faultsHost,
      implies_true]

@[simp] theorem markPresent_frame (k u s) : Outside.faults (markPresent k u s) = Outside.faults s := by
  unfold markPresent
  simp only [↓Outside.faults_update]

@[simp] theorem blankAgain_frame (k s) : Outside.faults (blankAgain k s) = Outside.faults s := by
  unfold blankAgain
  simp only [↓Outside.faults_update, ↓apply_ite Outside.faults, ite_self]

@[simp] theorem raiseKind_frame (k i s) : Outside.entry (raiseKind k i s) = Outside.entry s := by
  unfold raiseKind
  repeat' split
  all_goals simp only [↓Outside.entry_of_faults (markPresent_frame _ _ _), ↓Outside.entry_of_faults
      (blankAgain_frame _ _), ↓Outside.entry_of_aonCaravanFaultsFreeHost (raiseFresh_frame _ _ _ _),
      ↓Outside.entry_of_faultsLink (settle_frame _), ↓Outside.entry_of_aonCaravanFaultsFreeHostJournalNvm
      (triggerCommit_frame _ _), ↓apply_ite Outside.entry, ite_self]

@[simp] theorem raiseEnables_frame (s) : Outside.link (raiseEnables s) = Outside.link s := by
  unfold raiseEnables
  simp only [↓Outside.link_update]

@[simp] theorem handleKind_frame (k s) : Outside.faults (handleKind k s) = Outside.faults s := by
  unfold handleKind
  simp only [↓Outside.faults_update]

@[simp] theorem clearCondition_frame (k u s) : Outside.records (clearCondition k u s) = Outside.records s := by
  unfold clearCondition
  repeat' split
  all_goals simp only [↓Outside.records_of_faults (markAbsent_frame _ _ _), ↓exitKind_frame]

@[simp] theorem endBlanking_frame (s) : Outside.faults (endBlanking s) = Outside.faults s := by
  unfold endBlanking
  simp only [↓Outside.faults_update]

@[simp] theorem clearLatch_frame (k s) : Outside.records (clearLatch k s) = Outside.records s := by
  unfold clearLatch
  repeat' split
  all_goals simp only [↓Outside.records_of_aon (putRecovery_frame _ _), ↓Outside.records_of_aonFree
      (writeEntry_frame _ _ _ _ _), ↓exitKind_frame]

end Sys2Proof.Laws
end

