-- ==== Sys2Proof/Laws/Fetch.lean ====
section
/-!
SUPPORT. Laws/Fetch.lean: what the operations of Machine/Fetch.lean leave alone, one lemma each.
-/

namespace Sys2Proof.Laws

open Sys2Proof Sys2Proof.Machine

@[simp] theorem handleByPins_frame (s) : Outside.faults (handleByPins s) = Outside.faults s := by
  unfold handleByPins
  simp only [↓handleKind_frame, ↓apply_ite Outside.faults, ite_self]

@[simp] theorem putPin_frame (x0 s) : Outside.fetch (putPin x0 s) = Outside.fetch s := by
  unfold putPin
  simp only [↓Outside.fetch_update]

@[simp] theorem refusePin_frame (f s) : Outside.fetch (refusePin f s) = Outside.fetch s := by
  unfold refusePin
  simp only [↓putPin_frame]

@[simp] theorem finishPin_frame (f s) : Outside.fetch (finishPin f s) = Outside.fetch s := by
  unfold finishPin
  repeat' split
  all_goals simp only [↓putPin_frame, ↓refusePin_frame]

@[simp] theorem raisePerLayer_frame (k n f tile s) : Outside.entryFetch (raisePerLayer k n f tile s) =
    Outside.entryFetch s := by
  unfold raisePerLayer
  simp only [↓Outside.entryFetch_of_entry (raiseKind_frame _ _ _), ↓Outside.entryFetch_update, ↓apply_ite
      Outside.entryFetch, ite_self]

@[simp] theorem enterRun_frame (r s) : Outside.composeDriveFetch (enterRun r s) = Outside.composeDriveFetch s := by
  unfold enterRun
  simp only [↓Outside.composeDriveFetch_update]

@[simp] theorem putTile_frame (p n f tile x4 s) : Outside.fetch (putTile p n f tile x4 s) = Outside.fetch s := by
  unfold putTile
  simp only [↓Outside.fetch_update]

@[simp] theorem setLastFailed_frame (w s) : Outside.fetch (setLastFailed w s) = Outside.fetch s := by
  unfold setLastFailed
  simp only [↓Outside.fetch_update]

@[simp] theorem countTransparent_frame (s) : Outside.fetch (countTransparent s) = Outside.fetch s := by
  unfold countTransparent
  simp only [↓Outside.fetch_update]

@[simp] theorem noteFailed_frame (n f tile s) : Outside.entryFetch (noteFailed n f tile s) = Outside.entryFetch s
    := by
  unfold noteFailed
  simp only [↓Outside.entryFetch_of_fetch (setLastFailed_frame _ _), ↓raisePerLayer_frame,
      ↓Outside.entryFetch_of_fetch (countTransparent_frame _), ↓apply_ite Outside.entryFetch, ite_self]

@[simp] theorem failTile_frame (p n f tile s) : Outside.entryFetch (failTile p n f tile s) = Outside.entryFetch s
    := by
  unfold failTile
  repeat' split
  all_goals simp only [↓noteFailed_frame, ↓Outside.entryFetch_of_fetch (putTile_frame _ _ _ _ _ _)]

@[simp] theorem decodeAgain_frame (p n tile flaws f s) : Outside.entryFetch (decodeAgain p n tile flaws f s) =
    Outside.entryFetch s := by
  unfold decodeAgain
  repeat' split
  all_goals simp only [↓raisePerLayer_frame, ↓Outside.entryFetch_of_fetch (putTile_frame _ _ _ _ _ _),
      ↓failTile_frame, ↓Outside.entryFetch_update]

@[simp] theorem unpinSurface_frame (f s) : Outside.fetch (unpinSurface f s) = Outside.fetch s := by
  unfold unpinSurface
  repeat' split
  all_goals simp only [↓putPin_frame, ↓Outside.fetch_update]

@[simp] theorem spoilCached_frame (p n tile s) : Outside.composeDriveFetch (spoilCached p n tile s) =
    Outside.composeDriveFetch s := by
  unfold spoilCached
  simp only [fetchWork, inRun, onSurface, ↓apply_ite Outside.composeDriveFetch]
  repeat' split
  all_goals first | simp only [↓enterRun_frame, ↓Outside.composeDriveFetch_of_fetch (putTile_frame _ _ _ _ _ _)] | rfl

@[simp] theorem lateTile_frame (p n f tile s) : Outside.entryFetch (lateTile p n f tile s) = Outside.entryFetch s
    := by
  unfold lateTile
  simp only [↓failTile_frame, ↓Outside.entryFetch_update]

@[simp] theorem onWarp_frame (p f s) : Outside.warp (onWarp p f s) = Outside.warp s := by
  unfold onWarp
  simp only [↓Outside.warp_update]

@[simp] theorem pinSurface_frame (f s) : Outside.fetch (pinSurface f s) = Outside.fetch s := by
  unfold pinSurface
  simp only [↓putPin_frame, ↓refusePin_frame, ↓apply_ite Outside.fetch, ite_self]

@[simp] theorem warpBoundary_frame (s) : Outside.warp (warpBoundary s) = Outside.warp s := by
  unfold warpBoundary
  simp only [↓Outside.warp_update]

@[simp] theorem spoilTiles_frame (p n tile s) : Outside.entryFetch (spoilTiles p n tile s) = Outside.entryFetch s
    := by
  unfold spoilTiles
  simp only [↓noteFailed_frame, ↓Outside.entryFetch_update, ↓foldl_keeps Outside.entryFetch, implies_true]

@[simp] theorem spoilPinned_frame (f tile s) : Outside.fetch (spoilPinned f tile s) = Outside.fetch s := by
  unfold spoilPinned
  simp only [↓Outside.fetch_update]

@[simp] theorem failPins_frame (s) : Outside.fetch (failPins s) = Outside.fetch s := by
  unfold failPins
  simp only [↓Outside.fetch_update]

@[simp] theorem startInversion_frame (p m s) : Outside.warp (startInversion p m s) = Outside.warp s := by
  unfold startInversion
  simp only [↓onWarp_frame]

@[simp] theorem decodeFirst_frame (p n tile flaws f s) : Outside.fetch (decodeFirst p n tile flaws f s) =
    Outside.fetch s := by
  unfold decodeFirst
  simp only [↓putTile_frame]

@[simp] theorem pinBoundary_frame (s) : Outside.fetch (pinBoundary s) = Outside.fetch s := by
  unfold pinBoundary
  simp only [↓Outside.fetch_update]

@[simp] theorem refuseMesh_frame (p s) : Outside.warp (refuseMesh p s) = Outside.warp s := by
  unfold refuseMesh
  simp only [↓onWarp_frame]

@[simp] theorem spoilLayer_frame (p n tile s) : Outside.entryComposeDriveFetch (spoilLayer p n tile s) =
    Outside.entryComposeDriveFetch s := by
  unfold spoilLayer
  simp only []
  repeat' split
  all_goals first | simp only [↓Outside.entryComposeDriveFetch_of_entryFetch (spoilTiles_frame _ _ _ _),
      ↓Outside.entryComposeDriveFetch_of_fetch (spoilPinned_frame _ _ _),
      ↓Outside.entryComposeDriveFetch_of_composeDriveFetch (spoilCached_frame _ _ _ _)] | rfl

end Sys2Proof.Laws
end

