-- ==== Sys2Proof/Laws/Compose.lean ====
section
/-!
SUPPORT. Laws/Compose.lean: what the operations of Machine/Compose.lean leave alone, one lemma each.
-/

namespace Sys2Proof.Laws

open Sys2Proof Sys2Proof.Machine

@[simp] theorem markLate_frame (p need s) : Outside.entryFetch (markLate p need s) = Outside.entryFetch s := by
  unfold markLate
  simp only [↓lateTile_frame, ↓apply_ite Outside.entryFetch, ite_self, ↓foldl_keeps Outside.entryFetch, implies_true]

@[simp] theorem noteAlias_frame (p row col r0 h s) : Outside.entryFetch (noteAlias p row col r0 h s) =
    Outside.entryFetch s := by
  unfold noteAlias
  simp only [↓Outside.entryFetch_of_entry (raiseKind_frame _ _ _), ↓Outside.entryFetch_update, ↓apply_ite
      Outside.entryFetch, ite_self]

@[simp] theorem publishEnergy_frame (frame p s) : Outside.drive (publishEnergy frame p s) = Outside.drive s := by
  unfold publishEnergy
  simp only [↓Outside.drive_update]

@[simp] theorem onCompose_frame (f s) : Outside.compose (onCompose f s) = Outside.compose s := by
  unfold onCompose
  simp only [↓Outside.compose_update]

@[simp] theorem publishZones_frame (frame s) : Outside.compose (publishZones frame s) = Outside.compose s := by
  unfold publishZones
  simp only [↓onCompose_frame]

@[simp] theorem handToToll_frame (e s) : Outside.toll (handToToll e s) = Outside.toll s := by
  unfold handToToll
  simp only [↓Outside.toll_update]

@[simp] theorem onZones_frame (p f s) : Outside.compose (onZones p f s) = Outside.compose s := by
  unfold onZones
  simp only [↓onCompose_frame]

@[simp] theorem putOut_frame (o entry s) : Outside.compose (putOut o entry s) = Outside.compose s := by
  unfold putOut
  simp only [↓onCompose_frame]

@[simp] theorem writeTile_frame (p row col lower held words ds s) : Outside.composeFetch (writeTile p row col
    lower held words ds s) = Outside.composeFetch s := by
  unfold writeTile
  repeat' split
  all_goals simp only [↓Outside.composeFetch_of_compose (onZones_frame _ _ _), ↓Outside.composeFetch_of_compose
      (putOut_frame _ _ _), ↓Outside.composeFetch_update, ↓apply_ite Outside.composeFetch, ite_self]

@[simp] theorem noteRaises_frame (p row col r0 h ds s) : Outside.pixels (noteRaises p row col r0 h ds s) =
    Outside.pixels s := by
  unfold noteRaises
  simp only [↓Outside.pixels_update, ↓apply_ite Outside.pixels, ite_self]

@[simp] theorem finishTile_frame (p row col r0 h lower held ls s) : Outside.line (finishTile p row col r0 h lower
    held ls s) = Outside.line s := by
  unfold finishTile
  repeat' split
  all_goals simp only [↓Outside.line_of_composeFetch (writeTile_frame _ _ _ _ _ _ _ _), ↓Outside.line_of_pixels
      (noteRaises_frame _ _ _ _ _ _ _)]

@[simp] theorem composeStaged_frame (x0 s) : Outside.line (composeStaged x0 s) = Outside.line s := by
  unfold composeStaged
  simp only [↓finishTile_frame, ↓apply_ite Outside.line, ite_self]

@[simp] theorem composeBuffered_frame (p tile s) : Outside.line (composeBuffered p tile s) = Outside.line s := by
  unfold composeBuffered
  repeat' split
  all_goals simp only [inRun, ↓Outside.line_of_composeDriveFetch (enterRun_frame _ _), ↓composeStaged_frame]

@[simp] theorem keepOlder_frame (s) : Outside.compose (keepOlder s) = Outside.compose s := by
  unfold keepOlder
  simp only [↓onCompose_frame]

@[simp] theorem latchManifest_frame (s) : Outside.composeFetch (latchManifest s) = Outside.composeFetch s := by
  unfold latchManifest
  simp only [↓Outside.composeFetch_of_compose (onCompose_frame _ _), ↓Outside.composeFetch_update]

@[simp] theorem applyWords_frame (s) : Outside.drive (applyWords s) = Outside.drive s := by
  unfold applyWords
  simp only [↓Outside.drive_update]

@[simp] theorem takeScales_frame (epoch s) : Outside.toll (takeScales epoch s) = Outside.toll s := by
  unfold takeScales
  simp only [↓Outside.toll_update, ↓apply_ite Outside.toll, ite_self]

@[simp] theorem beginFrame_frame (epoch racing fresh s0) : Outside.composeDriveFetchShadeToll (beginFrame epoch
    racing fresh s0) = Outside.composeDriveFetchShadeToll s0 := by
  unfold beginFrame
  simp only [↓Outside.composeDriveFetchShadeToll_of_compose (keepOlder_frame _),
      ↓Outside.composeDriveFetchShadeToll_of_composeFetch (latchManifest_frame _),
      ↓Outside.composeDriveFetchShadeToll_of_drive (applyWords_frame _), ↓Outside.composeDriveFetchShadeToll_of_toll
      (takeScales_frame _ _), ↓Outside.composeDriveFetchShadeToll_update]

@[simp] theorem beginDue_frame (s) : Outside.composeDriveFetchShadeToll (beginDue s) =
    Outside.composeDriveFetchShadeToll s := by
  unfold beginDue
  simp only [↓beginFrame_frame, ↓apply_ite Outside.composeDriveFetchShadeToll, ite_self]

@[simp] theorem failCeiling_frame (x0 s) : Outside.entryCeiling (failCeiling x0 s) = Outside.entryCeiling s := by
  unfold failCeiling
  simp only [↓Outside.entryCeiling_of_entry (raiseKind_frame _ _ _), ↓Outside.entryCeiling_update]

@[simp] theorem badCellRow_frame (p j s) : Outside.entryCeiling (badCellRow p j s) = Outside.entryCeiling s := by
  unfold badCellRow
  repeat' split
  all_goals simp only [↓failCeiling_frame]

@[simp] theorem noteOverflow_frame (tile s) : Outside.entryShade (noteOverflow tile s) = Outside.entryShade s := by
  unfold noteOverflow
  simp only [↓Outside.entryShade_of_entry (raiseKind_frame _ _ _), ↓Outside.entryShade_update, ↓apply_ite
      Outside.entryShade, ite_self]

@[simp] theorem noteStage1_frame (p row col r0 h s) : Outside.line (noteStage1 p row col r0 h s) = Outside.line s
    := by
  unfold noteStage1
  simp only [↓Outside.line_of_entryFetch (markLate_frame _ _ _), ↓Outside.line_of_entryFetch (noteAlias_frame _ _
      _ _ _ _), ↓Outside.line_of_entryShade (noteOverflow_frame _ _), ↓foldl_keeps Outside.line, implies_true]

@[simp] theorem clearValid_frame (k s) : Outside.compose (clearValid k s) = Outside.compose s := by
  unfold clearValid
  simp only [↓onCompose_frame]

@[simp] theorem noteConflicts_frame (n s) : Outside.compose (noteConflicts n s) = Outside.compose s := by
  unfold noteConflicts
  simp only [↓onCompose_frame]

@[simp] theorem stageTile_frame (p row col s) : Outside.line (stageTile p row col s) = Outside.line s := by
  unfold stageTile
  simp only [↓noteStage1_frame, ↓Outside.line_of_compose (clearValid_frame _ _), ↓Outside.line_of_compose
      (noteConflicts_frame _ _), ↓Outside.line_of_compose (onCompose_frame _ _)]

@[simp] theorem raiseSupply_frame (p a b s) : Outside.headroom (raiseSupply p a b s) = Outside.headroom s := by
  unfold raiseSupply
  simp only [↓Outside.headroom_update, ↓apply_ite Outside.headroom, ite_self]

@[simp] theorem choosePairs_frame (p zr sel s) : Outside.composeHeadroom (choosePairs p zr sel s) =
    Outside.composeHeadroom s := by
  unfold choosePairs
  simp only [↓Outside.composeHeadroom_of_compose (onZones_frame _ _ _), ↓Outside.composeHeadroom_of_headroom
      (raiseSupply_frame _ _ _ _), ↓apply_ite Outside.composeHeadroom, ite_self]

@[simp] theorem stageZoneRow_frame (p zoneRow badCells s) : Outside.line2 (stageZoneRow p zoneRow badCells s) =
    Outside.line2 s := by
  unfold stageZoneRow
  simp only [↓Outside.line2_of_entryCeiling (badCellRow_frame _ _ _), ↓Outside.line2_of_line (stageTile_frame _ _
      _ _), ↓Outside.line2_of_compose (onCompose_frame _ _), ↓Outside.line2_of_composeHeadroom (choosePairs_frame _ _
      _ _), ↓foldl_keeps Outside.line2, implies_true]

@[simp] theorem beginBand_frame (band s0) : Outside.composeFetch (beginBand band s0) = Outside.composeFetch s0 := by
  unfold beginBand
  simp only [↓latchManifest_frame, ↓Outside.composeFetch_of_compose (keepOlder_frame _),
      ↓Outside.composeFetch_of_compose (onCompose_frame _ _), ↓apply_ite Outside.composeFetch, ite_self]

@[simp] theorem composeHalf_frame (p row col lower s) : Outside.line (composeHalf p row col lower s) =
    Outside.line s := by
  unfold composeHalf
  simp only [↓noteStage1_frame, ↓Outside.line_of_compose (clearValid_frame _ _), ↓finishTile_frame,
      ↓Outside.line_of_compose (noteConflicts_frame _ _)]

@[simp] theorem composeNext_frame (p row col lower badCell s) : Outside.line (composeNext p row col lower badCell
    s) = Outside.line s := by
  unfold composeNext
  simp only [↓composeHalf_frame, ↓Outside.line_of_entryCeiling (badCellRow_frame _ _ _), ↓apply_ite Outside.line,
      ite_self]

@[simp] theorem composeRacing_frame (p row col lower badCell s) : Outside.line (composeRacing p row col lower
    badCell s) = Outside.line s := by
  unfold composeRacing
  repeat' split
  all_goals simp only [inRun, ↓Outside.line_of_composeDriveFetch (enterRun_frame _ _), ↓composeNext_frame]

@[simp] theorem putChecked_frame (frame p tile racing low duties s) : Outside.compose (putChecked frame p tile
    racing low duties s) = Outside.compose s := by
  unfold putChecked
  repeat' split
  all_goals simp only [↓onCompose_frame]

@[simp] theorem noteMismatch_frame (p entry s) : Outside.entryCompose (noteMismatch p entry s) =
    Outside.entryCompose s := by
  unfold noteMismatch
  simp only [↓Outside.entryCompose_of_compose (onCompose_frame _ _), ↓Outside.entryCompose_of_entry
      (raiseKind_frame _ _ _), ↓apply_ite Outside.entryCompose, ite_self]

@[simp] theorem chooseRacing_frame (p zr s) : Outside.composeHeadroom (chooseRacing p zr s) =
    Outside.composeHeadroom s := by
  unfold chooseRacing
  simp only [↓choosePairs_frame]

@[simp] theorem badTable_frame (s) : Outside.entryCeiling (badTable s) = Outside.entryCeiling s := by
  unfold badTable
  repeat' split
  all_goals simp only [↓failCeiling_frame]

end Sys2Proof.Laws
end

