-- ==== Sys2Proof/Laws/Manifest.lean ====
section
/-!
SUPPORT. Laws/Manifest.lean: what the operations of Machine/Manifest.lean leave alone, one lemma each.
-/

namespace Sys2Proof.Laws

open Sys2Proof Sys2Proof.Machine

@[simp] theorem onShade_frame (f s) : Outside.shade (onShade f s) = Outside.shade s := by
  unfold onShade
  simp only [↓Outside.shade_update]

@[simp] theorem onManifest_frame (f s) : Outside.manifest (onManifest f s) = Outside.manifest s := by
  unfold onManifest
  simp only [↓Outside.manifest_update]

@[simp] theorem requestCommit_frame (s) : Outside.manifest (requestCommit s) = Outside.manifest s := by
  unfold requestCommit
  simp only [↓onManifest_frame, ↓apply_ite Outside.manifest, ite_self]

@[simp] theorem acceptCommit_frame (s) : Outside.recordsHostManifestScanShade (acceptCommit s) =
    Outside.recordsHostManifestScanShade s := by
  unfold acceptCommit
  simp only [↓Outside.recordsHostManifestScanShade_of_faults (handleByPins_frame _),
      ↓Outside.recordsHostManifestScanShade_of_manifest (onManifest_frame _ _)]

@[simp] theorem refuseCommit_frame (code s) : Outside.manifest (refuseCommit code s) = Outside.manifest s := by
  unfold refuseCommit
  simp only [↓onManifest_frame]

@[simp] theorem commitBoundary_frame (s) : Outside.recordsHostManifestScanShade (commitBoundary s) =
    Outside.recordsHostManifestScanShade s := by
  unfold commitBoundary
  simp only [↓Outside.recordsHostManifestScanShade_of_host (setIrq_frame _ _), ↓acceptCommit_frame,
      ↓Outside.recordsHostManifestScanShade_of_manifest (refuseCommit_frame _ _), ↓apply_ite
      Outside.recordsHostManifestScanShade, ite_self]

@[simp] theorem startModeChange_frame (s) : Outside.manifest (startModeChange s) = Outside.manifest s := by
  unfold startModeChange
  simp only [↓onManifest_frame, ↓apply_ite Outside.manifest, ite_self]

@[simp] theorem repeatFrame_frame (s) : Outside.compose (repeatFrame s) = Outside.compose s := by
  unfold repeatFrame
  simp only [↓onCompose_frame]

@[simp] theorem modeBoundary_frame (s) : Outside.entryComposeManifestUnits (modeBoundary s) =
    Outside.entryComposeManifestUnits s := by
  unfold modeBoundary
  repeat' split
  all_goals simp only [↓Outside.entryComposeManifestUnits_of_manifest (startModeChange_frame _),
      ↓Outside.entryComposeManifestUnits_of_manifest (onManifest_frame _ _),
      ↓Outside.entryComposeManifestUnits_of_compose (repeatFrame_frame _)]

@[simp] theorem shadeFresh_frame (s) : Outside.recordsShade (shadeFresh s) = Outside.recordsShade s := by
  unfold shadeFresh
  simp only [↓Outside.recordsShade_of_records (clearCondition_frame _ _ _), ↓Outside.recordsShade_of_shade
      (onShade_frame _ _)]

@[simp] theorem landList_frame (objs s) : Outside.recordsShade (landList objs s) = Outside.recordsShade s := by
  unfold landList
  simp only [↓shadeFresh_frame, ↓Outside.recordsShade_of_shade (onShade_frame _ _)]

@[simp] theorem stageWrite_frame (index sub v s) : Outside.manifest (stageWrite index sub v s) = Outside.manifest
    s := by
  unfold stageWrite
  simp only [↓onManifest_frame]

@[simp] theorem acceptSwapRequest_frame (s) : Outside.recordsShade (acceptSwapRequest s) = Outside.recordsShade s
    := by
  unfold acceptSwapRequest
  simp only [↓shadeFresh_frame, ↓Outside.recordsShade_of_shade (onShade_frame _ _)]

@[simp] theorem swapBoundary_frame (s) : Outside.shade (swapBoundary s) = Outside.shade s := by
  unfold swapBoundary
  simp only [↓onShade_frame, ↓apply_ite Outside.shade, ite_self]

@[simp] theorem ceilingBoundary_frame (s) : Outside.ceiling (ceilingBoundary s) = Outside.ceiling s := by
  unfold ceilingBoundary
  simp only [↓Outside.ceiling_update]

@[simp] theorem restartComposer_frame (s) : Outside.entryComposeManifestUnits (restartComposer s) =
    Outside.entryComposeManifestUnits s := by
  unfold restartComposer
  simp only [↓Outside.entryComposeManifestUnits_update]

@[simp] theorem stallComposer_frame (s) : Outside.entryComposeManifestUnits (stallComposer s) =
    Outside.entryComposeManifestUnits s := by
  unfold stallComposer
  repeat' split
  all_goals simp only [↓Outside.entryComposeManifestUnits_of_aonCaravanFaultsFreeHost (closeWrapper_frame _ _),
      ↓Outside.entryComposeManifestUnits_of_entry (raiseKind_frame _ _ _), ↓restartComposer_frame]

@[simp] theorem decayActive_frame (s) : Outside.shade (decayActive s) = Outside.shade s := by
  unfold decayActive
  simp only [↓onShade_frame]

@[simp] theorem offerList_frame (objs s) : Outside.recordsShade (offerList objs s) = Outside.recordsShade s := by
  unfold offerList
  simp only [↓Outside.recordsShade_of_shade (onShade_frame _ _), ↓landList_frame, ↓apply_ite Outside.recordsShade,
      ite_self]

@[simp] theorem rejectList_frame (s) : Outside.shade (rejectList s) = Outside.shade s := by
  unfold rejectList
  simp only [↓onShade_frame]

end Sys2Proof.Laws
end

