-- ==== Sys2Proof/Laws/ControlQueue.lean ====
section
/-!
SUPPORT. Laws/ControlQueue.lean: what the operations of Machine/ControlQueue.lean leave alone, one lemma each.
-/

namespace Sys2Proof.Laws

open Sys2Proof Sys2Proof.Machine

@[simp] theorem shadeList_frame (objs s) : Outside.recordsHostManifestScanShade (shadeList objs s) =
    Outside.recordsHostManifestScanShade s := by
  unfold shadeList
  simp only [↓Outside.recordsHostManifestScanShade_of_host (setIrq_frame _ _),
      ↓Outside.recordsHostManifestScanShade_of_shade (rejectList_frame _),
      ↓Outside.recordsHostManifestScanShade_of_recordsShade (offerList_frame _ _), ↓apply_ite
      Outside.recordsHostManifestScanShade, ite_self]

@[simp] theorem noteTimePair_frame (time dt s) : Outside.scan (noteTimePair time dt s) = Outside.scan s := by
  unfold noteTimePair
  simp only [↓Outside.scan_update]

@[simp] theorem onHost_frame (f s) : Outside.host (onHost f s) = Outside.host s := by
  unfold onHost
  simp only [↓Outside.host_update]

@[simp] theorem actItems_frame (a a1) : Outside.recordsHostManifestScanShade (actItems a a1) =
    Outside.recordsHostManifestScanShade a1 := by
  fun_induction actItems a a1 with
  | case1 q s ih => rw [ih]; simp only [↓Outside.recordsHostManifestScanShade_of_manifest (requestCommit_frame _)]
  | case2 o q s ih => rw [ih]; simp only [↓shadeList_frame]
  | case3 v d q s ih => rw [ih]; simp only [↓Outside.recordsHostManifestScanShade_of_scan (noteTimePair_frame _ _ _)]
  | case4 q s h1 h2 h3 => simp only [↓Outside.recordsHostManifestScanShade_of_host (onHost_frame _ _)]

@[simp] theorem runQueue_frame (s) : Outside.recordsHostManifestScanShade (runQueue s) =
    Outside.recordsHostManifestScanShade s := by
  unfold runQueue
  simp only [↓actItems_frame, ↓apply_ite Outside.recordsHostManifestScanShade, ite_self]

@[simp] theorem discardRecords_frame (s) : Outside.host (discardRecords s) = Outside.host s := by
  unfold discardRecords
  simp only [↓setIrq_frame, ↓onHost_frame]

@[simp] theorem queueItem_frame (x0 s) : Outside.recordsHostManifestScanShade (queueItem x0 s) =
    Outside.recordsHostManifestScanShade s := by
  unfold queueItem
  simp only [↓runQueue_frame, ↓Outside.recordsHostManifestScanShade_of_host (onHost_frame _ _)]

@[simp] theorem dropItems_frame (a a1) : Outside.recordsHostManifestScanShade (dropItems a a1) =
    Outside.recordsHostManifestScanShade a1 := by
  fun_induction dropItems a a1 with
  | case1 s => rfl
  | case2 x y q s ih => rw [ih]; simp only [↓Outside.recordsHostManifestScanShade_of_host (discardRecords_frame _)]
  | case3 x q s h ih => rw [ih]; simp only [↓actItems_frame]

@[simp] theorem dropPackets_frame (s) : Outside.recordsHostManifestScanShade (dropPackets s) =
    Outside.recordsHostManifestScanShade s := by
  unfold dropPackets
  simp only [↓dropItems_frame, ↓Outside.recordsHostManifestScanShade_of_host (onHost_frame _ _)]

end Sys2Proof.Laws
end

