-- ==== Sys2Proof/Laws/Replies.lean ====
section
/-!
SUPPORT. Laws/Replies.lean: what the operations of Machine/Replies.lean leave alone, one lemma each.
-/

namespace Sys2Proof.Laws

open Sys2Proof Sys2Proof.Machine

@[simp] theorem canSend_frame (bus id frames s) : Outside.host (canSend bus id frames s) = Outside.host s := by
  unfold canSend
  simp only [↓Outside.host_update]

@[simp] theorem answerCan_frame (node bus write tag index status bs s) : Outside.host (answerCan node bus write
    tag index status bs s) = Outside.host s := by
  unfold answerCan
  simp only [↓canSend_frame, ↓Outside.host_update, ↓apply_ite Outside.host, ite_self]

@[simp] theorem quietRecords_frame (s) : Outside.journal (quietRecords s) = Outside.journal s := by
  unfold quietRecords
  simp only [↓Outside.journal_update]

@[simp] theorem setOdStatus_frame (status object s) : Outside.host (setOdStatus status object s) = Outside.host s
    := by
  unfold setOdStatus
  simp only [↓Outside.host_update]

@[simp] theorem recordRefusal_frame (record index sub status s) : Outside.hostJournal (recordRefusal record index
    sub status s) = Outside.hostJournal s := by
  unfold recordRefusal
  simp only [↓Outside.hostJournal_of_journal (quietRecords_frame _), ↓Outside.hostJournal_of_host (setIrq_frame _
      _), ↓Outside.hostJournal_of_host (setOdStatus_frame _ _ _)]
  repeat' split
  all_goals first | simp only [↓Outside.hostJournal_of_journal (quietRecords_frame _),
      ↓Outside.hostJournal_of_host (setIrq_frame _ _), ↓Outside.hostJournal_of_host (setOdStatus_frame _ _ _),
      ↓Outside.hostJournal_update, ↓apply_ite Outside.hostJournal, ite_self, ↓foldl_keeps Outside.hostJournal,
      implies_true] | rfl

@[simp] theorem answer_frame (via write index sub status bs s) : Outside.caravanHostJournal (answer via write
    index sub status bs s) = Outside.caravanHostJournal s := by
  unfold answer
  repeat' split
  all_goals simp only [↓Outside.caravanHostJournal_of_host (answerCan_frame _ _ _ _ _ _ _ _),
      ↓Outside.caravanHostJournal_of_hostJournal (recordRefusal_frame _ _ _ _ _), ↓Outside.caravanHostJournal_update]

@[simp] theorem answerWaiter_frame (w status s) : Outside.caravanHostJournal (answerWaiter w status s) =
    Outside.caravanHostJournal s := by
  unfold answerWaiter
  repeat' split
  all_goals simp only [↓answer_frame]

@[simp] theorem refuseAll_frame (status a a2 a3) : Outside.caravanHostJournal (refuseAll status a a2 a3) =
    Outside.caravanHostJournal a3 := by
  induction a2 generalizing a a3 with
  | nil => rfl
  | cons w ws ih =>
    unfold refuseAll
    simp only [ih, ↓answerWaiter_frame, ↓apply_ite Outside.caravanHostJournal, ite_self]

end Sys2Proof.Laws
end

