-- ==== Sys2Proof/Laws/Access.lean ====
section
/-!
SUPPORT. Laws/Access.lean: what the operations of Machine/Access.lean leave alone, one lemma each.
-/

namespace Sys2Proof.Laws

open Sys2Proof Sys2Proof.Machine

@[simp] theorem onAccess_frame (f s) : Outside.access (onAccess f s) = Outside.access s := by
  unfold onAccess
  simp only [↓Outside.access_update]

@[simp] theorem tokenResult_frame (code s) : Outside.access (tokenResult code s) = Outside.access s := by
  unfold tokenResult
  simp only [↓onAccess_frame]

@[simp] theorem closeSession_frame (s) : Outside.access (closeSession s) = Outside.access s := by
  unfold closeSession
  simp only [↓onAccess_frame]

@[simp] theorem programLife_frame (target s) : Outside.entries (programLife target s) = Outside.entries s := by
  unfold programLife
  simp only [↓Outside.entries_of_access (closeSession_frame _), ↓Outside.entries_update]

@[simp] theorem eraseForReturn_frame (s) : Outside.caravanHostJournalNvm (eraseForReturn s) =
    Outside.caravanHostJournalNvm s := by
  unfold eraseForReturn
  simp only [↓Outside.caravanHostJournalNvm_of_caravanHostJournal (refuseAll_frame _ _ _ _),
      ↓Outside.caravanHostJournalNvm_update]
  repeat' split
  all_goals first | simp only [↓Outside.caravanHostJournalNvm_of_caravanHostJournal (refuseAll_frame _ _ _ _),
      ↓Outside.caravanHostJournalNvm_update, ↓apply_ite Outside.caravanHostJournalNvm, ite_self, ↓foldl_keeps
      Outside.caravanHostJournalNvm, implies_true] | rfl

@[simp] theorem enterReturn_frame (s) : Outside.entries (enterReturn s) = Outside.entries s := by
  unfold enterReturn
  repeat' split
  all_goals simp only [↓Outside.entries_of_caravanHostJournalNvm (eraseForReturn_frame _), ↓programLife_frame,
      ↓Outside.entries_of_recordsHostManifestScanShade (runQueue_frame _), ↓Outside.entries_of_access (onAccess_frame
      _ _), ↓Outside.entries_update]

@[simp] theorem actOnToken_frame (via kind target s) : Outside.entries (actOnToken via kind target s) =
    Outside.entries s := by
  unfold actOnToken
  simp only [↓Outside.entries_of_access (tokenResult_frame _ _), ↓Outside.entries_of_access (onAccess_frame _ _),
      ↓programLife_frame, ↓enterReturn_frame, ↓apply_ite Outside.entries, ite_self]

@[simp] theorem keepInside_frame (x0 s) : Outside.host (keepInside x0 s) = Outside.host s := by
  unfold keepInside
  simp only [↓Outside.host_update]

@[simp] theorem writeSessionClose_frame (via v s) : Outside.access (writeSessionClose via v s) = Outside.access s
    := by
  unfold writeSessionClose
  simp only [↓closeSession_frame, ↓apply_ite Outside.access, ite_self]

@[simp] theorem wrongResponse_frame (s) : Outside.entries (wrongResponse s) = Outside.entries s := by
  unfold wrongResponse
  simp only [↓Outside.entries_update]

@[simp] theorem respond_frame (via data s) : Outside.entries (respond via data s).2 = Outside.entries s := by
  unfold respond
  repeat' split
  all_goals simp only [↓wrongResponse_frame, ↓Outside.entries_update]

@[simp] theorem storeKey_frame (v s) : Outside.entries (storeKey v s) = Outside.entries s := by
  unfold storeKey
  repeat' split
  all_goals simp only [↓Outside.entries_of_access (closeSession_frame _), ↓Outside.entries_update]

@[simp] theorem readChallenge_frame (via s) : Outside.accessCaravanFreeHostJournal (readChallenge via s).2.2 =
    Outside.accessCaravanFreeHostJournal s := by
  unfold readChallenge
  repeat' split
  all_goals simp only [↓Outside.accessCaravanFreeHostJournal_of_access (onAccess_frame _ _),
      ↓Outside.accessCaravanFreeHostJournal_update]

@[simp] theorem writeToken_frame (via data s) : Outside.entries (writeToken via data s) = Outside.entries s := by
  unfold writeToken
  simp only [↓actOnToken_frame, ↓Outside.entries_of_access (tokenResult_frame _ _), ↓apply_ite Outside.entries,
      ite_self]

end Sys2Proof.Laws
end

