-- ==== Sys2Proof/Laws/Journal.lean ====
section
/-!
SUPPORT. Laws/Journal.lean: what the operations of Machine/Journal.lean leave alone, one lemma each.
-/

namespace Sys2Proof.Laws

open Sys2Proof Sys2Proof.Machine

@[simp] theorem raiseJournal_frame (index sub s) : Outside.entry (raiseJournal index sub s) = Outside.entry s := by
  unfold raiseJournal
  simp only [↓raiseKind_frame]

@[simp] theorem putActiveBank_frame (b s) : Outside.nvm (putActiveBank b s) = Outside.nvm s := by
  unfold putActiveBank
  simp only [↓Outside.nvm_update]

@[simp] theorem putOtherBank_frame (b s) : Outside.nvm (putOtherBank b s) = Outside.nvm s := by
  unfold putOtherBank
  simp only [↓Outside.nvm_update]

@[simp] theorem cutNvm_frame (s) : Outside.caravanHostJournalNvm (cutNvm s) = Outside.caravanHostJournalNvm s := by
  unfold cutNvm
  simp only [↓Outside.caravanHostJournalNvm_of_nvm (putActiveBank_frame _ _),
      ↓Outside.caravanHostJournalNvm_of_nvm (putOtherBank_frame _ _),
      ↓Outside.caravanHostJournalNvm_of_caravanHostJournal (refuseAll_frame _ _ _ _),
      ↓Outside.caravanHostJournalNvm_update, ↓apply_ite Outside.caravanHostJournalNvm, ite_self]
  repeat' split
  all_goals first | simp only [↓Outside.caravanHostJournalNvm_of_nvm (putActiveBank_frame _ _),
      ↓Outside.caravanHostJournalNvm_of_nvm (putOtherBank_frame _ _),
      ↓Outside.caravanHostJournalNvm_of_caravanHostJournal (refuseAll_frame _ _ _ _),
      ↓Outside.caravanHostJournalNvm_update, ↓apply_ite Outside.caravanHostJournalNvm, ite_self, ↓foldl_keeps
      Outside.caravanHostJournalNvm, implies_true] | rfl

@[simp] theorem appendRecord_frame (r bytes s) : Outside.journalNvm (appendRecord r bytes s) = Outside.journalNvm
    s := by
  unfold appendRecord
  simp only [↓Outside.journalNvm_of_nvm (putActiveBank_frame _ _), ↓Outside.journalNvm_update]

@[simp] theorem checkFill_frame (s) : Outside.journal (checkFill s) = Outside.journal s := by
  unfold checkFill
  simp only [↓Outside.journal_update, ↓apply_ite Outside.journal, ite_self]

@[simp] theorem cutRunning_frame (s) : Outside.caravanHostJournalNvm (cutRunning s) =
    Outside.caravanHostJournalNvm s := by
  unfold cutRunning
  simp only [↓cutNvm_frame, ↓Outside.caravanHostJournalNvm_update]

@[simp] theorem enqueueWrite_frame (w s) : Outside.entry (enqueueWrite w s) = Outside.entry s := by
  unfold enqueueWrite
  repeat' split
  all_goals simp only [↓Outside.entry_of_caravanHostJournal (answerWaiter_frame _ _ _), ↓raiseJournal_frame,
      ↓Outside.entry_update]

end Sys2Proof.Laws
end

