-- ==== Sys2Proof/Laws/PixelStatus.lean ====
section
/-!
SUPPORT. Laws/PixelStatus.lean: what the operations of Machine/PixelStatus.lean leave alone, one lemma each.
-/

namespace Sys2Proof.Laws

open Sys2Proof Sys2Proof.Machine

@[simp] theorem putMaster_frame (m s) : Outside.drive (putMaster m s) = Outside.drive s := by
  unfold putMaster
  simp only [↓Outside.drive_update]

@[simp] theorem onPixels_frame (p f s) : Outside.pixels (onPixels p f s) = Outside.pixels s := by
  unfold onPixels
  simp only [↓Outside.pixels_update]

@[simp] theorem putStatus_frame (p i code s) : Outside.pixels (putStatus p i code s) = Outside.pixels s := by
  unfold putStatus
  simp only [↓onPixels_frame]

@[simp] theorem putRecord_frame (p code pixel s) : Outside.nvm (putRecord p code pixel s) = Outside.nvm s := by
  unfold putRecord
  simp only [↓Outside.nvm_update]

@[simp] theorem sf1Reaction_frame (p i s) : Outside.entry (sf1Reaction p i s) = Outside.entry s := by
  unfold sf1Reaction
  simp only [↓Outside.entry_of_link (dropEnables_frame _), ↓raiseKind_frame, ↓Outside.entry_of_nvm
      (putRecord_frame _ _ _ _), ↓apply_ite Outside.entry, ite_self]

@[simp] theorem queueWord_frame (x0 w s) : Outside.drive (queueWord x0 w s) = Outside.drive s := by
  unfold queueWord
  simp only [↓Outside.drive_update, ↓apply_ite Outside.drive, ite_self]

@[simp] theorem queueTreatment_frame (x0 excluded boost s) : Outside.drive (queueTreatment x0 excluded boost s) =
    Outside.drive s := by
  unfold queueTreatment
  simp only [↓queueWord_frame]

@[simp] theorem boostNeighbour_frame (boost s q) : Outside.drivePixels (boostNeighbour boost s q) =
    Outside.drivePixels s := by
  unfold boostNeighbour
  simp only [↓Outside.drivePixels_of_drive (queueTreatment_frame _ _ _ _), ↓Outside.drivePixels_of_pixels
      (putStatus_frame _ _ _ _), ↓apply_ite Outside.drivePixels, ite_self]

@[simp] theorem concealPixel_frame (p i s) : Outside.drivePixels (concealPixel p i s) = Outside.drivePixels s := by
  unfold concealPixel
  simp only [↓boostNeighbour_frame, ↓Outside.drivePixels_of_pixels (onPixels_frame _ _ _), ↓apply_ite
      Outside.drivePixels, ite_self, ↓foldl_keeps Outside.drivePixels, implies_true]

@[simp] theorem treatPixel_frame (p i s) : Outside.drivePixels (treatPixel p i s) = Outside.drivePixels s := by
  unfold treatPixel
  simp only [↓Outside.drivePixels_of_drive (putMaster_frame _ _), ↓concealPixel_frame,
      ↓Outside.drivePixels_of_drive (queueTreatment_frame _ _ _ _), ↓apply_ite Outside.drivePixels, ite_self]

@[simp] theorem treatOrWait_frame (p i s) : Outside.drivePixels (treatOrWait p i s) = Outside.drivePixels s := by
  unfold treatOrWait
  simp only [↓treatPixel_frame, ↓Outside.drivePixels_of_pixels (onPixels_frame _ _ _), ↓apply_ite
      Outside.drivePixels, ite_self]

@[simp] theorem repairPixel_frame (status pixel s) : Outside.drivePixels (repairPixel status pixel s) =
    Outside.drivePixels s := by
  unfold repairPixel
  repeat' split
  all_goals simp only [↓Outside.drivePixels_update]

@[simp] theorem repairPixels_frame (s) : Outside.drivePixels (repairPixels s) = Outside.drivePixels s := by
  unfold repairPixels
  simp only [↓repairPixel_frame, ↓Outside.drivePixels_update, ↓foldl_keeps Outside.drivePixels, implies_true]

@[simp] theorem concealAll_frame (s) : Outside.drivePixels (concealAll s) = Outside.drivePixels s := by
  unfold concealAll
  simp only [↓concealPixel_frame, ↓foldl_keeps Outside.drivePixels, implies_true]

@[simp] theorem treatWaiting_frame (s) : Outside.drivePixels (treatWaiting s) = Outside.drivePixels s := by
  unfold treatWaiting
  simp only [↓concealAll_frame, ↓treatPixel_frame, ↓Outside.drivePixels_of_pixels (onPixels_frame _ _ _),
      ↓foldl_keeps Outside.drivePixels, implies_true]

@[simp] theorem markWeak_frame (p i s) : Outside.drivePixels (markWeak p i s) = Outside.drivePixels s := by
  unfold markWeak
  simp only [↓treatOrWait_frame, ↓Outside.drivePixels_of_pixels (putStatus_frame _ _ _ _), ↓apply_ite
      Outside.drivePixels, ite_self]

@[simp] theorem clearRecord_frame (p s) : Outside.recordsNvmPixels (clearRecord p s) = Outside.recordsNvmPixels s
    := by
  unfold clearRecord
  simp only [↓Outside.recordsNvmPixels_of_nvm (putRecord_frame _ _ _ _), ↓Outside.recordsNvmPixels_of_records
      (clearCondition_frame _ _ _), ↓apply_ite Outside.recordsNvmPixels, ite_self]

@[simp] theorem clearByCeiling_frame (s) : Outside.line (clearByCeiling s) = Outside.line s := by
  unfold clearByCeiling
  repeat' split
  all_goals simp only [↓Outside.line_of_recordsNvmPixels (clearRecord_frame _ _), ↓Outside.line_update, ↓apply_ite
      Outside.line, ite_self, ↓foldl_keeps Outside.line, implies_true]

@[simp] theorem confirmStatus_frame (p i code vf s) : Outside.entryDrivePixels (confirmStatus p i code vf s) =
    Outside.entryDrivePixels s := by
  unfold confirmStatus
  simp only [↓Outside.entryDrivePixels_of_drivePixels (treatOrWait_frame _ _ _),
      ↓Outside.entryDrivePixels_of_entry (raiseKind_frame _ _ _), ↓Outside.entryDrivePixels_of_pixels (onPixels_frame
      _ _ _), ↓Outside.entryDrivePixels_of_pixels (putStatus_frame _ _ _ _)]

end Sys2Proof.Laws
end

