-- ==== Sys2Proof/Laws/Calibration.lean ====
section
/-!
SUPPORT. Laws/Calibration.lean: what the operations of Machine/Calibration.lean leave alone, one lemma each.
-/

namespace Sys2Proof.Laws

open Sys2Proof Sys2Proof.Machine

@[simp] theorem writebackAges_frame (s) : Outside.drive (writebackAges s) = Outside.drive s := by
  unfold writebackAges
  simp only [↓putMaster_frame, ↓apply_ite Outside.drive, ite_self, ↓foldl_keeps Outside.drive, implies_true]

@[simp] theorem rebuildSteps_frame (p s) : Outside.compose (rebuildSteps p s) = Outside.compose s := by
  unfold rebuildSteps
  simp only [↓onZones_frame]

@[simp] theorem agePixel_frame (s a) : Outside.drivePixels (agePixel s a) = Outside.drivePixels s := by
  unfold agePixel
  simp only [↓Outside.drivePixels_of_drive (queueWord_frame _ _ _), ↓markWeak_frame, ↓Outside.drivePixels_update,
      ↓apply_ite Outside.drivePixels, ite_self]

@[simp] theorem queueBoundary_frame (s) : Outside.entryComposeDrive (queueBoundary s) = Outside.entryComposeDrive
    s := by
  unfold queueBoundary
  simp only [↓Outside.entryComposeDrive_update]

@[simp] theorem onFullScale_frame (p f s) : Outside.drive (onFullScale p f s) = Outside.drive s := by
  unfold onFullScale
  simp only [↓Outside.drive_update]

@[simp] theorem journalCorrection_frame (p old s) : Outside.entry (journalCorrection p old s) = Outside.entry s := by
  unfold journalCorrection
  simp only [↓enqueueWrite_frame, ↓apply_ite Outside.entry, ite_self]

@[simp] theorem takeEstimate_frame (p k s) : Outside.entryComposeDrive (takeEstimate p k s) =
    Outside.entryComposeDrive s := by
  unfold takeEstimate
  simp only [↓Outside.entryComposeDrive_of_drive (onFullScale_frame _ _ _), ↓Outside.entryComposeDrive_of_entry
      (journalCorrection_frame _ _ _), ↓Outside.entryComposeDrive_of_compose (rebuildSteps_frame _ _),
      ↓Outside.entryComposeDrive_of_records (clearCondition_frame _ _ _), ↓Outside.entryComposeDrive_of_entry
      (raiseKind_frame _ _ _), ↓apply_ite Outside.entryComposeDrive, ite_self]

@[simp] theorem pairSamples_frame (p s) : Outside.drive (pairSamples p s) = Outside.drive s := by
  unfold pairSamples
  simp only [↓onFullScale_frame, ↓apply_ite Outside.drive, ite_self]

end Sys2Proof.Laws
end

