-- ==== Sys2Proof/Laws/Ops.lean ====
section
/-!
SUPPORT. Laws/Ops.lean: what the operations of Machine/Ops.lean leave alone, one lemma each.
-/

namespace Sys2Proof.Laws

open Sys2Proof Sys2Proof.Machine

@[simp] theorem drawFree_frame (s) : Outside.free (drawFree s).2 = Outside.free s := by
  unfold drawFree
  simp only [↓Outside.free_update]

end Sys2Proof.Laws
end

