-- ==== Sys2Proof/Laws/Sinks.lean ====
section
/-!
SUPPORT. Laws/Sinks.lean: what the operations of Machine/Sinks.lean leave alone, one lemma each.
-/

namespace Sys2Proof.Laws

open Sys2Proof Sys2Proof.Machine

@[simp] theorem onGroup_frame (g f s) : Outside.sinks (onGroup g f s) = Outside.sinks s := by
  unfold onGroup
  simp only [↓Outside.sinks_update]

@[simp] theorem onSink_frame (c f s) : Outside.sinks (onSink c f s) = Outside.sinks s := by
  unfold onSink
  simp only [↓Outside.sinks_update]

@[simp] theorem applyGroup_frame (group s) : Outside.sinks (applyGroup group s) = Outside.sinks s := by
  unfold applyGroup
  simp only [↓onGroup_frame, ↓onSink_frame, ↓foldl_keeps Outside.sinks, implies_true]

@[simp] theorem recalibrate_frame (s c) : Outside.freeSinks (recalibrate s c) = Outside.freeSinks s := by
  unfold recalibrate
  simp only [↓Outside.freeSinks_of_free (drawFree_frame _), ↓Outside.freeSinks_of_sinks (onSink_frame _ _ _)]

@[simp] theorem resumeGroup_frame (group s) : Outside.sinks (resumeGroup group s) = Outside.sinks s := by
  unfold resumeGroup
  simp only [↓onGroup_frame]

@[simp] theorem recoverGroup_frame (group s) : Outside.recordsSinks (recoverGroup group s) = Outside.recordsSinks
    s := by
  unfold recoverGroup
  repeat' split
  all_goals simp only [↓Outside.recordsSinks_of_faults (markAbsent_frame _ _ _), ↓Outside.recordsSinks_of_records
      (recoverKind_frame _ _ _), ↓Outside.recordsSinks_of_sinks (resumeGroup_frame _ _), ↓Outside.recordsSinks_of_aon
      (putRecovery_frame _ _), ↓apply_ite Outside.recordsSinks, ite_self]

@[simp] theorem retrySink_frame (channel pin s) : Outside.sinks (retrySink channel pin s) = Outside.sinks s := by
  unfold retrySink
  simp only [↓onSink_frame, ↓apply_ite Outside.sinks, ite_self]

@[simp] theorem senseSink_frame (c reading s) : Outside.sinks (senseSink c reading s) = Outside.sinks s := by
  unfold senseSink
  simp only [↓onGroup_frame, ↓onSink_frame, ↓apply_ite Outside.sinks, ite_self]

end Sys2Proof.Laws
end

