-- ==== Sys2Proof/Laws/Thermal.lean ====
section
/-!
SUPPORT. Laws/Thermal.lean: what the operations of Machine/Thermal.lean leave alone, one lemma each.
-/

namespace Sys2Proof.Laws

open Sys2Proof Sys2Proof.Machine

@[simp] theorem onModel_frame (p f s) : Outside.toll (onModel p f s) = Outside.toll s := by
  unfold onModel
  simp only [↓Outside.toll_update]

@[simp] theorem modelRound_frame (p s) : Outside.recordsToll (modelRound p s) = Outside.recordsToll s := by
  unfold modelRound
  simp only [↓Outside.recordsToll_of_toll (onModel_frame _ _ _), ↓Outside.recordsToll_of_faults (handleKind_frame
      _ _), ↓apply_ite Outside.recordsToll, ite_self]

@[simp] theorem publishToll_frame (s) : Outside.toll (publishToll s) = Outside.toll s := by
  unfold publishToll
  simp only [↓Outside.toll_update]

@[simp] theorem latchTollSettings_frame (s) : Outside.toll (latchTollSettings s) = Outside.toll s := by
  unfold latchTollSettings
  simp only [↓Outside.toll_update]

end Sys2Proof.Laws
end

