-- ==== Sys2Proof/Laws/Housekeeping.lean ====
section
/-!
SUPPORT. Laws/Housekeeping.lean: what the operations of Machine/Housekeeping.lean leave alone, one lemma each.
-/

namespace Sys2Proof.Laws

open Sys2Proof Sys2Proof.Machine

@[simp] theorem startCode_frame (p s) : Outside.free (startCode p s).2 = Outside.free s := by
  unfold startCode
  simp only []
  repeat' split
  all_goals simp only [↓drawFree_frame]

@[simp] theorem noteLow_frame (p s) : Outside.entryHeadroomHkPixelsToll (noteLow p s) =
    Outside.entryHeadroomHkPixelsToll s := by
  unfold noteLow
  simp only [↓Outside.entryHeadroomHkPixelsToll_of_entry (raiseKind_frame _ _ _),
      ↓Outside.entryHeadroomHkPixelsToll_update, ↓apply_ite Outside.entryHeadroomHkPixelsToll, ite_self]

@[simp] theorem slotHeadroom_frame (p s) : Outside.entryHeadroomHkPixelsToll (slotHeadroom p s) =
    Outside.entryHeadroomHkPixelsToll s := by
  unfold slotHeadroom
  simp only [↓Outside.entryHeadroomHkPixelsToll_update, ↓apply_ite Outside.entryHeadroomHkPixelsToll]
  repeat' split
  all_goals simp only [↓Outside.entryHeadroomHkPixelsToll_of_free (startCode_frame _ _),
      ↓Outside.entryHeadroomHkPixelsToll_of_faults (markPresent_frame _ _ _), ↓noteLow_frame,
      ↓Outside.entryHeadroomHkPixelsToll_of_records (clearCondition_frame _ _ _),
      ↓Outside.entryHeadroomHkPixelsToll_update]

@[simp] theorem judgeSupply_frame (k uv s) : Outside.recordsPowerSafety (judgeSupply k uv s) =
    Outside.recordsPowerSafety s := by
  unfold judgeSupply
  simp only [onSupply, ↓Outside.recordsPowerSafety_of_faults (markPresent_frame _ _ _),
      ↓Outside.recordsPowerSafety_of_records (clearCondition_frame _ _ _), ↓Outside.recordsPowerSafety_of_faults
      (markAbsent_frame _ _ _), ↓Outside.recordsPowerSafety_update, ↓apply_ite Outside.recordsPowerSafety, ite_self]

@[simp] theorem judgeGroups_frame (s) : Outside.sinks (judgeGroups s) = Outside.sinks s := by
  unfold judgeGroups
  simp only [↓onGroup_frame, ↓foldl_keeps Outside.sinks, implies_true]

@[simp] theorem onHk_frame (f s) : Outside.hk (onHk f s) = Outside.hk s := by
  unfold onHk
  simp only [↓Outside.hk_update]

@[simp] theorem putThermal_frame (l t s) : Outside.hk (putThermal l t s) = Outside.hk s := by
  unfold putThermal
  simp only [↓onHk_frame]

@[simp] theorem settleThrottle_frame (s) : Outside.records (settleThrottle s) = Outside.records s := by
  unfold settleThrottle
  simp only [↓clearCondition_frame, ↓apply_ite Outside.records, ite_self]

@[simp] theorem enterThermal_frame (l t s) : Outside.entryHk (enterThermal l t s) = Outside.entryHk s := by
  unfold enterThermal
  repeat' split
  all_goals simp only [↓Outside.entryHk_of_hk (putThermal_frame _ _ _), ↓Outside.entryHk_of_records
      (settleThrottle_frame _), ↓Outside.entryHk_of_entry (raiseKind_frame _ _ _)]

@[simp] theorem judgeLocation_frame (s l) : Outside.entryHk (judgeLocation s l) = Outside.entryHk s := by
  unfold judgeLocation
  simp only [↓Outside.entryHk_of_hk (onHk_frame _ _), ↓enterThermal_frame, ↓apply_ite Outside.entryHk, ite_self]

@[simp] theorem nextSlot_frame (s) : Outside.entryHeadroomHkPixelsToll (nextSlot s) =
    Outside.entryHeadroomHkPixelsToll s := by
  unfold nextSlot
  repeat' split
  all_goals simp only [↓Outside.entryHeadroomHkPixelsToll_of_hk (onHk_frame _ _),
      ↓Outside.entryHeadroomHkPixelsToll_of_toll (latchTollSettings_frame _)]

@[simp] theorem crossCheck_frame (s) : Outside.hk (crossCheck s) = Outside.hk s := by
  unfold crossCheck
  simp only [↓onHk_frame]

@[simp] theorem noteCode_frame (channel raw s) : Outside.hk (noteCode channel raw s) = Outside.hk s := by
  unfold noteCode
  simp only [↓onHk_frame]

@[simp] theorem slotReference_frame (raw s) : Outside.entryHk (slotReference raw s) = Outside.entryHk s := by
  unfold slotReference
  simp only [↓Outside.entryHk_of_faults (markPresent_frame _ _ _), ↓Outside.entryHk_of_hk (onHk_frame _ _),
      ↓Outside.entryHk_of_records (clearCondition_frame _ _ _), ↓apply_ite Outside.entryHk, ite_self]

@[simp] theorem slotImon_frame (p raw s) : Outside.drive (slotImon p raw s) = Outside.drive s := by
  unfold slotImon
  simp only [↓onFullScale_frame, ↓apply_ite Outside.drive, ite_self]

@[simp] theorem slotThresholds_frame (s) : Outside.slot (slotThresholds s) = Outside.slot s := by
  unfold slotThresholds
  simp only [↓Outside.slot_of_sinks (judgeGroups_frame _), ↓Outside.slot_of_entryHk (judgeLocation_frame _ _),
      ↓Outside.slot_of_hk (crossCheck_frame _), ↓Outside.slot_of_hk (onHk_frame _ _), ↓Outside.slot_of_recordsToll
      (modelRound_frame _ _), ↓apply_ite Outside.slot, ite_self, ↓foldl_keeps Outside.slot, implies_true]

@[simp] theorem runSlot_frame (slot raw ld s) : Outside.work (runSlot slot raw ld s) = Outside.work s := by
  unfold runSlot
  simp only [↓Outside.work_of_hk (noteCode_frame _ _ _), ↓Outside.work_of_hk (onHk_frame _ _),
      ↓Outside.work_of_entryHk (slotReference_frame _ _), ↓Outside.work_of_recordsPowerSafety (judgeSupply_frame _ _
      _), ↓Outside.work_of_drive (slotImon_frame _ _ _), ↓Outside.work_of_sinks (senseSink_frame _ _ _),
      ↓Outside.work_of_entryHeadroomHkPixelsToll (slotHeadroom_frame _ _), ↓Outside.work_of_slot (slotThresholds_frame
      _), ↓apply_ite Outside.work, ite_self, ↓foldl_keeps Outside.work, implies_true]

@[simp] theorem escalateSensors_frame (ld s) : Outside.entryHk (escalateSensors ld s) = Outside.entryHk s := by
  unfold escalateSensors
  simp only [↓Outside.entryHk_of_entry (raiseKind_frame _ _ _), ↓Outside.entryHk_of_hk (onHk_frame _ _),
      ↓apply_ite Outside.entryHk, ite_self]

@[simp] theorem requalifyLd_frame (s) : Outside.entryHk (requalifyLd s) = Outside.entryHk s := by
  unfold requalifyLd
  simp only [↓Outside.entryHk_of_hk (onHk_frame _ _), ↓Outside.entryHk_of_records (clearCondition_frame _ _ _),
      ↓apply_ite Outside.entryHk, ite_self]

end Sys2Proof.Laws
end

