-- ==== Sys2Proof/Laws/Commit.lean ====
section
/-!
SUPPORT. Laws/Commit.lean: what the operations of Machine/Commit.lean leave alone, one lemma each.
-/

namespace Sys2Proof.Laws

open Sys2Proof Sys2Proof.Machine

@[simp] theorem furtherCommit_frame (s) : Outside.aonCaravanFaultsFreeHostJournalNvm (furtherCommit s) =
    Outside.aonCaravanFaultsFreeHostJournalNvm s := by
  unfold furtherCommit
  repeat' split
  all_goals first | simp only [↓tryCommit_frame, ↓Outside.aonCaravanFaultsFreeHostJournalNvm_update] | rfl

@[simp] theorem endCommit_frame (verified waybill s) : Outside.entry (endCommit verified waybill s) =
    Outside.entry s := by
  unfold endCommit
  repeat' split
  all_goals simp only [↓Outside.entry_of_journalNvm (appendRecord_frame _ _ _), ↓Outside.entry_of_aonFree
      (commitEntry_frame _ _ _), ↓Outside.entry_of_aonCaravanFaultsFreeHostJournalNvm (furtherCommit_frame _),
      ↓Outside.entry_of_journal (checkFill_frame _), ↓raiseKind_frame, ↓Outside.entry_update]

end Sys2Proof.Laws
end

