-- ==== Sys2Proof/Laws/Ring.lean ====
section
/-!
SUPPORT. Laws/Ring.lean: what the operations of Machine/Ring.lean leave alone, one lemma each.
-/

namespace Sys2Proof.Laws

open Sys2Proof Sys2Proof.Machine

@[simp] theorem onRing_frame (f s) : Outside.caravan (onRing f s) = Outside.caravan s := by
  unfold onRing
  simp only [↓Outside.caravan_update]

@[simp] theorem queueStream_frame (dest bytes s) : Outside.caravan (queueStream dest bytes s) = Outside.caravan s
    := by
  unfold queueStream
  simp only [↓onRing_frame]

@[simp] theorem queueCredit_frame (dest n s) : Outside.caravan (queueCredit dest n s) = Outside.caravan s := by
  unfold queueCredit
  simp only [↓onRing_frame]

end Sys2Proof.Laws
end

