-- ==== Sys2Proof/Laws/Time.lean ====
section
/-!
SUPPORT. Laws/Time.lean: what the operations of Machine/Time.lean leave alone, one lemma each.
-/

namespace Sys2Proof.Laws

open Sys2Proof Sys2Proof.Machine

@[simp] theorem publishLeap_frame (drift tolerance s) : Outside.leap (publishLeap drift tolerance s) =
    Outside.leap s := by
  unfold publishLeap
  simp only [↓Outside.leap_update]

@[simp] theorem sendShadow_frame (s) : Outside.aon (sendShadow s) = Outside.aon s := by
  unfold sendShadow
  simp only [↓Outside.aon_update]

@[simp] theorem advanceDt_frame (us s) : Outside.scan (advanceDt us s) = Outside.scan s := by
  unfold advanceDt
  simp only [↓Outside.scan_update]

@[simp] theorem countLeap_frame (n s) : Outside.aon (countLeap n s) = Outside.aon s := by
  unfold countLeap
  simp only [↓Outside.aon_update]

@[simp] theorem advanceClocks_frame (n s) : Outside.scan (advanceClocks n s) = Outside.scan s := by
  unfold advanceClocks
  simp only [↓Outside.scan_update]

@[simp] theorem restoreTime_frame (s) : Outside.scan (restoreTime s) = Outside.scan s := by
  unfold restoreTime
  simp only [↓Outside.scan_update]

end Sys2Proof.Laws
end

