-- ==== Sys2Proof/Laws/Power.lean ====
section
/-!
SUPPORT. Laws/Power.lean: what the operations of Machine/Power.lean leave alone, one lemma each.
-/

namespace Sys2Proof.Laws

open Sys2Proof Sys2Proof.Machine

@[simp] theorem onPower_frame (f s) : Outside.power (onPower f s) = Outside.power s := by
  unfold onPower
  simp only [↓Outside.power_update]

@[simp] theorem setDomain_frame (d x1 s) : Outside.power (setDomain d x1 s) = Outside.power s := by
  unfold setDomain
  repeat' split
  all_goals simp only [↓onPower_frame]

@[simp] theorem clearUnits_frame (d s) : Outside.records (clearUnits d s) = Outside.records s := by
  unfold clearUnits
  simp only [↓clearCondition_frame, ↓apply_ite Outside.records, ite_self, ↓foldl_keeps Outside.records, implies_true]

@[simp] theorem isolateUnits_frame (d s) : Outside.records (isolateUnits d s) = Outside.records s := by
  unfold isolateUnits
  repeat' split
  all_goals simp only [↓clearUnits_frame, ↓Outside.records_update]

@[simp] theorem dropSafe_frame (s) : Outside.poweredDown (dropSafe s) = Outside.poweredDown s := by
  unfold dropSafe
  simp only [↓Outside.poweredDown_update]

@[simp] theorem dropCore_frame (s) : Outside.service (dropCore s) = Outside.service s := by
  unfold dropCore
  simp only [↓Outside.service_update]

@[simp] theorem loseWrites_frame (s) : Outside.caravanHostJournal (loseWrites s) = Outside.caravanHostJournal s := by
  unfold loseWrites
  simp only [↓refuseAll_frame, ↓Outside.caravanHostJournal_update]
  repeat' split
  all_goals first | simp only [↓refuseAll_frame, ↓Outside.caravanHostJournal_update, ↓apply_ite
      Outside.caravanHostJournal, ite_self, ↓foldl_keeps Outside.caravanHostJournal, implies_true] | rfl

@[simp] theorem busyRequests_frame (s0) : Outside.entryManifestScanShade (busyRequests s0) =
    Outside.entryManifestScanShade s0 := by
  unfold busyRequests
  simp only [↓Outside.entryManifestScanShade_of_recordsHostManifestScanShade (dropPackets_frame _),
      ↓Outside.entryManifestScanShade_of_caravanHostJournal (loseWrites_frame _),
      ↓Outside.entryManifestScanShade_of_caravanHostJournal (answer_frame _ _ _ _ _ _ _),
      ↓Outside.entryManifestScanShade_update, ↓foldl_keeps Outside.entryManifestScanShade, implies_true]

@[simp] theorem dropPix_frame (s) : Outside.poweredDown (dropPix s) = Outside.poweredDown s := by
  unfold dropPix
  simp only [↓Outside.poweredDown_update]

@[simp] theorem stopScan_frame (s) : Outside.scan (stopScan s) = Outside.scan s := by
  unfold stopScan
  simp only [↓Outside.scan_update]

@[simp] theorem dropHostLanes_frame (s) : Outside.host (dropHostLanes s) = Outside.host s := by
  unfold dropHostLanes
  simp only [↓setIrq_frame, ↓Outside.host_update, ↓apply_ite Outside.host, ite_self]

@[simp] theorem dropLink_frame (s0) : Outside.service (dropLink s0) = Outside.service s0 := by
  unfold dropLink
  simp only [↓Outside.service_of_host (dropHostLanes_frame _), ↓Outside.service_of_scan (stopScan_frame _),
      ↓Outside.service_update]

@[simp] theorem dropDram_frame (s) : Outside.service (dropDram s) = Outside.service s := by
  unfold dropDram
  simp only [↓Outside.service_update]

@[simp] theorem dropAux_frame (s) : Outside.sinks (dropAux s) = Outside.sinks s := by
  unfold dropAux
  simp only [↓Outside.sinks_update]

@[simp] theorem dropDomain_frame (d s) : Outside.queue (dropDomain d s) = Outside.queue s := by
  unfold dropDomain
  repeat' split
  all_goals simp only [↓Outside.queue_of_poweredDown (dropSafe_frame _), ↓Outside.queue_of_service (dropCore_frame
      _), ↓Outside.queue_of_entryManifestScanShade (busyRequests_frame _), ↓Outside.queue_of_aon (sendShadow_frame _),
      ↓Outside.queue_of_poweredDown (dropPix_frame _), ↓Outside.queue_of_scan (stopScan_frame _),
      ↓Outside.queue_of_service (dropLink_frame _), ↓Outside.queue_of_service (dropDram_frame _),
      ↓Outside.queue_of_sinks (dropAux_frame _)]

@[simp] theorem powerDown_frame (d s) : Outside.queue (powerDown d s) = Outside.queue s := by
  unfold powerDown
  repeat' split
  all_goals simp only [↓Outside.queue_of_records (isolateUnits_frame _ _), ↓dropDomain_frame,
      ↓Outside.queue_of_aonCaravanFaultsFreeHost (closeWrappers_frame _ _), ↓Outside.queue_of_power (setDomain_frame _
      _ _)]

@[simp] theorem forceOff_frame (ds s) : Outside.queue (forceOff ds s) = Outside.queue s := by
  unfold forceOff
  simp only [↓Outside.queue_of_power (setDomain_frame _ _ _), ↓powerDown_frame, ↓apply_ite Outside.queue,
      ite_self, ↓foldl_keeps Outside.queue, implies_true]

@[simp] theorem leaveStop_frame (s) : Outside.recordsPowerSafety (leaveStop s) = Outside.recordsPowerSafety s := by
  unfold leaveStop
  simp only [↓Outside.recordsPowerSafety_of_records (clearCondition_frame _ _ _),
      ↓Outside.recordsPowerSafety_of_power (setDomain_frame _ _ _), ↓Outside.recordsPowerSafety_update]

@[simp] theorem onVotes_frame (f s) : Outside.power (onVotes f s) = Outside.power s := by
  unfold onVotes
  simp only [↓onPower_frame]

@[simp] theorem startStopTasks_frame (s) : Outside.service (startStopTasks s) = Outside.service s := by
  unfold startStopTasks
  simp only [↓Outside.service_of_power (onPower_frame _ _), ↓Outside.service_of_power (onVotes_frame _ _),
      ↓Outside.service_of_aon (sendShadow_frame _), ↓Outside.service_update]

@[simp] theorem quiesce_frame (d s) : Outside.queue (quiesce d s) = Outside.queue s := by
  unfold quiesce
  simp only [↓powerDown_frame, ↓Outside.queue_of_caravan (onRing_frame _ _), ↓apply_ite Outside.queue, ite_self]

@[simp] theorem finishCommit_frame (s) : Outside.entry (finishCommit s) = Outside.entry s := by
  unfold finishCommit
  repeat' split
  all_goals simp only [↓endCommit_frame]

@[simp] theorem enterStop_frame (s) : Outside.queue (enterStop s) = Outside.queue s := by
  unfold enterStop
  repeat' split
  all_goals simp only [↓Outside.queue_of_power (setDomain_frame _ _ _), ↓quiesce_frame, ↓Outside.queue_of_entry
      (finishCommit_frame _), ↓Outside.queue_of_records (isolateUnits_frame _ _), ↓Outside.queue_of_poweredDown
      (dropSafe_frame _), ↓Outside.queue_update, ↓apply_ite Outside.queue, ite_self, ↓foldl_keeps Outside.queue,
      implies_true]

@[simp] theorem afterWithdrawal_frame (s) : Outside.queue (afterWithdrawal s) = Outside.queue s := by
  unfold afterWithdrawal
  simp only [↓Outside.queue_of_service (startStopTasks_frame _), ↓enterStop_frame, ↓apply_ite Outside.queue, ite_self]

@[simp] theorem riseIfVoted_frame (s d) : Outside.power (riseIfVoted s d) = Outside.power s := by
  unfold riseIfVoted
  simp only [↓setDomain_frame, ↓apply_ite Outside.power, ite_self]

@[simp] theorem powerUpVoted_frame (s) : Outside.power (powerUpVoted s) = Outside.power s := by
  unfold powerUpVoted
  simp only [↓riseIfVoted_frame, ↓foldl_keeps Outside.power, implies_true]

@[simp] theorem settleSmVote_frame (s) : Outside.queue (settleSmVote s) = Outside.queue s := by
  unfold settleSmVote
  simp only [↓Outside.queue_of_power (onVotes_frame _ _), ↓afterWithdrawal_frame, ↓Outside.queue_of_power
      (powerUpVoted_frame _), ↓apply_ite Outside.queue, ite_self]

@[simp] theorem releaseWakeVotes_frame (s) : Outside.queue (releaseWakeVotes s) = Outside.queue s := by
  unfold releaseWakeVotes
  simp only [↓afterWithdrawal_frame, ↓Outside.queue_of_power (onVotes_frame _ _), ↓apply_ite Outside.queue, ite_self]

@[simp] theorem cancelStop_frame (s) : Outside.power (cancelStop s) = Outside.power s := by
  unfold cancelStop
  simp only [↓onPower_frame, ↓onVotes_frame, ↓apply_ite Outside.power, ite_self]

@[simp] theorem onUnits_frame (f s) : Outside.units (onUnits f s) = Outside.units s := by
  unfold onUnits
  simp only [↓Outside.units_update]

@[simp] theorem endCalStep_frame (s) : Outside.queue (endCalStep s) = Outside.queue s := by
  unfold endCalStep
  simp only [↓afterWithdrawal_frame, ↓Outside.queue_of_power (onVotes_frame _ _), ↓Outside.queue_of_units
      (onUnits_frame _ _), ↓apply_ite Outside.queue, ite_self]

@[simp] theorem wake_frame (cause s) : Outside.recordsPowerSafety (wake cause s) = Outside.recordsPowerSafety s := by
  unfold wake
  simp only [↓Outside.recordsPowerSafety_of_power (onVotes_frame _ _), ↓Outside.recordsPowerSafety_of_power
      (cancelStop_frame _), ↓Outside.recordsPowerSafety_of_power (powerUpVoted_frame _), ↓leaveStop_frame,
      ↓Outside.recordsPowerSafety_update, ↓apply_ite Outside.recordsPowerSafety, ite_self]

end Sys2Proof.Laws
end

