-- ==== Sys2Proof/Laws/Almanac.lean ====
section
/-!
SUPPORT. Laws/Almanac.lean: what the operations of Machine/Almanac.lean leave alone, one lemma each.
-/

namespace Sys2Proof.Laws

open Sys2Proof Sys2Proof.Machine

@[simp] theorem onAlmanac_frame (f s) : Outside.almanac (onAlmanac f s) = Outside.almanac s := by
  unfold onAlmanac
  simp only [↓Outside.almanac_update]

@[simp] theorem noteSkip_frame (e s) : Outside.almanac (noteSkip e s) = Outside.almanac s := by
  unfold noteSkip
  simp only [↓onAlmanac_frame, ↓apply_ite Outside.almanac, ite_self]

@[simp] theorem noteLate_frame (lateness s) : Outside.entries2 (noteLate lateness s) = Outside.entries2 s := by
  unfold noteLate
  simp only [↓Outside.entries2_of_almanac (onAlmanac_frame _ _), ↓Outside.entries2_of_entry (raiseKind_frame _ _
      _), ↓apply_ite Outside.entries2, ite_self]

@[simp] theorem offerEntry_frame (n s) : Outside.entry (offerEntry n s) = Outside.entry s := by
  unfold offerEntry
  simp only [↓enqueueWrite_frame, ↓apply_ite Outside.entry, ite_self]

@[simp] theorem clearOneShot_frame (n e s) : Outside.entries2 (clearOneShot n e s) = Outside.entries2 s := by
  unfold clearOneShot
  simp only [↓Outside.entries2_of_almanac (onAlmanac_frame _ _), ↓Outside.entries2_of_entry (offerEntry_frame _
      _), ↓apply_ite Outside.entries2, ite_self]

@[simp] theorem sampleHk_frame (channel s) : Outside.hk (sampleHk channel s) = Outside.hk s := by
  unfold sampleHk
  simp only [↓onHk_frame, ↓apply_ite Outside.hk, ite_self]

@[simp] theorem openProbeWindow_frame (start mask length s) : Outside.pixels (openProbeWindow start mask length s)
    = Outside.pixels s := by
  unfold openProbeWindow
  simp only [↓onPixels_frame, ↓apply_ite Outside.pixels, ite_self, ↓foldl_keeps Outside.pixels, implies_true]

@[simp] theorem requestSwap_frame (s) : Outside.shade (requestSwap s) = Outside.shade s := by
  unfold requestSwap
  simp only [↓onShade_frame, ↓apply_ite Outside.shade, ite_self]

@[simp] theorem hostIrq_frame (cause s) : Outside.entries2 (hostIrq cause s) = Outside.entries2 s := by
  unfold hostIrq
  simp only [↓Outside.entries2_of_host (setIrq_frame _ _), ↓Outside.entries2_of_almanac (onAlmanac_frame _ _)]

@[simp] theorem startCalStep_frame (task s) : Outside.powerUnits (startCalStep task s) = Outside.powerUnits s := by
  unfold startCalStep
  simp only [↓Outside.powerUnits_of_power (powerUpVoted_frame _), ↓Outside.powerUnits_of_power (onVotes_frame _
      _), ↓Outside.powerUnits_of_units (onUnits_frame _ _), ↓apply_ite Outside.powerUnits, ite_self]

@[simp] theorem entryActs_frame (e s) : Outside.entries2 (entryActs e s) = Outside.entries2 s := by
  unfold entryActs
  repeat' split
  all_goals simp only [↓Outside.entries2_of_hk (sampleHk_frame _ _), ↓Outside.entries2_of_pixels
      (openProbeWindow_frame _ _ _ _), ↓Outside.entries2_of_manifest (requestCommit_frame _),
      ↓Outside.entries2_of_shade (requestSwap_frame _), ↓Outside.entries2_of_almanac (onAlmanac_frame _ _),
      ↓hostIrq_frame, ↓Outside.entries2_of_powerUnits (startCalStep_frame _ _)]

@[simp] theorem executeEntry_frame (n e lateness s) : Outside.entries2 (executeEntry n e lateness s) =
    Outside.entries2 s := by
  unfold executeEntry
  simp only [↓noteLate_frame, ↓clearOneShot_frame, ↓entryActs_frame, ↓apply_ite Outside.entries2, ite_self]

@[simp] theorem runEntries_frame (a a1 a2) : Outside.entries2 (runEntries a a1 a2) = Outside.entries2 a2 := by
  induction a generalizing a1 a2 with
  | nil => rfl
  | cons e rest ih =>
    unfold runEntries
    simp only [ih, ↓Outside.entries2_of_almanac (onAlmanac_frame _ _), ↓Outside.entries2_of_almanac
        (noteSkip_frame _ _), ↓executeEntry_frame, ↓apply_ite Outside.entries2, ite_self]

@[simp] theorem runAlmanac_frame (s) : Outside.entries2 (runAlmanac s) = Outside.entries2 s := by
  unfold runAlmanac
  simp only [↓runEntries_frame, ↓Outside.entries2_of_almanac (onAlmanac_frame _ _)]

@[simp] theorem almanacBoundary_frame (s) : Outside.almanac (almanacBoundary s) = Outside.almanac s := by
  unfold almanacBoundary
  simp only [↓onAlmanac_frame]

end Sys2Proof.Laws
end

