-- ==== Sys2Proof/Laws/Commissioning.lean ====
section
/-!
SUPPORT. Laws/Commissioning.lean: what the operations of Machine/Commissioning.lean leave alone, one lemma each.
-/

namespace Sys2Proof.Laws

open Sys2Proof Sys2Proof.Machine

@[simp] theorem settleRequest_frame (s) : Outside.queue (settleRequest s) = Outside.queue s := by
  unfold settleRequest
  simp only [↓settleSmVote_frame, ↓Outside.queue_of_faultsLink (settle_frame _)]

@[simp] theorem onSafety_frame (f s) : Outside.safety (onSafety f s) = Outside.safety s := by
  unfold onSafety
  simp only [↓Outside.safety_update]

@[simp] theorem judgeCommissioning_frame (s) : Outside.ceilingSafety (judgeCommissioning s) =
    Outside.ceilingSafety s := by
  unfold judgeCommissioning
  simp only [↓Outside.ceilingSafety_of_safety (onSafety_frame _ _), ↓Outside.ceilingSafety_update, ↓apply_ite
      Outside.ceilingSafety, ite_self]

@[simp] theorem agreeRequest_frame (s) : Outside.safety (agreeRequest s) = Outside.safety s := by
  unfold agreeRequest
  repeat' split
  all_goals simp only [↓onSafety_frame]

@[simp] theorem startCommissioning_frame (s) : Outside.ceilingSafety (startCommissioning s) =
    Outside.ceilingSafety s := by
  unfold startCommissioning
  rw [Outside.ceilingSafety_update]
  simp only [↓Outside.ceilingSafety_of_safety (onSafety_frame _ _)]

@[simp] theorem failOutTest_frame (counted s) : Outside.entrySafety (failOutTest counted s) = Outside.entrySafety
    s := by
  unfold failOutTest
  simp only [↓Outside.entrySafety_of_entry (raiseKind_frame _ _ _), ↓Outside.entrySafety_of_safety (onSafety_frame
      _ _)]

end Sys2Proof.Laws
end

