-- ==== Sys2Proof/Laws/Images.lean ====
section
/-!
SUPPORT. Laws/Images.lean: what the operations of Machine/Images.lean leave alone, one lemma each.
-/

namespace Sys2Proof.Laws

open Sys2Proof Sys2Proof.Machine

@[simp] theorem putBank_frame (n x1 s) : Outside.nvm (putBank n x1 s) = Outside.nvm s := by
  unfold putBank
  simp only [↓Outside.nvm_update]

@[simp] theorem putSlot_frame (n x1 s) : Outside.nvm (putSlot n x1 s) = Outside.nvm s := by
  unfold putSlot
  simp only [↓Outside.nvm_update]

@[simp] theorem setLastRejection_frame (w s) : Outside.update (setLastRejection w s) = Outside.update s := by
  unfold setLastRejection
  simp only [↓Outside.update_update]

@[simp] theorem runCheck_frame (proc port slot atReset readFails s) : Outside.entryUpdate (runCheck proc port slot
    atReset readFails s).2 = Outside.entryUpdate s := by
  unfold runCheck
  simp only []
  split <;> simp only [↓Outside.entryUpdate_of_nvm (putSlot_frame _ _ _), ↓Outside.entryUpdate_of_entry
      (raiseKind_frame _ _ _), ↓Outside.entryUpdate_of_update (setLastRejection_frame _ _)]

@[simp] theorem bootCheck_frame (proc port sel atReset reads s) : Outside.entryUpdate (bootCheck proc port sel
    atReset reads s).2 = Outside.entryUpdate s := by
  unfold bootCheck
  simp only []
  repeat' split
  all_goals simp only [↓runCheck_frame]

end Sys2Proof.Laws
end

