-- ==== Sys2Proof/Laws/Values.lean ====
section
/-!
SUPPORT. Laws/Values.lean: what the operations of Machine/Values.lean leave alone, one lemma each.
-/

namespace Sys2Proof.Laws

open Sys2Proof Sys2Proof.Machine

@[simp] theorem setCfg_frame (index sub v s) : Outside.dict (setCfg index sub v s) = Outside.dict s := by
  unfold setCfg
  simp only [↓Outside.dict_update]

end Sys2Proof.Laws
end

