-- ==== Sys2Proof/Laws/Relations.lean ====
section
/-!
SUPPORT. Laws/Relations.lean: what the operations of Machine/Relations.lean leave alone, one lemma each.
-/

namespace Sys2Proof.Laws

open Sys2Proof Sys2Proof.Machine

@[simp] theorem defaultObjects_frame (index subs s) : Outside.dict (defaultObjects index subs s) = Outside.dict s
    := by
  unfold defaultObjects
  simp only [↓setCfg_frame, ↓Outside.dict_update, ↓foldl_keeps Outside.dict, implies_true]

@[simp] theorem restorePort_frame (s p) : Outside.dict (restorePort s p) = Outside.dict s := by
  unfold restorePort
  simp only [↓defaultObjects_frame, ↓apply_ite Outside.dict, ite_self]

@[simp] theorem restoreRelations_frame (s) : Outside.dict (restoreRelations s) = Outside.dict s := by
  unfold restoreRelations
  simp only [↓defaultObjects_frame, ↓restorePort_frame, ↓apply_ite Outside.dict, ite_self, ↓foldl_keeps
      Outside.dict, implies_true]

@[simp] theorem withQueued_frame (s) : Outside.dict (withQueued s) = Outside.dict s := by
  unfold withQueued
  simp only [↓setCfg_frame, ↓apply_ite Outside.dict, ite_self, ↓foldl_keeps Outside.dict, implies_true]

end Sys2Proof.Laws
end

