-- ==== Sys2Proof/Laws/Reset.lean ====
section
/-!
SUPPORT. Laws/Reset.lean: what the operations of Machine/Reset.lean leave alone, one lemma each.
-/

namespace Sys2Proof.Laws

open Sys2Proof Sys2Proof.Machine

@[simp] theorem takeBootCause_frame (s) : Outside.free (takeBootCause s).2 = Outside.free s := by
  unfold takeBootCause
  repeat' split
  all_goals simp only [↓drawFree_frame]

@[simp] theorem dropVolatile_frame (d s) : Outside.dict (dropVolatile d s) = Outside.dict s := by
  unfold dropVolatile
  simp only [↓Outside.dict_update]

@[simp] theorem auxUp_frame (s) : Outside.dictSinks (auxUp s) = Outside.dictSinks s := by
  unfold auxUp
  simp only [↓Outside.dictSinks_of_sinks (applyGroup_frame _ _), ↓Outside.dictSinks_of_dict (dropVolatile_frame _
      _), ↓Outside.dictSinks_update, ↓foldl_keeps Outside.dictSinks, implies_true]

@[simp] theorem freezeVotes_frame (s) : Outside.aon (freezeVotes s) = Outside.aon s := by
  unfold freezeVotes
  repeat' split
  all_goals simp only [↓Outside.aon_update]

@[simp] theorem raiseShutdown_frame (i s) : Outside.entry (raiseShutdown i s) = Outside.entry s := by
  unfold raiseShutdown
  repeat' split
  all_goals simp only [↓Outside.entry_of_aonCaravanFaultsFreeHostJournalNvm (triggerCommit_frame _ _),
      ↓raiseKind_frame]

@[simp] theorem writeHostVote_frame (v s) : Outside.queue (writeHostVote v s).2 = Outside.queue s := by
  unfold writeHostVote
  simp only []
  repeat' split
  all_goals simp only [↓Outside.queue_of_power (onPower_frame _ _), ↓Outside.queue_of_power (onVotes_frame _ _),
      ↓afterWithdrawal_frame, ↓Outside.queue_of_power (powerUpVoted_frame _)]

@[simp] theorem restoreRecord_frame (level s r) : Outside.dict (restoreRecord level s r) = Outside.dict s := by
  unfold restoreRecord
  simp only [↓setCfg_frame, ↓Outside.dict_update, ↓apply_ite Outside.dict, ite_self]

@[simp] theorem linkUp_frame (s) : Outside.dictUnits (linkUp s) = Outside.dictUnits s := by
  unfold linkUp
  simp only [↓Outside.dictUnits_of_dict (dropVolatile_frame _ _), ↓Outside.dictUnits_of_units (onUnits_frame _ _)]

@[simp] theorem thaw_frame (cause s) : Outside.queue (thaw cause s) = Outside.queue s := by
  unfold thaw
  repeat' split
  all_goals simp only [↓Outside.queue_of_power (powerUpVoted_frame _), ↓Outside.queue_of_power (onPower_frame _
      _), ↓enterStop_frame, ↓Outside.queue_update, ↓apply_ite Outside.queue, ite_self]

@[simp] theorem noteSmStart_frame (s) : Outside.safety (noteSmStart s) = Outside.safety s := by
  unfold noteSmStart
  simp only [↓Outside.safety_update]

@[simp] theorem bootCp_frame (s) : Outside.powerUnits (bootCp s) = Outside.powerUnits s := by
  unfold bootCp
  simp only [↓Outside.powerUnits_of_power (onVotes_frame _ _), ↓Outside.powerUnits_of_units (onUnits_frame _ _),
      ↓apply_ite Outside.powerUnits, ite_self]

@[simp] theorem restoreObjects_frame (safety s) : Outside.dict (restoreObjects safety s) = Outside.dict s := by
  unfold restoreObjects
  simp only [↓restoreRecord_frame, ↓restoreRelations_frame, ↓apply_ite Outside.dict, ite_self, ↓foldl_keeps
      Outside.dict, implies_true]

@[simp] theorem loadMaps_frame (s) : Outside.service (loadMaps s) = Outside.service s := by
  unfold loadMaps
  simp only [↓Outside.service_update]

@[simp] theorem holdParts_frame (por s0) : Outside.queueFree (holdParts por s0) = Outside.queueFree s0 := by
  have h := cutNvm_frame s0
  have v : (cutNvm s0).variant = s0.variant := (congrArg State.variant h :)
  have q : (cutNvm s0).pending = s0.pending := (congrArg State.pending h :)
  have f : (cutNvm s0).free = s0.free := (congrArg State.free h :)
  cases s0
  simp only [Outside.queueFree, holdParts, v, q, f]

@[simp] theorem assertSource_frame (por s) : Outside.queueFree (assertSource por s) = Outside.queueFree s := by
  unfold assertSource
  simp only [↓Outside.queueFree_of_power (onPower_frame _ _), ↓Outside.queueFree_of_faultsLink (settle_frame _),
      ↓holdParts_frame, ↓Outside.queueFree_update, ↓apply_ite Outside.queueFree, ite_self]

@[simp] theorem startSequence_frame (por s) : Outside.powerUnits (startSequence por s) = Outside.powerUnits s := by
  cases s; rfl

@[simp] theorem clearSafetySet_frame (s) : Outside.dict (clearSafetySet s) = Outside.dict s := by
  unfold clearSafetySet
  simp only [↓Outside.dict_update]

@[simp] theorem forceLink_frame (s) : Outside.queue (forceLink s) = Outside.queue s := by
  unfold forceLink
  simp only [↓forceOff_frame, ↓Outside.queue_update]

@[simp] theorem clearAon_frame (cause s) : Outside.aonHkPowerSinksUnits (clearAon cause s) =
    Outside.aonHkPowerSinksUnits s := by
  unfold clearAon
  simp only [↓Outside.aonHkPowerSinksUnits_update]

@[simp] theorem releaseTogether_frame (s) : Outside.aonHkPowerSinksUnits (releaseTogether s) =
    Outside.aonHkPowerSinksUnits s := by
  unfold releaseTogether
  simp only [↓Outside.aonHkPowerSinksUnits_of_powerUnits (startSequence_frame _ _), ↓clearAon_frame]

@[simp] theorem failDram_frame (s) : Outside.entryFetchUnits (failDram s) = Outside.entryFetchUnits s := by
  unfold failDram
  simp only [↓Outside.entryFetchUnits_of_faults (markAbsent_frame _ _ _), ↓Outside.entryFetchUnits_of_entry
      (raiseKind_frame _ _ _), ↓Outside.entryFetchUnits_of_fetch (failPins_frame _), ↓Outside.entryFetchUnits_of_units
      (onUnits_frame _ _)]

@[simp] theorem coreUp_frame (s) : Outside.work (coreUp s) = Outside.work s := by
  unfold coreUp
  repeat' split
  all_goals simp only [↓Outside.work_of_entryHk (requalifyLd_frame _), ↓Outside.work_of_scan (restoreTime_frame
      _), ↓Outside.work_of_leap (publishLeap_frame _ _ _), ↓Outside.work_of_powerUnits (bootCp_frame _),
      ↓Outside.work_of_power (onVotes_frame _ _), ↓Outside.work_of_safety (noteSmStart_frame _), ↓Outside.work_of_free
      (takeBootCause_frame _), ↓Outside.work_of_power (onPower_frame _ _), ↓Outside.work_of_aonFree (writeBoot_frame _
      _ _), ↓Outside.work_update]

@[simp] theorem forceCore_frame (k s) : Outside.queue (forceCore k s) = Outside.queue s := by
  unfold forceCore
  simp only [↓Outside.queue_of_aon (sendShadow_frame _), ↓Outside.queue_of_caravanHostJournalNvm (cutRunning_frame
      _), ↓forceOff_frame, ↓Outside.queue_update, ↓apply_ite Outside.queue, ite_self]

@[simp] theorem forceSupply_frame (k s) : Outside.queue (forceSupply k s) = Outside.queue s := by
  unfold forceSupply
  repeat' split
  all_goals simp only [onSupply, ↓forceLink_frame, ↓Outside.queue_of_entry (raiseKind_frame _ _ _),
      ↓forceCore_frame, ↓Outside.queue_of_aon (freezeVotes_frame _), ↓Outside.queue_update]

@[simp] theorem invertMeshes_frame (s) : Outside.warp (invertMeshes s) = Outside.warp s := by
  unfold invertMeshes
  simp only [↓startInversion_frame, ↓apply_ite Outside.warp, ite_self, ↓foldl_keeps Outside.warp, implies_true]

@[simp] theorem pixUp_frame (s) : Outside.powerUp (pixUp s) = Outside.powerUp s := by
  unfold pixUp
  simp only [↓Outside.powerUp_of_dict (dropVolatile_frame _ _), ↓Outside.powerUp_of_compose (rebuildSteps_frame _
      _), ↓Outside.powerUp_of_warp (invertMeshes_frame _), ↓Outside.powerUp_update, ↓apply_ite Outside.powerUp,
      ite_self, ↓foldl_keeps Outside.powerUp, implies_true]

@[simp] theorem domainUp_frame (d s) : Outside.work (domainUp d s) = Outside.work s := by
  unfold domainUp
  repeat' split
  all_goals simp only [↓coreUp_frame, ↓Outside.work_of_powerUp (pixUp_frame _), ↓Outside.work_of_dictUnits
      (linkUp_frame _), ↓Outside.work_of_dictSinks (auxUp_frame _)]

end Sys2Proof.Laws
end

