-- ==== Sys2Proof/Laws/Ports.lean ====
section
/-!
SUPPORT. Laws/Ports.lean: what the operations of Machine/Ports.lean leave alone, one lemma each.
-/

namespace Sys2Proof.Laws

open Sys2Proof Sys2Proof.Machine

@[simp] theorem sendFirstSettings_frame (p s) : Outside.link (sendFirstSettings p s) = Outside.link s := by
  unfold sendFirstSettings
  simp only [↓onLink_frame, ↓ctrl_frame]

@[simp] theorem sendTrain_frame (p pattern codes s) : Outside.link (sendTrain p pattern codes s) = Outside.link s
    := by
  unfold sendTrain
  simp only [↓ctrl_frame]

@[simp] theorem losePort_frame (p lasting s) : Outside.entry (losePort p lasting s) = Outside.entry s := by
  unfold losePort
  simp only [↓Outside.entry_of_link (onLink_frame _ _ _), ↓raiseKind_frame, ↓Outside.entry_of_records
      (clearCondition_frame _ _ _), ↓apply_ite Outside.entry, ite_self]

@[simp] theorem startBringUp_frame (p s) : Outside.linkPixelsToll (startBringUp p s) = Outside.linkPixelsToll s := by
  unfold startBringUp
  simp only [↓Outside.linkPixelsToll_of_link (onLink_frame _ _ _), ↓Outside.linkPixelsToll_of_toll (onModel_frame
      _ _ _), ↓Outside.linkPixelsToll_of_pixels (onPixels_frame _ _ _), ↓Outside.linkPixelsToll_of_link (ctrl_frame _
      _ _ _)]

@[simp] theorem beginBringUp_frame (p s) : Outside.linkPixelsToll (beginBringUp p s) = Outside.linkPixelsToll s := by
  unfold beginBringUp
  simp only [↓startBringUp_frame, ↓Outside.linkPixelsToll_of_link (onLink_frame _ _ _), ↓apply_ite
      Outside.linkPixelsToll, ite_self]

@[simp] theorem failBringUp_frame (p s) : Outside.entryPixelsToll (failBringUp p s) = Outside.entryPixelsToll s := by
  unfold failBringUp
  repeat' split
  all_goals simp only [↓Outside.entryPixelsToll_of_link (onLink_frame _ _ _), ↓Outside.entryPixelsToll_of_entry
      (losePort_frame _ _ _), ↓Outside.entryPixelsToll_of_linkPixelsToll (beginBringUp_frame _ _), ↓apply_ite
      Outside.entryPixelsToll, ite_self]

@[simp] theorem readReg_frame (p a s) : Outside.link (readReg p a s) = Outside.link s := by
  unfold readReg
  simp only [↓ctrl_frame]

@[simp] theorem sendSetLanes_frame (p band s) : Outside.link (sendSetLanes p band s) = Outside.link s := by
  unfold sendSetLanes
  simp only [↓ctrl_frame]

@[simp] theorem ackSkew_frame (p value s) : Outside.entryPixelsToll (ackSkew p value s) = Outside.entryPixelsToll
    s := by
  unfold ackSkew
  simp only [↓Outside.entryPixelsToll_of_link (onLink_frame _ _ _), ↓Outside.entryPixelsToll_of_link
      (readReg_frame _ _ _), ↓failBringUp_frame, ↓Outside.entryPixelsToll_of_link (sendSetLanes_frame _ _ _),
      ↓apply_ite Outside.entryPixelsToll, ite_self]

@[simp] theorem stopPort_frame (p s) : Outside.link (stopPort p s) = Outside.link s := by
  unfold stopPort
  simp only [↓sendHold_frame, ↓apply_ite Outside.link, ite_self]

@[simp] theorem judgeRate_frame (p s) : Outside.entry (judgeRate p s) = Outside.entry s := by
  unfold judgeRate
  simp only [↓Outside.entry_of_link (onLink_frame _ _ _), ↓raiseKind_frame, ↓Outside.entry_of_records
      (clearCondition_frame _ _ _), ↓apply_ite Outside.entry, ite_self]

@[simp] theorem remapPort_frame (p b s) : Outside.entry (remapPort p b s) = Outside.entry s := by
  unfold remapPort
  simp only [↓judgeRate_frame, ↓Outside.entry_of_link (onLink_frame _ _ _), ↓Outside.entry_of_link
      (sendSetLanes_frame _ _ _)]

@[simp] theorem remapBoundary_frame (b s) : Outside.entry (remapBoundary b s) = Outside.entry s := by
  unfold remapBoundary
  simp only [↓remapPort_frame, ↓Outside.entry_of_link (onLink_frame _ _ _), ↓apply_ite Outside.entry, ite_self,
      ↓foldl_keeps Outside.entry, implies_true]

@[simp] theorem trainCode_frame (p k s) : Outside.link (trainCode p k s) = Outside.link s := by
  unfold trainCode
  simp only [↓onLink_frame, ↓sendTrain_frame]

@[simp] theorem sweepErrors_frame (s) : Outside.free (sweepErrors s).2 = Outside.free s := by
  unfold sweepErrors
  exact foldl_keeps (h := fun r : List Nat × State => Outside.free r.2)
    (g := fun r (_ : Nat) => (r.1 ++ [(drawFree r.2).1], (drawFree r.2).2)) (fun r _ => drawFree_frame r.2) _ ([], s)

@[simp] theorem chooseCtle_frame (p s) : Outside.records (chooseCtle p s) = Outside.records s := by
  unfold chooseCtle
  simp only [↓Outside.records_of_link (onLink_frame _ _ _), ↓Outside.records_of_free (sweepErrors_frame _),
      ↓apply_ite Outside.records, ite_self]

@[simp] theorem ackReset_frame (p value s) : Outside.entryPixelsToll (ackReset p value s) =
    Outside.entryPixelsToll s := by
  unfold ackReset
  repeat' split
  all_goals simp only [↓Outside.entryPixelsToll_of_link (readReg_frame _ _ _), ↓Outside.entryPixelsToll_of_link
      (onLink_frame _ _ _), ↓Outside.entryPixelsToll_of_link (trainCode_frame _ _ _),
      ↓Outside.entryPixelsToll_of_records (chooseCtle_frame _ _), ↓failBringUp_frame]

@[simp] theorem enterService_frame (p s) : Outside.link (enterService p s) = Outside.link s := by
  unfold enterService
  simp only [↓onLink_frame, ↓apply_ite Outside.link, ite_self]

@[simp] theorem ackDiagnostics_frame (p s) : Outside.link (ackDiagnostics p s) = Outside.link s := by
  unfold ackDiagnostics
  simp only [↓onLink_frame, ↓sendFirstSettings_frame, ↓apply_ite Outside.link, ite_self]

@[simp] theorem clearLoss_frame (p s) : Outside.records (clearLoss p s) = Outside.records s := by
  unfold clearLoss
  simp only [↓clearCondition_frame, ↓Outside.records_of_link (onLink_frame _ _ _), ↓apply_ite Outside.records,
      ite_self]

@[simp] theorem remapHeld_frame (p s) : Outside.entry (remapHeld p s) = Outside.entry s := by
  unfold remapHeld
  simp only [↓Outside.entry_of_link (onLink_frame _ _ _), ↓remapPort_frame, ↓apply_ite Outside.entry, ite_self]

@[simp] theorem failLane_frame (p lane s) : Outside.entry (failLane p lane s) = Outside.entry s := by
  unfold failLane
  simp only [↓Outside.entry_of_link (onLink_frame _ _ _), ↓raiseKind_frame, ↓losePort_frame, ↓apply_ite
      Outside.entry, ite_self]

@[simp] theorem laneFailure_frame (p lane s) : Outside.entry (laneFailure p lane s) = Outside.entry s := by
  unfold laneFailure
  simp only [↓remapHeld_frame, ↓failLane_frame]

@[simp] theorem bringUpIfReady_frame (p s) : Outside.linkPixelsToll (bringUpIfReady p s) = Outside.linkPixelsToll
    s := by
  unfold bringUpIfReady
  repeat' split
  all_goals simp only [↓beginBringUp_frame]

@[simp] theorem ackSweep_frame (p value s) : Outside.link (ackSweep p value s) = Outside.link s := by
  unfold ackSweep
  simp only [↓readReg_frame, ↓onLink_frame, ↓trainCode_frame, ↓apply_ite Outside.link, ite_self]

@[simp] theorem writeReg_frame (p a v s) : Outside.link (writeReg p a v s) = Outside.link s := by
  unfold writeReg
  simp only [↓ctrl_frame]

@[simp] theorem writeDiagnostics_frame (p s) : Outside.linkPixels (writeDiagnostics p s) = Outside.linkPixels s := by
  unfold writeDiagnostics
  simp only [↓Outside.linkPixels_of_link (writeReg_frame _ _ _ _), ↓Outside.linkPixels_of_pixels (onPixels_frame _
      _ _), ↓foldl_keeps Outside.linkPixels, implies_true]

@[simp] theorem uploadTrims_frame (p s) : Outside.link (uploadTrims p s) = Outside.link s := by
  unfold uploadTrims
  simp only [↓onLink_frame]

@[simp] theorem bringUpAck_frame (p value s) : Outside.entryPixelsToll (bringUpAck p value s) =
    Outside.entryPixelsToll s := by
  unfold bringUpAck
  repeat' split
  all_goals simp only [↓ackReset_frame, ↓Outside.entryPixelsToll_of_link (ackSweep_frame _ _ _), ↓ackSkew_frame,
      ↓Outside.entryPixelsToll_of_linkPixels (writeDiagnostics_frame _ _), ↓Outside.entryPixelsToll_of_link
      (uploadTrims_frame _ _), ↓Outside.entryPixelsToll_of_link (onLink_frame _ _ _), ↓Outside.entryPixelsToll_of_link
      (ackDiagnostics_frame _ _), ↓Outside.entryPixelsToll_of_link (sendStart_frame _ _ _)]

@[simp] theorem resumePort_frame (p s) : Outside.entryPixelsToll (resumePort p s) = Outside.entryPixelsToll s := by
  unfold resumePort
  simp only [↓Outside.entryPixelsToll_of_link (sendStart_frame _ _ _), ↓Outside.entryPixelsToll_of_records
      (clearLoss_frame _ _), ↓Outside.entryPixelsToll_of_linkPixelsToll (bringUpIfReady_frame _ _), ↓apply_ite
      Outside.entryPixelsToll, ite_self]

end Sys2Proof.Laws
end

