-- ==== Sys2Proof/Laws/Update.lean ====
section
/-!
SUPPORT. Laws/Update.lean: what the operations of Machine/Update.lean leave alone, one lemma each.
-/

namespace Sys2Proof.Laws

open Sys2Proof Sys2Proof.Machine

@[simp] theorem onUpdate_frame (f s) : Outside.update (onUpdate f s) = Outside.update s := by
  unfold onUpdate
  simp only [↓Outside.update_update]

@[simp] theorem respondSvc_frame (src op tag status rest s) : Outside.caravanUpdate (respondSvc src op tag status
    rest s) = Outside.caravanUpdate s := by
  unfold respondSvc
  repeat' split
  all_goals simp only [↓Outside.caravanUpdate_of_update (onUpdate_frame _ _), ↓Outside.caravanUpdate_of_caravan
      (queueStream_frame _ _ _)]

@[simp] theorem closeUpdate_frame (s) : Outside.update (closeUpdate s) = Outside.update s := by
  unfold closeUpdate
  simp only [↓onUpdate_frame]

@[simp] theorem doClose_frame (f s) : Outside.caravanUpdate (doClose f s) = Outside.caravanUpdate s := by
  unfold doClose
  simp only [↓respondSvc_frame, ↓Outside.caravanUpdate_of_update (closeUpdate_frame _), ↓apply_ite
      Outside.caravanUpdate, ite_self]

@[simp] theorem restartLs_frame (p cause s) : Outside.entryUnits (restartLs p cause s) = Outside.entryUnits s := by
  unfold restartLs
  repeat' split
  all_goals simp only [↓Outside.entryUnits_of_link (stopPort_frame _ _),
      ↓Outside.entryUnits_of_aonCaravanFaultsFreeHost (closeWrapper_frame _ _), ↓Outside.entryUnits_of_aonFree
      (writeBoot_frame _ _ _), ↓Outside.entryUnits_of_units (onUnits_frame _ _)]

@[simp] theorem dropRingVote_frame (s) : Outside.queue (dropRingVote s) = Outside.queue s := by
  unfold dropRingVote
  simp only [↓afterWithdrawal_frame, ↓Outside.queue_of_power (onVotes_frame _ _), ↓apply_ite Outside.queue, ite_self]

@[simp] theorem castRingVote_frame (s) : Outside.power (castRingVote s) = Outside.power s := by
  unfold castRingVote
  simp only [↓onVotes_frame]

@[simp] theorem settleRelayVote_frame (s) : Outside.queue (settleRelayVote s) = Outside.queue s := by
  unfold settleRelayVote
  simp only [↓dropRingVote_frame, ↓Outside.queue_of_power (castRingVote_frame _), ↓apply_ite Outside.queue, ite_self]

@[simp] theorem answerRelay_frame (r status bs s) : Outside.host (answerRelay r status bs s) = Outside.host s := by
  unfold answerRelay
  simp only [↓answerCan_frame]

@[simp] theorem abortRelays_frame (status s) : Outside.queue (abortRelays status s) = Outside.queue s := by
  unfold abortRelays
  simp only [↓settleRelayVote_frame, ↓Outside.queue_of_host (answerRelay_frame _ _ _ _), ↓Outside.queue_of_caravan
      (onRing_frame _ _), ↓foldl_keeps Outside.queue, implies_true]

@[simp] theorem waybillAll_frame (s) : Outside.aonCaravanFaultsFreeHost (waybillAll s) =
    Outside.aonCaravanFaultsFreeHost s := by
  unfold waybillAll
  simp only [↓sendWaybill_frame, ↓Outside.aonCaravanFaultsFreeHost_update, ↓foldl_keeps
      Outside.aonCaravanFaultsFreeHost, implies_true]

@[simp] theorem restartCp_frame (cause s) : Outside.queue (restartCp cause s) = Outside.queue s := by
  unfold restartCp
  simp only [↓abortRelays_frame, ↓Outside.queue_of_entryManifestScanShade (busyRequests_frame _),
      ↓Outside.queue_of_aonCaravanFaultsFreeHost (waybillAll_frame _), ↓Outside.queue_of_units (onUnits_frame _ _),
      ↓Outside.queue_of_power (onVotes_frame _ _), ↓Outside.queue_of_access (closeSession_frame _),
      ↓Outside.queue_of_aonFree (writeBoot_frame _ _ _), ↓Outside.queue_of_power (onPower_frame _ _),
      ↓Outside.queue_of_update (onUpdate_frame _ _), ↓Outside.queue_update]

@[simp] theorem finishActivation_frame (s) : Outside.nvmUpdate (finishActivation s) = Outside.nvmUpdate s := by
  unfold finishActivation
  simp only [↓Outside.nvmUpdate_of_update (onUpdate_frame _ _), ↓Outside.nvmUpdate_update, ↓apply_ite
      Outside.nvmUpdate, ite_self]

@[simp] theorem advanceActivation_frame (s) : Outside.queue (advanceActivation s) = Outside.queue s := by
  unfold advanceActivation
  repeat' split
  all_goals simp only [↓Outside.queue_of_update (onUpdate_frame _ _), ↓Outside.queue_of_entryUnits
      (restartLs_frame _ _ _), ↓restartCp_frame, ↓Outside.queue_of_nvmUpdate (finishActivation_frame _)]

@[simp] theorem closeHeldBy_frame (src s) : Outside.update (closeHeldBy src s) = Outside.update s := by
  unfold closeHeldBy
  simp only [↓closeUpdate_frame, ↓apply_ite Outside.update, ite_self]

@[simp] theorem doOpen_frame (f s) : Outside.caravanNvmUpdate (doOpen f s) = Outside.caravanNvmUpdate s := by
  unfold doOpen
  repeat' split
  all_goals simp only [↓Outside.caravanNvmUpdate_of_caravanUpdate (respondSvc_frame _ _ _ _ _ _),
      ↓Outside.caravanNvmUpdate_of_nvm (putSlot_frame _ _ _), ↓Outside.caravanNvmUpdate_of_update (onUpdate_frame _
      _), ↓apply_ite Outside.caravanNvmUpdate, ite_self]

@[simp] theorem doWrite_frame (f s) : Outside.caravanNvmUpdate (doWrite f s) = Outside.caravanNvmUpdate s := by
  unfold doWrite
  repeat' split
  all_goals simp only [↓Outside.caravanNvmUpdate_of_caravanUpdate (respondSvc_frame _ _ _ _ _ _),
      ↓Outside.caravanNvmUpdate_of_nvm (putSlot_frame _ _ _), ↓apply_ite Outside.caravanNvmUpdate, ite_self]

@[simp] theorem doStatus_frame (f s) : Outside.caravanUpdate (doStatus f s) = Outside.caravanUpdate s := by
  unfold doStatus
  simp only [↓respondSvc_frame, ↓apply_ite Outside.caravanUpdate, ite_self]

@[simp] theorem doFinish_frame (f s) : Outside.caravanNvmUpdate (doFinish f s) = Outside.caravanNvmUpdate s := by
  unfold doFinish
  repeat' split
  all_goals simp only [↓Outside.caravanNvmUpdate_of_caravanUpdate (respondSvc_frame _ _ _ _ _ _),
      ↓Outside.caravanNvmUpdate_of_nvm (putSlot_frame _ _ _), ↓apply_ite Outside.caravanNvmUpdate, ite_self]

@[simp] theorem startActivation_frame (n s) : Outside.queue (startActivation n s) = Outside.queue s := by
  unfold startActivation
  simp only [↓Outside.queue_of_update (closeUpdate_frame _), ↓advanceActivation_frame, ↓Outside.queue_of_update
      (onUpdate_frame _ _), ↓Outside.queue_of_nvm (putBank_frame _ _ _), ↓apply_ite Outside.queue, ite_self]

@[simp] theorem doActivate_frame (f s) : Outside.queue (doActivate f s) = Outside.queue s := by
  unfold doActivate
  simp only [↓Outside.queue_of_caravanUpdate (respondSvc_frame _ _ _ _ _ _), ↓startActivation_frame, ↓apply_ite
      Outside.queue, ite_self]

@[simp] theorem doSetRate_frame (f s) : Outside.caravanUpdate (doSetRate f s) = Outside.caravanUpdate s := by
  unfold doSetRate
  simp only [↓respondSvc_frame, ↓Outside.caravanUpdate_of_update (onUpdate_frame _ _), ↓apply_ite
      Outside.caravanUpdate, ite_self]

@[simp] theorem doRelaySelect_frame (f s) : Outside.caravanUpdate (doRelaySelect f s) = Outside.caravanUpdate s := by
  unfold doRelaySelect
  simp only [↓respondSvc_frame, ↓Outside.caravanUpdate_of_update (onUpdate_frame _ _), ↓apply_ite
      Outside.caravanUpdate]
  repeat' split
  all_goals simp only [↓respondSvc_frame, ↓Outside.caravanUpdate_of_update (onUpdate_frame _ _),
      ↓Outside.caravanUpdate_of_caravan (queueCredit_frame _ _ _), ↓Outside.caravanUpdate_of_caravan (onRing_frame _
      _)]

@[simp] theorem sessionOp_frame (op f s) : Outside.queue (sessionOp op f s) = Outside.queue s := by
  unfold sessionOp
  repeat' split
  all_goals simp only [↓Outside.queue_of_caravanNvmUpdate (doOpen_frame _ _), ↓Outside.queue_of_caravanNvmUpdate
      (doWrite_frame _ _), ↓Outside.queue_of_caravanNvmUpdate (doFinish_frame _ _), ↓doActivate_frame,
      ↓Outside.queue_of_caravanUpdate (doStatus_frame _ _), ↓Outside.queue_of_caravanUpdate (doClose_frame _ _),
      ↓Outside.queue_of_caravanUpdate (doSetRate_frame _ _), ↓Outside.queue_of_caravanUpdate (doRelaySelect_frame _
      _), ↓Outside.queue_of_caravanUpdate (respondSvc_frame _ _ _ _ _ _)]

@[simp] theorem receiveFrame_frame (op f s) : Outside.queue (receiveFrame op f s) = Outside.queue s := by
  unfold receiveFrame
  repeat' split
  all_goals simp only [↓Outside.queue_of_caravanUpdate (respondSvc_frame _ _ _ _ _ _), ↓Outside.queue_of_caravan
      (queueStream_frame _ _ _), ↓sessionOp_frame, ↓apply_ite Outside.queue, ite_self]

@[simp] theorem activationBoundary_frame (s) : Outside.queue (activationBoundary s) = Outside.queue s := by
  unfold activationBoundary
  repeat' split
  all_goals simp only [↓advanceActivation_frame]

@[simp] theorem stopActivation_frame (s) : Outside.update (stopActivation s) = Outside.update s := by
  unfold stopActivation
  simp only [↓onUpdate_frame]

end Sys2Proof.Laws
end

