-- ==== Sys2Proof/Laws/Processors.lean ====
section
/-!
SUPPORT. Laws/Processors.lean: what the operations of Machine/Processors.lean leave alone, one lemma each.
-/

namespace Sys2Proof.Laws

open Sys2Proof Sys2Proof.Machine

@[simp] theorem restoreMode_frame (s) : Outside.manifest (restoreMode s) = Outside.manifest s := by
  unfold restoreMode
  simp only [↓startModeChange_frame, ↓onManifest_frame, ↓apply_ite Outside.manifest, ite_self]

@[simp] theorem restoreSinks_frame (s) : Outside.sinks (restoreSinks s) = Outside.sinks s := by
  unfold restoreSinks
  simp only [↓Outside.sinks_update]

@[simp] theorem loadSurface_frame (s x1) : Outside.service (loadSurface s x1) = Outside.service s := by
  unfold loadSurface
  simp only [↓Outside.service_of_dict (setCfg_frame _ _ _ _), ↓Outside.service_of_fetch (finishPin_frame _ _),
      ↓apply_ite Outside.service, ite_self]
  repeat' split
  all_goals simp only [↓Outside.service_of_dict (setCfg_frame _ _ _ _), ↓Outside.service_of_fetch (finishPin_frame
      _ _), ↓Outside.service_update, ↓apply_ite Outside.service, ite_self, ↓foldl_keeps Outside.service, implies_true]

@[simp] theorem goOn_frame (p s) : Outside.queue (goOn p s) = Outside.queue s := by
  unfold goOn
  simp only [↓advanceActivation_frame, ↓apply_ite Outside.queue, ite_self]

@[simp] theorem activationAfterLs_frame (p slot s) : Outside.nvmUpdate (activationAfterLs p slot s) =
    Outside.nvmUpdate s := by
  unfold activationAfterLs
  simp only [↓Outside.nvmUpdate_of_update (stopActivation_frame _), ↓Outside.nvmUpdate_update, ↓apply_ite
      Outside.nvmUpdate, ite_self]

@[simp] theorem spoilPixel_frame (status pixel s) : Outside.drivePixels (spoilPixel status pixel s) =
    Outside.drivePixels s := by
  unfold spoilPixel
  simp only [↓repairPixels_frame, ↓Outside.drivePixels_update, ↓apply_ite Outside.drivePixels, ite_self]

@[simp] theorem recopySafeBeam_frame (p s) : Outside.powerUp2 (recopySafeBeam p s) = Outside.powerUp2 s := by
  unfold recopySafeBeam
  simp only [↓Outside.powerUp2_of_link (dropEnables_frame _), ↓Outside.powerUp2_update]

@[simp] theorem handleSram_frame (region s) : Outside.queue (handleSram region s) = Outside.queue s := by
  unfold handleSram
  repeat' split
  all_goals first | simp only [↓Outside.queue_of_compose (onCompose_frame _ _),
      ↓Outside.queue_of_entryComposeDriveFetch (spoilLayer_frame _ _ _ _), ↓Outside.queue_of_drivePixels
      (spoilPixel_frame _ _ _), ↓Outside.queue_of_entryComposeManifestUnits (stallComposer_frame _), ↓restartCp_frame,
      ↓Outside.queue_of_entry (raiseKind_frame _ _ _), ↓Outside.queue_of_powerUp2 (recopySafeBeam_frame _ _)] | rfl

@[simp] theorem dropWakeKeys_frame (s) : Outside.dict (dropWakeKeys s) = Outside.dict s := by
  unfold dropWakeKeys
  simp only [↓Outside.dict_update]

@[simp] theorem restoreZoneCodes_frame (s) : Outside.dict (restoreZoneCodes s) = Outside.dict s := by
  unfold restoreZoneCodes
  simp only [↓defaultObjects_frame, ↓apply_ite Outside.dict, ite_self, ↓foldl_keeps Outside.dict, implies_true]

@[simp] theorem latchCanvas_frame (s) : Outside.dict (latchCanvas s) = Outside.dict s := by
  unfold latchCanvas
  simp only [↓Outside.dict_update, ↓apply_ite Outside.dict, ite_self]

@[simp] theorem restoreCorrections_frame (s) : Outside.composeDriveFetch (restoreCorrections s) =
    Outside.composeDriveFetch s := by
  unfold restoreCorrections
  simp only [↓Outside.composeDriveFetch_of_compose (rebuildSteps_frame _ _), ↓Outside.composeDriveFetch_of_drive
      (onFullScale_frame _ _ _), ↓foldl_keeps Outside.composeDriveFetch, implies_true]

@[simp] theorem restoreRate_frame (s) : Outside.scan (restoreRate s) = Outside.scan s := by
  unfold restoreRate
  simp only [↓Outside.scan_update]

@[simp] theorem repairOptions_frame (s) : Outside.nvm (repairOptions s) = Outside.nvm s := by
  unfold repairOptions
  simp only [↓Outside.nvm_update, ↓apply_ite Outside.nvm, ite_self]

@[simp] theorem coldBoot_frame (s0) : Outside.service (coldBoot s0) = Outside.service s0 := by
  unfold coldBoot
  repeat' split
  all_goals simp only [↓Outside.service_of_dict (dropWakeKeys_frame _), ↓Outside.service_of_dict
      (restoreZoneCodes_frame _), ↓Outside.service_of_dict (latchCanvas_frame _), ↓Outside.service_of_dict
      (restoreObjects_frame _ _), ↓Outside.service_of_warp (invertMeshes_frame _),
      ↓Outside.service_of_composeDriveFetch (restoreCorrections_frame _), ↓Outside.service_of_manifest
      (restoreMode_frame _), ↓Outside.service_of_scan (restoreRate_frame _), ↓Outside.service_of_nvm
      (repairOptions_frame _), ↓Outside.service_of_update (onUpdate_frame _ _)]

@[simp] theorem cpUp_frame (s) : Outside.service (cpUp s) = Outside.service s := by
  unfold cpUp
  simp only [↓Outside.service_of_sinks (restoreSinks_frame _), ↓coldBoot_frame, ↓Outside.service_of_drivePixels
      (treatWaiting_frame _), ↓Outside.service_of_units (onUnits_frame _ _), ↓apply_ite Outside.service, ite_self]

@[simp] theorem resumeCommit_frame (s) : Outside.aonJournalNvm (resumeCommit s) = Outside.aonJournalNvm s := by
  unfold resumeCommit
  repeat' split
  all_goals simp only [↓Outside.aonJournalNvm_of_journalNvm (runCommit_frame _ _), ↓Outside.aonJournalNvm_update]

@[simp] theorem endBoot_frame (s) : Outside.queue (endBoot s) = Outside.queue s := by
  unfold endBoot
  simp only [↓afterWithdrawal_frame, ↓apply_ite Outside.queue, ite_self]

@[simp] theorem breakActivation_frame (s) : Outside.update (breakActivation s) = Outside.update s := by
  unfold breakActivation
  simp only [↓stopActivation_frame, ↓apply_ite Outside.update, ite_self]

@[simp] theorem activationAfterBoot_frame (slot s) : Outside.nvmUpdate (activationAfterBoot slot s) =
    Outside.nvmUpdate s := by
  unfold activationAfterBoot
  repeat' split
  all_goals simp only [↓finishActivation_frame, ↓Outside.nvmUpdate_of_update (breakActivation_frame _),
      ↓Outside.nvmUpdate_update]

@[simp] theorem cpStarted_frame (slot s) : Outside.queue (cpStarted slot s) = Outside.queue s := by
  unfold cpStarted
  repeat' split
  all_goals simp only [↓endBoot_frame, ↓Outside.queue_of_nvmUpdate (activationAfterBoot_frame _ _),
      ↓Outside.queue_of_units (onUnits_frame _ _), ↓Outside.queue_of_service (cpUp_frame _)]

@[simp] theorem smBoot_frame (reads s) : Outside.entryUpdate (smBoot reads s).2 = Outside.entryUpdate s := by
  unfold smBoot
  split
  · simp only [↓bootCheck_frame]
  · next n _ =>
    have h := runCheck_frame 1 7 n true (if n = 0 then reads.fail0 else reads.fail1) s
    split
    · next e => rw [e] at h; rw [← h]; simp only [↓Outside.entryUpdate_of_update (onUpdate_frame _ _),
        ↓Outside.entryUpdate_update]
    · next e => rw [e] at h; rw [← h]; simp only [↓bootCheck_frame]

@[simp] theorem recoveryStarted_frame (s) : Outside.queue (recoveryStarted s) = Outside.queue s := by
  unfold recoveryStarted
  simp only [↓endBoot_frame, ↓Outside.queue_of_update (breakActivation_frame _), ↓Outside.queue_of_units
      (onUnits_frame _ _), ↓Outside.queue_of_service (cpUp_frame _)]

end Sys2Proof.Laws
end

