-- ==== Sys2Proof/Laws/Applied.lean ====
section
/-!
SUPPORT. Laws/Applied.lean: what the operations of Machine/Applied.lean leave alone, one lemma each.
-/

namespace Sys2Proof.Laws

open Sys2Proof Sys2Proof.Machine

@[simp] theorem writeOwn_frame (index sub size v s) : Outside.entryDict (writeOwn index sub size v s) =
    Outside.entryDict s := by
  unfold writeOwn
  simp only [↓Outside.entryDict_of_entry (enqueueWrite_frame _ _), ↓Outside.entryDict_of_dict (setCfg_frame _ _ _ _)]

@[simp] theorem applyCurve_frame (p s) : Outside.service (applyCurve p s) = Outside.service s := by
  unfold applyCurve
  simp only [↓Outside.service_of_compose (rebuildSteps_frame _ _), ↓Outside.service_of_entryDict (writeOwn_frame _
      _ _ _ _), ↓apply_ite Outside.service, ite_self]

@[simp] theorem rebindStream_frame (k s) : Outside.host (rebindStream k s) = Outside.host s := by
  unfold rebindStream
  simp only [↓Outside.host_update]

@[simp] theorem applyEntry_frame (n v s) : Outside.almanac (applyEntry n v s) = Outside.almanac s := by
  unfold applyEntry
  simp only [↓Outside.almanac_update]

@[simp] theorem applyHooks_frame (index sub v s) : Outside.queue (applyHooks index sub v s) = Outside.queue s := by
  unfold applyHooks
  simp only [↓Outside.queue_of_warp (startInversion_frame _ _ _), ↓Outside.queue_of_manifest (restoreMode_frame
      _), ↓Outside.queue_of_service (applyCurve_frame _ _), ↓Outside.queue_of_drive (onFullScale_frame _ _ _),
      ↓settleRequest_frame, ↓Outside.queue_of_ceilingSafety (judgeCommissioning_frame _), ↓Outside.queue_of_scan
      (restoreRate_frame _), ↓Outside.queue_of_host (rebindStream_frame _ _), ↓Outside.queue_of_almanac
      (applyEntry_frame _ _ _), ↓Outside.queue_update, ↓apply_ite Outside.queue, ite_self]

@[simp] theorem applyValue_frame (index sub v s) : Outside.queue (applyValue index sub v s) = Outside.queue s := by
  unfold applyValue
  simp only [↓applyHooks_frame, ↓Outside.queue_of_dict (setCfg_frame _ _ _ _)]

@[simp] theorem refuseWrite_frame (status w s) : Outside.caravanHostJournal (refuseWrite status w s) =
    Outside.caravanHostJournal s := by
  unfold refuseWrite
  repeat' split
  all_goals simp only [↓answerWaiter_frame, ↓Outside.caravanHostJournal_update]

@[simp] theorem failWrite_frame (w s) : Outside.entry (failWrite w s) = Outside.entry s := by
  unfold failWrite
  simp only [↓Outside.entry_of_journal (checkFill_frame _), ↓Outside.entry_of_caravanHostJournal
      (refuseWrite_frame _ _ _), ↓raiseJournal_frame]

@[simp] theorem commitWrite_frame (w s) : Outside.queue (commitWrite w s) = Outside.queue s := by
  unfold commitWrite
  simp only [↓Outside.queue_of_journalNvm (appendRecord_frame _ _ _), ↓applyValue_frame, ↓Outside.queue_of_journal
      (checkFill_frame _), ↓Outside.queue_of_caravanHostJournal (answerWaiter_frame _ _ _), ↓Outside.queue_update,
      ↓apply_ite Outside.queue, ite_self]

@[simp] theorem spoilRecord_frame (w s) : Outside.nvm (spoilRecord w s) = Outside.nvm s := by
  unfold spoilRecord
  simp only [↓putActiveBank_frame]

@[simp] theorem completeLife_frame (s) : Outside.caravanHostJournalNvm (completeLife s) =
    Outside.caravanHostJournalNvm s := by
  unfold completeLife
  simp only [↓eraseForReturn_frame, ↓Outside.caravanHostJournalNvm_update, ↓apply_ite
      Outside.caravanHostJournalNvm, ite_self]

end Sys2Proof.Laws
end

