-- ==== Sys2Proof/Laws/Caravan.lean ====
section
/-!
SUPPORT. Laws/Caravan.lean: what the operations of Machine/Caravan.lean leave alone, one lemma each.
-/

namespace Sys2Proof.Laws

open Sys2Proof Sys2Proof.Machine

@[simp] theorem emitFrame_frame (p token data s) : Outside.caravan (emitFrame p token data s) = Outside.caravan s
    := by
  unfold emitFrame
  simp only [↓onRing_frame]

@[simp] theorem emitOwn_frame (s) : Outside.caravan (emitOwn s) = Outside.caravan s := by
  unfold emitOwn
  repeat' split
  all_goals simp only [↓emitFrame_frame]

@[simp] theorem enterRing_frame (f s) : Outside.caravan (enterRing f s) = Outside.caravan s := by
  unfold enterRing
  simp only [↓onRing_frame]

@[simp] theorem badFrame_frame (s) : Outside.caravan (badFrame s) = Outside.caravan s := by
  unfold badFrame
  simp only [↓onRing_frame]

@[simp] theorem takeWords_frame (f s) : Outside.caravan (takeWords f s) = Outside.caravan s := by
  unfold takeWords
  simp only [↓onRing_frame]

@[simp] theorem headFrame_frame (f s) : Outside.caravanFaults (headFrame f s) = Outside.caravanFaults s := by
  unfold headFrame
  repeat' split
  all_goals simp only [↓Outside.caravanFaults_of_caravan (badFrame_frame _), ↓Outside.caravanFaults_of_caravan
      (takeWords_frame _ _), ↓Outside.caravanFaults_of_caravan (onRing_frame _ _), ↓Outside.caravanFaults_of_faults
      (markPresent_frame _ _ _), ↓Outside.caravanFaults_of_faults (markAbsent_frame _ _ _)]

@[simp] theorem adoptEpoch_frame (new s) : Outside.aonFreeScan (adoptEpoch new s) = Outside.aonFreeScan s := by
  unfold adoptEpoch
  simp only [↓Outside.aonFreeScan_of_aonFree (writeEntry_frame _ _ _ _ _), ↓Outside.aonFreeScan_update]

@[simp] theorem compareEpoch_frame (f cap s) : Outside.entry (compareEpoch f cap s) = Outside.entry s := by
  unfold compareEpoch
  simp only [↓Outside.entry_of_caravan (onRing_frame _ _), ↓raiseKind_frame, ↓apply_ite Outside.entry, ite_self]

@[simp] theorem acceptToken_frame (p t f s) : Outside.entryScan (acceptToken p t f s) = Outside.entryScan s := by
  unfold acceptToken
  simp only [↓Outside.entryScan_of_entry (raiseKind_frame _ _ _), ↓Outside.entryScan_of_caravan (onRing_frame _
      _), ↓Outside.entryScan_of_aonFreeScan (adoptEpoch_frame _ _), ↓Outside.entryScan_of_entry (compareEpoch_frame _
      _ _), ↓Outside.entryScan_update, ↓apply_ite Outside.entryScan, ite_self]

@[simp] theorem tokenEvent_frame (p f s) : Outside.entryScan (tokenEvent p f s) = Outside.entryScan s := by
  unfold tokenEvent
  simp only [↓acceptToken_frame, ↓Outside.entryScan_update, ↓apply_ite Outside.entryScan, ite_self]

@[simp] theorem readToken_frame (f s) : Outside.caravan (readToken f s) = Outside.caravan s := by
  unfold readToken
  simp only [↓onRing_frame]

@[simp] theorem stationFrame_frame (f s) : Outside.entryScan (stationFrame f s) = Outside.entryScan s := by
  unfold stationFrame
  simp only [↓Outside.entryScan_of_caravan (badFrame_frame _), ↓Outside.entryScan_of_caravan (emitOwn_frame _),
      ↓apply_ite Outside.entryScan, ite_self]
  repeat' split
  all_goals simp only [↓Outside.entryScan_of_caravan (enterRing_frame _ _), ↓Outside.entryScan_of_caravan
      (onRing_frame _ _), ↓Outside.entryScan_of_caravan (takeWords_frame _ _), ↓tokenEvent_frame,
      ↓Outside.entryScan_of_faults (markAbsent_frame _ _ _), ↓Outside.entryScan_of_caravan (readToken_frame _ _),
      ↓Outside.entryScan_of_faults (markPresent_frame _ _ _), ↓Outside.entryScan_of_caravan (emitFrame_frame _ _ _ _)]

@[simp] theorem interruptRing_frame (state s) : Outside.queue (interruptRing state s) = Outside.queue s := by
  unfold interruptRing
  simp only [↓abortRelays_frame, ↓Outside.queue_of_update (closeHeldBy_frame _ _), ↓Outside.queue_of_caravan
      (onRing_frame _ _)]

@[simp] theorem relayArrived_frame (s) : Outside.power (relayArrived s) = Outside.power s := by
  unfold relayArrived
  simp only [↓castRingVote_frame, ↓apply_ite Outside.power, ite_self]

@[simp] theorem takeSession_frame (op f s) : Outside.queue (takeSession op f s) = Outside.queue s := by
  unfold takeSession
  simp only [↓receiveFrame_frame, ↓Outside.queue_of_update (onUpdate_frame _ _), ↓apply_ite Outside.queue, ite_self]

@[simp] theorem takeSessions_frame (a a1) : Outside.queue (takeSessions a a1) = Outside.queue a1 := by
  induction a generalizing a1 with
  | zero => rfl
  | succ n ih =>
    unfold takeSessions
    split
    · rw [ih]
      simp only [↓takeSession_frame, ↓Outside.queue_of_caravan (onRing_frame _ _)]
    · rfl

end Sys2Proof.Laws
end

