-- ==== Sys2Proof/Laws/Ddb.lean ====
section
/-!
SUPPORT. Laws/Ddb.lean: what the operations of Machine/Ddb.lean leave alone, one lemma each.
-/

namespace Sys2Proof.Laws

open Sys2Proof Sys2Proof.Machine

@[simp] theorem acceptDdb_frame (die frame s) : Outside.faults (acceptDdb die frame s) = Outside.faults s := by
  unfold acceptDdb
  repeat' split
  all_goals simp only [↓onDdb_frame]

@[simp] theorem owesNak_frame (die s) : Outside.faults (owesNak die s) = Outside.faults s := by
  unfold owesNak
  repeat' split
  all_goals simp only [↓ddbSend_frame]

@[simp] theorem bridgeHeard_frame (s) : Outside.records (bridgeHeard s) = Outside.records s := by
  unfold bridgeHeard
  simp only [↓clearCondition_frame]

@[simp] theorem breakRecord_frame (die s) : Outside.faults (breakRecord die s) = Outside.faults s := by
  unfold breakRecord
  repeat' split
  all_goals simp only [↓onDdb_frame]

@[simp] theorem sendsGood_frame (die s) : Outside.faults (sendsGood die s) = Outside.faults s := by
  unfold sendsGood
  repeat' split
  all_goals simp only [↓onDdb_frame]

@[simp] theorem onFaults_frame (f s) : Outside.faults (onFaults f s) = Outside.faults s := by
  unfold onFaults
  simp only [↓Outside.faults_update]

@[simp] theorem frameFailed_frame (die i s) : Outside.faults (frameFailed die i s) = Outside.faults s := by
  unfold frameFailed
  repeat' split
  all_goals simp only [↓onDdb_frame, ↓onFaults_frame]

@[simp] theorem recordFailed_frame (die i s) : Outside.faults (recordFailed die i s) = Outside.faults s := by
  unfold recordFailed
  simp only []
  repeat' split
  all_goals first | simp only [↓ddbSend_frame, ↓onDdb_frame, ↓onFaults_frame, ↓foldl_keeps Outside.faults,
      implies_true] | rfl

@[simp] theorem sendFailed_frame (die failed s) : Outside.faults (sendFailed die failed s) = Outside.faults s := by
  unfold sendFailed
  repeat' split
  all_goals first | simp only [↓frameFailed_frame, ↓recordFailed_frame] | rfl

@[simp] theorem raiseBridge_frame (die s) : Outside.entry (raiseBridge die s) = Outside.entry s := by
  unfold raiseBridge
  simp only []
  repeat' split
  all_goals first | simp only [↓raiseKind_frame, ↓Outside.entry_of_faultsHost (canWaybill_frame _ _ _),
      ↓Outside.entry_of_caravan (caravanWaybill_frame _ _), ↓Outside.entry_of_faults (onFaults_frame _ _)] | rfl

end Sys2Proof.Laws
end

