-- ==== Sys2Proof/Laws/FaultCommands.lean ====
section
/-!
SUPPORT. Laws/FaultCommands.lean: what the operations of Machine/FaultCommands.lean leave alone, one lemma each.
-/

namespace Sys2Proof.Laws

open Sys2Proof Sys2Proof.Machine

@[simp] theorem escalate_frame (k ms a s) : Outside.records (escalate k ms a s) = Outside.records s := by
  unfold escalate
  simp only [↓Outside.records_of_aonFree (writeEntry_frame _ _ _ _ _), ↓Outside.records_of_faultsLink
      (settle_frame _), ↓Outside.records_update]

@[simp] theorem thawLink_frame (s) : Outside.aonHkPowerSinksUnits (thawLink s) = Outside.aonHkPowerSinksUnits s := by
  unfold thawLink
  simp only [↓Outside.aonHkPowerSinksUnits_of_power (setDomain_frame _ _ _), ↓Outside.aonHkPowerSinksUnits_update,
      ↓apply_ite Outside.aonHkPowerSinksUnits, ite_self]

@[simp] theorem returnSupply_frame (s) : Outside.queue (returnSupply s) = Outside.queue s := by
  unfold returnSupply
  simp only [↓Outside.queue_of_aonHkPowerSinksUnits (thawLink_frame _), ↓Outside.queue_of_power (onPower_frame _
      _), ↓thaw_frame, ↓Outside.queue_update, ↓apply_ite Outside.queue, ite_self]

@[simp] theorem remeasureRing_frame (s) : Outside.caravan (remeasureRing s) = Outside.caravan s := by
  unfold remeasureRing
  simp only [↓onRing_frame]

@[simp] theorem afterExit_frame (k s) : Outside.queue (afterExit k s) = Outside.queue s := by
  unfold afterExit
  simp only [↓returnSupply_frame, ↓Outside.queue_of_caravan (remeasureRing_frame _),
      ↓Outside.queue_of_linkPixelsToll (bringUpIfReady_frame _ _), ↓apply_ite Outside.queue, ite_self]

@[simp] theorem endQuiet_frame (a s) : Outside.queue (endQuiet a s) = Outside.queue s := by
  unfold endQuiet
  repeat' split
  all_goals simp only [↓Outside.queue_of_safety (onSafety_frame _ _), ↓afterExit_frame, ↓Outside.queue_of_records
      (recoverKind_frame _ _ _)]

@[simp] theorem countSram_frame (words s) : Outside.sramCorrected (countSram words s) = Outside.sramCorrected s := by
  unfold countSram
  simp only [↓Outside.sramCorrected_update, ↓apply_ite Outside.sramCorrected, ite_self]

@[simp] theorem releaseLatch_frame (k s) : Outside.queue (releaseLatch k s) = Outside.queue s := by
  unfold releaseLatch
  simp only [↓afterExit_frame, ↓Outside.queue_of_records (clearLatch_frame _ _), ↓apply_ite Outside.queue, ite_self]

end Sys2Proof.Laws
end

