-- ==== Sys2Proof/Laws/Frame.lean ====
section
/-!
SUPPORT. Laws/Frame.lean: what the operations of Machine/Frame.lean leave alone, one lemma each.
-/

namespace Sys2Proof.Laws

open Sys2Proof Sys2Proof.Machine

@[simp] theorem subPeriodStart_frame (s) : Outside.drive (subPeriodStart s) = Outside.drive s := by
  unfold subPeriodStart
  simp only [↓Outside.drive_update]

@[simp] theorem frameExcluded_frame (s) : Outside.safeBeam (frameExcluded s) = Outside.safeBeam s := by
  unfold frameExcluded
  simp only [↓Outside.safeBeam_update, ↓apply_ite Outside.safeBeam, ite_self]

@[simp] theorem writeChanged_frame (p old s) : Outside.linkPixels (writeChanged p old s) = Outside.linkPixels s := by
  unfold writeChanged
  simp only [↓Outside.linkPixels_of_link (writeReg_frame _ _ _ _), ↓Outside.linkPixels_of_pixels (onPixels_frame _
      _ _), ↓apply_ite Outside.linkPixels, ite_self]

@[simp] theorem diagnosticBoundary_frame (s) : Outside.poweredDown (diagnosticBoundary s) = Outside.poweredDown s
    := by
  unfold diagnosticBoundary
  simp only [↓Outside.poweredDown_of_linkPixels (writeChanged_frame _ _ _), ↓Outside.poweredDown_of_drivePixels
      (concealAll_frame _), ↓Outside.poweredDown_update, ↓apply_ite Outside.poweredDown, ite_self, ↓foldl_keeps
      Outside.poweredDown, implies_true]

@[simp] theorem openReport_frame (band s) : Outside.pixels (openReport band s) = Outside.pixels s := by
  unfold openReport
  simp only [↓Outside.pixels_update]

@[simp] theorem frameCeiling_frame (badLut s) : Outside.line (frameCeiling badLut s) = Outside.line s := by
  unfold frameCeiling
  simp only [↓Outside.line_of_ceiling (ceilingBoundary_frame _), ↓clearByCeiling_frame,
      ↓Outside.line_of_entryCeiling (badTable_frame _), ↓apply_ite Outside.line, ite_self]

@[simp] theorem repairBoundary_frame (s) : Outside.drivePixels (repairBoundary s) = Outside.drivePixels s := by
  unfold repairBoundary
  simp only [↓repairPixels_frame, ↓apply_ite Outside.drivePixels, ite_self]

@[simp] theorem endSafeUntilCommit_frame (s) : Outside.recordsHostManifestScanShade (endSafeUntilCommit s) =
    Outside.recordsHostManifestScanShade s := by
  unfold endSafeUntilCommit
  simp only [↓Outside.recordsHostManifestScanShade_of_records (clearCondition_frame _ _ _),
      ↓Outside.recordsHostManifestScanShade_of_manifest (onManifest_frame _ _), ↓apply_ite
      Outside.recordsHostManifestScanShade, ite_self]

@[simp] theorem endEighth_frame (s) : Outside.slot (endEighth s) = Outside.slot s := by
  unfold endEighth
  simp only [↓Outside.slot_of_scan (advanceClocks_frame _ _), ↓Outside.slot_update, ↓apply_ite Outside.slot, ite_self]

@[simp] theorem openLine_frame (s) : Outside.link (openLine s) = Outside.link s := by
  unfold openLine
  simp only [↓Outside.link_update]

@[simp] theorem showSafe_frame (p s) : Outside.headroomLink (showSafe p s) = Outside.headroomLink s := by
  unfold showSafe
  simp only [↓Outside.headroomLink_of_headroom (raiseSupply_frame _ _ _ _), ↓Outside.headroomLink_of_link
      (onLink_frame _ _ _)]

@[simp] theorem takeSafe_frame (s) : Outside.headroomLink (takeSafe s) = Outside.headroomLink s := by
  unfold takeSafe
  simp only [↓showSafe_frame, ↓Outside.headroomLink_of_link (dropEnables_frame _), ↓apply_ite
      Outside.headroomLink, ite_self, ↓foldl_keeps Outside.headroomLink, implies_true]

@[simp] theorem noteScanned_frame (p changed s) : Outside.compose (noteScanned p changed s) = Outside.compose s := by
  unfold noteScanned
  simp only [↓onZones_frame, ↓foldl_keeps Outside.compose, implies_true]

@[simp] theorem noteSeed_frame (s) : Outside.drive (noteSeed s) = Outside.drive s := by
  unfold noteSeed
  simp only [↓Outside.drive_update, ↓apply_ite Outside.drive, ite_self]

@[simp] theorem lineStart_frame (before s0) : Outside.line3 (lineStart before s0) = Outside.line3 s0 := by
  unfold lineStart
  simp only [↓Outside.line3_of_headroomLink (takeSafe_frame _), ↓Outside.line3_of_compose (noteScanned_frame _ _
      _), ↓Outside.line3_of_link (onLink_frame _ _ _), ↓Outside.line3_of_drive (noteSeed_frame _),
      ↓Outside.line3_update, ↓foldl_keeps Outside.line3, implies_true]

@[simp] theorem completeOlder_frame (s) : Outside.line (completeOlder s) = Outside.line s := by
  unfold completeOlder
  repeat' split
  all_goals simp only [inRun, ↓Outside.line_of_compose (onCompose_frame _ _), ↓Outside.line_of_composeDriveFetch
      (enterRun_frame _ _), ↓composeHalf_frame, ↓foldl_keeps Outside.line, implies_true]

@[simp] theorem lineAndSeed_frame (before s) : Outside.line2 (lineAndSeed before s) = Outside.line2 s := by
  unfold lineAndSeed
  simp only [↓Outside.line2_of_drive (subPeriodStart_frame _), ↓Outside.line2_of_line3 (lineStart_frame _ _),
      ↓Outside.line2_of_line (completeOlder_frame _), ↓apply_ite Outside.line2, ite_self]

@[simp] theorem nextEpoch_frame (s) : Outside.entryScan (nextEpoch s) = Outside.entryScan s := by
  unfold nextEpoch
  repeat' split
  all_goals simp only [↓Outside.entryScan_of_aonFreeScan (adoptEpoch_frame _ _), ↓Outside.entryScan_update]

@[simp] theorem endScanned_frame (s) : Outside.compose (endScanned s) = Outside.compose s := by
  unfold endScanned
  simp only [↓onCompose_frame]

@[simp] theorem latchSettings_frame (s) : Outside.service (latchSettings s) = Outside.service s := by
  unfold latchSettings
  simp only [↓Outside.service_update]

@[simp] theorem discardPaused_frame (s) : Outside.queue (discardPaused s) = Outside.queue s := by
  unfold discardPaused
  simp only [↓endCalStep_frame, ↓Outside.queue_update, ↓apply_ite Outside.queue, ite_self]

@[simp] theorem restoreDivergence_frame (s) : Outside.entryComposeDrive (restoreDivergence s) =
    Outside.entryComposeDrive s := by
  unfold restoreDivergence
  simp only [↓Outside.entryComposeDrive_of_faults (handleKind_frame _ _), ↓Outside.entryComposeDrive_of_compose
      (rebuildSteps_frame _ _), ↓Outside.entryComposeDrive_of_drive (onFullScale_frame _ _ _), ↓apply_ite
      Outside.entryComposeDrive, ite_self, ↓foldl_keeps Outside.entryComposeDrive, implies_true]

@[simp] theorem clearFrameMarks_frame (s) : Outside.composeHeadroom (clearFrameMarks s) = Outside.composeHeadroom
    s := by
  unfold clearFrameMarks
  simp only [↓Outside.composeHeadroom_update]

@[simp] theorem announceRate_frame (s) : Outside.link (announceRate s) = Outside.link s := by
  unfold announceRate
  repeat' split
  all_goals simp only [↓ctrl_frame, ↓apply_ite Outside.link, ite_self, ↓foldl_keeps Outside.link, implies_true]

@[simp] theorem portBoundary_frame (s) : Outside.link (portBoundary s) = Outside.link s := by
  unfold portBoundary
  simp only [↓enterService_frame, ↓Outside.link_update, ↓foldl_keeps Outside.link, implies_true]

@[simp] theorem showComposed_frame (p s) : Outside.headroomLink (showComposed p s) = Outside.headroomLink s := by
  unfold showComposed
  simp only [↓Outside.headroomLink_of_headroom (raiseSupply_frame _ _ _ _), ↓Outside.headroomLink_of_link
      (onLink_frame _ _ _)]

@[simp] theorem returnComposed_frame (s) : Outside.headroomLink (returnComposed s) = Outside.headroomLink s := by
  unfold returnComposed
  simp only [↓showComposed_frame, ↓apply_ite Outside.headroomLink, ite_self, ↓foldl_keeps Outside.headroomLink,
      implies_true]

@[simp] theorem frameEnables_frame (s) : Outside.queue (frameEnables s) = Outside.queue s := by
  unfold frameEnables
  simp only [↓releaseWakeVotes_frame, ↓Outside.queue_of_link (raiseEnables_frame _), ↓Outside.queue_of_faults
      (endBlanking_frame _)]

@[simp] theorem frameBoundary_frame (badLut s) : Outside.queue (frameBoundary badLut s) = Outside.queue s := by
  unfold frameBoundary
  simp only [↓Outside.queue_of_entryScan (nextEpoch_frame _), ↓Outside.queue_of_compose (endScanned_frame _),
      ↓Outside.queue_of_drive (pairSamples_frame _ _), ↓Outside.queue_of_service (latchSettings_frame _),
      ↓Outside.queue_of_drivePixels (repairBoundary_frame _), ↓discardPaused_frame,
      ↓Outside.queue_of_entryComposeDrive (restoreDivergence_frame _), ↓Outside.queue_of_entryComposeManifestUnits
      (modeBoundary_frame _), ↓Outside.queue_of_shade (decayActive_frame _), ↓Outside.queue_of_almanac
      (almanacBoundary_frame _), ↓Outside.queue_of_safeBeam (frameExcluded_frame _), ↓Outside.queue_of_line
      (frameCeiling_frame _ _), ↓Outside.queue_of_warp (warpBoundary_frame _), ↓Outside.queue_of_fetch
      (pinBoundary_frame _), ↓Outside.queue_of_composeHeadroom (clearFrameMarks_frame _),
      ↓Outside.queue_of_poweredDown (diagnosticBoundary_frame _), ↓Outside.queue_of_link (announceRate_frame _),
      ↓Outside.queue_of_link (portBoundary_frame _), ↓Outside.queue_of_entryComposeDrive (queueBoundary_frame _),
      ↓Outside.queue_of_headroomLink (returnComposed_frame _), ↓Outside.queue_of_recordsHostManifestScanShade
      (endSafeUntilCommit_frame _), ↓Outside.queue_of_aon (sendShadow_frame _), ↓activationBoundary_frame,
      ↓frameEnables_frame, ↓foldl_keeps Outside.queue, implies_true]

@[simp] theorem cutBuffered_frame (frame zr s) : Outside.entryFetch (cutBuffered frame zr s) = Outside.entryFetch
    s := by
  unfold cutBuffered
  simp only [↓markLate_frame, ↓apply_ite Outside.entryFetch, ite_self, ↓foldl_keeps Outside.entryFetch, implies_true]

@[simp] theorem cutZoneRow_frame (b s) : Outside.entryFetch (cutZoneRow b s) = Outside.entryFetch s := by
  unfold cutZoneRow
  simp only [↓cutBuffered_frame, ↓apply_ite Outside.entryFetch, ite_self]

@[simp] theorem startBuffered_frame (s) : Outside.composeDriveFetchShadeToll (startBuffered s) =
    Outside.composeDriveFetchShadeToll s := by
  unfold startBuffered
  simp only [↓Outside.composeDriveFetchShadeToll_of_compose (onCompose_frame _ _), ↓beginFrame_frame, ↓apply_ite
      Outside.composeDriveFetchShadeToll, ite_self]

@[simp] theorem chooseZones_frame (band s) : Outside.composeHeadroom (chooseZones band s) =
    Outside.composeHeadroom s := by
  unfold chooseZones
  simp only [↓chooseRacing_frame, ↓apply_ite Outside.composeHeadroom, ite_self, ↓foldl_keeps
      Outside.composeHeadroom, implies_true]

@[simp] theorem leaveRacing_frame (s) : Outside.compose (leaveRacing s) = Outside.compose s := by
  unfold leaveRacing
  simp only [↓onCompose_frame, ↓keepOlder_frame]

@[simp] theorem startBand_frame (b s) : Outside.line3 (startBand b s) = Outside.line3 s := by
  unfold startBand
  simp only [↓Outside.line3_of_composeHeadroom (chooseZones_frame _ _), ↓Outside.line3_of_composeFetch
      (beginBand_frame _ _), ↓Outside.line3_of_composeDriveFetchShadeToll (beginFrame_frame _ _ _ _),
      ↓Outside.line3_of_compose (leaveRacing_frame _), ↓apply_ite Outside.line3, ite_self]

@[simp] theorem compositionBoundary_frame (b s) : Outside.line3 (compositionBoundary b s) = Outside.line3 s := by
  unfold compositionBoundary
  simp only [↓Outside.line3_of_entryFetch (cutZoneRow_frame _ _), ↓Outside.line3_of_composeDriveFetchShadeToll
      (startBuffered_frame _), ↓startBand_frame, ↓apply_ite Outside.line3, ite_self]

@[simp] theorem bandBoundary_frame (b s) : Outside.service (bandBoundary b s) = Outside.service s := by
  unfold bandBoundary
  simp only [↓Outside.service_of_shade (swapBoundary_frame _), ↓Outside.service_of_recordsHostManifestScanShade
      (commitBoundary_frame _), ↓Outside.service_of_pixels (openReport_frame _ _), ↓Outside.service_of_entry
      (remapBoundary_frame _ _), ↓Outside.service_of_line3 (compositionBoundary_frame _ _), ↓apply_ite
      Outside.service, ite_self]

@[simp] theorem boundaries_frame (badLut s) : Outside.queue (boundaries badLut s) = Outside.queue s := by
  unfold boundaries
  simp only [↓frameBoundary_frame, ↓Outside.queue_of_entries2 (runAlmanac_frame _), ↓Outside.queue_of_service
      (bandBoundary_frame _ _), ↓Outside.queue_update, ↓apply_ite Outside.queue, ite_self]

end Sys2Proof.Laws
end

