-- ==== Sys2Proof/Laws/Writing.lean ====
section
/-!
SUPPORT. Laws/Writing.lean: what the operations of Machine/Writing.lean leave alone, one lemma each.
-/

namespace Sys2Proof.Laws

open Sys2Proof Sys2Proof.Machine

@[simp] theorem journalWrite_frame (index sub kind size v w s) : Outside.entry (journalWrite index sub kind size v
    w s).2 = Outside.entry s := by
  unfold journalWrite
  simp only []
  repeat' split
  all_goals simp only [↓raiseJournal_frame, ↓Outside.entry_update]

@[simp] theorem writeRestore_frame (v w s) : Outside.entry (writeRestore v w s).2 = Outside.entry s := by
  unfold writeRestore
  repeat' split
  all_goals simp only [↓journalWrite_frame]

@[simp] theorem stageShade_frame (k v s) : Outside.shade (stageShade k v s) = Outside.shade s := by
  unfold stageShade
  simp only [↓onShade_frame]

@[simp] theorem ackBlock_frame (u v s) : Outside.faults (ackBlock u v s) = Outside.faults s := by
  unfold ackBlock
  simp only [↓putBlock_frame]

@[simp] theorem commitArea_frame (crc s) : Outside.journal (commitArea crc s).2 = Outside.journal s := by
  unfold commitArea
  simp only []
  repeat' split
  all_goals simp only [↓Outside.journal_update]

@[simp] theorem writePin_frame (f v s) : Outside.fetch (writePin f v s) = Outside.fetch s := by
  unfold writePin
  simp only [↓pinSurface_frame, ↓unpinSurface_frame, ↓apply_ite Outside.fetch, ite_self]

@[simp] theorem clearEmitter_frame (p s) : Outside.recordsNvmPixels (clearEmitter p s) = Outside.recordsNvmPixels
    s := by
  unfold clearEmitter
  simp only [↓clearRecord_frame, ↓Outside.recordsNvmPixels_of_link (onLink_frame _ _ _), ↓apply_ite
      Outside.recordsNvmPixels, ite_self]

theorem writeSpecial_frame (w index sub v data s) :
    Outside.queue ((writeSpecial w index sub v data s).elim s (fun r => r.2)) = Outside.queue s := by
  unfold writeSpecial
  simp only []
  repeat' split
  all_goals simp only [Option.elim, ↓Outside.queue_of_entries (respond_frame _ _ _), ↓Outside.queue_of_access
      (writeSessionClose_frame _ _ _), ↓Outside.queue_of_entries (storeKey_frame _ _), ↓Outside.queue_of_manifest
      (requestCommit_frame _), ↓Outside.queue_of_recordsShade (acceptSwapRequest_frame _), ↓Outside.queue_of_shade
      (stageShade_frame _ _ _), ↓Outside.queue_of_faults (ackBlock_frame _ _ _), ↓releaseLatch_frame,
      ↓writeHostVote_frame, ↓Outside.queue_of_entries (writeToken_frame _ _ _), ↓Outside.queue_of_journal
      (commitArea_frame _ _), ↓Outside.queue_of_update (onUpdate_frame _ _), ↓Outside.queue_of_manifest
      (stageWrite_frame _ _ _ _), ↓Outside.queue_of_fetch (writePin_frame _ _ _), ↓Outside.queue_of_free
      (drawFree_frame _), ↓Outside.queue_of_sinks (retrySink_frame _ _ _), ↓Outside.queue_of_pixels (onPixels_frame _
      _ _), ↓Outside.queue_of_recordsNvmPixels (clearEmitter_frame _ _), ↓Outside.queue_update]
@[simp] theorem performWrite_frame (w o index sub data s) : Outside.queue (performWrite w o index sub data s).2 =
    Outside.queue s := by
  have h := writeSpecial_frame w index sub (cleanValue index sub (leNat data)) data s
  unfold performWrite
  simp only []
  repeat' split
  all_goals try simp only [↓Outside.queue_of_entry (writeRestore_frame _ _ _), ↓Outside.queue_of_entry
      (journalWrite_frame _ _ _ _ _ _ _), ↓applyValue_frame, ↓Outside.queue_update]
  rename_i e
  rw [e] at h
  exact h

@[simp] theorem noteRefusal_frame (index status s) : Outside.warp (noteRefusal index status s) = Outside.warp s := by
  unfold noteRefusal
  simp only [↓refuseMesh_frame, ↓apply_ite Outside.warp, ite_self]

@[simp] theorem writeObject_frame (w index sub data s) : Outside.queue (writeObject w index sub data s).2 =
    Outside.queue s := by
  unfold writeObject
  simp only []
  repeat' split
  all_goals simp only [↓Outside.queue_of_warp (noteRefusal_frame _ _ _), ↓performWrite_frame]

@[simp] theorem requestWrite_frame (via index sub data s) : Outside.queue (requestWrite via index sub data s) =
    Outside.queue s := by
  unfold requestWrite
  simp only [↓Outside.queue_of_caravanHostJournal (answer_frame _ _ _ _ _ _ _), ↓apply_ite Outside.queue]
  repeat' split
  all_goals simp only [↓Outside.queue_of_caravanHostJournal (answer_frame _ _ _ _ _ _ _), ↓writeObject_frame]

@[simp] theorem keepBits_frame (u ks s) : Outside.faults (keepBits u ks s) = Outside.faults s := by
  unfold keepBits
  simp only [↓putBlock_frame, ↓foldl_keeps Outside.faults, implies_true]

@[simp] theorem raiseKinds_frame (u ks s) : Outside.entry (raiseKinds u ks s) = Outside.entry s := by
  unfold raiseKinds
  simp only [↓raiseKind_frame, ↓foldl_keeps Outside.entry, implies_true]

@[simp] theorem readObject_frame (via index sub s) : Outside.accessCaravanFreeHostJournal (readObject via index
    sub s).2.2 = Outside.accessCaravanFreeHostJournal s := by
  unfold readObject
  simp only []
  repeat' split
  all_goals simp only [↓readChallenge_frame]

@[simp] theorem requestRead_frame (via index sub s) : Outside.accessCaravanFreeHostJournal (requestRead via index
    sub s) = Outside.accessCaravanFreeHostJournal s := by
  unfold requestRead
  simp only [↓Outside.accessCaravanFreeHostJournal_of_caravanHostJournal (answer_frame _ _ _ _ _ _ _),
      ↓readObject_frame, ↓apply_ite Outside.accessCaravanFreeHostJournal, ite_self]

end Sys2Proof.Laws
end

