-- ==== Sys2Proof/Laws/Uhl.lean ====
section
/-!
SUPPORT. Laws/Uhl.lean: what the operations of Machine/Uhl.lean leave alone, one lemma each.
-/

namespace Sys2Proof.Laws

open Sys2Proof Sys2Proof.Machine

@[simp] theorem onStream_frame (k f s) : Outside.host (onStream k f s) = Outside.host s := by
  unfold onStream
  simp only [↓onHost_frame]

@[simp] theorem finishPicture_frame (k f s) : Outside.dictHost (finishPicture k f s) = Outside.dictHost s := by
  unfold finishPicture
  simp only [↓Outside.dictHost_of_host (onStream_frame _ _ _), ↓Outside.dictHost_of_dict (setCfg_frame _ _ _ _),
      ↓apply_ite Outside.dictHost, ite_self]

@[simp] theorem hostCtle_frame (s) : Outside.free (hostCtle s).2 = Outside.free s := by
  unfold hostCtle
  repeat' split
  all_goals simp only [↓sweepErrors_frame]

@[simp] theorem moveControl_frame (s) : Outside.host (moveControl s) = Outside.host s := by
  unfold moveControl
  simp only [↓setIrq_frame, ↓onHost_frame, ↓apply_ite Outside.host, ite_self]

@[simp] theorem onLane_frame (k f s) : Outside.host (onLane k f s) = Outside.host s := by
  unfold onLane
  simp only [↓onHost_frame]

@[simp] theorem hostActive_frame (uhl s) : Outside.recordsHost (hostActive uhl s) = Outside.recordsHost s := by
  unfold hostActive
  simp only [↓Outside.recordsHost_of_records (clearCondition_frame _ _ _), ↓Outside.recordsHost_of_host
      (onHost_frame _ _), ↓apply_ite Outside.recordsHost, ite_self]

@[simp] theorem discardPicture_frame (k s) : Outside.host (discardPicture k s) = Outside.host s := by
  unfold discardPicture
  simp only [↓setIrq_frame, ↓onStream_frame]

@[simp] theorem beginPicture_frame (k f picture s) : Outside.host (beginPicture k f picture s) = Outside.host s := by
  unfold beginPicture
  simp only [↓onStream_frame, ↓discardPicture_frame, ↓apply_ite Outside.host, ite_self]

@[simp] theorem takeLine_frame (k f n payload s) : Outside.host (takeLine k f n payload s) = Outside.host s := by
  unfold takeLine
  simp only [↓discardPicture_frame, ↓onStream_frame, ↓apply_ite Outside.host, ite_self]

@[simp] theorem encodeTileRow_frame (k f t s) : Outside.dramFreeHost (encodeTileRow k f t s) =
    Outside.dramFreeHost s := by
  unfold encodeTileRow
  simp only [↓Outside.dramFreeHost_of_host (onStream_frame _ _ _), ↓Outside.dramFreeHost_update]

@[simp] theorem encodeHeld_frame (k f a a3) : Outside.dramFreeHost (encodeHeld k f a a3) = Outside.dramFreeHost a3
    := by
  induction a generalizing a3 with
  | zero => rfl
  | succ n ih =>
    unfold encodeHeld
    split
    · rw [ih]
      simp only [↓encodeTileRow_frame]
    · rfl

@[simp] theorem endPicture_frame (k f s) : Outside.recordsDictDramHost (endPicture k f s) =
    Outside.recordsDictDramHost s := by
  unfold endPicture
  simp only [↓Outside.recordsDictDramHost_of_dictHost (finishPicture_frame _ _ _),
      ↓Outside.recordsDictDramHost_of_dramFreeHost (encodeHeld_frame _ _ _ _), ↓Outside.recordsDictDramHost_of_host
      (discardPicture_frame _ _), ↓apply_ite Outside.recordsDictDramHost, ite_self]

@[simp] theorem videoLine_frame (k f n picture payload s) : Outside.recordsDictDramHost (videoLine k f n picture
    payload s) = Outside.recordsDictDramHost s := by
  unfold videoLine
  repeat' split
  all_goals simp only [↓Outside.recordsDictDramHost_of_host (takeLine_frame _ _ _ _ _),
      ↓Outside.recordsDictDramHost_of_host (beginPicture_frame _ _ _ _), ↓endPicture_frame, ↓apply_ite
      Outside.recordsDictDramHost, ite_self]

@[simp] theorem applyUhlRecord_frame (n r s) : Outside.queue (applyUhlRecord n r s).1 = Outside.queue s.1 := by
  unfold applyUhlRecord
  simp only []
  repeat' split
  all_goals simp only [↓writeObject_frame, ↓Outside.queue_of_hostJournal (recordRefusal_frame _ _ _ _ _)]

@[simp] theorem applyUhlRecords_frame (a a1 a2) : Outside.queue (applyUhlRecords a a1 a2).1 = Outside.queue a2.1 := by
  induction a1 generalizing a a2 with
  | nil => rfl
  | cons r rs ih =>
    rw [applyUhlRecords, ih]
    simp only [↓applyUhlRecord_frame]

end Sys2Proof.Laws
end

