-- ==== Sys2Proof/Laws/HostPorts.lean ====
section
/-!
SUPPORT. Laws/HostPorts.lean: what the operations of Machine/HostPorts.lean leave alone, one lemma each.
-/

namespace Sys2Proof.Laws

open Sys2Proof Sys2Proof.Machine

@[simp] theorem putTransfer_frame (bus x1 s) : Outside.host (putTransfer bus x1 s) = Outside.host s := by
  unfold putTransfer
  simp only [↓onHost_frame]

@[simp] theorem onSbp_frame (f s) : Outside.host (onSbp f s) = Outside.host s := by
  unfold onSbp
  simp only [↓onHost_frame]

@[simp] theorem sbpReturn_frame (status bs s) : Outside.host (sbpReturn status bs s) = Outside.host s := by
  unfold sbpReturn
  simp only [↓onSbp_frame]

@[simp] theorem burstWrite_frame (via a a2 a3 a4) : Outside.queue (burstWrite via a a2 a3 a4).2 = Outside.queue a4
    := by
  induction a generalizing a2 a3 a4 with
  | zero => rfl
  | succ n ih =>
    unfold burstWrite
    split
    · rfl
    · split
      · exact ih _ _ _
      · simp only [ih, ↓writeObject_frame]

@[simp] theorem abortTransfer_frame (bus s) : Outside.host (abortTransfer bus s) = Outside.host s := by
  unfold abortTransfer
  repeat' split
  all_goals simp only [↓canSend_frame, ↓onHost_frame, ↓putTransfer_frame]

@[simp] theorem sbpBad_frame (s) : Outside.host (sbpBad s) = Outside.host s := by
  unfold sbpBad
  simp only [↓onSbp_frame]

@[simp] theorem sbpActive_frame (s) : Outside.recordsHost (sbpActive s) = Outside.recordsHost s := by
  unfold sbpActive
  simp only [↓hostActive_frame, ↓apply_ite Outside.recordsHost, ite_self]

@[simp] theorem queueCan_frame (r s) : Outside.host (queueCan r s) = Outside.host s := by
  unfold queueCan
  simp only [↓onHost_frame]

@[simp] theorem consecutiveCan_frame (f s) : Outside.host (consecutiveCan f s) = Outside.host s := by
  unfold consecutiveCan
  simp only [completeCan]
  repeat' split
  all_goals simp only [↓abortTransfer_frame, ↓putTransfer_frame, ↓onHost_frame, ↓canSend_frame, ↓queueCan_frame]

@[simp] theorem shpOut_frame (clocked s) : Outside.host (shpOut clocked s) = Outside.host s := by
  unfold shpOut
  repeat' split
  all_goals simp only [↓onHost_frame]

@[simp] theorem receiveShp_frame (command f s) : Outside.recordsCaravanHostJournal (receiveShp command f s) =
    Outside.recordsCaravanHostJournal s := by
  unfold receiveShp
  simp only [↓apply_ite Outside.recordsCaravanHostJournal]
  repeat' split
  all_goals simp only [↓Outside.recordsCaravanHostJournal_of_host (shpOut_frame _ _),
      ↓Outside.recordsCaravanHostJournal_of_host (onHost_frame _ _),
      ↓Outside.recordsCaravanHostJournal_of_caravanHostJournal (answer_frame _ _ _ _ _ _ _),
      ↓Outside.recordsCaravanHostJournal_of_recordsHost (hostActive_frame _ _)]

@[simp] theorem burstRead_frame (via a a2 a3) : Outside.accessCaravanFreeHostJournal (burstRead via a a2 a3).2.2 =
    Outside.accessCaravanFreeHostJournal a3 := by
  induction a generalizing a2 a3 with
  | zero => rfl
  | succ n ih =>
    unfold burstRead
    simp only [ih, ↓readObject_frame]

@[simp] theorem endBurst_frame (via index sub base status s) : Outside.caravanHostJournal (endBurst via index sub
    base status s) = Outside.caravanHostJournal s := by
  unfold endBurst
  repeat' split
  all_goals simp only [↓answer_frame, ↓Outside.caravanHostJournal_update, ↓apply_ite Outside.caravanHostJournal,
      ite_self]

@[simp] theorem serveShp_frame (r s) : Outside.queue (serveShp r s) = Outside.queue s := by
  unfold serveShp
  repeat' split
  all_goals simp only [↓Outside.queue_of_accessCaravanFreeHostJournal (requestRead_frame _ _ _ _),
      ↓requestWrite_frame, ↓Outside.queue_of_accessCaravanFreeHostJournal (burstRead_frame _ _ _ _),
      ↓Outside.queue_of_caravanHostJournal (answer_frame _ _ _ _ _ _ _), ↓burstWrite_frame,
      ↓Outside.queue_of_caravanHostJournal (endBurst_frame _ _ _ _ _ _)]

@[simp] theorem serveCan_frame (r s) : Outside.queue (serveCan r s) = Outside.queue s := by
  unfold serveCan
  simp only [↓requestWrite_frame, ↓Outside.queue_of_accessCaravanFreeHostJournal (requestRead_frame _ _ _ _),
      ↓apply_ite Outside.queue, ite_self]

@[simp] theorem sayCan_frame (bus write tag index status s) : Outside.host (sayCan bus write tag index status s) =
    Outside.host s := by
  unfold sayCan
  simp only [↓answerCan_frame]

@[simp] theorem firstCan_frame (f s) : Outside.host (firstCan f s) = Outside.host s := by
  unfold firstCan
  simp only [↓abortTransfer_frame, ↓sayCan_frame, ↓putTransfer_frame, ↓apply_ite Outside.host, ite_self]

@[simp] theorem singleCan_frame (f s) : Outside.host (singleCan f s) = Outside.host s := by
  unfold singleCan
  simp only [completeCan, ↓abortTransfer_frame, ↓sayCan_frame, ↓queueCan_frame, ↓apply_ite Outside.host, ite_self]
  repeat' split
  all_goals simp only [↓abortTransfer_frame, ↓onHost_frame, ↓canSend_frame, ↓sayCan_frame, ↓queueCan_frame]

@[simp] theorem relayCan_frame (q f s) : Outside.queue (relayCan q f s) = Outside.queue s := by
  unfold relayCan
  simp only [↓Outside.queue_of_host (answerRelay_frame _ _ _ _), ↓settleRelayVote_frame, ↓Outside.queue_of_caravan
      (onRing_frame _ _), ↓apply_ite Outside.queue, ite_self]

end Sys2Proof.Laws
end

