-- ==== Sys2Proof/Laws/Returns.lean ====
section
/-!
SUPPORT. Laws/Returns.lean: what the operations of Machine/Returns.lean leave alone, one lemma each.
-/

namespace Sys2Proof.Laws

open Sys2Proof Sys2Proof.Machine

@[simp] theorem noteStorm_frame (p band s) : Outside.entryPixels (noteStorm p band s) = Outside.entryPixels s := by
  unfold noteStorm
  simp only [↓Outside.entryPixels_of_pixels (onPixels_frame _ _ _), ↓Outside.entryPixels_of_entry (raiseKind_frame
      _ _ _), ↓apply_ite Outside.entryPixels, ite_self]

@[simp] theorem countCodeErrors_frame (p packet s) : Outside.link (countCodeErrors p packet s) = Outside.link s := by
  unfold countCodeErrors
  simp only [↓onLink_frame]

@[simp] theorem ackHold_frame (p s) : Outside.entry (ackHold p s) = Outside.entry s := by
  unfold ackHold
  simp only [↓remapHeld_frame, ↓Outside.entry_of_link (onLink_frame _ _ _)]

@[simp] theorem answerCtrl_frame (p c packet s) : Outside.entryPixelsToll (answerCtrl p c packet s) =
    Outside.entryPixelsToll s := by
  unfold answerCtrl
  simp only [↓Outside.entryPixelsToll_of_link (onLink_frame _ _ _), ↓Outside.entryPixelsToll_of_entry
      (ackHold_frame _ _), ↓failBringUp_frame, ↓bringUpAck_frame, ↓apply_ite Outside.entryPixelsToll, ite_self]

@[simp] theorem echoPersistent_frame (p band s) : Outside.entryPixels (echoPersistent p band s) =
    Outside.entryPixels s := by
  unfold echoPersistent
  repeat' split
  all_goals simp only [↓Outside.entryPixels_of_pixels (onPixels_frame _ _ _), ↓Outside.entryPixels_of_link
      (dropEnables_frame _), ↓Outside.entryPixels_of_entry (raiseKind_frame _ _ _), ↓Outside.entryPixels_of_nvm
      (putRecord_frame _ _ _ _)]

@[simp] theorem moveConfirm_frame (p i step tries s) : Outside.pixels (moveConfirm p i step tries s) =
    Outside.pixels s := by
  unfold moveConfirm
  simp only [↓onPixels_frame]

@[simp] theorem endConfirm_frame (p i s) : Outside.pixels (endConfirm p i s) = Outside.pixels s := by
  unfold endConfirm
  simp only [↓onPixels_frame]

@[simp] theorem decideStatus_frame (p i code vf s) : Outside.entryDrivePixels (decideStatus p i code vf s) =
    Outside.entryDrivePixels s := by
  unfold decideStatus
  simp only [↓confirmStatus_frame, ↓Outside.entryDrivePixels_of_pixels (endConfirm_frame _ _ _)]

@[simp] theorem missedSample_frame (p f s) : Outside.entryDrivePixels (missedSample p f s) =
    Outside.entryDrivePixels s := by
  unfold missedSample
  simp only [↓Outside.entryDrivePixels_of_pixels (moveConfirm_frame _ _ _ _ _), ↓decideStatus_frame,
      ↓Outside.entryDrivePixels_of_pixels (onPixels_frame _ _ _), ↓Outside.entryDrivePixels_of_pixels
      (endConfirm_frame _ _ _), ↓apply_ite Outside.entryDrivePixels, ite_self]

@[simp] theorem stepA_frame (p i vf s) : Outside.entryDrivePixels (stepA p i vf s) = Outside.entryDrivePixels s := by
  unfold stepA
  simp only [↓Outside.entryDrivePixels_of_entry (sf1Reaction_frame _ _ _), ↓decideStatus_frame,
      ↓Outside.entryDrivePixels_of_pixels (moveConfirm_frame _ _ _ _ _), ↓apply_ite Outside.entryDrivePixels,
      ite_self]

@[simp] theorem stepB_frame (p i vf s) : Outside.entryDrivePixels (stepB p i vf s) = Outside.entryDrivePixels s := by
  unfold stepB
  simp only [↓decideStatus_frame]

@[simp] theorem stepC_frame (p i vf s) : Outside.entryDrivePixels (stepC p i vf s) = Outside.entryDrivePixels s := by
  unfold stepC
  simp only [↓decideStatus_frame, ↓Outside.entryDrivePixels_of_pixels (onPixels_frame _ _ _),
      ↓Outside.entryDrivePixels_of_pixels (endConfirm_frame _ _ _), ↓apply_ite Outside.entryDrivePixels, ite_self]

@[simp] theorem probeSample_frame (p e s) : Outside.entryDrivePixels (probeSample p e s) =
    Outside.entryDrivePixels s := by
  unfold probeSample
  repeat' split
  all_goals simp only [↓missedSample_frame, ↓stepA_frame, ↓stepB_frame, ↓stepC_frame]

@[simp] theorem ageSample_frame (p e s) : Outside.drive (ageSample p e s) = Outside.drive s := by
  unfold ageSample
  simp only [↓Outside.drive_update, ↓apply_ite Outside.drive, ite_self]

@[simp] theorem addCandidate_frame (p i s) : Outside.pixels (addCandidate p i s) = Outside.pixels s := by
  unfold addCandidate
  simp only [↓onPixels_frame, ↓apply_ite Outside.pixels, ite_self]

@[simp] theorem sweepSample_frame (p e s) : Outside.entryDrivePixels (sweepSample p e s) =
    Outside.entryDrivePixels s := by
  unfold sweepSample
  simp only [↓Outside.entryDrivePixels_of_drive (ageSample_frame _ _ _), ↓Outside.entryDrivePixels_of_entry
      (sf1Reaction_frame _ _ _), ↓Outside.entryDrivePixels_of_pixels (addCandidate_frame _ _ _), ↓apply_ite
      Outside.entryDrivePixels, ite_self]

@[simp] theorem noteSampled_frame (p band epoch es s) : Outside.pixels (noteSampled p band epoch es s) =
    Outside.pixels s := by
  unfold noteSampled
  simp only [↓onPixels_frame, ↓apply_ite Outside.pixels, ite_self, ↓foldl_keeps Outside.pixels, implies_true]

@[simp] theorem firstTemp_frame (p temps s) : Outside.toll (firstTemp p temps s) = Outside.toll s := by
  unfold firstTemp
  simp only [↓onModel_frame, ↓apply_ite Outside.toll, ite_self]

@[simp] theorem withdrawReport_frame (p band s) : Outside.entryPixels (withdrawReport p band s) =
    Outside.entryPixels s := by
  unfold withdrawReport
  repeat' split
  all_goals simp only [↓noteStorm_frame, ↓Outside.entryPixels_of_pixels (onPixels_frame _ _ _)]

@[simp] theorem judgeFlags_frame (p band mask flags s) : Outside.entryPixels (judgeFlags p band mask flags s) =
    Outside.entryPixels s := by
  unfold judgeFlags
  simp only [↓Outside.entryPixels_of_pixels (onPixels_frame _ _ _), ↓noteStorm_frame,
      ↓Outside.entryPixels_of_pixels (addCandidate_frame _ _ _), ↓apply_ite Outside.entryPixels, ite_self,
      ↓foldl_keeps Outside.entryPixels, implies_true]

@[simp] theorem startStep_frame (p f s) : Outside.linkPixels (startStep p f s) = Outside.linkPixels s := by
  unfold startStep
  simp only [↓Outside.linkPixels_of_pixels (onPixels_frame _ _ _), ↓Outside.linkPixels_of_link (ctrl_frame _ _ _
      _), ↓Outside.linkPixels_of_link (writeReg_frame _ _ _ _)]

@[simp] theorem echoMismatch_frame (p band s) : Outside.entryPixels (echoMismatch p band s) = Outside.entryPixels
    s := by
  unfold echoMismatch
  simp only [↓Outside.entryPixels_of_pixels (onPixels_frame _ _ _), ↓Outside.entryPixels_of_entry (raiseKind_frame
      _ _ _), ↓echoPersistent_frame, ↓apply_ite Outside.entryPixels, ite_self]

@[simp] theorem noteLatched_frame (p band mask s) : Outside.pixels (noteLatched p band mask s) = Outside.pixels s
    := by
  unfold noteLatched
  refine foldl_keeps _ (fun s r => ?_) _ _
  split <;> simp only [↓onPixels_frame]

@[simp] theorem judgeEcho_frame (p band mask checksum s) : Outside.entryPixels (judgeEcho p band mask checksum s)
    = Outside.entryPixels s := by
  unfold judgeEcho
  simp only [↓Outside.entryPixels_of_pixels (onPixels_frame _ _ _), ↓echoMismatch_frame, ↓apply_ite
      Outside.entryPixels, ite_self]

end Sys2Proof.Laws
end

