-- ==== Sys2Proof/Laws/Scan.lean ====
section
/-!
SUPPORT. Laws/Scan.lean: what the operations of Machine/Scan.lean leave alone, one lemma each.
-/

namespace Sys2Proof.Laws

open Sys2Proof Sys2Proof.Machine

@[simp] theorem phaseEvent_frame (source fraction lat expected s) : Outside.entryScan (phaseEvent source fraction
    lat expected s) = Outside.entryScan s := by
  unfold phaseEvent
  simp only [↓Outside.entryScan_of_entry (raiseKind_frame _ _ _), ↓Outside.entryScan_update, ↓apply_ite
      Outside.entryScan, ite_self]

end Sys2Proof.Laws
end

