-- ==== Sys2Proof/Laws/SmTile.lean ====
section
/-!
SUPPORT. Laws/SmTile.lean: what the operations of Machine/SmTile.lean leave alone, one lemma each.
-/

namespace Sys2Proof.Laws

open Sys2Proof Sys2Proof.Machine

@[simp] theorem disagree_frame (e entry short s) : Outside.entryChecker (disagree e entry short s) =
    Outside.entryChecker s := by
  unfold disagree
  repeat' split
  all_goals simp only [↓Outside.entryChecker_of_entry (raiseKind_frame _ _ _), ↓Outside.entryChecker_of_faults
      (markPresent_frame _ _ _), ↓Outside.entryChecker_update, ↓apply_ite Outside.entryChecker, ite_self]

@[simp] theorem violate_frame (entry safe s) : Outside.entryChecker (violate entry safe s) = Outside.entryChecker
    s := by
  unfold violate
  simp only [↓Outside.entryChecker_of_entry (raiseKind_frame _ _ _), ↓Outside.entryChecker_update]

@[simp] theorem judgeTile_frame (e p t x3 s) : Outside.entryChecker (judgeTile e p t x3 s) = Outside.entryChecker
    s := by
  unfold judgeTile
  repeat' split
  all_goals simp only [↓disagree_frame, ↓Outside.entryChecker_of_records (clearCondition_frame _ _ _),
      ↓Outside.entryChecker_of_faultsLink (settle_frame _), ↓violate_frame, ↓Outside.entryChecker_update, ↓apply_ite
      Outside.entryChecker, ite_self]

@[simp] theorem judgeForwarded_frame (p tile flaws s) : Outside.entryChecker (judgeForwarded p tile flaws s) =
    Outside.entryChecker s := by
  unfold judgeForwarded
  repeat' split
  all_goals simp only [↓judgeTile_frame, ↓Outside.entryChecker_update]

end Sys2Proof.Laws
end

