-- ==== Sys2Proof/Laws/Commands.lean ====
section
/-!
SUPPORT. Laws/Commands.lean: what each command leaves alone, one lemma each.
-/

namespace Sys2Proof.Laws

open Sys2Proof Sys2Proof.Machine

/-- The state that an outcome goes on with. -/
def outS (o : Host.Outcome State Fault Refusal) (s : State) : State :=
  match o with
  | .next t => t
  | _ => s

theorem execPinCopyDone_frame (surface s) : Outside.faultsFetch (outS (execPinCopyDone surface s) s) =
    Outside.faultsFetch s := by
  unfold execPinCopyDone
  repeat' split
  all_goals simp only [outS, ↓Outside.faultsFetch_of_faults (handleByPins_frame _), ↓Outside.faultsFetch_of_fetch
      (finishPin_frame _ _)]

theorem execTileRefetchDone_frame (p layer tile flaws s) : Outside.entryComposeDriveFetch (outS
    (execTileRefetchDone p layer tile flaws s) s) = Outside.entryComposeDriveFetch s := by
  unfold execTileRefetchDone
  simp only [fetchWork, inRun, onSurface, outS, ↓apply_ite Outside.entryComposeDriveFetch]
  repeat' split
  all_goals simp only [↓Outside.entryComposeDriveFetch_of_composeDriveFetch (enterRun_frame _ _),
      ↓Outside.entryComposeDriveFetch_of_entryFetch (decodeAgain_frame _ _ _ _ _ _)]

theorem execTileLateTimeout_frame (p layer tile s) : Outside.entryComposeDriveFetch (outS (execTileLateTimeout p
    layer tile s) s) = Outside.entryComposeDriveFetch s := by
  unfold execTileLateTimeout
  simp only [fetchWork, inRun, onSurface, outS, ↓apply_ite Outside.entryComposeDriveFetch]
  repeat' split
  all_goals simp only [↓Outside.entryComposeDriveFetch_of_composeDriveFetch (enterRun_frame _ _),
      ↓Outside.entryComposeDriveFetch_of_entryFetch (lateTile_frame _ _ _ _ _)]

theorem execTileDecodeDone_frame (p layer tile flaws s) : Outside.composeDriveFetch (outS (execTileDecodeDone p
    layer tile flaws s) s) = Outside.composeDriveFetch s := by
  unfold execTileDecodeDone
  simp only [fetchWork, inRun, onSurface, outS, ↓apply_ite Outside.composeDriveFetch]
  repeat' split
  all_goals simp only [↓enterRun_frame, ↓Outside.composeDriveFetch_of_fetch (decodeFirst_frame _ _ _ _ _ _)]

theorem execMeshInversionDone_frame (p s) : Outside.warp (outS (execMeshInversionDone p s) s) = Outside.warp s := by
  unfold execMeshInversionDone
  simp only [outS, ↓onWarp_frame]

theorem execPlannerRecomputeDone_frame (s) : Outside.manifest (outS (execPlannerRecomputeDone s) s) =
    Outside.manifest s := by
  unfold execPlannerRecomputeDone
  simp only [outS, ↓Outside.manifest_update, ↓apply_ite Outside.manifest, ite_self]

theorem execLeapWrapped_frame (s) : Outside.aon (outS (execLeapWrapped s) s) = Outside.aon s := by
  unfold execLeapWrapped
  simp only [outS, ↓Outside.aon_update, ↓apply_ite Outside.aon, ite_self]

theorem execRcMeasureWindow_frame (count s) : Outside.aon (outS (execRcMeasureWindow count s) s) = Outside.aon s := by
  unfold execRcMeasureWindow
  simp only [outS, ↓Outside.aon_update, ↓apply_ite Outside.aon, ite_self]

theorem execSyncInEdge_frame (rising fraction s) : Outside.entryScan (outS (execSyncInEdge rising fraction s) s) =
    Outside.entryScan s := by
  unfold execSyncInEdge
  simp only [outS, ↓phaseEvent_frame, ↓apply_ite Outside.entryScan, ite_self]

theorem execClockFallback_frame (s) : Outside.entryPowerScan (outS (execClockFallback s) s) =
    Outside.entryPowerScan s := by
  unfold execClockFallback
  simp only [outS, ↓Outside.entryPowerScan_of_entry (raiseKind_frame _ _ _), ↓Outside.entryPowerScan_update,
      ↓apply_ite Outside.entryPowerScan, ite_self]

theorem execReferenceHoldover_frame (s) : Outside.entryScan (outS (execReferenceHoldover s) s) = Outside.entryScan
    s := by
  unfold execReferenceHoldover
  simp only [outS, ↓Outside.entryScan_of_entry (raiseKind_frame _ _ _), ↓Outside.entryScan_update, ↓apply_ite
      Outside.entryScan, ite_self]

theorem execReferencePrimaryReturn_frame (s) : Outside.scan (outS (execReferencePrimaryReturn s) s) = Outside.scan
    s := by
  unfold execReferencePrimaryReturn
  simp only [outS, ↓Outside.scan_update, ↓apply_ite Outside.scan, ite_self]

theorem execFrameCompositionDone_frame (s) : Outside.composeDriveFetchToll (outS (execFrameCompositionDone s) s) =
    Outside.composeDriveFetchToll s := by
  unfold execFrameCompositionDone
  simp only [outS, ↓Outside.composeDriveFetchToll_of_drive (publishEnergy_frame _ _ _),
      ↓Outside.composeDriveFetchToll_of_compose (publishZones_frame _ _), ↓Outside.composeDriveFetchToll_of_toll
      (handToToll_frame _ _), ↓Outside.composeDriveFetchToll_update, ↓apply_ite Outside.composeDriveFetchToll,
      ite_self, ↓foldl_keeps Outside.composeDriveFetchToll, implies_true]

theorem execZoneRowStagingDone_frame (p zoneRow badCells s) : Outside.line2 (outS (execZoneRowStagingDone p
    zoneRow badCells s) s) = Outside.line2 s := by
  unfold execZoneRowStagingDone
  simp only [outS, ↓Outside.line2_of_composeDriveFetchShadeToll (beginDue_frame _), ↓stageZoneRow_frame,
      ↓apply_ite Outside.line2, ite_self]

theorem execScanOutTileCheck_frame (p row col lower flaws s) : Outside.entryCompose (outS (execScanOutTileCheck p
    row col lower flaws s) s) = Outside.entryCompose s := by
  unfold execScanOutTileCheck
  simp only [outS, ↓apply_ite Outside.entryCompose]
  repeat' split
  all_goals simp only [↓Outside.entryCompose_of_compose (onCompose_frame _ _), ↓Outside.entryCompose_of_compose
      (putChecked_frame _ _ _ _ _ _ _), ↓noteMismatch_frame]

theorem execTileComposed_frame (p row col lower badCell s) : Outside.line (outS (execTileComposed p row col lower
    badCell s) s) = Outside.line s := by
  unfold execTileComposed
  repeat' split
  all_goals simp only [outS, ↓composeRacing_frame, ↓composeBuffered_frame]

theorem execShadeStale_frame (s) : Outside.entryShade (outS (execShadeStale s) s) = Outside.entryShade s := by
  unfold execShadeStale
  simp only [outS, ↓Outside.entryShade_of_entry (raiseKind_frame _ _ _), ↓Outside.entryShade_of_shade
      (onShade_frame _ _), ↓apply_ite Outside.entryShade, ite_self]

theorem execComposerRestartDone_frame (s) : Outside.manifestUnits (outS (execComposerRestartDone s) s) =
    Outside.manifestUnits s := by
  unfold execComposerRestartDone
  simp only [outS, ↓Outside.manifestUnits_of_manifest (requestCommit_frame _), ↓Outside.manifestUnits_update,
      ↓apply_ite Outside.manifestUnits, ite_self]

theorem execStagedBankRefillDone_frame (s) : Outside.recordsShade (outS (execStagedBankRefillDone s) s) =
    Outside.recordsShade s := by
  unfold execStagedBankRefillDone
  repeat' split
  all_goals simp only [outS, ↓Outside.recordsShade_of_shade (onShade_frame _ _), ↓landList_frame]

theorem execManifestRefillDone_frame (s) : Outside.manifest (outS (execManifestRefillDone s) s) = Outside.manifest
    s := by
  unfold execManifestRefillDone
  simp only [outS, ↓onManifest_frame, ↓apply_ite Outside.manifest, ite_self]

theorem execCeilingMapReloadDone_frame (s) : Outside.recordsCeiling (outS (execCeilingMapReloadDone s) s) =
    Outside.recordsCeiling s := by
  unfold execCeilingMapReloadDone
  simp only [outS, ↓Outside.recordsCeiling_of_records (clearCondition_frame _ _ _),
      ↓Outside.recordsCeiling_update, ↓apply_ite Outside.recordsCeiling, ite_self]

theorem execComposerStall_frame (s) : Outside.entryComposeManifestUnits (outS (execComposerStall s) s) =
    Outside.entryComposeManifestUnits s := by
  unfold execComposerStall
  simp only [outS, ↓stallComposer_frame, ↓apply_ite Outside.entryComposeManifestUnits, ite_self]

theorem execSessionIdleTimeout_frame (s) : Outside.accessHost (outS (execSessionIdleTimeout s) s) =
    Outside.accessHost s := by
  unfold execSessionIdleTimeout
  repeat' split
  all_goals simp only [outS, ↓Outside.accessHost_of_access (closeSession_frame _), ↓Outside.accessHost_of_host
      (keepInside_frame _ _)]

theorem execChallengeLockoutEnd_frame (s) : Outside.aon (outS (execChallengeLockoutEnd s) s) = Outside.aon s := by
  unfold execChallengeLockoutEnd
  simp only [outS, ↓Outside.aon_update]

theorem execConsentExpiry_frame (s) : Outside.access (outS (execConsentExpiry s) s) = Outside.access s := by
  unfold execConsentExpiry
  simp only [outS, ↓onAccess_frame]

theorem execArraySensorDisqualify_frame (p quadrant s) : Outside.entryToll (outS (execArraySensorDisqualify p
    quadrant s) s) = Outside.entryToll s := by
  unfold execArraySensorDisqualify
  simp only [outS, ↓Outside.entryToll_of_entry (raiseKind_frame _ _ _), ↓Outside.entryToll_of_toll (onModel_frame
      _ _ _), ↓apply_ite Outside.entryToll, ite_self]

theorem execTollModelDivergence_frame (p s) : Outside.entryToll (outS (execTollModelDivergence p s) s) =
    Outside.entryToll s := by
  unfold execTollModelDivergence
  simp only [outS, ↓Outside.entryToll_of_entry (raiseKind_frame _ _ _), ↓Outside.entryToll_of_toll (onModel_frame
      _ _ _), ↓apply_ite Outside.entryToll, ite_self]

theorem execTollComputationDone_frame (s) : Outside.toll (outS (execTollComputationDone s) s) = Outside.toll s := by
  unfold execTollComputationDone
  repeat' split
  all_goals simp only [outS, ↓publishToll_frame, ↓Outside.toll_update]

theorem execModelDivergenceClear_frame (p s) : Outside.recordsToll (outS (execModelDivergenceClear p s) s) =
    Outside.recordsToll s := by
  unfold execModelDivergenceClear
  simp only [outS, ↓Outside.recordsToll_of_toll (onModel_frame _ _ _), ↓Outside.recordsToll_of_records
      (clearCondition_frame _ _ _), ↓apply_ite Outside.recordsToll, ite_self]

theorem execLaneRetrain_frame (p lane s) : Outside.link (outS (execLaneRetrain p lane s) s) = Outside.link s := by
  unfold execLaneRetrain
  simp only [outS, ↓readReg_frame, ↓sendTrain_frame, ↓onLink_frame, ↓apply_ite Outside.link, ite_self]

theorem execPortFltAssert_frame (p s) : Outside.entryPixelsToll (outS (execPortFltAssert p s) s) =
    Outside.entryPixelsToll s := by
  unfold execPortFltAssert
  simp only [outS, ↓Outside.entryPixelsToll_of_link (onLink_frame _ _ _), ↓Outside.entryPixelsToll_of_entry
      (losePort_frame _ _ _), ↓failBringUp_frame, ↓apply_ite Outside.entryPixelsToll, ite_self]

theorem execReturnLaneGraceExpiry_frame (p s) : Outside.entry (outS (execReturnLaneGraceExpiry p s) s) =
    Outside.entry s := by
  unfold execReturnLaneGraceExpiry
  simp only [outS, ↓losePort_frame, ↓apply_ite Outside.entry, ite_self]

theorem execReturnReceiverRetrained_frame (p s) : Outside.records (outS (execReturnReceiverRetrained p s) s) =
    Outside.records s := by
  unfold execReturnReceiverRetrained
  simp only [outS, ↓clearCondition_frame, ↓chooseCtle_frame, ↓Outside.records_of_link (onLink_frame _ _ _),
      ↓apply_ite Outside.records, ite_self]

theorem execLaneTxFault_frame (p lane s) : Outside.entry (outS (execLaneTxFault p lane s) s) = Outside.entry s := by
  unfold execLaneTxFault
  simp only [outS, ↓laneFailure_frame, ↓apply_ite Outside.entry, ite_self]

theorem execCtrlAckTimeout_frame (p s) : Outside.entryPixelsToll (outS (execCtrlAckTimeout p s) s) =
    Outside.entryPixelsToll s := by
  unfold execCtrlAckTimeout
  repeat' split
  all_goals simp only [outS, ↓Outside.entryPixelsToll_of_link (onLink_frame _ _ _), ↓failBringUp_frame,
      ↓Outside.entryPixelsToll_of_entry (raiseKind_frame _ _ _)]

theorem execLsResumeTimeout_frame (p s) : Outside.entry (outS (execLsResumeTimeout p s) s) = Outside.entry s := by
  unfold execLsResumeTimeout
  simp only [outS, ↓losePort_frame, ↓apply_ite Outside.entry, ite_self]

theorem execPortFltRelease_frame (p s) : Outside.records (outS (execPortFltRelease p s) s) = Outside.records s := by
  unfold execPortFltRelease
  simp only [outS, ↓clearLoss_frame, ↓Outside.records_of_link (onLink_frame _ _ _), ↓apply_ite Outside.records,
      ite_self]

theorem execLaneRetrainDone_frame (p lane errors s) : Outside.link (outS (execLaneRetrainDone p lane errors s) s)
    = Outside.link s := by
  unfold execLaneRetrainDone
  simp only [outS, ↓onLink_frame, ↓apply_ite Outside.link, ite_self]

theorem execReturnLaneLost_frame (p s) : Outside.entry (outS (execReturnLaneLost p s) s) = Outside.entry s := by
  unfold execReturnLaneLost
  simp only [outS, ↓raiseKind_frame, ↓Outside.entry_of_link (onLink_frame _ _ _), ↓apply_ite Outside.entry, ite_self]

theorem execJournalBudgetRefill_frame (s) : Outside.aon (outS (execJournalBudgetRefill s) s) = Outside.aon s := by
  unfold execJournalBudgetRefill
  simp only [outS, ↓Outside.aon_update]

theorem execCommitAllowanceRefill_frame (s) : Outside.aon (outS (execCommitAllowanceRefill s) s) = Outside.aon s := by
  unfold execCommitAllowanceRefill
  simp only [outS, ↓Outside.aon_update]

theorem execBlackBoxCommitDone_frame (verified s) : Outside.entry (outS (execBlackBoxCommitDone verified s) s) =
    Outside.entry s := by
  unfold execBlackBoxCommitDone
  repeat' split
  all_goals simp only [outS, ↓endCommit_frame]

theorem execAck_frame (p packet s) : Outside.entryPixelsToll (outS (execAck p packet s) s) =
    Outside.entryPixelsToll s := by
  unfold execAck
  simp only [receiveReturn, outS, ↓Outside.entryPixelsToll_of_link (countCodeErrors_frame _ _ _),
      ↓Outside.entryPixelsToll_of_link (onLink_frame _ _ _), ↓apply_ite Outside.entryPixelsToll]
  repeat' split
  all_goals simp only [↓Outside.entryPixelsToll_of_link (countCodeErrors_frame _ _ _),
      ↓Outside.entryPixelsToll_of_link (onLink_frame _ _ _), ↓answerCtrl_frame]

theorem execHoldExpired_frame (p packet s) : Outside.link (outS (execHoldExpired p packet s) s) = Outside.link s := by
  unfold execHoldExpired
  simp only [receiveReturn, outS, ↓countCodeErrors_frame, ↓onLink_frame, ↓apply_ite Outside.link, ite_self]

theorem execPortEchoReenable_frame (p s) : Outside.recordsNvmPixels (outS (execPortEchoReenable p s) s) =
    Outside.recordsNvmPixels s := by
  unfold execPortEchoReenable
  simp only [outS, ↓Outside.recordsNvmPixels_of_pixels (onPixels_frame _ _ _), ↓Outside.recordsNvmPixels_of_nvm
      (putRecord_frame _ _ _ _), ↓Outside.recordsNvmPixels_of_records (clearCondition_frame _ _ _), ↓apply_ite
      Outside.recordsNvmPixels, ite_self]

theorem execVfSample_frame (p packet s) : Outside.entryDrivePixels (outS (execVfSample p packet s) s) =
    Outside.entryDrivePixels s := by
  unfold execVfSample
  simp only [receiveReturn, outS, ↓Outside.entryDrivePixels_of_link (countCodeErrors_frame _ _ _),
      ↓Outside.entryDrivePixels_of_link (onLink_frame _ _ _), ↓Outside.entryDrivePixels_of_pixels (onPixels_frame _ _
      _), ↓probeSample_frame, ↓sweepSample_frame, ↓Outside.entryDrivePixels_of_pixels (noteSampled_frame _ _ _ _ _),
      ↓apply_ite Outside.entryDrivePixels, ite_self, ↓foldl_keeps Outside.entryDrivePixels, implies_true]

theorem execTemp_frame (p packet s) : Outside.entryHeadroomHkPixelsToll (outS (execTemp p packet s) s) =
    Outside.entryHeadroomHkPixelsToll s := by
  unfold execTemp
  simp only [receiveReturn, outS, ↓Outside.entryHeadroomHkPixelsToll_of_link (countCodeErrors_frame _ _ _),
      ↓Outside.entryHeadroomHkPixelsToll_of_link (onLink_frame _ _ _), ↓Outside.entryHeadroomHkPixelsToll_of_toll
      (firstTemp_frame _ _ _), ↓Outside.entryHeadroomHkPixelsToll_of_entry (laneFailure_frame _ _ _),
      ↓Outside.entryHeadroomHkPixelsToll_of_entryPixels (withdrawReport_frame _ _ _),
      ↓Outside.entryHeadroomHkPixelsToll_update, ↓apply_ite Outside.entryHeadroomHkPixelsToll, ite_self, ↓foldl_keeps
      Outside.entryHeadroomHkPixelsToll, implies_true]

theorem execLaneFail_frame (p packet s) : Outside.entry (outS (execLaneFail p packet s) s) = Outside.entry s := by
  unfold execLaneFail
  simp only [receiveReturn, outS, ↓Outside.entry_of_link (countCodeErrors_frame _ _ _), ↓Outside.entry_of_link
      (onLink_frame _ _ _), ↓laneFailure_frame, ↓apply_ite Outside.entry, ite_self]

theorem execConfirmationStepStart_frame (p s) : Outside.linkPixels (outS (execConfirmationStepStart p s) s) =
    Outside.linkPixels s := by
  unfold execConfirmationStepStart
  simp only [outS, ↓apply_ite Outside.linkPixels]
  repeat' split
  all_goals simp only [↓startStep_frame, ↓Outside.linkPixels_of_pixels (onPixels_frame _ _ _)]

theorem execBandStatusMissed_frame (p band s) : Outside.pixels (outS (execBandStatusMissed p band s) s) =
    Outside.pixels s := by
  unfold execBandStatusMissed
  simp only [outS, ↓onPixels_frame, ↓apply_ite Outside.pixels, ite_self]

theorem execBandStatus_frame (p packet s) : Outside.entryPixels (outS (execBandStatus p packet s) s) =
    Outside.entryPixels s := by
  unfold execBandStatus
  simp only [receiveReturn, outS, ↓Outside.entryPixels_of_link (countCodeErrors_frame _ _ _),
      ↓Outside.entryPixels_of_link (onLink_frame _ _ _), ↓Outside.entryPixels_of_pixels (onPixels_frame _ _ _),
      ↓Outside.entryPixels_of_pixels (noteLatched_frame _ _ _ _), ↓judgeFlags_frame, ↓judgeEcho_frame, ↓apply_ite
      Outside.entryPixels, ite_self]

theorem execAgeWriteback_frame (s) : Outside.drive (outS (execAgeWriteback s) s) = Outside.drive s := by
  unfold execAgeWriteback
  simp only [outS, ↓writebackAges_frame, ↓apply_ite Outside.drive, ite_self]

theorem execFullScaleEstimate_frame (p s) : Outside.entryComposeDrive (outS (execFullScaleEstimate p s) s) =
    Outside.entryComposeDrive s := by
  unfold execFullScaleEstimate
  simp only [outS, ↓apply_ite Outside.entryComposeDrive]
  repeat' split
  all_goals simp only [↓Outside.entryComposeDrive_of_drive (onFullScale_frame _ _ _), ↓takeEstimate_frame]

theorem execAgeAveragingPeriod_frame (s) : Outside.drivePixels (outS (execAgeAveragingPeriod s) s) =
    Outside.drivePixels s := by
  unfold execAgeAveragingPeriod
  simp only [outS, ↓agePixel_frame, ↓Outside.drivePixels_update, ↓apply_ite Outside.drivePixels, ite_self,
      ↓foldl_keeps Outside.drivePixels, implies_true]

theorem execSinkPeriodBoundary_frame (group s) : Outside.freeSinks (outS (execSinkPeriodBoundary group s) s) =
    Outside.freeSinks s := by
  unfold execSinkPeriodBoundary
  simp only [outS, ↓Outside.freeSinks_of_sinks (applyGroup_frame _ _), ↓Outside.freeSinks_of_sinks (onSink_frame _
      _ _), ↓recalibrate_frame, ↓Outside.freeSinks_update, ↓apply_ite Outside.freeSinks, ite_self, ↓foldl_keeps
      Outside.freeSinks, implies_true]

theorem execSinkOpenProbe_frame (channel pin s) : Outside.entrySinks (outS (execSinkOpenProbe channel pin s) s) =
    Outside.entrySinks s := by
  unfold execSinkOpenProbe
  simp only [outS, ↓Outside.entrySinks_of_sinks (onSink_frame _ _ _), ↓Outside.entrySinks_of_entry
      (raiseKind_frame _ _ _), ↓apply_ite Outside.entrySinks, ite_self]

theorem execSinkHeadroomCycleEnd_frame (group s) : Outside.sinks (outS (execSinkHeadroomCycleEnd group s) s) =
    Outside.sinks s := by
  unfold execSinkHeadroomCycleEnd
  simp only [outS, ↓onGroup_frame, ↓apply_ite Outside.sinks, ite_self]

theorem execSinkNeighbourTest_frame (channel pin s) : Outside.entrySinks (outS (execSinkNeighbourTest channel pin
    s) s) = Outside.entrySinks s := by
  unfold execSinkNeighbourTest
  simp only [outS, ↓Outside.entrySinks_of_sinks (onSink_frame _ _ _), ↓Outside.entrySinks_of_entry
      (raiseKind_frame _ _ _), ↓apply_ite Outside.entrySinks, ite_self]

theorem execSinkGroupShutdown_frame (group s) : Outside.entrySinks (outS (execSinkGroupShutdown group s) s) =
    Outside.entrySinks s := by
  unfold execSinkGroupShutdown
  simp only [outS, ↓Outside.entrySinks_of_entry (raiseKind_frame _ _ _), ↓Outside.entrySinks_of_sinks
      (onGroup_frame _ _ _), ↓apply_ite Outside.entrySinks, ite_self]

theorem execSinkShortTrip_frame (trip s) : Outside.entrySinks (outS (execSinkShortTrip trip s) s) =
    Outside.entrySinks s := by
  unfold execSinkShortTrip
  simp only [outS, ↓Outside.entrySinks_of_entry (raiseKind_frame _ _ _), ↓Outside.entrySinks_of_sinks
      (onSink_frame _ _ _), ↓apply_ite Outside.entrySinks, ite_self]

theorem execSinkShortRetry_frame (channel pin s) : Outside.sinks (outS (execSinkShortRetry channel pin s) s) =
    Outside.sinks s := by
  unfold execSinkShortRetry
  simp only [outS, ↓retrySink_frame]

theorem execSinkGroupRestart_frame (group s) : Outside.recordsSinks (outS (execSinkGroupRestart group s) s) =
    Outside.recordsSinks s := by
  unfold execSinkGroupRestart
  simp only [outS, ↓recoverGroup_frame, ↓Outside.recordsSinks_of_sinks (resumeGroup_frame _ _), ↓apply_ite
      Outside.recordsSinks, ite_self]

theorem execReferenceDisagreement_frame (s) : Outside.entry (outS (execReferenceDisagreement s) s) = Outside.entry
    s := by
  unfold execReferenceDisagreement
  simp only [outS, ↓raiseKind_frame, ↓apply_ite Outside.entry, ite_self]

theorem execPortSupplyInsufficient_frame (p s) : Outside.entry (outS (execPortSupplyInsufficient p s) s) =
    Outside.entry s := by
  unfold execPortSupplyInsufficient
  simp only [outS, ↓raiseKind_frame, ↓apply_ite Outside.entry, ite_self]

theorem execThermalStateFall_frame (loc s) : Outside.entryHk (outS (execThermalStateFall loc s) s) =
    Outside.entryHk s := by
  unfold execThermalStateFall
  repeat' split
  all_goals simp only [outS, ↓Outside.entryHk_of_hk (onHk_frame _ _), ↓enterThermal_frame]

theorem execArrayRestart_frame (p s) : Outside.entryHk (outS (execArrayRestart p s) s) = Outside.entryHk s := by
  unfold execArrayRestart
  simp only [outS, ↓Outside.entryHk_of_records (clearCondition_frame _ _ _), ↓enterThermal_frame,
      ↓Outside.entryHk_of_hk (onHk_frame _ _), ↓apply_ite Outside.entryHk, ite_self]

theorem execArrayThermalShutdown_frame (p s) : Outside.entryHk (outS (execArrayThermalShutdown p s) s) =
    Outside.entryHk s := by
  unfold execArrayThermalShutdown
  simp only [outS, ↓Outside.entryHk_of_link (dropEnables_frame _), ↓Outside.entryHk_of_records
      (settleThrottle_frame _), ↓Outside.entryHk_of_entry (raiseKind_frame _ _ _), ↓Outside.entryHk_of_hk
      (putThermal_frame _ _ _), ↓apply_ite Outside.entryHk, ite_self]

theorem execSensorDisqualify_frame (sensor s) : Outside.entryHk (outS (execSensorDisqualify sensor s) s) =
    Outside.entryHk s := by
  unfold execSensorDisqualify
  simp only [outS, ↓Outside.entryHk_of_hk (onHk_frame _ _), ↓escalateSensors_frame, ↓Outside.entryHk_of_entry
      (raiseKind_frame _ _ _), ↓apply_ite Outside.entryHk, ite_self]

theorem execBeamReqDiscrepancy_frame (s) : Outside.queue (outS (execBeamReqDiscrepancy s) s) = Outside.queue s := by
  unfold execBeamReqDiscrepancy
  simp only [outS, ↓settleRequest_frame, ↓Outside.queue_of_entry (raiseKind_frame _ _ _), ↓Outside.queue_of_safety
      (onSafety_frame _ _), ↓apply_ite Outside.queue, ite_self]

theorem execCommissioningCheckComputed_frame (s) : Outside.ceilingSafety (outS (execCommissioningCheckComputed s)
    s) = Outside.ceilingSafety s := by
  unfold execCommissioningCheckComputed
  simp only [outS, ↓Outside.ceilingSafety_of_safety (onSafety_frame _ _), ↓judgeCommissioning_frame, ↓apply_ite
      Outside.ceilingSafety, ite_self]

theorem execBeamReqChange_frame (a b s) : Outside.queue (outS (execBeamReqChange a b s) s) = Outside.queue s := by
  unfold execBeamReqChange
  simp only [outS, ↓settleRequest_frame, ↓Outside.queue_of_safety (agreeRequest_frame _), ↓Outside.queue_of_safety
      (onSafety_frame _ _), ↓apply_ite Outside.queue, ite_self]

theorem execSafeOutTest_frame (highAt2 highAt4 demand s) : Outside.entrySafety (outS (execSafeOutTest highAt2
    highAt4 demand s) s) = Outside.entrySafety s := by
  unfold execSafeOutTest
  simp only [outS, ↓failOutTest_frame, ↓Outside.entrySafety_of_safety (onSafety_frame _ _),
      ↓Outside.entrySafety_of_records (recoverKind_frame _ _ _), ↓apply_ite Outside.entrySafety, ite_self]

theorem execSafeBeamCopyDone_frame (s) : Outside.ceilingSafeBeam (outS (execSafeBeamCopyDone s) s) =
    Outside.ceilingSafeBeam s := by
  unfold execSafeBeamCopyDone
  simp only [outS, ↓Outside.ceilingSafeBeam_update, ↓apply_ite Outside.ceilingSafeBeam, ite_self]

theorem execDiscrepancyExit_frame (s) : Outside.queue (outS (execDiscrepancyExit s) s) = Outside.queue s := by
  unfold execDiscrepancyExit
  simp only [outS, ↓settleRequest_frame, ↓Outside.queue_of_records (exitKind_frame _ _ _),
      ↓Outside.queue_of_safety (agreeRequest_frame _), ↓apply_ite Outside.queue, ite_self]

theorem execOptionLoadCommit_frame (strap s) : Outside.entryPower (outS (execOptionLoadCommit strap s) s) =
    Outside.entryPower s := by
  unfold execOptionLoadCommit
  simp only [outS, ↓Outside.entryPower_of_power (powerUpVoted_frame _), ↓apply_ite Outside.entryPower]
  repeat' split
  all_goals simp only [↓Outside.entryPower_of_entry (raiseKind_frame _ _ _), ↓Outside.entryPower_update]

theorem execSbpWakeMatch_frame (leap s) : Outside.recordsPowerSafety (outS (execSbpWakeMatch leap s) s) =
    Outside.recordsPowerSafety s := by
  unfold execSbpWakeMatch
  simp only [outS, ↓Outside.recordsPowerSafety_of_aon (countLeap_frame _ _), ↓wake_frame, ↓apply_ite
      Outside.recordsPowerSafety, ite_self]

theorem execDieShutdownDecision_frame (die s) : Outside.queue (outS (execDieShutdownDecision die s) s) =
    Outside.queue s := by
  unfold execDieShutdownDecision
  simp only [outS, ↓Outside.queue_of_aon (freezeVotes_frame _), ↓Outside.queue_of_hk (onHk_frame _ _),
      ↓Outside.queue_of_aon (sendShadow_frame _), ↓Outside.queue_of_faultsLink (settle_frame _), ↓forceOff_frame,
      ↓Outside.queue_of_caravanHostJournalNvm (cutRunning_frame _), ↓Outside.queue_of_entry (raiseShutdown_frame _ _),
      ↓Outside.queue_update, ↓apply_ite Outside.queue, ite_self]

theorem execDieRestart_frame (die s) : Outside.queue (outS (execDieRestart die s) s) = Outside.queue s := by
  unfold execDieRestart
  simp only [outS, ↓Outside.queue_of_entryHk (enterThermal_frame _ _ _), ↓Outside.queue_of_hk (onHk_frame _ _),
      ↓Outside.queue_of_records (recoverKind_frame _ _ _), ↓thaw_frame, ↓Outside.queue_update, ↓apply_ite
      Outside.queue, ite_self]

theorem execWakeRecognised_frame (leap s) : Outside.recordsPowerSafety (outS (execWakeRecognised leap s) s) =
    Outside.recordsPowerSafety s := by
  unfold execWakeRecognised
  simp only [outS, ↓Outside.recordsPowerSafety_of_aon (countLeap_frame _ _), ↓wake_frame, ↓apply_ite
      Outside.recordsPowerSafety, ite_self]

theorem execCoreSupplyWaitTimeout_frame (s) : Outside.entryPower (outS (execCoreSupplyWaitTimeout s) s) =
    Outside.entryPower s := by
  unfold execCoreSupplyWaitTimeout
  simp only [outS, ↓Outside.entryPower_of_entry (raiseKind_frame _ _ _), ↓Outside.entryPower_of_power
      (onPower_frame _ _), ↓apply_ite Outside.entryPower, ite_self]

theorem execResetNRelease_frame (sameCycle leap s) : Outside.aonHkPowerSinksUnits (outS (execResetNRelease
    sameCycle leap s) s) = Outside.aonHkPowerSinksUnits s := by
  unfold execResetNRelease
  simp only [outS, ↓releaseTogether_frame, ↓Outside.aonHkPowerSinksUnits_of_power (onPower_frame _ _),
      ↓Outside.aonHkPowerSinksUnits_of_powerUnits (startSequence_frame _ _), ↓Outside.aonHkPowerSinksUnits_of_aon
      (countLeap_frame _ _), ↓Outside.aonHkPowerSinksUnits_update, ↓apply_ite Outside.aonHkPowerSinksUnits, ite_self]

theorem execDomainMinOffEnd_frame (d s) : Outside.power (outS (execDomainMinOffEnd d s) s) = Outside.power s := by
  unfold execDomainMinOffEnd
  simp only [outS, ↓powerUpVoted_frame, ↓setDomain_frame, ↓apply_ite Outside.power, ite_self]

theorem execPorRelease_frame (sameCycle s) : Outside.aonHkPowerSinksUnits (outS (execPorRelease sameCycle s) s) =
    Outside.aonHkPowerSinksUnits s := by
  unfold execPorRelease
  simp only [outS, ↓releaseTogether_frame, ↓clearAon_frame, ↓Outside.aonHkPowerSinksUnits_of_power (onPower_frame
      _ _), ↓Outside.aonHkPowerSinksUnits_of_powerUnits (startSequence_frame _ _), ↓apply_ite
      Outside.aonHkPowerSinksUnits, ite_self]

theorem execSupplyWarning_frame (supply s) : Outside.entryPower (outS (execSupplyWarning supply s) s) =
    Outside.entryPower s := by
  unfold execSupplyWarning
  simp only [onSupply, outS, ↓Outside.entryPower_of_entry (raiseKind_frame _ _ _), ↓Outside.entryPower_update,
      ↓apply_ite Outside.entryPower, ite_self]

theorem execCalibrationStepDone_frame (s) : Outside.queue (outS (execCalibrationStepDone s) s) = Outside.queue s := by
  unfold execCalibrationStepDone
  simp only [outS, ↓endCalStep_frame]

theorem execPorAssert_frame (s) : Outside.queueFree (outS (execPorAssert s) s) = Outside.queueFree s := by
  unfold execPorAssert
  simp only [outS, ↓assertSource_frame]

theorem execDomainPowerDownStart_frame (d s) : Outside.queue (outS (execDomainPowerDownStart d s) s) =
    Outside.queue s := by
  unfold execDomainPowerDownStart
  simp only [outS, ↓Outside.queue_of_faultsLink (settle_frame _), ↓quiesce_frame, ↓apply_ite Outside.queue, ite_self]

theorem execDomainPowerUpDone_frame (d leap s) : Outside.work (outS (execDomainPowerUpDone d leap s) s) =
    Outside.work s := by
  unfold execDomainPowerUpDone
  simp only [outS, ↓Outside.work_of_aon (countLeap_frame _ _), ↓Outside.work_of_faultsLink (settle_frame _),
      ↓Outside.work_of_power (powerUpVoted_frame _), ↓domainUp_frame, ↓Outside.work_of_power (setDomain_frame _ _ _),
      ↓apply_ite Outside.work, ite_self]

theorem execResetNAssert_frame (s) : Outside.queueFree (outS (execResetNAssert s) s) = Outside.queueFree s := by
  unfold execResetNAssert
  simp only [outS, ↓assertSource_frame]

theorem execStopEntryTasksDone_frame (s) : Outside.queue (outS (execStopEntryTasksDone s) s) = Outside.queue s := by
  unfold execStopEntryTasksDone
  simp only [outS, ↓Outside.queue_of_power (onPower_frame _ _), ↓Outside.queue_of_power (onVotes_frame _ _),
      ↓Outside.queue_of_drive (writebackAges_frame _), ↓Outside.queue_of_faultsLink (settle_frame _),
      ↓enterStop_frame, ↓apply_ite Outside.queue, ite_self]

theorem execSupplyOutOfWindow_frame (supply s) : Outside.queue (outS (execSupplyOutOfWindow supply s) s) =
    Outside.queue s := by
  unfold execSupplyOutOfWindow
  repeat' split
  all_goals simp only [onSupply, outS, ↓Outside.queue_of_entryFetchUnits (failDram_frame _),
      ↓Outside.queue_of_faultsLink (settle_frame _), ↓forceSupply_frame, ↓Outside.queue_update]

theorem plainDdb_frame (ty die frame s) : Outside.records (outS (plainDdb ty die frame s) s) = Outside.records s := by
  unfold plainDdb
  simp only [receiveDdb, outS, ↓Outside.records_of_faults (owesNak_frame _ _), ↓Outside.records_of_faults
      (onDdb_frame _ _ _), ↓bridgeHeard_frame, ↓Outside.records_of_faults (acceptDdb_frame _ _ _),
      ↓Outside.records_of_faults (breakRecord_frame _ _), ↓Outside.records_of_faults (sendsGood_frame _ _), ↓apply_ite
      Outside.records, ite_self]

theorem execDdbReadRequest_frame (die frame s) : Outside.records (outS (execDdbReadRequest die frame s) s) =
    Outside.records s := by
  exact plainDdb_frame _ die frame s

theorem execDdbNegativeAcknowledge_frame (die nak s) : Outside.entry (outS (execDdbNegativeAcknowledge die nak s) s) = Outside.entry s := by
  unfold execDdbNegativeAcknowledge
  simp only [receiveDdb, outS, ↓Outside.entry_of_faults (owesNak_frame _ _), ↓Outside.entry_of_faults (onDdb_frame
      _ _ _), ↓Outside.entry_of_records (bridgeHeard_frame _), ↓Outside.entry_of_faults (acceptDdb_frame _ _ _),
      ↓Outside.entry_of_faults (sendFailed_frame _ _ _), ↓raiseBridge_frame, ↓apply_ite Outside.entry, ite_self]

theorem execDdbWaybill_frame (die frame s) : Outside.records (outS (execDdbWaybill die frame s) s) =
    Outside.records s := by
  unfold execDdbWaybill
  simp only [receiveDdb, outS, ↓Outside.records_of_faults (owesNak_frame _ _), ↓Outside.records_of_faults
      (onDdb_frame _ _ _), ↓bridgeHeard_frame, ↓Outside.records_of_faults (acceptDdb_frame _ _ _),
      ↓Outside.records_of_faults (sendsGood_frame _ _), ↓apply_ite Outside.records, ite_self]

theorem execDdbEvent_frame (die frame s) : Outside.records (outS (execDdbEvent die frame s) s) = Outside.records s
    := by
  exact plainDdb_frame _ die frame s

theorem execDdbWriteAcknowledge_frame (die frame s) : Outside.records (outS (execDdbWriteAcknowledge die frame s)
    s) = Outside.records s := by
  exact plainDdb_frame _ die frame s

theorem execDdbReadResponse_frame (die frame s) : Outside.records (outS (execDdbReadResponse die frame s) s) =
    Outside.records s := by
  exact plainDdb_frame _ die frame s

theorem execDdbWrite_frame (die frame s) : Outside.records (outS (execDdbWrite die frame s) s) = Outside.records s
    := by
  exact plainDdb_frame _ die frame s

theorem execDdbSilenceTimeout_frame (die s) : Outside.entry (outS (execDdbSilenceTimeout die s) s) = Outside.entry
    s := by
  unfold execDdbSilenceTimeout
  simp only [outS, ↓raiseBridge_frame, ↓apply_ite Outside.entry, ite_self]

theorem execDdbIdleFrame_frame (die frame s) : Outside.records (outS (execDdbIdleFrame die frame s) s) =
    Outside.records s := by
  unfold execDdbIdleFrame
  simp only [outS, ↓Outside.records_of_faults (owesNak_frame _ _), ↓bridgeHeard_frame, ↓apply_ite Outside.records,
      ite_self]

theorem execEscalationExpiry_frame (kind _p s) : Outside.records (outS (execEscalationExpiry kind _p s) s) =
    Outside.records s := by
  unfold execEscalationExpiry
  repeat' split
  all_goals simp only [outS, ↓escalate_frame]

theorem execFaultNPulseEnd_frame (s) : Outside.faults (outS (execFaultNPulseEnd s) s) = Outside.faults s := by
  unfold execFaultNPulseEnd
  simp only [outS, ↓onFaults_frame]

theorem execQuietPeriodEnd_frame (kind unit s) : Outside.queue (outS (execQuietPeriodEnd kind unit s) s) =
    Outside.queue s := by
  unfold execQuietPeriodEnd
  repeat' split
  all_goals simp only [outS, ↓endQuiet_frame]

theorem execHoldSafeBeamTimeout_frame (s) : Outside.faultsLink (outS (execHoldSafeBeamTimeout s) s) =
    Outside.faultsLink s := by
  unfold execHoldSafeBeamTimeout
  simp only [outS, ↓Outside.faultsLink_of_link (releaseHold_frame _), ↓Outside.faultsLink_of_faults
      (onFaults_frame _ _), ↓apply_ite Outside.faultsLink, ite_self]

theorem execStatusMapSnapshotDone_frame (p s) : Outside.pixels (outS (execStatusMapSnapshotDone p s) s) =
    Outside.pixels s := by
  unfold execStatusMapSnapshotDone
  repeat' split
  all_goals simp only [outS, ↓onPixels_frame]

theorem execHousekeepingSlot_frame (raw ld leap s) : Outside.queue (outS (execHousekeepingSlot raw ld leap s) s) =
    Outside.queue s := by
  unfold execHousekeepingSlot
  simp only [outS, ↓Outside.queue_of_aon (countLeap_frame _ _), ↓Outside.queue_of_scan (advanceDt_frame _ _),
      ↓releaseWakeVotes_frame, ↓Outside.queue_of_faultsHost (recoverBuses_frame _),
      ↓Outside.queue_of_entryHeadroomHkPixelsToll (nextSlot_frame _), ↓Outside.queue_of_work (runSlot_frame _ _ _ _),
      ↓apply_ite Outside.queue, ite_self]

theorem execWaybillAckTimeout_frame (unit s) : Outside.aonCaravanFaultsFreeHost (outS (execWaybillAckTimeout unit
    s) s) = Outside.aonCaravanFaultsFreeHost s := by
  unfold execWaybillAckTimeout
  repeat' split
  all_goals simp only [outS, ↓sendWaybill_frame, ↓Outside.aonCaravanFaultsFreeHost_of_faults (onFaults_frame _ _)]

theorem execDramErrorRateWindow_frame (corrected s) : Outside.entryDramCorrectedDramRateSramCorrected (outS
    (execDramErrorRateWindow corrected s) s) = Outside.entryDramCorrectedDramRateSramCorrected s := by
  unfold execDramErrorRateWindow
  simp only [outS, ↓Outside.entryDramCorrectedDramRateSramCorrected_of_sramCorrected (countSram_frame _ _),
      ↓Outside.entryDramCorrectedDramRateSramCorrected_of_faults (handleByPins_frame _),
      ↓Outside.entryDramCorrectedDramRateSramCorrected_of_entry (raiseKind_frame _ _ _),
      ↓Outside.entryDramCorrectedDramRateSramCorrected_of_records (clearCondition_frame _ _ _),
      ↓Outside.entryDramCorrectedDramRateSramCorrected_update, ↓apply_ite
      Outside.entryDramCorrectedDramRateSramCorrected, ite_self]

theorem execCpInterruptAcknowledge_frame (unit s) : Outside.faults (outS (execCpInterruptAcknowledge unit s) s) =
    Outside.faults s := by
  unfold execCpInterruptAcknowledge
  simp only [outS, ↓onFaults_frame, ↓apply_ite Outside.faults, ite_self]

theorem execProgramStoreCopyDone_frame (s) : Outside.queue (outS (execProgramStoreCopyDone s) s) = Outside.queue s
    := by
  unfold execProgramStoreCopyDone
  simp only [outS, ↓advanceActivation_frame, ↓Outside.queue_of_nvm (putBank_frame _ _ _), ↓Outside.queue_of_update
      (onUpdate_frame _ _), ↓apply_ite Outside.queue, ite_self]

theorem execSvcEnRise_frame (s) : Outside.update (outS (execSvcEnRise s) s) = Outside.update s := by
  unfold execSvcEnRise
  simp only [outS, ↓onUpdate_frame, ↓closeHeldBy_frame]

theorem execSvcEnFall_frame (s) : Outside.update (outS (execSvcEnFall s) s) = Outside.update s := by
  unfold execSvcEnFall
  simp only [outS, ↓onUpdate_frame]

theorem execSlotEraseDone_frame (s) : Outside.caravanUpdate (outS (execSlotEraseDone s) s) = Outside.caravanUpdate
    s := by
  unfold execSlotEraseDone
  repeat' split
  all_goals simp only [outS, ↓respondSvc_frame, ↓Outside.caravanUpdate_of_update (onUpdate_frame _ _)]

theorem execSvcWrite_frame (f s) : Outside.queue (outS (execSvcWrite f s) s) = Outside.queue s := by
  unfold execSvcWrite
  simp only [outS, ↓receiveFrame_frame]

theorem execSvcFinish_frame (f s) : Outside.queue (outS (execSvcFinish f s) s) = Outside.queue s := by
  unfold execSvcFinish
  simp only [outS, ↓receiveFrame_frame]

theorem execSvcActivate_frame (f s) : Outside.queue (outS (execSvcActivate f s) s) = Outside.queue s := by
  unfold execSvcActivate
  simp only [outS, ↓receiveFrame_frame]

theorem execSvcRelaySelect_frame (f s) : Outside.queue (outS (execSvcRelaySelect f s) s) = Outside.queue s := by
  unfold execSvcRelaySelect
  simp only [outS, ↓settleRelayVote_frame, ↓receiveFrame_frame]

theorem execSvcOpen_frame (f s) : Outside.queue (outS (execSvcOpen f s) s) = Outside.queue s := by
  unfold execSvcOpen
  simp only [outS, ↓receiveFrame_frame]

theorem execSvcStatus_frame (f s) : Outside.queue (outS (execSvcStatus f s) s) = Outside.queue s := by
  unfold execSvcStatus
  simp only [outS, ↓receiveFrame_frame]

theorem execSvcSetRate_frame (f s) : Outside.queue (outS (execSvcSetRate f s) s) = Outside.queue s := by
  unfold execSvcSetRate
  simp only [outS, ↓receiveFrame_frame]

theorem execSvcClose_frame (f s) : Outside.queue (outS (execSvcClose f s) s) = Outside.queue s := by
  unfold execSvcClose
  simp only [outS, ↓receiveFrame_frame]

theorem execRelaySelectTimeout_frame (s) : Outside.queue (outS (execRelaySelectTimeout s) s) = Outside.queue s := by
  unfold execRelaySelectTimeout
  simp only [outS, ↓Outside.queue_of_caravanUpdate (respondSvc_frame _ _ _ _ _ _), ↓settleRelayVote_frame,
      ↓Outside.queue_of_update (onUpdate_frame _ _), ↓apply_ite Outside.queue, ite_self]

theorem execCaravanSessionIdleTimeout_frame (s) : Outside.update (outS (execCaravanSessionIdleTimeout s) s) =
    Outside.update s := by
  unfold execCaravanSessionIdleTimeout
  simp only [outS, ↓closeHeldBy_frame]

theorem execSvcIdleTimeout_frame (s) : Outside.update (outS (execSvcIdleTimeout s) s) = Outside.update s := by
  unfold execSvcIdleTimeout
  simp only [outS, ↓onUpdate_frame, ↓closeHeldBy_frame]

theorem execFullService_frame (load s) : Outside.queue (outS (execFullService load s) s) = Outside.queue s := by
  unfold execFullService
  simp only [outS, ↓Outside.queue_of_drivePixels (concealAll_frame _), ↓Outside.queue_of_service (loadMaps_frame
      _), ↓Outside.queue_of_service (loadSurface_frame _ _), ↓releaseWakeVotes_frame, ↓Outside.queue_of_power
      (onPower_frame _ _), ↓Outside.queue_update, ↓apply_ite Outside.queue, ite_self, ↓foldl_keeps Outside.queue,
      implies_true]

theorem execLsBootDone_frame (p reads s) : Outside.queue (outS (execLsBootDone p reads s) s) = Outside.queue s := by
  unfold execLsBootDone
  simp only [outS]
  have h := fun x => bootCheck_frame 2 p.num x (!s.units.bootSinceReset) reads s
  split
  · rfl
  · split
    all_goals (
      rename_i e
      have h := h (if isActivated s p = true then s.update.slot else s.nvm.selLs.get p)
      rw [e] at h
      simp only [↓Outside.queue_of_entry (losePort_frame _ _ _), ↓Outside.queue_of_units (onUnits_frame _ _),
          ↓Outside.queue_of_update (stopActivation_frame _), ↓goOn_frame, ↓Outside.queue_of_entryPixelsToll
          (resumePort_frame _ _), ↓Outside.queue_of_nvmUpdate (activationAfterLs_frame _ _ _), ↓apply_ite
          Outside.queue, ite_self]
      exact Outside.queue_of_entryUpdate h)

theorem execDramReadTimeout_frame (s) : Outside.entryFetchUnits (outS (execDramReadTimeout s) s) =
    Outside.entryFetchUnits s := by
  unfold execDramReadTimeout
  simp only [outS, ↓failDram_frame, ↓apply_ite Outside.entryFetchUnits, ite_self]

theorem execSmWatchdogExpiry_frame (s) : Outside.entrySafetyUnits (outS (execSmWatchdogExpiry s) s) =
    Outside.entrySafetyUnits s := by
  unfold execSmWatchdogExpiry
  simp only [outS, ↓Outside.entrySafetyUnits_of_aonCaravanFaultsFreeHost (closeWrapper_frame _ _),
      ↓Outside.entrySafetyUnits_of_entry (raiseKind_frame _ _ _), ↓Outside.entrySafetyUnits_of_safety (onSafety_frame
      _ _), ↓Outside.entrySafetyUnits_of_units (onUnits_frame _ _), ↓apply_ite Outside.entrySafetyUnits, ite_self]

theorem execDramRetrainDone_frame (s) : Outside.aonCaravanFaultsFreeHostUnits (outS (execDramRetrainDone s) s) =
    Outside.aonCaravanFaultsFreeHostUnits s := by
  unfold execDramRetrainDone
  simp only [outS, ↓Outside.aonCaravanFaultsFreeHostUnits_of_aonCaravanFaultsFreeHost (closeWrapper_frame _ _),
      ↓Outside.aonCaravanFaultsFreeHostUnits_of_units (onUnits_frame _ _), ↓apply_ite
      Outside.aonCaravanFaultsFreeHostUnits, ite_self]

theorem execDramFailure_frame (s) : Outside.entryFetchUnits (outS (execDramFailure s) s) = Outside.entryFetchUnits
    s := by
  unfold execDramFailure
  simp only [outS, ↓failDram_frame, ↓apply_ite Outside.entryFetchUnits, ite_self]

theorem execLsWatchdogExpiry_frame (p s) : Outside.entryUnits (outS (execLsWatchdogExpiry p s) s) =
    Outside.entryUnits s := by
  unfold execLsWatchdogExpiry
  simp only [outS, ↓restartLs_frame, ↓Outside.entryUnits_of_entry (raiseKind_frame _ _ _), ↓apply_ite
      Outside.entryUnits, ite_self]

theorem execSramUncorrectable_frame (region s) : Outside.queue (outS (execSramUncorrectable region s) s) =
    Outside.queue s := by
  unfold execSramUncorrectable
  simp only [outS, ↓Outside.queue_of_faultsLink (settle_frame _), ↓handleSram_frame, ↓Outside.queue_of_entry
      (raiseKind_frame _ _ _), ↓apply_ite Outside.queue, ite_self]

theorem execCpWatchdogExpiry_frame (s) : Outside.queue (outS (execCpWatchdogExpiry s) s) = Outside.queue s := by
  unfold execCpWatchdogExpiry
  simp only [outS, ↓restartCp_frame, ↓Outside.queue_of_entry (raiseKind_frame _ _ _), ↓Outside.queue_of_update
      (stopActivation_frame _), ↓apply_ite Outside.queue, ite_self]

theorem execSmStartChecksDone_frame (reads s) : Outside.entryCeilingSafetyUnitsUpdate (outS (execSmStartChecksDone
    reads s) s) = Outside.entryCeilingSafetyUnitsUpdate s := by
  unfold execSmStartChecksDone
  simp only [outS]
  have h := smBoot_frame reads s
  repeat' split
  all_goals try simp only [↓Outside.entryCeilingSafetyUnitsUpdate_of_units (onUnits_frame _ _),
      ↓Outside.entryCeilingSafetyUnitsUpdate_of_faultsLink (settle_frame _),
      ↓Outside.entryCeilingSafetyUnitsUpdate_of_aonJournalNvm (resumeCommit_frame _),
      ↓Outside.entryCeilingSafetyUnitsUpdate_of_ceilingSafety (startCommissioning_frame _),
      ↓Outside.entryCeilingSafetyUnitsUpdate_of_safety (onSafety_frame _ _)]
  all_goals (rename_i e; rw [e] at h; exact Outside.entryCeilingSafetyUnitsUpdate_of_entryUpdate h)

theorem execDramTrainingDone_frame (s) : Outside.units (outS (execDramTrainingDone s) s) = Outside.units s := by
  unfold execDramTrainingDone
  simp only [outS, ↓onUnits_frame, ↓apply_ite Outside.units, ite_self]

theorem execCpBootDone_frame (reads s) : Outside.queue (outS (execCpBootDone reads s) s) = Outside.queue s := by
  unfold execCpBootDone
  simp only [outS]
  have h := bootCheck_frame 0 7 (cpSelected s) (!s.units.bootSinceReset) reads s
  split
  · rfl
  · split
    · simp only [↓recoveryStarted_frame]
    · split
      all_goals (
        rename_i e
        rw [e] at h
        simp only [↓cpStarted_frame, ↓Outside.queue_of_units (onUnits_frame _ _), ↓Outside.queue_of_update
            (breakActivation_frame _), ↓afterWithdrawal_frame, ↓Outside.queue_of_power (onVotes_frame _ _)]
        exact Outside.queue_of_entryUpdate h)

theorem execSmRebootDone_frame (reads s) : Outside.entryCeilingSafetyUnitsUpdate (outS (execSmRebootDone reads s)
    s) = Outside.entryCeilingSafetyUnitsUpdate s := by
  unfold execSmRebootDone
  simp only [outS]
  have h := bootCheck_frame 1 7 s.nvm.selSm false reads s
  repeat' split
  all_goals try simp only [↓Outside.entryCeilingSafetyUnitsUpdate_of_units (onUnits_frame _ _),
      ↓Outside.entryCeilingSafetyUnitsUpdate_of_faultsLink (settle_frame _),
      ↓Outside.entryCeilingSafetyUnitsUpdate_of_records (clearCondition_frame _ _ _),
      ↓Outside.entryCeilingSafetyUnitsUpdate_of_ceilingSafety (startCommissioning_frame _),
      ↓Outside.entryCeilingSafetyUnitsUpdate_of_safety (onSafety_frame _ _)]
  all_goals (rename_i e; rw [e] at h; exact Outside.entryCeilingSafetyUnitsUpdate_of_entryUpdate h)

theorem execJournalRecordCommitted_frame (first retry s) : Outside.queue (outS (execJournalRecordCommitted first
    retry s) s) = Outside.queue s := by
  unfold execJournalRecordCommitted
  repeat' split
  all_goals simp only [outS, ↓Outside.queue_of_recordsHostManifestScanShade (runQueue_frame _),
      ↓Outside.queue_of_caravanHostJournal (refuseWrite_frame _ _ _), ↓Outside.queue_of_entry (failWrite_frame _ _),
      ↓commitWrite_frame, ↓Outside.queue_of_nvm (spoilRecord_frame _ _), ↓Outside.queue_update, ↓apply_ite
      Outside.queue, ite_self]

theorem execJournalScanDone_frame (s) : Outside.caravanDictHostJournalNvm (outS (execJournalScanDone s) s) =
    Outside.caravanDictHostJournalNvm s := by
  unfold execJournalScanDone
  simp only [outS, ↓Outside.caravanDictHostJournalNvm_of_caravanHostJournalNvm (completeLife_frame _),
      ↓Outside.caravanDictHostJournalNvm_of_dict (restoreObjects_frame _ _),
      ↓Outside.caravanDictHostJournalNvm_of_dict (clearSafetySet_frame _), ↓Outside.caravanDictHostJournalNvm_of_nvm
      (putActiveBank_frame _ _), ↓Outside.caravanDictHostJournalNvm_update, ↓apply_ite
      Outside.caravanDictHostJournalNvm, ite_self]

theorem execOptionImageProgrammed_frame (s) : Outside.caravanHostJournalNvm (outS (execOptionImageProgrammed s) s)
    = Outside.caravanHostJournalNvm s := by
  unfold execOptionImageProgrammed
  repeat' split
  all_goals simp only [outS, ↓Outside.caravanHostJournalNvm_of_caravanHostJournal (answerWaiter_frame _ _ _),
      ↓Outside.caravanHostJournalNvm_update]

theorem execSafeBeamAreaProgrammed_frame (readBack s) : Outside.journalNvm (outS (execSafeBeamAreaProgrammed
    readBack s) s) = Outside.journalNvm s := by
  unfold execSafeBeamAreaProgrammed
  repeat' split
  all_goals simp only [outS, ↓Outside.journalNvm_update]

theorem execJournalCompactionDone_frame (s) : Outside.entries (outS (execJournalCompactionDone s) s) =
    Outside.entries s := by
  unfold execJournalCompactionDone
  simp only [outS, ↓Outside.entries_of_nvm (putOtherBank_frame _ _), ↓enterReturn_frame, ↓Outside.entries_update,
      ↓apply_ite Outside.entries, ite_self]

theorem execLifeCycleCustomerToken_frame (via data s) : Outside.queue (outS (execLifeCycleCustomerToken via data
    s) s) = Outside.queue s := by
  unfold execLifeCycleCustomerToken
  simp only [outS, ↓requestWrite_frame]

theorem execStatusMapRowSelect_frame (via p data s) : Outside.queue (outS (execStatusMapRowSelect via p data s) s)
    = Outside.queue s := by
  unfold execStatusMapRowSelect
  simp only [outS, ↓requestWrite_frame]

theorem execSafeBeamAreaCommit_frame (via data s) : Outside.queue (outS (execSafeBeamAreaCommit via data s) s) =
    Outside.queue s := by
  unfold execSafeBeamAreaCommit
  simp only [outS, ↓requestWrite_frame]

theorem execCompositionModeWrite_frame (via data s) : Outside.queue (outS (execCompositionModeWrite via data s) s)
    = Outside.queue s := by
  unfold execCompositionModeWrite
  simp only [outS, ↓requestWrite_frame]

theorem execOptionBlockImageWrite_frame (via data s) : Outside.queue (outS (execOptionBlockImageWrite via data s)
    s) = Outside.queue s := by
  unfold execOptionBlockImageWrite
  simp only [outS, ↓requestWrite_frame]

theorem execFrameRateWrite_frame (via data s) : Outside.queue (outS (execFrameRateWrite via data s) s) =
    Outside.queue s := by
  unfold execFrameRateWrite
  simp only [outS, ↓requestWrite_frame]

theorem execBlockAck_frame (via unit data s) : Outside.queue (outS (execBlockAck via unit data s) s) = Outside.queue s := by
  unfold execBlockAck
  simp only [outS, ↓Outside.queue_of_faults (keepBits_frame _ _ _), ↓requestWrite_frame, ↓Outside.queue_of_entry
      (raiseKinds_frame _ _ _)]

theorem execSessionClose_frame (via data s) : Outside.queue (outS (execSessionClose via data s) s) = Outside.queue
    s := by
  unfold execSessionClose
  simp only [outS, ↓requestWrite_frame]

theorem execHostVoteWrite_frame (via data s) : Outside.queue (outS (execHostVoteWrite via data s) s) =
    Outside.queue s := by
  unfold execHostVoteWrite
  simp only [outS, ↓requestWrite_frame]

theorem execEmitterDisableClear_frame (via p data s) : Outside.queue (outS (execEmitterDisableClear via p data s)
    s) = Outside.queue s := by
  unfold execEmitterDisableClear
  simp only [outS, ↓requestWrite_frame]

theorem execOdObjectWrite_frame (via index sub data s) : Outside.queue (outS (execOdObjectWrite via index sub data
    s) s) = Outside.queue s := by
  unfold execOdObjectWrite
  simp only [outS, ↓requestWrite_frame]

theorem execFaultLatchClear_frame (via data s) : Outside.queue (outS (execFaultLatchClear via data s) s) =
    Outside.queue s := by
  unfold execFaultLatchClear
  simp only [outS, ↓requestWrite_frame]

theorem execLifeCycleMakerToken_frame (via data s) : Outside.queue (outS (execLifeCycleMakerToken via data s) s) =
    Outside.queue s := by
  unfold execLifeCycleMakerToken
  simp only [outS, ↓requestWrite_frame]

theorem execCommissionerKeyWrite_frame (via data s) : Outside.queue (outS (execCommissionerKeyWrite via data s) s)
    = Outside.queue s := by
  unfold execCommissionerKeyWrite
  simp only [outS, ↓requestWrite_frame]

theorem execSurfaceUnpin_frame (via surface s) : Outside.queue (outS (execSurfaceUnpin via surface s) s) =
    Outside.queue s := by
  unfold execSurfaceUnpin
  simp only [outS, ↓requestWrite_frame]

theorem execSafeBeamAreaBlockWrite_frame (via block data s) : Outside.queue (outS (execSafeBeamAreaBlockWrite via
    block data s) s) = Outside.queue s := by
  unfold execSafeBeamAreaBlockWrite
  simp only [outS, ↓requestWrite_frame]

theorem execManifestCommit_frame (via data s) : Outside.queue (outS (execManifestCommit via data s) s) =
    Outside.queue s := by
  unfold execManifestCommit
  simp only [outS, ↓requestWrite_frame]

theorem execSurfacePin_frame (via surface s) : Outside.queue (outS (execSurfacePin via surface s) s) =
    Outside.queue s := by
  unfold execSurfacePin
  simp only [outS, ↓requestWrite_frame]

theorem execSessionChallenge_frame (via s) : Outside.accessCaravanFreeHostJournal (outS (execSessionChallenge via
    s) s) = Outside.accessCaravanFreeHostJournal s := by
  unfold execSessionChallenge
  simp only [outS, ↓requestRead_frame]

theorem execAlmanacMaskRestart_frame (via data s) : Outside.queue (outS (execAlmanacMaskRestart via data s) s) =
    Outside.queue s := by
  unfold execAlmanacMaskRestart
  simp only [outS, ↓requestWrite_frame]

theorem execRestoreDefaultsCustomer_frame (via s) : Outside.queue (outS (execRestoreDefaultsCustomer via s) s) =
    Outside.queue s := by
  unfold execRestoreDefaultsCustomer
  simp only [outS, ↓requestWrite_frame]

theorem execShadeSwapRequest_frame (via data s) : Outside.queue (outS (execShadeSwapRequest via data s) s) =
    Outside.queue s := by
  unfold execShadeSwapRequest
  simp only [outS, ↓requestWrite_frame]

theorem execLifeCycleConsentToken_frame (via data s) : Outside.queue (outS (execLifeCycleConsentToken via data s)
    s) = Outside.queue s := by
  unfold execLifeCycleConsentToken
  simp only [outS, ↓requestWrite_frame]

theorem execChannelRetryClear_frame (via channel data pin s) : Outside.caravanHostJournalSinks (outS
    (execChannelRetryClear via channel data pin s) s) = Outside.caravanHostJournalSinks s := by
  unfold execChannelRetryClear
  simp only [outS, ↓Outside.caravanHostJournalSinks_of_sinks (retrySink_frame _ _ _),
      ↓Outside.caravanHostJournalSinks_of_caravanHostJournal (answer_frame _ _ _ _ _ _ _), ↓apply_ite
      Outside.caravanHostJournalSinks, ite_self]

theorem execRestoreDefaultsSafety_frame (via s) : Outside.queue (outS (execRestoreDefaultsSafety via s) s) =
    Outside.queue s := by
  unfold execRestoreDefaultsSafety
  simp only [outS, ↓requestWrite_frame]

theorem execCommissioningCheckConfirm_frame (via data s) : Outside.queue (outS (execCommissioningCheckConfirm via
    data s) s) = Outside.queue s := by
  unfold execCommissioningCheckConfirm
  simp only [outS, ↓requestWrite_frame]

theorem execWarpMeshWrite_frame (via p data s) : Outside.queue (outS (execWarpMeshWrite via p data s) s) =
    Outside.queue s := by
  unfold execWarpMeshWrite
  simp only [outS, ↓requestWrite_frame]

theorem execVideoStreamBind_frame (via stream data s) : Outside.queue (outS (execVideoStreamBind via stream data
    s) s) = Outside.queue s := by
  unfold execVideoStreamBind
  simp only [outS, ↓requestWrite_frame]

theorem execHostIrqClear_frame (via data s) : Outside.queue (outS (execHostIrqClear via data s) s) = Outside.queue
    s := by
  unfold execHostIrqClear
  simp only [outS, ↓requestWrite_frame]

theorem execSessionResponse_frame (via data s) : Outside.queue (outS (execSessionResponse via data s) s) =
    Outside.queue s := by
  unfold execSessionResponse
  simp only [outS, ↓requestWrite_frame]

theorem execHostLaneTrained_frame (lane s) : Outside.freeHost (outS (execHostLaneTrained lane s) s) =
    Outside.freeHost s := by
  unfold execHostLaneTrained
  simp only [outS, ↓Outside.freeHost_of_free (hostCtle_frame _), ↓Outside.freeHost_of_host (moveControl_frame _),
      ↓Outside.freeHost_of_host (setIrq_frame _ _), ↓Outside.freeHost_of_host (onLane_frame _ _ _),
      ↓Outside.freeHost_of_host (onHost_frame _ _), ↓apply_ite Outside.freeHost, ite_self]

theorem execUhlShadeList_frame (lane packet s) : Outside.recordsHostManifestScanShade (outS (execUhlShadeList lane
    packet s) s) = Outside.recordsHostManifestScanShade s := by
  unfold execUhlShadeList
  simp only [receiveUhl, outS, ↓Outside.recordsHostManifestScanShade_of_host (onLane_frame _ _ _),
      ↓Outside.recordsHostManifestScanShade_of_host (onHost_frame _ _),
      ↓Outside.recordsHostManifestScanShade_of_recordsHost (hostActive_frame _ _), ↓queueItem_frame, ↓apply_ite
      Outside.recordsHostManifestScanShade, ite_self]

theorem execUhlVideoLine_frame (lane packet s) : Outside.recordsDictDramHost (outS (execUhlVideoLine lane packet
    s) s) = Outside.recordsDictDramHost s := by
  unfold execUhlVideoLine
  simp only [receiveUhl, outS, ↓Outside.recordsDictDramHost_of_host (onLane_frame _ _ _),
      ↓Outside.recordsDictDramHost_of_host (onHost_frame _ _), ↓apply_ite Outside.recordsDictDramHost]
  repeat' split
  all_goals simp only [↓Outside.recordsDictDramHost_of_host (onLane_frame _ _ _),
      ↓Outside.recordsDictDramHost_of_host (onHost_frame _ _), ↓Outside.recordsDictDramHost_of_recordsHost
      (hostActive_frame _ _), ↓videoLine_frame]

theorem execVideoPictureComplete_frame (stream s) : Outside.dictHost (outS (execVideoPictureComplete stream s) s)
    = Outside.dictHost s := by
  unfold execVideoPictureComplete
  repeat' split
  all_goals simp only [outS, ↓finishPicture_frame]

theorem execVideoTileRowEncoded_frame (stream s) : Outside.dramFreeHost (outS (execVideoTileRowEncoded stream s)
    s) = Outside.dramFreeHost s := by
  unfold execVideoTileRowEncoded
  repeat' split
  all_goals simp only [outS, ↓encodeTileRow_frame]

theorem execControlLaneChange_frame (s) : Outside.host (outS (execControlLaneChange s) s) = Outside.host s := by
  unfold execControlLaneChange
  simp only [outS, ↓moveControl_frame, ↓onHost_frame, ↓apply_ite Outside.host, ite_self]

theorem execUhlTimeSync_frame (lane packet fraction s) : Outside.entryManifestScanShade (outS (execUhlTimeSync
    lane packet fraction s) s) = Outside.entryManifestScanShade s := by
  unfold execUhlTimeSync
  simp only [receiveUhl, outS, ↓Outside.entryManifestScanShade_of_host (onLane_frame _ _ _),
      ↓Outside.entryManifestScanShade_of_host (onHost_frame _ _), ↓Outside.entryManifestScanShade_of_recordsHost
      (hostActive_frame _ _), ↓Outside.entryManifestScanShade_of_recordsHostManifestScanShade (queueItem_frame _ _),
      ↓Outside.entryManifestScanShade_of_entryScan (phaseEvent_frame _ _ _ _ _), ↓apply_ite
      Outside.entryManifestScanShade, ite_self]

theorem execOdWriteApply_frame (s) : Outside.queue (outS (execOdWriteApply s) s) = Outside.queue s := by
  unfold execOdWriteApply
  repeat' split
  all_goals simp only [outS, ↓Outside.queue_of_recordsHostManifestScanShade (runQueue_frame _),
      ↓applyUhlRecords_frame, ↓Outside.queue_of_host (onHost_frame _ _)]

theorem execHostLinkLoss_frame (s) : Outside.entry (outS (execHostLinkLoss s) s) = Outside.entry s := by
  unfold execHostLinkLoss
  simp only [outS, ↓raiseKind_frame, ↓Outside.entry_of_host (onHost_frame _ _), ↓apply_ite Outside.entry, ite_self]

theorem execUhlOdWrite_frame (lane packet s) : Outside.recordsHost (outS (execUhlOdWrite lane packet s) s) =
    Outside.recordsHost s := by
  unfold execUhlOdWrite
  simp only [receiveUhl, outS, ↓Outside.recordsHost_of_host (onLane_frame _ _ _), ↓Outside.recordsHost_of_host
      (onHost_frame _ _), ↓hostActive_frame, ↓Outside.recordsHost_of_host (discardRecords_frame _), ↓apply_ite
      Outside.recordsHost, ite_self]

theorem execUhlManifestCommit_frame (lane packet s) : Outside.recordsHostManifestScanShade (outS
    (execUhlManifestCommit lane packet s) s) = Outside.recordsHostManifestScanShade s := by
  unfold execUhlManifestCommit
  simp only [receiveUhl, outS, ↓Outside.recordsHostManifestScanShade_of_host (onLane_frame _ _ _),
      ↓Outside.recordsHostManifestScanShade_of_host (onHost_frame _ _),
      ↓Outside.recordsHostManifestScanShade_of_recordsHost (hostActive_frame _ _), ↓queueItem_frame, ↓apply_ite
      Outside.recordsHostManifestScanShade, ite_self]

theorem execHostLaneFail_frame (report s) : Outside.entry (outS (execHostLaneFail report s) s) = Outside.entry s := by
  unfold execHostLaneFail
  simp only [outS, ↓Outside.entry_of_host (moveControl_frame _), ↓Outside.entry_of_host (setIrq_frame _ _),
      ↓raiseKind_frame, ↓Outside.entry_of_host (onLane_frame _ _ _), ↓Outside.entry_of_host (onHost_frame _ _),
      ↓apply_ite Outside.entry, ite_self]

theorem execCanAbortFrame_frame (frame s) : Outside.recordsHost (outS (execCanAbortFrame frame s) s) =
    Outside.recordsHost s := by
  unfold execCanAbortFrame
  simp only [receiveCan, outS, ↓hostActive_frame, ↓Outside.recordsHost_of_host (onHost_frame _ _),
      ↓Outside.recordsHost_of_host (putTransfer_frame _ _ _), ↓apply_ite Outside.recordsHost, ite_self]
  repeat' split
  all_goals simp only [↓hostActive_frame]

theorem execSbpFetchDone_frame (s) : Outside.accessCaravanFreeHostJournal (outS (execSbpFetchDone s) s) =
    Outside.accessCaravanFreeHostJournal s := by
  unfold execSbpFetchDone
  repeat' split
  all_goals simp only [outS, ↓requestRead_frame]

theorem execCanTransferTimeout_frame (bus s) : Outside.host (outS (execCanTransferTimeout bus s) s) = Outside.host
    s := by
  unfold execCanTransferTimeout
  simp only [outS, ↓abortTransfer_frame]

theorem execSbpSetPointer_frame (index sub crc s) : Outside.recordsHost (outS (execSbpSetPointer index sub crc s)
    s) = Outside.recordsHost s := by
  unfold execSbpSetPointer
  simp only [outS, ↓Outside.recordsHost_of_host (sbpBad_frame _), ↓Outside.recordsHost_of_host (onSbp_frame _ _),
      ↓sbpActive_frame, ↓apply_ite Outside.recordsHost, ite_self]

theorem execCanBusOff_frame (bus s) : Outside.entry (outS (execCanBusOff bus s) s) = Outside.entry s := by
  unfold execCanBusOff
  simp only [outS, ↓raiseKind_frame, ↓Outside.entry_of_host (onHost_frame _ _), ↓apply_ite Outside.entry, ite_self]

theorem execShpBurstWrite_frame (frame s) : Outside.recordsCaravanHostJournal (outS (execShpBurstWrite frame s) s)
    = Outside.recordsCaravanHostJournal s := by
  unfold execShpBurstWrite
  simp only [outS, ↓receiveShp_frame]

theorem execSbpWrite_frame (index sub data crc s) : Outside.queue (outS (execSbpWrite index sub data crc s) s) =
    Outside.queue s := by
  unfold execSbpWrite
  simp only [outS, ↓Outside.queue_of_host (sbpBad_frame _), ↓requestWrite_frame, ↓Outside.queue_of_host
      (onSbp_frame _ _), ↓Outside.queue_of_recordsHost (sbpActive_frame _), ↓apply_ite Outside.queue, ite_self]

theorem execDictionaryRequestDone_frame (shp s) : Outside.queue (outS (execDictionaryRequestDone shp s) s) =
    Outside.queue s := by
  unfold execDictionaryRequestDone
  simp only [serveInside, outS, ↓apply_ite Outside.queue]
  repeat' split
  all_goals simp only [↓Outside.queue_of_access (onAccess_frame _ _), ↓serveShp_frame, ↓Outside.queue_of_host
      (onHost_frame _ _), ↓serveCan_frame]

theorem execCanFirstFrame_frame (frame s) : Outside.recordsHost (outS (execCanFirstFrame frame s) s) =
    Outside.recordsHost s := by
  unfold execCanFirstFrame
  simp only [receiveCan, outS, ↓hostActive_frame, ↓Outside.recordsHost_of_host (firstCan_frame _ _), ↓apply_ite
      Outside.recordsHost]
  repeat' split
  all_goals simp only [↓hostActive_frame, ↓Outside.recordsHost_of_host (answerRelay_frame _ _ _ _)]

theorem execCanConsecutiveFrame_frame (frame s) : Outside.recordsHost (outS (execCanConsecutiveFrame frame s) s) =
    Outside.recordsHost s := by
  unfold execCanConsecutiveFrame
  simp only [receiveCan, outS, ↓hostActive_frame, ↓Outside.recordsHost_of_host (consecutiveCan_frame _ _),
      ↓apply_ite Outside.recordsHost]
  repeat' split
  all_goals simp only [↓hostActive_frame]

theorem execSbpRead_frame (s) : Outside.recordsHost (outS (execSbpRead s) s) = Outside.recordsHost s := by
  unfold execSbpRead
  simp only [outS, ↓sbpActive_frame, ↓Outside.recordsHost_of_host (sbpReturn_frame _ _ _), ↓apply_ite
      Outside.recordsHost]
  repeat' split
  all_goals simp only [↓sbpActive_frame, ↓Outside.recordsHost_of_host (sbpReturn_frame _ _ _),
      ↓Outside.recordsHost_of_host (onSbp_frame _ _)]

theorem execShpBurstRead_frame (frame s) : Outside.recordsCaravanHostJournal (outS (execShpBurstRead frame s) s) =
    Outside.recordsCaravanHostJournal s := by
  unfold execShpBurstRead
  simp only [outS, ↓receiveShp_frame]

theorem execShpRead_frame (frame s) : Outside.recordsCaravanHostJournal (outS (execShpRead frame s) s) =
    Outside.recordsCaravanHostJournal s := by
  unfold execShpRead
  simp only [outS, ↓receiveShp_frame]

theorem execCanSingleFrame_frame (frame s) : Outside.queue (outS (execCanSingleFrame frame s) s) = Outside.queue s
    := by
  unfold execCanSingleFrame
  simp only [receiveCan, completeCan, outS, ↓Outside.queue_of_recordsHost (hostActive_frame _ _),
      ↓Outside.queue_of_host (singleCan_frame _ _), ↓apply_ite Outside.queue]
  repeat' split
  all_goals simp only [↓Outside.queue_of_recordsHost (hostActive_frame _ _), ↓Outside.queue_of_host (onHost_frame
      _ _), ↓Outside.queue_of_host (canSend_frame _ _ _ _), ↓relayCan_frame]

theorem execShpWrite_frame (frame s) : Outside.recordsCaravanHostJournal (outS (execShpWrite frame s) s) =
    Outside.recordsCaravanHostJournal s := by
  unfold execShpWrite
  simp only [outS, ↓receiveShp_frame]

theorem execShpPoll_frame (frame s) : Outside.recordsCaravanHostJournal (outS (execShpPoll frame s) s) =
    Outside.recordsCaravanHostJournal s := by
  unfold execShpPoll
  simp only [outS, ↓receiveShp_frame]

theorem execSyncOutPulseEnd_frame (s) : Outside.almanac (outS (execSyncOutPulseEnd s) s) = Outside.almanac s := by
  unfold execSyncOutPulseEnd
  simp only [outS, ↓onAlmanac_frame, ↓apply_ite Outside.almanac, ite_self]

theorem execAlmanacOneshotJournalRetry_frame (s) : Outside.entry (outS (execAlmanacOneshotJournalRetry s) s) =
    Outside.entry s := by
  unfold execAlmanacOneshotJournalRetry
  simp only [outS, ↓offerEntry_frame, ↓apply_ite Outside.entry, ite_self, ↓foldl_keeps Outside.entry, implies_true]

theorem execAlmanacReloadDone_frame (firmware s) : Outside.almanac (outS (execAlmanacReloadDone firmware s) s) =
    Outside.almanac s := by
  unfold execAlmanacReloadDone
  simp only [outS, ↓onAlmanac_frame, ↓apply_ite Outside.almanac, ite_self]

theorem execSampleHkConversionDone_frame (raw s) : Outside.hk (outS (execSampleHkConversionDone raw s) s) =
    Outside.hk s := by
  unfold execSampleHkConversionDone
  repeat' split
  all_goals simp only [outS, ↓onHk_frame]

theorem execCaravanFrameSend_frame (fraction s) : Outside.caravan (outS (execCaravanFrameSend fraction s) s) =
    Outside.caravan s := by
  unfold execCaravanFrameSend
  simp only [outS, ↓onRing_frame, ↓emitFrame_frame, ↓emitOwn_frame, ↓apply_ite Outside.caravan, ite_self]

theorem execCaravanMessageTimeout_frame (source s) : Outside.caravan (outS (execCaravanMessageTimeout source s) s)
    = Outside.caravan s := by
  unfold execCaravanMessageTimeout
  simp only [outS, ↓onRing_frame, ↓apply_ite Outside.caravan, ite_self]

theorem execCaravanFrameReceived_frame (frame s) : Outside.entryScan (outS (execCaravanFrameReceived frame s) s) =
    Outside.entryScan s := by
  unfold execCaravanFrameReceived
  simp only [outS, ↓Outside.entryScan_of_caravanFaults (headFrame_frame _ _), ↓stationFrame_frame, ↓apply_ite
      Outside.entryScan, ite_self]

theorem execCaravanVoteRelease_frame (s) : Outside.queue (outS (execCaravanVoteRelease s) s) = Outside.queue s := by
  unfold execCaravanVoteRelease
  simp only [outS, ↓dropRingVote_frame, ↓apply_ite Outside.queue, ite_self]

theorem execCaravanTokenLost_frame (s) : Outside.queue (outS (execCaravanTokenLost s) s) = Outside.queue s := by
  unfold execCaravanTokenLost
  simp only [outS, ↓Outside.queue_of_entry (raiseKind_frame _ _ _), ↓interruptRing_frame, ↓apply_ite
      Outside.queue, ite_self]

theorem execCaravanClosing_frame (s) : Outside.queue (outS (execCaravanClosing s) s) = Outside.queue s := by
  unfold execCaravanClosing
  simp only [outS, ↓interruptRing_frame, ↓apply_ite Outside.queue, ite_self]

theorem execCaravanRingBreak_frame (s) : Outside.queue (outS (execCaravanRingBreak s) s) = Outside.queue s := by
  unfold execCaravanRingBreak
  simp only [outS, ↓Outside.queue_of_entry (raiseKind_frame _ _ _), ↓interruptRing_frame, ↓apply_ite
      Outside.queue, ite_self]

theorem execCaravanDictionaryResponse_frame (m s) : Outside.queue (outS (execCaravanDictionaryResponse m s) s) =
    Outside.queue s := by
  unfold execCaravanDictionaryResponse
  simp only [outS, ↓apply_ite Outside.queue]
  repeat' split
  all_goals simp only [↓settleRelayVote_frame, ↓Outside.queue_of_host (answerRelay_frame _ _ _ _),
      ↓Outside.queue_of_caravan (onRing_frame _ _)]

theorem execCaravanStreamCredit_frame (m s) : Outside.caravanUpdate (outS (execCaravanStreamCredit m s) s) =
    Outside.caravanUpdate s := by
  unfold execCaravanStreamCredit
  simp only [outS, ↓Outside.caravanUpdate_of_caravan (queueCredit_frame _ _ _), ↓Outside.caravanUpdate_of_caravan
      (onRing_frame _ _), ↓respondSvc_frame, ↓Outside.caravanUpdate_of_update (onUpdate_frame _ _), ↓apply_ite
      Outside.caravanUpdate, ite_self]

theorem execCaravanImageStream_frame (m s) : Outside.queue (outS (execCaravanImageStream m s) s) = Outside.queue s
    := by
  unfold execCaravanImageStream
  simp only [outS, ↓Outside.queue_of_caravan (onRing_frame _ _), ↓Outside.queue_of_power (relayArrived_frame _),
      ↓takeSessions_frame, ↓Outside.queue_of_caravan (queueCredit_frame _ _ _), ↓apply_ite Outside.queue, ite_self]

theorem execCaravanRelayTimeout_frame (s) : Outside.queue (outS (execCaravanRelayTimeout s) s) = Outside.queue s := by
  unfold execCaravanRelayTimeout
  repeat' split
  all_goals simp only [outS, ↓settleRelayVote_frame, ↓Outside.queue_of_host (answerRelay_frame _ _ _ _),
      ↓Outside.queue_of_caravan (onRing_frame _ _)]

theorem execCaravanDictionaryRequest_frame (m s) : Outside.queue (outS (execCaravanDictionaryRequest m s) s) =
    Outside.queue s := by
  unfold execCaravanDictionaryRequest
  simp only [outS, ↓Outside.queue_of_power (relayArrived_frame _), ↓requestWrite_frame,
      ↓Outside.queue_of_accessCaravanFreeHostJournal (requestRead_frame _ _ _ _), ↓apply_ite Outside.queue, ite_self]

theorem execCaravanAnnounce_frame (m s) : Outside.caravan (outS (execCaravanAnnounce m s) s) = Outside.caravan s := by
  unfold execCaravanAnnounce
  simp only [outS, ↓onRing_frame, ↓apply_ite Outside.caravan, ite_self]

theorem execCaravanWaybill_frame (m s) : Outside.faultsFreeHost (outS (execCaravanWaybill m s) s) =
    Outside.faultsFreeHost s := by
  unfold execCaravanWaybill
  simp only [outS, ↓Outside.faultsFreeHost_of_free (drawFree_frame _), ↓Outside.faultsFreeHost_of_faultsHost
      (canWaybill_frame _ _ _), ↓apply_ite Outside.faultsFreeHost, ite_self]

theorem execSmTileJudged_frame (tile flaws s) : Outside.entryChecker (outS (execSmTileJudged tile flaws s) s) =
    Outside.entryChecker s := by
  unfold execSmTileJudged
  simp only [outS, ↓judgeForwarded_frame, ↓apply_ite Outside.entryChecker, ite_self]

theorem execEighthBoundary_frame (leap badLut s) : Outside.queue (outS (execEighthBoundary leap badLut s) s) =
    Outside.queue s := by
  unfold execEighthBoundary
  simp only [outS, ↓Outside.queue_of_aon (countLeap_frame _ _), ↓Outside.queue_of_slot (endEighth_frame _),
      ↓Outside.queue_of_link (openLine_frame _), ↓Outside.queue_of_line2 (lineAndSeed_frame _ _), ↓boundaries_frame,
      ↓apply_ite Outside.queue, ite_self]

end Sys2Proof.Laws
end

