-- ==== Sys2Proof/Laws/Crc.lean ====
section
/-!
SUPPORT. Crc.lean: the checks fit their widths.
-/

namespace Sys2Proof.Laws

open Sys2Proof Sys2Proof.Machine

theorem crcBitLeft_lt (w poly r : Nat) (b : Bool) (h : poly < 2 ^ w) : crcBitLeft w poly r b < 2 ^ w := by
  have m : r * 2 % 2 ^ w < 2 ^ w := Nat.mod_lt _ (Nat.two_pow_pos w)
  show (if (bitOf r (w - 1) != b) = true then r * 2 % 2 ^ w ^^^ poly else r * 2 % 2 ^ w) < 2 ^ w
  split
  · exact Nat.xor_lt_two_pow m h
  · exact m

theorem crcBitLeft_foldl_lt (w poly : Nat) (h : poly < 2 ^ w) :
    ∀ (bits : List Bool) (r : Nat), r < 2 ^ w → bits.foldl (crcBitLeft w poly) r < 2 ^ w
  | [], _, hr => hr
  | b :: bits, r, _ => crcBitLeft_foldl_lt w poly h bits _ (crcBitLeft_lt w poly r b h)

/-- CRC-8 fits a byte (R82). -/
theorem crc8_lt (bs : List Byte) : crc8 bs < 2 ^ 8 := crcBitLeft_foldl_lt 8 0x07 (by decide) _ _ (by decide)

/-- CRC-16 fits 16 bits (R16). -/
theorem crc16Bits_lt (bits : List Bool) : crc16Bits bits < 2 ^ 16 :=
  crcBitLeft_foldl_lt 16 0x1021 (by decide) _ _ (by decide)

theorem crc32Step_lt : ∀ (n r : Nat), r < 2 ^ 32 → crc32Step n r < 2 ^ 32
  | 0, _, h => h
  | n + 1, r, h => by
    refine crc32Step_lt n _ ?_
    have d : r / 2 < 2 ^ 32 := by omega
    split
    · exact Nat.xor_lt_two_pow d (by decide)
    · exact d

theorem crc32Byte_lt (r : Nat) (b : Byte) (h : r < 2 ^ 32) : crc32Byte r b < 2 ^ 32 :=
  crc32Step_lt 8 _ (Nat.xor_lt_two_pow h (Nat.lt_trans b.isLt (by decide)))

theorem crc32Byte_foldl_lt : ∀ (bs : List Byte) (r : Nat), r < 2 ^ 32 → bs.foldl crc32Byte r < 2 ^ 32
  | [], _, h => h
  | b :: bs, r, h => crc32Byte_foldl_lt bs _ (crc32Byte_lt r b h)

/-- CRC-32C fits 32 bits (R83). -/
theorem crc32c_lt (bs : List Byte) : crc32c bs < 2 ^ 32 :=
  Nat.xor_lt_two_pow (crc32Byte_foldl_lt bs _ (by decide)) (by decide)

end Sys2Proof.Laws
end

