-- ==== Sys2Proof/Laws/Layers.lean ====
section
/-!
SUPPORT. Layers.lean: when a source tile is used (R96).
-/

namespace Sys2Proof.Laws

open Sys2Proof Sys2Proof.Machine

/-- Adding keeps what was there, and adds what is added. -/
theorem mem_addNew {x y : Nat} {xs : List Nat} : y ∈ addNew xs x ↔ y ∈ xs ∨ y = x := by
  unfold addNew
  split
  · rename_i hx
    rw [List.contains_iff_mem] at hx
    exact ⟨.inl, fun h => h.elim id fun e => e ▸ hx⟩
  · simp [or_comm]

/-- What a fold of additions holds. -/
theorem mem_foldl_addNew {α : Type} {f : α → Nat} {y : Nat} (es : List α) (acc : List Nat) :
    y ∈ es.foldl (fun acc e => addNew acc (f e)) acc ↔ y ∈ acc ∨ ∃ e ∈ es, f e = y := by
  induction es generalizing acc with
  | nil => simp
  | cons e es ih =>
    simp only [List.foldl_cons, ih, mem_addNew, List.exists_mem_cons_iff, or_assoc, eq_comm (a := y)]

/-- A source tile is used for an output tile when some pixel of it draws a sample in the tile (R96). -/
theorem mem_tilesUsed {s : State} {t : Table} {n row col r0 h y : Nat} {p : Port} :
    y ∈ tilesUsed s t n p row col r0 h ↔ layerDraws s t n = true ∧ ∃ q ∈ tilePixels row col r0 h,
      ∃ e ∈ drawnSamples s t n p (tileKernel s t n p row col) q.1 q.2, tileOfSample (sourceCols s t n) e = y := by
  have fold : ∀ (qs : List (Nat × Nat)) (acc : List Nat),
      y ∈ qs.foldl (fun acc q => (drawnSamples s t n p (tileKernel s t n p row col) q.1 q.2).foldl
        (fun acc e => addNew acc (tileOfSample (sourceCols s t n) e)) acc) acc
      ↔ y ∈ acc ∨ ∃ q ∈ qs, ∃ e ∈ drawnSamples s t n p (tileKernel s t n p row col) q.1 q.2,
        tileOfSample (sourceCols s t n) e = y := by
    intro qs
    induction qs with
    | nil => simp
    | cons q qs ih =>
      intro acc
      simp only [List.foldl_cons, ih, mem_foldl_addNew, List.exists_mem_cons_iff, or_assoc]
  unfold tilesUsed
  split
  · rename_i hd
    simp only [fold, hd, List.not_mem_nil, false_or, true_and]
  · rename_i hd
    simp [hd]

/-- A source tile is used by a port when a pixel of one of its output tiles draws a sample in it (R96). -/
theorem tileUsed_of_sample {s : State} {t : Table} {n tile row col : Nat} {p : Port} (q : Nat × Nat) (e : Int × Int)
    (hr : row < 16) (hc : col < 32) (hd : layerDraws s t n = true) (hq : q ∈ tilePixels row col 0 32)
    (he : e ∈ drawnSamples s t n p (tileKernel s t n p row col) q.1 q.2)
    (ht : tileOfSample (sourceCols s t n) e = tile) : tileUsed s t n p tile = true := by
  simp only [tileUsed, List.any_eq_true, List.mem_range, List.contains_iff_mem]
  exact ⟨row, hr, col, hc, mem_tilesUsed.2 ⟨hd, q, hq, e, he, ht⟩⟩

end Sys2Proof.Laws
end

