-- ==== Sys2Proof/Laws/Memory.lean ====
section
/-!
SUPPORT. Laws/Memory.lean: every operation over DRAM keeps its canonical form.
-/

namespace Sys2Proof.Laws

open Sys2Proof Sys2Proof.Machine

/-- A lower bound may be weakened. -/
theorem memSorted_mono (m : List Host.Cell) {lo lo' : Nat} (h : lo' ≤ lo) (hm : memSorted lo m = true) :
    memSorted lo' m = true := by
  cases m with
  | nil => rfl
  | cons c m =>
    simp only [memSorted, Bool.and_eq_true, decide_eq_true_eq] at hm ⊢
    exact ⟨⟨⟨Nat.le_trans h hm.1.1.1, hm.1.1.2⟩, hm.1.2⟩, hm.2⟩

/-- An insertion keeps the form above every bound that its address respects. -/
theorem memInsert_sorted (a : Nat) (b : Byte) (ha : a < dramSize) :
    ∀ (m : List Host.Cell) (lo : Nat), lo ≤ a → memSorted lo m = true → memSorted lo (memInsert a b m) = true
  | [], lo, h, _ => by
    unfold memInsert
    split
    · rfl
    · next hb => simp [memSorted, h, ha, hb]
  | (a', b') :: m, lo, h, hm => by
    have hm' := hm
    simp only [memSorted, Bool.and_eq_true, decide_eq_true_eq] at hm
    obtain ⟨⟨⟨h1, h2⟩, h3⟩, h4⟩ := hm
    unfold memInsert
    split
    · next hlt =>
      split
      · exact hm'
      · next hb =>
        simp only [memSorted, Bool.and_eq_true, decide_eq_true_eq]
        exact ⟨⟨⟨h, ha⟩, by simpa using hb⟩, ⟨⟨hlt, h2⟩, h3⟩, h4⟩
    · next hlt =>
      split
      · next he =>
        subst he
        split
        · exact memSorted_mono m (by omega) h4
        · next hb =>
          simp only [memSorted, Bool.and_eq_true, decide_eq_true_eq]
          exact ⟨⟨⟨h1, h2⟩, by simpa using hb⟩, h4⟩
      · next he =>
        simp only [memSorted, Bool.and_eq_true, decide_eq_true_eq]
        exact ⟨⟨⟨h1, h2⟩, h3⟩, memInsert_sorted a b ha m _ (by omega) h4⟩

/-- A store of one byte keeps the form. -/
theorem memWrite_wf (a : Nat) (b : Byte) (m : List Host.Cell) (h : Memory.wf m = true) :
    Memory.wf (memWrite a b m) = true := by
  unfold memWrite
  split
  · next ha => exact memInsert_sorted a b ha m 0 (Nat.zero_le a) h
  · exact h

/-- A store of bytes keeps the form. -/
theorem memWriteAll_wf (bs : List Byte) (a : Nat) (m : List Host.Cell) (h : Memory.wf m = true) :
    Memory.wf (memWriteAll a bs m) = true := by
  induction bs generalizing a m with
  | nil => exact h
  | cons b bs ih => exact ih _ _ (memWrite_wf a b m h)

/-- A tile stored by the encoder keeps the form. -/
theorem storeTile_wf (s : State) (f buffer tx t lines m) (h : Memory.wf m = true) :
    Memory.wf (storeTile s f buffer tx t lines m) = true :=
  memWriteAll_wf _ _ _ (memWriteAll_wf _ _ _ h)

/-- A fold of operations that keep the form keeps it. -/
theorem foldl_wf {α : Type} (g : List Host.Cell → α → List Host.Cell)
    (hg : ∀ m x, Memory.wf m = true → Memory.wf (g m x) = true) (l : List α) (m : List Host.Cell)
    (h : Memory.wf m = true) : Memory.wf (l.foldl g m) = true := by
  induction l generalizing m with
  | nil => exact h
  | cons x l ih => exact ih _ (hg m x h)

/-- The encoding of a tile row keeps the form. -/
theorem encodeTileRow_wf (k f t : Nat) (s : State) (h : Memory.wf s.dram = true) :
    Memory.wf (encodeTileRow k f t s).dram = true := by
  have e : (encodeTileRow k f t s).dram = if dramReadable s = true then
      (List.range (tileCols s f)).foldl (fun m tx => storeTile s f (streamOf s k).buffer tx t (streamOf s k).lines m)
        s.dram else s.dram := by
    unfold encodeTileRow onStream onHost
    split <;> rfl
  rw [e]
  split
  · exact foldl_wf _ (fun m x hm => storeTile_wf s f _ x t _ m hm) _ _ h
  · exact h

/-- After reset DRAM has the form. -/
theorem reset_wf : Memory.wf State.reset.dram = true := rfl

end Sys2Proof.Laws
end

