-- ==== Sys2Proof/Laws/Raise.lean ====
section
/-!
SUPPORT. Laws/Raise.lean: what raising and ending a fault kind does, and that it changes nothing but the fault parts.
-/

namespace Sys2Proof.Laws

open Sys2Proof Sys2Proof.Machine

/-- The state outside the parts of `OnlyFaultParts`. -/
def Outside.faultParts (s : State) : State :=
  { s with
    aon := { s.aon with
      ring := [], newest := 0, waybillSequence := 0, recoveries := [], commitAllowance := 0, commitSkipped := 0 }
    caravan := { s.caravan with waybills := [], dropped := 0 }
    faults := blank.faults
    free := 0
    host := { s.host with canOut := [] }
    journal := { s.journal with commit := none, commitNewest := 0, commitNext := none }
    link := s.link.map fun _ l => signalled {} l
    nvm := { s.nvm with boxArea := [], boxGood := false } }

theorem onlyFaultParts_of {s t : State} (h : Outside.faultParts t = Outside.faultParts s) : OnlyFaultParts s t := by
  obtain ⟨_, ⟨⟩, _, _, _, _, _, _, _, _, _, _, _, _, _, _, _, _, ⟨⟨⟩, ⟨⟩, ⟨⟩, ⟨⟩⟩, _, _, _, _, _, _, ⟨⟩, _, ⟨⟩, _, ⟨⟩, ⟨⟩, _, _, _, _, _, _⟩ := s
  obtain ⟨_, ⟨⟩, _, _, _, _, _, _, _, _, _, _, _, _, _, _, _, _, ⟨⟨⟩, ⟨⟩, ⟨⟩, ⟨⟩⟩, _, _, _, _, _, _, ⟨⟩, _, ⟨⟩, _, ⟨⟩, ⟨⟩, _, _, _, _, _, _⟩ := t
  simp only [Outside.faultParts, signalled, PerPort.map, State.mk.injEq, Aon.mk.injEq, Caravan.mk.injEq,
    HostPorts.mk.injEq, Journal.mk.injEq, Nvm.mk.injEq, PerPort.mk.injEq, LinkPort.mk.injEq] at h
  simp only [OnlyFaultParts, signalled, PerPort.map, PerPort.get, h]

/-! ### Updates inside the fault parts -/

theorem only_ring (s : State) a b n : Outside.faultParts { s with
    aon := { s.aon with ring := a, newest := b }, free := n } = Outside.faultParts s := rfl

theorem only_sequence (s : State) a : Outside.faultParts { s with
    aon := { s.aon with waybillSequence := a } } = Outside.faultParts s := rfl

theorem only_recoveries (s : State) a : Outside.faultParts { s with
    aon := { s.aon with recoveries := a } } = Outside.faultParts s := rfl

theorem only_allowance (s : State) a : Outside.faultParts { s with
    aon := { s.aon with commitAllowance := a } } = Outside.faultParts s := rfl

theorem only_skipped (s : State) a : Outside.faultParts { s with
    aon := { s.aon with commitSkipped := a } } = Outside.faultParts s := rfl

theorem only_faults (s : State) f : Outside.faultParts { s with faults := f } = Outside.faultParts s := rfl

theorem only_waybills (s : State) a b : Outside.faultParts { s with
    caravan := { s.caravan with waybills := a, dropped := b } } = Outside.faultParts s := rfl

theorem only_canOut (s : State) f a : Outside.faultParts { s with
    faults := f, host := { s.host with canOut := a } } = Outside.faultParts s := rfl

theorem only_commit (s : State) a b c d : Outside.faultParts { s with
    journal := { s.journal with commit := a, commitNewest := b }
    nvm := { s.nvm with boxArea := c, boxGood := d } } = Outside.faultParts s := rfl

theorem only_commitNext (s : State) a : Outside.faultParts { s with
    journal := { s.journal with commitNext := a } } = Outside.faultParts s := rfl

theorem only_link (s : State) (f : Port → LinkPort → LinkPort) (h : ∀ p l, signalled {} (f p l) = signalled {} l) :
    Outside.faultParts { s with link := s.link.map f } = Outside.faultParts s := by
  simp only [Outside.faultParts, PerPort.map, h]

theorem only_onLink (p : Port) (f : LinkPort → LinkPort) (s : State) (h : ∀ l, signalled {} (f l) = signalled {} l) :
    Outside.faultParts (onLink p f s) = Outside.faultParts s := by
  cases p <;> simp only [onLink, PerPort.modify, PerPort.set, PerPort.get, Outside.faultParts, PerPort.map, h]

/-! ### Operations -/

theorem writeEntry_only (ad ty waybill context s) : Outside.faultParts (writeEntry ad ty waybill context s) = Outside.faultParts s := by
  unfold writeEntry
  simp only [only_ring]

theorem commitEntry_only (w code s) : Outside.faultParts (commitEntry w code s) = Outside.faultParts s := by
  unfold commitEntry
  simp only [writeEntry_only]

theorem runCommit_only (cause s) : Outside.faultParts (runCommit cause s) = Outside.faultParts s := by
  unfold runCommit
  simp only [only_commit]

theorem startCommit_only (waybill s) : Outside.faultParts (startCommit waybill s) = Outside.faultParts s := by
  unfold startCommit
  simp only [runCommit_only, only_allowance]

theorem skipCommit_only (waybill s) : Outside.faultParts (skipCommit waybill s) = Outside.faultParts s := by
  unfold skipCommit
  simp only [commitEntry_only, only_skipped]

theorem putBlock_only (b s) : Outside.faultParts (putBlock b s) = Outside.faultParts s := by
  unfold putBlock
  simp only [only_faults]

theorem noteBlock_only (u k s) : Outside.faultParts (noteBlock u k s) = Outside.faultParts s := by
  unfold noteBlock
  simp only [putBlock_only]

theorem raiseEntry_only (k u i w s) : Outside.faultParts (raiseEntry k u i w s) = Outside.faultParts s := by
  unfold raiseEntry
  simp only [only_faults, writeEntry_only, apply_ite Outside.faultParts, ite_self]

theorem noteActive_only (k u i w s) : Outside.faultParts (noteActive k u i w s) = Outside.faultParts s := by
  unfold noteActive
  simp only [only_faults, apply_ite Outside.faultParts, ite_self]

theorem canWaybill_only (node w s) : Outside.faultParts (canWaybill node w s) = Outside.faultParts s := by
  unfold canWaybill
  simp only [only_faults, only_canOut, apply_ite Outside.faultParts, ite_self]

theorem caravanWaybill_only (w s) : Outside.faultParts (caravanWaybill w s) = Outside.faultParts s := by
  unfold caravanWaybill
  simp only [only_waybills, apply_ite Outside.faultParts, ite_self]

theorem ddbSend_only (die ty payload s) : Outside.faultParts (ddbSend die ty payload s) = Outside.faultParts s := by
  unfold ddbSend onDdb
  repeat' split
  all_goals simp only [only_faults]

theorem ddbWaybillOut_only (ad w s) : Outside.faultParts (ddbWaybillOut ad w s) = Outside.faultParts s :=
  foldl_keeps _ (fun s _ => ddbSend_only _ _ _ s) _ _

theorem sendWaybill_only (ad reason w s) : Outside.faultParts (sendWaybill ad reason w s) = Outside.faultParts s := by
  unfold sendWaybill
  simp only [ddbWaybillOut_only, canWaybill_only, caravanWaybill_only, writeEntry_only, apply_ite Outside.faultParts, ite_self]

theorem interruptCp_only (k u w s) : Outside.faultParts (interruptCp k u w s) = Outside.faultParts s := by
  unfold interruptCp
  simp only [sendWaybill_only, only_faults, apply_ite Outside.faultParts, ite_self]

theorem markPresent_only (k u s) : Outside.faultParts (markPresent k u s) = Outside.faultParts s := by
  unfold markPresent
  simp only [only_faults]

theorem markAbsent_only (k u s) : Outside.faultParts (markAbsent k u s) = Outside.faultParts s := by
  unfold markAbsent
  simp only [only_faults]

theorem raiseFresh_only (k u i s) : Outside.faultParts (raiseFresh k u i s) = Outside.faultParts s := by
  unfold raiseFresh
  simp only [interruptCp_only, noteActive_only, raiseEntry_only, noteBlock_only, only_sequence, apply_ite Outside.faultParts, ite_self]

theorem tryCommit_only (w s) : Outside.faultParts (tryCommit w s) = Outside.faultParts s := by
  unfold tryCommit
  simp only [raiseFresh_only, commitEntry_only, skipCommit_only, startCommit_only, apply_ite Outside.faultParts, ite_self]

theorem triggerCommit_only (w s) : Outside.faultParts (triggerCommit w s) = Outside.faultParts s := by
  unfold triggerCommit
  simp only [only_commitNext, tryCommit_only, apply_ite Outside.faultParts, ite_self]

theorem blankAgain_only (k s) : Outside.faultParts (blankAgain k s) = Outside.faultParts s := by
  unfold blankAgain
  simp only [only_faults, apply_ite Outside.faultParts, ite_self]

theorem sendCtrl_signalled (row epoch op payload l) :
    signalled {} (sendCtrl row epoch op payload l) = signalled {} l := by
  unfold sendCtrl
  split <;> rfl

theorem ctrl_only (p op payload s) : Outside.faultParts (ctrl p op payload s) = Outside.faultParts s := by
  unfold ctrl
  simp only [only_onLink _ _ _ (sendCtrl_signalled _ _ _ _)]

theorem sendStart_only (p epoch s) : Outside.faultParts (sendStart p epoch s) = Outside.faultParts s := by
  unfold sendStart
  exact (only_onLink p (fun l => { l with startAt := some epoch }) _ fun _ => rfl).trans (ctrl_only _ _ _ _)

theorem sendHold_only (p s) : Outside.faultParts (sendHold p s) = Outside.faultParts s :=
  only_onLink _ _ _ (fun _ => by repeat' split
                                 all_goals rfl)

theorem holdAll_only (s) : Outside.faultParts (holdAll s) = Outside.faultParts s :=
  foldl_keeps _ (fun s p => by split <;> simp only [sendHold_only]) _ _

theorem releaseHold_only (s) : Outside.faultParts (releaseHold s) = Outside.faultParts s :=
  foldl_keeps _ (fun s p => by
    repeat' split
    · exact only_onLink p (fun l => { l with holdDue := false }) s fun _ => rfl
    · exact sendStart_only _ _ _
    · rfl) _ _

theorem enterSafeState_only (new s) : Outside.faultParts (enterSafeState new s) = Outside.faultParts s := by
  unfold enterSafeState
  simp only [holdAll_only, releaseHold_only, only_faults, apply_ite Outside.faultParts, ite_self]

theorem dropEnables_only (s) : Outside.faultParts (dropEnables s) = Outside.faultParts s :=
  only_link _ _ (fun p l => by split <;> rfl)

theorem raiseEnables_only (s) : Outside.faultParts (raiseEnables s) = Outside.faultParts s :=
  only_link _ _ (fun p l => by split <;> rfl)

theorem settle_only (s) : Outside.faultParts (settle s) = Outside.faultParts s := by
  unfold settle
  simp only [dropEnables_only, enterSafeState_only]

theorem raiseKind_only (k i s) : Outside.faultParts (raiseKind k i s) = Outside.faultParts s := by
  unfold raiseKind
  simp only [markPresent_only, settle_only, triggerCommit_only, blankAgain_only, raiseFresh_only, apply_ite Outside.faultParts,
    ite_self]

theorem removeActive_only (k u s) : Outside.faultParts (removeActive k u s) = Outside.faultParts s := by
  unfold removeActive
  simp only [only_faults]

theorem putRecovery_only (r s) : Outside.faultParts (putRecovery r s) = Outside.faultParts s := by
  unfold putRecovery
  simp only [only_recoveries]

theorem exitKind_only (k u s) : Outside.faultParts (exitKind k u s) = Outside.faultParts s := by
  unfold exitKind
  split <;> simp only [settle_only, removeActive_only, writeEntry_only]

theorem recoverKind_only (k u s) : Outside.faultParts (recoverKind k u s) = Outside.faultParts s := by
  unfold recoverKind
  split
  · rfl
  · simp only [settle_only, writeEntry_only, putRecovery_only, exitKind_only, apply_ite Outside.faultParts, ite_self]

theorem clearCondition_only (k u s) : Outside.faultParts (clearCondition k u s) = Outside.faultParts s := by
  unfold clearCondition
  repeat' split
  all_goals simp only [markAbsent_only, exitKind_only]

theorem handleKind_only (k s) : Outside.faultParts (handleKind k s) = Outside.faultParts s := by
  unfold handleKind
  simp only [only_faults]

theorem clearLatch_only (k s) : Outside.faultParts (clearLatch k s) = Outside.faultParts s := by
  unfold clearLatch
  split
  · simp only [putRecovery_only]
  · simp only [exitKind_only, writeEntry_only, putRecovery_only, apply_ite Outside.faultParts, ite_self]

/-! ### Which kinds are active, and the units' status records -/

/-- The active kinds and the units' status records. -/
def activity (s : State) : List ActiveKind × List Block := (s.faults.active, s.faults.blocks)

theorem activity_eq {s t : State} (a : t.faults.active = s.faults.active) (b : t.faults.blocks = s.faults.blocks) :
    activity t = activity s := by simp only [activity, a, b]

theorem writeEntry_activity (ad ty waybill context s) :
    activity (writeEntry ad ty waybill context s) = activity s := rfl

theorem runCommit_activity (cause s) : activity (runCommit cause s) = activity s := rfl

theorem startCommit_activity (waybill s) : activity (startCommit waybill s) = activity s := rfl

theorem skipCommit_activity (waybill s) : activity (skipCommit waybill s) = activity s := rfl

theorem canWaybill_activity (node w s) : activity (canWaybill node w s) = activity s := by
  unfold canWaybill
  repeat' split
  all_goals rfl

theorem caravanWaybill_activity (w s) : activity (caravanWaybill w s) = activity s := by
  unfold caravanWaybill
  repeat' split
  all_goals rfl

theorem ddbSend_activity (die ty payload s) : activity (ddbSend die ty payload s) = activity s := by
  unfold ddbSend onDdb
  repeat' split
  all_goals rfl

theorem ddbWaybillOut_activity (ad w s) : activity (ddbWaybillOut ad w s) = activity s :=
  foldl_keeps _ (fun s _ => ddbSend_activity _ _ _ s) _ _

theorem sendWaybill_activity (ad reason w s) : activity (sendWaybill ad reason w s) = activity s := by
  unfold sendWaybill
  simp only [ddbWaybillOut_activity, canWaybill_activity, caravanWaybill_activity, writeEntry_activity, apply_ite activity, ite_self]

theorem interruptCp_activity (k u w s) : activity (interruptCp k u w s) = activity s := by
  unfold interruptCp
  repeat' split
  · exact sendWaybill_activity _ _ _ _
  · exact sendWaybill_activity _ _ _ _
  · rfl

theorem raiseEntry_activity (k u i w s) : activity (raiseEntry k u i w s) = activity s := by
  unfold raiseEntry
  split <;> rfl

theorem ctrl_activity (p op payload s) : activity (ctrl p op payload s) = activity s := rfl

theorem sendStart_activity (p epoch s) : activity (sendStart p epoch s) = activity s := rfl

theorem sendHold_activity (p s) : activity (sendHold p s) = activity s := rfl

theorem holdAll_activity (s) : activity (holdAll s) = activity s :=
  foldl_keeps _ (fun s p => by split <;> rfl) _ _

theorem releaseHold_activity (s) : activity (releaseHold s) = activity s :=
  foldl_keeps _ (fun s p => by
    repeat' split
    all_goals rfl) _ _

theorem enterSafeState_activity (new s) : activity (enterSafeState new s) = activity s := by
  unfold enterSafeState
  simp only [apply_ite activity, holdAll_activity, releaseHold_activity]
  simp only [activity, ite_self]

theorem settle_activity (s) : activity (settle s) = activity s := enterSafeState_activity _ _

/-- A fresh raise appends its kind when the kind has an exit. -/
theorem raiseFresh_active (k u i s) (h : isStateKind k = true) : isActive (raiseFresh k u i s) k u = true := by
  have e : ∀ t w, isActive (interruptCp k u w t) k u = isActive t k u := fun t w => by
    simp only [isActive, (Prod.mk.inj (interruptCp_activity k u w t)).1]
  unfold raiseFresh
  simp only [↓e]
  simp only [noteActive, h, if_true, isActive, List.any_append, List.any_cons, beq_self_eq_true, Bool.and_self,
    Bool.true_or, Bool.or_true]

theorem raiseFresh_keeps_active (k u i s k' u') (h : isActive s k' u' = true) :
    isActive (raiseFresh k u i s) k' u' = true := by
  have e : ∀ t w, (interruptCp k u w t).faults.active = t.faults.active :=
    fun t w => (Prod.mk.inj (interruptCp_activity k u w t)).1
  have r : ∀ t w, (raiseEntry k u i w t).faults.active = t.faults.active :=
    fun t w => (Prod.mk.inj (raiseEntry_activity k u i w t)).1
  simp only [isActive] at h ⊢
  simp only [raiseFresh, e, noteActive, noteBlock, putBlock]
  repeat' split
  all_goals simp only [r, h, List.any_append, Bool.true_or]

theorem tryCommit_keeps_active (w s k u) (h : isActive s k u = true) : isActive (tryCommit w s) k u = true := by
  unfold tryCommit
  repeat' split
  · exact raiseFresh_keeps_active _ _ _ _ _ _ h
  all_goals exact h

theorem triggerCommit_keeps_active (w s k u) (h : isActive s k u = true) : isActive (triggerCommit w s) k u = true := by
  unfold triggerCommit
  split
  · exact h
  · exact tryCommit_keeps_active _ _ _ _ h

theorem blankAgain_activity (k s) : activity (blankAgain k s) = activity s := by
  unfold blankAgain
  split <;> rfl

theorem settle_isActive (s k u) : isActive (settle s) k u = isActive s k u := by
  simp only [isActive, (Prod.mk.inj (settle_activity s)).1]

/-- Raising a kind that has an exit leaves it active (R348). -/
theorem raiseKind_active (k i s) (h : isStateKind k = true) :
    isActive (raiseKind k i s) k (unitOf k i.port) = true := by
  unfold raiseKind
  by_cases c : (isStateKind k && isActive s k (unitOf k i.port)) = true
  · simp only [c, if_true]
    rw [h, Bool.true_and] at c
    simp only [isActive, List.any_eq_true] at c
    obtain ⟨a, m, e⟩ := c
    simp only [isActive, markPresent, List.any_map, List.any_eq_true]
    refine ⟨a, m, ?_⟩
    simp only [Function.comp_apply, e, if_true]
  · rw [if_neg c, settle_isActive]
    have f : isActive (blankAgain k (raiseFresh k (unitOf k i.port) i s)) k (unitOf k i.port) = true := by
      have e := raiseFresh_active k (unitOf k i.port) i s h
      simp only [isActive] at e ⊢
      rw [(Prod.mk.inj (blankAgain_activity _ _)).1]
      exact e
    split
    · exact triggerCommit_keeps_active _ _ _ _ f
    · exact f

/-- The row of a code beyond the table is inert. -/
theorem kindRow_beyond (k) (h : 0x4A < k) : kindRow k = ⟨0, 0, 0, .event, none, true⟩ := by
  have n : kindTable.length = 0x4A := by decide
  unfold kindRow
  rw [if_neg (Nat.pos_iff_ne_zero.mp (Nat.lt_of_le_of_lt (Nat.zero_le _) h)), List.getD_eq_default]
  rw [n]
  exact Nat.le_sub_one_of_lt h

/-- No event kind is Fatal or triggers a commit (R358, R369). -/
theorem event_class (k) (h : isStateKind k = false) : ¬((kindRow k).cls = 2 ∨ k = 0x37) := by
  by_cases c : 0x4A < k
  · rw [kindRow_beyond k c]
    rintro (e | e)
    · exact absurd e (by decide)
    · omega
  · have all : ∀ n : Fin 0x4B, isStateKind n = false → ¬((kindRow n).cls = 2 ∨ (n : Nat) = 0x37) := by decide
    exact all ⟨k, by omega⟩ h

/-- A fresh raise sets the KindBit of its kind (R349). -/
theorem raiseFresh_bit (k u i s) (h : kindBit u k < 16) :
    (blockOf (raiseFresh k u i s) u).bits.getLsbD (kindBit u k) = true := by
  have e : ∀ t w, (interruptCp k u w t).faults.blocks = t.faults.blocks :=
    fun t w => (Prod.mk.inj (interruptCp_activity k u w t)).2
  have r : ∀ t w, (raiseEntry k u i w t).faults.blocks = t.faults.blocks :=
    fun t w => (Prod.mk.inj (raiseEntry_activity k u i w t)).2
  have n : ∀ t w, (noteActive k u i w t).faults.blocks = t.faults.blocks := fun t w => by
    unfold noteActive
    repeat' split
    all_goals rfl
  have b : (raiseFresh k u i s).faults.blocks
      = (noteBlock u k { s with aon := { s.aon with waybillSequence := s.aon.waybillSequence + 1 } }).faults.blocks := by
    unfold raiseFresh
    simp only [e, n]
    split
    · rw [r]
    · rfl
  have unit : (blockOf s u).unit = u := by
    unfold blockOf
    cases e : s.faults.blocks.find? fun b => b.unit == u with
    | none => rfl
    | some x => exact beq_iff_eq.mp (List.find?_some (p := fun b : Block => b.unit == u) e)
  have f : blockOf (raiseFresh k u i s) u
      = { blockOf s u with lastKind := k, bits := (blockOf s u).bits ||| BitVec.ofNat 16 (2 ^ kindBit u k) } := by
    simp only [blockOf] at unit ⊢
    simp only [b, noteBlock, putBlock, blockOf, List.find?_cons, unit, beq_self_eq_true, Option.getD_some]
  rw [f]
  simp only [BitVec.getLsbD_or, BitVec.getLsbD_ofNat, h, decide_true, Nat.testBit_two_pow_self, Bool.and_self,
    Bool.or_true]

/-- Raising a kind that has an exit raises it and does nothing else. -/
theorem raiseKind_raised (k i s) (h : isStateKind k = true) : Raised k (unitOf k i.port) s (raiseKind k i s) :=
  ⟨raiseKind_active k i s h, onlyFaultParts_of (raiseKind_only k i s)⟩

/-- Raising an event kind sets its KindBit and does nothing else (R348, R349). -/
theorem raiseKind_noted (k i s) (h : isStateKind k = false) (b : kindBit (unitOf k i.port) k < 16) :
    Noted k (unitOf k i.port) s (raiseKind k i s) := by
  refine ⟨?_, onlyFaultParts_of (raiseKind_only k i s)⟩
  unfold raiseKind
  simp only [h, Bool.false_and, Bool.false_eq_true, if_false, event_class k h]
  have e : ∀ t, (settle t).faults.blocks = t.faults.blocks := fun t => (Prod.mk.inj (settle_activity t)).2
  have a : ∀ t, (blankAgain k t).faults.blocks = t.faults.blocks := fun t => (Prod.mk.inj (blankAgain_activity k t)).2
  simp only [blockOf, e, a]
  exact raiseFresh_bit k _ i s b

/-! ### The enables of the ports -/

/-- Whether PORTx_EN of each port is high. -/
def enables (s : State) : PerPort Bool := s.link.map fun _ l => l.enable

theorem enables_get (s : State) (p : Port) : (enables s).get p = (s.link.get p).enable := by
  cases p <;> rfl

theorem enables_onLink (p : Port) (f : LinkPort → LinkPort) (s : State) (h : ∀ l, (f l).enable = l.enable) :
    enables (onLink p f s) = enables s := by
  cases p <;> simp only [enables, onLink, PerPort.modify, PerPort.set, PerPort.get, PerPort.map, h]

theorem sendCtrl_enable (row epoch op payload l) : (sendCtrl row epoch op payload l).enable = l.enable := by
  unfold sendCtrl
  split <;> rfl

theorem sendStart_enables (p epoch s) : enables (sendStart p epoch s) = enables s :=
  (enables_onLink p (fun l => { l with startAt := some epoch }) _ fun _ => rfl).trans
    (enables_onLink _ _ _ (sendCtrl_enable _ _ _ _))

theorem sendHold_enables (p s) : enables (sendHold p s) = enables s := enables_onLink _ _ _ fun _ => by
  repeat' split
  all_goals rfl

theorem releaseHold_enables (s) : enables (releaseHold s) = enables s :=
  foldl_keeps _ (fun s p => by
    repeat' split
    · exact enables_onLink p (fun l => { l with holdDue := false }) s fun _ => rfl
    · exact sendStart_enables _ _ _
    · rfl) _ _

theorem enterSafeState_enables (new s) : enables (enterSafeState new s) = enables s := by
  have hold : ∀ t, enables (holdAll t) = enables t := fun t =>
    foldl_keeps _ (fun s p => by split <;> simp only [sendHold_enables]) _ _
  unfold enterSafeState
  simp only [apply_ite enables, hold, releaseHold_enables]
  simp only [enables, ite_self]

/-- PORTx_EN after the safe state has been applied (R224, R360): high where it was high and the port may emit. -/
theorem settle_enable (s p) :
    ((settle s).link.get p).enable = ((s.link.get p).enable && mayEmit (enterSafeState (governing s) s) p) := by
  have e := enables_get (enterSafeState (governing s) s) p
  rw [enterSafeState_enables, enables_get] at e
  rw [e]
  unfold settle dropEnables
  cases p <;> simp only [PerPort.map, PerPort.get] <;> split <;> simp_all

end Sys2Proof.Laws
end

