-- ==== Sys2Proof/Laws/Runs.lean ====
section
/-!
SUPPORT. Runs.lean: the longest run of ticks grows with the number of ticks (R409).
-/

namespace Sys2Proof.Laws

open Sys2Proof Sys2Proof.Machine

/-- More ticks make no run shorter. -/
theorem longestTicks_mono (f : Nat → Bool) {m n : Nat} (h : m ≤ n) : (longestTicks f m).1 ≤ (longestTicks f n).1 := by
  induction h with
  | refl => exact Nat.le_refl _
  | step _ ih => exact Nat.le_trans ih (Nat.le_max_left _ _)

/-- A pair can be tested when a run in its first ticks is long enough (R409). -/
theorem pairPossible_of_run {s : State} {c m : Nat} (hm : m ≤ 4096)
    (h : (c % 12 != 11 && (sinkOf s c).status != 1 && (sinkOf s (c + 1)).status != 1
      && (isDriven s c || isDriven s (c + 1))) = true)
    (hl : lasts (longestTicks (fun t => isOnAt s c t != isOnAt s (c + 1) t) m).1 (sinkGroup s (groupOf c)).divider 10 = true) :
    pairPossible s c = true := by
  unfold pairPossible
  rw [h, Bool.true_and]
  unfold lasts at hl ⊢
  simp only [decide_eq_true_eq] at hl ⊢
  exact Nat.le_trans hl (Nat.mul_le_mul_right _ (Nat.mul_le_mul_right _ (longestTicks_mono _ hm)))

end Sys2Proof.Laws
end

