-- ==== Sys2Proof/Laws/State.lean ====
section
/-!
SUPPORT. Laws/State.lean: what each update of one part of the state does to every part.
-/

namespace Sys2Proof.Laws

open Sys2Proof Sys2Proof.Machine

@[simp] theorem withPending_variant (s : State) (q) : (s.withPending q).variant = s.variant := rfl
@[simp] theorem withPending_aon (s : State) (q) : (s.withPending q).aon = s.aon := rfl
@[simp] theorem withPending_power (s : State) (q) : (s.withPending q).power = s.power := rfl
@[simp] theorem withPending_units (s : State) (q) : (s.withPending q).units = s.units := rfl
@[simp] theorem withPending_scan (s : State) (q) : (s.withPending q).scan = s.scan := rfl
@[simp] theorem withPending_leap (s : State) (q) : (s.withPending q).leap = s.leap := rfl
@[simp] theorem withPending_almanac (s : State) (q) : (s.withPending q).almanac = s.almanac := rfl
@[simp] theorem withPending_dict (s : State) (q) : (s.withPending q).dict = s.dict := rfl
@[simp] theorem withPending_access (s : State) (q) : (s.withPending q).access = s.access := rfl
@[simp] theorem withPending_fetch (s : State) (q) : (s.withPending q).fetch = s.fetch := rfl
@[simp] theorem withPending_warp (s : State) (q) : (s.withPending q).warp = s.warp := rfl
@[simp] theorem withPending_manifest (s : State) (q) : (s.withPending q).manifest = s.manifest := rfl
@[simp] theorem withPending_shade (s : State) (q) : (s.withPending q).shade = s.shade := rfl
@[simp] theorem withPending_ceiling (s : State) (q) : (s.withPending q).ceiling = s.ceiling := rfl
@[simp] theorem withPending_safeBeam (s : State) (q) : (s.withPending q).safeBeam = s.safeBeam := rfl
@[simp] theorem withPending_compose (s : State) (q) : (s.withPending q).compose = s.compose := rfl
@[simp] theorem withPending_drive (s : State) (q) : (s.withPending q).drive = s.drive := rfl
@[simp] theorem withPending_headroom (s : State) (q) : (s.withPending q).headroom = s.headroom := rfl
@[simp] theorem withPending_link (s : State) (q) : (s.withPending q).link = s.link := rfl
@[simp] theorem withPending_pixels (s : State) (q) : (s.withPending q).pixels = s.pixels := rfl
@[simp] theorem withPending_checker (s : State) (q) : (s.withPending q).checker = s.checker := rfl
@[simp] theorem withPending_hk (s : State) (q) : (s.withPending q).hk = s.hk := rfl
@[simp] theorem withPending_toll (s : State) (q) : (s.withPending q).toll = s.toll := rfl
@[simp] theorem withPending_faults (s : State) (q) : (s.withPending q).faults = s.faults := rfl
@[simp] theorem withPending_safety (s : State) (q) : (s.withPending q).safety = s.safety := rfl
@[simp] theorem withPending_host (s : State) (q) : (s.withPending q).host = s.host := rfl
@[simp] theorem withPending_sinks (s : State) (q) : (s.withPending q).sinks = s.sinks := rfl
@[simp] theorem withPending_caravan (s : State) (q) : (s.withPending q).caravan = s.caravan := rfl
@[simp] theorem withPending_update (s : State) (q) : (s.withPending q).update = s.update := rfl
@[simp] theorem withPending_journal (s : State) (q) : (s.withPending q).journal = s.journal := rfl
@[simp] theorem withPending_nvm (s : State) (q) : (s.withPending q).nvm = s.nvm := rfl
@[simp] theorem withPending_dram (s : State) (q) : (s.withPending q).dram = s.dram := rfl
@[simp] theorem withPending_dramCorrected (s : State) (q) : (s.withPending q).dramCorrected = s.dramCorrected := rfl
@[simp] theorem withPending_dramRate (s : State) (q) : (s.withPending q).dramRate = s.dramRate := rfl
@[simp] theorem withPending_sramCorrected (s : State) (q) : (s.withPending q).sramCorrected = s.sramCorrected := rfl
@[simp] theorem withPending_free (s : State) (q) : (s.withPending q).free = s.free := rfl
@[simp] theorem withPending_pending (s : State) (q) : (s.withPending q).pending = q := rfl

@[simp] theorem onAccess_variant (f) (s : State) : (onAccess f s).variant = s.variant := rfl
@[simp] theorem onAccess_aon (f) (s : State) : (onAccess f s).aon = s.aon := rfl
@[simp] theorem onAccess_power (f) (s : State) : (onAccess f s).power = s.power := rfl
@[simp] theorem onAccess_units (f) (s : State) : (onAccess f s).units = s.units := rfl
@[simp] theorem onAccess_scan (f) (s : State) : (onAccess f s).scan = s.scan := rfl
@[simp] theorem onAccess_leap (f) (s : State) : (onAccess f s).leap = s.leap := rfl
@[simp] theorem onAccess_almanac (f) (s : State) : (onAccess f s).almanac = s.almanac := rfl
@[simp] theorem onAccess_dict (f) (s : State) : (onAccess f s).dict = s.dict := rfl
@[simp] theorem onAccess_access (f) (s : State) : (onAccess f s).access = f s.access := rfl
@[simp] theorem onAccess_fetch (f) (s : State) : (onAccess f s).fetch = s.fetch := rfl
@[simp] theorem onAccess_warp (f) (s : State) : (onAccess f s).warp = s.warp := rfl
@[simp] theorem onAccess_manifest (f) (s : State) : (onAccess f s).manifest = s.manifest := rfl
@[simp] theorem onAccess_shade (f) (s : State) : (onAccess f s).shade = s.shade := rfl
@[simp] theorem onAccess_ceiling (f) (s : State) : (onAccess f s).ceiling = s.ceiling := rfl
@[simp] theorem onAccess_safeBeam (f) (s : State) : (onAccess f s).safeBeam = s.safeBeam := rfl
@[simp] theorem onAccess_compose (f) (s : State) : (onAccess f s).compose = s.compose := rfl
@[simp] theorem onAccess_drive (f) (s : State) : (onAccess f s).drive = s.drive := rfl
@[simp] theorem onAccess_headroom (f) (s : State) : (onAccess f s).headroom = s.headroom := rfl
@[simp] theorem onAccess_link (f) (s : State) : (onAccess f s).link = s.link := rfl
@[simp] theorem onAccess_pixels (f) (s : State) : (onAccess f s).pixels = s.pixels := rfl
@[simp] theorem onAccess_checker (f) (s : State) : (onAccess f s).checker = s.checker := rfl
@[simp] theorem onAccess_hk (f) (s : State) : (onAccess f s).hk = s.hk := rfl
@[simp] theorem onAccess_toll (f) (s : State) : (onAccess f s).toll = s.toll := rfl
@[simp] theorem onAccess_faults (f) (s : State) : (onAccess f s).faults = s.faults := rfl
@[simp] theorem onAccess_safety (f) (s : State) : (onAccess f s).safety = s.safety := rfl
@[simp] theorem onAccess_host (f) (s : State) : (onAccess f s).host = s.host := rfl
@[simp] theorem onAccess_sinks (f) (s : State) : (onAccess f s).sinks = s.sinks := rfl
@[simp] theorem onAccess_caravan (f) (s : State) : (onAccess f s).caravan = s.caravan := rfl
@[simp] theorem onAccess_update (f) (s : State) : (onAccess f s).update = s.update := rfl
@[simp] theorem onAccess_journal (f) (s : State) : (onAccess f s).journal = s.journal := rfl
@[simp] theorem onAccess_nvm (f) (s : State) : (onAccess f s).nvm = s.nvm := rfl
@[simp] theorem onAccess_dram (f) (s : State) : (onAccess f s).dram = s.dram := rfl
@[simp] theorem onAccess_dramCorrected (f) (s : State) : (onAccess f s).dramCorrected = s.dramCorrected := rfl
@[simp] theorem onAccess_dramRate (f) (s : State) : (onAccess f s).dramRate = s.dramRate := rfl
@[simp] theorem onAccess_sramCorrected (f) (s : State) : (onAccess f s).sramCorrected = s.sramCorrected := rfl
@[simp] theorem onAccess_free (f) (s : State) : (onAccess f s).free = s.free := rfl
@[simp] theorem onAccess_pending (f) (s : State) : (onAccess f s).pending = s.pending := rfl

@[simp] theorem onAlmanac_variant (f) (s : State) : (onAlmanac f s).variant = s.variant := rfl
@[simp] theorem onAlmanac_aon (f) (s : State) : (onAlmanac f s).aon = s.aon := rfl
@[simp] theorem onAlmanac_power (f) (s : State) : (onAlmanac f s).power = s.power := rfl
@[simp] theorem onAlmanac_units (f) (s : State) : (onAlmanac f s).units = s.units := rfl
@[simp] theorem onAlmanac_scan (f) (s : State) : (onAlmanac f s).scan = s.scan := rfl
@[simp] theorem onAlmanac_leap (f) (s : State) : (onAlmanac f s).leap = s.leap := rfl
@[simp] theorem onAlmanac_almanac (f) (s : State) : (onAlmanac f s).almanac = f s.almanac := rfl
@[simp] theorem onAlmanac_dict (f) (s : State) : (onAlmanac f s).dict = s.dict := rfl
@[simp] theorem onAlmanac_access (f) (s : State) : (onAlmanac f s).access = s.access := rfl
@[simp] theorem onAlmanac_fetch (f) (s : State) : (onAlmanac f s).fetch = s.fetch := rfl
@[simp] theorem onAlmanac_warp (f) (s : State) : (onAlmanac f s).warp = s.warp := rfl
@[simp] theorem onAlmanac_manifest (f) (s : State) : (onAlmanac f s).manifest = s.manifest := rfl
@[simp] theorem onAlmanac_shade (f) (s : State) : (onAlmanac f s).shade = s.shade := rfl
@[simp] theorem onAlmanac_ceiling (f) (s : State) : (onAlmanac f s).ceiling = s.ceiling := rfl
@[simp] theorem onAlmanac_safeBeam (f) (s : State) : (onAlmanac f s).safeBeam = s.safeBeam := rfl
@[simp] theorem onAlmanac_compose (f) (s : State) : (onAlmanac f s).compose = s.compose := rfl
@[simp] theorem onAlmanac_drive (f) (s : State) : (onAlmanac f s).drive = s.drive := rfl
@[simp] theorem onAlmanac_headroom (f) (s : State) : (onAlmanac f s).headroom = s.headroom := rfl
@[simp] theorem onAlmanac_link (f) (s : State) : (onAlmanac f s).link = s.link := rfl
@[simp] theorem onAlmanac_pixels (f) (s : State) : (onAlmanac f s).pixels = s.pixels := rfl
@[simp] theorem onAlmanac_checker (f) (s : State) : (onAlmanac f s).checker = s.checker := rfl
@[simp] theorem onAlmanac_hk (f) (s : State) : (onAlmanac f s).hk = s.hk := rfl
@[simp] theorem onAlmanac_toll (f) (s : State) : (onAlmanac f s).toll = s.toll := rfl
@[simp] theorem onAlmanac_faults (f) (s : State) : (onAlmanac f s).faults = s.faults := rfl
@[simp] theorem onAlmanac_safety (f) (s : State) : (onAlmanac f s).safety = s.safety := rfl
@[simp] theorem onAlmanac_host (f) (s : State) : (onAlmanac f s).host = s.host := rfl
@[simp] theorem onAlmanac_sinks (f) (s : State) : (onAlmanac f s).sinks = s.sinks := rfl
@[simp] theorem onAlmanac_caravan (f) (s : State) : (onAlmanac f s).caravan = s.caravan := rfl
@[simp] theorem onAlmanac_update (f) (s : State) : (onAlmanac f s).update = s.update := rfl
@[simp] theorem onAlmanac_journal (f) (s : State) : (onAlmanac f s).journal = s.journal := rfl
@[simp] theorem onAlmanac_nvm (f) (s : State) : (onAlmanac f s).nvm = s.nvm := rfl
@[simp] theorem onAlmanac_dram (f) (s : State) : (onAlmanac f s).dram = s.dram := rfl
@[simp] theorem onAlmanac_dramCorrected (f) (s : State) : (onAlmanac f s).dramCorrected = s.dramCorrected := rfl
@[simp] theorem onAlmanac_dramRate (f) (s : State) : (onAlmanac f s).dramRate = s.dramRate := rfl
@[simp] theorem onAlmanac_sramCorrected (f) (s : State) : (onAlmanac f s).sramCorrected = s.sramCorrected := rfl
@[simp] theorem onAlmanac_free (f) (s : State) : (onAlmanac f s).free = s.free := rfl
@[simp] theorem onAlmanac_pending (f) (s : State) : (onAlmanac f s).pending = s.pending := rfl

@[simp] theorem onFullScale_variant (p) (f) (s : State) : (onFullScale p f s).variant = s.variant := rfl
@[simp] theorem onFullScale_aon (p) (f) (s : State) : (onFullScale p f s).aon = s.aon := rfl
@[simp] theorem onFullScale_power (p) (f) (s : State) : (onFullScale p f s).power = s.power := rfl
@[simp] theorem onFullScale_units (p) (f) (s : State) : (onFullScale p f s).units = s.units := rfl
@[simp] theorem onFullScale_scan (p) (f) (s : State) : (onFullScale p f s).scan = s.scan := rfl
@[simp] theorem onFullScale_leap (p) (f) (s : State) : (onFullScale p f s).leap = s.leap := rfl
@[simp] theorem onFullScale_almanac (p) (f) (s : State) : (onFullScale p f s).almanac = s.almanac := rfl
@[simp] theorem onFullScale_dict (p) (f) (s : State) : (onFullScale p f s).dict = s.dict := rfl
@[simp] theorem onFullScale_access (p) (f) (s : State) : (onFullScale p f s).access = s.access := rfl
@[simp] theorem onFullScale_fetch (p) (f) (s : State) : (onFullScale p f s).fetch = s.fetch := rfl
@[simp] theorem onFullScale_warp (p) (f) (s : State) : (onFullScale p f s).warp = s.warp := rfl
@[simp] theorem onFullScale_manifest (p) (f) (s : State) : (onFullScale p f s).manifest = s.manifest := rfl
@[simp] theorem onFullScale_shade (p) (f) (s : State) : (onFullScale p f s).shade = s.shade := rfl
@[simp] theorem onFullScale_ceiling (p) (f) (s : State) : (onFullScale p f s).ceiling = s.ceiling := rfl
@[simp] theorem onFullScale_safeBeam (p) (f) (s : State) : (onFullScale p f s).safeBeam = s.safeBeam := rfl
@[simp] theorem onFullScale_compose (p) (f) (s : State) : (onFullScale p f s).compose = s.compose := rfl
@[simp] theorem onFullScale_drive (p) (f) (s : State) :
    (onFullScale p f s).drive = { s.drive with fullScale := s.drive.fullScale.modify p f } := rfl
@[simp] theorem onFullScale_headroom (p) (f) (s : State) : (onFullScale p f s).headroom = s.headroom := rfl
@[simp] theorem onFullScale_link (p) (f) (s : State) : (onFullScale p f s).link = s.link := rfl
@[simp] theorem onFullScale_pixels (p) (f) (s : State) : (onFullScale p f s).pixels = s.pixels := rfl
@[simp] theorem onFullScale_checker (p) (f) (s : State) : (onFullScale p f s).checker = s.checker := rfl
@[simp] theorem onFullScale_hk (p) (f) (s : State) : (onFullScale p f s).hk = s.hk := rfl
@[simp] theorem onFullScale_toll (p) (f) (s : State) : (onFullScale p f s).toll = s.toll := rfl
@[simp] theorem onFullScale_faults (p) (f) (s : State) : (onFullScale p f s).faults = s.faults := rfl
@[simp] theorem onFullScale_safety (p) (f) (s : State) : (onFullScale p f s).safety = s.safety := rfl
@[simp] theorem onFullScale_host (p) (f) (s : State) : (onFullScale p f s).host = s.host := rfl
@[simp] theorem onFullScale_sinks (p) (f) (s : State) : (onFullScale p f s).sinks = s.sinks := rfl
@[simp] theorem onFullScale_caravan (p) (f) (s : State) : (onFullScale p f s).caravan = s.caravan := rfl
@[simp] theorem onFullScale_update (p) (f) (s : State) : (onFullScale p f s).update = s.update := rfl
@[simp] theorem onFullScale_journal (p) (f) (s : State) : (onFullScale p f s).journal = s.journal := rfl
@[simp] theorem onFullScale_nvm (p) (f) (s : State) : (onFullScale p f s).nvm = s.nvm := rfl
@[simp] theorem onFullScale_dram (p) (f) (s : State) : (onFullScale p f s).dram = s.dram := rfl
@[simp] theorem onFullScale_dramCorrected (p) (f) (s : State) :
    (onFullScale p f s).dramCorrected = s.dramCorrected := rfl
@[simp] theorem onFullScale_dramRate (p) (f) (s : State) : (onFullScale p f s).dramRate = s.dramRate := rfl
@[simp] theorem onFullScale_sramCorrected (p) (f) (s : State) :
    (onFullScale p f s).sramCorrected = s.sramCorrected := rfl
@[simp] theorem onFullScale_free (p) (f) (s : State) : (onFullScale p f s).free = s.free := rfl
@[simp] theorem onFullScale_pending (p) (f) (s : State) : (onFullScale p f s).pending = s.pending := rfl

@[simp] theorem onSafety_variant (f) (s : State) : (onSafety f s).variant = s.variant := rfl
@[simp] theorem onSafety_aon (f) (s : State) : (onSafety f s).aon = s.aon := rfl
@[simp] theorem onSafety_power (f) (s : State) : (onSafety f s).power = s.power := rfl
@[simp] theorem onSafety_units (f) (s : State) : (onSafety f s).units = s.units := rfl
@[simp] theorem onSafety_scan (f) (s : State) : (onSafety f s).scan = s.scan := rfl
@[simp] theorem onSafety_leap (f) (s : State) : (onSafety f s).leap = s.leap := rfl
@[simp] theorem onSafety_almanac (f) (s : State) : (onSafety f s).almanac = s.almanac := rfl
@[simp] theorem onSafety_dict (f) (s : State) : (onSafety f s).dict = s.dict := rfl
@[simp] theorem onSafety_access (f) (s : State) : (onSafety f s).access = s.access := rfl
@[simp] theorem onSafety_fetch (f) (s : State) : (onSafety f s).fetch = s.fetch := rfl
@[simp] theorem onSafety_warp (f) (s : State) : (onSafety f s).warp = s.warp := rfl
@[simp] theorem onSafety_manifest (f) (s : State) : (onSafety f s).manifest = s.manifest := rfl
@[simp] theorem onSafety_shade (f) (s : State) : (onSafety f s).shade = s.shade := rfl
@[simp] theorem onSafety_ceiling (f) (s : State) : (onSafety f s).ceiling = s.ceiling := rfl
@[simp] theorem onSafety_safeBeam (f) (s : State) : (onSafety f s).safeBeam = s.safeBeam := rfl
@[simp] theorem onSafety_compose (f) (s : State) : (onSafety f s).compose = s.compose := rfl
@[simp] theorem onSafety_drive (f) (s : State) : (onSafety f s).drive = s.drive := rfl
@[simp] theorem onSafety_headroom (f) (s : State) : (onSafety f s).headroom = s.headroom := rfl
@[simp] theorem onSafety_link (f) (s : State) : (onSafety f s).link = s.link := rfl
@[simp] theorem onSafety_pixels (f) (s : State) : (onSafety f s).pixels = s.pixels := rfl
@[simp] theorem onSafety_checker (f) (s : State) : (onSafety f s).checker = s.checker := rfl
@[simp] theorem onSafety_hk (f) (s : State) : (onSafety f s).hk = s.hk := rfl
@[simp] theorem onSafety_toll (f) (s : State) : (onSafety f s).toll = s.toll := rfl
@[simp] theorem onSafety_faults (f) (s : State) : (onSafety f s).faults = s.faults := rfl
@[simp] theorem onSafety_safety (f) (s : State) : (onSafety f s).safety = f s.safety := rfl
@[simp] theorem onSafety_host (f) (s : State) : (onSafety f s).host = s.host := rfl
@[simp] theorem onSafety_sinks (f) (s : State) : (onSafety f s).sinks = s.sinks := rfl
@[simp] theorem onSafety_caravan (f) (s : State) : (onSafety f s).caravan = s.caravan := rfl
@[simp] theorem onSafety_update (f) (s : State) : (onSafety f s).update = s.update := rfl
@[simp] theorem onSafety_journal (f) (s : State) : (onSafety f s).journal = s.journal := rfl
@[simp] theorem onSafety_nvm (f) (s : State) : (onSafety f s).nvm = s.nvm := rfl
@[simp] theorem onSafety_dram (f) (s : State) : (onSafety f s).dram = s.dram := rfl
@[simp] theorem onSafety_dramCorrected (f) (s : State) : (onSafety f s).dramCorrected = s.dramCorrected := rfl
@[simp] theorem onSafety_dramRate (f) (s : State) : (onSafety f s).dramRate = s.dramRate := rfl
@[simp] theorem onSafety_sramCorrected (f) (s : State) : (onSafety f s).sramCorrected = s.sramCorrected := rfl
@[simp] theorem onSafety_free (f) (s : State) : (onSafety f s).free = s.free := rfl
@[simp] theorem onSafety_pending (f) (s : State) : (onSafety f s).pending = s.pending := rfl

@[simp] theorem onCompose_variant (f) (s : State) : (onCompose f s).variant = s.variant := rfl
@[simp] theorem onCompose_aon (f) (s : State) : (onCompose f s).aon = s.aon := rfl
@[simp] theorem onCompose_power (f) (s : State) : (onCompose f s).power = s.power := rfl
@[simp] theorem onCompose_units (f) (s : State) : (onCompose f s).units = s.units := rfl
@[simp] theorem onCompose_scan (f) (s : State) : (onCompose f s).scan = s.scan := rfl
@[simp] theorem onCompose_leap (f) (s : State) : (onCompose f s).leap = s.leap := rfl
@[simp] theorem onCompose_almanac (f) (s : State) : (onCompose f s).almanac = s.almanac := rfl
@[simp] theorem onCompose_dict (f) (s : State) : (onCompose f s).dict = s.dict := rfl
@[simp] theorem onCompose_access (f) (s : State) : (onCompose f s).access = s.access := rfl
@[simp] theorem onCompose_fetch (f) (s : State) : (onCompose f s).fetch = s.fetch := rfl
@[simp] theorem onCompose_warp (f) (s : State) : (onCompose f s).warp = s.warp := rfl
@[simp] theorem onCompose_manifest (f) (s : State) : (onCompose f s).manifest = s.manifest := rfl
@[simp] theorem onCompose_shade (f) (s : State) : (onCompose f s).shade = s.shade := rfl
@[simp] theorem onCompose_ceiling (f) (s : State) : (onCompose f s).ceiling = s.ceiling := rfl
@[simp] theorem onCompose_safeBeam (f) (s : State) : (onCompose f s).safeBeam = s.safeBeam := rfl
@[simp] theorem onCompose_compose (f) (s : State) : (onCompose f s).compose = f s.compose := rfl
@[simp] theorem onCompose_drive (f) (s : State) : (onCompose f s).drive = s.drive := rfl
@[simp] theorem onCompose_headroom (f) (s : State) : (onCompose f s).headroom = s.headroom := rfl
@[simp] theorem onCompose_link (f) (s : State) : (onCompose f s).link = s.link := rfl
@[simp] theorem onCompose_pixels (f) (s : State) : (onCompose f s).pixels = s.pixels := rfl
@[simp] theorem onCompose_checker (f) (s : State) : (onCompose f s).checker = s.checker := rfl
@[simp] theorem onCompose_hk (f) (s : State) : (onCompose f s).hk = s.hk := rfl
@[simp] theorem onCompose_toll (f) (s : State) : (onCompose f s).toll = s.toll := rfl
@[simp] theorem onCompose_faults (f) (s : State) : (onCompose f s).faults = s.faults := rfl
@[simp] theorem onCompose_safety (f) (s : State) : (onCompose f s).safety = s.safety := rfl
@[simp] theorem onCompose_host (f) (s : State) : (onCompose f s).host = s.host := rfl
@[simp] theorem onCompose_sinks (f) (s : State) : (onCompose f s).sinks = s.sinks := rfl
@[simp] theorem onCompose_caravan (f) (s : State) : (onCompose f s).caravan = s.caravan := rfl
@[simp] theorem onCompose_update (f) (s : State) : (onCompose f s).update = s.update := rfl
@[simp] theorem onCompose_journal (f) (s : State) : (onCompose f s).journal = s.journal := rfl
@[simp] theorem onCompose_nvm (f) (s : State) : (onCompose f s).nvm = s.nvm := rfl
@[simp] theorem onCompose_dram (f) (s : State) : (onCompose f s).dram = s.dram := rfl
@[simp] theorem onCompose_dramCorrected (f) (s : State) : (onCompose f s).dramCorrected = s.dramCorrected := rfl
@[simp] theorem onCompose_dramRate (f) (s : State) : (onCompose f s).dramRate = s.dramRate := rfl
@[simp] theorem onCompose_sramCorrected (f) (s : State) : (onCompose f s).sramCorrected = s.sramCorrected := rfl
@[simp] theorem onCompose_free (f) (s : State) : (onCompose f s).free = s.free := rfl
@[simp] theorem onCompose_pending (f) (s : State) : (onCompose f s).pending = s.pending := rfl

@[simp] theorem onHost_variant (f) (s : State) : (onHost f s).variant = s.variant := rfl
@[simp] theorem onHost_aon (f) (s : State) : (onHost f s).aon = s.aon := rfl
@[simp] theorem onHost_power (f) (s : State) : (onHost f s).power = s.power := rfl
@[simp] theorem onHost_units (f) (s : State) : (onHost f s).units = s.units := rfl
@[simp] theorem onHost_scan (f) (s : State) : (onHost f s).scan = s.scan := rfl
@[simp] theorem onHost_leap (f) (s : State) : (onHost f s).leap = s.leap := rfl
@[simp] theorem onHost_almanac (f) (s : State) : (onHost f s).almanac = s.almanac := rfl
@[simp] theorem onHost_dict (f) (s : State) : (onHost f s).dict = s.dict := rfl
@[simp] theorem onHost_access (f) (s : State) : (onHost f s).access = s.access := rfl
@[simp] theorem onHost_fetch (f) (s : State) : (onHost f s).fetch = s.fetch := rfl
@[simp] theorem onHost_warp (f) (s : State) : (onHost f s).warp = s.warp := rfl
@[simp] theorem onHost_manifest (f) (s : State) : (onHost f s).manifest = s.manifest := rfl
@[simp] theorem onHost_shade (f) (s : State) : (onHost f s).shade = s.shade := rfl
@[simp] theorem onHost_ceiling (f) (s : State) : (onHost f s).ceiling = s.ceiling := rfl
@[simp] theorem onHost_safeBeam (f) (s : State) : (onHost f s).safeBeam = s.safeBeam := rfl
@[simp] theorem onHost_compose (f) (s : State) : (onHost f s).compose = s.compose := rfl
@[simp] theorem onHost_drive (f) (s : State) : (onHost f s).drive = s.drive := rfl
@[simp] theorem onHost_headroom (f) (s : State) : (onHost f s).headroom = s.headroom := rfl
@[simp] theorem onHost_link (f) (s : State) : (onHost f s).link = s.link := rfl
@[simp] theorem onHost_pixels (f) (s : State) : (onHost f s).pixels = s.pixels := rfl
@[simp] theorem onHost_checker (f) (s : State) : (onHost f s).checker = s.checker := rfl
@[simp] theorem onHost_hk (f) (s : State) : (onHost f s).hk = s.hk := rfl
@[simp] theorem onHost_toll (f) (s : State) : (onHost f s).toll = s.toll := rfl
@[simp] theorem onHost_faults (f) (s : State) : (onHost f s).faults = s.faults := rfl
@[simp] theorem onHost_safety (f) (s : State) : (onHost f s).safety = s.safety := rfl
@[simp] theorem onHost_host (f) (s : State) : (onHost f s).host = f s.host := rfl
@[simp] theorem onHost_sinks (f) (s : State) : (onHost f s).sinks = s.sinks := rfl
@[simp] theorem onHost_caravan (f) (s : State) : (onHost f s).caravan = s.caravan := rfl
@[simp] theorem onHost_update (f) (s : State) : (onHost f s).update = s.update := rfl
@[simp] theorem onHost_journal (f) (s : State) : (onHost f s).journal = s.journal := rfl
@[simp] theorem onHost_nvm (f) (s : State) : (onHost f s).nvm = s.nvm := rfl
@[simp] theorem onHost_dram (f) (s : State) : (onHost f s).dram = s.dram := rfl
@[simp] theorem onHost_dramCorrected (f) (s : State) : (onHost f s).dramCorrected = s.dramCorrected := rfl
@[simp] theorem onHost_dramRate (f) (s : State) : (onHost f s).dramRate = s.dramRate := rfl
@[simp] theorem onHost_sramCorrected (f) (s : State) : (onHost f s).sramCorrected = s.sramCorrected := rfl
@[simp] theorem onHost_free (f) (s : State) : (onHost f s).free = s.free := rfl
@[simp] theorem onHost_pending (f) (s : State) : (onHost f s).pending = s.pending := rfl

@[simp] theorem onFaults_variant (f) (s : State) : (onFaults f s).variant = s.variant := rfl
@[simp] theorem onFaults_aon (f) (s : State) : (onFaults f s).aon = s.aon := rfl
@[simp] theorem onFaults_power (f) (s : State) : (onFaults f s).power = s.power := rfl
@[simp] theorem onFaults_units (f) (s : State) : (onFaults f s).units = s.units := rfl
@[simp] theorem onFaults_scan (f) (s : State) : (onFaults f s).scan = s.scan := rfl
@[simp] theorem onFaults_leap (f) (s : State) : (onFaults f s).leap = s.leap := rfl
@[simp] theorem onFaults_almanac (f) (s : State) : (onFaults f s).almanac = s.almanac := rfl
@[simp] theorem onFaults_dict (f) (s : State) : (onFaults f s).dict = s.dict := rfl
@[simp] theorem onFaults_access (f) (s : State) : (onFaults f s).access = s.access := rfl
@[simp] theorem onFaults_fetch (f) (s : State) : (onFaults f s).fetch = s.fetch := rfl
@[simp] theorem onFaults_warp (f) (s : State) : (onFaults f s).warp = s.warp := rfl
@[simp] theorem onFaults_manifest (f) (s : State) : (onFaults f s).manifest = s.manifest := rfl
@[simp] theorem onFaults_shade (f) (s : State) : (onFaults f s).shade = s.shade := rfl
@[simp] theorem onFaults_ceiling (f) (s : State) : (onFaults f s).ceiling = s.ceiling := rfl
@[simp] theorem onFaults_safeBeam (f) (s : State) : (onFaults f s).safeBeam = s.safeBeam := rfl
@[simp] theorem onFaults_compose (f) (s : State) : (onFaults f s).compose = s.compose := rfl
@[simp] theorem onFaults_drive (f) (s : State) : (onFaults f s).drive = s.drive := rfl
@[simp] theorem onFaults_headroom (f) (s : State) : (onFaults f s).headroom = s.headroom := rfl
@[simp] theorem onFaults_link (f) (s : State) : (onFaults f s).link = s.link := rfl
@[simp] theorem onFaults_pixels (f) (s : State) : (onFaults f s).pixels = s.pixels := rfl
@[simp] theorem onFaults_checker (f) (s : State) : (onFaults f s).checker = s.checker := rfl
@[simp] theorem onFaults_hk (f) (s : State) : (onFaults f s).hk = s.hk := rfl
@[simp] theorem onFaults_toll (f) (s : State) : (onFaults f s).toll = s.toll := rfl
@[simp] theorem onFaults_faults (f) (s : State) : (onFaults f s).faults = f s.faults := rfl
@[simp] theorem onFaults_safety (f) (s : State) : (onFaults f s).safety = s.safety := rfl
@[simp] theorem onFaults_host (f) (s : State) : (onFaults f s).host = s.host := rfl
@[simp] theorem onFaults_sinks (f) (s : State) : (onFaults f s).sinks = s.sinks := rfl
@[simp] theorem onFaults_caravan (f) (s : State) : (onFaults f s).caravan = s.caravan := rfl
@[simp] theorem onFaults_update (f) (s : State) : (onFaults f s).update = s.update := rfl
@[simp] theorem onFaults_journal (f) (s : State) : (onFaults f s).journal = s.journal := rfl
@[simp] theorem onFaults_nvm (f) (s : State) : (onFaults f s).nvm = s.nvm := rfl
@[simp] theorem onFaults_dram (f) (s : State) : (onFaults f s).dram = s.dram := rfl
@[simp] theorem onFaults_dramCorrected (f) (s : State) : (onFaults f s).dramCorrected = s.dramCorrected := rfl
@[simp] theorem onFaults_dramRate (f) (s : State) : (onFaults f s).dramRate = s.dramRate := rfl
@[simp] theorem onFaults_sramCorrected (f) (s : State) : (onFaults f s).sramCorrected = s.sramCorrected := rfl
@[simp] theorem onFaults_free (f) (s : State) : (onFaults f s).free = s.free := rfl
@[simp] theorem onFaults_pending (f) (s : State) : (onFaults f s).pending = s.pending := rfl

@[simp] theorem onWarp_variant (p) (f) (s : State) : (onWarp p f s).variant = s.variant := rfl
@[simp] theorem onWarp_aon (p) (f) (s : State) : (onWarp p f s).aon = s.aon := rfl
@[simp] theorem onWarp_power (p) (f) (s : State) : (onWarp p f s).power = s.power := rfl
@[simp] theorem onWarp_units (p) (f) (s : State) : (onWarp p f s).units = s.units := rfl
@[simp] theorem onWarp_scan (p) (f) (s : State) : (onWarp p f s).scan = s.scan := rfl
@[simp] theorem onWarp_leap (p) (f) (s : State) : (onWarp p f s).leap = s.leap := rfl
@[simp] theorem onWarp_almanac (p) (f) (s : State) : (onWarp p f s).almanac = s.almanac := rfl
@[simp] theorem onWarp_dict (p) (f) (s : State) : (onWarp p f s).dict = s.dict := rfl
@[simp] theorem onWarp_access (p) (f) (s : State) : (onWarp p f s).access = s.access := rfl
@[simp] theorem onWarp_fetch (p) (f) (s : State) : (onWarp p f s).fetch = s.fetch := rfl
@[simp] theorem onWarp_warp (p) (f) (s : State) : (onWarp p f s).warp = s.warp.modify p f := rfl
@[simp] theorem onWarp_manifest (p) (f) (s : State) : (onWarp p f s).manifest = s.manifest := rfl
@[simp] theorem onWarp_shade (p) (f) (s : State) : (onWarp p f s).shade = s.shade := rfl
@[simp] theorem onWarp_ceiling (p) (f) (s : State) : (onWarp p f s).ceiling = s.ceiling := rfl
@[simp] theorem onWarp_safeBeam (p) (f) (s : State) : (onWarp p f s).safeBeam = s.safeBeam := rfl
@[simp] theorem onWarp_compose (p) (f) (s : State) : (onWarp p f s).compose = s.compose := rfl
@[simp] theorem onWarp_drive (p) (f) (s : State) : (onWarp p f s).drive = s.drive := rfl
@[simp] theorem onWarp_headroom (p) (f) (s : State) : (onWarp p f s).headroom = s.headroom := rfl
@[simp] theorem onWarp_link (p) (f) (s : State) : (onWarp p f s).link = s.link := rfl
@[simp] theorem onWarp_pixels (p) (f) (s : State) : (onWarp p f s).pixels = s.pixels := rfl
@[simp] theorem onWarp_checker (p) (f) (s : State) : (onWarp p f s).checker = s.checker := rfl
@[simp] theorem onWarp_hk (p) (f) (s : State) : (onWarp p f s).hk = s.hk := rfl
@[simp] theorem onWarp_toll (p) (f) (s : State) : (onWarp p f s).toll = s.toll := rfl
@[simp] theorem onWarp_faults (p) (f) (s : State) : (onWarp p f s).faults = s.faults := rfl
@[simp] theorem onWarp_safety (p) (f) (s : State) : (onWarp p f s).safety = s.safety := rfl
@[simp] theorem onWarp_host (p) (f) (s : State) : (onWarp p f s).host = s.host := rfl
@[simp] theorem onWarp_sinks (p) (f) (s : State) : (onWarp p f s).sinks = s.sinks := rfl
@[simp] theorem onWarp_caravan (p) (f) (s : State) : (onWarp p f s).caravan = s.caravan := rfl
@[simp] theorem onWarp_update (p) (f) (s : State) : (onWarp p f s).update = s.update := rfl
@[simp] theorem onWarp_journal (p) (f) (s : State) : (onWarp p f s).journal = s.journal := rfl
@[simp] theorem onWarp_nvm (p) (f) (s : State) : (onWarp p f s).nvm = s.nvm := rfl
@[simp] theorem onWarp_dram (p) (f) (s : State) : (onWarp p f s).dram = s.dram := rfl
@[simp] theorem onWarp_dramCorrected (p) (f) (s : State) : (onWarp p f s).dramCorrected = s.dramCorrected := rfl
@[simp] theorem onWarp_dramRate (p) (f) (s : State) : (onWarp p f s).dramRate = s.dramRate := rfl
@[simp] theorem onWarp_sramCorrected (p) (f) (s : State) : (onWarp p f s).sramCorrected = s.sramCorrected := rfl
@[simp] theorem onWarp_free (p) (f) (s : State) : (onWarp p f s).free = s.free := rfl
@[simp] theorem onWarp_pending (p) (f) (s : State) : (onWarp p f s).pending = s.pending := rfl

@[simp] theorem onHk_variant (f) (s : State) : (onHk f s).variant = s.variant := rfl
@[simp] theorem onHk_aon (f) (s : State) : (onHk f s).aon = s.aon := rfl
@[simp] theorem onHk_power (f) (s : State) : (onHk f s).power = s.power := rfl
@[simp] theorem onHk_units (f) (s : State) : (onHk f s).units = s.units := rfl
@[simp] theorem onHk_scan (f) (s : State) : (onHk f s).scan = s.scan := rfl
@[simp] theorem onHk_leap (f) (s : State) : (onHk f s).leap = s.leap := rfl
@[simp] theorem onHk_almanac (f) (s : State) : (onHk f s).almanac = s.almanac := rfl
@[simp] theorem onHk_dict (f) (s : State) : (onHk f s).dict = s.dict := rfl
@[simp] theorem onHk_access (f) (s : State) : (onHk f s).access = s.access := rfl
@[simp] theorem onHk_fetch (f) (s : State) : (onHk f s).fetch = s.fetch := rfl
@[simp] theorem onHk_warp (f) (s : State) : (onHk f s).warp = s.warp := rfl
@[simp] theorem onHk_manifest (f) (s : State) : (onHk f s).manifest = s.manifest := rfl
@[simp] theorem onHk_shade (f) (s : State) : (onHk f s).shade = s.shade := rfl
@[simp] theorem onHk_ceiling (f) (s : State) : (onHk f s).ceiling = s.ceiling := rfl
@[simp] theorem onHk_safeBeam (f) (s : State) : (onHk f s).safeBeam = s.safeBeam := rfl
@[simp] theorem onHk_compose (f) (s : State) : (onHk f s).compose = s.compose := rfl
@[simp] theorem onHk_drive (f) (s : State) : (onHk f s).drive = s.drive := rfl
@[simp] theorem onHk_headroom (f) (s : State) : (onHk f s).headroom = s.headroom := rfl
@[simp] theorem onHk_link (f) (s : State) : (onHk f s).link = s.link := rfl
@[simp] theorem onHk_pixels (f) (s : State) : (onHk f s).pixels = s.pixels := rfl
@[simp] theorem onHk_checker (f) (s : State) : (onHk f s).checker = s.checker := rfl
@[simp] theorem onHk_hk (f) (s : State) : (onHk f s).hk = f s.hk := rfl
@[simp] theorem onHk_toll (f) (s : State) : (onHk f s).toll = s.toll := rfl
@[simp] theorem onHk_faults (f) (s : State) : (onHk f s).faults = s.faults := rfl
@[simp] theorem onHk_safety (f) (s : State) : (onHk f s).safety = s.safety := rfl
@[simp] theorem onHk_host (f) (s : State) : (onHk f s).host = s.host := rfl
@[simp] theorem onHk_sinks (f) (s : State) : (onHk f s).sinks = s.sinks := rfl
@[simp] theorem onHk_caravan (f) (s : State) : (onHk f s).caravan = s.caravan := rfl
@[simp] theorem onHk_update (f) (s : State) : (onHk f s).update = s.update := rfl
@[simp] theorem onHk_journal (f) (s : State) : (onHk f s).journal = s.journal := rfl
@[simp] theorem onHk_nvm (f) (s : State) : (onHk f s).nvm = s.nvm := rfl
@[simp] theorem onHk_dram (f) (s : State) : (onHk f s).dram = s.dram := rfl
@[simp] theorem onHk_dramCorrected (f) (s : State) : (onHk f s).dramCorrected = s.dramCorrected := rfl
@[simp] theorem onHk_dramRate (f) (s : State) : (onHk f s).dramRate = s.dramRate := rfl
@[simp] theorem onHk_sramCorrected (f) (s : State) : (onHk f s).sramCorrected = s.sramCorrected := rfl
@[simp] theorem onHk_free (f) (s : State) : (onHk f s).free = s.free := rfl
@[simp] theorem onHk_pending (f) (s : State) : (onHk f s).pending = s.pending := rfl

@[simp] theorem onSupply_variant (k) (f) (s : State) : (onSupply k f s).variant = s.variant := rfl
@[simp] theorem onSupply_aon (k) (f) (s : State) : (onSupply k f s).aon = s.aon := rfl
@[simp] theorem onSupply_power (k) (f) (s : State) :
    (onSupply k f s).power = { s.power with supplies := modifyAt f k s.power.supplies } := rfl
@[simp] theorem onSupply_units (k) (f) (s : State) : (onSupply k f s).units = s.units := rfl
@[simp] theorem onSupply_scan (k) (f) (s : State) : (onSupply k f s).scan = s.scan := rfl
@[simp] theorem onSupply_leap (k) (f) (s : State) : (onSupply k f s).leap = s.leap := rfl
@[simp] theorem onSupply_almanac (k) (f) (s : State) : (onSupply k f s).almanac = s.almanac := rfl
@[simp] theorem onSupply_dict (k) (f) (s : State) : (onSupply k f s).dict = s.dict := rfl
@[simp] theorem onSupply_access (k) (f) (s : State) : (onSupply k f s).access = s.access := rfl
@[simp] theorem onSupply_fetch (k) (f) (s : State) : (onSupply k f s).fetch = s.fetch := rfl
@[simp] theorem onSupply_warp (k) (f) (s : State) : (onSupply k f s).warp = s.warp := rfl
@[simp] theorem onSupply_manifest (k) (f) (s : State) : (onSupply k f s).manifest = s.manifest := rfl
@[simp] theorem onSupply_shade (k) (f) (s : State) : (onSupply k f s).shade = s.shade := rfl
@[simp] theorem onSupply_ceiling (k) (f) (s : State) : (onSupply k f s).ceiling = s.ceiling := rfl
@[simp] theorem onSupply_safeBeam (k) (f) (s : State) : (onSupply k f s).safeBeam = s.safeBeam := rfl
@[simp] theorem onSupply_compose (k) (f) (s : State) : (onSupply k f s).compose = s.compose := rfl
@[simp] theorem onSupply_drive (k) (f) (s : State) : (onSupply k f s).drive = s.drive := rfl
@[simp] theorem onSupply_headroom (k) (f) (s : State) : (onSupply k f s).headroom = s.headroom := rfl
@[simp] theorem onSupply_link (k) (f) (s : State) : (onSupply k f s).link = s.link := rfl
@[simp] theorem onSupply_pixels (k) (f) (s : State) : (onSupply k f s).pixels = s.pixels := rfl
@[simp] theorem onSupply_checker (k) (f) (s : State) : (onSupply k f s).checker = s.checker := rfl
@[simp] theorem onSupply_hk (k) (f) (s : State) : (onSupply k f s).hk = s.hk := rfl
@[simp] theorem onSupply_toll (k) (f) (s : State) : (onSupply k f s).toll = s.toll := rfl
@[simp] theorem onSupply_faults (k) (f) (s : State) : (onSupply k f s).faults = s.faults := rfl
@[simp] theorem onSupply_safety (k) (f) (s : State) : (onSupply k f s).safety = s.safety := rfl
@[simp] theorem onSupply_host (k) (f) (s : State) : (onSupply k f s).host = s.host := rfl
@[simp] theorem onSupply_sinks (k) (f) (s : State) : (onSupply k f s).sinks = s.sinks := rfl
@[simp] theorem onSupply_caravan (k) (f) (s : State) : (onSupply k f s).caravan = s.caravan := rfl
@[simp] theorem onSupply_update (k) (f) (s : State) : (onSupply k f s).update = s.update := rfl
@[simp] theorem onSupply_journal (k) (f) (s : State) : (onSupply k f s).journal = s.journal := rfl
@[simp] theorem onSupply_nvm (k) (f) (s : State) : (onSupply k f s).nvm = s.nvm := rfl
@[simp] theorem onSupply_dram (k) (f) (s : State) : (onSupply k f s).dram = s.dram := rfl
@[simp] theorem onSupply_dramCorrected (k) (f) (s : State) : (onSupply k f s).dramCorrected = s.dramCorrected := rfl
@[simp] theorem onSupply_dramRate (k) (f) (s : State) : (onSupply k f s).dramRate = s.dramRate := rfl
@[simp] theorem onSupply_sramCorrected (k) (f) (s : State) : (onSupply k f s).sramCorrected = s.sramCorrected := rfl
@[simp] theorem onSupply_free (k) (f) (s : State) : (onSupply k f s).free = s.free := rfl
@[simp] theorem onSupply_pending (k) (f) (s : State) : (onSupply k f s).pending = s.pending := rfl

@[simp] theorem onLink_variant (p) (f) (s : State) : (onLink p f s).variant = s.variant := rfl
@[simp] theorem onLink_aon (p) (f) (s : State) : (onLink p f s).aon = s.aon := rfl
@[simp] theorem onLink_power (p) (f) (s : State) : (onLink p f s).power = s.power := rfl
@[simp] theorem onLink_units (p) (f) (s : State) : (onLink p f s).units = s.units := rfl
@[simp] theorem onLink_scan (p) (f) (s : State) : (onLink p f s).scan = s.scan := rfl
@[simp] theorem onLink_leap (p) (f) (s : State) : (onLink p f s).leap = s.leap := rfl
@[simp] theorem onLink_almanac (p) (f) (s : State) : (onLink p f s).almanac = s.almanac := rfl
@[simp] theorem onLink_dict (p) (f) (s : State) : (onLink p f s).dict = s.dict := rfl
@[simp] theorem onLink_access (p) (f) (s : State) : (onLink p f s).access = s.access := rfl
@[simp] theorem onLink_fetch (p) (f) (s : State) : (onLink p f s).fetch = s.fetch := rfl
@[simp] theorem onLink_warp (p) (f) (s : State) : (onLink p f s).warp = s.warp := rfl
@[simp] theorem onLink_manifest (p) (f) (s : State) : (onLink p f s).manifest = s.manifest := rfl
@[simp] theorem onLink_shade (p) (f) (s : State) : (onLink p f s).shade = s.shade := rfl
@[simp] theorem onLink_ceiling (p) (f) (s : State) : (onLink p f s).ceiling = s.ceiling := rfl
@[simp] theorem onLink_safeBeam (p) (f) (s : State) : (onLink p f s).safeBeam = s.safeBeam := rfl
@[simp] theorem onLink_compose (p) (f) (s : State) : (onLink p f s).compose = s.compose := rfl
@[simp] theorem onLink_drive (p) (f) (s : State) : (onLink p f s).drive = s.drive := rfl
@[simp] theorem onLink_headroom (p) (f) (s : State) : (onLink p f s).headroom = s.headroom := rfl
@[simp] theorem onLink_link (p) (f) (s : State) : (onLink p f s).link = s.link.modify p f := rfl
@[simp] theorem onLink_pixels (p) (f) (s : State) : (onLink p f s).pixels = s.pixels := rfl
@[simp] theorem onLink_checker (p) (f) (s : State) : (onLink p f s).checker = s.checker := rfl
@[simp] theorem onLink_hk (p) (f) (s : State) : (onLink p f s).hk = s.hk := rfl
@[simp] theorem onLink_toll (p) (f) (s : State) : (onLink p f s).toll = s.toll := rfl
@[simp] theorem onLink_faults (p) (f) (s : State) : (onLink p f s).faults = s.faults := rfl
@[simp] theorem onLink_safety (p) (f) (s : State) : (onLink p f s).safety = s.safety := rfl
@[simp] theorem onLink_host (p) (f) (s : State) : (onLink p f s).host = s.host := rfl
@[simp] theorem onLink_sinks (p) (f) (s : State) : (onLink p f s).sinks = s.sinks := rfl
@[simp] theorem onLink_caravan (p) (f) (s : State) : (onLink p f s).caravan = s.caravan := rfl
@[simp] theorem onLink_update (p) (f) (s : State) : (onLink p f s).update = s.update := rfl
@[simp] theorem onLink_journal (p) (f) (s : State) : (onLink p f s).journal = s.journal := rfl
@[simp] theorem onLink_nvm (p) (f) (s : State) : (onLink p f s).nvm = s.nvm := rfl
@[simp] theorem onLink_dram (p) (f) (s : State) : (onLink p f s).dram = s.dram := rfl
@[simp] theorem onLink_dramCorrected (p) (f) (s : State) : (onLink p f s).dramCorrected = s.dramCorrected := rfl
@[simp] theorem onLink_dramRate (p) (f) (s : State) : (onLink p f s).dramRate = s.dramRate := rfl
@[simp] theorem onLink_sramCorrected (p) (f) (s : State) : (onLink p f s).sramCorrected = s.sramCorrected := rfl
@[simp] theorem onLink_free (p) (f) (s : State) : (onLink p f s).free = s.free := rfl
@[simp] theorem onLink_pending (p) (f) (s : State) : (onLink p f s).pending = s.pending := rfl

@[simp] theorem onManifest_variant (f) (s : State) : (onManifest f s).variant = s.variant := rfl
@[simp] theorem onManifest_aon (f) (s : State) : (onManifest f s).aon = s.aon := rfl
@[simp] theorem onManifest_power (f) (s : State) : (onManifest f s).power = s.power := rfl
@[simp] theorem onManifest_units (f) (s : State) : (onManifest f s).units = s.units := rfl
@[simp] theorem onManifest_scan (f) (s : State) : (onManifest f s).scan = s.scan := rfl
@[simp] theorem onManifest_leap (f) (s : State) : (onManifest f s).leap = s.leap := rfl
@[simp] theorem onManifest_almanac (f) (s : State) : (onManifest f s).almanac = s.almanac := rfl
@[simp] theorem onManifest_dict (f) (s : State) : (onManifest f s).dict = s.dict := rfl
@[simp] theorem onManifest_access (f) (s : State) : (onManifest f s).access = s.access := rfl
@[simp] theorem onManifest_fetch (f) (s : State) : (onManifest f s).fetch = s.fetch := rfl
@[simp] theorem onManifest_warp (f) (s : State) : (onManifest f s).warp = s.warp := rfl
@[simp] theorem onManifest_manifest (f) (s : State) : (onManifest f s).manifest = f s.manifest := rfl
@[simp] theorem onManifest_shade (f) (s : State) : (onManifest f s).shade = s.shade := rfl
@[simp] theorem onManifest_ceiling (f) (s : State) : (onManifest f s).ceiling = s.ceiling := rfl
@[simp] theorem onManifest_safeBeam (f) (s : State) : (onManifest f s).safeBeam = s.safeBeam := rfl
@[simp] theorem onManifest_compose (f) (s : State) : (onManifest f s).compose = s.compose := rfl
@[simp] theorem onManifest_drive (f) (s : State) : (onManifest f s).drive = s.drive := rfl
@[simp] theorem onManifest_headroom (f) (s : State) : (onManifest f s).headroom = s.headroom := rfl
@[simp] theorem onManifest_link (f) (s : State) : (onManifest f s).link = s.link := rfl
@[simp] theorem onManifest_pixels (f) (s : State) : (onManifest f s).pixels = s.pixels := rfl
@[simp] theorem onManifest_checker (f) (s : State) : (onManifest f s).checker = s.checker := rfl
@[simp] theorem onManifest_hk (f) (s : State) : (onManifest f s).hk = s.hk := rfl
@[simp] theorem onManifest_toll (f) (s : State) : (onManifest f s).toll = s.toll := rfl
@[simp] theorem onManifest_faults (f) (s : State) : (onManifest f s).faults = s.faults := rfl
@[simp] theorem onManifest_safety (f) (s : State) : (onManifest f s).safety = s.safety := rfl
@[simp] theorem onManifest_host (f) (s : State) : (onManifest f s).host = s.host := rfl
@[simp] theorem onManifest_sinks (f) (s : State) : (onManifest f s).sinks = s.sinks := rfl
@[simp] theorem onManifest_caravan (f) (s : State) : (onManifest f s).caravan = s.caravan := rfl
@[simp] theorem onManifest_update (f) (s : State) : (onManifest f s).update = s.update := rfl
@[simp] theorem onManifest_journal (f) (s : State) : (onManifest f s).journal = s.journal := rfl
@[simp] theorem onManifest_nvm (f) (s : State) : (onManifest f s).nvm = s.nvm := rfl
@[simp] theorem onManifest_dram (f) (s : State) : (onManifest f s).dram = s.dram := rfl
@[simp] theorem onManifest_dramCorrected (f) (s : State) : (onManifest f s).dramCorrected = s.dramCorrected := rfl
@[simp] theorem onManifest_dramRate (f) (s : State) : (onManifest f s).dramRate = s.dramRate := rfl
@[simp] theorem onManifest_sramCorrected (f) (s : State) : (onManifest f s).sramCorrected = s.sramCorrected := rfl
@[simp] theorem onManifest_free (f) (s : State) : (onManifest f s).free = s.free := rfl
@[simp] theorem onManifest_pending (f) (s : State) : (onManifest f s).pending = s.pending := rfl

@[simp] theorem onShade_variant (f) (s : State) : (onShade f s).variant = s.variant := rfl
@[simp] theorem onShade_aon (f) (s : State) : (onShade f s).aon = s.aon := rfl
@[simp] theorem onShade_power (f) (s : State) : (onShade f s).power = s.power := rfl
@[simp] theorem onShade_units (f) (s : State) : (onShade f s).units = s.units := rfl
@[simp] theorem onShade_scan (f) (s : State) : (onShade f s).scan = s.scan := rfl
@[simp] theorem onShade_leap (f) (s : State) : (onShade f s).leap = s.leap := rfl
@[simp] theorem onShade_almanac (f) (s : State) : (onShade f s).almanac = s.almanac := rfl
@[simp] theorem onShade_dict (f) (s : State) : (onShade f s).dict = s.dict := rfl
@[simp] theorem onShade_access (f) (s : State) : (onShade f s).access = s.access := rfl
@[simp] theorem onShade_fetch (f) (s : State) : (onShade f s).fetch = s.fetch := rfl
@[simp] theorem onShade_warp (f) (s : State) : (onShade f s).warp = s.warp := rfl
@[simp] theorem onShade_manifest (f) (s : State) : (onShade f s).manifest = s.manifest := rfl
@[simp] theorem onShade_shade (f) (s : State) : (onShade f s).shade = f s.shade := rfl
@[simp] theorem onShade_ceiling (f) (s : State) : (onShade f s).ceiling = s.ceiling := rfl
@[simp] theorem onShade_safeBeam (f) (s : State) : (onShade f s).safeBeam = s.safeBeam := rfl
@[simp] theorem onShade_compose (f) (s : State) : (onShade f s).compose = s.compose := rfl
@[simp] theorem onShade_drive (f) (s : State) : (onShade f s).drive = s.drive := rfl
@[simp] theorem onShade_headroom (f) (s : State) : (onShade f s).headroom = s.headroom := rfl
@[simp] theorem onShade_link (f) (s : State) : (onShade f s).link = s.link := rfl
@[simp] theorem onShade_pixels (f) (s : State) : (onShade f s).pixels = s.pixels := rfl
@[simp] theorem onShade_checker (f) (s : State) : (onShade f s).checker = s.checker := rfl
@[simp] theorem onShade_hk (f) (s : State) : (onShade f s).hk = s.hk := rfl
@[simp] theorem onShade_toll (f) (s : State) : (onShade f s).toll = s.toll := rfl
@[simp] theorem onShade_faults (f) (s : State) : (onShade f s).faults = s.faults := rfl
@[simp] theorem onShade_safety (f) (s : State) : (onShade f s).safety = s.safety := rfl
@[simp] theorem onShade_host (f) (s : State) : (onShade f s).host = s.host := rfl
@[simp] theorem onShade_sinks (f) (s : State) : (onShade f s).sinks = s.sinks := rfl
@[simp] theorem onShade_caravan (f) (s : State) : (onShade f s).caravan = s.caravan := rfl
@[simp] theorem onShade_update (f) (s : State) : (onShade f s).update = s.update := rfl
@[simp] theorem onShade_journal (f) (s : State) : (onShade f s).journal = s.journal := rfl
@[simp] theorem onShade_nvm (f) (s : State) : (onShade f s).nvm = s.nvm := rfl
@[simp] theorem onShade_dram (f) (s : State) : (onShade f s).dram = s.dram := rfl
@[simp] theorem onShade_dramCorrected (f) (s : State) : (onShade f s).dramCorrected = s.dramCorrected := rfl
@[simp] theorem onShade_dramRate (f) (s : State) : (onShade f s).dramRate = s.dramRate := rfl
@[simp] theorem onShade_sramCorrected (f) (s : State) : (onShade f s).sramCorrected = s.sramCorrected := rfl
@[simp] theorem onShade_free (f) (s : State) : (onShade f s).free = s.free := rfl
@[simp] theorem onShade_pending (f) (s : State) : (onShade f s).pending = s.pending := rfl

@[simp] theorem onPixels_variant (p) (f) (s : State) : (onPixels p f s).variant = s.variant := rfl
@[simp] theorem onPixels_aon (p) (f) (s : State) : (onPixels p f s).aon = s.aon := rfl
@[simp] theorem onPixels_power (p) (f) (s : State) : (onPixels p f s).power = s.power := rfl
@[simp] theorem onPixels_units (p) (f) (s : State) : (onPixels p f s).units = s.units := rfl
@[simp] theorem onPixels_scan (p) (f) (s : State) : (onPixels p f s).scan = s.scan := rfl
@[simp] theorem onPixels_leap (p) (f) (s : State) : (onPixels p f s).leap = s.leap := rfl
@[simp] theorem onPixels_almanac (p) (f) (s : State) : (onPixels p f s).almanac = s.almanac := rfl
@[simp] theorem onPixels_dict (p) (f) (s : State) : (onPixels p f s).dict = s.dict := rfl
@[simp] theorem onPixels_access (p) (f) (s : State) : (onPixels p f s).access = s.access := rfl
@[simp] theorem onPixels_fetch (p) (f) (s : State) : (onPixels p f s).fetch = s.fetch := rfl
@[simp] theorem onPixels_warp (p) (f) (s : State) : (onPixels p f s).warp = s.warp := rfl
@[simp] theorem onPixels_manifest (p) (f) (s : State) : (onPixels p f s).manifest = s.manifest := rfl
@[simp] theorem onPixels_shade (p) (f) (s : State) : (onPixels p f s).shade = s.shade := rfl
@[simp] theorem onPixels_ceiling (p) (f) (s : State) : (onPixels p f s).ceiling = s.ceiling := rfl
@[simp] theorem onPixels_safeBeam (p) (f) (s : State) : (onPixels p f s).safeBeam = s.safeBeam := rfl
@[simp] theorem onPixels_compose (p) (f) (s : State) : (onPixels p f s).compose = s.compose := rfl
@[simp] theorem onPixels_drive (p) (f) (s : State) : (onPixels p f s).drive = s.drive := rfl
@[simp] theorem onPixels_headroom (p) (f) (s : State) : (onPixels p f s).headroom = s.headroom := rfl
@[simp] theorem onPixels_link (p) (f) (s : State) : (onPixels p f s).link = s.link := rfl
@[simp] theorem onPixels_pixels (p) (f) (s : State) : (onPixels p f s).pixels = s.pixels.modify p f := rfl
@[simp] theorem onPixels_checker (p) (f) (s : State) : (onPixels p f s).checker = s.checker := rfl
@[simp] theorem onPixels_hk (p) (f) (s : State) : (onPixels p f s).hk = s.hk := rfl
@[simp] theorem onPixels_toll (p) (f) (s : State) : (onPixels p f s).toll = s.toll := rfl
@[simp] theorem onPixels_faults (p) (f) (s : State) : (onPixels p f s).faults = s.faults := rfl
@[simp] theorem onPixels_safety (p) (f) (s : State) : (onPixels p f s).safety = s.safety := rfl
@[simp] theorem onPixels_host (p) (f) (s : State) : (onPixels p f s).host = s.host := rfl
@[simp] theorem onPixels_sinks (p) (f) (s : State) : (onPixels p f s).sinks = s.sinks := rfl
@[simp] theorem onPixels_caravan (p) (f) (s : State) : (onPixels p f s).caravan = s.caravan := rfl
@[simp] theorem onPixels_update (p) (f) (s : State) : (onPixels p f s).update = s.update := rfl
@[simp] theorem onPixels_journal (p) (f) (s : State) : (onPixels p f s).journal = s.journal := rfl
@[simp] theorem onPixels_nvm (p) (f) (s : State) : (onPixels p f s).nvm = s.nvm := rfl
@[simp] theorem onPixels_dram (p) (f) (s : State) : (onPixels p f s).dram = s.dram := rfl
@[simp] theorem onPixels_dramCorrected (p) (f) (s : State) : (onPixels p f s).dramCorrected = s.dramCorrected := rfl
@[simp] theorem onPixels_dramRate (p) (f) (s : State) : (onPixels p f s).dramRate = s.dramRate := rfl
@[simp] theorem onPixels_sramCorrected (p) (f) (s : State) : (onPixels p f s).sramCorrected = s.sramCorrected := rfl
@[simp] theorem onPixels_free (p) (f) (s : State) : (onPixels p f s).free = s.free := rfl
@[simp] theorem onPixels_pending (p) (f) (s : State) : (onPixels p f s).pending = s.pending := rfl

@[simp] theorem onPower_variant (f) (s : State) : (onPower f s).variant = s.variant := rfl
@[simp] theorem onPower_aon (f) (s : State) : (onPower f s).aon = s.aon := rfl
@[simp] theorem onPower_power (f) (s : State) : (onPower f s).power = f s.power := rfl
@[simp] theorem onPower_units (f) (s : State) : (onPower f s).units = s.units := rfl
@[simp] theorem onPower_scan (f) (s : State) : (onPower f s).scan = s.scan := rfl
@[simp] theorem onPower_leap (f) (s : State) : (onPower f s).leap = s.leap := rfl
@[simp] theorem onPower_almanac (f) (s : State) : (onPower f s).almanac = s.almanac := rfl
@[simp] theorem onPower_dict (f) (s : State) : (onPower f s).dict = s.dict := rfl
@[simp] theorem onPower_access (f) (s : State) : (onPower f s).access = s.access := rfl
@[simp] theorem onPower_fetch (f) (s : State) : (onPower f s).fetch = s.fetch := rfl
@[simp] theorem onPower_warp (f) (s : State) : (onPower f s).warp = s.warp := rfl
@[simp] theorem onPower_manifest (f) (s : State) : (onPower f s).manifest = s.manifest := rfl
@[simp] theorem onPower_shade (f) (s : State) : (onPower f s).shade = s.shade := rfl
@[simp] theorem onPower_ceiling (f) (s : State) : (onPower f s).ceiling = s.ceiling := rfl
@[simp] theorem onPower_safeBeam (f) (s : State) : (onPower f s).safeBeam = s.safeBeam := rfl
@[simp] theorem onPower_compose (f) (s : State) : (onPower f s).compose = s.compose := rfl
@[simp] theorem onPower_drive (f) (s : State) : (onPower f s).drive = s.drive := rfl
@[simp] theorem onPower_headroom (f) (s : State) : (onPower f s).headroom = s.headroom := rfl
@[simp] theorem onPower_link (f) (s : State) : (onPower f s).link = s.link := rfl
@[simp] theorem onPower_pixels (f) (s : State) : (onPower f s).pixels = s.pixels := rfl
@[simp] theorem onPower_checker (f) (s : State) : (onPower f s).checker = s.checker := rfl
@[simp] theorem onPower_hk (f) (s : State) : (onPower f s).hk = s.hk := rfl
@[simp] theorem onPower_toll (f) (s : State) : (onPower f s).toll = s.toll := rfl
@[simp] theorem onPower_faults (f) (s : State) : (onPower f s).faults = s.faults := rfl
@[simp] theorem onPower_safety (f) (s : State) : (onPower f s).safety = s.safety := rfl
@[simp] theorem onPower_host (f) (s : State) : (onPower f s).host = s.host := rfl
@[simp] theorem onPower_sinks (f) (s : State) : (onPower f s).sinks = s.sinks := rfl
@[simp] theorem onPower_caravan (f) (s : State) : (onPower f s).caravan = s.caravan := rfl
@[simp] theorem onPower_update (f) (s : State) : (onPower f s).update = s.update := rfl
@[simp] theorem onPower_journal (f) (s : State) : (onPower f s).journal = s.journal := rfl
@[simp] theorem onPower_nvm (f) (s : State) : (onPower f s).nvm = s.nvm := rfl
@[simp] theorem onPower_dram (f) (s : State) : (onPower f s).dram = s.dram := rfl
@[simp] theorem onPower_dramCorrected (f) (s : State) : (onPower f s).dramCorrected = s.dramCorrected := rfl
@[simp] theorem onPower_dramRate (f) (s : State) : (onPower f s).dramRate = s.dramRate := rfl
@[simp] theorem onPower_sramCorrected (f) (s : State) : (onPower f s).sramCorrected = s.sramCorrected := rfl
@[simp] theorem onPower_free (f) (s : State) : (onPower f s).free = s.free := rfl
@[simp] theorem onPower_pending (f) (s : State) : (onPower f s).pending = s.pending := rfl

@[simp] theorem onUnits_variant (f) (s : State) : (onUnits f s).variant = s.variant := rfl
@[simp] theorem onUnits_aon (f) (s : State) : (onUnits f s).aon = s.aon := rfl
@[simp] theorem onUnits_power (f) (s : State) : (onUnits f s).power = s.power := rfl
@[simp] theorem onUnits_units (f) (s : State) : (onUnits f s).units = f s.units := rfl
@[simp] theorem onUnits_scan (f) (s : State) : (onUnits f s).scan = s.scan := rfl
@[simp] theorem onUnits_leap (f) (s : State) : (onUnits f s).leap = s.leap := rfl
@[simp] theorem onUnits_almanac (f) (s : State) : (onUnits f s).almanac = s.almanac := rfl
@[simp] theorem onUnits_dict (f) (s : State) : (onUnits f s).dict = s.dict := rfl
@[simp] theorem onUnits_access (f) (s : State) : (onUnits f s).access = s.access := rfl
@[simp] theorem onUnits_fetch (f) (s : State) : (onUnits f s).fetch = s.fetch := rfl
@[simp] theorem onUnits_warp (f) (s : State) : (onUnits f s).warp = s.warp := rfl
@[simp] theorem onUnits_manifest (f) (s : State) : (onUnits f s).manifest = s.manifest := rfl
@[simp] theorem onUnits_shade (f) (s : State) : (onUnits f s).shade = s.shade := rfl
@[simp] theorem onUnits_ceiling (f) (s : State) : (onUnits f s).ceiling = s.ceiling := rfl
@[simp] theorem onUnits_safeBeam (f) (s : State) : (onUnits f s).safeBeam = s.safeBeam := rfl
@[simp] theorem onUnits_compose (f) (s : State) : (onUnits f s).compose = s.compose := rfl
@[simp] theorem onUnits_drive (f) (s : State) : (onUnits f s).drive = s.drive := rfl
@[simp] theorem onUnits_headroom (f) (s : State) : (onUnits f s).headroom = s.headroom := rfl
@[simp] theorem onUnits_link (f) (s : State) : (onUnits f s).link = s.link := rfl
@[simp] theorem onUnits_pixels (f) (s : State) : (onUnits f s).pixels = s.pixels := rfl
@[simp] theorem onUnits_checker (f) (s : State) : (onUnits f s).checker = s.checker := rfl
@[simp] theorem onUnits_hk (f) (s : State) : (onUnits f s).hk = s.hk := rfl
@[simp] theorem onUnits_toll (f) (s : State) : (onUnits f s).toll = s.toll := rfl
@[simp] theorem onUnits_faults (f) (s : State) : (onUnits f s).faults = s.faults := rfl
@[simp] theorem onUnits_safety (f) (s : State) : (onUnits f s).safety = s.safety := rfl
@[simp] theorem onUnits_host (f) (s : State) : (onUnits f s).host = s.host := rfl
@[simp] theorem onUnits_sinks (f) (s : State) : (onUnits f s).sinks = s.sinks := rfl
@[simp] theorem onUnits_caravan (f) (s : State) : (onUnits f s).caravan = s.caravan := rfl
@[simp] theorem onUnits_update (f) (s : State) : (onUnits f s).update = s.update := rfl
@[simp] theorem onUnits_journal (f) (s : State) : (onUnits f s).journal = s.journal := rfl
@[simp] theorem onUnits_nvm (f) (s : State) : (onUnits f s).nvm = s.nvm := rfl
@[simp] theorem onUnits_dram (f) (s : State) : (onUnits f s).dram = s.dram := rfl
@[simp] theorem onUnits_dramCorrected (f) (s : State) : (onUnits f s).dramCorrected = s.dramCorrected := rfl
@[simp] theorem onUnits_dramRate (f) (s : State) : (onUnits f s).dramRate = s.dramRate := rfl
@[simp] theorem onUnits_sramCorrected (f) (s : State) : (onUnits f s).sramCorrected = s.sramCorrected := rfl
@[simp] theorem onUnits_free (f) (s : State) : (onUnits f s).free = s.free := rfl
@[simp] theorem onUnits_pending (f) (s : State) : (onUnits f s).pending = s.pending := rfl

@[simp] theorem onRing_variant (f) (s : State) : (onRing f s).variant = s.variant := rfl
@[simp] theorem onRing_aon (f) (s : State) : (onRing f s).aon = s.aon := rfl
@[simp] theorem onRing_power (f) (s : State) : (onRing f s).power = s.power := rfl
@[simp] theorem onRing_units (f) (s : State) : (onRing f s).units = s.units := rfl
@[simp] theorem onRing_scan (f) (s : State) : (onRing f s).scan = s.scan := rfl
@[simp] theorem onRing_leap (f) (s : State) : (onRing f s).leap = s.leap := rfl
@[simp] theorem onRing_almanac (f) (s : State) : (onRing f s).almanac = s.almanac := rfl
@[simp] theorem onRing_dict (f) (s : State) : (onRing f s).dict = s.dict := rfl
@[simp] theorem onRing_access (f) (s : State) : (onRing f s).access = s.access := rfl
@[simp] theorem onRing_fetch (f) (s : State) : (onRing f s).fetch = s.fetch := rfl
@[simp] theorem onRing_warp (f) (s : State) : (onRing f s).warp = s.warp := rfl
@[simp] theorem onRing_manifest (f) (s : State) : (onRing f s).manifest = s.manifest := rfl
@[simp] theorem onRing_shade (f) (s : State) : (onRing f s).shade = s.shade := rfl
@[simp] theorem onRing_ceiling (f) (s : State) : (onRing f s).ceiling = s.ceiling := rfl
@[simp] theorem onRing_safeBeam (f) (s : State) : (onRing f s).safeBeam = s.safeBeam := rfl
@[simp] theorem onRing_compose (f) (s : State) : (onRing f s).compose = s.compose := rfl
@[simp] theorem onRing_drive (f) (s : State) : (onRing f s).drive = s.drive := rfl
@[simp] theorem onRing_headroom (f) (s : State) : (onRing f s).headroom = s.headroom := rfl
@[simp] theorem onRing_link (f) (s : State) : (onRing f s).link = s.link := rfl
@[simp] theorem onRing_pixels (f) (s : State) : (onRing f s).pixels = s.pixels := rfl
@[simp] theorem onRing_checker (f) (s : State) : (onRing f s).checker = s.checker := rfl
@[simp] theorem onRing_hk (f) (s : State) : (onRing f s).hk = s.hk := rfl
@[simp] theorem onRing_toll (f) (s : State) : (onRing f s).toll = s.toll := rfl
@[simp] theorem onRing_faults (f) (s : State) : (onRing f s).faults = s.faults := rfl
@[simp] theorem onRing_safety (f) (s : State) : (onRing f s).safety = s.safety := rfl
@[simp] theorem onRing_host (f) (s : State) : (onRing f s).host = s.host := rfl
@[simp] theorem onRing_sinks (f) (s : State) : (onRing f s).sinks = s.sinks := rfl
@[simp] theorem onRing_caravan (f) (s : State) : (onRing f s).caravan = f s.caravan := rfl
@[simp] theorem onRing_update (f) (s : State) : (onRing f s).update = s.update := rfl
@[simp] theorem onRing_journal (f) (s : State) : (onRing f s).journal = s.journal := rfl
@[simp] theorem onRing_nvm (f) (s : State) : (onRing f s).nvm = s.nvm := rfl
@[simp] theorem onRing_dram (f) (s : State) : (onRing f s).dram = s.dram := rfl
@[simp] theorem onRing_dramCorrected (f) (s : State) : (onRing f s).dramCorrected = s.dramCorrected := rfl
@[simp] theorem onRing_dramRate (f) (s : State) : (onRing f s).dramRate = s.dramRate := rfl
@[simp] theorem onRing_sramCorrected (f) (s : State) : (onRing f s).sramCorrected = s.sramCorrected := rfl
@[simp] theorem onRing_free (f) (s : State) : (onRing f s).free = s.free := rfl
@[simp] theorem onRing_pending (f) (s : State) : (onRing f s).pending = s.pending := rfl

@[simp] theorem onSink_variant (c) (f) (s : State) : (onSink c f s).variant = s.variant := rfl
@[simp] theorem onSink_aon (c) (f) (s : State) : (onSink c f s).aon = s.aon := rfl
@[simp] theorem onSink_power (c) (f) (s : State) : (onSink c f s).power = s.power := rfl
@[simp] theorem onSink_units (c) (f) (s : State) : (onSink c f s).units = s.units := rfl
@[simp] theorem onSink_scan (c) (f) (s : State) : (onSink c f s).scan = s.scan := rfl
@[simp] theorem onSink_leap (c) (f) (s : State) : (onSink c f s).leap = s.leap := rfl
@[simp] theorem onSink_almanac (c) (f) (s : State) : (onSink c f s).almanac = s.almanac := rfl
@[simp] theorem onSink_dict (c) (f) (s : State) : (onSink c f s).dict = s.dict := rfl
@[simp] theorem onSink_access (c) (f) (s : State) : (onSink c f s).access = s.access := rfl
@[simp] theorem onSink_fetch (c) (f) (s : State) : (onSink c f s).fetch = s.fetch := rfl
@[simp] theorem onSink_warp (c) (f) (s : State) : (onSink c f s).warp = s.warp := rfl
@[simp] theorem onSink_manifest (c) (f) (s : State) : (onSink c f s).manifest = s.manifest := rfl
@[simp] theorem onSink_shade (c) (f) (s : State) : (onSink c f s).shade = s.shade := rfl
@[simp] theorem onSink_ceiling (c) (f) (s : State) : (onSink c f s).ceiling = s.ceiling := rfl
@[simp] theorem onSink_safeBeam (c) (f) (s : State) : (onSink c f s).safeBeam = s.safeBeam := rfl
@[simp] theorem onSink_compose (c) (f) (s : State) : (onSink c f s).compose = s.compose := rfl
@[simp] theorem onSink_drive (c) (f) (s : State) : (onSink c f s).drive = s.drive := rfl
@[simp] theorem onSink_headroom (c) (f) (s : State) : (onSink c f s).headroom = s.headroom := rfl
@[simp] theorem onSink_link (c) (f) (s : State) : (onSink c f s).link = s.link := rfl
@[simp] theorem onSink_pixels (c) (f) (s : State) : (onSink c f s).pixels = s.pixels := rfl
@[simp] theorem onSink_checker (c) (f) (s : State) : (onSink c f s).checker = s.checker := rfl
@[simp] theorem onSink_hk (c) (f) (s : State) : (onSink c f s).hk = s.hk := rfl
@[simp] theorem onSink_toll (c) (f) (s : State) : (onSink c f s).toll = s.toll := rfl
@[simp] theorem onSink_faults (c) (f) (s : State) : (onSink c f s).faults = s.faults := rfl
@[simp] theorem onSink_safety (c) (f) (s : State) : (onSink c f s).safety = s.safety := rfl
@[simp] theorem onSink_host (c) (f) (s : State) : (onSink c f s).host = s.host := rfl
@[simp] theorem onSink_sinks (c) (f) (s : State) :
    (onSink c f s).sinks = { s.sinks with channels := modifyAt f c s.sinks.channels } := rfl
@[simp] theorem onSink_caravan (c) (f) (s : State) : (onSink c f s).caravan = s.caravan := rfl
@[simp] theorem onSink_update (c) (f) (s : State) : (onSink c f s).update = s.update := rfl
@[simp] theorem onSink_journal (c) (f) (s : State) : (onSink c f s).journal = s.journal := rfl
@[simp] theorem onSink_nvm (c) (f) (s : State) : (onSink c f s).nvm = s.nvm := rfl
@[simp] theorem onSink_dram (c) (f) (s : State) : (onSink c f s).dram = s.dram := rfl
@[simp] theorem onSink_dramCorrected (c) (f) (s : State) : (onSink c f s).dramCorrected = s.dramCorrected := rfl
@[simp] theorem onSink_dramRate (c) (f) (s : State) : (onSink c f s).dramRate = s.dramRate := rfl
@[simp] theorem onSink_sramCorrected (c) (f) (s : State) : (onSink c f s).sramCorrected = s.sramCorrected := rfl
@[simp] theorem onSink_free (c) (f) (s : State) : (onSink c f s).free = s.free := rfl
@[simp] theorem onSink_pending (c) (f) (s : State) : (onSink c f s).pending = s.pending := rfl

@[simp] theorem onGroup_variant (g) (f) (s : State) : (onGroup g f s).variant = s.variant := rfl
@[simp] theorem onGroup_aon (g) (f) (s : State) : (onGroup g f s).aon = s.aon := rfl
@[simp] theorem onGroup_power (g) (f) (s : State) : (onGroup g f s).power = s.power := rfl
@[simp] theorem onGroup_units (g) (f) (s : State) : (onGroup g f s).units = s.units := rfl
@[simp] theorem onGroup_scan (g) (f) (s : State) : (onGroup g f s).scan = s.scan := rfl
@[simp] theorem onGroup_leap (g) (f) (s : State) : (onGroup g f s).leap = s.leap := rfl
@[simp] theorem onGroup_almanac (g) (f) (s : State) : (onGroup g f s).almanac = s.almanac := rfl
@[simp] theorem onGroup_dict (g) (f) (s : State) : (onGroup g f s).dict = s.dict := rfl
@[simp] theorem onGroup_access (g) (f) (s : State) : (onGroup g f s).access = s.access := rfl
@[simp] theorem onGroup_fetch (g) (f) (s : State) : (onGroup g f s).fetch = s.fetch := rfl
@[simp] theorem onGroup_warp (g) (f) (s : State) : (onGroup g f s).warp = s.warp := rfl
@[simp] theorem onGroup_manifest (g) (f) (s : State) : (onGroup g f s).manifest = s.manifest := rfl
@[simp] theorem onGroup_shade (g) (f) (s : State) : (onGroup g f s).shade = s.shade := rfl
@[simp] theorem onGroup_ceiling (g) (f) (s : State) : (onGroup g f s).ceiling = s.ceiling := rfl
@[simp] theorem onGroup_safeBeam (g) (f) (s : State) : (onGroup g f s).safeBeam = s.safeBeam := rfl
@[simp] theorem onGroup_compose (g) (f) (s : State) : (onGroup g f s).compose = s.compose := rfl
@[simp] theorem onGroup_drive (g) (f) (s : State) : (onGroup g f s).drive = s.drive := rfl
@[simp] theorem onGroup_headroom (g) (f) (s : State) : (onGroup g f s).headroom = s.headroom := rfl
@[simp] theorem onGroup_link (g) (f) (s : State) : (onGroup g f s).link = s.link := rfl
@[simp] theorem onGroup_pixels (g) (f) (s : State) : (onGroup g f s).pixels = s.pixels := rfl
@[simp] theorem onGroup_checker (g) (f) (s : State) : (onGroup g f s).checker = s.checker := rfl
@[simp] theorem onGroup_hk (g) (f) (s : State) : (onGroup g f s).hk = s.hk := rfl
@[simp] theorem onGroup_toll (g) (f) (s : State) : (onGroup g f s).toll = s.toll := rfl
@[simp] theorem onGroup_faults (g) (f) (s : State) : (onGroup g f s).faults = s.faults := rfl
@[simp] theorem onGroup_safety (g) (f) (s : State) : (onGroup g f s).safety = s.safety := rfl
@[simp] theorem onGroup_host (g) (f) (s : State) : (onGroup g f s).host = s.host := rfl
@[simp] theorem onGroup_sinks (g) (f) (s : State) :
    (onGroup g f s).sinks = { s.sinks with groups := modifyAt f g s.sinks.groups } := rfl
@[simp] theorem onGroup_caravan (g) (f) (s : State) : (onGroup g f s).caravan = s.caravan := rfl
@[simp] theorem onGroup_update (g) (f) (s : State) : (onGroup g f s).update = s.update := rfl
@[simp] theorem onGroup_journal (g) (f) (s : State) : (onGroup g f s).journal = s.journal := rfl
@[simp] theorem onGroup_nvm (g) (f) (s : State) : (onGroup g f s).nvm = s.nvm := rfl
@[simp] theorem onGroup_dram (g) (f) (s : State) : (onGroup g f s).dram = s.dram := rfl
@[simp] theorem onGroup_dramCorrected (g) (f) (s : State) : (onGroup g f s).dramCorrected = s.dramCorrected := rfl
@[simp] theorem onGroup_dramRate (g) (f) (s : State) : (onGroup g f s).dramRate = s.dramRate := rfl
@[simp] theorem onGroup_sramCorrected (g) (f) (s : State) : (onGroup g f s).sramCorrected = s.sramCorrected := rfl
@[simp] theorem onGroup_free (g) (f) (s : State) : (onGroup g f s).free = s.free := rfl
@[simp] theorem onGroup_pending (g) (f) (s : State) : (onGroup g f s).pending = s.pending := rfl

@[simp] theorem onModel_variant (p) (f) (s : State) : (onModel p f s).variant = s.variant := rfl
@[simp] theorem onModel_aon (p) (f) (s : State) : (onModel p f s).aon = s.aon := rfl
@[simp] theorem onModel_power (p) (f) (s : State) : (onModel p f s).power = s.power := rfl
@[simp] theorem onModel_units (p) (f) (s : State) : (onModel p f s).units = s.units := rfl
@[simp] theorem onModel_scan (p) (f) (s : State) : (onModel p f s).scan = s.scan := rfl
@[simp] theorem onModel_leap (p) (f) (s : State) : (onModel p f s).leap = s.leap := rfl
@[simp] theorem onModel_almanac (p) (f) (s : State) : (onModel p f s).almanac = s.almanac := rfl
@[simp] theorem onModel_dict (p) (f) (s : State) : (onModel p f s).dict = s.dict := rfl
@[simp] theorem onModel_access (p) (f) (s : State) : (onModel p f s).access = s.access := rfl
@[simp] theorem onModel_fetch (p) (f) (s : State) : (onModel p f s).fetch = s.fetch := rfl
@[simp] theorem onModel_warp (p) (f) (s : State) : (onModel p f s).warp = s.warp := rfl
@[simp] theorem onModel_manifest (p) (f) (s : State) : (onModel p f s).manifest = s.manifest := rfl
@[simp] theorem onModel_shade (p) (f) (s : State) : (onModel p f s).shade = s.shade := rfl
@[simp] theorem onModel_ceiling (p) (f) (s : State) : (onModel p f s).ceiling = s.ceiling := rfl
@[simp] theorem onModel_safeBeam (p) (f) (s : State) : (onModel p f s).safeBeam = s.safeBeam := rfl
@[simp] theorem onModel_compose (p) (f) (s : State) : (onModel p f s).compose = s.compose := rfl
@[simp] theorem onModel_drive (p) (f) (s : State) : (onModel p f s).drive = s.drive := rfl
@[simp] theorem onModel_headroom (p) (f) (s : State) : (onModel p f s).headroom = s.headroom := rfl
@[simp] theorem onModel_link (p) (f) (s : State) : (onModel p f s).link = s.link := rfl
@[simp] theorem onModel_pixels (p) (f) (s : State) : (onModel p f s).pixels = s.pixels := rfl
@[simp] theorem onModel_checker (p) (f) (s : State) : (onModel p f s).checker = s.checker := rfl
@[simp] theorem onModel_hk (p) (f) (s : State) : (onModel p f s).hk = s.hk := rfl
@[simp] theorem onModel_toll (p) (f) (s : State) :
    (onModel p f s).toll = { s.toll with models := s.toll.models.modify p f } := rfl
@[simp] theorem onModel_faults (p) (f) (s : State) : (onModel p f s).faults = s.faults := rfl
@[simp] theorem onModel_safety (p) (f) (s : State) : (onModel p f s).safety = s.safety := rfl
@[simp] theorem onModel_host (p) (f) (s : State) : (onModel p f s).host = s.host := rfl
@[simp] theorem onModel_sinks (p) (f) (s : State) : (onModel p f s).sinks = s.sinks := rfl
@[simp] theorem onModel_caravan (p) (f) (s : State) : (onModel p f s).caravan = s.caravan := rfl
@[simp] theorem onModel_update (p) (f) (s : State) : (onModel p f s).update = s.update := rfl
@[simp] theorem onModel_journal (p) (f) (s : State) : (onModel p f s).journal = s.journal := rfl
@[simp] theorem onModel_nvm (p) (f) (s : State) : (onModel p f s).nvm = s.nvm := rfl
@[simp] theorem onModel_dram (p) (f) (s : State) : (onModel p f s).dram = s.dram := rfl
@[simp] theorem onModel_dramCorrected (p) (f) (s : State) : (onModel p f s).dramCorrected = s.dramCorrected := rfl
@[simp] theorem onModel_dramRate (p) (f) (s : State) : (onModel p f s).dramRate = s.dramRate := rfl
@[simp] theorem onModel_sramCorrected (p) (f) (s : State) : (onModel p f s).sramCorrected = s.sramCorrected := rfl
@[simp] theorem onModel_free (p) (f) (s : State) : (onModel p f s).free = s.free := rfl
@[simp] theorem onModel_pending (p) (f) (s : State) : (onModel p f s).pending = s.pending := rfl

@[simp] theorem onUpdate_variant (f) (s : State) : (onUpdate f s).variant = s.variant := rfl
@[simp] theorem onUpdate_aon (f) (s : State) : (onUpdate f s).aon = s.aon := rfl
@[simp] theorem onUpdate_power (f) (s : State) : (onUpdate f s).power = s.power := rfl
@[simp] theorem onUpdate_units (f) (s : State) : (onUpdate f s).units = s.units := rfl
@[simp] theorem onUpdate_scan (f) (s : State) : (onUpdate f s).scan = s.scan := rfl
@[simp] theorem onUpdate_leap (f) (s : State) : (onUpdate f s).leap = s.leap := rfl
@[simp] theorem onUpdate_almanac (f) (s : State) : (onUpdate f s).almanac = s.almanac := rfl
@[simp] theorem onUpdate_dict (f) (s : State) : (onUpdate f s).dict = s.dict := rfl
@[simp] theorem onUpdate_access (f) (s : State) : (onUpdate f s).access = s.access := rfl
@[simp] theorem onUpdate_fetch (f) (s : State) : (onUpdate f s).fetch = s.fetch := rfl
@[simp] theorem onUpdate_warp (f) (s : State) : (onUpdate f s).warp = s.warp := rfl
@[simp] theorem onUpdate_manifest (f) (s : State) : (onUpdate f s).manifest = s.manifest := rfl
@[simp] theorem onUpdate_shade (f) (s : State) : (onUpdate f s).shade = s.shade := rfl
@[simp] theorem onUpdate_ceiling (f) (s : State) : (onUpdate f s).ceiling = s.ceiling := rfl
@[simp] theorem onUpdate_safeBeam (f) (s : State) : (onUpdate f s).safeBeam = s.safeBeam := rfl
@[simp] theorem onUpdate_compose (f) (s : State) : (onUpdate f s).compose = s.compose := rfl
@[simp] theorem onUpdate_drive (f) (s : State) : (onUpdate f s).drive = s.drive := rfl
@[simp] theorem onUpdate_headroom (f) (s : State) : (onUpdate f s).headroom = s.headroom := rfl
@[simp] theorem onUpdate_link (f) (s : State) : (onUpdate f s).link = s.link := rfl
@[simp] theorem onUpdate_pixels (f) (s : State) : (onUpdate f s).pixels = s.pixels := rfl
@[simp] theorem onUpdate_checker (f) (s : State) : (onUpdate f s).checker = s.checker := rfl
@[simp] theorem onUpdate_hk (f) (s : State) : (onUpdate f s).hk = s.hk := rfl
@[simp] theorem onUpdate_toll (f) (s : State) : (onUpdate f s).toll = s.toll := rfl
@[simp] theorem onUpdate_faults (f) (s : State) : (onUpdate f s).faults = s.faults := rfl
@[simp] theorem onUpdate_safety (f) (s : State) : (onUpdate f s).safety = s.safety := rfl
@[simp] theorem onUpdate_host (f) (s : State) : (onUpdate f s).host = s.host := rfl
@[simp] theorem onUpdate_sinks (f) (s : State) : (onUpdate f s).sinks = s.sinks := rfl
@[simp] theorem onUpdate_caravan (f) (s : State) : (onUpdate f s).caravan = s.caravan := rfl
@[simp] theorem onUpdate_update (f) (s : State) : (onUpdate f s).update = f s.update := rfl
@[simp] theorem onUpdate_journal (f) (s : State) : (onUpdate f s).journal = s.journal := rfl
@[simp] theorem onUpdate_nvm (f) (s : State) : (onUpdate f s).nvm = s.nvm := rfl
@[simp] theorem onUpdate_dram (f) (s : State) : (onUpdate f s).dram = s.dram := rfl
@[simp] theorem onUpdate_dramCorrected (f) (s : State) : (onUpdate f s).dramCorrected = s.dramCorrected := rfl
@[simp] theorem onUpdate_dramRate (f) (s : State) : (onUpdate f s).dramRate = s.dramRate := rfl
@[simp] theorem onUpdate_sramCorrected (f) (s : State) : (onUpdate f s).sramCorrected = s.sramCorrected := rfl
@[simp] theorem onUpdate_free (f) (s : State) : (onUpdate f s).free = s.free := rfl
@[simp] theorem onUpdate_pending (f) (s : State) : (onUpdate f s).pending = s.pending := rfl

end Sys2Proof.Laws
end

