-- ==== Sys2Proof/Laws/Symbols.lean ====
section
/-!
SUPPORT. Symbols.lean: bytes of a number, and what the receiver reads of a packet that arrived without a code error.
-/

namespace Sys2Proof.Laws

open Sys2Proof Sys2Proof.Machine

theorem leBytes_length : ∀ n v, (leBytes n v).length = n
  | 0, _ => rfl
  | n + 1, v => congrArg Nat.succ (leBytes_length n (v / 256))

theorem leNat_leBytes : ∀ n v, v < 256 ^ n → leNat (leBytes n v) = v
  | 0, v, h => (Nat.lt_one_iff.mp h).symm
  | n + 1, v, h => by
    have d : v / 256 < 256 ^ n := by rw [Nat.pow_succ] at h; omega
    simp only [leBytes, leNat, leNat_leBytes n _ d, BitVec.toNat_ofNat]
    omega

/-- The symbols of bytes sent as data characters. -/
def dataSymbols (bs : List Byte) : List Symbol := bs.map fun b => .char (.data b)

theorem dropMarkers_data : ∀ bs : List Byte, dropMarkers (dataSymbols bs) = dataSymbols bs
  | [] => rfl
  | b :: bs => congrArg (Symbol.char (.data b) :: ·) (dropMarkers_data bs)

theorem dataBytes_data : ∀ bs : List Byte, dataBytes (dataSymbols bs) = bs
  | [] => rfl
  | b :: bs => congrArg (b :: ·) (dataBytes_data bs)

theorem codeErrors_data : ∀ bs : List Byte, (dataSymbols bs).filter isCodeError = []
  | [] => rfl
  | _ :: bs => codeErrors_data bs

/-- A packet as it arrives without a code error and with the CRC of its header and payload (R193). -/
def packetOf (header : BitVec 64) (payload : List Byte) : RxPacket :=
  { symbols := dataSymbols (leBytes 8 header.toNat ++ payload
      ++ leBytes 4 (crc32c (leBytes 8 header.toNat ++ payload))) }

theorem packetOf_bytes (h : BitVec 64) (p : List Byte) : packetBytes (packetOf h p)
    = leBytes 8 h.toNat ++ p ++ leBytes 4 (crc32c (leBytes 8 h.toNat ++ p)) := by
  simp only [packetBytes, packetOf, dropMarkers_data, dataBytes_data]

@[simp] theorem packetOf_header (h : BitVec 64) (p : List Byte) : (packetOf h p).header = h := by
  have e : (packetBytes (packetOf h p)).take 8 = leBytes 8 h.toNat := by
    rw [packetOf_bytes, List.append_assoc, List.take_append_of_le_length (by rw [leBytes_length])]
    exact List.take_of_length_le (by rw [leBytes_length])
  simp only [RxPacket.header, e, leNat_leBytes 8 h.toNat h.isLt, BitVec.ofNat_toNat, BitVec.setWidth_eq]

@[simp] theorem packetOf_payload (h : BitVec 64) (p : List Byte) : (packetOf h p).payload = p := by
  have n : (packetBytes (packetOf h p)).length = p.length + 12 := by
    simp only [packetOf_bytes, List.length_append, leBytes_length]; omega
  simp only [RxPacket.payload, n]
  rw [packetOf_bytes, List.append_assoc, List.drop_append_of_le_length (by rw [leBytes_length]),
    List.drop_of_length_le (by rw [leBytes_length]), List.nil_append]
  simp only [Nat.add_sub_cancel, List.take_left']

@[simp] theorem packetOf_crc (h : BitVec 64) (p : List Byte) :
    (packetOf h p).crc.toNat = crc32c (leBytes 8 h.toNat ++ p) := by
  have n : (packetBytes (packetOf h p)).length - 4 = (leBytes 8 h.toNat ++ p).length := by
    simp only [packetOf_bytes, List.length_append, leBytes_length]; omega
  have c : crc32c (leBytes 8 h.toNat ++ p) < 2 ^ 32 := crc32c_lt _
  simp only [RxPacket.crc, n]
  rw [packetOf_bytes, List.drop_left', leNat_leBytes 4 _ (by simpa using c), BitVec.toNat_ofNat,
    Nat.mod_eq_of_lt c]
  rfl

/-- Such a packet passes the checks of R189 and R193. -/
theorem packetOf_good (h : BitVec 64) (p : List Byte) : packetGood (packetOf h p) = true := by
  have e : (packetOf h p).codeErrors = 0 := by
    simp only [RxPacket.codeErrors, packetOf, codeErrors_data, List.length_nil]
  simp only [packetGood, e, packetOf_header, packetOf_payload, packetOf_crc, beq_self_eq_true, Bool.and_self]

end Sys2Proof.Laws
end

