-- ==== Sys2Proof/WellFormed.lean ====
section
/-!
DEFINITION. WellFormed.lean: what a command's operands may be, as the widths and ranges of the spec bound them.
Lengths and CRCs of what a transport carries are judged by the meanings, because the part itself judges them.
-/

namespace Sys2Proof

/-- Tags of 4 bits on SHP, CAN and the ring (R248, R254, R458), and the record number of an OD_WRITE of at most 255
records (R234). -/
def viaWf : Via → Bool
  | .shp tag => decide (tag < 16)
  | .can _ tag => decide (tag < 16)
  | .sbp => true
  | .uhl record => decide (record < 256)
  | .caravan tag => decide (tag < 16)

/-- The bytes of a packet, 12 more than a PayloadLength of 16 bits can say, and the symbols of the markers among them
(R190, R193, R194). -/
def packetWf (k : RxPacket) : Bool := decide (k.symbols.length ≤ 12 + 65535 + 3 * 65)

/-- Fields of the SHP command word (R248) and of the length after it (R249). -/
def shpWf (f : ShpFrame) : Bool :=
  (f.reserved.all fun n => n == 0 || (decide (6 ≤ n) && decide (n < 16)))
    && decide (f.tag < 16) && decide (f.index < 65536) && decide (f.sub < 256) && decide (f.length < 65536)

/-- Tag and length of a session frame (R481). -/
def svcWf (f : SvcFrame) : Bool := decide (f.tag < 256) && decide (f.payload.length < 65536)

/-- Source, tag and word count of a ring message (R453, R458). -/
def messageWf (m : RingMessage) : Bool :=
  decide (m.source < 8) && decide (m.tag < 16) && decide (m.words.length < 256)

/-- The strap conversions are 12-bit codes (R428, R519). -/
def strapWf (x : StrapCodes) : Bool :=
  decide (x.gnd < 4096) && decide (x.bg < 4096) && decide (x.c1 < 4096) && decide (x.c2 < 4096) && decide (x.c3 < 4096)

/-- A full service load names surfaces, DRAM bytes and pixels of the part (R30, R74, R150, R329). -/
def loadWf (l : ServiceLoad) : Bool :=
  (l.surfaces.all fun x => decide (x.surface < 64))
    && (l.dram.all fun e => decide (e.1 < 4294967296))
    && l.pixels.all fun m => decide (m.pixel < 2097152) && decide (m.status < 7)

/-- Where an uncorrectable SRAM word lies (R27, R146); a surface has at most 128 × 128 source tiles (R75, R114). -/
def regionWf : SramRegion → Bool
  | .outputBuffers _ tile => decide (tile < 512)
  | .layerCaches _ layer tile => decide (layer < 8) && decide (tile < 16384)
  | .pixelMaps _ pixel => decide (pixel < 2097152)
  | .tables => true
  | .cpData => true
  | .safeBeamCopy _ => true

/-- The command's operands are in their ranges. -/
def Instr.wf : Instr → Bool
  | .porAssert => true
  | .porRelease _ => true
  | .resetNAssert => true
  | .resetNRelease _ leap => decide (leap < 2 ^ 40)
  | .optionLoadCommit strap => strapWf strap
  | .domainPowerDownStart _ => true
  | .domainMinOffEnd _ => true
  | .domainPowerUpDone _ leap => decide (leap < 2 ^ 40)
  | .cpBootDone _ => true
  | .smStartChecksDone _ => true
  | .smRebootDone _ => true
  | .lsBootDone _ _ => true
  | .ctrlAckTimeout _ => true
  | .dramTrainingDone => true
  | .fullService load => loadWf load
  | .wakeRecognised leap => decide (leap < 2 ^ 40)
  | .hostVoteWrite via _ => viaWf via
  | .stopEntryTasksDone => true
  | .supplyWarning _ => true
  | .supplyOutOfWindow _ => true
  | .coreSupplyWaitTimeout => true
  | .clockFallback => true
  | .ddbReadRequest _ _ => true
  | .ddbReadResponse _ _ => true
  | .ddbWrite _ _ => true
  | .ddbWriteAcknowledge _ _ => true
  | .ddbWaybill _ _ => true
  | .ddbEvent _ _ => true
  | .ddbNegativeAcknowledge _ _ => true
  | .ddbSilenceTimeout _ => true
  | .eighthBoundary leap _ => decide (leap < 2 ^ 40)
  | .syncOutPulseEnd => true
  | .sampleHkConversionDone raw => decide (raw < 4096)
  | .almanacReloadDone firmware => firmware.all fun e => decide (e.1 < 1024)
  | .almanacOneshotJournalRetry => true
  | .almanacMaskRestart via _ => viaWf via
  | .syncInEdge _ fraction => decide (fraction < 256)
  | .uhlTimeSync lane packet fraction => decide (lane < 4) && packetWf packet && decide (fraction < 256)
  | .referenceHoldover => true
  | .referencePrimaryReturn => true
  | .frameRateWrite via _ => viaWf via
  | .rcMeasureWindow count => decide (count < 2 ^ 32)
  | .leapWrapped => true
  | .tileDecodeDone _ layer tile _ => decide (layer < 8) && decide (tile < 16384)
  | .tileRefetchDone _ layer tile _ => decide (layer < 8) && decide (tile < 16384)
  | .tileLateTimeout _ layer tile => decide (layer < 8) && decide (tile < 16384)
  | .surfacePin via surface => viaWf via && decide (surface < 64)
  | .surfaceUnpin via surface => viaWf via && decide (surface < 64)
  | .pinCopyDone surface => decide (surface < 64)
  | .warpMeshWrite via _ _ => viaWf via
  | .meshInversionDone _ => true
  | .plannerRecomputeDone => true
  | .manifestCommit via _ => viaWf via
  | .manifestRefillDone => true
  | .shadeSwapRequest via _ => viaWf via
  | .stagedBankRefillDone => true
  | .shadeStale => true
  | .compositionModeWrite via _ => viaWf via
  | .zoneRowStagingDone _ zoneRow badCells => decide (zoneRow < 4) && (badCells.all fun j => decide (j < 32))
  | .tileComposed _ row col _ _ => decide (row < 16) && decide (col < 32)
  | .ceilingMapReloadDone => true
  | .scanOutTileCheck _ row col _ _ => decide (row < 16) && decide (col < 32)
  | .frameCompositionDone => true
  | .composerStall => true
  | .composerRestartDone => true
  | .tollComputationDone => true
  | .ageAveragingPeriod => true
  | .ageWriteback => true
  | .fullScaleEstimate _ => true
  | .housekeepingSlot raw ld leap => decide (raw < 4096) && decide (ld.length ≤ 8) && decide (leap < 2 ^ 40)
  | .portSupplyInsufficient _ => true
  | .sensorDisqualify sensor => decide (sensor < 12)
  | .dieShutdownDecision _ => true
  | .dieRestart _ => true
  | .thermalStateFall _ => true
  | .arrayThermalShutdown _ => true
  | .arrayRestart _ => true
  | .referenceDisagreement => true
  | .arraySensorDisqualify _ quadrant => decide (quadrant < 4)
  | .tollModelDivergence _ => true
  | .modelDivergenceClear _ => true
  | .bandStatus _ packet => packetWf packet
  | .vfSample _ packet => packetWf packet
  | .temp _ packet => packetWf packet
  | .ack _ packet => packetWf packet
  | .laneFail _ packet => packetWf packet
  | .holdExpired _ packet => packetWf packet
  | .laneTxFault _ lane => decide (lane < 5)
  | .returnLaneLost _ => true
  | .returnLaneGraceExpiry _ => true
  | .returnReceiverRetrained _ => true
  | .bandStatusMissed _ band => decide (band < 32)
  | .laneRetrain _ lane => decide (lane < 5)
  | .laneRetrainDone _ lane errors => decide (lane < 5) && decide (errors < 2 ^ 32)
  | .lsResumeTimeout _ => true
  | .portFltAssert _ => true
  | .confirmationStepStart _ => true
  | .emitterDisableClear via _ _ => viaWf via
  | .portEchoReenable _ => true
  | .smTileJudged tile _ => decide (tile < 2048)
  | .uhlVideoLine lane packet => decide (lane < 4) && packetWf packet
  | .videoTileRowEncoded stream => decide (stream < 2)
  | .videoPictureComplete stream => decide (stream < 2)
  | .videoStreamBind via stream _ => viaWf via && decide (stream < 2)
  | .uhlShadeList lane packet => decide (lane < 4) && packetWf packet
  | .uhlManifestCommit lane packet => decide (lane < 4) && packetWf packet
  | .uhlOdWrite lane packet => decide (lane < 4) && packetWf packet
  | .odWriteApply => true
  | .hostLaneTrained lane => decide (lane < 4)
  | .hostLaneFail report => decide (report.lane < 4)
  | .hostLaneRetrain lane => decide (lane < 4)
  | .controlLaneChange => true
  | .hostIrqClear via _ => viaWf via
  | .shpRead frame => shpWf frame
  | .shpWrite frame => shpWf frame
  | .shpPoll frame => shpWf frame
  | .shpBurstRead frame => shpWf frame
  | .shpBurstWrite frame => shpWf frame
  | .dictionaryRequestDone _ => true
  | .odObjectWrite via index sub _ => viaWf via && decide (index < 65536) && decide (sub < 256)
  | .canSingleFrame frame => decide (frame.data.length ≤ 64)
  | .canFirstFrame frame => decide (frame.data.length ≤ 64)
  | .canConsecutiveFrame frame => decide (frame.data.length ≤ 64)
  | .canAbortFrame frame => decide (frame.data.length ≤ 64)
  | .canTransferTimeout _ => true
  | .canBusOff _ => true
  | .sbpSetPointer index sub _ => decide (index < 65536) && decide (sub < 256)
  | .sbpWrite index sub _ _ => decide (index < 65536) && decide (sub < 256)
  | .sbpRead => true
  | .sbpFetchDone => true
  | .sbpWakeMatch leap => decide (leap < 2 ^ 40)
  | .hostLinkLoss => true
  | .sessionChallenge via => viaWf via
  | .sessionResponse via _ => viaWf via
  | .sessionClose via _ => viaWf via
  | .sessionIdleTimeout => true
  | .challengeLockoutEnd => true
  | .commissionerKeyWrite via _ => viaWf via
  | .restoreDefaultsCustomer via => viaWf via
  | .restoreDefaultsSafety via => viaWf via
  | .journalRecordCommitted _ _ => true
  | .journalScanDone => true
  | .journalCompactionDone => true
  | .journalBudgetRefill => true
  | .optionBlockImageWrite via _ => viaWf via
  | .optionImageProgrammed => true
  | .blockAck via unit _ => viaWf via && decide (unit < 256)
  | .faultLatchClear via _ => viaWf via
  | .statusMapRowSelect via _ _ => viaWf via
  | .statusMapSnapshotDone _ => true
  | .dramErrorRateWindow corrected => decide (corrected.dram < 2 ^ 32) && decide (corrected.sram < 2 ^ 32)
  | .waybillAckTimeout unit => decide (unit < 256)
  | .escalationExpiry kind _ => decide (kind < 256)
  | .holdSafeBeamTimeout => true
  | .quietPeriodEnd kind unit => decide (kind < 256) && decide (unit < 256)
  | .faultNPulseEnd => true
  | .cpWatchdogExpiry => true
  | .smWatchdogExpiry => true
  | .lsWatchdogExpiry _ => true
  | .dramFailure => true
  | .dramReadTimeout => true
  | .dramRetrainDone => true
  | .sramUncorrectable region => regionWf region
  | .safeBeamCopyDone => true
  | .blackBoxCommitDone _ => true
  | .commitAllowanceRefill => true
  | .beamReqChange _ _ => true
  | .beamReqDiscrepancy => true
  | .discrepancyExit => true
  | .safeOutTest _ _ _ => true
  | .commissioningCheckComputed => true
  | .commissioningCheckConfirm via _ => viaWf via
  | .sinkPeriodBoundary group => decide (group < 4)
  | .sinkOpenProbe channel pin => decide (channel < 48) && decide (pin < 2 ^ 16)
  | .sinkShortTrip trip => decide (trip.channel < 48) && decide (trip.pin < 2 ^ 16)
  | .sinkShortRetry channel pin => decide (channel < 48) && decide (pin < 2 ^ 16)
  | .channelRetryClear via channel _ pin => viaWf via && decide (channel < 48) && decide (pin < 2 ^ 16)
  | .sinkNeighbourTest channel pin => decide (channel < 47) && decide (pin < 2 ^ 16)
  | .sinkHeadroomCycleEnd group => decide (group < 4)
  | .sinkGroupShutdown group => decide (group < 4)
  | .sinkGroupRestart group => decide (group < 4)
  | .caravanFrameSend fraction => decide (fraction < 16)
  | .caravanFrameReceived frame => frame.edges.all fun e => decide (e.1 < e.2)
  | .caravanDictionaryRequest m => messageWf m
  | .caravanDictionaryResponse m => messageWf m
  | .caravanWaybill m => messageWf m
  | .caravanImageStream m => messageWf m
  | .caravanStreamCredit m => messageWf m
  | .caravanAnnounce m => messageWf m
  | .caravanMessageTimeout source => decide (source < 8)
  | .caravanRingBreak => true
  | .caravanTokenLost => true
  | .caravanClosing => true
  | .caravanRelayTimeout => true
  | .caravanVoteRelease => true
  | .svcOpen frame => svcWf frame
  | .slotEraseDone => true
  | .svcWrite frame => svcWf frame
  | .svcFinish frame => svcWf frame
  | .svcActivate frame => svcWf frame
  | .programStoreCopyDone => true
  | .svcStatus frame => svcWf frame
  | .svcClose frame => svcWf frame
  | .svcSetRate frame => svcWf frame
  | .svcRelaySelect frame => svcWf frame
  | .svcIdleTimeout => true
  | .svcEnRise => true
  | .lifeCycleMakerToken via _ => viaWf via
  | .lifeCycleCustomerToken via _ => viaWf via
  | .lifeCycleConsentToken via _ => viaWf via
  | .consentExpiry => true
  | .safeBeamAreaBlockWrite via block _ => viaWf via && decide (block < 8)
  | .safeBeamAreaCommit via _ => viaWf via
  | .safeBeamAreaProgrammed _ => true
  | .ddbIdleFrame _ _ => true
  | .cpInterruptAcknowledge unit => decide (unit < 256)
  | .calibrationStepDone => true
  | .portFltRelease _ => true
  | .svcEnFall => true
  | .caravanSessionIdleTimeout => true
  | .relaySelectTimeout => true

end Sys2Proof
end

