-- ==== Sys2Proof/Tests/Slice0.lean ====
section
/-!
SUPPORT. Tests/Slice0.lean: ill-formed terms that WellFormed refuses, values of the manual's worked examples, and for
every statement with hypotheses a state and operands that meet them.
-/

namespace Sys2Proof.Tests

open Sys2Proof Sys2Proof.Machine Sys2Proof.Laws

set_option maxRecDepth 8000

/-! ## Ill-formed operands are refused (WellFormed) -/

/-- A frame, a message and a packet with one operand out of its range each. -/
def badShp : List ShpFrame :=
  [⟨none, 16, 0, 0, 0, [], none, 0⟩, ⟨none, 0, 65536, 0, 0, [], none, 0⟩, ⟨none, 0, 0, 256, 0, [], none, 0⟩,
    ⟨none, 0, 0, 0, 65536, [], none, 0⟩, ⟨some 5, 0, 0, 0, 0, [], none, 0⟩, ⟨some 16, 0, 0, 0, 0, [], none, 0⟩]

theorem test_wf_refuses_via :
    (([.shp 16, .can .a 16, .uhl 256, .caravan 16] : List Via).all fun v => !Instr.wf (.sessionChallenge v)) = true := by decide

theorem test_wf_refuses_shp : (badShp.all fun f => !Instr.wf (.shpRead f)) = true := by decide

theorem test_wf_refuses_packet (xs : List Symbol) (long : xs.length = 65743) :
    Instr.wf (.temp .a { symbols := xs }) = false := by simp [Instr.wf, packetWf, long]

theorem test_wf_refuses_svc : Instr.wf (.svcClose ⟨.svc, 256, [], 0⟩) = false := by decide

theorem test_wf_refuses_svc_length (bs : List Byte) (long : bs.length = 65536) :
    Instr.wf (.svcWrite ⟨.svc, 0, bs, 0⟩) = false := by simp [Instr.wf, svcWf, long]

theorem test_wf_refuses_message :
    (([⟨8, 0, []⟩, ⟨0, 16, []⟩, ⟨0, 0, List.replicate 256 0⟩] : List RingMessage).all fun m => !Instr.wf (.caravanWaybill m)) = true := by
  decide

theorem test_wf_refuses_strap :
    (([⟨4096, 0, 0, 0, 0⟩, ⟨0, 4096, 0, 0, 0⟩, ⟨0, 0, 4096, 0, 0⟩, ⟨0, 0, 0, 4096, 0⟩, ⟨0, 0, 0, 0, 4096⟩] : List StrapCodes).all
      fun x => !Instr.wf (.optionLoadCommit x)) = true := by decide

theorem test_wf_refuses_load :
    Instr.wf (.fullService { surfaces := [], dram := [(4294967296, 0)], pixels := [] }) = false := by
  decide

theorem test_wf_refuses_region :
    (([.outputBuffers .a 512, .layerCaches .a 8 0, .layerCaches .a 0 16384, .pixelMaps true 2097152] : List SramRegion).all
      fun r => !Instr.wf (.sramUncorrectable r)) = true := by decide

theorem test_wf_refuses_time :
    (([.resetNRelease false (2 ^ 40), .wakeRecognised (2 ^ 40), .eighthBoundary (2 ^ 40) false,
      .sbpWakeMatch (2 ^ 40), .sampleHkConversionDone 4096, .syncInEdge true 256, .rcMeasureWindow (2 ^ 32),
      .housekeepingSlot 4096 [] 0, .dramErrorRateWindow ⟨2 ^ 32, 0⟩, .dramErrorRateWindow ⟨0, 2 ^ 32⟩] : List Instr).all fun c => !Instr.wf c) = true := by decide

theorem test_wf_refuses_picture :
    (([.tileDecodeDone .a 8 0 [], .tileRefetchDone .a 0 16384 [], .tileComposed .a 16 0 false false,
      .scanOutTileCheck .a 0 32 false [], .smTileJudged 2048 [], .tileLateTimeout .a 8 0, .surfacePin .sbp 64,
      .surfaceUnpin .sbp 64, .pinCopyDone 64, .zoneRowStagingDone .a 4 [], .zoneRowStagingDone .a 0 [32],
      .tileLateTimeout .a 0 16384, .videoTileRowEncoded 2,
      .videoStreamBind .sbp 2 []] : List Instr).all fun c => !Instr.wf c) = true := by decide

theorem test_wf_refuses_numbers :
    (([.sensorDisqualify 12, .arraySensorDisqualify .a 4, .laneTxFault .a 5, .bandStatusMissed .a 32, .laneRetrain .a 5,
      .laneRetrainDone .a 5 0, .hostLaneTrained 4, .hostLaneFail ⟨4, 8, 0, 0⟩, .odObjectWrite .sbp 65536 0 [], .odObjectWrite .sbp 0 256 [],
      .sbpSetPointer 65536 0 0, .sbpWrite 0 256 [] 0, .blockAck .sbp 256 ⟨[], 0⟩, .waybillAckTimeout 256, .escalationExpiry 256 .a,
      .quietPeriodEnd 0 256, .cpInterruptAcknowledge 256] : List Instr).all fun c => !Instr.wf c) = true := by decide

theorem test_wf_refuses_sinks_and_ring :
    (([.sinkPeriodBoundary 4, .sinkOpenProbe 48 0, .sinkOpenProbe 0 65536, .sinkShortTrip ⟨48, 0⟩, .sinkNeighbourTest 47 0,
      .sinkGroupShutdown 4, .caravanFrameSend 16, .caravanFrameReceived ⟨[(16, 16)], 0, 0⟩, .caravanMessageTimeout 8,
      .safeBeamAreaBlockWrite .sbp 8 []] : List Instr).all fun c => !Instr.wf c) = true := by decide

theorem test_wf_refuses_can :
    Instr.wf (.canSingleFrame ⟨.a, 0, List.replicate 65 0⟩) = false := by decide

/-! ## Values of the manual -/

/-- The ASCII string "123456789". -/
def nineDigits : List Byte := [0x31, 0x32, 0x33, 0x34, 0x35, 0x36, 0x37, 0x38, 0x39]

/-- R16: the check value of CRC-16. -/
theorem test_crc16_check : crc16 nineDigits = 0x29B1 := by decide

/-- R83: the check value of CRC-32C. -/
theorem test_crc32c_check : crc32c nineDigits = 0xE3069283 := by decide

/-- The example of R248 to R250: a write of LayerGain of L1 and its response. -/
theorem test_shp_frame_check :
    shpBytes 2 ⟨none, 3, 0x3101, 8, 2, [0x40, 0x01], none, 9⟩ = [0x08, 0x01, 0x31, 0x23, 0x02, 0x00, 0x40, 0x01]
      ∧ crc8 (shpBytes 2 ⟨none, 3, 0x3101, 8, 2, [0x40, 0x01], none, 9⟩) = 0xA2
      ∧ shpAnswer ⟨0, 3, []⟩ = [0x00, 0x03, 0x00, 0x00, 0x6C] := by decide

/-- The example of R119: the signed value −350. -/
theorem test_signed_code : ofSigned 16 (-350) = 0xFEA2 := by decide

/-- The example of R199: the header of a ROW packet. -/
theorem test_row_header :
    txHeader 1 false 0x1234 150 0x7 (4 * 2 ^ 7 + 4 * 2 ^ 2) 384 = 0x1012344B3A100180 := by decide

/-- The example of R398 to R401: channel 17 at duty 1,000. -/
theorem test_sink_spread :
    segmentTicks 17 1000 0 = 62 ∧ segmentTicks 17 1000 1 = 63 ∧ isOnTick 17 1000 0 79 = false
      ∧ isOnTick 17 1000 0 80 = true := by decide

/-- The example of R460: a ring of four with 10 CLK_CORE a hop. -/
theorem test_ring_delay : hopDelay 184 4 = 10 ∧ ringLatency 184 4 2 = 68 := by decide

/-- The example of R457 and R458: the start slot of a Waybill from position 2 to the head, and position 3's forwarding. -/
theorem test_ring_slot :
    makeSlot (hopsTo 2 0 4) 2 2 (ringStart 3 0 4) = 0x323004 ∧ forwardData 0x323004 = 0x123004 := by decide

/-- The example of R253: request identifiers of NodeId 3 under CanServiceBase 0x5C. -/
theorem test_can_identifier :
    canId { State.reset with power := { options := { canBase := 0x5C } } } false 3 0x1010 = 0x0B831010
      ∧ canId { State.reset with power := { options := { canBase := 0x5C } } } true 3 0x1010 = 0x0B931010 := by decide

/-- The example of R318: the scale of the Toll falls at once and rises by at most 0x0400. -/
theorem test_scale_moves : moveScale 0x8000 0x7000 = 0x7000 ∧ moveScale 0x7000 0x8000 = 0x7400 := by decide

set_option maxRecDepth 100000 in
/-- The example of R110: a sample of 2,000 in M12 on a curve with entries 14,200 and 14,296 at 890 and 891. -/
theorem test_tone_example :
    tone (14200 * 2 ^ (16 * 890) + 14296 * 2 ^ (16 * 891)) 32007 = 14205 := by decide

/-- R42: the scan position wraps at 4,095. -/
theorem test_position_wraps : (advancePos { pos := 4095 }).pos = 0 := by decide

/-- R30: DRAM reads a byte back and 0 where nothing has been written (log 5). -/
theorem test_memory_byte : memRead 9 (memWrite 9 0xA5 []) = 0xA5 ∧ memWrite 9 0 (memWrite 9 0xA5 []) = [] := by decide


/-- The tile of the example of R85. -/
def exampleTile : List (List Nat) := List.replicate 32 ([40, 42, 42, 43] ++ List.replicate 28 43)

/-- The example of R85 and R239: the payload of tile (5, 2) of surface 9. -/
theorem test_tile_payload :
    (encodePayload 8 exampleTile).2.2.length = 149
      ∧ (encodePayload 8 exampleTile).2.2.take 6 = [0xF0, 0xFF, 0xFF, 0x0F, 0xF5, 0x0C] := by decide +kernel

/-- R188: at negative disparity K28.5 is 0011111010 and D21.5 is 1010101010; K28.5 leaves the disparity positive (IEEE 802.3,
log 10). -/
theorem test_code_groups : encodeCharacter false .idle = (0b0011111010, true)
    ∧ encodeCharacter false (.data 0xB5) = (0b1010101010, false) := by decide

/-- R451, R452: the fixed pattern of a frame in its high times, most significant bit first. -/
theorem test_sync_cells : ((frameCells []).drop 2).map Prod.fst = [12, 12, 4, 12, 4, 4, 12, 12, 12, 4, 4, 12, 4, 12] := by decide

/-! ## States of the witnesses -/

def onState : State := { State.reset with power := { State.reset.power with
  loadRunning := false, safe := .on, core := .on, dram := .on, pix := .on, link := .on, aux := .on, votes := {} } }
def bootState : State := { onState with
  power := { onState.power with options := { bootSource := 0 }, votes := { cp := 0x04 } }
  units := { State.reset.units with cp := .booting, sm := .booting, ls := PerPort.const .booting } }
def readyState : State := { bootState with
  units := { bootState.units with cp := .ready, sm := .ready, ls := PerPort.const .ready, dramFailed := true }
  journal := { bootState.journal with scanned := true }, almanac := { bootState.almanac with ready := true } }
/-- A token of the part without an authenticator: kind, state and target. -/
def bareToken (kind present target : Byte) : List Byte :=
  [0x53, 0x4C, 0x4C, 0x43, kind, present, target, 0] ++ leBytes 8 Config.serialNumber.toNat ++ List.replicate 240 0
/-- The part in a life-cycle state. -/
def livedState (n : Nat) : State := { readyState with nvm := { readyState.nvm with
  life := (List.range 5).map fun i => if i ≤ n then 1 else 0 } }
/-- The part in DEVELOP with a session of a role over SHP. -/
def sessionState (r : Role) : State :=
  { livedState 2 with access := { (livedState 2).access with session := some (r, .shp) } }
/-- An option block image with its CRC. -/
def optionImage : List Byte :=
  [0x5C, 0x0A, 1, 0, 0, 0x5C, 0x2A, 0, 255, 255, 255, 255, 255, 255, 255, 255, 0, 0, 0, 0, 0, 0, 0, 0, 0, 0, 1, 0, 0, 0, 0,
    1, 0, 0, 0, 0, 1, 0, 0, 0, 0, 1, 0] ++ List.replicate 81 0 ++ [152, 103, 238, 169]
/-- A port in service. -/
def servingState : State := { readyState with link := PerPort.const { state := .service, enable := true } }
/-- A device of a ring: its NodeId, CaravanState, closing and position. -/
def ringState (node state : Nat) (closing : Bool) : State := { readyState with
  power := { readyState.power with options := { readyState.power.options with nodeId := node } }
  caravan := { readyState.caravan with enabled := true, state := state, closing := closing, goodFrames := 3, position := if state = 2 ∨ state = 4 then some 1 else none, partials := [⟨2, 3, 0, 4, [5]⟩] } }
/-- The head that relays to NodeId 3 at position 2, with a relayed request and a session over the ring. -/
def relayState : State := { ringState 0 2 false with
  power := { (ringState 0 2 false).power with votes := { cp := 0x04, host := 0x04, caravan := 0x04 } }
  caravan := { (ringState 0 2 false).caravan with nodeMap := [0xFF, 0xFF, 3, 0xFF, 0xFF, 0xFF, 0xFF, 0xFF], relays := [⟨.a, false, 6, 0x1000, 1, 3⟩], banned := [7] }
  update := { State.reset.update with relayTarget := 3, relayBusy := true, relayTag := 4, session := some ⟨.caravan, 0, 320, 0, none⟩ } }
/-- Locked to SYNC_IN, with a control lane and a conversion queued. -/
def syncState : State := { readyState with
  scan := { readyState.scan with
    running := true, ref := { primary := 2 }, active := 2, lock := .acquiring, goodRun := 15, clkTotal := 100 }
  hk := { readyState.hk with queue := [27], ring := List.replicate 16 0, ringNext := 15 }
  host := { readyState.host with lanes := [{ state := 1 }, {}, {}, {}], control := some 0 } }
/-- A TIME_SYNC packet with the CRC of its payload. -/
def timeSync : RxPacket := packetOf (BitVec.ofNat 64 (5 * 2 ^ 60 + 16)) (List.replicate 16 0)
/-- A commissioner session over SHP in FIELD. -/
def fieldSession : State := { livedState 3 with access := { (livedState 3).access with session := some (.commissioner, .shp) } }

/-! ## Witnesses -/

theorem witness_CommandsLeaveQueueAndFuse : ∃ t, exec .leapWrapped State.reset = .next t := ⟨_, rfl⟩

theorem witness_ResetAssertionHoldsThePart :
    inReset { State.reset with power := { State.reset.power with por := false, resetPin := false } } = false
      ∧ inReset { State.reset with power := { State.reset.power with por := true, resetPin := false } } = true := by
  decide

theorem witness_ResetReleasesFollowTheirOrder (por pin first : Bool) :
    ∃ s : State, s.power.por = por ∧ s.power.resetPin = pin ∧ s.power.firstPor = first :=
  ⟨{ State.reset with power := { State.reset.power with por := por, resetPin := pin, firstPor := first } }, rfl, rfl, rfl⟩

theorem witness_DomainsFollowTheVotes :
    (inReset State.reset = false ∧ State.reset.power.loadRunning = true)
      ∧ (isOn onState .link = true ∧ heldByVote onState.power.votes .link = false ∧ inReset onState = false)
      ∧ domainState (setDomain .dram .minOff onState) .dram = .minOff
      ∧ (domainState (setDomain .core .rising onState) .core = .rising ∧ (∀ e ∈ dependsOn .core, isOn onState e = true)
          ∧ (∀ e ∈ dependants .link, domainState onState e ≠ .on) ∧ coreSupplied (setDomain .core .rising onState) = true)
      ∧ coreSupplied { onState with power := { onState.power with supplies := [] } } = true := by
  decide

theorem witness_ProcessorsBootAndRestart :
    (inReset bootState = false ∧ isOn bootState .core = true ∧ bootState.units.cp = .booting
      ∧ bootState.power.votes.cp &&& allDomains ≠ 0 ∧ bootState.update.activation ≠ 3
      ∧ isOn bootState .safe = true ∧ bootState.units.sm = .booting ∧ bootState.units.smRebooting = false
      ∧ isOn bootState .link = true ∧ bootState.units.ls.get .d = .booting ∧ isActivated bootState .d = false)
    ∧ (cpReady { bootState with units := { bootState.units with cp := .ready, sm := .ready, ls := PerPort.const .ready } } = true) := by
  decide

theorem witness_MemoryFailuresAndFullService :
    isOn readyState .dram = true ∧ readyState.units.cp ≠ .off ∧ readyState.units.dramFailed = true
      ∧ kindActive readyState 0x27 = false ∧ cpReady readyState = true ∧ isOn readyState .pix = true
      ∧ readyState.units.cpRecoveryBoot = false ∧ readyState.journal.scanned = true
      ∧ readyState.almanac.ready = true ∧ readyState.power.fullService = false
      ∧ readyState.power.votes.cp &&& allDomains ≠ 0 := by
  decide

theorem witness_RefusedWritesHaveNoEffect :
    cpReady State.reset = false
      ∧ (cpReady readyState = true ∧ judgeRequest readyState (.shp 1) 0x1000 0xFE [] ≠ 0x00)
      ∧ objectAt 0x1000 0xFE = none
      ∧ (∃ o, objectAt 0x8100 0x01 = some o) := by
  refine ⟨by decide, by decide, by decide, _, rfl⟩

theorem witness_ControlWritesTakeEffect :
    cpReady readyState = true
      ∧ judgeRequest readyState (.shp 1) 0x8000 1 [0x7C] = 0
      ∧ judgeRequest readyState (.shp 1) 0x1300 3 [0xFF, 0, 0, 0] = 0
      ∧ judgeRequest readyState (.shp 1) 0xA000 6 [1] = 0
      ∧ judgeRequest readyState (.shp 1) 0x3000 1 [1] = 0
      ∧ judgeRequest readyState (.shp 1) 0x343F 0x0A [1] = 0
      ∧ judgeRequest readyState (.shp 1) 0x343F 0x0A [0] = 0
      ∧ judgeRequest readyState (.shp 1) 0xB103 0x20 [0xFF, 1] = 0
      ∧ judgeRequest { readyState with shade := { readyState.shade with source := 1, written := true } } (.shp 1) 0x3300 3 [1] = 0 := by
  exact by decide

theorem witness_SessionsOpenAndClose :
    cpReady readyState = true
      ∧ (∃ o, objectAt 0x1010 1 = some o ∧ judgeRead readyState (.can .b 15) 0x1010 1 o = 0)
      ∧ judgeRequest readyState (.shp 255) 0x1010 2 (1 :: List.replicate 19 0) = 0
      ∧ roleOf (leNat [(1 : Byte)]) = some .commissioner ∧ roleOf (leNat [(3 : Byte)]) = none
      ∧ judgeRequest readyState (.shp 0) 0x1010 5 [1] = 0
      ∧ judgeRequest { readyState with access := { readyState.access with session := some (.commissioner, .shp) } }
          (.shp 0) 0x1010 8 (List.replicate 32 1) = 0 := by
  refine ⟨by decide, ⟨_, rfl, by decide⟩, by decide⟩

theorem leNat_leBytes8 (x : Nat) (h : x < 2 ^ 64) : leNat (leBytes 8 x) = x := by
  simp only [leBytes, leNat, BitVec.toNat_ofNat]
  omega
theorem witness_LifeCycleTokensAct :
    (cpReady (livedState 3) = true ∧ judgeRequest (livedState 3) (.shp 1) 0x9000 2 (bareToken 3 3 4) = 0
      ∧ tokenShape (livedState 3) (bareToken 3 3 4) = true ∧ tokenShape (livedState 3) (bareToken 3 2 4) = false)
    ∧ (judgeRequest (livedState 1) (.shp 1) 0x9000 2 (bareToken 1 1 2) = 0
      ∧ tokenShape (livedState 1) (bareToken 1 1 2) = true)
    ∧ (judgeRequest (livedState 1) (.shp 1) 0x9000 2 (bareToken 1 1 3) = 0
      ∧ tokenShape (livedState 1) (bareToken 1 1 3) = true)
    ∧ (judgeRequest (livedState 3) (.shp 1) 0x9000 2 (bareToken 1 3 4) = 0
      ∧ tokenShape (livedState 3) (bareToken 1 3 4) = true ∧ (livedState 3).journal.compacting = false)
    ∧ (judgeRequest (livedState 2) (.shp 1) 0x9000 2 (bareToken 2 2 3) = 0
      ∧ tokenShape (livedState 2) (bareToken 2 2 3) = true) := by
  have f : ∀ k p t, field (bareToken k p t) 8 8 = Config.serialNumber.toNat := fun k p t =>
    leNat_leBytes8 _ Config.serialNumber.isLt
  have shape : ∀ s k (p t : Byte), p.toNat = lifeState s → tokenShape s (bareToken k p t) = true := fun s k p t h => by
    have b : field (bareToken k p t) 5 1 = p.toNat := by
      show p.toNat + 256 * 0 = p.toNat
      omega
    unfold tokenShape
    rw [f, b, h, show (bareToken k p t).take 4 = [0x53, 0x4C, 0x4C, 0x43] from rfl,
      show allZero (bareToken k p t) 7 1 = true from rfl, show allZero (bareToken k p t) 16 48 = true from rfl,
      show allZero (bareToken k p t) 144 112 = true from rfl]
    simp
  refine ⟨⟨by decide, rfl, shape _ _ _ _ (by decide), by decide⟩, ⟨rfl, shape _ _ _ _ (by decide)⟩, ⟨rfl, shape _ _ _ _ (by decide)⟩, ⟨rfl, shape _ _ _ _ (by decide), by decide⟩, ⟨rfl, shape _ _ _ _ (by decide)⟩⟩

theorem witness_FaultAndSafetyWritesTakeEffect :
    cpReady readyState = true
      ∧ judgeRequest readyState (.shp 1) 0x7301 (0x1D % 256) [0xFF, 0xFF, 0, 0] = 0
      ∧ judgeRequest { readyState with aon := { readyState.aon with recoveries := [{ kind := 0x17, latched := true }] } }
          (.shp 1) 0x7502 1 [0x17] = 0
      ∧ (∃ s, judgeRequest s (.shp 1) 0x7502 1 [0x49] = 0 ∧ cpReady s = true ∧ isLatched s 0x49 = true
          ∧ kindActive s 0x49 = true ∧ kindActive (clearLatch 0x49 s) 0x49 = false)
      ∧ judgeRequest { livedState 2 with access := { (livedState 2).access with session := some (.commissioner, .shp) } }
          (.shp 1) 0xB103 0x24 [1] = 0
      ∧ judgeRequest readyState (.shp 1) 0x512F 8 [1] = 0
      ∧ judgeRequest { livedState 2 with access := { (livedState 2).access with session := some (.commissioner, .shp) } }
          (.shp 1) 0x9040 7 (List.replicate 8192 0) = 0
      ∧ judgeRequest { livedState 2 with access := { (livedState 2).access with session := some (.commissioner, .shp) } }
          (.shp 1) 0x9040 8 [0, 0, 0, 0] = 0
      ∧ cpReady (livedState 2) = true := by
  have block : ∀ s : State, isFused s 0x9040 = false → unitBusy s 0x9040 7 = false →
      (∀ o, objectAt 0x9040 7 = some o → writeAllowed s (.shp 1) o 0x9040 7 = true) →
      (∀ v, judgeValue s 0x9040 7 v = 0) → ∀ d : List Byte, d.length = 8192 →
      judgeRequest s (.shp 1) 0x9040 7 d = 0 := fun s a b c e d h => by
    have o : ∃ o, objectAt 0x9040 7 = some o ∧ o.size = 8192 ∧ ∀ v, inRange o.range o.size v = true :=
      ⟨_, rfl, rfl, fun _ => rfl⟩
    obtain ⟨o, ho, size, range⟩ := o
    have hs : d.length = o.size := h.trans size.symm
    simp only [judgeRequest, ho, a, b, c o ho, hs, e, range, ne_eq, not_true_eq_false, if_false, Bool.not_true, Bool.false_eq_true]
  refine ⟨by decide, by decide, by decide, ⟨{ readyState with
    aon := { readyState.aon with recoveries := [{ kind := 0x49, latched := true }] }
    faults := { readyState.faults with active := [{ kind := 0x49, unit := 0x1A, waybill := 0, absent := true }] } }, by decide⟩,
    by decide, by decide, ?_, by decide⟩
  exact block _ (by decide) (by decide) (fun o h => by cases h; decide) (fun _ => rfl) _ List.length_replicate

theorem witness_JournalledWritesWaitForTheirRecord :
    cpReady readyState = true ∧ judgeRequest readyState (.shp 1) 0x8100 1 [3] = 0
      ∧ judgeRequest readyState (.shp 1) 0x3000 5 [0] = 0
      ∧ judgeRequest readyState (.shp 1) 0x1211 1 [0xFF] = 0
      ∧ judgeRequest readyState (.shp 1) 0x1020 1 [0x01, 0x00, 0xF0, 0xDE] = 0
      ∧ judgeRequest (sessionState .commissioner) (.shp 1) 0x1020 1 [0x02, 0x00, 0xF0, 0xDE] = 0
      ∧ inSession (sessionState .commissioner) (.shp 1) .commissioner = true
      ∧ inSession readyState (.shp 1) .commissioner = false
      ∧ judgeRequest { sessionState .commissioner with safety := { readyState.safety with computed := 7 } }
          (.shp 1) 0x7000 2 [7, 0, 0, 0] = 0 := by
  exact by decide
set_option maxRecDepth 100000 in
theorem witness_JournalledMesh : judgeRequest readyState (.shp 1) 0x2103 1 (leBytes 4488 identityMesh) = 0 := by decide
set_option maxRecDepth 100000 in
theorem witness_JournalledOptions : judgeRequest (sessionState .maker) (.shp 1) 0x9030 1 optionImage = 0 := by decide

def queuedState : State := { readyState with journal := { readyState.journal with
  queue := [⟨0x1010, 7, 1, 1, 1, none⟩] } }
theorem witness_JournalCommandsProgramNvm :
    (inReset queuedState = false ∧ isOn queuedState .safe = true ∧ queuedState.journal.scanned = true
      ∧ queuedState.journal.compacting = false ∧ queuedState.dict.values.Pairwise (fun a b => a.1 < b.1))
      ∧ (∃ w ∈ queuedState.journal.queue, liveWith queuedState [w] ≤ liveBound)
      ∧ relationsKept (setCfg 0x1010 7 1 { queuedState with journal := { queuedState.journal with queue := [] } }) 0x1010 7 = true
      ∧ relationsKept (setCfg 0x4303 2 0xFFFF readyState) 0x4303 2 = false
      ∧ (bootState.journal.scanned = false ∧ isOn bootState .safe = true ∧ ∀ x ∈ bootState.nvm.life, x ≠ 2)
      ∧ (bootState.access.returnDue = false ∧ bootState.journal.active ≤ 1) := by
  decide

def stoppedState : State := { State.reset with
  power := { State.reset.power with loadRunning := false, safe := .off, votes := {} }
  dict := { State.reset.dict with values := [] } }
theorem witness_WakeAndStopFollowTheVotes :
    (inReset stoppedState = false ∧ inStop stoppedState = true)
      ∧ (∃ v, cfg { stoppedState with dict := { stoppedState.dict with values := v } } 0x8000 7 = 1
          ∧ cfg { stoppedState with dict := { stoppedState.dict with values := v } } 0x1400 3 = 1)
      ∧ (∃ v, cfg { stoppedState with dict := { stoppedState.dict with values := v } } 0x8000 7 ≠ 1)
      ∧ matchesSbp readyState = false
      ∧ (cpVotesAlone { cp := 4 } = true ∧ cpVotesAlone { host := 0x40 } = false ∧ readyState.journal.queue = []
        ∧ cpReady readyState = true) := by
  refine ⟨by decide, ⟨[(objKey 0x1400 3, 1), (objKey 0x8000 7, 1)], by decide⟩, ⟨[(objKey 0x8000 7, 0)], by decide⟩, by decide⟩

def supplyState : State := { readyState with power := { readyState.power with
  supplies := [{ beyond := 2 }, {}, {}, {}, {}, { beyond := 2 }] } }
def bootOff : State := { supplyState with power := { supplyState.power with core := .off } }
theorem witness_SuppliesAndDiesForceOff :
    (inReset supplyState = false ∧ isOn supplyState .safe = true
      ∧ (supplyOf supplyState 0).beyond ≥ 2 ∧ (supplyOf supplyState 5).beyond ≥ 2
      ∧ (supplyOf supplyState 0).warning = false ∧ isOn supplyState .dram = true ∧ isOn supplyState .core = true
      ∧ (List.range 6).all (fun k => !coreWaits supplyState k) = true ∧ coreWaits bootOff (supplyNum .vddCore) = true)
      ∧ (∃ s, domainState s .core = .rising ∧ coreSupplied s = false ∧ s.power.coreWaitFault = false)
      ∧ (∃ s : State, inReset s = false ∧ isOn s .safe = true ∧ 1 < s.hk.thermal.length
          ∧ nth .normal s.hk.thermal 1 ≠ .shutdown ∧ nth 0 s.hk.hot 1 ≥ 2)
      ∧ (∃ s : State, inReset s = false ∧ nth .normal s.hk.thermal 0 = .shutdown ∧ nth 0 s.hk.cool 0 ≥ 2
          ∧ isLatched s 0x2F = false ∧ isEighthRecovery (nowUs s) (recoveryOf s 0x2F).times = false
          ∧ s.aon.ldShutdown = true) := by
  refine ⟨by decide, ⟨{ supplyState with power := { supplyState.power with core := .rising, supplies := [{}, { low := true, inside := 0 }] } }, by decide⟩,
    ⟨{ supplyState with hk := { supplyState.hk with hot := [0, 2] } }, by decide⟩,
    ⟨{ supplyState with
        hk := { supplyState.hk with cool := [2, 0], thermal := [.shutdown, .normal] }
        aon := { supplyState.aon with ldShutdown := true } }, by decide⟩⟩

def faultState : State := { readyState with
  faults := { readyState.faults with
    active := [{ kind := 0x26, unit := 0x10, port := 7, waybill := 0, since := 0, timing := true },
      { kind := 0x40, unit := 0x19, port := 7, waybill := 0, since := 0, absent := true },
      { kind := 0x3E, unit := 0x18, port := 7, waybill := 0, since := 0 }],
    safeState := .hold, unacked := [⟨0x09, 0x0F, 0⟩] },
  journal := { readyState.journal with commit := some 0 },
  pixels := readyState.pixels.modify .d fun x => { x with pendingRow := some 511 } }
theorem witness_FaultTimersAndAcknowledgements :
    (∃ r rest, unackedOf faultState 0x09 = r :: rest) ∧ cpReady faultState = true
      ∧ (∃ a, (faultState.faults.active.find? fun b => b.kind == 0x26 && b.timing) = some a)
      ∧ faultState.faults.safeState = .hold ∧ faultState.faults.holdDone = false
      ∧ (∃ a, (faultState.faults.active.find? fun b => b.kind == 0x40 && b.unit == 0x19) = some a
          ∧ a.kind = 0x40 ∧ a.unit = 0x19 ∧ a.absent = true) ∧ (kindRow 0x40).exit = .quiet ∧ isLatched faultState 0x40 = false
      ∧ (isEighthRecovery 0 [0, 0, 0, 0, 0, 0, 0] = true ∧ isEighthRecovery 600000001 [0, 0, 0, 0, 0, 0, 0] = false)
      ∧ (∃ a, (faultState.faults.active.find? fun b => b.kind == 0x3E && b.unit == 0x18) = some a)
      ∧ isLatched faultState 0x3E = false ∧ isOn faultState .dram = true
      ∧ (faultState.pixels.get .d).pendingRow = some 511 ∧ faultState.journal.commit = some 0
      ∧ isOn faultState .safe = true := by
  refine ⟨⟨_, _, rfl⟩, by decide, ⟨_, rfl⟩, by decide, by decide, ⟨_, rfl, by decide⟩, by decide, by decide, by decide, ⟨_, rfl⟩, by decide⟩

def safeState : State := { readyState with
  safety := { readyState.safety with state := 1, startPassed := true }, ceiling := { readyState.ceiling with source := 0 },
  safeBeam := { readyState.safeBeam with valid := true, copying := true }, scan := { readyState.scan with running := true },
  link := PerPort.const { safeContent := true } }
theorem witness_SafetyCommandsActOnTheBeam :
    (inReset safeState = false ∧ isOn safeState .safe = true
      ∧ beamReading { safeState with safety := { safeState.safety with reqA := true, reqB := true } } = none
      ∧ kindActive safeState 0x3D = false ∧ outputDemanded safeState = true ∧ kindActive safeState 0x3E = false
      ∧ safeState.journal.scanned = true ∧ safeState.safeBeam.copying = true
      ∧ isOn safeState .link = true ∧ safeState.units.sm = .ready ∧ sampledFrame safeState (Port.ofNum (1560 / 512)) 1560 = some 0
      ∧ 1560 ∉ safeState.checker.judged ∧ safeState.power.votes.sm = 0)
    ∧ (∃ s r, beamReading s = some r ∧ isActive s 0x3D 0x18 = true)
    ∧ (∃ x, forwarded safeState 0 (Port.ofNum (1560 / 512)) (1560 % 512) [] = some x) :=
  ⟨by decide, ⟨{ safeState with
      safety := { safeState.safety with reqA := true, reqB := false },
      faults := { safeState.faults with active := [{ kind := 0x3D, unit := 0x18, port := 7, waybill := 0, since := 0 }] } },
    true, by decide⟩, ⟨_, rfl⟩⟩

theorem witness_EighthBoundaryAdvancesTheScan :
    (inReset readyState = false ∧ isOn readyState .link = true ∧ isOn readyState .pix = true ∧ isOn readyState .core = true
      ∧ readyState.scan.running = false ∧ readyState.caravan.adopt = none ∧ readyState.power.votes.cp &&& allDomains ≠ 0)
    ∧ ({ readyState.scan with running := true, pos := 4094 }.pos ≠ 4095 ∧ { readyState.scan with running := true, pos := 4095 }.pos = 4095)
    ∧ isOn State.reset .core = false := by
  decide

theorem witness_AlmanacAndReferenceCommands :
    (∃ s : State, s.almanac.pulse = some 0) ∧ syncState.hk.queue = [27] ∧ syncState.hk.ring.length = 16
      ∧ syncState.hk.ringNext < 16 ∧ cpReady syncState = true ∧ isOn syncState .pix = true
      ∧ judgeWrite syncState ⟨0xA100 + 895 / 256, 895 % 256, 1, 12,
          (disabledEntry (BitVec.ofNat 96 (cfg syncState (0xA100 + 895 / 256) (895 % 256)))).toNat, none⟩ = .taken
      ∧ syncState.journal.queue = []
      ∧ edgeSelected syncState.scan.ref.edge true = true ∧ takesSource syncState.scan 2 = true
      ∧ tooEarly syncState.scan (eventClock syncState.scan 255) = false
      ∧ tooEarly { syncState.scan with lastEvent := some 0, ref := { primary := 2, frames := 1000 } } 100 = true
      ∧ inStop { State.reset with power := { State.reset.power with safe := .off, votes := {} } } = true
      ∧ isOn syncState .link = true ∧ onControlLane syncState 0 timeSync = true ∧ syncState.host.queue = []
      ∧ recordsWait syncState = false ∧ uhlGood timeSync 5 24 = true ∧ (hostLane syncState 0).lastSeq = none := by
  refine ⟨⟨{ State.reset with almanac := { pulse := some 0 } }, rfl⟩, by decide⟩

def fetchState : State :=
  let s0 := setCfg 0x3400 5 1 (setCfg 0x3400 3 32 (setCfg 0x3400 2 32 (setCfg 0x3400 1 3 readyState)))
  { s0 with
    units := { s0.units with dramFailed := false, dramTrained := true }
    compose := { s0.compose with busy := true, manifest := [(objKey 0x3100 1, 0)] }
    fetch := { s0.fetch with pins := [{ surface := 5, state := 1 }, { surface := 6, state := 2, bytes := 2097152 }] }
    warp := s0.warp.modify .d fun w => { w with inverting := true } }
theorem fetchState_uses_tile (s : State) (h : s = fetchState ∨ s = putTile .a 0 0 0 .failedOnce fetchState) :
    readingSurface s .a 0 0 = some 0 := by
  have hu : tileUsed s s.compose.manifest 0 .a 0 = true := by
    rcases h with rfl | rfl <;>
      exact tileUsed_of_sample (row := 0) (col := 0) (0, 0) (0, 0) (by decide) (by decide) (by decide)
        (List.mem_flatMap.2 ⟨0, by decide⟩) (by decide) (by decide)
  have hs : layerSurface s s.compose.manifest 0 = some 0 := by rcases h with rfl | rfl <;> decide
  have hf : (fetchable s 0 && decide (0 < tileCount s 0)) = true := by rcases h with rfl | rfl <;> decide
  simp only [readingSurface, hs, hf, hu, Bool.and_self, if_true]
theorem witness_SourceTilesAndPinsAreJudged :
    (∃ s f, s.compose.busy = true ∧ s.compose.older = none ∧ readingSurface s .a 0 0 = some f
      ∧ storedTile s .a 0 f 0 = none ∧ pinState s 5 = 1 ∧ pinTiles s 5 = some [] ∧ dramReadable s = true
      ∧ otherPinnedBytes s 5 + pinSize [] = 2097152 ∧ (s.warp.get .d).inverting = true ∧ isOn s .pix = true)
    ∧ (∃ s f, s.compose.busy = true ∧ s.compose.older = none ∧ readingSurface s .a 0 0 = some f
      ∧ storedTile s .a 0 f 0 = some .failedOnce)
    ∧ (∃ s : State, pinState s 5 = 1 ∧ dramReadable s = false ∧ pinTiles s 5 = some []
      ∧ otherPinnedBytes s 5 + pinSize [] = 2097153) :=
  ⟨⟨fetchState, 0, by decide, by decide, fetchState_uses_tile _ (.inl rfl), by decide⟩,
    ⟨_, 0, by decide, by decide, fetchState_uses_tile _ (.inr rfl), by decide⟩,
    ⟨{ readyState with fetch := { readyState.fetch with
      pins := [{ surface := 5, state := 1 }, { surface := 6, state := 2, bytes := 2097153 }] } }, by decide⟩⟩

theorem witness_ManifestShadeAndComposerCommands :
    (∃ s : State, s.manifest.refilling = true ∧ s.shade.refilling = true ∧ s.shade.waiting = some []
      ∧ isOn s .pix = true ∧ s.shade.armed = true ∧ s.shade.stale = false ∧ cfg s 0x3300 2 < shadeAge s
      ∧ reloadDue s = true ∧ cpReady s = true ∧ s.ceiling.bad.any (·.overdue) = true
      ∧ isLatched s 0x0D = false ∧ s.compose.busy = true ∧ s.units.composerRestart = false)
    ∧ (∃ s : State, s.units.composerRestart = true ∧ s.shade.refilling = true ∧ s.shade.waiting = none
      ∧ reloadDue s = true ∧ cpReady s = true ∧ s.ceiling.bad.any (·.overdue) = false) :=
  ⟨⟨{ readyState with
      manifest := { readyState.manifest with refilling := true }
      shade := { readyState.shade with refilling := true, waiting := some [], armed := true }
      ceiling := { readyState.ceiling with bad := [{ part := .row .a 31, overdue := true }] }
      scan := { readyState.scan with dt := 101000 }
      compose := { readyState.compose with busy := true } }, by decide⟩,
    ⟨{ readyState with
      units := { readyState.units with composerRestart := true }
      shade := { readyState.shade with refilling := true }
      ceiling := { readyState.ceiling with bad := [{ part := .table }] } }, by decide⟩⟩

/-- Buffered mode: the last zone row of port D is still to be staged, the next frame is due, and one tile is staged. -/
def composeState : State := { readyState with
  manifest := { readyState.manifest with safeUntilCommit := false, commitSeen := true }
  compose := { readyState.compose with
    busy := true, due := true, racing := false, stagedRows := { a := 4, b := 4, c := 4, d := 3 }
    staged := [{ frame := 0, port := .d, tile := 511, held := true, levels := [], classes := [] }] } }
/-- The last band of a frame in racing mode, in which one half-tile is open. -/
def racingState : State := { composeState with
  compose := { composeState.compose with
    racing := true, band := 31
    out := [Port.a, .b, .c, .d].flatMap fun p => (List.range (if p = .d then 31 else 32)).map fun c =>
      { frame := 0, port := p, tile := 480 + c, lower := true, duties := [], code := 0, n := 0, words := [] } } }
theorem witness_CompositionFillsTheFrame :
    (composing composeState .d = true ∧ composeState.compose.busy = true ∧ composeState.compose.racing = false
      ∧ composeState.compose.older = none ∧ composeState.compose.due = true ∧ composeState.compose.stagedRows.get .d = 3
      ∧ (∀ q ∈ canvasPorts composeState, q ≠ .d → composeState.compose.stagedRows.get q = 4)
      ∧ isComposed composeState .d (15 * 32 + 31) false = false
      ∧ (composeState.compose.staged.find? fun y => y.port == .d && y.tile == 15 * 32 + 31).isSome = true
      ∧ isOn composeState .link = true ∧ hasPort composeState .d = true ∧ isOn composeState .pix = true)
    ∧ (composing racingState .d = true ∧ racingState.compose.racing = true ∧ racingState.compose.older = none
      ∧ racingState.compose.band = 2 * 15 + 1 ∧ (openHalves racingState).head? = some (.d, 31)) := by
  exact by decide

theorem witness_TheComposersCommandsComplete :
    ∃ s : State, composing s .d = true ∧ s.compose.busy = true ∧ s.compose.racing = false ∧ s.compose.stagedRows.get .d = 3
      ∧ s.compose.due = false ∧ s.compose.older = none
      ∧ (s.compose.staged.find? fun y => y.port == .d && y.tile == 15 * 32 + 31).isSome = true
      ∧ isOn s .link = true ∧ hasPort s .d = true ∧ isOn s .pix = true
      ∧ composing racingState .d = true ∧ racingState.compose.racing = true ∧ racingState.compose.older = none
      ∧ racingState.compose.band = 2 * 15 + 1 ∧ (openHalves racingState).head? = some (.d, 31) :=
  ⟨{ composeState with compose := { composeState.compose with due := false } }, by decide⟩

def roundState : State := { readyState with
  hk := { readyState.hk with
    disagree := List.replicate 12 3, below := List.replicate 6 2, refBad := 2, hot := List.replicate 6 2
    cool := List.replicate 6 2
    thermal := [.warning, .throttle, .normal, .normal, .normal, .shutdown]
    disqualified := 0x0301#16 }
  headroom := PerPort.const { lowRounds := 8 }
  link := PerPort.const { state := .service, enable := true }
  toll := { readyState.toll with models := PerPort.const { sensorBad := [3, 3, 3, 3], diverge := 64, agree := 64 } } }
theorem witness_ThermalDecisionsAct :
    (isOn roundState .core = true ∧ disagreement { roundState with hk := { roundState.hk with
        raw := List.replicate 11 400 ++ [700], disagree := List.replicate 12 2 } } 11 ≥ 3
      ∧ nth 0 roundState.hk.disagree 11 ≥ 3 ∧ isDisqualified roundState 11 = false
      ∧ nth 0 roundState.hk.below (locationIndex (.die .ad)) ≥ 2 ∧ thermalOf roundState (.die .ad) = .throttle
      ∧ thermalOf roundState (.die .ld) = .warning ∧ roundState.hk.thermal.length = 6
      ∧ hasPort roundState .a = true ∧ thermalOf roundState (.array .a) ≠ .shutdown ∧ nth 0 roundState.hk.hot 2 ≥ 2
      ∧ thermalOf roundState (.array .d) = .shutdown ∧ nth 0 roundState.hk.cool 5 ≥ 2
      ∧ isLatched roundState 0x34 = false ∧ roundState.hk.refBad ≥ 2 ∧ (roundState.headroom.get .d).lowRounds ≥ 8
      ∧ nth 0 (modelOf roundState .a).sensorBad 3 ≥ 3 ∧ (modelOf roundState .a).sensorOut.length = 4
      ∧ nth false (modelOf roundState .a).sensorOut 3 = false
      ∧ (modelOf roundState .a).diverge ≥ 64 ∧ (modelOf roundState .a).divergent = false)
    ∧ (∃ t, exec (.sensorDisqualify 11) roundState = .next t ∧ 3 ≤ badSensors t false)
    ∧ ∃ s : State, (modelOf s .c).agree ≥ 64 ∧ (modelOf s .c).divergent = true :=
  ⟨by decide, ⟨_, rfl, by decide⟩,
    ⟨{ roundState with toll := { roundState.toll with models := PerPort.const { agree := 64, divergent := true } } },
      by decide⟩⟩

def agedState : State := setCfg 0x4200 1 500 { readyState with
  drive := { readyState.drive with
    ages := [⟨524287, 1000000000, 64⟩], calMap := [(0, makeWord 2048 32 3 false 0), (7, makeWord 2048 32 5 false 0)]
    fullScale := PerPort.const { rounds := 4096, sumE := 409600, sumY := 409600, sumEE := 81920000, sumEY := 81920000, minE := 0, maxE := 200 } } }
theorem witness_CalibrationAndTollCommands :
    (cpReady agedState = true ∧ agedState.toll.state ≤ 1 ∧ (agedState.drive.fullScale.get .d).rounds ≥ 4096
      ∧ wordAge (latestWord agedState 524287) < targetAge (cfg agedState 0x4200 1) ⟨524287, 1000000000, 64⟩
      ∧ agedState.drive.queue.length + agedState.drive.applying.length < queueLimit
      ∧ (agedState.drive.calMap.map (·.1)).Nodup
      ∧ fitK (agedState.drive.fullScale.get .d) = some 32768 ∧ kGood 32768 = true
      ∧ kGood 39999 = false ∧ fitK {} = none
      ∧ isOn agedState .safe = true ∧ inReset agedState = false)
    ∧ (∃ s : State, cpReady s = true ∧ s.toll.measured.isEmpty = false
      ∧ (s.faults.active.any fun a => a.kind == 0x42 && a.timing) = true ∧ (s.drive.fullScale.get .c).frozen = true)
    ∧ ∃ e : BitVec 32 × List Nat, ([(5, [0, 0, 0, 0]), (7, [])].filter fun (x : BitVec 32 × List Nat) =>
        decide ((6 - x.1).toNat < 2 ^ 31)).getLast? = some e :=
  ⟨by decide, ⟨{ agedState with
      toll := { agedState.toll with measured := [⟨5, [0x8000, 0, 0, 0], PerPort.const [], PerPort.const []⟩] }
      faults := { agedState.faults with active := [{ kind := 0x42, unit := 0x1C, timing := true }] }
      drive := { agedState.drive with fullScale := PerPort.const { frozen := true } } }, by decide⟩, _, rfl⟩

/-- A confirmation of pixel 1,023 at a step. -/
def confirmState (step tries : Nat) : State := { servingState with
  pixels := PerPort.const { confirms := [⟨0, 1023, step, tries, true, false, none⟩] } }
/-- A VF_SAMPLE of band 0 with one entry: column 1,023, row 0, a state and 4,000 mV. -/
def vfPacket (state : Nat) : RxPacket :=
  packetOf (BitVec.ofNat 64 (9 * 2 ^ 60 + 4)) (leBytes 4 (1023 * 2 ^ 22 + state * 2 ^ 16 + 2000))
/-- A BAND_STATUS of band 31 that latches nothing, with an echo. -/
def bandPacket (echo : Nat) : RxPacket :=
  packetOf (BitVec.ofNat 64 (8 * 2 ^ 60 + 31 * 2 ^ 22 + 2056)) (leBytes 8 echo ++ 1 :: List.replicate 2047 0)
theorem bandPacket_length : (bandPacket 0).payload.length = 2056 := by
  rw [bandPacket, packetOf_payload, List.length_append, leBytes_length, List.length_cons, List.length_replicate]
theorem vfPacket_payload (state : Nat) :
    (vfPacket state).payload = leBytes 4 (1023 * 2 ^ 22 + state * 2 ^ 16 + 2000) := packetOf_payload _ _
theorem witness_ReturnPacketsAreJudged :
    (listening servingState .d = true ∧ listening readyState .d = false ∧ crcGood { symbols := [] } = false
      ∧ hears readyState .d 9 = false ∧ (servingState.pixels.get .d).echoHeld = false
      ∧ hears { servingState with link := PerPort.const { state := .lost } } .d 9 = true
      ∧ echoOf (servingState.link.get .d) (maskedRows 31 0) = some 0 ∧ (servingState.pixels.get .d).echoFrame = false
      ∧ 4000 ≥ limitOf servingState .d 0x12 ∧ statusOf servingState .d 1023 = 0 ∧ candidateLimit = 256)
    ∧ (packetOfType (bandPacket 0) 8 = true ∧ (bandPacket 0).payload.length = 2056
      ∧ packetOfType (vfPacket 1) 9 = true ∧ (vfPacket 1).payload.length = 4 ∧ hdrBand (vfPacket 2).header = 0)
    ∧ (samplesOf 0 (vfPacket 0).payload = [⟨1023, 0, 4000⟩] ∧ samplesOf 0 (vfPacket 1).payload = [⟨1023, 1, 4000⟩]
      ∧ samplesOf 0 (vfPacket 2).payload = [⟨1023, 2, 4000⟩])
    ∧ (∀ echo, packetGood (bandPacket echo) = true) ∧ (∀ state, packetGood (vfPacket state) = true)
    ∧ (∀ step tries, ((confirmState step tries).pixels.get .d).confirms.find? (fun g => g.pixel == 1023)
          = some ⟨0, 1023, step, tries, true, false, none⟩)
    ∧ (∃ s : State, statusOf s .d 1023 = 3 ∧ inSf1 s .d 1023 0 = true) := by
  refine ⟨by decide, ⟨?_, bandPacket_length, ?_, ?_, ?_⟩, ?_, fun _ => packetOf_good _ _, fun _ => packetOf_good _ _,
    fun _ _ => rfl, { servingState with pixels := PerPort.const { status := [(1023, 3)] } }, by decide⟩
  · rw [packetOfType, bandPacket_length, bandPacket, packetOf_header]; decide
  · rw [packetOfType, vfPacket_payload, vfPacket, packetOf_header]; decide
  · rw [vfPacket_payload]; decide
  · rw [vfPacket, packetOf_header]; decide
  · simp only [vfPacket_payload]; decide

/-- A port in service with four lanes and a spare, and a CTRL that waits. -/
def laneState (x : PortState) (step sub failures op : Nat) : State := { servingState with
  link := PerPort.const {
    state := x, step := step, sub := sub, failures := failures, map := [0, 1, 2, 3], spare := some 4
    lanes := [.working, .working, .working, .working, .spare], enable := true, ctrls := [⟨0xFFFE, op⟩] } }
/-- An ACK: sequence, status, lane or value. -/
def ackPacket (sequence status lane value : Nat) : RxPacket :=
  packetOf (BitVec.ofNat 64 (0xB * 2 ^ 60 + 8)) (leBytes 2 sequence ++ leBytes 1 status ++ leBytes 1 lane ++ leBytes 4 value)
/-- A TEMP of four equal temperatures and a headroom without lane errors. -/
def tempPacket (headroom : Nat) : RxPacket :=
  packetOf (BitVec.ofNat 64 (0xA * 2 ^ 60 + 16)) (leBytes 8 0x0190019001900190 ++ leBytes 2 headroom ++ List.replicate 6 0)
theorem witness_TempAndAcknowledgementsAct :
    (listening (laneState .service 0 0 0 0) .d = true ∧ listening (laneState .bringUp 2 0 0 4) .d = true
      ∧ packetOfType (tempPacket 100) 0xA = true ∧ (tempPacket 100).payload.length = 16
      ∧ (∀ i < 5, byteOf (leNat (tempPacket 100).payload) (10 + i) = 0) ∧ linkCfg servingState .d 0x0C ≥ 1
      ∧ cpReady servingState = true ∧ (modelOf servingState .d).ready = false
      ∧ halfOf (leNat (tempPacket 0).payload) 4 < cfg servingState (0x4300 + 3) 2
      ∧ halfOf (leNat (tempPacket 4000).payload) 4 ≥ cfg servingState (0x4300 + 3) 2)
    ∧ (packetOfType (ackPacket 0xFFFE 0 0 0) 0xB = true
      ∧ (ackPacket 0xFFFE 0 0 0).payload.length = 8 ∧ ackSequence (ackPacket 0xFFFE 0 0 0) = 0xFFFE
      ∧ portWanted servingState .d = true
      ∧ ackStatus (ackPacket 0xFFFE 1 0 0) ≠ 0 ∧ ackStatus (ackPacket 0xFFFE 0 0 0) = 0
      ∧ bitsOf (ackValue (ackPacket 0xFFFE 0 0 0x03FF01FF)) 16 10 = 1023
      ∧ bitsOf (ackValue (ackPacket 0xFFFE 0 0 0x03FF01FF)) 0 9 = 511
      ∧ isUnsolicited (ackPacket 0xFFFF 0x10 3 0) 0x10 = true ∧ isUnsolicited (ackPacket 0xFFFF 0x11 0 0) 0x11 = true
      ∧ ackLane (ackPacket 0xFFFF 0x10 3 0) = 3
      ∧ portServing (laneState .service 0 0 0 0) .d = true
      ∧ nth .failed ((laneState .service 0 0 0 0).link.get .d).lanes 3 = LaneState.working
      ∧ nth .failed ((laneState .service 0 0 0 0).link.get .d).lanes 4 = LaneState.spare)
    ∧ (∀ n, packetGood (tempPacket n) = true) ∧ (∀ a b c d, packetGood (ackPacket a b c d) = true) :=
  ⟨by decide, by decide, fun _ => packetOf_good _ _, fun _ _ _ _ => packetOf_good _ _⟩

/-- A port whose return lane is lost, in hold, with a fault, a waiting CTRL and a candidate. -/
def portState : State := { servingState with
  link := PerPort.const {
    state := .service, enable := true, returnLost := true, returnGrace := true, holdSent := true
    startAt := some 1, fault := true, ctrls := [⟨0, 8⟩]
    lanes := [.failed, .working, .working, .working, .working], retraining := some 0 }
  pixels := PerPort.const { candidates := [524287], echoGood := 64 }
  nvm := { servingState.nvm with disabled := PerPort.const 2 } }
theorem witness_PortCommandsFollowTheLink :
    (portServing servingState .d = true ∧ (servingState.link.get .d).returnLost = false
      ∧ (portState.link.get .d).returnLost = true ∧ isLatched portState 0x18 = false
      ∧ (portState.link.get .d).returnGrace = true ∧ listening servingState .d = true
      ∧ (servingState.pixels.get .d).reported.getLsbD 31 = false
      ∧ servingState.units.ls.get .d = .ready ∧ linkCfg servingState .d 0x10 = 1
      ∧ (portState.link.get .d).retraining = some 0 ∧ nth .untrained (portState.link.get .d).lanes 0 = LaneState.failed
      ∧ (portState.link.get .d).spare = none
      ∧ (portState.link.get .d).holdSent = true ∧ (portState.link.get .d).startAt ≠ none
      ∧ inReset portState = false ∧ isOn portState .safe = true ∧ portActive portState .d = true
      ∧ portWanted portState .d = true
      ∧ (portState.link.get .d).enable = true ∧ (portState.link.get .d).state ≠ .lost
      ∧ (portState.link.get .d).ctrls = [⟨0, 8⟩] ∧ freeEntry (portState.pixels.get .d).confirms = some 0
      ∧ (portState.pixels.get .d).candidates = [524287] ∧ portState.nvm.disabled.get .d = 2
      ∧ (portState.pixels.get .d).echoGood ≥ 64 ∧ isLatched portState 0x13 = false)
    ∧ (∃ s : State, portActive s .d = true ∧ (s.link.get .d).state = .bringUp ∧ (s.link.get .d).enable = false
          ∧ (s.link.get .d).failures = 2 ∧ (s.link.get .d).ctrls = [⟨0, 1⟩])
    ∧ (∃ s : State, (s.link.get .d).fault = true ∧ (s.link.get .d).state = .lost ∧ (s.link.get .d).lostCause = true)
    ∧ (∃ s : State, s.nvm.disabled.get .d = 2 ∧ ∀ q, (s.nvm.disabled.set .d 0).get q ≠ 2) :=
  ⟨by decide,
    ⟨{ servingState with link := PerPort.const { state := .bringUp, failures := 2, ctrls := [⟨0, 1⟩] } }, by decide⟩,
    ⟨{ servingState with link := PerPort.const { state := .lost, fault := true, lostCause := true } }, by decide⟩,
    ⟨{ servingState with nvm := { servingState.nvm with disabled := ⟨0, 0, 0, 2⟩ } }, rfl, fun q => by cases q <;> decide⟩⟩

/-- Rows of a tile: every row 40, 42, 42, 43 and then 28 samples of 43 (the example of R86). -/
def exampleRows : List (List Nat) := List.replicate 32 ([40, 42, 42] ++ List.replicate 29 43)
theorem witness_TileCodecRoundTrip :
    1 ≤ 3 ∧ exampleRows.length = 32 ∧ ∀ row ∈ exampleRows, row.length = 32 ∧ ∀ x ∈ row, x < 2 ^ formatWidth 3 := by decide

/-- The host link with lane 1 in service. -/
def laneOneState : State := setCfg 0x1200 1 1 (setCfg 0x1200 6 1 { readyState with
  host := { readyState.host with lanes := [{}, { state := 1 }, {}, {}], control := some 1, linkArmed := true } })
theorem witness_HostLanesFollowTraining :
    isOn laneOneState .link = true ∧ laneOneState.host.lanes.length = 4 ∧ (hostLane laneOneState 0).state = 0
      ∧ (hostLane laneOneState 1).state = 1 ∧ laneOneState.host.control = some 1 ∧ readyState.host.control = none
      ∧ cfg laneOneState 0x1200 1 = 1 ∧ 0 < cfg laneOneState 0x1200 5
      ∧ readyState.host.lanes.length = 4 ∧ isOn laneOneState .core = true ∧ laneOneState.host.linkArmed = true
      ∧ laneOneState.host.linkLost = false ∧ cfg laneOneState 0x1200 6 ≠ 0 := by decide

/-- The host link with lane 0 as control lane and a video stream bound to surface 0 of 32 × 2 samples, format M8. -/
def hostState : State := { readyState with
  dict := { readyState.dict with values := [(objKey 0x1210 1, 0), (objKey 0x3400 1, 3), (objKey 0x3400 2, 32), (objKey 0x3400 3, 32),
    (objKey 0x3400 5, 3), (objKey 0x3400 6, 65536)] }
  host := { readyState.host with lanes := [{ state := 1 }, {}, {}, {}], control := some 0 } }
/-- A video line of stream 0, line 31 of picture 15. -/
def videoPacket : RxPacket :=
  packetOf (BitVec.ofNat 64 (2 ^ 60 + 2 ^ 40 + (31 * 2 ^ 13 + 15 * 2 ^ 9) * 2 ^ 16 + 32)) (List.replicate 32 7)
/-- A commit packet. -/
def commitPacket : RxPacket := packetOf (BitVec.ofNat 64 (3 * 2 ^ 60 + 2 ^ 40)) []
/-- An OD_WRITE of one record: object 0x1300 sub 3, four bytes. -/
def writePacket : RxPacket :=
  packetOf (BitVec.ofNat 64 (4 * 2 ^ 60 + 2 ^ 40 + 2 ^ 32 + 10)) [0x00, 0x13, 0x03, 0, 4, 0, 0xFF, 0, 0, 0]
/-- A shade list of one object. -/
def listPacket (objs : List Byte) : RxPacket :=
  packetOf (BitVec.ofNat 64 (2 * 2 ^ 60 + 2 ^ 40 + 2 ^ 33 + 16)) objs
set_option maxRecDepth 20000 in
theorem witness_UhlPacketsAreReceived :
    (isOn hostState .link = true ∧ (hostLane hostState 0).state = 1 ∧ (hostLane hostState 1).state ≠ 1
      ∧ (hostLane hostState 0).lastSeq = none ∧ hostState.host.lanes.length = 4 ∧ hostState.host.control = some 0
      ∧ uhlGood commitPacket 3 24 = true ∧ commitPacket.payload = [] ∧ hostState.host.queue = []
      ∧ recordsWait hostState = false
      ∧ uhlGood writePacket 4 16 = true ∧ bitsOf (uhlField writePacket) 16 8 = 1
      ∧ recordsOf 1 writePacket.payload = some [(0x1300, 3, [0xFF, 0, 0, 0])] ∧ cpReady hostState = true
      ∧ queuedWrites hostState = 0
      ∧ uhlGood (listPacket (List.replicate 16 0)) 2 17 = true
      ∧ bitsOf (uhlField (listPacket (List.replicate 16 0))) 17 7 = 1 ∧ hostState.shade.source = 0
      ∧ hostState.shade.refilling = false)
    ∧ (uhlGood videoPacket 1 9 = true ∧ bitsOf (uhlField videoPacket) 23 1 = 0 ∧ bitsOf (uhlField videoPacket) 13 10 = 31
      ∧ bitsOf (uhlField videoPacket) 9 4 = 15
      ∧ streamSurface hostState 0 = some 0 ∧ videoPacket.payload.length = lineBytes hostState 0
      ∧ 31 < surfaceValue hostState 0 3 ∧ (freeBuffer hostState 0).isSome = true
      ∧ (streamOf hostState 0).picture = none)
    ∧ (∀ o ∈ objectsOf 1 (List.replicate 16 0), shadeInvalid o = false)
    ∧ (∃ o ∈ objectsOf 1 (List.replicate 16 255), shadeInvalid o = true)
    ∧ (∃ s u, cpReady s = true ∧ s.host.queue = [.odWrite 1 writePacket.payload]
          ∧ writeObject { via := .uhl 0, index := 0x1300, sub := 3, last := true } 0x1300 3 [0xFF, 0, 0, 0]
            { s with host := { s.host with queue := [] } } = (some 0, u)) := by
  have empty : ∀ o ∈ objectsOf 1 (List.replicate 16 0), shadeInvalid o = false := fun o h => by
    rw [show objectsOf 1 (List.replicate 16 0) = [0] from rfl, List.mem_singleton] at h
    rw [h]; decide
  exact ⟨by decide, by decide, empty, by decide,
    { readyState with host := { readyState.host with queue := [.odWrite 1 writePacket.payload] } }, _, by decide, rfl,
      Prod.ext (by decide) rfl⟩

/-- A read frame of object 0x1000 sub 1 with its CRC. -/
def readFrame' (crc : Option Byte) : ShpFrame := ⟨none, 5, 0x1000, 1, 0, [], crc, 12⟩
/-- A request in the queues. -/
def requestState (op : Nat) : State := { readyState with host := { readyState.host with
  shpRequests := [⟨op, 5, 0x3400, 1, 2, [], none⟩], canRequests := [⟨.b, op == 2, 5, 0x1000, 1, 1, 1, [2], none⟩] } }
/-- A write over CAN that came inside a session of the maker. -/
def insideState : State := { readyState with host := { readyState.host with
  canRequests := [⟨.b, true, 5, 0x1000, 1, 1, 1, [2], some (.maker, .shp)⟩] } }
theorem witness_ShpAndDictionaryRequests :
    (isOn readyState .core = true ∧ cpReady readyState = true ∧ shpPending readyState < 8
      ∧ (readFrame' (some (BitVec.ofNat 8 (crc8 (shpBytes 1 (readFrame' none)))))).crc
        = some (BitVec.ofNat 8 (crc8 (shpBytes (shpOp 1 (readFrame' none)) (readFrame' none))))
      ∧ shpOp 1 { readFrame' none with reserved := some 15 } = 15
      ∧ shpLengthGood 1 0 = true ∧ shpLengthGood 4 256 = false
      ∧ (requestState 4).host.shpRequests = [⟨4, 5, 0x3400, 1, 2, [], none⟩]
      ∧ (requestState 2).host.canRequests = [⟨.b, true, 5, 0x1000, 1, 1, 1, [2], none⟩]
      ∧ cpReady insideState = true ∧ (∃ r, insideState.host.canRequests = [r] ∧ r.inside = some (.maker, .shp) ∧ r.write = true)
      ∧ readAllowed (livedState 2) 0x3400 1 = true ∧ unitBusy readyState 0x3400 1 = false
      ∧ judgeRequest readyState (.shp 5) 0x343F 2 [0, 16] = 0
      ∧ judgeRequest readyState (.shp 5) 0x4203 3 [0xFF] = 0
      ∧ judgeWrite readyState ⟨0x4203, 3, 1, 1, 255, none⟩ = .taken)
    ∧ (∃ o, objectAt 0x3400 1 = some o ∧ o.access ≠ .wo ∧ o.size ≤ readLimit .sbp)
    ∧ (∃ o, objectAt 0x4203 3 = some o ∧ o.journal = true)
    ∧ (∃ x, readObject (.shp 5) 0x3400 1 { requestState 4 with host := { (requestState 4).host with shpRequests := [] } }
          = (0, x, { requestState 4 with host := { (requestState 4).host with shpRequests := [] } })) :=
  ⟨⟨by decide, by decide, by decide, by decide, by decide, by decide, by decide, rfl, rfl, by decide, ⟨_, rfl, rfl, rfl⟩,
      by decide, by decide, by decide, by decide, by decide⟩, ⟨_, rfl, by decide⟩, ⟨_, rfl, rfl⟩, ⟨_, Prod.ext (by decide) (Prod.ext rfl rfl)⟩⟩

/-- A CAN frame of node 0 under the default base, object 0x1000. -/
def canFrame (bytes : List Byte) : CanFrame := ⟨.a, BitVec.ofNat 29 (0x5C * 2 ^ 21 + 0x1000), bytes⟩
/-- A segmented transfer of 63 bytes in progress on CAN_A, of which `n` have come. -/
def transferState (n : Nat) : State := { readyState with host := { readyState.host with
  transferA := some ⟨.a, true, 3, 0x1000, 1, 63, 1, List.replicate n 0, none⟩, sbp := { pointer := some (0x1000, 1) } } }
theorem witness_CanAndSidebandRequests :
    (busListens readyState .a = true ∧ busListens State.reset .a = false
      ∧ isRequestId readyState (canFrame [3, 1]).id = true ∧ idNode (canFrame [3, 1]).id = readyState.power.options.nodeId
      ∧ frameKind (canFrame [3, 1]).data = 0 ∧ frameOp (canFrame [3, 1]).data = 0 ∧ frameOp (canFrame [0x33, 1]).data = 3
      ∧ cpReady readyState = true ∧ cpReady bootState = false ∧ busOff readyState .b = false)
    ∧ (frameKind (0x53 :: 1 :: 63 :: List.replicate 61 0) = 1 ∧ frameOp (0x53 :: 1 :: 63 :: List.replicate 61 0) = 1
      ∧ leNat (((0x53 :: 1 :: 63 :: List.replicate 61 (0 : Byte)).drop 2).take 2) = 63
      ∧ frameKind [0x93, 1] = 2 ∧ frameOp [0x93, 1] = 1 ∧ frameTag [0x93, 1] = 3 ∧ frameByte [0x93, 1] = 1
      ∧ frameKind [0xC3, 0] = 3
      ∧ ((List.replicate 60 (0 : Byte) ++ ([0x93, 1, 1, 2, 3].drop 2).take 62).take 63).length = 63)
    ∧ (sbpCrcGood readyState (leBytes 2 0x1000 ++ leBytes 1 1)
          (BitVec.ofNat 8 (crc8 (0x54 :: (leBytes 2 0x1000 ++ leBytes 1 1)))) = true
      ∧ judgeRequest readyState .sbp 0x1300 3 [1, 0, 0, 0] = 0 ∧ sbpWaits readyState = false
      ∧ (transferState 0).host.sbp.pointer = some (0x1000, 1))
    ∧ (∃ s : State, cfg s 0x1100 5 ≠ 2 ∧ busListens s .a = true ∧ cpReady s = true)
    ∧ (∃ s : State, cfg s 0x1100 5 = 2 ∧ busListens s .a = true
          ∧ s.host.canRecent = [⟨.b, (canFrame [3, 1]).id, [3, 1], 0, false, []⟩] ∧ transferOf s .a = none
          ∧ cpReady s = true ∧ (canFrame [3, 1]).id = canId s false s.power.options.nodeId 0x1000 ∧ busOff s .a = false
          ∧ ∃ st bs, readObject (.can .b 3) 0x1000 1 s = (st, bs, s))
    ∧ (isOn State.reset .core = false ∧ isOn State.reset .safe = true ∧ inReset State.reset = false
      ∧ State.reset.aon.frozen = none ∧ cpReady State.reset = false
      ∧ State.reset.power.votes.wake ||| State.reset.power.votes.sbp = 0)
    ∧ (∃ r, transferOf (transferState 60) .a = some r ∧ idIndex (canFrame []).id = r.index ∧ r.tag = 3 ∧ r.next = 1)
    ∧ (∃ st bs u, readObject .sbp 0x1000 1 (transferState 0) = (st, bs, u)) :=
  ⟨by decide, by decide, by decide, ⟨{ readyState with dict := { readyState.dict with values := [(objKey 0x1100 5, 1)] } }, by decide⟩,
    ⟨{ readyState with
      dict := { readyState.dict with values := [(objKey 0x1100 5, 2)] }
      host := { readyState.host with canRecent := [⟨.b, (canFrame [3, 1]).id, [3, 1], 0, false, []⟩] } },
      by decide, by decide, by decide, by decide, by decide, by decide, by decide, ⟨_, _, Prod.ext rfl (Prod.ext rfl rfl)⟩⟩,
    by decide, ⟨_, rfl, by decide⟩, ⟨_, _, _, rfl⟩⟩

/-- Sinks with a channel that is on, one kept off, one open, and group 3 off. -/
def sinkState (off : Bool) (times : List Nat) : State := { readyState with
  sinks := { readyState.sinks with
    restored := true
    groups := [{ hot := 2, lowest := some 300, divider := 78 }, {}, {}, { off := off, cool := 2, hot := 2 }]
    channels := [{ enable := true, duty := 255, code := 9, opens := 1, nShorts := 1, probeDue := true, testDue := true }, { status := 2 },
      { status := 1, goods := 1 }] ++ List.replicate 45 {} }
  faults := { readyState.faults with active := [{ kind := 0x48, unit := 0x1A, port := 7, waybill := 0, since := 0 }] }
  aon := { readyState.aon with recoveries := [{ kind := 0x48, times := times }] } }
theorem witness_SinksFollowTheirPeriods :
    pairTestable (sinkState true []) 0 = true ∧ isOn (sinkState true []) .aux = true ∧ (sinkState true []).sinks.groups.length = 4
      ∧ (sinkState true []).sinks.channels.length = 48
      ∧ (sinkGroup (sinkState true []) 3).off = true ∧ (sinkGroup (sinkState true []) 0).off = false
      ∧ sinkAlive (sinkState true []) 0 = true ∧ hasOnRun (sinkState true []) 0 = true
      ∧ hasOffRun (sinkState true []) 0 = true ∧ (sinkOf (sinkState true []) 0).probeDue = true
      ∧ longRun (sinkState true []) 0 = true ∧ cfg (sinkState true []) 0x5000 4 < 65535
      ∧ (sinkOf (sinkState true []) 0).opens ≥ 1
      ∧ 0 < cfg (sinkState true []) 0x5000 5 ∧ 0 < cfg (sinkState true []) 0x5000 6
      ∧ (sinkOf (sinkState true []) 1).status = 2 ∧ sinkAlive (sinkState true []) 1 = true
      ∧ pairTestable (sinkState true []) 11 = false
      ∧ (sinkGroup (sinkState true []) 0).lowest = some 300 ∧ (sinkGroup (sinkState true []) 0).hot ≥ 2
      ∧ (sinkGroup (sinkState true []) 3).cool ≥ 2 ∧ isLatched (sinkState true []) 0x48 = false
      ∧ isActive (sinkState true []) 0x48 0x1A = true
      ∧ isEighthRecovery 0 (recoveryOf (sinkState true []) 0x48).times = false
      ∧ isEighthRecovery (nowUs (sinkState true [0, 0, 0, 0, 0, 0, 0]))
          (recoveryOf (sinkState true [0, 0, 0, 0, 0, 0, 0]) 0x48).times = true := by
  refine ⟨?_, by decide⟩
  rw [pairTestable, pairPossible_of_run (m := 15) (by decide) (by decide) (by decide)]
  decide

/-- A frame of the bridge with its CRC: type, sequence, payload. -/
def bridgeFrame (ty seq payload : Nat) : BitVec 80 :=
  let v := ty * 2 ^ 60 + seq * 2 ^ 56 + payload
  BitVec.ofNat 80 (v * 65536 + crc16Bits (msbBits 64 v))
/-- The AD has heard sequence 14 and has sent a frame. -/
def heardState : State := { readyState with faults := { readyState.faults with
  ddbAd := { heard := 14, seq := 1, sent := [bridgeFrame 3 1 0], waiting := [(bridgeFrame 3 1 0, 3), (bridgeFrame 5 2 0, 0)] } } }
theorem witness_BridgeFramesAreJudged :
    ddbRuns readyState = true ∧ ddbRuns State.reset = false ∧ ddbCrcGood (bridgeFrame 5 15 9) = true
      ∧ ddbCrcGood (bridgeFrame 5 15 9 + 1) = false ∧ ddbFollows readyState .ad (bridgeFrame 5 1 9) = true
      ∧ ddbFollows heardState .ad (bridgeFrame 5 15 9) = true ∧ ddbFollows heardState .ad (bridgeFrame 5 0 9) = false
      ∧ ddbFollows heardState .ad (bridgeFrame 7 15 0) = true ∧ ddbType (bridgeFrame 7 15 0) = 7
      ∧ ddbCrcGood (bridgeFrame 7 15 0) = true ∧ (ddbEnd heardState .ad).waiting[0]? = some (bridgeFrame 3 1 0, 3)
      ∧ (ddbEnd heardState .ad).waiting[1]? = some (bridgeFrame 5 2 0, 0) ∧ ddbType (bridgeFrame 5 2 0) = 5
      ∧ partOutOfOrder 9 [] = false ∧ partOutOfOrder (2 ^ 54) [] = true ∧ isActive heardState 0x05 0x04 = false
      ∧ heardState.faults.unacked = []
      ∧ ddbFollows heardState .ad (bridgeFrame 8 15 0) = true ∧ ddbType (bridgeFrame 8 15 0) = 8
      ∧ ddbCrcGood (bridgeFrame 8 15 0) = true
      ∧ ddbFollows heardState .ad (bridgeFrame 0 14 0) = true ∧ ddbType (bridgeFrame 0 14 0) = 0
      ∧ ddbCrcGood (bridgeFrame 0 14 0) = true ∧ silenceCounts heardState .ad = true := by decide

/-- A stream bound to surface 0 of 32 × 32 samples, format M8, whose picture 9 has all 32 lines. -/
def pictureState (row : Nat) : State := { readyState with
  dict := { readyState.dict with values := [(objKey 0x1211 1, 0), (objKey 0x3400 1, 3), (objKey 0x3400 2, 32), (objKey 0x3400 3, 32),
    (objKey 0x3400 5, 3), (objKey 0x3400 6, 65536)] }
  host := { readyState.host with stream1 := { picture := some 9, row := row, lines := (List.range 32).map fun i => (i, [7]) } } }
theorem witness_VideoRowsAreEncoded :
    streamSurface (pictureState 0) 1 = some 0 ∧ rowToEncode (pictureState 0) 0 (streamOf (pictureState 0) 1) = some 0
      ∧ (streamOf (pictureState 1) 1).picture = some 9 ∧ (streamOf (pictureState 1) 1).discarded = false
      ∧ tileRows (pictureState 1) 0 ≤ (streamOf (pictureState 1) 1).row
      ∧ dramReadable (pictureState 0) = false ∧ dramReadable { pictureState 0 with units := { readyState.units with
          dramTrained := true, dramFailed := false } } = true := by decide

/-- A frame as the head at reset sends it, with one message for position 3. -/
def tokenSlotList : List (BitVec 24) := closeFrame false (tokenSlots (ringState 0 2 false) 0 ++ makeSlot 2 2 0 0x3004 :: emptySlots.drop 1)
def tokenFrame : RingFrame := ⟨false, tokenSlotList, 0, 96⟩
/-- The edges of a frame's cells on the line, the next frame's nulls behind them. -/
def edgesOf (cells : List (Nat × Nat)) : List (Nat × Nat) :=
  (cells.drop 2).mapIdx fun k c => (c.1, if k = 397 then 48 else 16)
set_option maxRecDepth 100000 in
theorem witness_RingFramesAreForwarded_frames :
    frameValid tokenFrame = true ∧ hasToken tokenFrame = true ∧ hasToken { tokenFrame with slots := tokenFrame.slots.drop 1 } = false
      ∧ 2 ≤ slotType (nth 0 tokenFrame.slots 5) ∧ 1 ≤ slotHops (nth 0 tokenFrame.slots 5) := by decide
set_option maxRecDepth 100000 in
theorem witness_RingFramesAreForwarded_line : readRing ⟨edgesOf (frameCells tokenSlotList), 0, 96⟩ = tokenFrame := by
  decide
set_option maxRecDepth 100000 in
theorem witness_RingFramesAreForwarded :
    isOn State.reset .core = false
      ∧ isOn (ringState 0 2 false) .core = true ∧ isHead (ringState 0 2 false) = true ∧ (ringState 0 2 false).power.votes.caravan = 0
      ∧ isOn (ringState 3 4 false) .core = true ∧ isStation (ringState 3 4 false) = true
      ∧ (ringState 3 4 false).caravan.position = some 1 ∧ (ringState 3 2 false).caravan.position = some 1
      ∧ (ringState 3 1 false).caravan.state = 1 ∧ (ringState 3 1 false).caravan.goodFrames + 1 = 4
      ∧ frameValid (readRing ⟨[], 0, 0⟩) = false ∧ (ringState 0 2 false).caravan.loopValid = false
      ∧ ((ringState 0 2 false).caravan.partials.any fun m => m.source == 2) = true
      ∧ (ringState 3 2 true).caravan.closing = true ∧ isStation (ringState 3 2 true) = true
      ∧ isOn (ringState 3 2 true) .core = true := by decide

theorem witness_RingMessagesAreDelivered :
    isOn relayState .core = true ∧ isHead relayState = true ∧ busOff relayState .a = false
      ∧ nth 0xFF relayState.caravan.nodeMap 2 = 3 ∧ nth 0xFF relayState.caravan.nodeMap 4 = 0xFF
      ∧ (∀ q, q < 8 → q ≠ 2 → nth 0xFF relayState.caravan.nodeMap q ≠ 5) ∧ 5 ∉ relayState.caravan.banned
      ∧ 7 ∈ relayState.caravan.banned
      ∧ isStation (ringState 3 2 false) = true ∧ isOn (ringState 3 2 false) .core = true ∧ cpReady (ringState 3 2 false) = true
      ∧ relayState.caravan.relays.find? (fun r => r.node == nth 0xFF relayState.caravan.nodeMap 2 && r.tag == 6)
          = some ⟨.a, false, 6, 0x1000, 1, 3⟩
      ∧ relayState.update.relayTarget ≠ 0 ∧ positionOf relayState relayState.update.relayTarget = some 2
      ∧ cpVotesAlone { relayState.power.votes with caravan := 0 } = false ∧ holds relayState .caravan = true
      ∧ relayState.update.relayBusy = true ∧ inReset (ringState 3 2 false) = false
      ∧ nextSession 12 ([0xC3, 0x5A, 5, 1, 0, 0, 1, 2, 3, 4] ++ []) = some (5, ⟨.caravan, 1, [], 0x04030201⟩, [])
      ∧ nextSession 2 [0xC3, 0x5A] = none ∧ (readObject (.caravan 6) 0x1000 1 (ringState 3 2 false)).1 = 0 := by decide

/-- A frame on the SVC with its CRC. -/
def svcFrame (op : Nat) (payload : List Byte) : SvcFrame :=
  ⟨.svc, 1, payload, BitVec.ofNat 32 (crc32c (svcBody op 1 payload))⟩
/-- The SVC is enabled, in a life-cycle state, with a session on a slot. -/
def serviceState (life : Nat) (opening : Option Nat) : State := { livedState life with
  update := { (livedState life).update with svcEnabled := true, session := some ⟨.svc, 1, 320, 0, opening⟩ }
  nvm := { (livedState life).nvm with slot1 := { package := .writing [] } } }
theorem svcFrame_good (op : Nat) (payload : List Byte) : svcGood op (svcFrame op payload) = true := by
  simp only [svcGood, svcFrame, beq_iff_eq, BitVec.toNat_ofNat]
  exact Nat.mod_eq_of_lt (crc32c_lt _)
theorem witness_SessionFramesAreAnswered :
    svcGood 2 (svcFrame 2 [0, 0, 0, 0, 7]) = true ∧ inReset (serviceState 2 none) = false ∧ isOn (serviceState 2 none) .core = true
      ∧ (serviceState 2 none).update.svcEnabled = true ∧ cpReady (serviceState 2 none) = true
      ∧ (serviceState 2 none).update.relayTarget = 0 ∧ lifeState (serviceState 2 none) ≠ 0 ∧ lifeState (serviceState 0 none) = 0
      ∧ heldByOther (serviceState 2 none) .caravan = true ∧ activating (serviceState 2 none) = false
      ∧ inactiveSlot (serviceState 2 none) = some 1 ∧ field [0x40, 1, 0, 0, 0, 0, 0, 0] 0 4 = 320
      ∧ ((serviceState 2 (some 3)).update.session.map fun x => x.opening) = some (some 3)
      ∧ packageBytes (slotOf (serviceState 2 none) 1).package = [] ∧ field [0, 0, 0, 0, 7] 0 4 = 0
      ∧ finishGood ⟨.svc, 1, 320, 0, none⟩ [] = false
      ∧ finishGood ⟨.svc, 1, 16, BitVec.ofNat 32 (crc32c ([0x53, 0x4C, 0x50, 0x4B] ++ List.replicate 8 0 ++ [16, 0, 0, 0])), none⟩
          ([0x53, 0x4C, 0x50, 0x4B] ++ List.replicate 8 0 ++ [16, 0, 0, 0]) = true
      ∧ holds (serviceState 2 none) .svc = true ∧ holds (serviceState 2 none) .caravan = false
      ∧ field [0, 0xC2, 1, 0] 0 4 = 115200 ∧ positionOf relayState relayState.update.relayTarget = some 2 :=
  ⟨svcFrame_good _ _, by decide⟩

/-- An activation of slot 1 after its copy, with the slots from which LS and CP run. -/
def activeState (ls cp : Nat) : State := { serviceState 2 none with
  update := { (serviceState 2 none).update with activation := 1, slot := 1, session := none }
  units := { (serviceState 2 none).units with runLs := PerPort.const ls, runCp := cp }
  nvm := { (serviceState 2 none).nvm with slot1 := { package := .complete [1] } } }
theorem witness_ActivationFollowsItsSteps :
    svcGood 4 (svcFrame 4 [1]) = true ∧ svcGood 8 (svcFrame 8 [3]) = true
      ∧ inReset (activeState 0 0) = false ∧ cpReady (activeState 0 0) = true ∧ (activeState 0 0).update.svcEnabled = true
      ∧ heldByOther (activeState 0 0) .svc = false ∧ activating (activeState 0 0) = true
      ∧ slotComplete (activeState 0 0) 1 = true ∧ slotComplete (serviceState 2 none) 1 = false
      ∧ activating { activeState 0 0 with update := { (activeState 0 0).update with activation := 0 } } = false
      ∧ lsToMove (activeState 0 0) = some .a ∧ isOn (activeState 0 0) .link = true
      ∧ lsToMove (activeState 1 0) = none ∧ (activeState 1 0).units.runCp ≠ 1 ∧ isHead (activeState 1 0) = false
      ∧ (activeState 1 1).units.runCp = 1 ∧ (activeState 1 1).units.cpRecoveryBoot = false ∧ (activeState 1 1).units.runSm ≠ 1 ∧ (activeState 1 1).update.back = false
      ∧ isHead relayState = true ∧ positionOf relayState 3 = some 2 ∧ relayState.update.relayTarget = 3
      ∧ cpReady relayState = true ∧ relayState.update.relayBusy = true
      ∧ cpVotesAlone { relayState.power.votes with caravan := 0 } = false ∧ positionOf relayState 4 = none :=
  ⟨svcFrame_good _ _, svcFrame_good _ _, by decide⟩

theorem witness_PhaseCorrectionsNeverStepThePosition :
    (∃ rising fraction, Instr.syncInEdge true 5 = .syncInEdge rising fraction) ∧ readyState.scan.running = false :=
  ⟨⟨_, _, rfl⟩, by decide⟩

theorem witness_TimePairOfTimeSync :
    isOn syncState .link = true ∧ (hostLane syncState 0).state = 1 ∧ onControlLane syncState 0 timeSync = true
      ∧ uhlGood timeSync 5 24 = true ∧ timeSync.payload.length = 16 ∧ bitsOf (leNat timeSync.payload) 64 16 ≤ 4095
      ∧ bitsOf (leNat timeSync.payload) 80 48 = 0
      ∧ (hostLane syncState 0).lastSeq ≠ some (BitVec.ofNat 16 (hdrSequence timeSync.header))
      ∧ syncState.host.queue = [] ∧ recordsWait syncState = false
      ∧ (objectAt 0x8100 0x12).isSome = true ∧ (objectAt 0x8100 0x13).isSome = true := by decide

theorem witness_FaultObjectWritesAreJudged :
    cpReady fieldSession = true ∧ (objectAt 0x7120 0x41).isSome = true
      ∧ isLatched fieldSession 0x41 = false ∧ (objectAt 0x7502 1).isSome = true ∧ (objectAt 0x7301 0x1C).isSome = true
      ∧ judgeRequest fieldSession (.shp 1) 0x7301 0x1C [1, 0, 0, 0] = 0x00
      ∧ (kindRow 0x48).fixed = true ∧ (objectAt 0x7120 0x48).isSome = true
      ∧ ((objectAt 0x7120 0x48).map fun o => writeAllowed fieldSession (.shp 1) o 0x7120 0x48 && inRange o.range o.size 0) = some true
      ∧ judgeRequest fieldSession (.shp 1) 0x7502 1 [0x41] = 0x04 := by decide

theorem witness_AuxLevelsStayApart :
    cpReady readyState = true ∧ (objectAt 0x5000 2).isSome = true ∧ isFused readyState 0x5000 = false
      ∧ judgeRequest readyState (.shp 1) 0x5000 2 [0x90, 0x01] = 0x00
      ∧ judgeRequest readyState (.shp 1) 0x5000 6 [0x90, 0x01] = 0x04 := by decide

theorem witness_ModelTimeConstantsStayLong :
    cpReady readyState = true ∧ (objectAt 0x6013 1).isSome = true ∧ isFused readyState 0x6013 = false
      ∧ judgeRequest readyState (.shp 1) 0x6013 1 [21, 0] = 0x00 ∧ judgeRequest readyState (.shp 1) 0x6013 1 [20, 0] = 0x04
      ∧ judgeRequest readyState (.shp 1) 0x6010 6 [6, 0, 0, 0] = 0x04 := by decide

theorem witness_SinkTicksAreSpread :
    ((List.range 16).map (segmentTicks 5 0xABC)).sum = 0xABC ∧ isOnTick 47 17 0 176 = true := by decide

theorem witness_EmptyQueueIdles : State.reset.pending = [] := rfl

theorem witness_EveryStepKeepsTheInvariant : Invariant State.reset ∧ ∃ t, step State.reset = .next t := by
  exact ⟨by unfold Invariant; decide, _, rfl⟩

theorem witness_MemoryReadsWhatWasWritten :
    Memory.wf (memWriteAll 4 [7, 0, 9] []) = true ∧ memRead 6 (memWriteAll 4 [7, 0, 9] []) = 9 := by decide

theorem witness_LifeCycleRunsOneWay : (∃ t, exec .consentExpiry (livedState 3) = .next t) ∧ lifeState (livedState 3) = 3 :=
  ⟨⟨_, rfl⟩, by decide⟩

theorem witness_EveryCommandTouchesOnlyItsParts :
    (∃ t, exec .leapWrapped readyState = .next t) ∧ Part.dram ∉ touches .leapWrapped := ⟨⟨_, rfl⟩, by decide⟩

theorem witness_DitherMeetsEveryThresholdOnce :
    (objectAt 0x4000 2).isSome = true ∧ cfg readyState 0x4000 1 ≠ 1 ∧ guardEnabled readyState = false ∧ cfg (setCfg 0x4000 3 0 readyState) 0x4000 3 ≠ 1
      ∧ cfg (setCfg 0x4000 1 1 readyState) 0x4000 1 = 1 ∧ cfg (setCfg 0x4000 3 1 readyState) 0x4000 3 = 1
      ∧ guardEnabled { readyState with drive := { readyState.drive with windows := [0x80000000] } } = true := by decide

theorem witness_RingLineRoundTrip :
    (List.replicate 16 (0xA5C3F1 : BitVec 24)).length = 16
      ∧ (let cells := frameCells (List.replicate 16 0xA5C3F1)
        let edges := (cells.drop 2).mapIdx fun k c => (c.1 + k % 3 - 1, if k = 397 then 48 else 14 + k % 5)
        edges.length = 398 ∧ 24 ≤ (nth (0, 0) edges 397).2
          ∧ (readRing ⟨edges, 3, 5⟩).slots = List.replicate 16 0xA5C3F1) := by decide

end Sys2Proof.Tests
end

section
/-!
The frame of every command: the footprints of Laws/Commands.lean against the table `touches`.
-/

namespace Sys2Proof.Laws

open Sys2Proof Sys2Proof.Machine

/-! ## The state outside a list of parts -/

/-- The state outside the parts `ps`: each of them put to its fixed value. A footprint such as `Outside.entry` is this
for a list of its own. -/
def Outside.parts (ps : List Part) (s : State) : State where
  variant := if .variant ∈ ps then blank.variant else s.variant
  aon := if .aon ∈ ps then blank.aon else s.aon
  power := if .power ∈ ps then blank.power else s.power
  units := if .units ∈ ps then blank.units else s.units
  scan := if .scan ∈ ps then blank.scan else s.scan
  leap := if .leap ∈ ps then blank.leap else s.leap
  almanac := if .almanac ∈ ps then blank.almanac else s.almanac
  dict := if .dict ∈ ps then blank.dict else s.dict
  access := if .access ∈ ps then blank.access else s.access
  fetch := if .fetch ∈ ps then blank.fetch else s.fetch
  warp := if .warp ∈ ps then blank.warp else s.warp
  manifest := if .manifest ∈ ps then blank.manifest else s.manifest
  shade := if .shade ∈ ps then blank.shade else s.shade
  ceiling := if .ceiling ∈ ps then blank.ceiling else s.ceiling
  safeBeam := if .safeBeam ∈ ps then blank.safeBeam else s.safeBeam
  compose := if .compose ∈ ps then blank.compose else s.compose
  drive := if .drive ∈ ps then blank.drive else s.drive
  headroom := if .headroom ∈ ps then blank.headroom else s.headroom
  link := if .link ∈ ps then blank.link else s.link
  pixels := if .pixels ∈ ps then blank.pixels else s.pixels
  checker := if .checker ∈ ps then blank.checker else s.checker
  hk := if .hk ∈ ps then blank.hk else s.hk
  toll := if .toll ∈ ps then blank.toll else s.toll
  faults := if .faults ∈ ps then blank.faults else s.faults
  safety := if .safety ∈ ps then blank.safety else s.safety
  host := if .host ∈ ps then blank.host else s.host
  sinks := if .sinks ∈ ps then blank.sinks else s.sinks
  caravan := if .caravan ∈ ps then blank.caravan else s.caravan
  update := if .update ∈ ps then blank.update else s.update
  journal := if .journal ∈ ps then blank.journal else s.journal
  nvm := if .nvm ∈ ps then blank.nvm else s.nvm
  dram := if .dram ∈ ps then blank.dram else s.dram
  dramCorrected := if .dramCorrected ∈ ps then blank.dramCorrected else s.dramCorrected
  dramRate := if .dramRate ∈ ps then blank.dramRate else s.dramRate
  sramCorrected := if .sramCorrected ∈ ps then blank.sramCorrected else s.sramCorrected
  free := if .free ∈ ps then blank.free else s.free
  pending := if .pending ∈ ps then blank.pending else s.pending

theorem samePart_symm {p : Part} {s t : State} (h : SamePart p s t) : SamePart p t s := by
  cases p <;> exact Eq.symm h

theorem samePart_trans {p : Part} {s t u : State} (h : SamePart p s t) (h' : SamePart p t u) : SamePart p s u := by
  cases p <;> exact Eq.trans h' h

/-- Blanking the parts `ps` leaves every other part alone. -/
theorem samePart_outside_parts {p : Part} {ps : List Part} (hp : p ∉ ps) (s : State) :
    SamePart p s (Outside.parts ps s) := by
  cases p <;> exact if_neg hp

/-- States that agree outside the parts `ps` have every other part in common. -/
theorem samePart_of_outside_parts {p : Part} {ps : List Part} {s t : State} (hp : p ∉ ps)
    (h : Outside.parts ps t = Outside.parts ps s) : SamePart p s t := by
  have hs : SamePart p s (Outside.parts ps t) := h ▸ samePart_outside_parts hp s
  exact samePart_trans hs (samePart_symm (samePart_outside_parts hp t))

/-- A footprint `d` that lies within the parts `ps` speaks for them. -/
theorem parts_of_footprint {ps : List Part} {d : State → State} {s t : State} (e : d t = d s)
    (h : ∀ u, Outside.parts ps (d u) = Outside.parts ps u) : Outside.parts ps t = Outside.parts ps s :=
  lift h e

theorem parts_queue (u : State) :
    Outside.parts (allBut [.variant, .pending]) (Outside.queue u) = Outside.parts (allBut [.variant, .pending]) u := rfl

/-! ## The commands -/

/-- The footprint of each command (Laws/Commands.lean) lies within the parts that `touches` names for it. -/
theorem exec_outside_touches (c : Instr) (s : State) :
    Outside.parts (touches c) (outS (exec c s) s) = Outside.parts (touches c) s :=
  match c with
  | .porAssert => parts_of_footprint (execPorAssert_frame s) fun _ => rfl
  | .porRelease .. => parts_of_footprint (execPorRelease_frame _ s) fun _ => rfl
  | .resetNAssert => parts_of_footprint (execResetNAssert_frame s) fun _ => rfl
  | .resetNRelease .. => parts_of_footprint (execResetNRelease_frame _ _ s) fun _ => rfl
  | .optionLoadCommit .. => parts_of_footprint (execOptionLoadCommit_frame _ s) fun _ => rfl
  | .domainPowerDownStart .. => parts_of_footprint (execDomainPowerDownStart_frame _ s) parts_queue
  | .domainMinOffEnd .. => parts_of_footprint (execDomainMinOffEnd_frame _ s) fun _ => rfl
  | .domainPowerUpDone .. => parts_of_footprint (execDomainPowerUpDone_frame _ _ s) fun _ => rfl
  | .cpBootDone .. => parts_of_footprint (execCpBootDone_frame _ s) parts_queue
  | .smStartChecksDone .. => parts_of_footprint (execSmStartChecksDone_frame _ s) fun _ => rfl
  | .smRebootDone .. => parts_of_footprint (execSmRebootDone_frame _ s) fun _ => rfl
  | .lsBootDone .. => parts_of_footprint (execLsBootDone_frame _ _ s) parts_queue
  | .ctrlAckTimeout .. => parts_of_footprint (execCtrlAckTimeout_frame _ s) fun _ => rfl
  | .dramTrainingDone => parts_of_footprint (execDramTrainingDone_frame s) fun _ => rfl
  | .fullService .. => parts_of_footprint (execFullService_frame _ s) parts_queue
  | .wakeRecognised .. => parts_of_footprint (execWakeRecognised_frame _ s) fun _ => rfl
  | .hostVoteWrite .. => parts_of_footprint (execHostVoteWrite_frame _ _ s) parts_queue
  | .stopEntryTasksDone => parts_of_footprint (execStopEntryTasksDone_frame s) parts_queue
  | .supplyWarning .. => parts_of_footprint (execSupplyWarning_frame _ s) fun _ => rfl
  | .supplyOutOfWindow .. => parts_of_footprint (execSupplyOutOfWindow_frame _ s) parts_queue
  | .coreSupplyWaitTimeout => parts_of_footprint (execCoreSupplyWaitTimeout_frame s) fun _ => rfl
  | .clockFallback => parts_of_footprint (execClockFallback_frame s) fun _ => rfl
  | .ddbReadRequest .. => parts_of_footprint (execDdbReadRequest_frame _ _ s) fun _ => rfl
  | .ddbReadResponse .. => parts_of_footprint (execDdbReadResponse_frame _ _ s) fun _ => rfl
  | .ddbWrite .. => parts_of_footprint (execDdbWrite_frame _ _ s) fun _ => rfl
  | .ddbWriteAcknowledge .. => parts_of_footprint (execDdbWriteAcknowledge_frame _ _ s) fun _ => rfl
  | .ddbWaybill .. => parts_of_footprint (execDdbWaybill_frame _ _ s) fun _ => rfl
  | .ddbEvent .. => parts_of_footprint (execDdbEvent_frame _ _ s) fun _ => rfl
  | .ddbNegativeAcknowledge .. => parts_of_footprint (execDdbNegativeAcknowledge_frame _ _ s) fun _ => rfl
  | .ddbSilenceTimeout .. => parts_of_footprint (execDdbSilenceTimeout_frame _ s) fun _ => rfl
  | .eighthBoundary .. => parts_of_footprint (execEighthBoundary_frame _ _ s) parts_queue
  | .syncOutPulseEnd => parts_of_footprint (execSyncOutPulseEnd_frame s) fun _ => rfl
  | .sampleHkConversionDone .. => parts_of_footprint (execSampleHkConversionDone_frame _ s) fun _ => rfl
  | .almanacReloadDone .. => parts_of_footprint (execAlmanacReloadDone_frame _ s) fun _ => rfl
  | .almanacOneshotJournalRetry => parts_of_footprint (execAlmanacOneshotJournalRetry_frame s) fun _ => rfl
  | .almanacMaskRestart .. => parts_of_footprint (execAlmanacMaskRestart_frame _ _ s) parts_queue
  | .syncInEdge .. => parts_of_footprint (execSyncInEdge_frame _ _ s) fun _ => rfl
  | .uhlTimeSync .. => parts_of_footprint (execUhlTimeSync_frame _ _ _ s) fun _ => rfl
  | .referenceHoldover => parts_of_footprint (execReferenceHoldover_frame s) fun _ => rfl
  | .referencePrimaryReturn => parts_of_footprint (execReferencePrimaryReturn_frame s) fun _ => rfl
  | .frameRateWrite .. => parts_of_footprint (execFrameRateWrite_frame _ _ s) parts_queue
  | .rcMeasureWindow .. => parts_of_footprint (execRcMeasureWindow_frame _ s) fun _ => rfl
  | .leapWrapped => parts_of_footprint (execLeapWrapped_frame s) fun _ => rfl
  | .tileDecodeDone .. => parts_of_footprint (execTileDecodeDone_frame _ _ _ _ s) fun _ => rfl
  | .tileRefetchDone .. => parts_of_footprint (execTileRefetchDone_frame _ _ _ _ s) fun _ => rfl
  | .tileLateTimeout .. => parts_of_footprint (execTileLateTimeout_frame _ _ _ s) fun _ => rfl
  | .surfacePin .. => parts_of_footprint (execSurfacePin_frame _ _ s) parts_queue
  | .surfaceUnpin .. => parts_of_footprint (execSurfaceUnpin_frame _ _ s) parts_queue
  | .pinCopyDone .. => parts_of_footprint (execPinCopyDone_frame _ s) fun _ => rfl
  | .warpMeshWrite .. => parts_of_footprint (execWarpMeshWrite_frame _ _ _ s) parts_queue
  | .meshInversionDone .. => parts_of_footprint (execMeshInversionDone_frame _ s) fun _ => rfl
  | .plannerRecomputeDone => parts_of_footprint (execPlannerRecomputeDone_frame s) fun _ => rfl
  | .manifestCommit .. => parts_of_footprint (execManifestCommit_frame _ _ s) parts_queue
  | .manifestRefillDone => parts_of_footprint (execManifestRefillDone_frame s) fun _ => rfl
  | .shadeSwapRequest .. => parts_of_footprint (execShadeSwapRequest_frame _ _ s) parts_queue
  | .stagedBankRefillDone => parts_of_footprint (execStagedBankRefillDone_frame s) fun _ => rfl
  | .shadeStale => parts_of_footprint (execShadeStale_frame s) fun _ => rfl
  | .compositionModeWrite .. => parts_of_footprint (execCompositionModeWrite_frame _ _ s) parts_queue
  | .zoneRowStagingDone .. => parts_of_footprint (execZoneRowStagingDone_frame _ _ _ s) fun _ => rfl
  | .tileComposed .. => parts_of_footprint (execTileComposed_frame _ _ _ _ _ s) fun _ => rfl
  | .ceilingMapReloadDone => parts_of_footprint (execCeilingMapReloadDone_frame s) fun _ => rfl
  | .scanOutTileCheck .. => parts_of_footprint (execScanOutTileCheck_frame _ _ _ _ _ s) fun _ => rfl
  | .frameCompositionDone => parts_of_footprint (execFrameCompositionDone_frame s) fun _ => rfl
  | .composerStall => parts_of_footprint (execComposerStall_frame s) fun _ => rfl
  | .composerRestartDone => parts_of_footprint (execComposerRestartDone_frame s) fun _ => rfl
  | .tollComputationDone => parts_of_footprint (execTollComputationDone_frame s) fun _ => rfl
  | .ageAveragingPeriod => parts_of_footprint (execAgeAveragingPeriod_frame s) fun _ => rfl
  | .ageWriteback => parts_of_footprint (execAgeWriteback_frame s) fun _ => rfl
  | .fullScaleEstimate .. => parts_of_footprint (execFullScaleEstimate_frame _ s) fun _ => rfl
  | .housekeepingSlot .. => parts_of_footprint (execHousekeepingSlot_frame _ _ _ s) parts_queue
  | .portSupplyInsufficient .. => parts_of_footprint (execPortSupplyInsufficient_frame _ s) fun _ => rfl
  | .sensorDisqualify .. => parts_of_footprint (execSensorDisqualify_frame _ s) fun _ => rfl
  | .dieShutdownDecision .. => parts_of_footprint (execDieShutdownDecision_frame _ s) parts_queue
  | .dieRestart .. => parts_of_footprint (execDieRestart_frame _ s) parts_queue
  | .thermalStateFall .. => parts_of_footprint (execThermalStateFall_frame _ s) fun _ => rfl
  | .arrayThermalShutdown .. => parts_of_footprint (execArrayThermalShutdown_frame _ s) fun _ => rfl
  | .arrayRestart .. => parts_of_footprint (execArrayRestart_frame _ s) fun _ => rfl
  | .referenceDisagreement => parts_of_footprint (execReferenceDisagreement_frame s) fun _ => rfl
  | .arraySensorDisqualify .. => parts_of_footprint (execArraySensorDisqualify_frame _ _ s) fun _ => rfl
  | .tollModelDivergence .. => parts_of_footprint (execTollModelDivergence_frame _ s) fun _ => rfl
  | .modelDivergenceClear .. => parts_of_footprint (execModelDivergenceClear_frame _ s) fun _ => rfl
  | .bandStatus .. => parts_of_footprint (execBandStatus_frame _ _ s) fun _ => rfl
  | .vfSample .. => parts_of_footprint (execVfSample_frame _ _ s) fun _ => rfl
  | .temp .. => parts_of_footprint (execTemp_frame _ _ s) fun _ => rfl
  | .ack .. => parts_of_footprint (execAck_frame _ _ s) fun _ => rfl
  | .laneFail .. => parts_of_footprint (execLaneFail_frame _ _ s) fun _ => rfl
  | .holdExpired .. => parts_of_footprint (execHoldExpired_frame _ _ s) fun _ => rfl
  | .laneTxFault .. => parts_of_footprint (execLaneTxFault_frame _ _ s) fun _ => rfl
  | .returnLaneLost .. => parts_of_footprint (execReturnLaneLost_frame _ s) fun _ => rfl
  | .returnLaneGraceExpiry .. => parts_of_footprint (execReturnLaneGraceExpiry_frame _ s) fun _ => rfl
  | .returnReceiverRetrained .. => parts_of_footprint (execReturnReceiverRetrained_frame _ s) fun _ => rfl
  | .bandStatusMissed .. => parts_of_footprint (execBandStatusMissed_frame _ _ s) fun _ => rfl
  | .laneRetrain .. => parts_of_footprint (execLaneRetrain_frame _ _ s) fun _ => rfl
  | .laneRetrainDone .. => parts_of_footprint (execLaneRetrainDone_frame _ _ _ s) fun _ => rfl
  | .lsResumeTimeout .. => parts_of_footprint (execLsResumeTimeout_frame _ s) fun _ => rfl
  | .portFltAssert .. => parts_of_footprint (execPortFltAssert_frame _ s) fun _ => rfl
  | .confirmationStepStart .. => parts_of_footprint (execConfirmationStepStart_frame _ s) fun _ => rfl
  | .emitterDisableClear .. => parts_of_footprint (execEmitterDisableClear_frame _ _ _ s) parts_queue
  | .portEchoReenable .. => parts_of_footprint (execPortEchoReenable_frame _ s) fun _ => rfl
  | .smTileJudged .. => parts_of_footprint (execSmTileJudged_frame _ _ s) fun _ => rfl
  | .uhlVideoLine .. => parts_of_footprint (execUhlVideoLine_frame _ _ s) fun _ => rfl
  | .videoTileRowEncoded .. => parts_of_footprint (execVideoTileRowEncoded_frame _ s) fun _ => rfl
  | .videoPictureComplete .. => parts_of_footprint (execVideoPictureComplete_frame _ s) fun _ => rfl
  | .videoStreamBind .. => parts_of_footprint (execVideoStreamBind_frame _ _ _ s) parts_queue
  | .uhlShadeList .. => parts_of_footprint (execUhlShadeList_frame _ _ s) fun _ => rfl
  | .uhlManifestCommit .. => parts_of_footprint (execUhlManifestCommit_frame _ _ s) fun _ => rfl
  | .uhlOdWrite .. => parts_of_footprint (execUhlOdWrite_frame _ _ s) fun _ => rfl
  | .odWriteApply => parts_of_footprint (execOdWriteApply_frame s) parts_queue
  | .hostLaneTrained .. => parts_of_footprint (execHostLaneTrained_frame _ s) fun _ => rfl
  | .hostLaneFail .. => parts_of_footprint (execHostLaneFail_frame _ s) fun _ => rfl
  | .hostLaneRetrain _ => rfl
  | .controlLaneChange => parts_of_footprint (execControlLaneChange_frame s) fun _ => rfl
  | .hostIrqClear .. => parts_of_footprint (execHostIrqClear_frame _ _ s) parts_queue
  | .shpRead .. => parts_of_footprint (execShpRead_frame _ s) fun _ => rfl
  | .shpWrite .. => parts_of_footprint (execShpWrite_frame _ s) fun _ => rfl
  | .shpPoll .. => parts_of_footprint (execShpPoll_frame _ s) fun _ => rfl
  | .shpBurstRead .. => parts_of_footprint (execShpBurstRead_frame _ s) fun _ => rfl
  | .shpBurstWrite .. => parts_of_footprint (execShpBurstWrite_frame _ s) fun _ => rfl
  | .dictionaryRequestDone .. => parts_of_footprint (execDictionaryRequestDone_frame _ s) parts_queue
  | .odObjectWrite .. => parts_of_footprint (execOdObjectWrite_frame _ _ _ _ s) parts_queue
  | .canSingleFrame .. => parts_of_footprint (execCanSingleFrame_frame _ s) parts_queue
  | .canFirstFrame .. => parts_of_footprint (execCanFirstFrame_frame _ s) fun _ => rfl
  | .canConsecutiveFrame .. => parts_of_footprint (execCanConsecutiveFrame_frame _ s) fun _ => rfl
  | .canAbortFrame .. => parts_of_footprint (execCanAbortFrame_frame _ s) fun _ => rfl
  | .canTransferTimeout .. => parts_of_footprint (execCanTransferTimeout_frame _ s) fun _ => rfl
  | .canBusOff .. => parts_of_footprint (execCanBusOff_frame _ s) fun _ => rfl
  | .sbpSetPointer .. => parts_of_footprint (execSbpSetPointer_frame _ _ _ s) fun _ => rfl
  | .sbpWrite .. => parts_of_footprint (execSbpWrite_frame _ _ _ _ s) parts_queue
  | .sbpRead => parts_of_footprint (execSbpRead_frame s) fun _ => rfl
  | .sbpFetchDone => parts_of_footprint (execSbpFetchDone_frame s) fun _ => rfl
  | .sbpWakeMatch .. => parts_of_footprint (execSbpWakeMatch_frame _ s) fun _ => rfl
  | .hostLinkLoss => parts_of_footprint (execHostLinkLoss_frame s) fun _ => rfl
  | .sessionChallenge .. => parts_of_footprint (execSessionChallenge_frame _ s) fun _ => rfl
  | .sessionResponse .. => parts_of_footprint (execSessionResponse_frame _ _ s) parts_queue
  | .sessionClose .. => parts_of_footprint (execSessionClose_frame _ _ s) parts_queue
  | .sessionIdleTimeout => parts_of_footprint (execSessionIdleTimeout_frame s) fun _ => rfl
  | .challengeLockoutEnd => parts_of_footprint (execChallengeLockoutEnd_frame s) fun _ => rfl
  | .commissionerKeyWrite .. => parts_of_footprint (execCommissionerKeyWrite_frame _ _ s) parts_queue
  | .restoreDefaultsCustomer .. => parts_of_footprint (execRestoreDefaultsCustomer_frame _ s) parts_queue
  | .restoreDefaultsSafety .. => parts_of_footprint (execRestoreDefaultsSafety_frame _ s) parts_queue
  | .journalRecordCommitted .. => parts_of_footprint (execJournalRecordCommitted_frame _ _ s) parts_queue
  | .journalScanDone => parts_of_footprint (execJournalScanDone_frame s) fun _ => rfl
  | .journalCompactionDone => parts_of_footprint (execJournalCompactionDone_frame s) fun _ => rfl
  | .journalBudgetRefill => parts_of_footprint (execJournalBudgetRefill_frame s) fun _ => rfl
  | .optionBlockImageWrite .. => parts_of_footprint (execOptionBlockImageWrite_frame _ _ s) parts_queue
  | .optionImageProgrammed => parts_of_footprint (execOptionImageProgrammed_frame s) fun _ => rfl
  | .blockAck .. => parts_of_footprint (execBlockAck_frame _ _ _ s) parts_queue
  | .faultLatchClear .. => parts_of_footprint (execFaultLatchClear_frame _ _ s) parts_queue
  | .statusMapRowSelect .. => parts_of_footprint (execStatusMapRowSelect_frame _ _ _ s) parts_queue
  | .statusMapSnapshotDone .. => parts_of_footprint (execStatusMapSnapshotDone_frame _ s) fun _ => rfl
  | .dramErrorRateWindow .. => parts_of_footprint (execDramErrorRateWindow_frame _ s) fun _ => rfl
  | .waybillAckTimeout .. => parts_of_footprint (execWaybillAckTimeout_frame _ s) fun _ => rfl
  | .escalationExpiry _ p => parts_of_footprint (execEscalationExpiry_frame _ p s) fun _ => rfl
  | .holdSafeBeamTimeout => parts_of_footprint (execHoldSafeBeamTimeout_frame s) fun _ => rfl
  | .quietPeriodEnd .. => parts_of_footprint (execQuietPeriodEnd_frame _ _ s) parts_queue
  | .faultNPulseEnd => parts_of_footprint (execFaultNPulseEnd_frame s) fun _ => rfl
  | .cpWatchdogExpiry => parts_of_footprint (execCpWatchdogExpiry_frame s) parts_queue
  | .smWatchdogExpiry => parts_of_footprint (execSmWatchdogExpiry_frame s) fun _ => rfl
  | .lsWatchdogExpiry .. => parts_of_footprint (execLsWatchdogExpiry_frame _ s) fun _ => rfl
  | .dramFailure => parts_of_footprint (execDramFailure_frame s) fun _ => rfl
  | .dramReadTimeout => parts_of_footprint (execDramReadTimeout_frame s) fun _ => rfl
  | .dramRetrainDone => parts_of_footprint (execDramRetrainDone_frame s) fun _ => rfl
  | .sramUncorrectable .. => parts_of_footprint (execSramUncorrectable_frame _ s) parts_queue
  | .safeBeamCopyDone => parts_of_footprint (execSafeBeamCopyDone_frame s) fun _ => rfl
  | .blackBoxCommitDone .. => parts_of_footprint (execBlackBoxCommitDone_frame _ s) fun _ => rfl
  | .commitAllowanceRefill => parts_of_footprint (execCommitAllowanceRefill_frame s) fun _ => rfl
  | .beamReqChange .. => parts_of_footprint (execBeamReqChange_frame _ _ s) parts_queue
  | .beamReqDiscrepancy => parts_of_footprint (execBeamReqDiscrepancy_frame s) parts_queue
  | .discrepancyExit => parts_of_footprint (execDiscrepancyExit_frame s) parts_queue
  | .safeOutTest .. => parts_of_footprint (execSafeOutTest_frame _ _ _ s) fun _ => rfl
  | .commissioningCheckComputed => parts_of_footprint (execCommissioningCheckComputed_frame s) fun _ => rfl
  | .commissioningCheckConfirm .. => parts_of_footprint (execCommissioningCheckConfirm_frame _ _ s) parts_queue
  | .sinkPeriodBoundary .. => parts_of_footprint (execSinkPeriodBoundary_frame _ s) fun _ => rfl
  | .sinkOpenProbe .. => parts_of_footprint (execSinkOpenProbe_frame _ _ s) fun _ => rfl
  | .sinkShortTrip .. => parts_of_footprint (execSinkShortTrip_frame _ s) fun _ => rfl
  | .sinkShortRetry .. => parts_of_footprint (execSinkShortRetry_frame _ _ s) fun _ => rfl
  | .channelRetryClear .. => parts_of_footprint (execChannelRetryClear_frame _ _ _ _ s) fun _ => rfl
  | .sinkNeighbourTest .. => parts_of_footprint (execSinkNeighbourTest_frame _ _ s) fun _ => rfl
  | .sinkHeadroomCycleEnd .. => parts_of_footprint (execSinkHeadroomCycleEnd_frame _ s) fun _ => rfl
  | .sinkGroupShutdown .. => parts_of_footprint (execSinkGroupShutdown_frame _ s) fun _ => rfl
  | .sinkGroupRestart .. => parts_of_footprint (execSinkGroupRestart_frame _ s) fun _ => rfl
  | .caravanFrameSend .. => parts_of_footprint (execCaravanFrameSend_frame _ s) fun _ => rfl
  | .caravanFrameReceived .. => parts_of_footprint (execCaravanFrameReceived_frame _ s) fun _ => rfl
  | .caravanDictionaryRequest .. => parts_of_footprint (execCaravanDictionaryRequest_frame _ s) parts_queue
  | .caravanDictionaryResponse .. => parts_of_footprint (execCaravanDictionaryResponse_frame _ s) parts_queue
  | .caravanWaybill .. => parts_of_footprint (execCaravanWaybill_frame _ s) fun _ => rfl
  | .caravanImageStream .. => parts_of_footprint (execCaravanImageStream_frame _ s) parts_queue
  | .caravanStreamCredit .. => parts_of_footprint (execCaravanStreamCredit_frame _ s) fun _ => rfl
  | .caravanAnnounce .. => parts_of_footprint (execCaravanAnnounce_frame _ s) fun _ => rfl
  | .caravanMessageTimeout .. => parts_of_footprint (execCaravanMessageTimeout_frame _ s) fun _ => rfl
  | .caravanRingBreak => parts_of_footprint (execCaravanRingBreak_frame s) parts_queue
  | .caravanTokenLost => parts_of_footprint (execCaravanTokenLost_frame s) parts_queue
  | .caravanClosing => parts_of_footprint (execCaravanClosing_frame s) parts_queue
  | .caravanRelayTimeout => parts_of_footprint (execCaravanRelayTimeout_frame s) parts_queue
  | .caravanVoteRelease => parts_of_footprint (execCaravanVoteRelease_frame s) parts_queue
  | .svcOpen .. => parts_of_footprint (execSvcOpen_frame _ s) parts_queue
  | .slotEraseDone => parts_of_footprint (execSlotEraseDone_frame s) fun _ => rfl
  | .svcWrite .. => parts_of_footprint (execSvcWrite_frame _ s) parts_queue
  | .svcFinish .. => parts_of_footprint (execSvcFinish_frame _ s) parts_queue
  | .svcActivate .. => parts_of_footprint (execSvcActivate_frame _ s) parts_queue
  | .programStoreCopyDone => parts_of_footprint (execProgramStoreCopyDone_frame s) parts_queue
  | .svcStatus .. => parts_of_footprint (execSvcStatus_frame _ s) parts_queue
  | .svcClose .. => parts_of_footprint (execSvcClose_frame _ s) parts_queue
  | .svcSetRate .. => parts_of_footprint (execSvcSetRate_frame _ s) parts_queue
  | .svcRelaySelect .. => parts_of_footprint (execSvcRelaySelect_frame _ s) parts_queue
  | .svcIdleTimeout => parts_of_footprint (execSvcIdleTimeout_frame s) fun _ => rfl
  | .svcEnRise => parts_of_footprint (execSvcEnRise_frame s) fun _ => rfl
  | .lifeCycleMakerToken .. => parts_of_footprint (execLifeCycleMakerToken_frame _ _ s) parts_queue
  | .lifeCycleCustomerToken .. => parts_of_footprint (execLifeCycleCustomerToken_frame _ _ s) parts_queue
  | .lifeCycleConsentToken .. => parts_of_footprint (execLifeCycleConsentToken_frame _ _ s) parts_queue
  | .consentExpiry => parts_of_footprint (execConsentExpiry_frame s) fun _ => rfl
  | .safeBeamAreaBlockWrite .. => parts_of_footprint (execSafeBeamAreaBlockWrite_frame _ _ _ s) parts_queue
  | .safeBeamAreaCommit .. => parts_of_footprint (execSafeBeamAreaCommit_frame _ _ s) parts_queue
  | .safeBeamAreaProgrammed .. => parts_of_footprint (execSafeBeamAreaProgrammed_frame _ s) fun _ => rfl
  | .ddbIdleFrame .. => parts_of_footprint (execDdbIdleFrame_frame _ _ s) fun _ => rfl
  | .cpInterruptAcknowledge .. => parts_of_footprint (execCpInterruptAcknowledge_frame _ s) fun _ => rfl
  | .calibrationStepDone => parts_of_footprint (execCalibrationStepDone_frame s) parts_queue
  | .portFltRelease .. => parts_of_footprint (execPortFltRelease_frame _ s) fun _ => rfl
  | .svcEnFall => parts_of_footprint (execSvcEnFall_frame s) fun _ => rfl
  | .caravanSessionIdleTimeout => parts_of_footprint (execCaravanSessionIdleTimeout_frame s) fun _ => rfl
  | .relaySelectTimeout => parts_of_footprint (execRelaySelectTimeout_frame s) parts_queue

/-- No row of `touches` names the fused variant or the queue. -/
theorem variant_pending_untouched (c : Instr) : Part.variant ∉ touches c ∧ Part.pending ∉ touches c := by
  cases c <;> exact of_decide_eq_true rfl

/-- Settles O57: the footprint of the command lies within its row of `touches`. -/
theorem everyCommandTouchesOnlyItsParts : Obligations.EveryCommandTouchesOnlyItsParts := by
  intro c s t p hexec hp
  have hframe := exec_outside_touches c s
  rw [hexec] at hframe
  exact samePart_of_outside_parts hp hframe

/-- Settles O3: a frame of O57, because no command's row of `touches` names these two parts. -/
theorem commandsLeaveQueueAndFuse : Obligations.CommandsLeaveQueueAndFuse := by
  intro c s t hexec
  obtain ⟨hvariant, hpending⟩ := variant_pending_untouched c
  exact ⟨everyCommandTouchesOnlyItsParts c s t .pending hexec hpending,
    everyCommandTouchesOnlyItsParts c s t .variant hexec hvariant⟩

end Sys2Proof.Laws
end

section
/-!
DRAM as a memory: what a store leaves to be read, and that what is read determines a canonical memory (R30).
-/

namespace Sys2Proof.Laws
open Sys2Proof Sys2Proof.Machine

/-- What the canonical form says of the first entry and of the rest. -/
theorem memSorted_cons {lo a : Nat} {b : Byte} {m : List Host.Cell} :
    memSorted lo ((a, b) :: m) = true ↔ lo ≤ a ∧ a < dramSize ∧ b ≠ unlistedByte ∧ memSorted (a + 1) m = true := by
  simp [memSorted, and_assoc]

/-- An address below the bound of a sorted memory is not listed. -/
theorem memRead_below {x : Nat} : ∀ {m : List Host.Cell} {lo : Nat}, memSorted lo m = true → x < lo →
    memRead x m = unlistedByte
  | [], _, _, _ => rfl
  | (a, b) :: m, lo, h, hx => by
    obtain ⟨hlo, -, -, htail⟩ := memSorted_cons.1 h
    rw [memRead, if_neg (by omega)]
    exact memRead_below htail (by omega)

/-- The address before the first entry of a sorted memory is not listed. -/
theorem memRead_before_head {x lo a : Nat} {b : Byte} {m : List Host.Cell} (h : memSorted lo ((a, b) :: m) = true)
    (hx : x < a) : memRead x ((a, b) :: m) = unlistedByte := by
  obtain ⟨-, hrest⟩ := memSorted_cons.1 h
  exact memRead_below (memSorted_cons.2 ⟨Nat.le_refl a, hrest⟩) hx

/-- An insertion is read back at its address and nowhere else. -/
theorem memRead_memInsert (x a : Nat) (b : Byte) : ∀ {m : List Host.Cell} {lo : Nat}, memSorted lo m = true →
    memRead x (memInsert a b m) = if a = x then b else memRead x m
  | [], _, _ => by
    by_cases hb : b = unlistedByte <;> simp [memInsert, memRead, hb]
  | (a', b') :: m, lo, h => by
    obtain ⟨-, -, -, htail⟩ := memSorted_cons.1 h
    unfold memInsert
    rcases Nat.lt_trichotomy a a' with hlt | rfl | hgt
    · have hbefore := memRead_before_head h hlt
      rw [if_pos hlt]
      by_cases hx : a = x
      · subst hx
        by_cases hb : b = unlistedByte <;> simp [hb, hbefore, memRead]
      · by_cases hb : b = unlistedByte <;> simp [hb, memRead, hx]
    · have hafter : memRead a m = unlistedByte := memRead_below htail (Nat.lt_succ_self a)
      rw [if_neg (Nat.lt_irrefl a), if_pos rfl]
      by_cases hx : a = x
      · subst hx
        by_cases hb : b = unlistedByte <;> simp [hb, hafter, memRead]
      · by_cases hb : b = unlistedByte <;> simp [hb, memRead, hx]
    · rw [if_neg (by omega), if_neg (by omega)]
      simp only [memRead, memRead_memInsert x a b htail]
      by_cases hx : a' = x
      · simp [hx, show a ≠ x by omega]
      · simp [hx]

/-- A store of one byte is read back at its address when the DRAM fitted has it, and nowhere else. -/
theorem memRead_memWrite {m : List Host.Cell} (hm : Memory.wf m = true) (a : Nat) (b : Byte) (x : Nat) :
    memRead x (memWrite a b m) = if x = a ∧ a < dramSize then b else memRead x m := by
  unfold memWrite
  split
  · next ha => simp only [memRead_memInsert x a b hm, ha, and_true, eq_comm (a := a)]
  · next ha => simp only [ha, and_false, if_false]

/-- A run of bytes within the DRAM fitted is read back in its place. -/
theorem memRead_memWriteAll (x : Nat) : ∀ (bs : List Byte) (m : List Host.Cell) (a : Nat), Memory.wf m = true →
    a + bs.length ≤ dramSize →
    memRead x (memWriteAll a bs m) = if a ≤ x ∧ x < a + bs.length then nth 0 bs (x - a) else memRead x m
  | [], m, a, _, _ => by
    rw [if_neg (by simp only [List.length_nil]; omega)]
    rfl
  | b :: bs, m, a, hm, ha => by
    rw [List.length_cons] at ha ⊢
    rw [memWriteAll, memRead_memWriteAll x bs _ (a + 1) (memWrite_wf a b m hm) (by omega), memRead_memWrite hm]
    rcases Nat.lt_trichotomy x a with hlt | heq | hgt
    · rw [if_neg (by omega), if_neg (by omega), if_neg (by omega)]
    · subst heq
      rw [if_neg (by omega), if_pos ⟨rfl, by omega⟩, if_pos (by omega), Nat.sub_self]
      rfl
    · by_cases hin : x < a + 1 + bs.length
      · rw [if_pos (by omega), if_pos (by omega)]
        obtain ⟨k, rfl⟩ : ∃ k, x = a + 1 + k := ⟨x - (a + 1), by omega⟩
        rw [show a + 1 + k - (a + 1) = k by omega, show a + 1 + k - a = k + 1 by omega]
        rfl
      · rw [if_neg (by omega), if_neg (by omega), if_neg (by omega)]

/-- A run of bytes is read back whole. -/
theorem memReadAll_memWriteAll {m : List Host.Cell} (hm : Memory.wf m = true) (a : Nat) (bs : List Byte)
    (ha : a + bs.length ≤ dramSize) : memReadAll a bs.length (memWriteAll a bs m) = bs := by
  refine List.ext_getElem (by simp [memReadAll]) fun i _ hi => ?_
  simp only [memReadAll, List.getElem_map, List.getElem_range, memRead_memWriteAll _ bs m a hm ha]
  rw [if_pos (by omega), Nat.add_sub_cancel_left]
  simp [nth, List.getD_eq_getElem?_getD, hi]

/-- A memory in the canonical form is determined by what it reads. -/
theorem memSorted_ext : ∀ {m n : List Host.Cell} {lo : Nat}, memSorted lo m = true → memSorted lo n = true →
    (∀ x, memRead x m = memRead x n) → m = n
  | [], [], _, _, _, _ => rfl
  | [], (a, b) :: n, _, _, hn, h => by
    obtain ⟨-, -, hb, -⟩ := memSorted_cons.1 hn
    exact absurd (h a).symm (by simp [memRead, hb])
  | (a, b) :: m, [], _, hm, _, h => by
    obtain ⟨-, -, hb, -⟩ := memSorted_cons.1 hm
    exact absurd (h a) (by simp [memRead, hb])
  | (a, b) :: m, (a', b') :: n, _, hm, hn, h => by
    obtain ⟨-, -, hb, hmt⟩ := memSorted_cons.1 hm
    obtain ⟨-, -, hb', hnt⟩ := memSorted_cons.1 hn
    rcases Nat.lt_trichotomy a a' with hlt | rfl | hgt
    · exact absurd ((h a).trans (memRead_before_head hn hlt)) (by simp [memRead, hb])
    · have hhead : b = b' := by simpa [memRead] using h a
      have htail : m = n := memSorted_ext hmt hnt fun x => by
        by_cases hx : a = x
        · rw [memRead_below hmt (by omega), memRead_below hnt (by omega)]
        · simpa [memRead, hx] using h x
      rw [hhead, htail]
    · exact absurd ((h a').symm.trans (memRead_before_head hm hgt)) (by simp [memRead, hb'])

/-- Settles O55. -/
theorem memoryReadsWhatWasWritten : Obligations.MemoryReadsWhatWasWritten :=
  ⟨fun _ a b x hm => memRead_memWrite hm a b x, fun m a bs x hm ha => memRead_memWriteAll x bs m a hm ha,
    fun _ a bs hm ha => memReadAll_memWriteAll hm a bs ha, fun _ _ hm hn h => memSorted_ext hm hn h⟩

end Sys2Proof.Laws
end

section
/-!
The state after reset: what it holds, and that it meets the invariant.
-/

namespace Sys2Proof.Laws

open Sys2Proof Sys2Proof.Machine

/-- Settles O53: nothing is listed, waits or is active at the release of POR, so each part of the invariant is
evaluated. -/
theorem resetMeetsTheInvariant : Obligations.ResetMeetsTheInvariant :=
  ⟨reset_wf, rfl, by decide, by decide, by decide, rfl⟩

/-- Every port is as `LinkPort` starts it at the release of POR. -/
theorem reset_link (p : Port) : State.reset.link.get p = {} := by
  cases p <;> rfl

/-- No port may emit before LINK is on (R224). -/
theorem mayEmit_of_link_off {s : State} (h : isOn s .link = false) (p : Port) : mayEmit s p = false := by
  simp [mayEmit, h]

/-- Settles O52: the fields are evaluated, and PORTx_EN stays low on every port because LINK is off. -/
theorem resetLeavesTheStatedValues : Obligations.ResetLeavesTheStatedValues := by
  refine ⟨rfl, by decide, rfl, rfl, rfl, rfl, rfl, fun p => ?_, rfl, rfl, rfl, rfl, rfl, rfl, rfl, rfl⟩
  rw [reset_link]
  exact ⟨rfl, rfl, mayEmit_of_link_off rfl p⟩

end Sys2Proof.Laws
end

section
/-!
Reading one port's value after a write.
-/

namespace Sys2Proof.Laws

open Sys2Proof Sys2Proof.Machine

@[simp] theorem perPort_get_map {α β : Type} (x : PerPort α) (f : Port → α → β) (p : Port) :
    (x.map f).get p = f p (x.get p) := by
  cases p <;> rfl

@[simp] theorem perPort_get_set_self {α : Type} (x : PerPort α) (p : Port) (v : α) : (x.set p v).get p = v := by
  cases p <;> rfl

theorem perPort_get_set_of_ne {α : Type} (x : PerPort α) {p q : Port} (v : α) (h : q ≠ p) :
    (x.set p v).get q = x.get q := by
  cases p <;> cases q <;> simp_all [PerPort.get, PerPort.set]

@[simp] theorem perPort_get_modify_self {α : Type} (x : PerPort α) (p : Port) (f : α → α) :
    (x.modify p f).get p = f (x.get p) :=
  perPort_get_set_self _ _ _

theorem perPort_get_modify_of_ne {α : Type} (x : PerPort α) {p q : Port} (f : α → α) (h : q ≠ p) :
    (x.modify p f).get q = x.get q :=
  perPort_get_set_of_ne _ _ h

end Sys2Proof.Laws
end

section
/-!
What the invariant of the block reads of a state, and the rules by which an operation built of smaller ones keeps it.
-/

namespace Sys2Proof.Laws

open Sys2Proof Sys2Proof.Machine

/-- What the invariant reads of a state beside PORTx_EN. -/
def beyondEnables (s : State) : List (Nat × BitVec 256) × Nat × Nat × List Nat × List Host.Cell × SafeState :=
  (s.aon.ring, s.aon.commitAllowance, s.aon.journalBudget, s.hk.queue, s.dram, s.faults.safeState)

/-- What the invariant reads of a state. -/
def observed (s : State) :
    (List (Nat × BitVec 256) × Nat × Nat × List Nat × List Host.Cell × SafeState) × PerPort Bool :=
  (beyondEnables s, enables s)

theorem darkIsDark_iff (s : State) :
    darkIsDark s = true ↔ (s.faults.safeState = .dark → ∀ p, (s.link.get p).enable = false) := by
  have hall : (Port.all.all fun p => !(s.link.get p).enable) = true ↔ ∀ p, (s.link.get p).enable = false := by
    constructor
    · intro h p
      cases p <;> simp_all [Port.all]
    · intro h
      simp [h]
  by_cases hd : s.faults.safeState = .dark <;> simp [darkIsDark, hd, hall]

/-! ## Rules -/

/-- A state whose enables are high only where they were, and that is otherwise the same to the invariant. -/
theorem keeps_of_dimmer {s t : State} (h : Invariant s) (e : beyondEnables t = beyondEnables s)
    (hen : ∀ p, (t.link.get p).enable = true → (s.link.get p).enable = true) : Invariant t := by
  obtain ⟨hdram, hring, hallow, hbudget, hqueue, hdark⟩ := h
  simp only [beyondEnables, Prod.mk.injEq] at e
  obtain ⟨ering, eallow, ebudget, equeue, edram, esafe⟩ := e
  have hdim : darkIsDark t = true := (darkIsDark_iff t).2 fun hd p => by
    have hlow := (darkIsDark_iff s).1 hdark (esafe ▸ hd) p
    exact Bool.eq_false_iff.2 fun hhigh => by simp [hen p hhigh] at hlow
  have hplaced : ringPlaced t = true := by rwa [ringPlaced, ering]
  exact ⟨edram ▸ hdram, hplaced, eallow ▸ hallow, ebudget ▸ hbudget, equeue ▸ hqueue, hdim⟩

/-- A state that is the same to the invariant. -/
theorem keeps_of_observed {s t : State} (h : Invariant s) (e : observed t = observed s) : Invariant t := by
  obtain ⟨ebeyond, een⟩ := Prod.mk.inj e
  exact keeps_of_dimmer h ebeyond fun p => by rw [← enables_get, ← enables_get, een]; exact id

/-- An operation whose footprint lies outside what the invariant reads. -/
theorem keeps_of_frame {s t : State} {c : State → State} (e : c t = c s) (hc : ∀ u, observed (c u) = observed u)
    (h : Invariant s) : Invariant t :=
  keeps_of_observed h (by rw [← hc, e, hc])

theorem keeps_ite {c : Prop} [Decidable c] {a b : State} (ha : Invariant a) (hb : Invariant b) :
    Invariant (if c then a else b) := by
  split
  · exact ha
  · exact hb

/-- Both branches go on from the same state `u`. -/
theorem keeps_ite_of {c : Prop} [Decidable c] {a b u : State} (ha : Invariant u → Invariant a)
    (hb : Invariant u → Invariant b) (h : Invariant u) : Invariant (if c then a else b) :=
  keeps_ite (ha h) (hb h)

theorem keeps_snd_ite {α : Type} {c : Prop} [Decidable c] {a b : α × State} (ha : Invariant a.2)
    (hb : Invariant b.2) : Invariant (if c then a else b).2 := by
  split
  · exact ha
  · exact hb

/-- The second part of a pair that an operation answers. -/
theorem keeps_of_snd {α : Type} {x : α × State} {a : α} {s : State} (e : x = (a, s)) (h : Invariant x.2) :
    Invariant s := by
  rw [e] at h
  exact h

theorem keeps_foldl {α : Type} {g : State → α → State} (hg : ∀ s x, Invariant s → Invariant (g s x))
    {l : List α} {s : State} (h : Invariant s) : Invariant (l.foldl g s) := by
  induction l generalizing s with
  | nil => exact h
  | cons x l ih => exact ih (hg s x h)

/-! ## The ring, the allowance and the budget of the black box -/

theorem nextBoxIndex_lt (n : Nat) : nextBoxIndex n < 512 := by
  unfold nextBoxIndex
  split
  · decide
  · exact Nat.mod_lt _ (by decide)

theorem putEntry_all {α : Type} {q : Nat × α → Bool} {k : Nat} {v : α} (hk : q (k, v) = true) :
    ∀ {t : List (Nat × α)}, t.all q = true → (putEntry k v t).all q = true
  | [], _ => by simp [putEntry, hk]
  | (k', v') :: t, h => by
    obtain ⟨hhead, htail⟩ : q (k', v') = true ∧ t.all q = true := by simpa using h
    unfold putEntry
    split
    · simpa [hk] using ⟨hhead, by simpa using htail⟩
    · split
      · simpa [hk] using htail
      · simpa [hhead] using putEntry_all hk htail

/-- A new entry takes a place of the ring (R366). -/
theorem writeEntry_keeps {ad ty waybill context s} (h : Invariant s) :
    Invariant (writeEntry ad ty waybill context s) := by
  obtain ⟨hdram, hring, hrest⟩ := h
  exact ⟨hdram, putEntry_all (by simpa using nextBoxIndex_lt _) hring, hrest⟩

/-- A commit spends one unit of the allowance (R371). -/
theorem startCommit_keeps {waybill s} (h : Invariant s) : Invariant (startCommit waybill s) := by
  obtain ⟨hdram, hring, hallow, hrest⟩ := h
  exact ⟨hdram, hring, Nat.le_trans (Nat.sub_le _ _) hallow, hrest⟩

/-- Spending the journal's budget (R492). -/
theorem spendBudget_keeps {s} (n : Nat) (h : Invariant s) :
    Invariant { s with aon := { s.aon with journalBudget := s.aon.journalBudget - n } } := by
  obtain ⟨hdram, hring, hallow, hbudget, hrest⟩ := h
  exact ⟨hdram, hring, hallow, Nat.le_trans (Nat.sub_le _ _) hbudget, hrest⟩

/-! ## PORTx_EN -/

/-- An operation on one port's link raises no enable. -/
theorem onLink_keeps {p : Port} {f : LinkPort → LinkPort} {s : State}
    (h : Invariant s) (hf : ∀ l, (f l).enable = true → l.enable = true) :
    Invariant (onLink p f s) :=
  keeps_of_dimmer h rfl fun q => by
    by_cases hq : q = p
    · subst hq
      simpa only [onLink, perPort_get_modify_self] using hf _
    · simp only [onLink, perPort_get_modify_of_ne _ _ hq, imp_self]

/-- An operation on every port's link raises no enable. -/
theorem mapLink_keeps {s : State} (f : Port → LinkPort → LinkPort)
    (hf : ∀ p l, (f p l).enable = true → l.enable = true) (h : Invariant s) :
    Invariant { s with link := s.link.map f } :=
  keeps_of_dimmer h rfl fun q => by rw [perPort_get_map]; exact hf _ _

/-- The ends of the die-to-die bridge are nothing to the invariant. -/
theorem onDdb_keeps {die f s} (h : Invariant s) : Invariant (onDdb die f s) := by
  cases die
  all_goals exact keeps_of_observed h rfl

theorem dropEnables_keeps {s} (h : Invariant s) : Invariant (dropEnables s) :=
  mapLink_keeps _ (fun p l => by split <;> simp) h

/-- No port may emit in the dark safe state (R360). -/
theorem mayEmit_dark {s : State} (h : s.faults.safeState = .dark) (p : Port) : mayEmit s p = false := by
  simp [mayEmit, h]

theorem raiseEnables_keeps {s} (h : Invariant s) : Invariant (raiseEnables s) := by
  obtain ⟨hdram, hring, hallow, hbudget, hqueue, hdark⟩ := h
  refine ⟨hdram, hring, hallow, hbudget, hqueue, (darkIsDark_iff _).2 fun hd p => ?_⟩
  have hlow := (darkIsDark_iff s).1 hdark hd p
  have hno : mayEmit s p = false := mayEmit_dark (s := s) hd p
  simpa only [raiseEnables, perPort_get_map, hno, Bool.false_eq_true, if_false] using hlow

/-- The governing safe state is applied, and the dark one takes every enable with it (R360). -/
theorem settle_keeps {s} (h : Invariant s) : Invariant (settle s) := by
  obtain ⟨hdram, hring, hallow, hbudget, hqueue, -⟩ := h
  have hf := settle_frame s
  have haon : (settle s).aon = s.aon := (congrArg State.aon hf :)
  have hhk : (settle s).hk = s.hk := (congrArg State.hk hf :)
  have hmem : (settle s).dram = s.dram := (congrArg State.dram hf :)
  refine ⟨hmem ▸ hdram, by rwa [ringPlaced, haon], haon ▸ hallow, haon ▸ hbudget, hhk ▸ hqueue,
    (darkIsDark_iff _).2 fun hd p => ?_⟩
  rw [settle_enable, mayEmit_dark (s := enterSafeState (governing s) s) hd, Bool.and_false]

theorem ctrl_keeps {p op payload s} (h : Invariant s) : Invariant (ctrl p op payload s) :=
  onLink_keeps h fun l => by rw [sendCtrl_enable]; exact id

theorem sendHold_keeps {p s} (h : Invariant s) : Invariant (sendHold p s) :=
  onLink_keeps h fun l => by
    repeat' split
    all_goals exact id

/-! ## Sending leaves PORTx_EN alone -/

theorem sendSeed_enable (k guarded seed epoch line l) : (sendSeed k guarded seed epoch line l).enable = l.enable := rfl

theorem sendZone_enable (zr epoch line codes l) : (sendZone zr epoch line codes l).enable = l.enable := rfl

theorem sendCtrlNow_enable (row epoch op payload l) : (sendCtrlNow row epoch op payload l).enable = l.enable := rfl

theorem sendTrimRow_enable (row epoch immediate trim l) : (sendTrimRow row epoch immediate trim l).enable = l.enable :=
  foldl_keeps LinkPort.enable (fun l _ => (rfl : (sendPacket _ _ _ _ _ _ l).enable = l.enable)) _ _

theorem transmit_enable (p clock l) : (transmit p clock l).enable = l.enable := by
  unfold transmit
  dsimp only
  split <;> rfl

theorem lineHold_enable (s l) : (lineHold s l).enable = l.enable := by
  unfold lineHold
  split <;> rfl

theorem flushCtrls_enable (row epoch) : ∀ q l, (flushCtrls row epoch q l).enable = l.enable
  | [], _ => rfl
  | (op, payload) :: rest, l => by
    unfold flushCtrls
    split
    · rw [flushCtrls_enable, sendCtrlNow_enable]
    · rfl

theorem sendRow_enable (r epoch ds l) : (sendRow r epoch ds l).enable = l.enable :=
  foldl_keeps LinkPort.enable (fun _ _ => by split <;> rfl) _ _

theorem noteSent_enable (line row l) : (noteSent line row l).enable = l.enable := rfl

theorem noteSafeRow_enable (r loaded l) : (noteSafeRow r loaded l).enable = l.enable := by
  unfold noteSafeRow
  dsimp only
  split <;> rfl

theorem lineRow_enable (s p l) : (lineRow s p l).enable = l.enable := by
  unfold lineRow
  dsimp only
  split
  · rw [noteSafeRow_enable, noteSent_enable, sendRow_enable]
  · rw [noteSent_enable]

theorem lineZone_enable (s p changed l) : (lineZone s p changed l).enable = l.enable :=
  foldl_keeps LinkPort.enable (fun _ _ => sendZone_enable _ _ _ _ _) _ _

theorem lineSeed_enable (s l) : (lineSeed s l).enable = l.enable := by
  unfold lineSeed
  dsimp only
  split <;> rfl

theorem lineTrimCommit_enable (s l) : (lineTrimCommit s l).enable = l.enable := by
  unfold lineTrimCommit
  split <;> rfl

theorem sendTrimBlock_enable (s p row b l) : (sendTrimBlock s p row b l).enable = l.enable := rfl

theorem lineTrims_enable (s p l) : (lineTrims s p l).enable = l.enable := by
  unfold lineTrims
  split
  · exact foldl_keeps LinkPort.enable (fun _ _ => sendTrimBlock_enable _ _ _ _ _) _ l
  · rfl

/-- What a port sends in a line leaves its enable alone. -/
theorem portLine_enable (s p changed l) : (portLine s p changed l).enable = l.enable := by
  unfold portLine
  dsimp only
  repeat' split
  all_goals simp only [lineTrims_enable, flushCtrls_enable, lineTrimCommit_enable, lineSeed_enable,
    lineZone_enable, lineRow_enable]

end Sys2Proof.Laws
end

section
/-!
Every shared operation of the model keeps the invariant of the block: one lemma per operation, each composed of those of
the operations that it is built of. An operation whose footprint (Laws/Frames) holds nothing of what the invariant reads
goes by `keeps_of_frame`.
-/

namespace Sys2Proof.Laws

open Sys2Proof Sys2Proof.Machine

/-! ## Operations whose footprint the invariant does not read -/

theorem setIrq_keeps {bit s} (inv : Invariant s) : Invariant (setIrq bit s) :=
  keeps_of_frame (setIrq_frame _ _) (fun _ => rfl) inv

theorem caravanWaybill_keeps {w s} (inv : Invariant s) : Invariant (caravanWaybill w s) :=
  keeps_of_frame (caravanWaybill_frame _ _) (fun _ => rfl) inv

theorem releaseHeld_keeps {bus s} (inv : Invariant s) : Invariant (releaseHeld bus s) :=
  keeps_of_frame (releaseHeld_frame _ _) (fun _ => rfl) inv

theorem finishPin_keeps {f s} (inv : Invariant s) : Invariant (finishPin f s) :=
  keeps_of_frame (finishPin_frame _ _) (fun _ => rfl) inv

theorem enterRun_keeps {r s} (inv : Invariant s) : Invariant (enterRun r s) :=
  keeps_of_frame (enterRun_frame _ _) (fun _ => rfl) inv

theorem putTile_keeps {p n f tile x s} (inv : Invariant s) : Invariant (putTile p n f tile x s) :=
  keeps_of_frame (putTile_frame _ _ _ _ _ _) (fun _ => rfl) inv

theorem spoilCached_keeps {p n tile s} (inv : Invariant s) : Invariant (spoilCached p n tile s) :=
  keeps_of_frame (spoilCached_frame _ _ _ _) (fun _ => rfl) inv

theorem onCompose_keeps {f s} (inv : Invariant s) : Invariant (onCompose f s) :=
  keeps_of_frame (onCompose_frame _ _) (fun _ => rfl) inv

theorem clearValid_keeps {k s} (inv : Invariant s) : Invariant (clearValid k s) :=
  keeps_of_frame (clearValid_frame _ _) (fun _ => rfl) inv

theorem noteConflicts_keeps {n s} (inv : Invariant s) : Invariant (noteConflicts n s) :=
  keeps_of_frame (noteConflicts_frame _ _) (fun _ => rfl) inv

theorem raiseSupply_keeps {p a b s} (inv : Invariant s) : Invariant (raiseSupply p a b s) :=
  keeps_of_frame (raiseSupply_frame _ _ _ _) (fun _ => rfl) inv

theorem beginBand_keeps {band s0} (inv : Invariant s0) : Invariant (beginBand band s0) :=
  keeps_of_frame (beginBand_frame _ _) (fun _ => rfl) inv

theorem putChecked_keeps {frame p tile racing low duties s} (inv : Invariant s) :
    Invariant (putChecked frame p tile racing low duties s) :=
  keeps_of_frame (putChecked_frame _ _ _ _ _ _ _) (fun _ => rfl) inv

theorem onShade_keeps {f s} (inv : Invariant s) : Invariant (onShade f s) :=
  keeps_of_frame (onShade_frame _ _) (fun _ => rfl) inv

theorem onManifest_keeps {f s} (inv : Invariant s) : Invariant (onManifest f s) :=
  keeps_of_frame (onManifest_frame _ _) (fun _ => rfl) inv

theorem requestCommit_keeps {s} (inv : Invariant s) : Invariant (requestCommit s) :=
  keeps_of_frame (requestCommit_frame _) (fun _ => rfl) inv

theorem startModeChange_keeps {s} (inv : Invariant s) : Invariant (startModeChange s) :=
  keeps_of_frame (startModeChange_frame _) (fun _ => rfl) inv

theorem onHost_keeps {f s} (inv : Invariant s) : Invariant (onHost f s) :=
  keeps_of_frame (onHost_frame _ _) (fun _ => rfl) inv

theorem discardRecords_keeps {s} (inv : Invariant s) : Invariant (discardRecords s) :=
  keeps_of_frame (discardRecords_frame _) (fun _ => rfl) inv

theorem answer_keeps {via write index sub status bs s} (inv : Invariant s) :
    Invariant (answer via write index sub status bs s) :=
  keeps_of_frame (answer_frame _ _ _ _ _ _ _) (fun _ => rfl) inv

theorem answerWaiter_keeps {w status s} (inv : Invariant s) : Invariant (answerWaiter w status s) :=
  keeps_of_frame (answerWaiter_frame _ _ _) (fun _ => rfl) inv

theorem onAccess_keeps {f s} (inv : Invariant s) : Invariant (onAccess f s) :=
  keeps_of_frame (onAccess_frame _ _) (fun _ => rfl) inv

theorem tokenResult_keeps {code s} (inv : Invariant s) : Invariant (tokenResult code s) :=
  keeps_of_frame (tokenResult_frame _ _) (fun _ => rfl) inv

theorem closeSession_keeps {s} (inv : Invariant s) : Invariant (closeSession s) :=
  keeps_of_frame (closeSession_frame _) (fun _ => rfl) inv

theorem appendRecord_keeps {r bytes s} (inv : Invariant s) : Invariant (appendRecord r bytes s) :=
  keeps_of_frame (appendRecord_frame _ _ _) (fun _ => rfl) inv

theorem checkFill_keeps {s} (inv : Invariant s) : Invariant (checkFill s) :=
  keeps_of_frame (checkFill_frame _) (fun _ => rfl) inv

theorem cutRunning_keeps {s} (inv : Invariant s) : Invariant (cutRunning s) :=
  keeps_of_frame (cutRunning_frame _) (fun _ => rfl) inv

theorem onPixels_keeps {p f s} (inv : Invariant s) : Invariant (onPixels p f s) :=
  keeps_of_frame (onPixels_frame _ _ _) (fun _ => rfl) inv

theorem putRecord_keeps {p code pixel s} (inv : Invariant s) : Invariant (putRecord p code pixel s) :=
  keeps_of_frame (putRecord_frame _ _ _ _) (fun _ => rfl) inv

theorem concealAll_keeps {s} (inv : Invariant s) : Invariant (concealAll s) :=
  keeps_of_frame (concealAll_frame _) (fun _ => rfl) inv

theorem rebuildSteps_keeps {p s} (inv : Invariant s) : Invariant (rebuildSteps p s) :=
  keeps_of_frame (rebuildSteps_frame _ _) (fun _ => rfl) inv

theorem onFullScale_keeps {p f s} (inv : Invariant s) : Invariant (onFullScale p f s) :=
  keeps_of_frame (onFullScale_frame _ _ _) (fun _ => rfl) inv

theorem onSink_keeps {c f s} (inv : Invariant s) : Invariant (onSink c f s) :=
  keeps_of_frame (onSink_frame _ _ _) (fun _ => rfl) inv

theorem resumeGroup_keeps {group s} (inv : Invariant s) : Invariant (resumeGroup group s) :=
  keeps_of_frame (resumeGroup_frame _ _) (fun _ => rfl) inv

theorem onModel_keeps {p f s} (inv : Invariant s) : Invariant (onModel p f s) :=
  keeps_of_frame (onModel_frame _ _ _) (fun _ => rfl) inv

theorem onRing_keeps {f s} (inv : Invariant s) : Invariant (onRing f s) :=
  keeps_of_frame (onRing_frame _ _) (fun _ => rfl) inv

theorem restoreTime_keeps {s} (inv : Invariant s) : Invariant (restoreTime s) :=
  keeps_of_frame (restoreTime_frame _) (fun _ => rfl) inv

theorem onPower_keeps {f s} (inv : Invariant s) : Invariant (onPower f s) :=
  keeps_of_frame (onPower_frame _ _) (fun _ => rfl) inv

theorem setDomain_keeps {d x1 s} (inv : Invariant s) : Invariant (setDomain d x1 s) :=
  keeps_of_frame (setDomain_frame _ _ _) (fun _ => rfl) inv

theorem stopScan_keeps {s} (inv : Invariant s) : Invariant (stopScan s) :=
  keeps_of_frame (stopScan_frame _) (fun _ => rfl) inv

theorem onVotes_keeps {f s} (inv : Invariant s) : Invariant (onVotes f s) :=
  keeps_of_frame (onVotes_frame _ _) (fun _ => rfl) inv

theorem powerUpVoted_keeps {s} (inv : Invariant s) : Invariant (powerUpVoted s) :=
  keeps_of_frame (powerUpVoted_frame _) (fun _ => rfl) inv

theorem onUnits_keeps {f s} (inv : Invariant s) : Invariant (onUnits f s) :=
  keeps_of_frame (onUnits_frame _ _) (fun _ => rfl) inv

theorem onAlmanac_keeps {f s} (inv : Invariant s) : Invariant (onAlmanac f s) :=
  keeps_of_frame (onAlmanac_frame _ _) (fun _ => rfl) inv

theorem onSafety_keeps {f s} (inv : Invariant s) : Invariant (onSafety f s) :=
  keeps_of_frame (onSafety_frame _ _) (fun _ => rfl) inv

theorem agreeRequest_keeps {s} (inv : Invariant s) : Invariant (agreeRequest s) :=
  keeps_of_frame (agreeRequest_frame _) (fun _ => rfl) inv

theorem startCommissioning_keeps {s} (inv : Invariant s) : Invariant (startCommissioning s) :=
  keeps_of_frame (startCommissioning_frame _) (fun _ => rfl) inv

theorem putBank_keeps {n x1 s} (inv : Invariant s) : Invariant (putBank n x1 s) :=
  keeps_of_frame (putBank_frame _ _ _) (fun _ => rfl) inv

theorem putSlot_keeps {n x1 s} (inv : Invariant s) : Invariant (putSlot n x1 s) :=
  keeps_of_frame (putSlot_frame _ _ _) (fun _ => rfl) inv

theorem setCfg_keeps {index sub v s} (inv : Invariant s) : Invariant (setCfg index sub v s) :=
  keeps_of_frame (setCfg_frame _ _ _ _) (fun _ => rfl) inv

theorem startSequence_keeps {por s} (inv : Invariant s) : Invariant (startSequence por s) :=
  keeps_of_frame (startSequence_frame _ _) (fun _ => rfl) inv

theorem invertMeshes_keeps {s} (inv : Invariant s) : Invariant (invertMeshes s) :=
  keeps_of_frame (invertMeshes_frame _) (fun _ => rfl) inv

theorem onUpdate_keeps {f s} (inv : Invariant s) : Invariant (onUpdate f s) :=
  keeps_of_frame (onUpdate_frame _ _) (fun _ => rfl) inv

theorem respondSvc_keeps {src op tag status rest s} (inv : Invariant s) :
    Invariant (respondSvc src op tag status rest s) :=
  keeps_of_frame (respondSvc_frame _ _ _ _ _ _) (fun _ => rfl) inv

theorem closeUpdate_keeps {s} (inv : Invariant s) : Invariant (closeUpdate s) :=
  keeps_of_frame (closeUpdate_frame _) (fun _ => rfl) inv

theorem answerRelay_keeps {r status bs s} (inv : Invariant s) : Invariant (answerRelay r status bs s) :=
  keeps_of_frame (answerRelay_frame _ _ _ _) (fun _ => rfl) inv

theorem stopActivation_keeps {s} (inv : Invariant s) : Invariant (stopActivation s) :=
  keeps_of_frame (stopActivation_frame _) (fun _ => rfl) inv

theorem restoreMode_keeps {s} (inv : Invariant s) : Invariant (restoreMode s) :=
  keeps_of_frame (restoreMode_frame _) (fun _ => rfl) inv

theorem restoreRate_keeps {s} (inv : Invariant s) : Invariant (restoreRate s) :=
  keeps_of_frame (restoreRate_frame _) (fun _ => rfl) inv

theorem breakActivation_keeps {s} (inv : Invariant s) : Invariant (breakActivation s) :=
  keeps_of_frame (breakActivation_frame _) (fun _ => rfl) inv

theorem refuseWrite_keeps {status w s} (inv : Invariant s) : Invariant (refuseWrite status w s) :=
  keeps_of_frame (refuseWrite_frame _ _ _) (fun _ => rfl) inv

theorem spoilRecord_keeps {w s} (inv : Invariant s) : Invariant (spoilRecord w s) :=
  keeps_of_frame (spoilRecord_frame _ _) (fun _ => rfl) inv

theorem enterRing_keeps {f s} (inv : Invariant s) : Invariant (enterRing f s) :=
  keeps_of_frame (enterRing_frame _ _) (fun _ => rfl) inv

theorem badFrame_keeps {s} (inv : Invariant s) : Invariant (badFrame s) :=
  keeps_of_frame (badFrame_frame _) (fun _ => rfl) inv

theorem takeWords_keeps {f s} (inv : Invariant s) : Invariant (takeWords f s) :=
  keeps_of_frame (takeWords_frame _ _) (fun _ => rfl) inv

theorem relayArrived_keeps {s} (inv : Invariant s) : Invariant (relayArrived s) :=
  keeps_of_frame (relayArrived_frame _) (fun _ => rfl) inv

theorem countSram_keeps {words s} (inv : Invariant s) : Invariant (countSram words s) :=
  keeps_of_frame (countSram_frame _ _) (fun _ => rfl) inv

theorem chooseZones_keeps {band s} (inv : Invariant s) : Invariant (chooseZones band s) :=
  keeps_of_frame (chooseZones_frame _ _) (fun _ => rfl) inv

theorem requestRead_keeps {via index sub s} (inv : Invariant s) : Invariant (requestRead via index sub s) :=
  keeps_of_frame (requestRead_frame _ _ _ _) (fun _ => rfl) inv

theorem onLane_keeps {k f s} (inv : Invariant s) : Invariant (onLane k f s) :=
  keeps_of_frame (onLane_frame _ _ _) (fun _ => rfl) inv

theorem beginPicture_keeps {k f picture s} (inv : Invariant s) : Invariant (beginPicture k f picture s) :=
  keeps_of_frame (beginPicture_frame _ _ _ _) (fun _ => rfl) inv

theorem takeLine_keeps {k f n payload s} (inv : Invariant s) : Invariant (takeLine k f n payload s) :=
  keeps_of_frame (takeLine_frame _ _ _ _ _) (fun _ => rfl) inv

theorem onSbp_keeps {f s} (inv : Invariant s) : Invariant (onSbp f s) :=
  keeps_of_frame (onSbp_frame _ _) (fun _ => rfl) inv

theorem sbpReturn_keeps {status bs s} (inv : Invariant s) : Invariant (sbpReturn status bs s) :=
  keeps_of_frame (sbpReturn_frame _ _ _) (fun _ => rfl) inv

theorem sbpBad_keeps {s} (inv : Invariant s) : Invariant (sbpBad s) :=
  keeps_of_frame (sbpBad_frame _) (fun _ => rfl) inv

theorem shpOut_keeps {clocked s} (inv : Invariant s) : Invariant (shpOut clocked s) :=
  keeps_of_frame (shpOut_frame _ _) (fun _ => rfl) inv

theorem moveConfirm_keeps {p i step tries s} (inv : Invariant s) : Invariant (moveConfirm p i step tries s) :=
  keeps_of_frame (moveConfirm_frame _ _ _ _ _) (fun _ => rfl) inv

theorem endConfirm_keeps {p i s} (inv : Invariant s) : Invariant (endConfirm p i s) :=
  keeps_of_frame (endConfirm_frame _ _ _) (fun _ => rfl) inv

theorem addCandidate_keeps {p i s} (inv : Invariant s) : Invariant (addCandidate p i s) :=
  keeps_of_frame (addCandidate_frame _ _ _) (fun _ => rfl) inv

/-! ## The fault record: commits, raises and exits -/

theorem commitEntry_keeps {waybill outcome s} (inv : Invariant s) : Invariant (commitEntry waybill outcome s) :=
  writeEntry_keeps inv

theorem skipCommit_keeps {waybill s} (inv : Invariant s) : Invariant (skipCommit waybill s) :=
  commitEntry_keeps (keeps_of_observed inv rfl)

theorem writeBoot_keeps {cause port s} (inv : Invariant s) : Invariant (writeBoot cause port s) :=
  writeEntry_keeps (keeps_of_observed inv rfl)

theorem sendStart_keeps {p epoch s} (inv : Invariant s) : Invariant (sendStart p epoch s) :=
  onLink_keeps (ctrl_keeps inv) (fun _ => id)

theorem markAbsent_keeps {k u s} (inv : Invariant s) : Invariant (markAbsent k u s) :=
  keeps_of_observed inv rfl

theorem putBlock_keeps {b s} (inv : Invariant s) : Invariant (putBlock b s) :=
  keeps_of_observed inv rfl

theorem noteBlock_keeps {u k s} (inv : Invariant s) : Invariant (noteBlock u k s) :=
  putBlock_keeps inv

theorem raiseEntry_keeps {k u i w s} (inv : Invariant s) : Invariant (raiseEntry k u i w s) :=
  keeps_ite (keeps_of_observed (writeEntry_keeps inv) rfl) (writeEntry_keeps inv)

theorem ddbSend_keeps {die ty payload s} (inv : Invariant s) : Invariant (ddbSend die ty payload s) :=
  keeps_ite (onDdb_keeps inv) inv

theorem ddbWaybillOut_keeps {ad w s} (inv : Invariant s) : Invariant (ddbWaybillOut ad w s) :=
  keeps_foldl (fun _ _ => ddbSend_keeps) inv

theorem canWaybill_keeps {node w s} (inv : Invariant s) : Invariant (canWaybill node w s) :=
  keeps_ite_of id (fun h => keeps_ite h h) (keeps_of_observed inv rfl)

theorem sendWaybill_keeps {ad reason w s} (inv : Invariant s) : Invariant (sendWaybill ad reason w s) :=
  keeps_ite_of (fun h => canWaybill_keeps (caravanWaybill_keeps h)) id (writeEntry_keeps
    (ddbWaybillOut_keeps inv))

theorem interruptCp_keeps {k u w s} (inv : Invariant s) : Invariant (interruptCp k u w s) :=
  keeps_ite (sendWaybill_keeps inv) (keeps_ite (sendWaybill_keeps inv) (keeps_of_observed inv rfl))

theorem noteActive_keeps {k u i w s} (inv : Invariant s) : Invariant (noteActive k u i w s) :=
  keeps_ite_of id (fun h => keeps_ite h inv) (keeps_of_observed inv rfl)

theorem raiseFresh_keeps {k u i s} (inv : Invariant s) : Invariant (raiseFresh k u i s) :=
  interruptCp_keeps (noteActive_keeps (keeps_ite_of raiseEntry_keeps id (noteBlock_keeps (keeps_of_observed inv
    rfl))))

theorem tryCommit_keeps {w s} (inv : Invariant s) : Invariant (tryCommit w s) :=
  keeps_ite (raiseFresh_keeps (commitEntry_keeps inv)) (keeps_ite (skipCommit_keeps inv) (startCommit_keeps inv))

theorem triggerCommit_keeps {w s} (inv : Invariant s) : Invariant (triggerCommit w s) :=
  keeps_ite (keeps_of_observed inv rfl) (tryCommit_keeps inv)

theorem putRecovery_keeps {r s} (inv : Invariant s) : Invariant (putRecovery r s) :=
  keeps_of_observed inv rfl

theorem closeWrappers_keeps {closes s} (inv : Invariant s) : Invariant (closeWrappers closes s) :=
  keeps_foldl (fun _ _ => sendWaybill_keeps) (keeps_of_observed inv rfl)

theorem releaseHold_keeps {s} (inv : Invariant s) : Invariant (releaseHold s) := by
  refine keeps_foldl (fun _ _ h => ?_) inv
  exact keeps_ite (onLink_keeps h (fun _ => id)) (keeps_ite (sendStart_keeps h) h)

theorem removeActive_keeps {k u s} (inv : Invariant s) : Invariant (removeActive k u s) :=
  keeps_of_observed inv rfl

theorem exitKind_keeps {k u s} (inv : Invariant s) : Invariant (exitKind k u s) := by
  unfold exitKind
  split
  · exact inv
  · exact settle_keeps (removeActive_keeps (writeEntry_keeps inv))

theorem recoverKind_keeps {k u s} (inv : Invariant s) : Invariant (recoverKind k u s) := by
  unfold recoverKind
  split
  · exact inv
  · exact keeps_ite (settle_keeps (writeEntry_keeps (putRecovery_keeps inv))) (exitKind_keeps (putRecovery_keeps
      inv))

theorem closeWrapper_keeps {u s} (inv : Invariant s) : Invariant (closeWrapper u s) :=
  closeWrappers_keeps inv

theorem recoverBuses_keeps {s} (inv : Invariant s) : Invariant (recoverBuses s) := by
  unfold recoverBuses
  have hreleased : Invariant (if s.host.recoveringB = 1
      then releaseHeld .b { s with host := { s.host with
        recoveringA := s.host.recoveringA - 1, recoveringB := s.host.recoveringB - 1 } }
      else { s with host := { s.host with
        recoveringA := s.host.recoveringA - 1, recoveringB := s.host.recoveringB - 1 } }) :=
    keeps_ite_of releaseHeld_keeps id (keeps_of_observed inv rfl)
  have hempty : ∀ {t}, Invariant t → Invariant { t with faults := { t.faults with canQueue := [] } } :=
    fun ht => keeps_of_observed ht rfl
  exact keeps_ite (keeps_foldl (fun _ _ => canWaybill_keeps)
    (releaseHeld_keeps (hempty hreleased))) hreleased

theorem markPresent_keeps {k u s} (inv : Invariant s) : Invariant (markPresent k u s) :=
  keeps_of_observed inv rfl

theorem blankAgain_keeps {k s} (inv : Invariant s) : Invariant (blankAgain k s) :=
  keeps_ite (keeps_of_observed inv rfl) inv

theorem raiseKind_keeps {k i s} (inv : Invariant s) : Invariant (raiseKind k i s) :=
  keeps_ite (markPresent_keeps inv) (settle_keeps (keeps_ite_of triggerCommit_keeps id (blankAgain_keeps
    (raiseFresh_keeps inv))))

theorem handleKind_keeps {k s} (inv : Invariant s) : Invariant (handleKind k s) :=
  keeps_of_observed inv rfl

theorem clearCondition_keeps {k u s} (inv : Invariant s) : Invariant (clearCondition k u s) := by
  unfold clearCondition
  split
  · exact inv
  · refine keeps_ite (markAbsent_keeps inv) ?_
    split
    · exact markAbsent_keeps inv
    · exact keeps_ite (markAbsent_keeps inv) (exitKind_keeps inv)
    · exact exitKind_keeps inv

theorem endBlanking_keeps {s} (inv : Invariant s) : Invariant (endBlanking s) :=
  keeps_of_observed inv rfl

theorem clearLatch_keeps {k s} (inv : Invariant s) : Invariant (clearLatch k s) := by
  unfold clearLatch
  split
  · exact putRecovery_keeps inv
  · exact keeps_ite_of exitKind_keeps id (writeEntry_keeps (putRecovery_keeps inv))

theorem handleByPins_keeps {s} (inv : Invariant s) : Invariant (handleByPins s) :=
  keeps_ite (handleKind_keeps inv) inv

/-! ## Fetching and composing -/

theorem raisePerLayer_keeps {k n f tile s} (inv : Invariant s) : Invariant (raisePerLayer k n f tile s) :=
  keeps_ite inv (raiseKind_keeps (keeps_of_observed inv rfl))

theorem noteFailed_keeps {n f tile s} (inv : Invariant s) : Invariant (noteFailed n f tile s) :=
  keeps_ite_of raisePerLayer_keeps (fun h => raisePerLayer_keeps (keeps_of_frame (countTransparent_frame _) (fun _ =>
    rfl) h)) (keeps_of_frame (setLastFailed_frame _ _) (fun _ => rfl) inv)

theorem failTile_keeps {p n f tile s} (inv : Invariant s) : Invariant (failTile p n f tile s) :=
  noteFailed_keeps (putTile_keeps inv)

theorem decodeAgain_keeps {p n tile flaws f s} (inv : Invariant s) : Invariant (decodeAgain p n tile flaws f s) := by
  unfold decodeAgain
  split
  · exact raisePerLayer_keeps (putTile_keeps (keeps_of_observed inv rfl))
  · exact failTile_keeps inv

theorem lateTile_keeps {p n f tile s} (inv : Invariant s) : Invariant (lateTile p n f tile s) :=
  failTile_keeps (keeps_of_observed inv rfl)

theorem spoilTiles_keeps {p n tile s} (inv : Invariant s) : Invariant (spoilTiles p n tile s) :=
  keeps_foldl (fun _ _ => noteFailed_keeps) (keeps_of_observed inv rfl)

theorem spoilLayer_keeps {p n tile s} (inv : Invariant s) : Invariant (spoilLayer p n tile s) := by
  unfold spoilLayer
  dsimp only
  split
  · exact keeps_ite (keeps_of_frame (spoilPinned_frame _ _ _) (fun _ => rfl) (spoilTiles_keeps inv))
      (spoilCached_keeps (spoilTiles_keeps inv))
  · exact spoilCached_keeps (spoilTiles_keeps inv)

theorem markLate_keeps {p need s} (inv : Invariant s) : Invariant (markLate p need s) :=
  keeps_foldl (fun _ _ h => keeps_ite (lateTile_keeps h) h) inv

theorem noteAlias_keeps {p row col r0 h s} (inv : Invariant s) : Invariant (noteAlias p row col r0 h s) :=
  keeps_ite inv (keeps_ite_of raiseKind_keeps id (keeps_of_observed inv rfl))

theorem finishTile_keeps {p row col r0 h lower held ls s} (inv : Invariant s) :
    Invariant (finishTile p row col r0 h lower held ls s) :=
  keeps_of_frame (writeTile_frame _ _ _ _ _ _ _ _) (fun _ => rfl) (keeps_ite inv (keeps_of_frame (noteRaises_frame _
    _ _ _ _ _ _) (fun _ => rfl) inv))

theorem composeStaged_keeps {x s} (inv : Invariant s) : Invariant (composeStaged x s) :=
  keeps_ite inv (finishTile_keeps inv)

theorem composeBuffered_keeps {p tile s} (inv : Invariant s) : Invariant (composeBuffered p tile s) := by
  unfold composeBuffered
  split
  · exact inv
  · split
    · exact keeps_ite (enterRun_keeps (composeStaged_keeps (enterRun_keeps
        inv))) (composeStaged_keeps inv)
    · exact composeStaged_keeps inv

theorem failCeiling_keeps {x s} (inv : Invariant s) : Invariant (failCeiling x s) :=
  raiseKind_keeps (keeps_of_observed inv rfl)

theorem badCellRow_keeps {p j s} (inv : Invariant s) : Invariant (badCellRow p j s) :=
  failCeiling_keeps inv

theorem noteOverflow_keeps {tile s} (inv : Invariant s) : Invariant (noteOverflow tile s) :=
  keeps_ite inv (keeps_ite_of raiseKind_keeps id (keeps_of_observed inv rfl))

theorem noteStage1_keeps {p row col r0 h s} (inv : Invariant s) : Invariant (noteStage1 p row col r0 h s) :=
  keeps_foldl (fun _ _ => noteOverflow_keeps) (noteAlias_keeps (markLate_keeps inv))

theorem stageTile_keeps {p row col s} (inv : Invariant s) : Invariant (stageTile p row col s) := by
  unfold stageTile
  exact onCompose_keeps (noteConflicts_keeps
    (noteStage1_keeps (clearValid_keeps inv)))

theorem stageZoneRow_keeps {p zoneRow badCells s} (inv : Invariant s) :
    Invariant (stageZoneRow p zoneRow badCells s) := by
  unfold stageZoneRow
  exact onCompose_keeps (keeps_of_frame (choosePairs_frame _ _ _ _) (fun _ => rfl)
    (keeps_foldl (fun _ _ => stageTile_keeps) (keeps_foldl (fun _ _ => badCellRow_keeps) inv)))

theorem composeHalf_keeps {p row col lower s} (inv : Invariant s) : Invariant (composeHalf p row col lower s) :=
  finishTile_keeps (noteConflicts_keeps (noteStage1_keeps (clearValid_keeps
    inv)))

theorem composeNext_keeps {p row col lower badCell s} (inv : Invariant s) :
    Invariant (composeNext p row col lower badCell s) :=
  keeps_ite (composeHalf_keeps (keeps_ite (badCellRow_keeps inv) inv)) inv

theorem composeRacing_keeps {p row col lower badCell s} (inv : Invariant s) :
    Invariant (composeRacing p row col lower badCell s) := by
  unfold composeRacing
  split
  · exact keeps_ite (enterRun_keeps (composeNext_keeps (enterRun_keeps
      inv))) (composeNext_keeps inv)
  · exact composeNext_keeps inv

theorem noteMismatch_keeps {p entry s} (inv : Invariant s) : Invariant (noteMismatch p entry s) :=
  keeps_ite_of id raiseKind_keeps (onCompose_keeps inv)

/-! ## The Manifest and the shade banks -/

theorem badTable_keeps {s} (inv : Invariant s) : Invariant (badTable s) :=
  failCeiling_keeps inv

theorem acceptCommit_keeps {s} (inv : Invariant s) : Invariant (acceptCommit s) :=
  handleByPins_keeps (onManifest_keeps inv)

theorem commitBoundary_keeps {s} (inv : Invariant s) : Invariant (commitBoundary s) :=
  keeps_ite (keeps_ite (setIrq_keeps (acceptCommit_keeps inv)) (setIrq_keeps (keeps_of_frame (refuseCommit_frame _ _)
    (fun _ => rfl) inv))) inv

theorem modeBoundary_keeps {s} (inv : Invariant s) : Invariant (modeBoundary s) := by
  unfold modeBoundary
  split
  · exact inv
  · exact keeps_ite_of startModeChange_keeps id (onManifest_keeps inv)
  · exact keeps_ite_of startModeChange_keeps (fun h => keeps_ite (keeps_of_frame
      (repeatFrame_frame _) (fun _ => rfl) h) h) (onManifest_keeps inv)

theorem shadeFresh_keeps {s} (inv : Invariant s) : Invariant (shadeFresh s) :=
  clearCondition_keeps (onShade_keeps inv)

theorem landList_keeps {objs s} (inv : Invariant s) : Invariant (landList objs s) :=
  shadeFresh_keeps (onShade_keeps inv)

theorem acceptSwapRequest_keeps {s} (inv : Invariant s) : Invariant (acceptSwapRequest s) :=
  shadeFresh_keeps (onShade_keeps inv)

theorem restartComposer_keeps {s} (inv : Invariant s) : Invariant (restartComposer s) :=
  keeps_of_observed inv rfl

theorem stallComposer_keeps {s} (inv : Invariant s) : Invariant (stallComposer s) :=
  keeps_ite (closeWrapper_keeps (raiseKind_keeps (restartComposer_keeps inv))) inv

theorem offerList_keeps {objs s} (inv : Invariant s) : Invariant (offerList objs s) :=
  keeps_ite (onShade_keeps inv) (landList_keeps inv)

theorem shadeList_keeps {objs s} (inv : Invariant s) : Invariant (shadeList objs s) :=
  keeps_ite (setIrq_keeps (keeps_of_frame (rejectList_frame _) (fun _ => rfl) inv)) (offerList_keeps inv)

/-! ## The queue of the CP and access -/

theorem actItems_keeps : ∀ {q s}, Invariant s → Invariant (actItems q s)
  | .commit :: q, _, inv => actItems_keeps (q := q) (requestCommit_keeps inv)
  | .shades _ :: q, _, inv => actItems_keeps (q := q) (shadeList_keeps inv)
  | .timePair _ _ :: q, _, inv => actItems_keeps (q := q) (keeps_of_frame (noteTimePair_frame _ _ _) (fun _ => rfl) inv)
  | .odWrite _ _ :: _, _, inv => keeps_of_observed inv rfl
  | [], _, inv => keeps_of_observed inv rfl

theorem runQueue_keeps {s} (inv : Invariant s) : Invariant (runQueue s) :=
  keeps_ite inv (actItems_keeps inv)

theorem queueItem_keeps {x s} (inv : Invariant s) : Invariant (queueItem x s) :=
  runQueue_keeps (onHost_keeps inv)

theorem dropItems_keeps : ∀ {q s}, Invariant s → Invariant (dropItems q s)
  | [], _, inv => inv
  | .odWrite _ _ :: q, _, inv => dropItems_keeps (q := q) (discardRecords_keeps inv)
  | .commit :: q, _, inv => dropItems_keeps (q := q) (actItems_keeps inv)
  | .shades _ :: q, _, inv => dropItems_keeps (q := q) (actItems_keeps inv)
  | .timePair _ _ :: q, _, inv => dropItems_keeps (q := q) (actItems_keeps inv)

theorem dropPackets_keeps {s} (inv : Invariant s) : Invariant (dropPackets s) :=
  dropItems_keeps (onHost_keeps inv)

theorem programLife_keeps {target s} (inv : Invariant s) : Invariant (programLife target s) :=
  closeSession_keeps (keeps_of_observed inv rfl)

theorem enterReturn_keeps {s} (inv : Invariant s) : Invariant (enterReturn s) :=
  runQueue_keeps (onAccess_keeps (keeps_of_observed (keeps_of_frame (eraseForReturn_frame _) (fun _ => rfl)
    (programLife_keeps inv)) rfl))

theorem actOnToken_keeps {via kind target s} (inv : Invariant s) : Invariant (actOnToken via kind target s) :=
  keeps_ite_of tokenResult_keeps (fun h => keeps_ite_of (fun h' => keeps_ite h'
    (tokenResult_keeps inv)) (fun h' => keeps_ite h' (keeps_ite h' (keeps_ite_of (fun h'' =>
    keeps_ite h'' (keeps_ite h (enterReturn_keeps inv))) id (tokenResult_keeps inv))))
    (tokenResult_keeps (programLife_keeps inv))) (onAccess_keeps inv)

theorem wrongResponse_keeps {s} (inv : Invariant s) : Invariant (wrongResponse s) :=
  keeps_of_observed inv rfl

theorem respond_keeps {via data s} (inv : Invariant s) : Invariant (respond via data s).2 := by
  unfold respond
  split
  · exact inv
  · refine keeps_snd_ite inv (keeps_snd_ite inv ?_)
    split
    · exact keeps_of_observed inv rfl
    · exact wrongResponse_keeps inv

theorem storeKey_keeps {v s} (inv : Invariant s) : Invariant (storeKey v s) := by
  unfold storeKey
  dsimp only
  split
  · exact closeSession_keeps (keeps_of_observed inv rfl)
  · exact keeps_of_observed inv rfl

theorem writeToken_keeps {via data s} (inv : Invariant s) : Invariant (writeToken via data s) :=
  keeps_ite (actOnToken_keeps inv) (tokenResult_keeps inv)

theorem raiseJournal_keeps {index sub s} (inv : Invariant s) : Invariant (raiseJournal index sub s) :=
  raiseKind_keeps inv

theorem enqueueWrite_keeps {w s} (inv : Invariant s) : Invariant (enqueueWrite w s) := by
  unfold enqueueWrite
  split
  · exact keeps_of_observed inv rfl
  · exact answerWaiter_keeps inv
  · exact answerWaiter_keeps (raiseJournal_keeps inv)

/-! ## Records and full scale -/

theorem sf1Reaction_keeps {p i s} (inv : Invariant s) : Invariant (sf1Reaction p i s) :=
  keeps_ite inv (dropEnables_keeps (raiseKind_keeps (putRecord_keeps inv)))

theorem clearRecord_keeps {p s} (inv : Invariant s) : Invariant (clearRecord p s) :=
  keeps_ite_of id clearCondition_keeps (putRecord_keeps inv)

theorem clearByCeiling_keeps {s} (inv : Invariant s) : Invariant (clearByCeiling s) :=
  keeps_foldl (fun _ _ h => keeps_ite (clearRecord_keeps h) h) (keeps_of_observed inv rfl)

theorem confirmStatus_keeps {p i code vf s} (inv : Invariant s) : Invariant (confirmStatus p i code vf s) :=
  keeps_of_frame (treatOrWait_frame _ _ _) (fun _ => rfl) (raiseKind_keeps (onPixels_keeps (keeps_of_frame
    (putStatus_frame _ _ _ _) (fun _ => rfl) inv)))

theorem queueBoundary_keeps {s} (inv : Invariant s) : Invariant (queueBoundary s) :=
  keeps_of_observed inv rfl

theorem journalCorrection_keeps {p old s} (inv : Invariant s) : Invariant (journalCorrection p old s) :=
  keeps_ite inv (enqueueWrite_keeps inv)

theorem takeEstimate_keeps {p k s} (inv : Invariant s) : Invariant (takeEstimate p k s) :=
  keeps_ite_of (fun h => keeps_ite_of id clearCondition_keeps (journalCorrection_keeps (rebuildSteps_keeps
    (onFullScale_keeps h)))) (fun h => onFullScale_keeps (raiseKind_keeps h)) (onFullScale_keeps inv)

theorem recoverGroup_keeps {group s} (inv : Invariant s) : Invariant (recoverGroup group s) :=
  keeps_ite (markAbsent_keeps (recoverKind_keeps inv)) (keeps_ite_of putRecovery_keeps recoverKind_keeps
    (resumeGroup_keeps inv))

/-! ## Housekeeping -/

theorem modelRound_keeps {p s} (inv : Invariant s) : Invariant (modelRound p s) :=
  keeps_ite inv (keeps_ite_of id (fun h => keeps_ite (handleKind_keeps h) h) (onModel_keeps
    inv))

theorem noteLow_keeps {p s} (inv : Invariant s) : Invariant (noteLow p s) :=
  keeps_ite_of raiseKind_keeps id (keeps_of_observed inv rfl)

theorem slotHeadroom_keeps {p s} (inv : Invariant s) : Invariant (slotHeadroom p s) := by
  refine keeps_ite (keeps_of_observed inv rfl) ?_
  split
  · exact keeps_of_observed inv rfl
  · exact keeps_ite_of (fun h => markPresent_keeps (noteLow_keeps h)) clearCondition_keeps (keeps_of_observed
      (keeps_of_frame (startCode_frame _ _) (fun _ => rfl) inv) rfl)

theorem judgeSupply_keeps {k uv s} (inv : Invariant s) : Invariant (judgeSupply k uv s) :=
  keeps_ite_of (fun h => keeps_ite (markPresent_keeps h) h) (fun h => keeps_ite_of id markAbsent_keeps (keeps_ite h
    (clearCondition_keeps h))) (keeps_of_observed inv rfl)

theorem putThermal_keeps {l t s} (inv : Invariant s) : Invariant (putThermal l t s) :=
  keeps_of_observed inv rfl

theorem settleThrottle_keeps {s} (inv : Invariant s) : Invariant (settleThrottle s) :=
  keeps_ite inv (clearCondition_keeps inv)

theorem enterThermal_keeps {l t s} (inv : Invariant s) : Invariant (enterThermal l t s) := by
  refine settleThrottle_keeps ?_
  split
  · exact raiseKind_keeps (putThermal_keeps inv)
  · exact raiseKind_keeps (putThermal_keeps inv)
  · exact putThermal_keeps inv

theorem judgeLocation_keeps {s l} (inv : Invariant s) : Invariant (judgeLocation s l) :=
  keeps_ite inv (keeps_ite_of enterThermal_keeps id (keeps_of_observed inv rfl))

theorem nextSlot_keeps {s} (inv : Invariant s) : Invariant (nextSlot s) :=
  keeps_ite_of id (fun h => keeps_of_frame (latchTollSettings_frame _) (fun _ => rfl) h) (keeps_of_observed inv rfl)

theorem crossCheck_keeps {s} (inv : Invariant s) : Invariant (crossCheck s) :=
  keeps_of_observed inv rfl

theorem noteCode_keeps {channel raw s} (inv : Invariant s) : Invariant (noteCode channel raw s) :=
  keeps_of_observed inv rfl

theorem slotReference_keeps {raw s} (inv : Invariant s) : Invariant (slotReference raw s) :=
  keeps_ite (markPresent_keeps (keeps_of_observed inv rfl)) (clearCondition_keeps (keeps_of_observed inv rfl))

theorem slotThresholds_keeps {s} (inv : Invariant s) : Invariant (slotThresholds s) :=
  have hround : Invariant (judgeGroups (locations.foldl judgeLocation (crossCheck s))) :=
    keeps_of_frame (judgeGroups_frame _) (fun _ => rfl) (keeps_foldl (fun _ _ => judgeLocation_keeps)
      (crossCheck_keeps inv))
  have hm : ∀ {t} (m : Nat), Invariant t → Invariant (onHk (fun k => { k with m := m }) t) :=
    fun _ ht => keeps_of_observed ht rfl
  keeps_ite (keeps_foldl (fun _ _ => modelRound_keeps) (hm _ hround)) (hm _ hround)

theorem runSlot_keeps {slot raw ld s} (inv : Invariant s) : Invariant (runSlot slot raw ld s) :=
  keeps_ite_of id (fun h => keeps_ite h (keeps_ite_of slotReference_keeps (fun h' => keeps_ite h (keeps_ite
    (judgeSupply_keeps h') (keeps_ite (keeps_of_frame (slotImon_frame _ _ _) (fun _ => rfl) h') (keeps_ite h'
    (keeps_ite h (keeps_ite (keeps_of_frame (senseSink_frame _ _ _) (fun _ => rfl) h') (keeps_ite (keeps_ite h h')
    (keeps_ite (keeps_foldl (fun _ _ => slotHeadroom_keeps) h) (keeps_ite (slotThresholds_keeps h') h')))))))))
    (keeps_ite (noteCode_keeps inv) (keeps_ite (noteCode_keeps inv) inv)))) (keeps_of_observed (keeps_ite
    (noteCode_keeps inv) (keeps_ite (noteCode_keeps inv) inv)) rfl)

theorem escalateSensors_keeps {ld s} (inv : Invariant s) : Invariant (escalateSensors ld s) :=
  keeps_ite_of raiseKind_keeps id (keeps_ite (raiseKind_keeps (keeps_of_observed inv rfl)) inv)

theorem requalifyLd_keeps {s} (inv : Invariant s) : Invariant (requalifyLd s) :=
  keeps_ite_of id clearCondition_keeps (keeps_ite_of id clearCondition_keeps (keeps_of_observed inv rfl))

/-! ## Domains and power -/

theorem furtherCommit_keeps {s} (inv : Invariant s) : Invariant (furtherCommit s) := by
  unfold furtherCommit
  split
  · exact inv
  · exact tryCommit_keeps (keeps_of_observed inv rfl)

theorem endCommit_keeps {verified waybill s} (inv : Invariant s) : Invariant (endCommit verified waybill s) :=
  furtherCommit_keeps (checkFill_keeps (keeps_ite_of id raiseKind_keeps (commitEntry_keeps
    (appendRecord_keeps (keeps_of_observed inv rfl)))))

theorem sendShadow_keeps {s} (inv : Invariant s) : Invariant (sendShadow s) :=
  keeps_of_observed inv rfl

theorem countLeap_keeps {n s} (inv : Invariant s) : Invariant (countLeap n s) :=
  keeps_of_observed inv rfl

theorem clearUnits_keeps {d s} (inv : Invariant s) : Invariant (clearUnits d s) :=
  keeps_foldl (fun _ _ h => keeps_ite (clearCondition_keeps h) h) inv

theorem isolateUnits_keeps {d s} (inv : Invariant s) : Invariant (isolateUnits d s) :=
  keeps_of_observed (clearUnits_keeps inv) rfl

/-- SAFE loses its requests with its power, and leaves the rest that the invariant reads. -/
theorem dropSafe_keeps {s} (inv : Invariant s) : Invariant (dropSafe s) := by
  obtain ⟨hdram, hring, hallow, hbudget, -, hdark⟩ := inv
  exact ⟨hdram, hring, hallow, hbudget, Nat.zero_le _, hdark⟩

theorem dropCore_keeps {s} (inv : Invariant s) : Invariant (dropCore s) :=
  keeps_of_observed inv rfl

theorem busyRequests_keeps {s0} (inv : Invariant s0) : Invariant (busyRequests s0) :=
  keeps_of_observed (keeps_foldl (fun _ _ h => answer_keeps h) (keeps_foldl
    (fun _ _ h => answer_keeps h) (dropPackets_keeps (keeps_of_frame (loseWrites_frame
    _) (fun _ => rfl) inv)))) rfl

theorem dropPix_keeps {s} (inv : Invariant s) : Invariant (dropPix s) :=
  keeps_of_observed inv rfl

theorem dropLink_keeps {s} (inv : Invariant s) : Invariant (dropLink s) :=
  keeps_of_observed (mapLink_keeps (fun _ l => darkLink l) (fun _ _ => nofun)
    (stopScan_keeps (keeps_of_frame (dropHostLanes_frame _) (fun _ => rfl) inv))) rfl

theorem dropDram_keeps {s} (inv : Invariant s) : Invariant (dropDram s) := by
  obtain ⟨-, hrest⟩ := inv
  exact ⟨rfl, hrest⟩

theorem dropDomain_keeps {d s} (inv : Invariant s) : Invariant (dropDomain d s) := by
  unfold dropDomain
  split
  · exact inv
  · exact dropSafe_keeps inv
  · exact dropCore_keeps (busyRequests_keeps (sendShadow_keeps inv))
  · exact dropPix_keeps (stopScan_keeps inv)
  · exact dropLink_keeps inv
  · exact dropDram_keeps inv
  · exact keeps_of_frame (dropAux_frame _) (fun _ => rfl) inv

theorem powerDown_keeps {d s} (inv : Invariant s) : Invariant (powerDown d s) :=
  isolateUnits_keeps (dropDomain_keeps (closeWrappers_keeps (setDomain_keeps inv)))

theorem forceOff_keeps {ds s} (inv : Invariant s) : Invariant (forceOff ds s) :=
  keeps_foldl (fun _ _ h => keeps_ite h (keeps_ite (setDomain_keeps (powerDown_keeps h))
    (setDomain_keeps h))) inv

theorem leaveStop_keeps {s} (inv : Invariant s) : Invariant (leaveStop s) :=
  keeps_of_observed (clearCondition_keeps (clearCondition_keeps (clearCondition_keeps (setDomain_keeps inv)))) rfl

theorem startStopTasks_keeps {s} (inv : Invariant s) : Invariant (startStopTasks s) :=
  sendShadow_keeps (keeps_of_observed (onPower_keeps (onVotes_keeps inv))
    rfl)

theorem quiesce_keeps {d s} (inv : Invariant s) : Invariant (quiesce d s) :=
  powerDown_keeps (keeps_ite (onRing_keeps inv) inv)

theorem finishCommit_keeps {s} (inv : Invariant s) : Invariant (finishCommit s) := by
  unfold finishCommit
  split
  · exact endCommit_keeps inv
  · exact inv

theorem enterStop_keeps {s} (inv : Invariant s) : Invariant (enterStop s) := by
  have hoff : ∀ t (d : Domain), Invariant t →
      Invariant (if isOn t d then setDomain d .off (quiesce d t) else setDomain d .off t) := fun _ _ ht =>
    keeps_ite (setDomain_keeps (quiesce_keeps ht)) (setDomain_keeps ht)
  have hcount : ∀ {t : State} (b : Bool) (n : Nat), Invariant t →
      Invariant { t with aon := { t.aon with smContext := b, stopEntryCount := n } } :=
    fun _ _ ht => keeps_of_observed ht rfl
  have hwrap : ∀ {t : State}, Invariant t → Invariant { t with aon := { t.aon with leapWrapped := false } } :=
    fun ht => keeps_of_observed ht rfl
  unfold enterStop
  refine hcount _ _ (isolateUnits_keeps (setDomain_keeps (dropSafe_keeps ?_)))
  exact finishCommit_keeps (finishCommit_keeps (keeps_foldl hoff (hwrap inv)))

theorem afterWithdrawal_keeps {s} (inv : Invariant s) : Invariant (afterWithdrawal s) :=
  keeps_ite inv (keeps_ite (startStopTasks_keeps inv) (enterStop_keeps inv))

theorem settleSmVote_keeps {s} (inv : Invariant s) : Invariant (settleSmVote s) :=
  keeps_ite inv (keeps_ite_of afterWithdrawal_keeps powerUpVoted_keeps
    (onVotes_keeps inv))

theorem releaseWakeVotes_keeps {s} (inv : Invariant s) : Invariant (releaseWakeVotes s) :=
  keeps_ite (afterWithdrawal_keeps (onVotes_keeps inv)) inv

theorem endCalStep_keeps {s} (inv : Invariant s) : Invariant (endCalStep s) :=
  keeps_ite (afterWithdrawal_keeps (onVotes_keeps (onUnits_keeps inv))) inv

theorem wake_keeps {cause s} (inv : Invariant s) : Invariant (wake cause s) :=
  powerUpVoted_keeps (keeps_ite_of id leaveStop_keeps (onVotes_keeps
    (keeps_of_frame (cancelStop_frame _) (fun _ => rfl) (keeps_of_observed inv rfl))))

/-! ## The Almanac -/

theorem noteLate_keeps {lateness s} (inv : Invariant s) : Invariant (noteLate lateness s) :=
  keeps_ite_of raiseKind_keeps id (onAlmanac_keeps inv)

theorem offerEntry_keeps {n s} (inv : Invariant s) : Invariant (offerEntry n s) :=
  keeps_ite inv (enqueueWrite_keeps inv)

theorem clearOneShot_keeps {n e s} (inv : Invariant s) : Invariant (clearOneShot n e s) :=
  keeps_ite inv (keeps_ite_of offerEntry_keeps id (onAlmanac_keeps inv))

/-- A request waits only where fewer than 16 do (R295). -/
theorem sampleHk_keeps {channel s} (inv : Invariant s) : Invariant (sampleHk channel s) := by
  unfold sampleHk
  split
  · exact inv
  · split
    · next hlt =>
      obtain ⟨hdram, hring, hallow, hbudget, -, hdark⟩ := inv
      exact ⟨hdram, hring, hallow, hbudget, by simpa [onHk] using hlt, hdark⟩
    · exact keeps_of_observed inv rfl

theorem hostIrq_keeps {cause s} (inv : Invariant s) : Invariant (hostIrq cause s) :=
  setIrq_keeps (onAlmanac_keeps inv)

theorem entryActs_keeps {e s} (inv : Invariant s) : Invariant (entryActs e s) := by
  unfold entryActs
  split
  · exact sampleHk_keeps inv
  · exact keeps_of_frame (openProbeWindow_frame _ _ _ _) (fun _ => rfl) inv
  · exact requestCommit_keeps inv
  · exact keeps_of_frame (requestSwap_frame _) (fun _ => rfl) inv
  · exact onAlmanac_keeps inv
  · exact hostIrq_keeps inv
  · exact keeps_of_frame (startCalStep_frame _ _) (fun _ => rfl) inv
  · exact inv

theorem executeEntry_keeps {n e lateness s} (inv : Invariant s) : Invariant (executeEntry n e lateness s) :=
  clearOneShot_keeps (entryActs_keeps (keeps_ite inv (noteLate_keeps inv)))

theorem runEntries_keeps : ∀ {es used s}, Invariant s → Invariant (runEntries es used s)
  | [], _, _, inv => inv
  | (_, _, _) :: es, _, _, inv => keeps_ite (onAlmanac_keeps inv)
      (keeps_ite (runEntries_keeps (es := es) (keeps_of_frame (noteSkip_frame _ _) (fun _ => rfl) inv))
        (runEntries_keeps (es := es) (executeEntry_keeps inv)))

theorem runAlmanac_keeps {s} (inv : Invariant s) : Invariant (runAlmanac s) :=
  runEntries_keeps (onAlmanac_keeps inv)

/-! ## Safety and boot checks -/

theorem settleRequest_keeps {s} (inv : Invariant s) : Invariant (settleRequest s) :=
  settleSmVote_keeps (settle_keeps inv)

theorem failOutTest_keeps {counted s} (inv : Invariant s) : Invariant (failOutTest counted s) :=
  raiseKind_keeps (onSafety_keeps inv)

theorem runCheck_keeps {proc port slot atReset readFails s} (inv : Invariant s) :
    Invariant (runCheck proc port slot atReset readFails s).2 :=
  keeps_snd_ite (putSlot_keeps inv) (raiseKind_keeps (keeps_of_frame (setLastRejection_frame _
    _) (fun _ => rfl) (putSlot_keeps inv)))

theorem bootCheck_keeps {proc port sel atReset reads s} (inv : Invariant s) :
    Invariant (bootCheck proc port sel atReset reads s).2 :=
  keeps_snd_ite (runCheck_keeps inv) (keeps_snd_ite (runCheck_keeps (runCheck_keeps inv)) (runCheck_keeps
    (runCheck_keeps inv)))

theorem freezeVotes_keeps {s} (inv : Invariant s) : Invariant (freezeVotes s) := by
  unfold freezeVotes
  split
  · exact inv
  · exact keeps_of_observed inv rfl

theorem raiseShutdown_keeps {i s} (inv : Invariant s) : Invariant (raiseShutdown i s) := by
  unfold raiseShutdown
  split
  · exact triggerCommit_keeps (raiseKind_keeps inv)
  · exact raiseKind_keeps inv

theorem writeHostVote_keeps {v s} (inv : Invariant s) : Invariant (writeHostVote v s).2 := by
  unfold writeHostVote
  refine keeps_snd_ite (show Invariant (onPower _ s) from onPower_keeps inv)
    (afterWithdrawal_keeps ?_)
  exact powerUpVoted_keeps (onVotes_keeps (onPower_keeps
    inv))

theorem thaw_keeps {cause s} (inv : Invariant s) : Invariant (thaw cause s) := by
  unfold thaw
  split
  · exact powerUpVoted_keeps inv
  · exact keeps_ite_of powerUpVoted_keeps enterStop_keeps (onPower_keeps (keeps_of_observed inv rfl))

/-! ## Resets and power-up -/

theorem loadMaps_keeps {s} (inv : Invariant s) : Invariant (loadMaps s) :=
  keeps_of_observed inv rfl

/-- A reset holds every part but the AON; no PORTx_EN is high (R419). -/
theorem holdParts_keeps {por s} (inv : Invariant s) : Invariant (holdParts por s) := by
  have hcut : Invariant (cutNvm s) := keeps_of_frame (cutNvm_frame _) (fun _ => rfl) inv
  obtain ⟨-, hring, hallow, hbudget, -, -⟩ := hcut
  exact ⟨rfl, hring, hallow, hbudget, Nat.zero_le _, rfl⟩

theorem assertSource_keeps {por s} (inv : Invariant s) : Invariant (assertSource por s) := by
  unfold assertSource
  split
  · cases por with
    | false => exact keeps_of_observed inv rfl
    | true =>
      obtain ⟨hdram, hring, hallow, hbudget, hqueue, -⟩ := inv
      exact ⟨hdram, hring, hallow, hbudget, hqueue, rfl⟩
  · exact settle_keeps (holdParts_keeps inv)

theorem forceLink_keeps {s} (inv : Invariant s) : Invariant (forceLink s) :=
  forceOff_keeps (keeps_of_observed inv rfl)

/-- The AON starts afresh with an empty ring, one commit allowed and the whole budget (R423, R371, R492). -/
theorem clearAon_keeps {cause s} (inv : Invariant s) : Invariant (clearAon cause s) := by
  obtain ⟨hdram, -, -, -, -, hdark⟩ := inv
  exact ⟨hdram, rfl, (by decide : 1 ≤ 4), (by decide : 65536 ≤ 65536), Nat.zero_le _, hdark⟩

theorem releaseTogether_keeps {s} (inv : Invariant s) : Invariant (releaseTogether s) :=
  startSequence_keeps (clearAon_keeps inv)

theorem failDram_keeps {s} (inv : Invariant s) : Invariant (failDram s) :=
  markAbsent_keeps (raiseKind_keeps (keeps_of_frame (failPins_frame _) (fun _ => rfl) (onUnits_keeps inv)))

theorem coreUp_keeps {s} (inv : Invariant s) : Invariant (coreUp s) := by
  have hstart : ∀ {t : State} (d : Dict) (a : Almanac) (c : Caravan) (x : Scan), Invariant t →
      Invariant { t with dict := d, almanac := a, caravan := c, scan := x } :=
    fun _ _ _ _ ht => keeps_of_observed ht rfl
  unfold coreUp
  refine onPower_keeps (writeBoot_keeps (keeps_of_frame (takeBootCause_frame _) (fun _ => rfl) (keeps_of_frame
    (bootCp_frame _) (fun _ => rfl) (onVotes_keeps (keeps_of_frame (noteSmStart_frame _) (fun _ => rfl) ?_)))))
  exact keeps_ite (hstart _ _ _ _ (requalifyLd_keeps inv))
    (keeps_ite (restoreTime_keeps (keeps_of_frame (publishLeap_frame _ _ _) (fun _ => rfl)
      (hstart _ _ _ _ (requalifyLd_keeps inv))))
      (restoreTime_keeps (hstart _ _ _ _ (requalifyLd_keeps inv))))

theorem forceCore_keeps {k s} (inv : Invariant s) : Invariant (forceCore k s) :=
  forceOff_keeps (keeps_of_observed (keeps_ite_of cutRunning_keeps id (keeps_ite
    (sendShadow_keeps inv) inv)) rfl)

theorem forceSupply_keeps {k s} (inv : Invariant s) : Invariant (forceSupply k s) :=
  keeps_ite_of (fun h => forceLink_keeps (raiseKind_keeps h)) (fun h => forceCore_keeps (raiseKind_keeps
    (freezeVotes_keeps h))) (keeps_of_observed inv rfl)

theorem pixUp_keeps {s} (inv : Invariant s) : Invariant (pixUp s) :=
  keeps_ite_of (fun h => keeps_foldl (fun _ _ h => rebuildSteps_keeps h) (invertMeshes_keeps h)) id (keeps_of_frame
    (dropVolatile_frame _ _) (fun _ => rfl) (keeps_of_observed inv rfl))

theorem domainUp_keeps {d s} (inv : Invariant s) : Invariant (domainUp d s) := by
  unfold domainUp
  split
  · exact coreUp_keeps inv
  · exact pixUp_keeps inv
  · exact keeps_of_frame (linkUp_frame _) (fun _ => rfl) inv
  · exact keeps_of_frame (auxUp_frame _) (fun _ => rfl) inv
  · exact inv

/-! ## The ports and their bring-up -/

theorem sendFirstSettings_keeps {p s} (inv : Invariant s) : Invariant (sendFirstSettings p s) :=
  ctrl_keeps (onLink_keeps inv fun l => by
    rw [sendSeed_enable, foldl_keeps LinkPort.enable fun _ _ => sendZone_enable _ _ _ _ _]
    exact id)

theorem sendTrain_keeps {p pattern codes s} (inv : Invariant s) : Invariant (sendTrain p pattern codes s) :=
  ctrl_keeps inv

theorem losePort_keeps {p lasting s} (inv : Invariant s) : Invariant (losePort p lasting s) :=
  keeps_ite inv (keeps_ite_of id clearCondition_keeps (keeps_ite_of clearCondition_keeps id (keeps_ite_of
    clearCondition_keeps id (raiseKind_keeps (onLink_keeps inv fun _ => nofun)))))

theorem startBringUp_keeps {p s} (inv : Invariant s) : Invariant (startBringUp p s) :=
  ctrl_keeps (onPixels_keeps (onModel_keeps (onLink_keeps inv fun _ =>
    nofun)))

theorem beginBringUp_keeps {p s} (inv : Invariant s) : Invariant (beginBringUp p s) :=
  keeps_ite (startBringUp_keeps inv) (onLink_keeps inv (fun _ => id))

theorem failBringUp_keeps {p s} (inv : Invariant s) : Invariant (failBringUp p s) :=
  keeps_ite (losePort_keeps (onLink_keeps (onLink_keeps inv (fun _ => id)) (fun _ => id))) (beginBringUp_keeps
    (onLink_keeps inv (fun _ => id)))

theorem readReg_keeps {p a s} (inv : Invariant s) : Invariant (readReg p a s) :=
  ctrl_keeps inv

theorem sendSetLanes_keeps {p band s} (inv : Invariant s) : Invariant (sendSetLanes p band s) :=
  ctrl_keeps inv

theorem ackSkew_keeps {p value s} (inv : Invariant s) : Invariant (ackSkew p value s) :=
  keeps_ite (readReg_keeps (onLink_keeps inv (fun _ => id))) (keeps_ite_of failBringUp_keeps (fun h =>
    sendSetLanes_keeps (onLink_keeps h (fun _ => id))) (onLink_keeps (onLink_keeps inv (fun _ => id)) (fun _ => id)))

theorem stopPort_keeps {p s} (inv : Invariant s) : Invariant (stopPort p s) :=
  keeps_ite (sendHold_keeps inv) inv

theorem judgeRate_keeps {p s} (inv : Invariant s) : Invariant (judgeRate p s) :=
  keeps_ite (raiseKind_keeps (onLink_keeps inv (fun _ => id))) (keeps_ite (clearCondition_keeps (onLink_keeps inv
    (fun _ => id))) (onLink_keeps inv (fun _ => id)))

theorem remapPort_keeps {p b s} (inv : Invariant s) : Invariant (remapPort p b s) :=
  sendSetLanes_keeps (judgeRate_keeps (onLink_keeps inv (fun _ => id)))

theorem remapBoundary_keeps {b s} (inv : Invariant s) : Invariant (remapBoundary b s) := by
  refine keeps_foldl (fun _ _ h => ?_) inv
  exact keeps_ite (remapPort_keeps h) (onLink_keeps h (fun _ => id))

theorem trainCode_keeps {p k s} (inv : Invariant s) : Invariant (trainCode p k s) :=
  onLink_keeps (sendTrain_keeps inv) (fun _ => id)

theorem chooseCtle_keeps {p s} (inv : Invariant s) : Invariant (chooseCtle p s) :=
  keeps_ite (onLink_keeps inv (fun _ => id)) (onLink_keeps (keeps_of_frame (sweepErrors_frame _) (fun _ => rfl) inv)
    (fun _ => id))

theorem ackReset_keeps {p value s} (inv : Invariant s) : Invariant (ackReset p value s) := by
  unfold ackReset
  split
  · exact readReg_keeps (onLink_keeps inv (fun _ => id))
  · exact readReg_keeps (onLink_keeps inv (fun _ => id))
  · exact keeps_ite (trainCode_keeps (chooseCtle_keeps inv)) (failBringUp_keeps inv)

theorem enterService_keeps {p s} (inv : Invariant s) : Invariant (enterService p s) :=
  keeps_ite (onLink_keeps inv (fun _ => id)) inv

theorem ackDiagnostics_keeps {p s} (inv : Invariant s) : Invariant (ackDiagnostics p s) :=
  keeps_ite (onLink_keeps inv (fun _ => id)) (sendFirstSettings_keeps (onLink_keeps inv (fun _ => id)))

theorem clearLoss_keeps {p s} (inv : Invariant s) : Invariant (clearLoss p s) :=
  keeps_ite (clearCondition_keeps (onLink_keeps inv (fun _ => id))) inv

theorem remapHeld_keeps {p s} (inv : Invariant s) : Invariant (remapHeld p s) :=
  keeps_ite (onLink_keeps (remapPort_keeps inv) (fun _ => id)) inv

theorem failLane_keeps {p lane s} (inv : Invariant s) : Invariant (failLane p lane s) :=
  keeps_ite inv (keeps_ite (raiseKind_keeps (onLink_keeps inv (fun _ => id))) (keeps_ite (losePort_keeps
    (raiseKind_keeps (onLink_keeps inv (fun _ => id)))) (raiseKind_keeps (onLink_keeps inv (fun _ => id)))))

theorem laneFailure_keeps {p lane s} (inv : Invariant s) : Invariant (laneFailure p lane s) :=
  remapHeld_keeps (failLane_keeps inv)

theorem bringUpIfReady_keeps {p s} (inv : Invariant s) : Invariant (bringUpIfReady p s) :=
  keeps_ite (beginBringUp_keeps inv) inv

theorem ackSweep_keeps {p value s} (inv : Invariant s) : Invariant (ackSweep p value s) :=
  keeps_ite (readReg_keeps (onLink_keeps inv (fun _ => id))) (keeps_ite (readReg_keeps (onLink_keeps inv (fun _ =>
    id))) (keeps_ite (trainCode_keeps (onLink_keeps inv (fun _ => id))) (readReg_keeps (onLink_keeps (onLink_keeps
    inv (fun _ => id)) (fun _ => id)))))

theorem writeReg_keeps {p a v s} (inv : Invariant s) : Invariant (writeReg p a v s) :=
  ctrl_keeps inv

theorem writeDiagnostics_keeps {p s} (inv : Invariant s) : Invariant (writeDiagnostics p s) :=
  keeps_foldl (fun _ _ => writeReg_keeps) (onPixels_keeps (writeReg_keeps (writeReg_keeps
    (writeReg_keeps inv))))

theorem uploadTrims_keeps {p s} (inv : Invariant s) : Invariant (uploadTrims p s) :=
  onLink_keeps inv fun l => by
    rw [foldl_keeps LinkPort.enable fun _ _ => sendTrimRow_enable _ _ _ _ _]
    exact id

theorem bringUpAck_keeps {p value s} (inv : Invariant s) : Invariant (bringUpAck p value s) := by
  unfold bringUpAck
  split
  · exact ackReset_keeps inv
  · exact ackSweep_keeps inv
  · exact ackSkew_keeps inv
  · exact writeDiagnostics_keeps (uploadTrims_keeps (onLink_keeps inv (fun _ => id)))
  · exact ackDiagnostics_keeps inv
  · exact keeps_ite (sendStart_keeps (onLink_keeps inv (fun _ => id))) (onLink_keeps inv (fun _ => id))
  · exact inv

theorem resumePort_keeps {p s} (inv : Invariant s) : Invariant (resumePort p s) :=
  keeps_ite (keeps_ite (sendStart_keeps inv) inv) (keeps_ite (clearLoss_keeps inv) (bringUpIfReady_keeps inv))

theorem restartLs_keeps {p cause s} (inv : Invariant s) : Invariant (restartLs p cause s) :=
  writeBoot_keeps (onUnits_keeps (stopPort_keeps (closeWrapper_keeps inv)))

/-! ## Restarts and updates -/

theorem dropRingVote_keeps {s} (inv : Invariant s) : Invariant (dropRingVote s) :=
  keeps_ite inv (afterWithdrawal_keeps (onVotes_keeps inv))

theorem settleRelayVote_keeps {s} (inv : Invariant s) : Invariant (settleRelayVote s) :=
  keeps_ite inv (keeps_ite (dropRingVote_keeps inv) (keeps_ite (keeps_of_frame (castRingVote_frame _) (fun _ => rfl)
    inv) inv))

theorem abortRelays_keeps {status s} (inv : Invariant s) : Invariant (abortRelays status s) :=
  settleRelayVote_keeps (keeps_foldl (fun _ _ h => answerRelay_keeps h) (onRing_keeps inv))

theorem waybillAll_keeps {s} (inv : Invariant s) : Invariant (waybillAll s) :=
  keeps_foldl (fun _ _ => sendWaybill_keeps) (keeps_of_observed inv rfl)

theorem restartCp_keeps {cause s} (inv : Invariant s) : Invariant (restartCp cause s) :=
  have hquiet : Invariant (abortRelays stBusy (busyRequests (waybillAll s))) :=
    abortRelays_keeps (busyRequests_keeps (waybillAll_keeps inv))
  have hboot : ∀ t, Invariant t → Invariant (onUnits (fun u => { u with cp := .booting, cpColdBoot := false })
      (onVotes (fun v => { v with cp := 0x04 }) (closeSession t))) := fun _ ht =>
    onUnits_keeps (onVotes_keeps (closeSession_keeps
      ht))
  have hend : ∀ t, Invariant t → Invariant (onPower (fun w => { w with stopTasks := false })
      (onUpdate (fun u => { u with session := none, staging := [] })
        { t with toll := { t.toll with coming := [], measured := [] } })) := fun _ ht => keeps_of_observed ht rfl
  writeBoot_keeps (hend _ (hboot _ hquiet))

theorem advanceActivation_keeps {s} (inv : Invariant s) : Invariant (advanceActivation s) := by
  unfold advanceActivation
  split
  · exact keeps_ite_of restartLs_keeps id (onUpdate_keeps inv)
  · exact keeps_ite (restartCp_keeps (onUpdate_keeps inv)) (keeps_of_frame
      (finishActivation_frame _) (fun _ => rfl) inv)

theorem startActivation_keeps {n s} (inv : Invariant s) : Invariant (startActivation n s) :=
  keeps_ite_of advanceActivation_keeps (fun h => keeps_ite (advanceActivation_keeps (closeUpdate_keeps inv))
    (putBank_keeps h)) (onUpdate_keeps (closeUpdate_keeps inv))

theorem doActivate_keeps {f s} (inv : Invariant s) : Invariant (doActivate f s) :=
  keeps_ite (respondSvc_keeps inv) (keeps_ite (respondSvc_keeps inv) (keeps_ite (respondSvc_keeps inv)
    (startActivation_keeps (respondSvc_keeps inv))))

theorem sessionOp_keeps {op f s} (inv : Invariant s) : Invariant (sessionOp op f s) := by
  unfold sessionOp
  split
  · exact keeps_of_frame (doOpen_frame _ _) (fun _ => rfl) inv
  · exact keeps_of_frame (doWrite_frame _ _) (fun _ => rfl) inv
  · exact keeps_of_frame (doFinish_frame _ _) (fun _ => rfl) inv
  · exact doActivate_keeps inv
  · exact keeps_of_frame (doStatus_frame _ _) (fun _ => rfl) inv
  · exact keeps_of_frame (doClose_frame _ _) (fun _ => rfl) inv
  · exact keeps_of_frame (doSetRate_frame _ _) (fun _ => rfl) inv
  · exact keeps_of_frame (doRelaySelect_frame _ _) (fun _ => rfl) inv
  · exact respondSvc_keeps inv

theorem receiveFrame_keeps {op f s} (inv : Invariant s) : Invariant (receiveFrame op f s) := by
  refine keeps_ite inv (keeps_ite (respondSvc_keeps inv) (keeps_ite ?_ (keeps_ite
    (respondSvc_keeps inv) (sessionOp_keeps inv))))
  split
  · exact keeps_of_frame (queueStream_frame _ _ _) (fun _ => rfl) inv
  · exact respondSvc_keeps inv

theorem activationBoundary_keeps {s} (inv : Invariant s) : Invariant (activationBoundary s) := by
  unfold activationBoundary
  split
  · exact inv
  · exact keeps_ite (advanceActivation_keeps inv) inv

theorem loadSurface_keeps {s x} (inv : Invariant s) : Invariant (loadSurface s x) :=
  keeps_ite_of finishPin_keeps id (setCfg_keeps
    (setCfg_keeps (setCfg_keeps (setCfg_keeps (setCfg_keeps (setCfg_keeps (setCfg_keeps inv)))))))

theorem goOn_keeps {p s} (inv : Invariant s) : Invariant (goOn p s) :=
  keeps_ite (advanceActivation_keeps inv) inv

theorem recopySafeBeam_keeps {p s} (inv : Invariant s) : Invariant (recopySafeBeam p s) :=
  dropEnables_keeps (keeps_of_observed inv rfl)

theorem handleSram_keeps {region s} (inv : Invariant s) : Invariant (handleSram region s) := by
  unfold handleSram
  split
  · exact onCompose_keeps inv
  · exact spoilLayer_keeps inv
  · exact keeps_ite (keeps_of_frame (spoilPixel_frame _ _ _) (fun _ => rfl) inv) inv
  · exact stallComposer_keeps inv
  · exact keeps_ite inv (restartCp_keeps (raiseKind_keeps inv))
  · exact recopySafeBeam_keeps inv

theorem coldBoot_keeps {s} (inv : Invariant s) : Invariant (coldBoot s) := by
  unfold coldBoot
  have hobjects : Invariant (restoreZoneCodes (latchCanvas (restoreObjects false (dropWakeKeys s)))) :=
    keeps_of_frame (restoreZoneCodes_frame _) (fun _ => rfl) (keeps_of_frame (latchCanvas_frame _) (fun _ => rfl)
      (keeps_of_frame (restoreObjects_frame _ _) (fun _ => rfl) (keeps_of_frame (dropWakeKeys_frame _) (fun _ => rfl)
      inv)))
  exact onUpdate_keeps (keeps_of_frame (repairOptions_frame _) (fun _ => rfl)
    (invertMeshes_keeps (keeps_of_frame (restoreCorrections_frame _) (fun _ => rfl)
      (restoreMode_keeps (restoreRate_keeps hobjects)))))

theorem cpUp_keeps {s} (inv : Invariant s) : Invariant (cpUp s) :=
  keeps_of_frame (treatWaiting_frame _) (fun _ => rfl) (onUnits_keeps (keeps_of_frame (restoreSinks_frame _)
    (fun _ => rfl) (keeps_ite (coldBoot_keeps inv) inv)))

theorem resumeCommit_keeps {s} (inv : Invariant s) : Invariant (resumeCommit s) := by
  unfold resumeCommit
  split
  · exact inv
  · exact keeps_of_frame (runCommit_frame _ _) (fun _ => rfl) (keeps_of_observed inv rfl)

theorem endBoot_keeps {s} (inv : Invariant s) : Invariant (endBoot s) :=
  keeps_ite inv (afterWithdrawal_keeps inv)

theorem cpStarted_keeps {slot s} (inv : Invariant s) : Invariant (cpStarted slot s) :=
  endBoot_keeps (keeps_of_frame (activationAfterBoot_frame _ _) (fun _ => rfl) (onUnits_keeps (cpUp_keeps
    inv)))

theorem smBoot_keeps {reads s} (inv : Invariant s) : Invariant (smBoot reads s).2 := by
  unfold smBoot
  split
  · exact bootCheck_keeps inv
  · split
    · next heq => exact keeps_of_observed (keeps_of_snd heq (runCheck_keeps inv)) rfl
    · next heq => exact bootCheck_keeps (keeps_of_snd heq (runCheck_keeps inv))

theorem recoveryStarted_keeps {s} (inv : Invariant s) : Invariant (recoveryStarted s) :=
  endBoot_keeps (breakActivation_keeps (onUnits_keeps (cpUp_keeps inv)))

/-! ## Values in force and the journal -/

theorem writeOwn_keeps {index sub size v s} (inv : Invariant s) : Invariant (writeOwn index sub size v s) :=
  enqueueWrite_keeps (setCfg_keeps inv)

theorem applyCurve_keeps {p s} (inv : Invariant s) : Invariant (applyCurve p s) :=
  keeps_ite_of id writeOwn_keeps (rebuildSteps_keeps inv)

theorem applyHooks_keeps {index sub v s} (inv : Invariant s) : Invariant (applyHooks index sub v s) :=
  keeps_ite (keeps_ite (keeps_of_frame (startInversion_frame _ _ _) (fun _ => rfl) inv) inv) (keeps_ite
    (restoreMode_keeps inv) (keeps_ite (applyCurve_keeps inv) (keeps_ite (onFullScale_keeps inv) (keeps_ite
    (keeps_of_observed inv rfl) (keeps_ite (settleRequest_keeps inv) (keeps_ite (keeps_of_frame
    (judgeCommissioning_frame _) (fun _ => rfl) inv) (keeps_ite (restoreRate_keeps inv) (keeps_ite (keeps_of_frame
    (rebindStream_frame _ _) (fun _ => rfl) inv) (keeps_ite (keeps_of_frame (applyEntry_frame _ _ _) (fun _ => rfl)
    inv) inv)))))))))

theorem applyValue_keeps {index sub v s} (inv : Invariant s) : Invariant (applyValue index sub v s) :=
  applyHooks_keeps (setCfg_keeps inv)

theorem failWrite_keeps {w s} (inv : Invariant s) : Invariant (failWrite w s) :=
  checkFill_keeps (refuseWrite_keeps (raiseJournal_keeps inv))

theorem commitWrite_keeps {w s} (inv : Invariant s) : Invariant (commitWrite w s) :=
  have hspent : ∀ n t, Invariant t →
      Invariant { t with aon := { t.aon with journalBudget := t.aon.journalBudget - n } } :=
    fun n _ => spendBudget_keeps n
  have hrecord := hspent (budgetCost w) _ (appendRecord_keeps inv)
  checkFill_keeps (answerWaiter_keeps (keeps_ite (applyValue_keeps hrecord)
    hrecord))

/-! ## The Caravan -/

theorem headFrame_keeps {f s} (inv : Invariant s) : Invariant (headFrame f s) :=
  keeps_ite (badFrame_keeps inv) (keeps_ite_of markPresent_keeps markAbsent_keeps (onRing_keeps (takeWords_keeps
    (onRing_keeps inv))))

theorem adoptEpoch_keeps {new s} (inv : Invariant s) : Invariant (adoptEpoch new s) :=
  writeEntry_keeps (keeps_of_observed inv rfl)

theorem compareEpoch_keeps {f cap s} (inv : Invariant s) : Invariant (compareEpoch f cap s) :=
  keeps_ite inv (keeps_ite_of id (fun h => keeps_ite h (raiseKind_keeps h)) (onRing_keeps inv))

theorem acceptToken_keeps {p t f s} (inv : Invariant s) : Invariant (acceptToken p t f s) :=
  keeps_ite_of (fun h => onRing_keeps (adoptEpoch_keeps h)) (fun h => keeps_ite
    (compareEpoch_keeps h) (onRing_keeps h)) (keeps_ite_of raiseKind_keeps id (keeps_of_observed
    inv rfl))

theorem tokenEvent_keeps {p f s} (inv : Invariant s) : Invariant (tokenEvent p f s) :=
  keeps_ite inv (keeps_ite (keeps_of_observed inv rfl) (acceptToken_keeps inv))

theorem stationFrame_keeps {f s} (inv : Invariant s) : Invariant (stationFrame f s) := by
  refine keeps_ite (keeps_ite (keeps_of_frame (emitOwn_frame _) (fun _ => rfl) (badFrame_keeps inv))
    (badFrame_keeps inv)) ?_
  dsimp only
  split
  · exact enterRing_keeps (onRing_keeps inv)
  · exact keeps_ite_of id (fun h => keeps_of_frame (emitFrame_frame _ _ _ _) (fun _ => rfl) (keeps_ite_of (fun h' =>
      tokenEvent_keeps (markAbsent_keeps (keeps_of_frame (readToken_frame _ _) (fun _ => rfl) h'))) markPresent_keeps
      (takeWords_keeps h))) (enterRing_keeps (onRing_keeps inv))

theorem interruptRing_keeps {state s} (inv : Invariant s) : Invariant (interruptRing state s) :=
  abortRelays_keeps (keeps_of_frame (closeHeldBy_frame _ _) (fun _ => rfl) (onRing_keeps inv))

theorem takeSession_keeps {op f s} (inv : Invariant s) : Invariant (takeSession op f s) :=
  keeps_ite (receiveFrame_keeps inv) (onUpdate_keeps inv)

theorem takeSessions_keeps : ∀ {fuel s}, Invariant s → Invariant (takeSessions fuel s)
  | 0, _, inv => inv
  | fuel + 1, s, inv => by
    unfold takeSessions
    split
    · exact takeSessions_keeps (takeSession_keeps (onRing_keeps inv))
    · exact inv

/-! ## The die-to-die bridge -/

theorem acceptDdb_keeps {die frame s} (inv : Invariant s) : Invariant (acceptDdb die frame s) :=
  onDdb_keeps inv

theorem owesNak_keeps {die s} (inv : Invariant s) : Invariant (owesNak die s) :=
  ddbSend_keeps inv

theorem bridgeHeard_keeps {s} (inv : Invariant s) : Invariant (bridgeHeard s) :=
  clearCondition_keeps inv

theorem breakRecord_keeps {die s} (inv : Invariant s) : Invariant (breakRecord die s) :=
  onDdb_keeps inv

theorem sendsGood_keeps {die s} (inv : Invariant s) : Invariant (sendsGood die s) :=
  onDdb_keeps inv

theorem frameFailed_keeps {die i s} (inv : Invariant s) : Invariant (frameFailed die i s) := by
  unfold frameFailed
  split
  · exact inv
  · exact keeps_ite (onDdb_keeps inv) (onDdb_keeps (keeps_of_observed (onDdb_keeps inv) rfl))

theorem recordFailed_keeps {die i s} (inv : Invariant s) : Invariant (recordFailed die i s) := by
  unfold recordFailed
  dsimp only
  split
  · exact inv
  · exact keeps_ite inv (keeps_foldl (fun _ _ => ddbSend_keeps) (onDdb_keeps (keeps_of_observed inv rfl)))

theorem sendFailed_keeps {die failed s} (inv : Invariant s) : Invariant (sendFailed die failed s) := by
  unfold sendFailed
  split
  · exact frameFailed_keeps inv
  · exact recordFailed_keeps inv

theorem raiseBridge_keeps {die s} (inv : Invariant s) : Invariant (raiseBridge die s) := by
  unfold raiseBridge
  dsimp only
  split
  · exact raiseKind_keeps inv
  · exact keeps_ite (raiseKind_keeps inv) (canWaybill_keeps (caravanWaybill_keeps
      (keeps_of_observed (raiseKind_keeps inv) rfl)))

/-! ## Escalation and quiet periods -/

theorem escalate_keeps {k ms a s} (inv : Invariant s) : Invariant (escalate k ms a s) :=
  settle_keeps (keeps_of_observed (writeEntry_keeps inv) rfl)

theorem thawLink_keeps {s} (inv : Invariant s) : Invariant (thawLink s) :=
  keeps_ite_of setDomain_keeps id (keeps_of_observed inv rfl)

theorem returnSupply_keeps {s} (inv : Invariant s) : Invariant (returnSupply s) :=
  keeps_ite (keeps_of_observed (thawLink_keeps (onPower_keeps inv)) rfl) (thaw_keeps
    (thawLink_keeps (onPower_keeps inv)))

theorem afterExit_keeps {k s} (inv : Invariant s) : Invariant (afterExit k s) :=
  keeps_ite inv (keeps_ite (returnSupply_keeps inv) (keeps_ite (keeps_of_frame (remeasureRing_frame _) (fun _ => rfl)
    inv) (keeps_ite (bringUpIfReady_keeps inv) inv)))

theorem endQuiet_keeps {a s} (inv : Invariant s) : Invariant (endQuiet a s) :=
  keeps_ite (onSafety_keeps inv) (keeps_ite (afterExit_keeps (recoverKind_keeps inv)) inv)

theorem releaseLatch_keeps {k s} (inv : Invariant s) : Invariant (releaseLatch k s) :=
  keeps_ite (afterExit_keeps (clearLatch_keeps inv)) (clearLatch_keeps inv)

theorem writeChanged_keeps {p old s} (inv : Invariant s) : Invariant (writeChanged p old s) :=
  keeps_ite inv (keeps_ite_of id (fun h => onPixels_keeps (writeReg_keeps h)) (keeps_ite_of id
    writeReg_keeps (keeps_ite inv (writeReg_keeps inv))))

theorem diagnosticBoundary_keeps {s} (inv : Invariant s) : Invariant (diagnosticBoundary s) :=
  keeps_ite_of concealAll_keeps id (keeps_foldl (fun _ _ => writeChanged_keeps)
    (keeps_of_observed inv rfl))

/-! ## Boundaries of the scan -/

theorem frameCeiling_keeps {badLut s} (inv : Invariant s) : Invariant (frameCeiling badLut s) :=
  clearByCeiling_keeps (keeps_ite_of badTable_keeps id (keeps_of_frame (ceilingBoundary_frame _) (fun _ => rfl) inv))

theorem endSafeUntilCommit_keeps {s} (inv : Invariant s) : Invariant (endSafeUntilCommit s) :=
  keeps_ite (clearCondition_keeps (onManifest_keeps inv)) inv

theorem endEighth_keeps {s} (inv : Invariant s) : Invariant (endEighth s) := by
  have hpos : ∀ {t : State}, Invariant t → Invariant { t with scan := advancePos t.scan } :=
    fun ht => keeps_of_observed ht rfl
  exact keeps_ite (hpos (keeps_of_frame (advanceClocks_frame _ _) (fun _ => rfl) inv)) (keeps_of_observed inv rfl)

theorem openLine_keeps {s} (inv : Invariant s) : Invariant (openLine s) :=
  mapLink_keeps _ (fun _ l => by
    show (transmit _ _ l).enable = true → _
    rw [transmit_enable]
    exact id) inv

theorem showSafe_keeps {p s} (inv : Invariant s) : Invariant (showSafe p s) :=
  raiseSupply_keeps (onLink_keeps inv (fun _ => id))

theorem takeSafe_keeps {s} (inv : Invariant s) : Invariant (takeSafe s) :=
  keeps_ite_of id dropEnables_keeps (keeps_foldl (fun _ _ h => keeps_ite (showSafe_keeps h) h) inv)

theorem lineStart_keeps {before s} (inv : Invariant s) : Invariant (lineStart before s) :=
  have hheld : ∀ t, Invariant t → Invariant { t with link := t.link.map fun _ l => lineHold t l } := fun _ ht =>
    mapLink_keeps _ (fun _ l => by rw [lineHold_enable]; exact id) ht
  have hsent : ∀ {t u} (p : Port) (changed : Bool), Invariant t → Invariant (onLink p (portLine u p changed) t) :=
    fun _ _ ht => onLink_keeps ht fun l => by rw [portLine_enable]; exact id
  keeps_foldl (fun _ _ ht => keeps_of_frame (noteScanned_frame _ _ _) (fun _ => rfl) (hsent _ _ ht))
    (keeps_of_frame (noteSeed_frame _) (fun _ => rfl) (hheld _ (takeSafe_keeps inv)))

theorem completeOlder_keeps {s} (inv : Invariant s) : Invariant (completeOlder s) := by
  unfold completeOlder
  split
  · exact keeps_ite (onCompose_keeps (enterRun_keeps (keeps_foldl
      (fun _ _ => composeHalf_keeps) (enterRun_keeps inv)))) inv
  · exact inv

theorem lineAndSeed_keeps {before s} (inv : Invariant s) : Invariant (lineAndSeed before s) :=
  keeps_ite_of completeOlder_keeps id (keeps_ite_of lineStart_keeps id (keeps_ite (keeps_of_frame
    (subPeriodStart_frame _) (fun _ => rfl) inv) inv))

theorem nextEpoch_keeps {s} (inv : Invariant s) : Invariant (nextEpoch s) := by
  unfold nextEpoch
  split
  · exact adoptEpoch_keeps (keeps_of_observed inv rfl)
  · exact keeps_of_observed inv rfl

theorem latchSettings_keeps {s} (inv : Invariant s) : Invariant (latchSettings s) :=
  keeps_of_observed inv rfl

theorem discardPaused_keeps {s} (inv : Invariant s) : Invariant (discardPaused s) :=
  keeps_ite inv (endCalStep_keeps (keeps_of_observed inv rfl))

theorem restoreDivergence_keeps {s} (inv : Invariant s) : Invariant (restoreDivergence s) :=
  keeps_ite (handleKind_keeps (keeps_foldl (fun _ _ h => rebuildSteps_keeps (onFullScale_keeps h)) inv)) inv

theorem announceRate_keeps {s} (inv : Invariant s) : Invariant (announceRate s) := by
  unfold announceRate
  split
  · exact keeps_foldl (fun _ _ h => keeps_ite (ctrl_keeps h) h) inv
  · exact inv

theorem portBoundary_keeps {s} (inv : Invariant s) : Invariant (portBoundary s) :=
  mapLink_keeps _ (fun _ l => by split <;> exact id) (keeps_foldl (fun _ _ => enterService_keeps) inv)

theorem showComposed_keeps {p s} (inv : Invariant s) : Invariant (showComposed p s) :=
  raiseSupply_keeps (onLink_keeps inv (fun _ => id))

theorem returnComposed_keeps {s} (inv : Invariant s) : Invariant (returnComposed s) :=
  keeps_foldl (fun _ _ h => keeps_ite (showComposed_keeps h) h) inv

theorem frameEnables_keeps {s} (inv : Invariant s) : Invariant (frameEnables s) :=
  releaseWakeVotes_keeps (raiseEnables_keeps (endBlanking_keeps inv))

theorem frameBoundary_keeps {badLut s} (inv : Invariant s) : Invariant (frameBoundary badLut s) :=
  sendShadow_keeps (activationBoundary_keeps (frameEnables_keeps (returnComposed_keeps (endSafeUntilCommit_keeps
    (diagnosticBoundary_keeps (announceRate_keeps (portBoundary_keeps (queueBoundary_keeps (keeps_of_frame
    (frameExcluded_frame _) (fun _ => rfl) (frameCeiling_keeps (keeps_of_frame (warpBoundary_frame _) (fun _ => rfl)
    (keeps_of_frame (pinBoundary_frame _) (fun _ => rfl) (keeps_of_frame (clearFrameMarks_frame _) (fun _ => rfl)
    (latchSettings_keeps (keeps_of_frame (repairBoundary_frame _) (fun _ => rfl) (discardPaused_keeps
    (restoreDivergence_keeps (modeBoundary_keeps (keeps_of_frame (decayActive_frame _) (fun _ => rfl) (keeps_of_frame
    (almanacBoundary_frame _) (fun _ => rfl) (nextEpoch_keeps (keeps_of_frame (endScanned_frame _) (fun _ => rfl)
    (keeps_foldl (fun _ _ h => keeps_of_frame (pairSamples_frame _ _) (fun _ => rfl) h) inv)))))))))))))))))))))))

theorem cutBuffered_keeps {frame zr s} (inv : Invariant s) : Invariant (cutBuffered frame zr s) :=
  keeps_ite (keeps_foldl (fun _ _ => markLate_keeps) inv) inv

theorem cutZoneRow_keeps {b s} (inv : Invariant s) : Invariant (cutZoneRow b s) :=
  keeps_ite (cutBuffered_keeps inv) (keeps_ite (cutBuffered_keeps inv) inv)

theorem startBand_keeps {b s} (inv : Invariant s) : Invariant (startBand b s) :=
  keeps_ite (keeps_ite (chooseZones_keeps (beginBand_keeps (keeps_of_frame (beginFrame_frame _ _ _ _) (fun _ => rfl)
    inv))) (keeps_ite (keeps_of_frame (leaveRacing_frame _) (fun _ => rfl) inv) inv)) (keeps_ite (chooseZones_keeps
    (beginBand_keeps inv)) inv)

theorem compositionBoundary_keeps {b s} (inv : Invariant s) : Invariant (compositionBoundary b s) :=
  keeps_ite inv (keeps_ite (keeps_ite (cutZoneRow_keeps inv) (keeps_of_frame (startBuffered_frame _) (fun _ => rfl)
    (cutZoneRow_keeps inv))) (startBand_keeps (cutZoneRow_keeps inv)))

theorem bandBoundary_keeps {b s} (inv : Invariant s) : Invariant (bandBoundary b s) :=
  keeps_of_frame (openReport_frame _ _) (fun _ => rfl) (remapBoundary_keeps (compositionBoundary_keeps (keeps_ite
    (keeps_of_frame (swapBoundary_frame _) (fun _ => rfl) (commitBoundary_keeps inv)) inv)))

theorem boundaries_keeps {badLut s} (inv : Invariant s) : Invariant (boundaries badLut s) :=
  runAlmanac_keeps (keeps_ite_of bandBoundary_keeps id (keeps_of_observed (keeps_ite (frameBoundary_keeps inv) inv)
    rfl))

/-! ## Writes of the host -/

theorem journalWrite_keeps {index sub kind size v w s} (inv : Invariant s) :
    Invariant (journalWrite index sub kind size v w s).2 := by
  unfold journalWrite
  dsimp only
  split
  · exact keeps_of_observed inv rfl
  · exact inv
  · exact raiseJournal_keeps inv

theorem writeRestore_keeps {v w s} (inv : Invariant s) : Invariant (writeRestore v w s).2 :=
  keeps_snd_ite (journalWrite_keeps inv) (keeps_snd_ite (keeps_snd_ite (journalWrite_keeps inv) inv) inv)

theorem ackBlock_keeps {u v s} (inv : Invariant s) : Invariant (ackBlock u v s) :=
  putBlock_keeps inv

theorem clearEmitter_keeps {p s} (inv : Invariant s) : Invariant (clearEmitter p s) :=
  keeps_ite (clearRecord_keeps (onLink_keeps inv (fun _ => id))) inv

theorem writeSpecial_keeps {w index sub v data s} (inv : Invariant s) :
    ∀ r, writeSpecial w index sub v data s = some r → Invariant r.2 := by
  intro r hr
  unfold writeSpecial at hr
  dsimp only at hr
  split at hr
  · cases hr
    exact respond_keeps inv
  · cases hr
    exact keeps_of_frame (writeSessionClose_frame _ _ _) (fun _ => rfl) inv
  · cases hr
    exact storeKey_keeps inv
  · cases hr
    exact keeps_of_observed inv rfl
  · cases hr
    exact keeps_ite (requestCommit_keeps inv) inv
  · cases hr
    exact keeps_ite (acceptSwapRequest_keeps inv) inv
  · cases hr
    exact keeps_of_frame (stageShade_frame _ _ _) (fun _ => rfl) inv
  · cases hr
    exact ackBlock_keeps inv
  · cases hr
    exact releaseLatch_keeps inv
  · cases hr
    exact writeHostVote_keeps inv
  · cases hr
    exact writeToken_keeps inv
  · cases hr
    exact keeps_of_frame (commitArea_frame _ _) (fun _ => rfl) inv
  · cases hr
    exact onUpdate_keeps inv
  · cases hr
    exact keeps_ite (keeps_of_observed inv rfl) inv
  · split at hr
    · cases hr
      exact keeps_of_frame (stageWrite_frame _ _ _ _) (fun _ => rfl) inv
    split at hr
    · cases hr
      exact keeps_of_frame (writePin_frame _ _ _) (fun _ => rfl) inv
    split at hr
    · cases hr
      exact keeps_ite (keeps_of_frame (retrySink_frame _ _ _) (fun _ => rfl) (keeps_of_frame (drawFree_frame _)
        (fun _ => rfl) inv)) inv
    split at hr
    · cases hr
      exact onPixels_keeps inv
    split at hr
    · cases hr
      exact keeps_ite (clearEmitter_keeps inv) inv
    · cases hr

theorem performWrite_keeps {w o index sub data s} (inv : Invariant s) :
    Invariant (performWrite w o index sub data s).2 := by
  unfold performWrite
  refine keeps_snd_ite (writeRestore_keeps inv) (keeps_snd_ite (keeps_of_observed inv rfl)
    (keeps_snd_ite (journalWrite_keeps inv) ?_))
  split
  · next hr => exact writeSpecial_keeps inv _ hr
  · exact applyValue_keeps inv

theorem writeObject_keeps {w index sub data s} (inv : Invariant s) :
    Invariant (writeObject w index sub data s).2 := by
  unfold writeObject
  refine keeps_snd_ite (keeps_of_frame (noteRefusal_frame _ _ _) (fun _ => rfl) inv) ?_
  split
  · exact performWrite_keeps inv
  · exact inv

theorem requestWrite_keeps {via index sub data s} (inv : Invariant s) :
    Invariant (requestWrite via index sub data s) := by
  refine keeps_ite (answer_keeps inv) ?_
  dsimp only
  split
  · exact answer_keeps (writeObject_keeps inv)
  · exact writeObject_keeps inv

theorem keepBits_keeps {u ks s} (inv : Invariant s) : Invariant (keepBits u ks s) :=
  keeps_foldl (fun _ _ => putBlock_keeps) inv

theorem raiseKinds_keeps {u ks s} (inv : Invariant s) : Invariant (raiseKinds u ks s) :=
  keeps_foldl (fun _ _ => raiseKind_keeps) inv

/-! ## Host transports -/

theorem hostActive_keeps {uhl s} (inv : Invariant s) : Invariant (hostActive uhl s) :=
  keeps_ite (clearCondition_keeps (onHost_keeps inv)) inv

/-- The encoder stores tiles, which keeps the form of the memory, and draws free values. -/
theorem encodeTileRow_keeps {k f t s} (inv : Invariant s) : Invariant (encodeTileRow k f t s) := by
  have hf := encodeTileRow_frame k f t s
  have hwf := encodeTileRow_wf k f t s inv.1
  obtain ⟨-, hrest⟩ := inv
  have haon : (encodeTileRow k f t s).aon = s.aon := (congrArg State.aon hf :)
  have hhk : (encodeTileRow k f t s).hk = s.hk := (congrArg State.hk hf :)
  have hfaults : (encodeTileRow k f t s).faults = s.faults := (congrArg State.faults hf :)
  have hlink : (encodeTileRow k f t s).link = s.link := (congrArg State.link hf :)
  refine ⟨hwf, ?_⟩
  simpa only [ringPlaced, darkIsDark, haon, hhk, hfaults, hlink] using hrest

theorem encodeHeld_keeps {k f} : ∀ {n s}, Invariant s → Invariant (encodeHeld k f n s)
  | 0, _, inv => inv
  | n + 1, s, inv => by
    unfold encodeHeld
    split
    · exact encodeHeld_keeps (encodeTileRow_keeps inv)
    · exact inv

theorem endPicture_keeps {k f s} (inv : Invariant s) : Invariant (endPicture k f s) :=
  keeps_ite inv (keeps_ite (keeps_of_frame (finishPicture_frame _ _ _) (fun _ => rfl) (encodeHeld_keeps inv))
    (keeps_of_frame (discardPicture_frame _ _) (fun _ => rfl) inv))

theorem videoLine_keeps {k f n picture payload s} (inv : Invariant s) :
    Invariant (videoLine k f n picture payload s) := by
  refine keeps_ite inv ?_
  split
  · exact takeLine_keeps (beginPicture_keeps inv)
  · exact keeps_ite (takeLine_keeps inv) (keeps_ite (takeLine_keeps (beginPicture_keeps (endPicture_keeps inv))) inv)

theorem applyUhlRecord_keeps {n r s} (inv : Invariant s.1) : Invariant (applyUhlRecord n r s).1 := by
  unfold applyUhlRecord
  dsimp only
  repeat' split
  · exact writeObject_keeps inv
  · exact keeps_of_frame (recordRefusal_frame _ _ _ _ _) (fun _ => rfl) (writeObject_keeps inv)
  · exact writeObject_keeps inv

theorem applyUhlRecords_keeps : ∀ {rs n s}, Invariant s.1 → Invariant (applyUhlRecords n rs s).1
  | [], _, _, inv => inv
  | _ :: rs, _, _, inv => applyUhlRecords_keeps (rs := rs) (applyUhlRecord_keeps inv)

theorem burstWrite_keeps {via} : ∀ {n a bs s}, Invariant s → Invariant (burstWrite via n a bs s).2
  | 0, _, _, _, inv => inv
  | n + 1, _, _, _, inv => by
    unfold burstWrite
    refine keeps_snd_ite inv ?_
    split
    · exact burstWrite_keeps inv
    · exact burstWrite_keeps (writeObject_keeps inv)

theorem sbpActive_keeps {s} (inv : Invariant s) : Invariant (sbpActive s) :=
  keeps_ite (hostActive_keeps inv) inv

theorem receiveShp_keeps {command f s} (inv : Invariant s) : Invariant (receiveShp command f s) := by
  refine keeps_ite inv ?_
  dsimp only
  split
  · exact onHost_keeps (shpOut_keeps inv)
  · exact keeps_ite_of id (fun h => keeps_ite (answer_keeps h) (keeps_ite_of id (fun h' => keeps_ite_of id
      (fun h'' => keeps_ite h'' (onHost_keeps h')) (answer_keeps h')) (hostActive_keeps (shpOut_keeps inv))))
      (onHost_keeps (shpOut_keeps inv))

theorem serveShp_keeps {r s} (inv : Invariant s) : Invariant (serveShp r s) := by
  unfold serveShp
  dsimp only
  split
  · exact requestRead_keeps inv
  · exact requestWrite_keeps inv
  · exact answer_keeps (keeps_of_frame (burstRead_frame _ _ _ _) (fun _ => rfl) inv)
  · exact keeps_of_frame (endBurst_frame _ _ _ _ _ _) (fun _ => rfl) (burstWrite_keeps inv)

theorem serveCan_keeps {r s} (inv : Invariant s) : Invariant (serveCan r s) :=
  keeps_ite (requestWrite_keeps inv) (requestRead_keeps inv)

theorem relayCan_keeps {q f s} (inv : Invariant s) : Invariant (relayCan q f s) :=
  keeps_ite (answerRelay_keeps inv) (keeps_ite (answerRelay_keeps
    inv) (settleRelayVote_keeps (onRing_keeps inv)))

/-! ## Reports of the ports -/

theorem noteStorm_keeps {p band s} (inv : Invariant s) : Invariant (noteStorm p band s) :=
  keeps_ite_of raiseKind_keeps id (onPixels_keeps inv)

theorem countCodeErrors_keeps {p packet s} (inv : Invariant s) : Invariant (countCodeErrors p packet s) :=
  onLink_keeps inv (fun _ => id)

theorem ackHold_keeps {p s} (inv : Invariant s) : Invariant (ackHold p s) :=
  remapHeld_keeps (onLink_keeps inv (fun _ => id))

theorem answerCtrl_keeps {p c packet s} (inv : Invariant s) : Invariant (answerCtrl p c packet s) :=
  keeps_ite (ackHold_keeps (onLink_keeps inv (fun _ => id))) (keeps_ite (keeps_ite (failBringUp_keeps (onLink_keeps
    inv (fun _ => id))) (keeps_ite (onLink_keeps inv (fun _ => id)) (bringUpAck_keeps (onLink_keeps inv (fun _ =>
    id))))) (onLink_keeps inv (fun _ => id)))

theorem echoPersistent_keeps {p band s} (inv : Invariant s) : Invariant (echoPersistent p band s) :=
  keeps_ite inv (dropEnables_keeps (raiseKind_keeps (keeps_ite_of id putRecord_keeps (onPixels_keeps inv))))

theorem decideStatus_keeps {p i code vf s} (inv : Invariant s) : Invariant (decideStatus p i code vf s) :=
  confirmStatus_keeps (endConfirm_keeps inv)

theorem missedSample_keeps {p f s} (inv : Invariant s) : Invariant (missedSample p f s) :=
  keeps_ite (moveConfirm_keeps inv) (keeps_ite (decideStatus_keeps inv) (onPixels_keeps (endConfirm_keeps inv)))

theorem stepA_keeps {p i vf s} (inv : Invariant s) : Invariant (stepA p i vf s) :=
  keeps_ite_of (fun h => keeps_ite (sf1Reaction_keeps (decideStatus_keeps inv)) h) id (moveConfirm_keeps inv)

theorem stepB_keeps {p i vf s} (inv : Invariant s) : Invariant (stepB p i vf s) :=
  decideStatus_keeps inv

theorem stepC_keeps {p i vf s} (inv : Invariant s) : Invariant (stepC p i vf s) :=
  keeps_ite (decideStatus_keeps inv) (keeps_ite (decideStatus_keeps inv) (onPixels_keeps
    (endConfirm_keeps inv)))

theorem probeSample_keeps {p e s} (inv : Invariant s) : Invariant (probeSample p e s) := by
  unfold probeSample
  split
  · exact inv
  · exact keeps_ite (missedSample_keeps inv) (keeps_ite (stepA_keeps inv) (keeps_ite (stepB_keeps inv) (keeps_ite
      (stepC_keeps inv) inv)))

theorem sweepSample_keeps {p e s} (inv : Invariant s) : Invariant (sweepSample p e s) :=
  keeps_ite (keeps_of_frame (ageSample_frame _ _ _) (fun _ => rfl) inv) (keeps_ite (keeps_ite (sf1Reaction_keeps inv)
    (addCandidate_keeps inv)) inv)

theorem withdrawReport_keeps {p band s} (inv : Invariant s) : Invariant (withdrawReport p band s) := by
  unfold withdrawReport
  split
  · exact inv
  · exact keeps_ite (noteStorm_keeps (onPixels_keeps inv)) inv

theorem judgeFlags_keeps {p band mask flags s} (inv : Invariant s) : Invariant (judgeFlags p band mask flags s) :=
  keeps_ite_of id (fun h => keeps_ite (noteStorm_keeps h) (keeps_foldl (fun _ _ h => addCandidate_keeps h) h))
    (onPixels_keeps inv)

theorem startStep_keeps {p f s} (inv : Invariant s) : Invariant (startStep p f s) :=
  ctrl_keeps (writeReg_keeps (onPixels_keeps inv))

theorem echoMismatch_keeps {p band s} (inv : Invariant s) : Invariant (echoMismatch p band s) :=
  keeps_ite_of echoPersistent_keeps id (raiseKind_keeps (onPixels_keeps inv))

theorem judgeEcho_keeps {p band mask checksum s} (inv : Invariant s) : Invariant (judgeEcho p band mask checksum s) :=
  keeps_ite (onPixels_keeps inv) (echoMismatch_keeps inv)

theorem phaseEvent_keeps {source fraction lat expected s} (inv : Invariant s) :
    Invariant (phaseEvent source fraction lat expected s) :=
  keeps_ite inv (keeps_ite_of id (fun h => keeps_ite (raiseKind_keeps h) h) (keeps_of_observed inv rfl))

/-! ## The judgement of tiles -/

theorem disagree_keeps {e entry short s} (inv : Invariant s) : Invariant (disagree e entry short s) :=
  keeps_ite_of raiseKind_keeps markPresent_keeps (raiseKind_keeps (keeps_of_observed inv rfl))

theorem violate_keeps {entry safe s} (inv : Invariant s) : Invariant (violate entry safe s) :=
  raiseKind_keeps (keeps_of_observed inv rfl)

theorem judgeTile_keeps {e p t x s} (inv : Invariant s) : Invariant (judgeTile e p t x s) :=
  keeps_ite_of (fun h => settle_keeps (violate_keeps h)) clearCondition_keeps (keeps_ite_of disagree_keeps
    clearCondition_keeps (keeps_of_observed inv rfl))

theorem judgeForwarded_keeps {p tile flaws s} (inv : Invariant s) : Invariant (judgeForwarded p tile flaws s) := by
  unfold judgeForwarded
  split
  · exact inv
  · split
    · exact judgeTile_keeps (keeps_of_observed inv rfl)
    · exact inv

end Sys2Proof.Laws
end

section
/-!
Every command keeps the invariant of the block (O54).
-/

namespace Sys2Proof.Laws

open Sys2Proof Sys2Proof.Machine

/-! ## What commands of one kind have in common -/

theorem onSurface_keeps {n g s} (hg : ∀ f {t}, Invariant t → Invariant (g f t)) (inv : Invariant s) :
    Invariant (onSurface n g s) := by
  unfold onSurface
  split
  · exact hg _ inv
  · exact inv

theorem fetchWork_keeps {due f s} (hf : ∀ {t}, Invariant t → Invariant (f t)) (inv : Invariant s) :
    Invariant (fetchWork due f s) := by
  refine keeps_ite inv ?_
  split
  · exact keeps_ite (enterRun_keeps (hf (enterRun_keeps inv)))
      (keeps_ite (hf inv) inv)
  · exact keeps_ite (hf inv) inv

theorem receiveReturn_keeps {p ty ok packet k s} (hk : ∀ {t}, Invariant t → Invariant (k t)) (inv : Invariant s) :
    Invariant (outS (.next (receiveReturn p ty ok packet k s)) s) :=
  keeps_ite inv (keeps_ite (onLink_keeps (countCodeErrors_keeps inv) (fun _ => id)) (keeps_ite (countCodeErrors_keeps
    inv) (hk (onLink_keeps (countCodeErrors_keeps inv) (fun _ => id)))))

theorem receiveDdb_keeps {ty die frame act s} (hact : ∀ {t}, Invariant t → Invariant (act t)) (inv : Invariant s) :
    Invariant (outS (.next (receiveDdb ty die frame act s)) s) :=
  keeps_ite inv (keeps_ite (owesNak_keeps inv) (keeps_ite (onDdb_keeps (bridgeHeard_keeps inv)) (keeps_ite inv
    (hact (bridgeHeard_keeps (acceptDdb_keeps inv))))))

theorem plainDdb_keeps {ty die frame s} (inv : Invariant s) : Invariant (outS (plainDdb ty die frame s) s) :=
  receiveDdb_keeps (fun h => breakRecord_keeps (sendsGood_keeps h)) inv

theorem receiveUhl_keeps {lane packet control good act s} (hact : ∀ {t}, Invariant t → Invariant (act t))
    (inv : Invariant s) : Invariant (outS (.next (receiveUhl lane packet control good act s)) s) := by
  have hlane : ∀ f {t}, Invariant t → Invariant (onLane lane f t) := fun _ _ => onLane_keeps
  have hhost : ∀ f {t}, Invariant t → Invariant (onHost f t) := fun _ _ => onHost_keeps
  refine keeps_ite inv (keeps_ite (hlane _ (hlane _ inv)) (keeps_ite (hhost _ (hlane _ inv))
    (keeps_ite (hhost _ (hlane _ inv)) ?_)))
  exact hact (hostActive_keeps (hhost _ (hlane _ (hlane _ inv))))

theorem receiveCan_keeps {f kind least own relay s} (hown : ∀ {t}, Invariant t → Invariant (own t))
    (hrelay : ∀ q {t}, Invariant t → Invariant (relay q t)) (inv : Invariant s) :
    Invariant (outS (.next (receiveCan f kind least own relay s)) s) := by
  refine keeps_ite inv (keeps_ite (hown (hostActive_keeps inv)) ?_)
  split
  · exact hrelay _ (hostActive_keeps inv)
  · exact inv

theorem completeCan_keeps {bus id bytes k s} (hk : ∀ {t}, Invariant t → Invariant (k t)) (inv : Invariant s) :
    Invariant (completeCan bus id bytes k s) := by
  refine keeps_ite (hk inv) ?_
  dsimp only
  split
  · exact keeps_ite_of (fun h => h) (fun h => keeps_of_frame (canSend_frame _ _ _ _) (fun _ => rfl) h)
      (onHost_keeps inv)
  · exact hk (onHost_keeps inv)

theorem serveInside_keeps {inside serve s} (hserve : ∀ {t}, Invariant t → Invariant (serve t)) (inv : Invariant s) :
    Invariant (serveInside inside serve s) := by
  unfold serveInside
  split
  · exact hserve inv
  · exact keeps_ite_of onAccess_keeps id
      (hserve (onAccess_keeps inv))

/-! ## The commands -/

theorem execPinCopyDone_keeps {surface s} (inv : Invariant s) : Invariant (outS (execPinCopyDone surface s) s) :=
  keeps_ite (handleByPins_keeps (finishPin_keeps inv)) inv

theorem execTileRefetchDone_keeps {p layer tile flaws s} (inv : Invariant s) :
    Invariant (outS (execTileRefetchDone p layer tile flaws s) s) :=
  fetchWork_keeps (fun h => onSurface_keeps (fun _ => decodeAgain_keeps) h) inv

theorem execTileLateTimeout_keeps {p layer tile s} (inv : Invariant s) :
    Invariant (outS (execTileLateTimeout p layer tile s) s) :=
  fetchWork_keeps (fun h => onSurface_keeps (fun _ => lateTile_keeps) h) inv

theorem execLeapWrapped_keeps {s} (inv : Invariant s) : Invariant (outS (execLeapWrapped s) s) :=
  keeps_ite (keeps_of_observed inv rfl) inv

theorem execRcMeasureWindow_keeps {count s} (inv : Invariant s) : Invariant (outS (execRcMeasureWindow count s) s) :=
  keeps_ite (keeps_of_observed inv rfl) inv

theorem execSyncInEdge_keeps {rising fraction s} (inv : Invariant s) :
    Invariant (outS (execSyncInEdge rising fraction s) s) :=
  keeps_ite (phaseEvent_keeps inv) inv

theorem execClockFallback_keeps {s} (inv : Invariant s) : Invariant (outS (execClockFallback s) s) :=
  keeps_ite (raiseKind_keeps (keeps_of_observed inv rfl)) inv

theorem execReferenceHoldover_keeps {s} (inv : Invariant s) : Invariant (outS (execReferenceHoldover s) s) :=
  keeps_ite (raiseKind_keeps (keeps_of_observed inv rfl)) inv

theorem execZoneRowStagingDone_keeps {p zoneRow badCells s} (inv : Invariant s) :
    Invariant (outS (execZoneRowStagingDone p zoneRow badCells s) s) :=
  keeps_ite (keeps_of_frame (beginDue_frame _) (fun _ => rfl) (stageZoneRow_keeps inv)) inv

theorem execScanOutTileCheck_keeps {p row col lower flaws s} (inv : Invariant s) :
    Invariant (outS (execScanOutTileCheck p row col lower flaws s) s) := by
  refine keeps_ite inv ?_
  split
  · exact putChecked_keeps (onCompose_keeps inv)
  · split
    · exact putChecked_keeps (noteMismatch_keeps (onCompose_keeps
        inv))
    · exact putChecked_keeps (onCompose_keeps (noteMismatch_keeps
        (onCompose_keeps inv)))

theorem execTileComposed_keeps {p row col lower badCell s} (inv : Invariant s) :
    Invariant (outS (execTileComposed p row col lower badCell s) s) :=
  keeps_ite inv (keeps_ite (composeRacing_keeps inv) (composeBuffered_keeps inv))

theorem execShadeStale_keeps {s} (inv : Invariant s) : Invariant (outS (execShadeStale s) s) :=
  keeps_ite (raiseKind_keeps (onShade_keeps inv)) inv

theorem execStagedBankRefillDone_keeps {s} (inv : Invariant s) : Invariant (outS (execStagedBankRefillDone s) s) := by
  refine keeps_ite ?_ inv
  split
  · exact landList_keeps (onShade_keeps inv)
  · exact onShade_keeps inv

theorem execCeilingMapReloadDone_keeps {s} (inv : Invariant s) : Invariant (outS (execCeilingMapReloadDone s) s) :=
  keeps_ite (clearCondition_keeps (keeps_of_observed inv rfl)) inv

theorem execComposerStall_keeps {s} (inv : Invariant s) : Invariant (outS (execComposerStall s) s) :=
  keeps_ite (stallComposer_keeps inv) inv

theorem execChallengeLockoutEnd_keeps {s} (inv : Invariant s) : Invariant (outS (execChallengeLockoutEnd s) s) :=
  keeps_of_observed inv rfl

theorem execArraySensorDisqualify_keeps {p quadrant s} (inv : Invariant s) :
    Invariant (outS (execArraySensorDisqualify p quadrant s) s) :=
  keeps_ite (raiseKind_keeps (onModel_keeps inv)) inv

theorem execTollModelDivergence_keeps {p s} (inv : Invariant s) : Invariant (outS (execTollModelDivergence p s) s) :=
  keeps_ite (raiseKind_keeps (onModel_keeps inv)) inv

theorem execModelDivergenceClear_keeps {p s} (inv : Invariant s) :
    Invariant (outS (execModelDivergenceClear p s) s) :=
  keeps_ite (keeps_ite_of id clearCondition_keeps (onModel_keeps inv)) inv

theorem execLaneRetrain_keeps {p lane s} (inv : Invariant s) : Invariant (outS (execLaneRetrain p lane s) s) :=
  keeps_ite (readReg_keeps (sendTrain_keeps (onLink_keeps inv (fun _ => id)))) inv

theorem execPortFltAssert_keeps {p s} (inv : Invariant s) : Invariant (outS (execPortFltAssert p s) s) :=
  keeps_ite inv (keeps_ite (losePort_keeps (onLink_keeps inv (fun _ => id))) (keeps_ite (failBringUp_keeps
    (onLink_keeps inv (fun _ => id))) (onLink_keeps inv (fun _ => id))))

theorem execReturnLaneGraceExpiry_keeps {p s} (inv : Invariant s) :
    Invariant (outS (execReturnLaneGraceExpiry p s) s) :=
  keeps_ite (losePort_keeps inv) inv

theorem execReturnReceiverRetrained_keeps {p s} (inv : Invariant s) :
    Invariant (outS (execReturnReceiverRetrained p s) s) :=
  keeps_ite (clearCondition_keeps (chooseCtle_keeps (onLink_keeps inv (fun _ => id)))) inv

theorem execLaneTxFault_keeps {p lane s} (inv : Invariant s) : Invariant (outS (execLaneTxFault p lane s) s) :=
  keeps_ite (laneFailure_keeps inv) inv

theorem execCtrlAckTimeout_keeps {p s} (inv : Invariant s) : Invariant (outS (execCtrlAckTimeout p s) s) := by
  unfold execCtrlAckTimeout
  dsimp only [outS]
  split
  · exact inv
  · exact keeps_ite (failBringUp_keeps (onLink_keeps inv (fun _ => id))) (keeps_ite (raiseKind_keeps (onLink_keeps
      inv (fun _ => id))) (onLink_keeps inv (fun _ => id)))

theorem execLsResumeTimeout_keeps {p s} (inv : Invariant s) : Invariant (outS (execLsResumeTimeout p s) s) :=
  keeps_ite (losePort_keeps inv) inv

theorem execPortFltRelease_keeps {p s} (inv : Invariant s) : Invariant (outS (execPortFltRelease p s) s) :=
  keeps_ite (clearLoss_keeps (onLink_keeps inv (fun _ => id))) inv

theorem execLaneRetrainDone_keeps {p lane errors s} (inv : Invariant s) :
    Invariant (outS (execLaneRetrainDone p lane errors s) s) :=
  keeps_ite (onLink_keeps inv (fun _ => id)) inv

theorem execReturnLaneLost_keeps {p s} (inv : Invariant s) : Invariant (outS (execReturnLaneLost p s) s) :=
  keeps_ite (raiseKind_keeps (onLink_keeps inv (fun _ => id))) inv

theorem budget_keeps {s n} (inv : Invariant s) (hn : n ≤ 65536) :
    Invariant { s with aon := { s.aon with journalBudget := n } } := by
  obtain ⟨hdram, hring, hallow, -, hrest⟩ := inv
  exact ⟨hdram, hring, hallow, hn, hrest⟩

/-- The refill stops at the full budget (R492). -/
theorem execJournalBudgetRefill_keeps {s} (inv : Invariant s) : Invariant (outS (execJournalBudgetRefill s) s) :=
  budget_keeps inv (Nat.min_le_left _ _)

theorem execCommitAllowanceRefill_keeps {s} (inv : Invariant s) :
    Invariant (outS (execCommitAllowanceRefill s) s) := by
  obtain ⟨hdram, hring, -, hrest⟩ := inv
  exact ⟨hdram, hring, Nat.min_le_left _ _, hrest⟩

theorem execBlackBoxCommitDone_keeps {verified s} (inv : Invariant s) :
    Invariant (outS (execBlackBoxCommitDone verified s) s) := by
  unfold execBlackBoxCommitDone
  dsimp only [outS]
  split
  · exact keeps_ite (endCommit_keeps inv) inv
  · exact inv

theorem execAck_keeps {p packet s} (inv : Invariant s) : Invariant (outS (execAck p packet s) s) := by
  refine receiveReturn_keeps (fun h => ?_) inv
  split
  · exact answerCtrl_keeps h
  · exact h

theorem execHoldExpired_keeps {p packet s} (inv : Invariant s) : Invariant (outS (execHoldExpired p packet s) s) :=
  receiveReturn_keeps (fun h => keeps_ite (onLink_keeps h (fun _ => id)) h) inv

theorem execPortEchoReenable_keeps {p s} (inv : Invariant s) : Invariant (outS (execPortEchoReenable p s) s) :=
  keeps_ite (keeps_ite_of id clearCondition_keeps (onPixels_keeps (keeps_ite (putRecord_keeps inv) inv))) inv

theorem execVfSample_keeps {p packet s} (inv : Invariant s) : Invariant (outS (execVfSample p packet s) s) :=
  receiveReturn_keeps (fun h => keeps_foldl (fun _ _ => sweepSample_keeps)
    (keeps_of_frame (noteSampled_frame _ _ _ _ _) (fun _ => rfl)
      (keeps_foldl (fun _ _ => probeSample_keeps) (onPixels_keeps h)))) inv

theorem execTemp_keeps {p packet s} (inv : Invariant s) : Invariant (outS (execTemp p packet s) s) :=
  receiveReturn_keeps (fun h => keeps_ite_of withdrawReport_keeps id (keeps_foldl (fun _ _ => laneFailure_keeps)
    (onLink_keeps (keeps_of_frame (firstTemp_frame _ _ _) (fun _ => rfl) (keeps_of_observed h rfl)) (fun _ => id))))
    inv

theorem execLaneFail_keeps {p packet s} (inv : Invariant s) : Invariant (outS (execLaneFail p packet s) s) :=
  receiveReturn_keeps (fun h => keeps_ite (laneFailure_keeps h) h) inv

theorem execConfirmationStepStart_keeps {p s} (inv : Invariant s) :
    Invariant (outS (execConfirmationStepStart p s) s) := by
  refine keeps_ite inv ?_
  split
  · exact startStep_keeps inv
  · split
    · exact startStep_keeps (onPixels_keeps inv)
    · exact inv

theorem execBandStatus_keeps {p packet s} (inv : Invariant s) : Invariant (outS (execBandStatus p packet s) s) :=
  receiveReturn_keeps (fun h => onPixels_keeps (keeps_of_frame (noteLatched_frame _ _ _ _) (fun _ => rfl)
    (judgeFlags_keeps (judgeEcho_keeps (onLink_keeps h (fun _ => id)))))) inv

theorem execFullScaleEstimate_keeps {p s} (inv : Invariant s) : Invariant (outS (execFullScaleEstimate p s) s) := by
  refine keeps_ite ?_ inv
  split
  · exact takeEstimate_keeps (onFullScale_keeps inv)
  · exact onFullScale_keeps inv

theorem execSinkOpenProbe_keeps {channel pin s} (inv : Invariant s) :
    Invariant (outS (execSinkOpenProbe channel pin s) s) :=
  keeps_ite inv (keeps_ite_of (fun h => keeps_ite (raiseKind_keeps h) h) id (onSink_keeps
    inv))

theorem execSinkNeighbourTest_keeps {channel pin s} (inv : Invariant s) :
    Invariant (outS (execSinkNeighbourTest channel pin s) s) :=
  keeps_ite inv (keeps_ite_of raiseKind_keeps id (onSink_keeps inv))

theorem execSinkGroupShutdown_keeps {group s} (inv : Invariant s) :
    Invariant (outS (execSinkGroupShutdown group s) s) :=
  keeps_ite (raiseKind_keeps (keeps_of_frame (onGroup_frame _ _ _) (fun _ => rfl) inv)) inv

theorem execSinkShortTrip_keeps {trip s} (inv : Invariant s) : Invariant (outS (execSinkShortTrip trip s) s) :=
  keeps_ite (raiseKind_keeps (onSink_keeps inv)) inv

theorem execSinkGroupRestart_keeps {group s} (inv : Invariant s) :
    Invariant (outS (execSinkGroupRestart group s) s) :=
  keeps_ite (keeps_ite (recoverGroup_keeps inv) (resumeGroup_keeps inv)) inv

theorem execReferenceDisagreement_keeps {s} (inv : Invariant s) : Invariant (outS (execReferenceDisagreement s) s) :=
  keeps_ite (raiseKind_keeps inv) inv

theorem execPortSupplyInsufficient_keeps {p s} (inv : Invariant s) :
    Invariant (outS (execPortSupplyInsufficient p s) s) :=
  keeps_ite (raiseKind_keeps inv) inv

theorem execThermalStateFall_keeps {loc s} (inv : Invariant s) : Invariant (outS (execThermalStateFall loc s) s) := by
  refine keeps_ite ?_ inv
  split
  · exact enterThermal_keeps (keeps_of_observed inv rfl)
  · exact enterThermal_keeps (keeps_of_observed inv rfl)
  · exact inv

theorem execArrayRestart_keeps {p s} (inv : Invariant s) : Invariant (outS (execArrayRestart p s) s) :=
  keeps_ite (clearCondition_keeps (enterThermal_keeps (keeps_of_observed inv rfl))) inv

theorem execArrayThermalShutdown_keeps {p s} (inv : Invariant s) :
    Invariant (outS (execArrayThermalShutdown p s) s) :=
  keeps_ite (dropEnables_keeps (settleThrottle_keeps (raiseKind_keeps (putThermal_keeps inv)))) inv

theorem execSensorDisqualify_keeps {sensor s} (inv : Invariant s) :
    Invariant (outS (execSensorDisqualify sensor s) s) :=
  keeps_ite (escalateSensors_keeps (raiseKind_keeps (keeps_of_observed inv rfl))) inv

theorem execBeamReqDiscrepancy_keeps {s} (inv : Invariant s) : Invariant (outS (execBeamReqDiscrepancy s) s) :=
  keeps_ite (settleRequest_keeps (raiseKind_keeps (onSafety_keeps inv))) inv

theorem execBeamReqChange_keeps {a b s} (inv : Invariant s) : Invariant (outS (execBeamReqChange a b s) s) :=
  keeps_ite inv (settleRequest_keeps (agreeRequest_keeps (onSafety_keeps
    inv)))

theorem execSafeOutTest_keeps {highAt2 highAt4 demand s} (inv : Invariant s) :
    Invariant (outS (execSafeOutTest highAt2 highAt4 demand s) s) :=
  keeps_ite (keeps_ite (failOutTest_keeps inv) (keeps_ite_of id (fun h => keeps_ite (failOutTest_keeps inv)
    (recoverKind_keeps h)) (onSafety_keeps inv))) inv

theorem execDiscrepancyExit_keeps {s} (inv : Invariant s) : Invariant (outS (execDiscrepancyExit s) s) :=
  keeps_ite (settleRequest_keeps (exitKind_keeps (agreeRequest_keeps inv))) inv

theorem execOptionLoadCommit_keeps {strap s} (inv : Invariant s) :
    Invariant (outS (execOptionLoadCommit strap s) s) := by
  refine keeps_ite inv (powerUpVoted_keeps ?_)
  split
  · exact raiseKind_keeps (keeps_of_observed inv rfl)
  · exact keeps_of_observed inv rfl

theorem execSbpWakeMatch_keeps {leap s} (inv : Invariant s) : Invariant (outS (execSbpWakeMatch leap s) s) :=
  keeps_ite (countLeap_keeps inv) (wake_keeps (countLeap_keeps inv))

/-- What an operation does to housekeeping, its queue apart, is nothing to the invariant. -/
theorem onHk_keeps {f s} (h : Invariant s) (hf : (f s.hk).queue = s.hk.queue) : Invariant (onHk f s) :=
  keeps_of_observed h (by simp only [observed, beyondEnables, onHk, hf, enables])

/-- The record of which dies are shut down is nothing to the invariant. -/
theorem diesDown_keeps {n a b s} (h : Invariant s) :
    Invariant { s with aon := { s.aon with thermalShutdownCount := n, ldShutdown := a, adShutdown := b } } :=
  keeps_of_observed h rfl

theorem execDieShutdownDecision_keeps {die s} (inv : Invariant s) :
    Invariant (outS (execDieShutdownDecision die s) s) := by
  refine keeps_ite inv (settle_keeps (forceOff_keeps (cutRunning_keeps (raiseShutdown_keeps ?_))))
  exact keeps_ite (sendShadow_keeps (diesDown_keeps (freezeVotes_keeps (onHk_keeps inv rfl))))
    (diesDown_keeps (freezeVotes_keeps (onHk_keeps inv rfl)))

theorem execDieRestart_keeps {die s} (inv : Invariant s) : Invariant (outS (execDieRestart die s) s) := by
  refine keeps_ite inv (keeps_ite ?_ (keeps_ite ?_ (thaw_keeps ?_)))
  · exact diesDown_keeps (enterThermal_keeps (onHk_keeps inv rfl))
  all_goals exact recoverKind_keeps (diesDown_keeps (enterThermal_keeps (onHk_keeps inv rfl)))

theorem execWakeRecognised_keeps {leap s} (inv : Invariant s) : Invariant (outS (execWakeRecognised leap s) s) :=
  keeps_ite (countLeap_keeps inv) (wake_keeps (countLeap_keeps inv))

theorem execCoreSupplyWaitTimeout_keeps {s} (inv : Invariant s) : Invariant (outS (execCoreSupplyWaitTimeout s) s) :=
  keeps_ite (raiseKind_keeps (onPower_keeps inv)) inv

theorem execResetNRelease_keeps {sameCycle leap s} (inv : Invariant s) :
    Invariant (outS (execResetNRelease sameCycle leap s) s) :=
  have hstart : ∀ por t, Invariant t → Invariant (startSequence por t) := fun _ _ ht => keeps_of_observed ht rfl
  have hcause : ∀ c, Invariant (countLeap leap { s with aon := { s.aon with resetCause := c } }) := fun _ =>
    countLeap_keeps (keeps_of_observed inv rfl)
  keeps_ite inv (keeps_ite (keeps_ite (hstart _ _ (clearAon_keeps inv)) (onPower_keeps inv))
    (keeps_ite (hstart _ _ (hcause _)) (hstart _ _ (hcause _))))

theorem execPorRelease_keeps {sameCycle s} (inv : Invariant s) : Invariant (outS (execPorRelease sameCycle s) s) :=
  keeps_ite inv (keeps_ite (keeps_ite (releaseTogether_keeps inv) (clearAon_keeps (onPower_keeps
    inv))) (startSequence_keeps (clearAon_keeps inv)))

theorem execSupplyWarning_keeps {supply s} (inv : Invariant s) : Invariant (outS (execSupplyWarning supply s) s) :=
  keeps_ite (raiseKind_keeps (keeps_of_observed inv rfl)) inv

theorem execCalibrationStepDone_keeps {s} (inv : Invariant s) : Invariant (outS (execCalibrationStepDone s) s) :=
  endCalStep_keeps inv

theorem execDomainPowerDownStart_keeps {d s} (inv : Invariant s) :
    Invariant (outS (execDomainPowerDownStart d s) s) :=
  keeps_ite inv (settle_keeps (quiesce_keeps inv))

theorem execDomainPowerUpDone_keeps {d leap s} (inv : Invariant s) :
    Invariant (outS (execDomainPowerUpDone d leap s) s) :=
  keeps_ite (countLeap_keeps inv) (settle_keeps (powerUpVoted_keeps (domainUp_keeps
    (setDomain_keeps (countLeap_keeps inv)))))

theorem execStopEntryTasksDone_keeps {s} (inv : Invariant s) : Invariant (outS (execStopEntryTasksDone s) s) :=
  keeps_ite (keeps_ite_of (fun h => settle_keeps (enterStop_keeps h)) id (onPower_keeps
    (onVotes_keeps (keeps_of_frame (writebackAges_frame _) (fun _ => rfl) inv)))) inv

theorem execSupplyOutOfWindow_keeps {supply s} (inv : Invariant s) :
    Invariant (outS (execSupplyOutOfWindow supply s) s) := by
  refine keeps_ite inv (keeps_ite (keeps_of_observed inv rfl) (keeps_ite inv ?_))
  split
  · exact keeps_ite (failDram_keeps inv) inv
  · exact keeps_ite (failDram_keeps inv) inv
  · exact settle_keeps (forceSupply_keeps inv)

theorem execDdbNegativeAcknowledge_keeps {die nak s} (inv : Invariant s) :
    Invariant (outS (execDdbNegativeAcknowledge die nak s) s) :=
  receiveDdb_keeps (fun h => keeps_ite_of raiseBridge_keeps id (sendFailed_keeps h)) inv

theorem execDdbWaybill_keeps {die frame s} (inv : Invariant s) : Invariant (outS (execDdbWaybill die frame s) s) :=
  receiveDdb_keeps (fun h => keeps_ite_of owesNak_keeps id (onDdb_keeps (sendsGood_keeps h))) inv

theorem execDdbSilenceTimeout_keeps {die s} (inv : Invariant s) : Invariant (outS (execDdbSilenceTimeout die s) s) :=
  keeps_ite (raiseBridge_keeps inv) inv

theorem execDdbIdleFrame_keeps {die frame s} (inv : Invariant s) :
    Invariant (outS (execDdbIdleFrame die frame s) s) :=
  keeps_ite inv (keeps_ite (owesNak_keeps inv) (keeps_ite inv (bridgeHeard_keeps inv)))

theorem execEscalationExpiry_keeps {kind p s} (inv : Invariant s) :
    Invariant (outS (execEscalationExpiry kind p s) s) := by
  unfold execEscalationExpiry
  dsimp only [outS]
  split
  · exact escalate_keeps inv
  · exact inv

theorem execFaultNPulseEnd_keeps {s} (inv : Invariant s) : Invariant (outS (execFaultNPulseEnd s) s) :=
  keeps_of_observed inv rfl

theorem execQuietPeriodEnd_keeps {kind unit s} (inv : Invariant s) :
    Invariant (outS (execQuietPeriodEnd kind unit s) s) := by
  unfold execQuietPeriodEnd
  dsimp only [outS]
  split
  · exact keeps_ite (endQuiet_keeps inv) inv
  · exact inv

theorem execHoldSafeBeamTimeout_keeps {s} (inv : Invariant s) : Invariant (outS (execHoldSafeBeamTimeout s) s) :=
  keeps_ite (releaseHold_keeps (keeps_of_observed inv rfl)) inv

theorem execHousekeepingSlot_keeps {raw ld leap s} (inv : Invariant s) :
    Invariant (outS (execHousekeepingSlot raw ld leap s) s) :=
  keeps_ite (countLeap_keeps inv) (releaseWakeVotes_keeps (recoverBuses_keeps (nextSlot_keeps (runSlot_keeps
    (keeps_ite (keeps_of_frame (advanceDt_frame _ _) (fun _ => rfl) (countLeap_keeps inv)) (countLeap_keeps inv))))))

theorem execWaybillAckTimeout_keeps {unit s} (inv : Invariant s) :
    Invariant (outS (execWaybillAckTimeout unit s) s) := by
  unfold execWaybillAckTimeout
  dsimp only [outS]
  split
  · exact inv
  · exact sendWaybill_keeps (keeps_of_observed inv rfl)

theorem execDramErrorRateWindow_keeps {corrected s} (inv : Invariant s) :
    Invariant (outS (execDramErrorRateWindow corrected s) s) :=
  keeps_ite (keeps_ite (handleByPins_keeps (raiseKind_keeps (keeps_of_observed (countSram_keeps
    inv) rfl))) (clearCondition_keeps (keeps_of_observed (countSram_keeps inv) rfl)))
    (countSram_keeps inv)

theorem execCpInterruptAcknowledge_keeps {unit s} (inv : Invariant s) :
    Invariant (outS (execCpInterruptAcknowledge unit s) s) :=
  keeps_ite (keeps_of_observed inv rfl) inv

theorem execProgramStoreCopyDone_keeps {s} (inv : Invariant s) : Invariant (outS (execProgramStoreCopyDone s) s) :=
  keeps_ite (advanceActivation_keeps (putBank_keeps (onUpdate_keeps
    inv))) inv

theorem execSvcRelaySelect_keeps {f s} (inv : Invariant s) : Invariant (outS (execSvcRelaySelect f s) s) :=
  settleRelayVote_keeps (receiveFrame_keeps inv)

theorem execRelaySelectTimeout_keeps {s} (inv : Invariant s) : Invariant (outS (execRelaySelectTimeout s) s) :=
  keeps_ite (respondSvc_keeps (settleRelayVote_keeps (onUpdate_keeps inv))) inv

theorem execFullService_keeps {load s} (inv : Invariant s) : Invariant (outS (execFullService load s) s) := by
  have hload : Invariant (if isOn s .dram then
      { s with dram := load.dram.foldl (fun m e => memWrite e.1 e.2 m) s.dram } else s) := by
    refine keeps_ite ?_ inv
    obtain ⟨hdram, hrest⟩ := inv
    exact ⟨foldl_wf _ (fun m (e : Host.Cell) => memWrite_wf e.1 e.2 m) _ _ hdram, hrest⟩
  have hmaster : ∀ t, Invariant t → Invariant { t with drive := { t.drive with master := load.pixels } } :=
    fun _ ht => keeps_of_observed ht rfl
  exact keeps_ite (releaseWakeVotes_keeps (onPower_keeps
    (keeps_foldl (fun _ _ => loadSurface_keeps)
      (concealAll_keeps (loadMaps_keeps (hmaster _ hload)))))) inv

theorem execLsBootDone_keeps {p reads s} (inv : Invariant s) : Invariant (outS (execLsBootDone p reads s) s) := by
  refine keeps_ite inv ?_
  dsimp only
  split
  · next heq =>
    have hoff : Invariant (onUnits (fun u => { u with ls := u.ls.set p .off }) _) :=
      onUnits_keeps (keeps_of_snd heq (bootCheck_keeps inv))
    have hlost := losePort_keeps (p := p) (lasting := true) hoff
    exact keeps_ite (stopActivation_keeps hlost) hlost
  · next heq =>
    exact goOn_keeps (resumePort_keeps (keeps_of_frame (activationAfterLs_frame _ _ _) (fun _ => rfl)
      (onUnits_keeps (keeps_of_snd heq (bootCheck_keeps inv)))))

theorem execDramReadTimeout_keeps {s} (inv : Invariant s) : Invariant (outS (execDramReadTimeout s) s) :=
  keeps_ite (failDram_keeps inv) inv

theorem execSmWatchdogExpiry_keeps {s} (inv : Invariant s) : Invariant (outS (execSmWatchdogExpiry s) s) :=
  keeps_ite (closeWrapper_keeps (raiseKind_keeps (onSafety_keeps (onUnits_keeps inv)))) inv

theorem execDramRetrainDone_keeps {s} (inv : Invariant s) : Invariant (outS (execDramRetrainDone s) s) :=
  keeps_ite (closeWrapper_keeps (onUnits_keeps inv)) inv

theorem execDramFailure_keeps {s} (inv : Invariant s) : Invariant (outS (execDramFailure s) s) :=
  keeps_ite (failDram_keeps inv) inv

theorem execLsWatchdogExpiry_keeps {p s} (inv : Invariant s) : Invariant (outS (execLsWatchdogExpiry p s) s) :=
  keeps_ite (restartLs_keeps (raiseKind_keeps inv)) inv

theorem execSramUncorrectable_keeps {region s} (inv : Invariant s) :
    Invariant (outS (execSramUncorrectable region s) s) :=
  keeps_ite (settle_keeps (handleSram_keeps (raiseKind_keeps inv))) inv

theorem execCpWatchdogExpiry_keeps {s} (inv : Invariant s) : Invariant (outS (execCpWatchdogExpiry s) s) :=
  keeps_ite (restartCp_keeps (raiseKind_keeps (keeps_ite (stopActivation_keeps inv) inv))) inv

theorem execSmStartChecksDone_keeps {reads s} (inv : Invariant s) :
    Invariant (outS (execSmStartChecksDone reads s) s) := by
  refine keeps_ite inv ?_
  split
  · next heq => exact onUnits_keeps (keeps_of_snd heq (smBoot_keeps inv))
  · next heq =>
    exact settle_keeps (resumeCommit_keeps (startCommissioning_keeps
      (onSafety_keeps (onUnits_keeps
        (keeps_of_snd heq (smBoot_keeps inv))))))

theorem execCpBootDone_keeps {reads s} (inv : Invariant s) : Invariant (outS (execCpBootDone reads s) s) := by
  refine keeps_ite inv (keeps_ite (recoveryStarted_keeps inv) ?_)
  split
  · next heq => exact cpStarted_keeps (keeps_of_snd heq (bootCheck_keeps inv))
  · next heq =>
    exact afterWithdrawal_keeps (onVotes_keeps (breakActivation_keeps
      (onUnits_keeps (keeps_of_snd heq (bootCheck_keeps inv)))))

theorem execSmRebootDone_keeps {reads s} (inv : Invariant s) : Invariant (outS (execSmRebootDone reads s) s) := by
  refine keeps_ite inv ?_
  split
  · next heq => exact settle_keeps (onUnits_keeps (keeps_of_snd heq (bootCheck_keeps inv)))
  · next heq =>
    exact clearCondition_keeps (startCommissioning_keeps (onSafety_keeps
      (onUnits_keeps (keeps_of_snd heq (bootCheck_keeps inv)))))

theorem execJournalRecordCommitted_keeps {first retry s} (inv : Invariant s) :
    Invariant (outS (execJournalRecordCommitted first retry s) s) := by
  unfold execJournalRecordCommitted
  dsimp only [outS]
  split
  · exact inv
  · exact keeps_ite inv (runQueue_keeps (keeps_ite_of refuseWrite_keeps (fun h =>
      keeps_ite (failWrite_keeps h) (keeps_ite (commitWrite_keeps h) (keeps_ite_of commitWrite_keeps (fun h' =>
      failWrite_keeps (spoilRecord_keeps h')) (spoilRecord_keeps h))))
      (keeps_of_observed inv rfl)))

theorem execJournalCompactionDone_keeps {s} (inv : Invariant s) :
    Invariant (outS (execJournalCompactionDone s) s) := by
  have hbank : ∀ j, Invariant { putOtherBank (compacted s) s with journal := j } := fun _ =>
    keeps_of_observed (keeps_of_frame (putOtherBank_frame (compacted s) s) (fun _ => rfl) inv) rfl
  exact keeps_ite inv (keeps_ite (enterReturn_keeps (hbank _)) (hbank _))

theorem execBlockAck_keeps {via unit data s} (inv : Invariant s) :
    Invariant (outS (execBlockAck via unit data s) s) :=
  keepBits_keeps (requestWrite_keeps (raiseKinds_keeps inv))

theorem execUhlShadeList_keeps {lane packet s} (inv : Invariant s) :
    Invariant (outS (execUhlShadeList lane packet s) s) :=
  receiveUhl_keeps queueItem_keeps inv

theorem execUhlVideoLine_keeps {lane packet s} (inv : Invariant s) :
    Invariant (outS (execUhlVideoLine lane packet s) s) := by
  refine receiveUhl_keeps (fun h => ?_) inv
  split
  · exact videoLine_keeps h
  · exact h

theorem execVideoTileRowEncoded_keeps {stream s} (inv : Invariant s) :
    Invariant (outS (execVideoTileRowEncoded stream s) s) := by
  unfold execVideoTileRowEncoded
  dsimp only [outS]
  split
  · split
    · exact encodeTileRow_keeps inv
    · exact inv
  · exact inv

theorem execUhlTimeSync_keeps {lane packet fraction s} (inv : Invariant s) :
    Invariant (outS (execUhlTimeSync lane packet fraction s) s) :=
  receiveUhl_keeps (fun h => keeps_ite_of phaseEvent_keeps id (queueItem_keeps h)) inv

theorem execOdWriteApply_keeps {s} (inv : Invariant s) : Invariant (outS (execOdWriteApply s) s) := by
  have hqueue : ∀ q, Invariant (onHost (fun k => { k with queue := q }) s) :=
    fun _ => onHost_keeps inv
  unfold execOdWriteApply
  dsimp only [outS]
  split
  · exact keeps_ite inv (runQueue_keeps (applyUhlRecords_keeps (hqueue _)))
  · exact inv

theorem execHostLinkLoss_keeps {s} (inv : Invariant s) : Invariant (outS (execHostLinkLoss s) s) :=
  keeps_ite (raiseKind_keeps (onHost_keeps inv)) inv

theorem execUhlOdWrite_keeps {lane packet s} (inv : Invariant s) :
    Invariant (outS (execUhlOdWrite lane packet s) s) :=
  receiveUhl_keeps (fun h => keeps_ite (discardRecords_keeps h)
    (onHost_keeps h)) inv

theorem execUhlManifestCommit_keeps {lane packet s} (inv : Invariant s) :
    Invariant (outS (execUhlManifestCommit lane packet s) s) :=
  receiveUhl_keeps queueItem_keeps inv

theorem execHostLaneFail_keeps {report s} (inv : Invariant s) : Invariant (outS (execHostLaneFail report s) s) :=
  keeps_ite (keeps_of_frame (moveControl_frame _) (fun _ => rfl) (setIrq_keeps (raiseKind_keeps (onLane_keeps
    (onHost_keeps inv))))) inv

theorem execCanAbortFrame_keeps {frame s} (inv : Invariant s) : Invariant (outS (execCanAbortFrame frame s) s) :=
  receiveCan_keeps (fun h =>
      keeps_ite (onHost_keeps (keeps_of_frame (putTransfer_frame _ _ _) (fun _ => rfl) h)) h)
    (fun _ => id) inv

theorem execSbpSetPointer_keeps {index sub crc s} (inv : Invariant s) :
    Invariant (outS (execSbpSetPointer index sub crc s) s) :=
  keeps_ite inv (keeps_ite (sbpBad_keeps inv) (onSbp_keeps (sbpActive_keeps
    inv)))

theorem execCanBusOff_keeps {bus s} (inv : Invariant s) : Invariant (outS (execCanBusOff bus s) s) :=
  keeps_ite (raiseKind_keeps (onHost_keeps inv)) inv

theorem execSbpWrite_keeps {index sub data crc s} (inv : Invariant s) :
    Invariant (outS (execSbpWrite index sub data crc s) s) :=
  keeps_ite inv (keeps_ite (sbpBad_keeps inv) (requestWrite_keeps (onSbp_keeps (sbpActive_keeps inv))))

theorem execDictionaryRequestDone_keeps {shp s} (inv : Invariant s) :
    Invariant (outS (execDictionaryRequestDone shp s) s) := by
  refine keeps_ite inv (keeps_ite ?_ ?_)
  · split
    · exact inv
    · exact serveInside_keeps serveShp_keeps (onHost_keeps inv)
  · split
    · exact inv
    · exact serveInside_keeps serveCan_keeps (onHost_keeps inv)

theorem execCanFirstFrame_keeps {frame s} (inv : Invariant s) : Invariant (outS (execCanFirstFrame frame s) s) :=
  receiveCan_keeps (fun h => keeps_of_frame (firstCan_frame _ _) (fun _ => rfl) h)
    (fun _ _ h => answerRelay_keeps h) inv

theorem execCanConsecutiveFrame_keeps {frame s} (inv : Invariant s) :
    Invariant (outS (execCanConsecutiveFrame frame s) s) :=
  receiveCan_keeps (fun h => keeps_of_frame (consecutiveCan_frame _ _) (fun _ => rfl) h) (fun _ => id) inv

theorem execSbpRead_keeps {s} (inv : Invariant s) : Invariant (outS (execSbpRead s) s) := by
  have hactive := sbpActive_keeps inv
  refine keeps_ite inv (keeps_ite (sbpReturn_keeps hactive) ?_)
  split
  · exact sbpReturn_keeps (onSbp_keeps hactive)
  all_goals exact sbpReturn_keeps hactive

theorem execCanSingleFrame_keeps {frame s} (inv : Invariant s) : Invariant (outS (execCanSingleFrame frame s) s) :=
  receiveCan_keeps (fun h => keeps_of_frame (singleCan_frame _ _) (fun _ => rfl) h)
    (fun _ _ h => completeCan_keeps relayCan_keeps h) inv

theorem execAlmanacOneshotJournalRetry_keeps {s} (inv : Invariant s) :
    Invariant (outS (execAlmanacOneshotJournalRetry s) s) :=
  keeps_ite (keeps_foldl (fun _ _ => offerEntry_keeps) inv) inv

theorem execSampleHkConversionDone_keeps {raw s} (inv : Invariant s) :
    Invariant (outS (execSampleHkConversionDone raw s) s) := by
  unfold execSampleHkConversionDone
  dsimp only [outS]
  split
  · exact inv
  · next hq =>
    obtain ⟨hdram, hring, hallow, hbudget, hqueue, hdark⟩ := inv
    rw [hq, List.length_cons] at hqueue
    exact ⟨hdram, hring, hallow, hbudget, Nat.le_of_succ_le hqueue, hdark⟩

theorem execCaravanFrameReceived_keeps {frame s} (inv : Invariant s) :
    Invariant (outS (execCaravanFrameReceived frame s) s) :=
  keeps_ite inv (keeps_ite (headFrame_keeps inv) (keeps_ite (stationFrame_keeps inv) inv))

theorem execCaravanVoteRelease_keeps {s} (inv : Invariant s) : Invariant (outS (execCaravanVoteRelease s) s) :=
  keeps_ite (dropRingVote_keeps inv) inv

theorem execCaravanTokenLost_keeps {s} (inv : Invariant s) : Invariant (outS (execCaravanTokenLost s) s) :=
  keeps_ite (raiseKind_keeps (interruptRing_keeps inv)) inv

theorem execCaravanClosing_keeps {s} (inv : Invariant s) : Invariant (outS (execCaravanClosing s) s) :=
  keeps_ite (interruptRing_keeps inv) inv

theorem execCaravanRingBreak_keeps {s} (inv : Invariant s) : Invariant (outS (execCaravanRingBreak s) s) :=
  keeps_ite (raiseKind_keeps (interruptRing_keeps inv)) inv

theorem execCaravanDictionaryResponse_keeps {m s} (inv : Invariant s) :
    Invariant (outS (execCaravanDictionaryResponse m s) s) := by
  refine keeps_ite ?_ inv
  split
  · exact settleRelayVote_keeps (answerRelay_keeps (onRing_keeps inv))
  · exact inv

theorem execCaravanImageStream_keeps {m s} (inv : Invariant s) : Invariant (outS (execCaravanImageStream m s) s) :=
  keeps_ite (takeSessions_keeps (keeps_of_frame (queueCredit_frame _ _ _) (fun _ => rfl) (onRing_keeps
    (keeps_ite (relayArrived_keeps inv) inv)))) inv

theorem execCaravanRelayTimeout_keeps {s} (inv : Invariant s) : Invariant (outS (execCaravanRelayTimeout s) s) := by
  unfold execCaravanRelayTimeout
  dsimp only [outS]
  split
  · exact settleRelayVote_keeps (answerRelay_keeps (onRing_keeps inv))
  · exact inv

theorem execCaravanDictionaryRequest_keeps {m s} (inv : Invariant s) :
    Invariant (outS (execCaravanDictionaryRequest m s) s) :=
  keeps_ite (keeps_ite_of requestWrite_keeps requestRead_keeps (relayArrived_keeps inv)) inv

theorem execCaravanWaybill_keeps {m s} (inv : Invariant s) : Invariant (outS (execCaravanWaybill m s) s) :=
  keeps_ite (keeps_ite (canWaybill_keeps (keeps_of_frame (drawFree_frame _) (fun _ => rfl) inv)) (canWaybill_keeps
    inv)) inv

theorem execSmTileJudged_keeps {tile flaws s} (inv : Invariant s) :
    Invariant (outS (execSmTileJudged tile flaws s) s) :=
  keeps_ite (judgeForwarded_keeps inv) inv

theorem execEighthBoundary_keeps {leap badLut s} (inv : Invariant s) :
    Invariant (outS (execEighthBoundary leap badLut s) s) :=
  keeps_ite (lineAndSeed_keeps (boundaries_keeps (keeps_ite_of openLine_keeps id (endEighth_keeps (countLeap_keeps
    inv))))) (countLeap_keeps inv)

/-! ## The step -/

/-- Every command keeps the invariant. -/
theorem exec_keeps {s : State} (inv : Invariant s) (c : Instr) : Invariant (outS (exec c s) s) :=
  match c with
  | .porAssert => assertSource_keeps inv
  | .porRelease .. => execPorRelease_keeps inv
  | .resetNAssert => assertSource_keeps inv
  | .resetNRelease .. => execResetNRelease_keeps inv
  | .optionLoadCommit .. => execOptionLoadCommit_keeps inv
  | .domainPowerDownStart .. => execDomainPowerDownStart_keeps inv
  | .domainMinOffEnd .. => keeps_of_frame (execDomainMinOffEnd_frame _ s) (fun _ => rfl) inv
  | .domainPowerUpDone .. => execDomainPowerUpDone_keeps inv
  | .cpBootDone .. => execCpBootDone_keeps inv
  | .smStartChecksDone .. => execSmStartChecksDone_keeps inv
  | .smRebootDone .. => execSmRebootDone_keeps inv
  | .lsBootDone .. => execLsBootDone_keeps inv
  | .ctrlAckTimeout .. => execCtrlAckTimeout_keeps inv
  | .dramTrainingDone => keeps_of_frame (execDramTrainingDone_frame s) (fun _ => rfl) inv
  | .fullService .. => execFullService_keeps inv
  | .wakeRecognised .. => execWakeRecognised_keeps inv
  | .hostVoteWrite .. => requestWrite_keeps inv
  | .stopEntryTasksDone => execStopEntryTasksDone_keeps inv
  | .supplyWarning .. => execSupplyWarning_keeps inv
  | .supplyOutOfWindow .. => execSupplyOutOfWindow_keeps inv
  | .coreSupplyWaitTimeout => execCoreSupplyWaitTimeout_keeps inv
  | .clockFallback => execClockFallback_keeps inv
  | .ddbReadRequest .. => plainDdb_keeps inv
  | .ddbReadResponse .. => plainDdb_keeps inv
  | .ddbWrite .. => plainDdb_keeps inv
  | .ddbWriteAcknowledge .. => plainDdb_keeps inv
  | .ddbWaybill .. => execDdbWaybill_keeps inv
  | .ddbEvent .. => plainDdb_keeps inv
  | .ddbNegativeAcknowledge .. => execDdbNegativeAcknowledge_keeps inv
  | .ddbSilenceTimeout .. => execDdbSilenceTimeout_keeps inv
  | .eighthBoundary .. => execEighthBoundary_keeps inv
  | .syncOutPulseEnd => keeps_of_frame (execSyncOutPulseEnd_frame s) (fun _ => rfl) inv
  | .sampleHkConversionDone .. => execSampleHkConversionDone_keeps inv
  | .almanacReloadDone .. => keeps_of_frame (execAlmanacReloadDone_frame _ s) (fun _ => rfl) inv
  | .almanacOneshotJournalRetry => execAlmanacOneshotJournalRetry_keeps inv
  | .almanacMaskRestart .. => requestWrite_keeps inv
  | .syncInEdge .. => execSyncInEdge_keeps inv
  | .uhlTimeSync .. => execUhlTimeSync_keeps inv
  | .referenceHoldover => execReferenceHoldover_keeps inv
  | .referencePrimaryReturn => keeps_of_frame (execReferencePrimaryReturn_frame s) (fun _ => rfl) inv
  | .frameRateWrite .. => requestWrite_keeps inv
  | .rcMeasureWindow .. => execRcMeasureWindow_keeps inv
  | .leapWrapped => execLeapWrapped_keeps inv
  | .tileDecodeDone .. => keeps_of_frame (execTileDecodeDone_frame _ _ _ _ s) (fun _ => rfl) inv
  | .tileRefetchDone .. => execTileRefetchDone_keeps inv
  | .tileLateTimeout .. => execTileLateTimeout_keeps inv
  | .surfacePin .. => requestWrite_keeps inv
  | .surfaceUnpin .. => requestWrite_keeps inv
  | .pinCopyDone .. => execPinCopyDone_keeps inv
  | .warpMeshWrite .. => requestWrite_keeps inv
  | .meshInversionDone .. => keeps_of_frame (execMeshInversionDone_frame _ s) (fun _ => rfl) inv
  | .plannerRecomputeDone => keeps_of_frame (execPlannerRecomputeDone_frame s) (fun _ => rfl) inv
  | .manifestCommit .. => requestWrite_keeps inv
  | .manifestRefillDone => keeps_of_frame (execManifestRefillDone_frame s) (fun _ => rfl) inv
  | .shadeSwapRequest .. => requestWrite_keeps inv
  | .stagedBankRefillDone => execStagedBankRefillDone_keeps inv
  | .shadeStale => execShadeStale_keeps inv
  | .compositionModeWrite .. => requestWrite_keeps inv
  | .zoneRowStagingDone .. => execZoneRowStagingDone_keeps inv
  | .tileComposed .. => execTileComposed_keeps inv
  | .ceilingMapReloadDone => execCeilingMapReloadDone_keeps inv
  | .scanOutTileCheck .. => execScanOutTileCheck_keeps inv
  | .frameCompositionDone => keeps_of_frame (execFrameCompositionDone_frame s) (fun _ => rfl) inv
  | .composerStall => execComposerStall_keeps inv
  | .composerRestartDone => keeps_of_frame (execComposerRestartDone_frame s) (fun _ => rfl) inv
  | .tollComputationDone => keeps_of_frame (execTollComputationDone_frame s) (fun _ => rfl) inv
  | .ageAveragingPeriod => keeps_of_frame (execAgeAveragingPeriod_frame s) (fun _ => rfl) inv
  | .ageWriteback => keeps_of_frame (execAgeWriteback_frame s) (fun _ => rfl) inv
  | .fullScaleEstimate .. => execFullScaleEstimate_keeps inv
  | .housekeepingSlot .. => execHousekeepingSlot_keeps inv
  | .portSupplyInsufficient .. => execPortSupplyInsufficient_keeps inv
  | .sensorDisqualify .. => execSensorDisqualify_keeps inv
  | .dieShutdownDecision .. => execDieShutdownDecision_keeps inv
  | .dieRestart .. => execDieRestart_keeps inv
  | .thermalStateFall .. => execThermalStateFall_keeps inv
  | .arrayThermalShutdown .. => execArrayThermalShutdown_keeps inv
  | .arrayRestart .. => execArrayRestart_keeps inv
  | .referenceDisagreement => execReferenceDisagreement_keeps inv
  | .arraySensorDisqualify .. => execArraySensorDisqualify_keeps inv
  | .tollModelDivergence .. => execTollModelDivergence_keeps inv
  | .modelDivergenceClear .. => execModelDivergenceClear_keeps inv
  | .bandStatus .. => execBandStatus_keeps inv
  | .vfSample .. => execVfSample_keeps inv
  | .temp .. => execTemp_keeps inv
  | .ack .. => execAck_keeps inv
  | .laneFail .. => execLaneFail_keeps inv
  | .holdExpired .. => execHoldExpired_keeps inv
  | .laneTxFault .. => execLaneTxFault_keeps inv
  | .returnLaneLost .. => execReturnLaneLost_keeps inv
  | .returnLaneGraceExpiry .. => execReturnLaneGraceExpiry_keeps inv
  | .returnReceiverRetrained .. => execReturnReceiverRetrained_keeps inv
  | .bandStatusMissed .. => keeps_of_frame (execBandStatusMissed_frame _ _ s) (fun _ => rfl) inv
  | .laneRetrain .. => execLaneRetrain_keeps inv
  | .laneRetrainDone .. => execLaneRetrainDone_keeps inv
  | .lsResumeTimeout .. => execLsResumeTimeout_keeps inv
  | .portFltAssert .. => execPortFltAssert_keeps inv
  | .confirmationStepStart .. => execConfirmationStepStart_keeps inv
  | .emitterDisableClear .. => requestWrite_keeps inv
  | .portEchoReenable .. => execPortEchoReenable_keeps inv
  | .smTileJudged .. => execSmTileJudged_keeps inv
  | .uhlVideoLine .. => execUhlVideoLine_keeps inv
  | .videoTileRowEncoded .. => execVideoTileRowEncoded_keeps inv
  | .videoPictureComplete .. => keeps_of_frame (execVideoPictureComplete_frame _ s) (fun _ => rfl) inv
  | .videoStreamBind .. => requestWrite_keeps inv
  | .uhlShadeList .. => execUhlShadeList_keeps inv
  | .uhlManifestCommit .. => execUhlManifestCommit_keeps inv
  | .uhlOdWrite .. => execUhlOdWrite_keeps inv
  | .odWriteApply => execOdWriteApply_keeps inv
  | .hostLaneTrained .. => keeps_of_frame (execHostLaneTrained_frame _ s) (fun _ => rfl) inv
  | .hostLaneFail .. => execHostLaneFail_keeps inv
  | .hostLaneRetrain _ => inv
  | .controlLaneChange => keeps_of_frame (execControlLaneChange_frame s) (fun _ => rfl) inv
  | .hostIrqClear .. => requestWrite_keeps inv
  | .shpRead .. => receiveShp_keeps inv
  | .shpWrite .. => receiveShp_keeps inv
  | .shpPoll .. => receiveShp_keeps inv
  | .shpBurstRead .. => receiveShp_keeps inv
  | .shpBurstWrite .. => receiveShp_keeps inv
  | .dictionaryRequestDone .. => execDictionaryRequestDone_keeps inv
  | .odObjectWrite .. => requestWrite_keeps inv
  | .canSingleFrame .. => execCanSingleFrame_keeps inv
  | .canFirstFrame .. => execCanFirstFrame_keeps inv
  | .canConsecutiveFrame .. => execCanConsecutiveFrame_keeps inv
  | .canAbortFrame .. => execCanAbortFrame_keeps inv
  | .canTransferTimeout .. => keeps_of_frame (execCanTransferTimeout_frame _ s) (fun _ => rfl) inv
  | .canBusOff .. => execCanBusOff_keeps inv
  | .sbpSetPointer .. => execSbpSetPointer_keeps inv
  | .sbpWrite .. => execSbpWrite_keeps inv
  | .sbpRead => execSbpRead_keeps inv
  | .sbpFetchDone => keeps_of_frame (execSbpFetchDone_frame s) (fun _ => rfl) inv
  | .sbpWakeMatch .. => execSbpWakeMatch_keeps inv
  | .hostLinkLoss => execHostLinkLoss_keeps inv
  | .sessionChallenge .. => keeps_of_frame (execSessionChallenge_frame _ s) (fun _ => rfl) inv
  | .sessionResponse .. => requestWrite_keeps inv
  | .sessionClose .. => requestWrite_keeps inv
  | .sessionIdleTimeout => keeps_of_frame (execSessionIdleTimeout_frame s) (fun _ => rfl) inv
  | .challengeLockoutEnd => execChallengeLockoutEnd_keeps inv
  | .commissionerKeyWrite .. => requestWrite_keeps inv
  | .restoreDefaultsCustomer .. => requestWrite_keeps inv
  | .restoreDefaultsSafety .. => requestWrite_keeps inv
  | .journalRecordCommitted .. => execJournalRecordCommitted_keeps inv
  | .journalScanDone => keeps_of_frame (execJournalScanDone_frame s) (fun _ => rfl) inv
  | .journalCompactionDone => execJournalCompactionDone_keeps inv
  | .journalBudgetRefill => execJournalBudgetRefill_keeps inv
  | .optionBlockImageWrite .. => requestWrite_keeps inv
  | .optionImageProgrammed => keeps_of_frame (execOptionImageProgrammed_frame s) (fun _ => rfl) inv
  | .blockAck .. => execBlockAck_keeps inv
  | .faultLatchClear .. => requestWrite_keeps inv
  | .statusMapRowSelect .. => requestWrite_keeps inv
  | .statusMapSnapshotDone .. => keeps_of_frame (execStatusMapSnapshotDone_frame _ s) (fun _ => rfl) inv
  | .dramErrorRateWindow .. => execDramErrorRateWindow_keeps inv
  | .waybillAckTimeout .. => execWaybillAckTimeout_keeps inv
  | .escalationExpiry _ p => execEscalationExpiry_keeps (p := p) inv
  | .holdSafeBeamTimeout => execHoldSafeBeamTimeout_keeps inv
  | .quietPeriodEnd .. => execQuietPeriodEnd_keeps inv
  | .faultNPulseEnd => execFaultNPulseEnd_keeps inv
  | .cpWatchdogExpiry => execCpWatchdogExpiry_keeps inv
  | .smWatchdogExpiry => execSmWatchdogExpiry_keeps inv
  | .lsWatchdogExpiry .. => execLsWatchdogExpiry_keeps inv
  | .dramFailure => execDramFailure_keeps inv
  | .dramReadTimeout => execDramReadTimeout_keeps inv
  | .dramRetrainDone => execDramRetrainDone_keeps inv
  | .sramUncorrectable .. => execSramUncorrectable_keeps inv
  | .safeBeamCopyDone => keeps_of_frame (execSafeBeamCopyDone_frame s) (fun _ => rfl) inv
  | .blackBoxCommitDone .. => execBlackBoxCommitDone_keeps inv
  | .commitAllowanceRefill => execCommitAllowanceRefill_keeps inv
  | .beamReqChange .. => execBeamReqChange_keeps inv
  | .beamReqDiscrepancy => execBeamReqDiscrepancy_keeps inv
  | .discrepancyExit => execDiscrepancyExit_keeps inv
  | .safeOutTest .. => execSafeOutTest_keeps inv
  | .commissioningCheckComputed => keeps_of_frame (execCommissioningCheckComputed_frame s) (fun _ => rfl) inv
  | .commissioningCheckConfirm .. => requestWrite_keeps inv
  | .sinkPeriodBoundary .. => keeps_of_frame (execSinkPeriodBoundary_frame _ s) (fun _ => rfl) inv
  | .sinkOpenProbe .. => execSinkOpenProbe_keeps inv
  | .sinkShortTrip .. => execSinkShortTrip_keeps inv
  | .sinkShortRetry .. => keeps_of_frame (execSinkShortRetry_frame _ _ s) (fun _ => rfl) inv
  | .channelRetryClear .. => keeps_of_frame (execChannelRetryClear_frame _ _ _ _ s) (fun _ => rfl) inv
  | .sinkNeighbourTest .. => execSinkNeighbourTest_keeps inv
  | .sinkHeadroomCycleEnd .. => keeps_of_frame (execSinkHeadroomCycleEnd_frame _ s) (fun _ => rfl) inv
  | .sinkGroupShutdown .. => execSinkGroupShutdown_keeps inv
  | .sinkGroupRestart .. => execSinkGroupRestart_keeps inv
  | .caravanFrameSend .. => keeps_of_frame (execCaravanFrameSend_frame _ s) (fun _ => rfl) inv
  | .caravanFrameReceived .. => execCaravanFrameReceived_keeps inv
  | .caravanDictionaryRequest .. => execCaravanDictionaryRequest_keeps inv
  | .caravanDictionaryResponse .. => execCaravanDictionaryResponse_keeps inv
  | .caravanWaybill .. => execCaravanWaybill_keeps inv
  | .caravanImageStream .. => execCaravanImageStream_keeps inv
  | .caravanStreamCredit .. => keeps_of_frame (execCaravanStreamCredit_frame _ s) (fun _ => rfl) inv
  | .caravanAnnounce .. => keeps_of_frame (execCaravanAnnounce_frame _ s) (fun _ => rfl) inv
  | .caravanMessageTimeout .. => keeps_of_frame (execCaravanMessageTimeout_frame _ s) (fun _ => rfl) inv
  | .caravanRingBreak => execCaravanRingBreak_keeps inv
  | .caravanTokenLost => execCaravanTokenLost_keeps inv
  | .caravanClosing => execCaravanClosing_keeps inv
  | .caravanRelayTimeout => execCaravanRelayTimeout_keeps inv
  | .caravanVoteRelease => execCaravanVoteRelease_keeps inv
  | .svcOpen .. => receiveFrame_keeps inv
  | .slotEraseDone => keeps_of_frame (execSlotEraseDone_frame s) (fun _ => rfl) inv
  | .svcWrite .. => receiveFrame_keeps inv
  | .svcFinish .. => receiveFrame_keeps inv
  | .svcActivate .. => receiveFrame_keeps inv
  | .programStoreCopyDone => execProgramStoreCopyDone_keeps inv
  | .svcStatus .. => receiveFrame_keeps inv
  | .svcClose .. => receiveFrame_keeps inv
  | .svcSetRate .. => receiveFrame_keeps inv
  | .svcRelaySelect .. => execSvcRelaySelect_keeps inv
  | .svcIdleTimeout => keeps_of_frame (execSvcIdleTimeout_frame s) (fun _ => rfl) inv
  | .svcEnRise => keeps_of_frame (execSvcEnRise_frame s) (fun _ => rfl) inv
  | .lifeCycleMakerToken .. => requestWrite_keeps inv
  | .lifeCycleCustomerToken .. => requestWrite_keeps inv
  | .lifeCycleConsentToken .. => requestWrite_keeps inv
  | .consentExpiry => keeps_of_frame (execConsentExpiry_frame s) (fun _ => rfl) inv
  | .safeBeamAreaBlockWrite .. => requestWrite_keeps inv
  | .safeBeamAreaCommit .. => requestWrite_keeps inv
  | .safeBeamAreaProgrammed .. => keeps_of_frame (execSafeBeamAreaProgrammed_frame _ s) (fun _ => rfl) inv
  | .ddbIdleFrame .. => execDdbIdleFrame_keeps inv
  | .cpInterruptAcknowledge .. => execCpInterruptAcknowledge_keeps inv
  | .calibrationStepDone => execCalibrationStepDone_keeps inv
  | .portFltRelease .. => execPortFltRelease_keeps inv
  | .svcEnFall => keeps_of_frame (execSvcEnFall_frame s) (fun _ => rfl) inv
  | .caravanSessionIdleTimeout => keeps_of_frame (execCaravanSessionIdleTimeout_frame s) (fun _ => rfl) inv
  | .relaySelectTimeout => execRelaySelectTimeout_keeps inv

/-- Settles O54: a step runs the command at the front of the queue, which `exec_keeps` covers; with none it idles. -/
theorem everyStepKeepsTheInvariant : Obligations.EveryStepKeepsTheInvariant := by
  intro s t inv hstep
  unfold step at hstep
  split at hstep
  · exact Host.Outcome.next.inj hstep ▸ inv
  · next c rest _ =>
    have hrest : Invariant (s.withPending rest) := keeps_of_observed inv rfl
    have hexec := exec_keeps hrest c
    rwa [hstep] at hexec

end Sys2Proof.Laws
end

section
/-!
O10: a write that is refused is answered with its code and has no other effect (R34, R229, R266).
-/

namespace Sys2Proof.Laws

open Sys2Proof Sys2Proof.Machine

/-! ## A request that is refused -/

theorem requestWrite_of_not_ready {s : State} (via index sub data) (h : cpReady s = false) :
    requestWrite via index sub data s = answer via true index sub stBusy [] s := by
  simp [requestWrite, h]

theorem requestWrite_of_refused {s : State} {via index sub data} (h : cpReady s = true)
    (hj : judgeRequest s via index sub data ≠ stOk) :
    requestWrite via index sub data s =
      answer via true index sub (judgeRequest s via index sub data) []
        (noteRefusal index (judgeRequest s via index sub data) s) := by
  simp [requestWrite, writeObject, h, hj]

/-- Reporting a refusal touches the meshes alone (R102). -/
theorem noteRefusal_eq_warp (index status s) :
    noteRefusal index status s = { s with warp := (noteRefusal index status s).warp } :=
  Outside.warp_eq (noteRefusal_frame index status s)

theorem noteRefusal_of_no_mesh {index : Nat} (status s) (h : ¬(0x2100 ≤ index ∧ index < 0x2104)) :
    noteRefusal index status s = s :=
  if_neg fun ⟨hlow, hhigh, _⟩ => h ⟨hlow, hhigh⟩

/-! ## The checks of R229, in their order -/

theorem judgeRequest_of_no_object {index sub} (s via data) (h : objectAt index sub = none) :
    judgeRequest s via index sub data = stNoObject := by
  simp [judgeRequest, h]

section
variable {s : State} {via : Via} {index sub : Nat} {data : List Byte} {o : ObjectRow}
  (hobject : objectAt index sub = some o)
include hobject

theorem judgeRequest_of_fused (hf : isFused s index = true) : judgeRequest s via index sub data = stAccess := by
  simp [judgeRequest, hobject, hf]

variable (hf : isFused s index = false)
include hf

theorem judgeRequest_of_busy (hb : unitBusy s index sub = true) : judgeRequest s via index sub data = stBusy := by
  simp [judgeRequest, hobject, hf, hb]

variable (hb : unitBusy s index sub = false)
include hb

theorem judgeRequest_of_forbidden (hw : writeAllowed s via o index sub = false) :
    judgeRequest s via index sub data = stAccess := by
  simp [judgeRequest, hobject, hf, hb, hw]

variable (hw : writeAllowed s via o index sub = true)
include hw

theorem judgeRequest_of_length (hl : data.length ≠ o.size) : judgeRequest s via index sub data = stLength := by
  simp [judgeRequest, hobject, hf, hb, hw, hl]

theorem judgeRequest_of_range (hl : data.length = o.size) (hr : inRange o.range o.size (leNat data) = false) :
    judgeRequest s via index sub data = stRange := by
  simp [judgeRequest, hobject, hf, hb, hw, hl, hr]

end

/-- Nothing that is read only may be written (R229). -/
theorem writeAllowed_of_ro {o : ObjectRow} (s via index sub) (h : o.access = .ro) :
    writeAllowed s via o index sub = false := by
  simp [writeAllowed, h]

/-! ## What an answer changes -/

/-- Only what the transports send, the ring's messages and the queue of waiting writes differ. -/
def OnlyAnswers (s t : State) : Prop :=
  ∃ h c q, t = { s with host := h, caravan := c, journal := { s.journal with queue := q } }

theorem answerCan_onlyAnswers (node bus write tag index status bs s) :
    OnlyAnswers s (answerCan node bus write tag index status bs s) := by
  unfold answerCan canSend
  dsimp only
  split <;> exact ⟨_, s.caravan, s.journal.queue, rfl⟩

theorem OnlyAnswers.trans {s t u : State} (hst : OnlyAnswers s t) (htu : OnlyAnswers t u) : OnlyAnswers s u := by
  obtain ⟨_, _, _, rfl⟩ := hst
  obtain ⟨h, c, q, rfl⟩ := htu
  exact ⟨h, c, q, rfl⟩

theorem setOdStatus_onlyAnswers (status object s) : OnlyAnswers s (setOdStatus status object s) :=
  ⟨_, s.caravan, s.journal.queue, rfl⟩

theorem setIrq_onlyAnswers (bit s) : OnlyAnswers s (setIrq bit s) :=
  ⟨_, s.caravan, s.journal.queue, rfl⟩

theorem quietRecords_onlyAnswers (s) : OnlyAnswers s (quietRecords s) :=
  ⟨s.host, s.caravan, _, rfl⟩

theorem recordRefusal_onlyAnswers (record index sub status s) :
    OnlyAnswers s (recordRefusal record index sub status s) :=
  ((setOdStatus_onlyAnswers _ _ s).trans (setIrq_onlyAnswers _ _)).trans (quietRecords_onlyAnswers _)

theorem answer_onlyAnswers (via write index sub status bs s) :
    OnlyAnswers s (answer via write index sub status bs s) := by
  cases via with
  | shp tag => exact ⟨_, s.caravan, s.journal.queue, rfl⟩
  | can bus tag => exact answerCan_onlyAnswers _ _ _ _ _ _ _ _
  | sbp => exact ⟨_, s.caravan, s.journal.queue, rfl⟩
  | uhl record =>
    unfold answer
    dsimp only
    split
    · exact ⟨s.host, s.caravan, s.journal.queue, rfl⟩
    · exact recordRefusal_onlyAnswers _ _ _ _ _
  | caravan tag => exact ⟨s.host, _, s.journal.queue, rfl⟩

/-- Settles O10: each clause is the lemma above about the check that fails. -/
theorem refusedWritesHaveNoEffect : Obligations.RefusedWritesHaveNoEffect := by
  refine ⟨fun s via index sub data h => ?_, fun s via index sub data hready hj => ?_,
    fun s via index sub data h => judgeRequest_of_no_object s via data h, fun s via index sub data o ho => ?_,
    fun s via write index sub status bs => answer_onlyAnswers via write index sub status bs s⟩
  · exact congrArg Host.Outcome.next (requestWrite_of_not_ready via index sub data h)
  · exact ⟨_, congrArg Host.Outcome.next (requestWrite_of_refused hready hj), noteRefusal_eq_warp _ _ _,
      noteRefusal_of_no_mesh _ _⟩
  · exact ⟨judgeRequest_of_fused ho, judgeRequest_of_busy ho,
      fun hf hb hro => judgeRequest_of_forbidden ho hf hb (writeAllowed_of_ro s via index sub hro),
      judgeRequest_of_length ho, judgeRequest_of_range ho⟩

end Sys2Proof.Laws
end

section
/-!
What the end of a kind and the closing of a unit's raises leave (R348, R354), beside Laws/Raise.
-/

namespace Sys2Proof.Laws

open Sys2Proof Sys2Proof.Machine

/-! ## The end of a kind -/

theorem isActive_removeActive (k u s) : isActive (removeActive k u s) k u = false := by
  refine List.any_eq_false.2 fun a ha => ?_
  simpa [imp_iff_not_or] using (List.mem_filter.1 ha).2

/-- A kind whose exit has been taken is no longer active. -/
theorem isActive_exitKind (k u s) : isActive (exitKind k u s) k u = false := by
  unfold exitKind
  split
  · next hnone => simpa [isActive] using List.find?_eq_none.1 hnone
  · rw [settle_isActive, isActive_removeActive]

/-- Where a kind ends with its condition and is not latched, the end of its condition ends it. -/
theorem isActive_clearCondition {k : Nat} (u) {s : State} (hexit : (kindRow k).exit = .condition)
    (hlatch : isLatched s k = false) : isActive (clearCondition k u s) k u = false := by
  unfold clearCondition
  split
  · next hnone => simpa [isActive] using List.find?_eq_none.1 hnone
  · rw [if_neg (by simp [hlatch]), hexit]
    exact isActive_exitKind k u s

/-! ## The raises that a unit has not acknowledged -/

theorem canWaybill_unacked (node w s) : (canWaybill node w s).faults.unacked = s.faults.unacked := by
  unfold canWaybill
  repeat' split
  all_goals rfl

theorem caravanWaybill_unacked (w s) : (caravanWaybill w s).faults.unacked = s.faults.unacked := by
  unfold caravanWaybill
  repeat' split
  all_goals rfl

theorem ddbSend_unacked (die ty payload s) : (ddbSend die ty payload s).faults.unacked = s.faults.unacked := by
  unfold ddbSend onDdb
  repeat' split
  all_goals rfl

theorem sendWaybill_unacked (ad reason w s) : (sendWaybill ad reason w s).faults.unacked = s.faults.unacked := by
  have hout : (ddbWaybillOut ad w s).faults.unacked = s.faults.unacked :=
    foldl_keeps (fun t : State => t.faults.unacked) (fun t _ => ddbSend_unacked _ _ _ t) _ _
  have hentry : ∀ ty c t, (writeEntry ad ty w c t).faults.unacked = t.faults.unacked := fun _ _ _ => rfl
  unfold sendWaybill
  dsimp only
  split
  · rw [canWaybill_unacked, caravanWaybill_unacked, hentry, hout]
  · rw [hentry, hout]

theorem closeWrappers_unacked (closes s) :
    (closeWrappers closes s).faults.unacked = s.faults.unacked.filter fun r => !closes r.unit :=
  foldl_keeps (fun t : State => t.faults.unacked) (fun t _ => sendWaybill_unacked _ _ _ t) _ _

theorem closeWrappers_only (closes s) : Outside.faultParts (closeWrappers closes s) = Outside.faultParts s :=
  foldl_keeps Outside.faultParts (fun t _ => sendWaybill_only _ _ _ t) _ _

theorem closeWrappers_activity (closes s) : activity (closeWrappers closes s) = activity s :=
  foldl_keeps activity (fun t _ => sendWaybill_activity _ _ _ t) _ _

/-- A unit that has restarted has no raise open (R354). -/
theorem closeWrapper_closes (u s) : ∀ r ∈ (closeWrapper u s).faults.unacked, r.unit ≠ u := by
  intro r hr
  rw [closeWrapper, closeWrappers_unacked] at hr
  simpa using (List.mem_filter.1 hr).2

theorem isActive_closeWrapper (v s k u) : isActive (closeWrapper v s) k u = isActive s k u := by
  simp only [isActive, closeWrapper, (Prod.mk.inj (closeWrappers_activity _ s)).1]

end Sys2Proof.Laws
end

section
/-!
O24: the ends of refills, the stale list, the ceiling reload, the composer's stall and restart.
-/

namespace Sys2Proof.Laws

open Sys2Proof Sys2Proof.Machine

/-! ## The shade banks (R125, R128) -/

/-- A list that is taken is no longer stale, and its age counts from now. -/
theorem shadeFresh_shade (s) :
    (shadeFresh s).shade = { s.shade with freshAt := dtNow s, armed := true, stale := false } :=
  (congrArg State.shade (clearCondition_frame _ _ _) :)

theorem landList_shade (objs s) : (landList objs s).shade = { s.shade with
    staged := objs, written := true
    swapRequested := s.shade.swapRequested || cfg s 0x3300 0x0D == 0
    superseded := if s.shade.swapRequested then count32 s.shade.superseded else s.shade.superseded
    freshAt := dtNow s, armed := true, stale := false } :=
  shadeFresh_shade _

/-- After a swap the staged bank starts from the active one, and a list that waited lands (R125). -/
theorem stagedBankRefill {s : State} (h : s.shade.refilling = true) :
    ∃ t, exec .stagedBankRefillDone s = .next t
      ∧ t.shade.refilling = false ∧ t.shade.waiting = none ∧ t.shade.active = s.shade.active
      ∧ (s.shade.waiting = none →
          t = { s with shade := { s.shade with staged := s.shade.active, refilling := false, waiting := none } })
      ∧ (∀ objs, s.shade.waiting = some objs → t.shade.staged = objs ∧ t.shade.written = true
          ∧ t.shade.freshAt = dtNow s ∧ t.shade.stale = false) := by
  refine ⟨_, congrArg Host.Outcome.next (if_pos h), ?_⟩
  dsimp only
  split
  · next objs hobjs =>
    rw [landList_shade]
    refine ⟨rfl, rfl, rfl, fun hnone => ?_, fun objs' hobjs' => ?_⟩
    · simp [hnone] at hobjs
    · rw [hobjs] at hobjs'
      exact ⟨Option.some.inj hobjs', rfl, rfl, rfl⟩
  · next hnone =>
    exact ⟨rfl, rfl, rfl, fun _ => rfl, fun objs hobjs => by simp [hnone] at hobjs⟩

theorem shadeStale_raises {s : State} (hpix : isOn s .pix = true) (harmed : s.shade.armed = true)
    (hfresh : s.shade.stale = false) (hage : cfg s 0x3300 2 < shadeAge s) :
    ∃ t, exec .shadeStale s = .next t ∧ t.shade = { s.shade with stale := true }
      ∧ Raised 0x0B 0x06 { s with shade := t.shade } t := by
  have hdue : (isOn s .pix && s.shade.armed && !s.shade.stale && decide (cfg s 0x3300 2 < shadeAge s)) = true := by
    simp [hpix, harmed, hfresh, hage]
  refine ⟨_, congrArg Host.Outcome.next (if_pos hdue), ?_⟩
  have hshade : (raiseKind 0x0B {} (onShade (fun h => { h with stale := true }) s)).shade
      = { s.shade with stale := true } :=
    (congrArg State.shade (raiseKind_only _ _ _) :)
  refine ⟨hshade, ?_⟩
  rw [hshade]
  exact raiseKind_raised 0x0B {} _ rfl

/-! ## The ceiling (R130) -/

theorem ceilingReload_clears {s : State} (hdue : reloadDue s = true) (hready : cpReady s = true) :
    ∃ t, exec .ceilingMapReloadDone s = .next t
      ∧ OnlyFaultParts { s with ceiling := t.ceiling } t
      ∧ (isLatched s 0x0D = false → isActive t 0x0D 0x07 = false)
      ∧ t.ceiling = { s.ceiling with
          bad := (s.ceiling.bad.filter fun b => !b.overdue).map fun b => { b with reloaded := true } } := by
  have hboth : (reloadDue s && cpReady s) = true := by simp [hdue, hready]
  refine ⟨_, congrArg Host.Outcome.next (if_pos hboth), ?_⟩
  have honly := clearCondition_only 0x0D 0x07 { s with ceiling := { s.ceiling with bad := reloadParts s.ceiling.bad } }
  have hceiling := (congrArg State.ceiling honly :)
  refine ⟨?_, fun hlatch => isActive_clearCondition 0x07 rfl hlatch, hceiling⟩
  exact hceiling ▸ onlyFaultParts_of honly

/-! ## The composer (R358, R442) -/

theorem composerStall_restarts {s : State} (hpix : isOn s .pix = true) (hbusy : s.compose.busy = true)
    (hrun : s.units.composerRestart = false) :
    ∃ t, exec .composerStall s = .next t
      ∧ t.units = { s.units with composerRestart := true }
      ∧ t.manifest = { s.manifest with safeUntilCommit := true, commitSeen := false }
      ∧ t.compose = { s.compose with
          busy := false, due := false, begun := false, staged := [], stagedRows := PerPort.const 0
          older := none, unpublished := none, ring := [] }
      ∧ Raised 0x0C 0x06 { s with units := t.units, manifest := t.manifest, compose := t.compose } t
      ∧ ∀ r ∈ t.faults.unacked, r.unit ≠ 0x06 := by
  have hstalls : (s.compose.busy && !s.units.composerRestart) = true := by simp [hbusy, hrun]
  have honly : Outside.faultParts (closeWrapper 0x06 (raiseKind 0x0C {} (restartComposer s)))
      = Outside.faultParts (restartComposer s) :=
    (closeWrappers_only _ _).trans (raiseKind_only _ _ _)
  have hactive : isActive (closeWrapper 0x06 (raiseKind 0x0C {} (restartComposer s))) 0x0C 0x06 = true :=
    (isActive_closeWrapper _ _ _ _).trans (raiseKind_active 0x0C {} _ rfl)
  refine ⟨_, congrArg Host.Outcome.next ((if_pos hstalls).trans (if_pos hpix)), ?_⟩
  have hcloses := closeWrapper_closes 0x06 (raiseKind 0x0C {} (restartComposer s))
  generalize closeWrapper 0x06 (raiseKind 0x0C {} (restartComposer s)) = t at honly hactive hcloses ⊢
  have hunits : t.units = (restartComposer s).units := (congrArg State.units honly :)
  have hmanifest : t.manifest = (restartComposer s).manifest := (congrArg State.manifest honly :)
  have hcompose : t.compose = (restartComposer s).compose := (congrArg State.compose honly :)
  refine ⟨hunits, hmanifest, hcompose, ⟨hactive, ?_⟩, hcloses⟩
  rw [hunits, hmanifest, hcompose]
  exact onlyFaultParts_of honly

/-- A commit is requested only while PIX runs and the Manifest is not frozen (R135). -/
theorem requestCommit_eq (s) : requestCommit s = { s with manifest := { s.manifest with
    pending := s.manifest.pending || (isOn s .pix && !manifestFrozen s) } } := by
  cases hpix : isOn s .pix <;> cases hfrozen : manifestFrozen s <;> simp [requestCommit, onManifest, hpix, hfrozen]

/-- Settles O24. -/
theorem manifestShadeAndComposerCommands : Obligations.ManifestShadeAndComposerCommands :=
  ⟨fun _ h => congrArg Host.Outcome.next (if_pos h), fun _ => stagedBankRefill, fun _ => shadeStale_raises,
    fun _ => ceilingReload_clears, fun _ => composerStall_restarts,
    fun _ h => ⟨_, congrArg Host.Outcome.next (if_pos h), requestCommit_eq _⟩⟩

end Sys2Proof.Laws
end

section
/-!
Staging and composing a tile: what each operation leaves alone, and what it puts into the composer's state (R26, R87,
R139, R140).
-/

namespace Sys2Proof.Laws

open Sys2Proof Sys2Proof.Machine

/-! ## Raises that start no commit -/

/-- A kind whose raise starts no commit of the black box (R369). -/
@[reducible] def StartsNoCommit (k : Nat) : Prop := ¬((kindRow k).cls = 2 ∨ k = 0x37)

theorem raiseKind_nvm {k : Nat} (i s) (h : StartsNoCommit k) : (raiseKind k i s).nvm = s.nvm := by
  unfold raiseKind
  dsimp only
  split
  · rfl
  · calc (settle (blankAgain k (raiseFresh k _ i s))).nvm
        = (blankAgain k (raiseFresh k _ i s)).nvm := (congrArg State.nvm (settle_frame _) :)
      _ = (raiseFresh k _ i s).nvm := (congrArg State.nvm (blankAgain_frame _ _) :)
      _ = s.nvm := (congrArg State.nvm (raiseFresh_frame _ _ _ _) :)

/-! ## What staging leaves alone -/

/-- The state beside what staging a tile may change, with NVM. -/
def besideStaging (s : State) : State × Nvm :=
  (Outside.faultParts { s with
    compose := blank.compose, fetch := blank.fetch, shade := blank.shade, ceiling := blank.ceiling }, s.nvm)

theorem besideStaging_update (s : State) (c : Compose) (f : Fetch) (h : Shade) (e : Ceiling) :
    besideStaging { s with compose := c, fetch := f, shade := h, ceiling := e } = besideStaging s := rfl

theorem raiseKind_besideStaging {k : Nat} (i s) (h : StartsNoCommit k) :
    besideStaging (raiseKind k i s) = besideStaging s :=
  Prod.ext (congrArg (fun u : State => { u with
      compose := blank.compose, fetch := blank.fetch, shade := blank.shade, ceiling := blank.ceiling })
    (raiseKind_only k i s) :) (raiseKind_nvm i s h)

theorem raisePerLayer_besideStaging {k : Nat} (n f tile s) (h : StartsNoCommit k) :
    besideStaging (raisePerLayer k n f tile s) = besideStaging s := by
  unfold raisePerLayer
  split
  · rfl
  · exact (raiseKind_besideStaging _ _ h).trans (besideStaging_update s s.compose _ s.shade s.ceiling)

theorem lateTile_besideStaging (p n f tile s) : besideStaging (lateTile p n f tile s) = besideStaging s := by
  unfold lateTile failTile noteFailed
  dsimp only
  split
  all_goals exact (raisePerLayer_besideStaging _ _ _ _ (by decide)).trans rfl

theorem markLate_besideStaging (p need s) : besideStaging (markLate p need s) = besideStaging s :=
  foldl_keeps besideStaging (fun t e => by
    split
    · exact lateTile_besideStaging _ _ _ _ _
    · rfl) _ _

theorem noteAlias_besideStaging (p row col r0 h s) :
    besideStaging (noteAlias p row col r0 h s) = besideStaging s := by
  unfold noteAlias
  dsimp only
  repeat' split
  · rfl
  · exact (raiseKind_besideStaging _ _ (by decide)).trans rfl
  · rfl

theorem noteOverflow_besideStaging (tile s) : besideStaging (noteOverflow tile s) = besideStaging s := by
  unfold noteOverflow
  dsimp only
  repeat' split
  · rfl
  · exact (raiseKind_besideStaging _ _ (by decide)).trans rfl
  · rfl

theorem noteStage1_besideStaging (p row col r0 h s) :
    besideStaging (noteStage1 p row col r0 h s) = besideStaging s :=
  (foldl_keeps besideStaging (fun t tile => noteOverflow_besideStaging tile t) _ _).trans
    ((noteAlias_besideStaging _ _ _ _ _ _).trans (markLate_besideStaging _ _ _))

theorem badCellRow_besideStaging (p j s) : besideStaging (badCellRow p j s) = besideStaging s :=
  (raiseKind_besideStaging _ _ (by decide)).trans rfl

theorem onCompose_besideStaging (f s) : besideStaging (onCompose f s) = besideStaging s := rfl

theorem stageTile_besideStaging (p row col s) : besideStaging (stageTile p row col s) = besideStaging s := by
  unfold stageTile noteConflicts clearValid
  dsimp only
  rw [onCompose_besideStaging, onCompose_besideStaging, noteStage1_besideStaging, onCompose_besideStaging]

/-! ## The composer's state while stage 1 runs -/

theorem raiseKind_compose (k i s) : (raiseKind k i s).compose = s.compose :=
  (congrArg State.compose (raiseKind_only k i s) :)

theorem noteOverflow_compose (tile s) : (noteOverflow tile s).compose = s.compose :=
  (congrArg State.compose (noteOverflow_frame tile s) :)

theorem noteAlias_compose (p row col r0 h s) : (noteAlias p row col r0 h s).compose = s.compose :=
  (congrArg State.compose (noteAlias_frame p row col r0 h s) :)

theorem markLate_compose (p need s) : (markLate p need s).compose = s.compose :=
  (congrArg State.compose (markLate_frame p need s) :)

theorem noteStage1_compose (p row col r0 h s) : (noteStage1 p row col r0 h s).compose = s.compose := by
  unfold noteStage1
  dsimp only
  rw [foldl_keeps State.compose (fun t tile => noteOverflow_compose tile t), noteAlias_compose, markLate_compose]

theorem badCellRow_compose (p j s) : (badCellRow p j s).compose = s.compose :=
  raiseKind_compose _ _ _

end Sys2Proof.Laws
end

section
/-!
What staging a zone row and composing a tile put into the composer's state (R26, R139, R140).
-/

namespace Sys2Proof.Laws

open Sys2Proof Sys2Proof.Machine

/-! ## Staging -/

/-- The composer's state beside the staging area, the TST, the zones and the count of conflicts. -/
def besideStaged (c : Compose) : Compose :=
  { c with staged := [], tst := [], zones := blank.compose.zones, conflictCount := 0 }

/-- A tile of a port is in the staging area for a frame. -/
def IsStaged (c : Compose) (frame : BitVec 32) (p : Port) (tile : Nat) : Prop :=
  ∃ x ∈ c.staged, x.frame = frame ∧ x.port = p ∧ x.tile = tile

theorem IsStaged.congr {c d : Compose} {frame p tile} (h : IsStaged c frame p tile) (hs : d.staged = c.staged) :
    IsStaged d frame p tile := by
  rwa [IsStaged, hs]

theorem stageTile_compose (p row col s) : ∃ tst n held ls cs, (stageTile p row col s).compose = { s.compose with
    tst := tst, conflictCount := n
    staged := ⟨s.compose.frame, p, row * 32 + col, held, ls, cs⟩
      :: s.compose.staged.filter fun x => !(x.port == p && x.tile == row * 32 + col) } := by
  unfold stageTile noteConflicts
  simp only [onCompose, noteStage1_compose, clearValid]
  exact ⟨_, _, _, _, _, rfl⟩

theorem stageTile_besideStaged (p row col s) :
    besideStaged (stageTile p row col s).compose = besideStaged s.compose := by
  obtain ⟨_, _, _, _, _, h⟩ := stageTile_compose p row col s
  rw [h]
  rfl

theorem stageTile_composeFrame (p row col s) : (stageTile p row col s).compose.frame = s.compose.frame := by
  obtain ⟨_, _, _, _, _, h⟩ := stageTile_compose p row col s
  rw [h]

/-- Staging a tile puts it into the staging area, and keeps every other tile of the frame there. -/
theorem stageTile_staged {p row col s tile}
    (h : tile = row * 32 + col ∨ IsStaged s.compose s.compose.frame p tile) :
    IsStaged (stageTile p row col s).compose s.compose.frame p tile := by
  obtain ⟨_, _, _, _, _, he⟩ := stageTile_compose p row col s
  rw [he]
  by_cases htile : tile = row * 32 + col
  · exact ⟨_, List.mem_cons_self, rfl, rfl, htile.symm⟩
  · obtain ⟨x, hx, hframe, hport, rfl⟩ := h.resolve_left htile
    exact ⟨x, List.mem_cons_of_mem _ (List.mem_filter.2 ⟨hx, by simp [htile]⟩), hframe, hport, rfl⟩

/-- The tiles of a zone row from a list of their numbers in it, staged one after the other. -/
def stageTiles (p : Port) (zr : Nat) (ks : List Nat) (s : State) : State :=
  ks.foldl (fun s k => stageTile p (4 * zr + k / 32) (k % 32) s) s

theorem stageTiles_cons (p zr k ks s) :
    stageTiles p zr (k :: ks) s = stageTiles p zr ks (stageTile p (4 * zr + k / 32) (k % 32) s) := by
  rw [stageTiles, List.foldl_cons, stageTiles]

theorem stageTiles_besideStaged (p zr ks s) :
    besideStaged (stageTiles p zr ks s).compose = besideStaged s.compose :=
  foldl_keeps (fun t : State => besideStaged t.compose) (fun t _ => stageTile_besideStaged _ _ _ t) _ _

theorem stageTiles_besideStaging (p zr ks s) : besideStaging (stageTiles p zr ks s) = besideStaging s :=
  foldl_keeps besideStaging (fun t _ => stageTile_besideStaging _ _ _ t) _ _

theorem stageTiles_staged {p zr tile} : ∀ {ks s},
    (∃ k ∈ ks, tile = 128 * zr + k) ∨ IsStaged s.compose s.compose.frame p tile →
      IsStaged (stageTiles p zr ks s).compose s.compose.frame p tile
  | [], s, h => h.resolve_left (by simp)
  | k :: ks, s, h => by
    have hrest := stageTiles_staged (p := p) (zr := zr) (tile := tile) (ks := ks)
      (s := stageTile p (4 * zr + k / 32) (k % 32) s)
    rw [stageTile_composeFrame] at hrest
    rw [stageTiles_cons]
    refine hrest ?_
    obtain ⟨k', hk', htile⟩ | hstaged := h
    · obtain rfl | hk' := List.mem_cons.1 hk'
      · exact .inr (stageTile_staged (.inl (by omega)))
      · exact .inl ⟨k', hk', htile⟩
    · exact .inr (stageTile_staged (.inr hstaged))

theorem choosePairs_compose (p zr sel s) :
    ∃ zs, (choosePairs p zr sel s).compose = { s.compose with zones := zs } := by
  have hsupply : ∀ a b t, (raiseSupply p a b t).compose = t.compose := fun a b t =>
    (congrArg State.compose (raiseSupply_frame p a b t) :)
  unfold choosePairs
  dsimp only
  split
  · exact ⟨_, rfl⟩
  · exact ⟨_, hsupply _ _ _⟩

theorem badCellRows_compose (p) (js : List Nat) (s) :
    (js.foldl (fun s j => badCellRow p j s) s).compose = s.compose :=
  foldl_keeps State.compose (fun t j => badCellRow_compose p j t) _ _

/-- A zone row is staged from where its bad cells have been reported: its tiles, its step pairs, its count. -/
theorem stageZoneRow_eq (p zr bad s) : ∃ s0 sel, s0.compose = s.compose ∧ besideStaging s0 = besideStaging s
    ∧ stageZoneRow p zr bad s = onCompose (fun c => { c with stagedRows := c.stagedRows.set p (zr + 1) })
        (choosePairs p zr sel (stageTiles p zr (List.range 128) s0)) :=
  ⟨_, _, badCellRows_compose p _ s, foldl_keeps besideStaging (fun t j => badCellRow_besideStaging p j t) _ s, rfl⟩

theorem countRow_compose {p zr sel} {c : Compose} {s : State} (hbeside : besideStaged s.compose = besideStaged c) :
    besideStaged (onCompose (fun c => { c with stagedRows := c.stagedRows.set p (zr + 1) })
        (choosePairs p zr sel s)).compose = besideStaged { c with stagedRows := c.stagedRows.set p (zr + 1) } := by
  obtain ⟨zs, hpairs⟩ := choosePairs_compose p zr sel s
  have hrows : s.compose.stagedRows = c.stagedRows := (congrArg Compose.stagedRows hbeside :)
  rw [onCompose, hpairs, hrows]
  exact congrArg (fun d : Compose => { d with stagedRows := c.stagedRows.set p (zr + 1) }) hbeside

theorem countRow_staged {p zr sel} (s : State) :
    (onCompose (fun c => { c with stagedRows := c.stagedRows.set p (zr + 1) }) (choosePairs p zr sel s)).compose.staged
      = s.compose.staged := by
  obtain ⟨zs, hpairs⟩ := choosePairs_compose p zr sel s
  rw [onCompose, hpairs]

/-- Staging a zone row counts it, puts its 128 tiles into the staging area and leaves the rest of the composer's
state. -/
theorem stageZoneRow_compose (p zr bad s) :
    besideStaged (stageZoneRow p zr bad s).compose
        = besideStaged { s.compose with stagedRows := s.compose.stagedRows.set p (zr + 1) }
      ∧ ∀ k < 128, IsStaged (stageZoneRow p zr bad s).compose s.compose.frame p (128 * zr + k) := by
  obtain ⟨s0, sel, hbad, -, hrow⟩ := stageZoneRow_eq p zr bad s
  rw [← hbad]
  constructor
  · rw [hrow]
    exact countRow_compose (stageTiles_besideStaged p zr (List.range 128) s0)
  · intro k hk
    have hstaged : IsStaged (stageTiles p zr (List.range 128) s0).compose s0.compose.frame p (128 * zr + k) :=
      stageTiles_staged (.inl ⟨k, List.mem_range.2 hk, rfl⟩)
    exact hstaged.congr (by rw [hrow, countRow_staged])

/-! ## The start of a frame -/

theorem beginFrame_staged (epoch racing fresh s) : (beginFrame epoch racing fresh s).compose.staged
    = s.compose.staged.filter fun x => x.frame == s.compose.frame := by
  have hscales : ∀ t, (takeScales epoch t).compose = t.compose := fun t =>
    (congrArg State.compose (takeScales_frame epoch t) :)
  show ((takeScales epoch _).compose.staged.filter _) = _
  rw [hscales]
  rfl

theorem beginFrame_unpublished {s : State} (epoch racing fresh) (h : s.compose.busy = true) :
    (beginFrame epoch racing fresh s).compose.unpublished = some (s.compose.frame, s.compose.scales) :=
  if_pos h

/-! ## Composing -/

theorem tilePixels_length (row col r0 h) : (tilePixels row col r0 h).length = 32 * h := by
  simp [tilePixels, List.length_flatMap, Nat.mul_comm]

/-- A tile of the output, as the composer puts it there with its signature (R146). -/
def writtenTile (o : OutTile) (held : Bool) (zones : PerPort Zones) (c : Compose) : Compose :=
  { c with
    zones := zones
    ring := if c.racing then
        o :: c.ring.filter fun x => !(x.port == o.port && x.tile == o.tile && x.lower == o.lower) else c.ring
    out := o :: c.out.filter fun x =>
      !(x.frame.toNat % 2 == o.frame.toNat % 2 && x.port == o.port && x.tile == o.tile
        && (x.lower == o.lower || x.duties.length != o.duties.length))
    tst := ⟨tstIndex c.racing c.frame o.port o.tile o.lower, true, held, signature o.duties⟩
      :: c.tst.filter fun e => e.entry != tstIndex c.racing c.frame o.port o.tile o.lower }

/-- What a tile of the output is of. -/
structure IsTileOf (o : OutTile) (frame : BitVec 32) (p : Port) (tile : Nat) (lower : Bool) (h : Nat) : Prop where
  frame : o.frame = frame
  port : o.port = p
  tile : o.tile = tile
  lower : o.lower = lower
  duties : o.duties.length = 32 * h

theorem writeTile_compose (p row col lower held words ds s) : ∃ o zs,
    o.frame = s.compose.frame ∧ o.port = p ∧ o.tile = row * 32 + col ∧ o.lower = lower ∧ o.duties = ds.map (·.duty)
      ∧ (writeTile p row col lower held words ds s).compose = writtenTile o held zs s.compose := by
  unfold writeTile writtenTile
  simp only [onZones, putOut, onCompose, apply_ite State.compose, ite_self]
  exact ⟨⟨s.compose.frame, p, row * 32 + col, lower, ds.map (·.duty), _, _, words⟩, _, rfl, rfl, rfl, rfl, rfl, rfl⟩

theorem finishTile_compose (p row col r0 h lower held ls s) : ∃ o zs,
    IsTileOf o s.compose.frame p (row * 32 + col) lower h
      ∧ (finishTile p row col r0 h lower held ls s).compose = writtenTile o held zs s.compose := by
  have hraises : ∀ ds, (if held then s else noteRaises p row col r0 h ds s).compose = s.compose := fun ds => by
    split
    · rfl
    · exact (congrArg State.compose (noteRaises_frame p row col r0 h ds s) :)
  unfold finishTile
  dsimp only
  obtain ⟨o, zs, hframe, hport, htile, hlower, hduties, hcompose⟩ := writeTile_compose p row col lower held _ _ _
  rw [hraises] at hframe hcompose
  refine ⟨o, zs, ⟨hframe, hport, htile, hlower, ?_⟩, hcompose⟩
  simp [hduties, tilePixels_length]

theorem outTile_written {s : State} {o frame p tile lower h held zs c} (ho : IsTileOf o frame p tile lower h)
    (hs : s.compose = writtenTile o held zs c) : outTile s frame p tile lower = some o := by
  rw [outTile, hs]
  exact List.find?_cons_of_pos (by simp [ho.frame, ho.port, ho.tile, ho.lower])

theorem tstEntry_written {s : State} {o held zs c} (hs : s.compose = writtenTile o held zs c) :
    tstEntry s (tstIndex c.racing c.frame o.port o.tile o.lower)
      = ⟨tstIndex c.racing c.frame o.port o.tile o.lower, true, held, signature o.duties⟩ := by
  rw [tstEntry, hs, writtenTile, List.find?_cons_of_pos (by simp)]
  rfl

/-- The state beside what composing a tile from what is staged may change. -/
def besideTile (s : State) : State :=
  { s with compose := blank.compose, fetch := blank.fetch, pixels := blank.pixels }

theorem noteRaises_besideTile (p row col r0 h ds s) :
    besideTile (noteRaises p row col r0 h ds s) = besideTile s :=
  lift (c := besideTile) (d := Outside.pixels) (fun _ => rfl) (noteRaises_frame p row col r0 h ds s)

theorem writeTile_besideTile (p row col lower held words ds s) :
    besideTile (writeTile p row col lower held words ds s) = besideTile s :=
  lift (c := besideTile) (d := Outside.composeFetch) (fun _ => rfl)
    (writeTile_frame p row col lower held words ds s)

theorem finishTile_besideTile (p row col r0 h lower held ls s) :
    besideTile (finishTile p row col r0 h lower held ls s) = besideTile s := by
  unfold finishTile
  dsimp only
  rw [writeTile_besideTile]
  split
  · rfl
  · exact noteRaises_besideTile p row col r0 h _ s

end Sys2Proof.Laws
end

section
/-!
O26 and O25: the composer's commands (R26, R87, R139, R140, R143, R145 to R148, R153).
-/

namespace Sys2Proof.Laws

open Sys2Proof Sys2Proof.Machine

/-! ## What staging a zone row leaves alone -/

/-- The state beside what staging a zone row may change, with NVM. -/
def besideZoneRow (s : State) : State × Nvm :=
  (Outside.faultParts { s with
    compose := blank.compose, fetch := blank.fetch, shade := blank.shade, ceiling := blank.ceiling
    headroom := blank.headroom }, s.nvm)

theorem besideZoneRow_of_staging {s t : State} (h : besideStaging t = besideStaging s) :
    besideZoneRow t = besideZoneRow s :=
  (congrArg (fun x : State × Nvm => (({ x.1 with headroom := blank.headroom } : State), x.2)) h :)

theorem choosePairs_besideZoneRow (p zr sel s) : besideZoneRow (choosePairs p zr sel s) = besideZoneRow s :=
  (congrArg besideZoneRow (choosePairs_frame p zr sel s) :)

theorem onCompose_besideZoneRow (f s) : besideZoneRow (onCompose f s) = besideZoneRow s := rfl

theorem stageZoneRow_besideZoneRow (p zr bad s) : besideZoneRow (stageZoneRow p zr bad s) = besideZoneRow s := by
  obtain ⟨s0, sel, -, hs0, hrow⟩ := stageZoneRow_eq p zr bad s
  rw [hrow, onCompose_besideZoneRow, choosePairs_besideZoneRow,
    besideZoneRow_of_staging (stageTiles_besideStaging p zr _ s0), besideZoneRow_of_staging hs0]

theorem onlyFaultParts_of_besideZoneRow {s t : State} (h : besideZoneRow t = besideZoneRow s) :
    OnlyFaultParts { s with
      compose := t.compose, fetch := t.fetch, shade := t.shade, ceiling := t.ceiling, headroom := t.headroom } t :=
  onlyFaultParts_of (congrArg (fun x : State × Nvm => { x.1 with
    compose := t.compose, fetch := t.fetch, shade := t.shade, ceiling := t.ceiling, headroom := t.headroom }) h :)

/-! ## What composing a half-tile leaves alone -/

/-- The state beside what composing a half-tile may change, with NVM. -/
def besideHalf (s : State) : State × Nvm :=
  (Outside.faultParts { s with
    compose := blank.compose, fetch := blank.fetch, shade := blank.shade, ceiling := blank.ceiling
    pixels := blank.pixels }, s.nvm)

theorem besideHalf_of_staging {s t : State} (h : besideStaging t = besideStaging s) :
    besideHalf t = besideHalf s :=
  (congrArg (fun x : State × Nvm => (({ x.1 with pixels := blank.pixels } : State), x.2)) h :)

theorem besideHalf_of_tile {s t : State} (h : besideTile t = besideTile s) : besideHalf t = besideHalf s :=
  (congrArg besideHalf h :)

theorem onlyFaultParts_of_besideHalf {s t : State} (h : besideHalf t = besideHalf s) :
    OnlyFaultParts { s with
      compose := t.compose, fetch := t.fetch, shade := t.shade, ceiling := t.ceiling, pixels := t.pixels } t :=
  onlyFaultParts_of (congrArg (fun x : State × Nvm => { x.1 with
    compose := t.compose, fetch := t.fetch, shade := t.shade, ceiling := t.ceiling, pixels := t.pixels }) h :)

theorem onlyFaultParts_of_besideTile {s t : State} (h : besideTile t = besideTile s) :
    OnlyFaultParts { s with compose := t.compose, fetch := t.fetch, pixels := t.pixels } t :=
  onlyFaultParts_of (congrArg (fun x : State => Outside.faultParts { x with
    compose := t.compose, fetch := t.fetch, pixels := t.pixels }) h :)

/-! ## ZONE_ROW_STAGING_DONE -/

theorem execZoneRow_eq {s : State} {p : Port} {zr : Nat} (bad) (hp : composing s p = true)
    (hbusy : s.compose.busy = true)
    (hmode : s.compose.racing = false) (hzr : zr < 4) (hnext : s.compose.stagedRows.get p = zr) :
    exec (.zoneRowStagingDone p zr bad) s = .next (beginDue (stageZoneRow p zr bad s)) :=
  congrArg Host.Outcome.next (if_pos (by simp [hp, hbusy, hmode, hzr, hnext]))

theorem canvasPorts_congr {s t : State} (hv : t.variant = s.variant) (hd : t.dict = s.dict) :
    canvasPorts t = canvasPorts s := by
  simp only [canvasPorts, portCorner, hv, hd]

theorem stageZoneRow_canvasPorts (p zr bad s) : canvasPorts (stageZoneRow p zr bad s) = canvasPorts s :=
  canvasPorts_congr (congrArg State.variant (stageZoneRow_frame p zr bad s) :)
    (congrArg State.dict (stageZoneRow_frame p zr bad s) :)

theorem stageZoneRow_due (p zr bad s) : (stageZoneRow p zr bad s).compose.due = s.compose.due :=
  (congrArg Compose.due (stageZoneRow_compose p zr bad s).1 :)

theorem stageZoneRow_stagedRows (p zr bad s) :
    (stageZoneRow p zr bad s).compose.stagedRows = s.compose.stagedRows.set p (zr + 1) :=
  (congrArg Compose.stagedRows (stageZoneRow_compose p zr bad s).1 :)

theorem stageZoneRow_frameNumber (p zr bad s) : (stageZoneRow p zr bad s).compose.frame = s.compose.frame :=
  (congrArg Compose.frame (stageZoneRow_compose p zr bad s).1 :)

theorem beginDue_of_not_due {s : State} (h : s.compose.due = false) : beginDue s = s :=
  if_neg (by simp [h])

theorem beginDue_of_ended {s : State} (hdue : s.compose.due = true) (hend : stagingEnded s = true) :
    beginDue s = beginFrame (s.compose.frame + 1) false false s :=
  if_pos (by simp [hdue, hend])

/-- The last zone row of the last port ends the staging of the frame. -/
theorem stagingEnded_of_last {s : State} {p : Port} {bad}
    (hothers : ∀ q ∈ canvasPorts s, q ≠ p → s.compose.stagedRows.get q = 4) :
    stagingEnded (stageZoneRow p 3 bad s) = true := by
  refine List.all_eq_true.2 fun q hq => decide_eq_true ?_
  rw [stageZoneRow_canvasPorts] at hq
  rw [stageZoneRow_stagedRows]
  by_cases hqp : q = p
  · rw [hqp, perPort_get_set_self]
  · rw [perPort_get_set_of_ne _ _ hqp, hothers q hq hqp]

/-- A frame that begins keeps the staged tiles of the one in composition. -/
theorem beginDue_staged {s : State} {frame p tile} (hf : frame = s.compose.frame)
    (h : IsStaged s.compose frame p tile) : IsStaged (beginDue s).compose frame p tile := by
  unfold beginDue
  split
  · obtain ⟨x, hx, hframe, hport, htile⟩ := h
    refine ⟨x, ?_, hframe, hport, htile⟩
    rw [beginFrame_staged]
    exact List.mem_filter.2 ⟨hx, by simp [hframe, hf]⟩
  · exact h

/-! ## TILE_COMPOSED -/

theorem execTileComposed_eq {s : State} {p : Port} {row col : Nat} (lower bad) (hp : composing s p = true)
    (hrow : row < 16) (hcol : col < 32) (holder : s.compose.older = none) :
    exec (.tileComposed p row col lower bad) s = .next
      (if s.compose.racing then composeNext p row col lower bad s else composeBuffered p (row * 32 + col) s) := by
  have hin : ¬(!(composing s p && decide (row < 16) && decide (col < 32))) = true := by simp [hp, hrow, hcol]
  refine congrArg Host.Outcome.next ((if_neg hin).trans ?_)
  simp [composeRacing, holder]

theorem composeBuffered_eq {s : State} {p : Port} {tile : Nat} {x : Staged} (holder : s.compose.older = none)
    (hx : (s.compose.staged.find? fun y => y.port == p && y.tile == tile) = some x) :
    composeBuffered p tile s = composeStaged x s := by
  simp [composeBuffered, hx, holder]

theorem execBuffered_eq {s : State} {p : Port} {row col : Nat} (lower bad) {x : Staged} (hp : composing s p = true)
    (hrow : row < 16) (hcol : col < 32) (hmode : s.compose.racing = false) (holder : s.compose.older = none)
    (hx : (s.compose.staged.find? fun y => y.port == p && y.tile == row * 32 + col) = some x) :
    exec (.tileComposed p row col lower bad) s = .next (composeStaged x s) := by
  rw [execTileComposed_eq lower bad hp hrow hcol holder, if_neg (by simp [hmode]), composeBuffered_eq holder hx]

theorem execRacing_eq {s : State} {p : Port} {row col : Nat} (lower bad) (hp : composing s p = true)
    (hrow : row < 16) (hcol : col < 32) (hmode : s.compose.racing = true) (holder : s.compose.older = none) :
    exec (.tileComposed p row col lower bad) s = .next (composeNext p row col lower bad s) := by
  rw [execTileComposed_eq lower bad hp hrow hcol holder, if_pos hmode]

theorem isComposed_of_outTile {s : State} {p tile lower o} (h : outTile s s.compose.frame p tile lower = some o) :
    isComposed s p tile lower = true := by
  simp [isComposed, h]

/-- What composing a tile that is staged leaves: the tile, once, with its signature. -/
theorem composeStaged_compose {s : State} {x : Staged} {p row col} (hport : x.port = p)
    (htile : x.tile = row * 32 + col) (hcol : col < 32) (hopen : isComposed s p (row * 32 + col) false = false) :
    ∃ o zs, IsTileOf o s.compose.frame p (row * 32 + col) false 32
      ∧ (composeStaged x s).compose = writtenTile o x.held zs s.compose := by
  have hr : x.tile / 32 = row := by omega
  have hc : x.tile % 32 = col := by omega
  rw [composeStaged, hport, hr, hc, htile, if_neg (by simp [hopen])]
  exact finishTile_compose p row col 0 32 false x.held _ s

theorem composeStaged_besideTile (x s) : besideTile (composeStaged x s) = besideTile s := by
  unfold composeStaged
  split
  · rfl
  · exact finishTile_besideTile _ _ _ _ _ _ _ _ _

theorem composeHalf_compose (p row col lower s) : ∃ o held zs tst n,
    IsTileOf o s.compose.frame p (row * 32 + col) lower 16
      ∧ (composeHalf p row col lower s).compose
          = writtenTile o held zs { s.compose with tst := tst, conflictCount := n } := by
  unfold composeHalf
  dsimp only
  generalize hs1 : noteStage1 p row col (if lower then 16 else 0) 16
    (clearValid (tstIndex true s.compose.frame p (row * 32 + col) lower) s) = s1
  obtain ⟨o, zs, ho, hcompose⟩ := finishTile_compose p row col (if lower then 16 else 0) 16 lower _ _
    (noteConflicts _ s1)
  have hs1' : ∀ n, (noteConflicts n s1).compose = { s.compose with
      tst := s.compose.tst.map fun e => if e.entry == tstIndex true s.compose.frame p (row * 32 + col) lower
        then { e with valid := false } else e
      conflictCount := satAdd 32 s.compose.conflictCount n } := fun n => by
    rw [← hs1, noteConflicts, onCompose, noteStage1_compose]
    rfl
  rw [hs1'] at ho hcompose
  exact ⟨o, _, zs, _, _, ho, hcompose⟩

theorem composeHalf_besideHalf (p row col lower s) : besideHalf (composeHalf p row col lower s) = besideHalf s := by
  unfold composeHalf noteConflicts
  dsimp only
  rw [besideHalf_of_tile (finishTile_besideTile _ _ _ _ _ _ _ _ _),
    besideHalf_of_staging (onCompose_besideStaging _ _), besideHalf_of_staging (noteStage1_besideStaging _ _ _ _ _ _)]
  exact besideHalf_of_staging (onCompose_besideStaging _ _)

/-- The next half-tile of the band is composed, behind a cell row of the ceiling that was found bad. -/
theorem composeNext_eq {s : State} {p row col lower} (bad : Bool) (hmode : s.compose.racing = true)
    (hband : s.compose.band = 2 * row + (if lower then 1 else 0))
    (hnext : (openHalves s).head? = some (p, col)) :
    composeNext p row col lower bad s
      = composeHalf p row col lower (if bad then badCellRow p (2 * row + ofBool lower) s else s) := by
  have hband' : s.compose.band = 2 * row + ofBool lower := by cases lower <;> simpa [ofBool] using hband
  exact if_pos (by simp [isNextHalf, hmode, hband', hnext])

theorem badCell_compose (bad : Bool) (p j s) : (if bad then badCellRow p j s else s).compose = s.compose := by
  split
  · exact badCellRow_compose p j s
  · rfl

theorem badCell_besideStaging (bad : Bool) (p j s) :
    besideStaging (if bad then badCellRow p j s else s) = besideStaging s := by
  split
  · exact badCellRow_besideStaging p j s
  · rfl

theorem composeNext_compose {s : State} {p row col lower} (bad : Bool) (hmode : s.compose.racing = true)
    (hband : s.compose.band = 2 * row + (if lower then 1 else 0)) (hnext : (openHalves s).head? = some (p, col)) :
    ∃ o held zs tst n, IsTileOf o s.compose.frame p (row * 32 + col) lower 16
      ∧ (composeNext p row col lower bad s).compose
          = writtenTile o held zs { s.compose with tst := tst, conflictCount := n } := by
  rw [composeNext_eq bad hmode hband hnext]
  have h := composeHalf_compose p row col lower (if bad then badCellRow p (2 * row + ofBool lower) s else s)
  rwa [badCell_compose] at h

theorem composeNext_besideHalf (p row col lower bad s) :
    besideHalf (composeNext p row col lower bad s) = besideHalf s := by
  unfold composeNext
  split
  · rw [composeHalf_besideHalf, besideHalf_of_staging (badCell_besideStaging _ _ _ _)]
  · rfl

/-! ## SCAN_OUT_TILE_CHECK -/

/-- The composer's state beside what a check at scan-out counts. -/
def besideCheck (c : Compose) : Compose :=
  { c with badTiles := [], mismatchCount := 0, mismatched := [], fallbackCount := 0 }

/-- The state beside the composer's, with NVM. -/
def besideCompose (s : State) : State × Nvm := (Outside.faultParts { s with compose := blank.compose }, s.nvm)

theorem noteMismatch_compose (p k s) : (noteMismatch p k s).compose = { s.compose with
    mismatchCount := count32 s.compose.mismatchCount
    mismatched := if s.compose.mismatched.contains p then s.compose.mismatched else p :: s.compose.mismatched } := by
  unfold noteMismatch
  dsimp only
  rw [apply_ite State.compose, raiseKind_compose, ite_self]
  rfl

theorem raiseKind_besideCompose {k : Nat} (i s) (h : StartsNoCommit k) :
    besideCompose (raiseKind k i s) = besideCompose s :=
  Prod.ext (congrArg (fun u : State => { u with compose := blank.compose }) (raiseKind_only k i s) :)
    (raiseKind_nvm i s h)

theorem onCompose_besideCompose (f s) : besideCompose (onCompose f s) = besideCompose s := rfl

theorem noteMismatch_besideCompose (p k s) : besideCompose (noteMismatch p k s) = besideCompose s := by
  unfold noteMismatch
  dsimp only
  rw [apply_ite besideCompose, raiseKind_besideCompose _ _ (by decide), ite_self, onCompose_besideCompose]

theorem onlyFaultParts_of_besideCompose {s t : State} (h : besideCompose t = besideCompose s) :
    OnlyFaultParts { s with compose := t.compose } t :=
  onlyFaultParts_of (congrArg (fun x : State × Nvm => { x.1 with compose := t.compose }) h :)

/-- A tile that enters the check buffer is of the frame that is read, with the step pair and the words of its tile. -/
theorem putChecked_compose {s u : State} (frame p racing low ds) {row col : Nat} (hcol : col < 32)
    (hcheck : besideCheck u.compose = besideCheck s.compose) (hdrive : u.drive = s.drive) :
    (putChecked frame p (row * 32 + col) racing low ds u).compose = { u.compose with
      checked := ⟨frame, p, row * 32 + col, low, ds, (framePair s p frame (zoneAt (32 * col) (32 * row))).n,
          tileWords s frame p (row * 32 + col) racing low⟩
        :: u.compose.checked.filter fun y => !(y.port == p && y.tile == row * 32 + col && y.lower == low) } := by
  have hzones : u.compose.zones = s.compose.zones := (congrArg Compose.zones hcheck :)
  have hout : u.compose.out = s.compose.out := (congrArg Compose.out hcheck :)
  have hr : (row * 32 + col) / 32 = row := by omega
  have hc : (row * 32 + col) % 32 = col := by omega
  have hpair : framePair u p frame (zoneAt (32 * col) (32 * row))
      = framePair s p frame (zoneAt (32 * col) (32 * row)) := by
    simp only [framePair, hzones]
  have hwords : tileWords u frame p (row * 32 + col) racing low = tileWords s frame p (row * 32 + col) racing low := by
    simp only [tileWords, outTile, wordFor, calWord, hout, hdrive]
  unfold putChecked
  simp only [onCompose, hr, hc, hpair, hwords]

/-- What a check at scan-out reads from `u` on, given the duties that are shown: of the state it changes the composer's
counts and the check buffer alone. -/
structure Checks (s u : State) (p : Port) (read instead : Option (List Nat)) (safe ds : List Nat) : Prop where
  counts : besideCheck u.compose = besideCheck s.compose
  rest : besideCompose u = besideCompose s
  good : ∀ xs, read = some xs → ds = xs ∧ u.compose.mismatchCount = s.compose.mismatchCount
    ∧ u.compose.fallbackCount = s.compose.fallbackCount
  bad : read = none → u.compose.mismatchCount = min (s.compose.mismatchCount + 1) (2 ^ 32 - 1)
    ∧ p ∈ u.compose.mismatched
  substituted : ∀ xs, read = none → instead = some xs → ds = xs ∧ u.compose.fallbackCount = s.compose.fallbackCount
  dark : read = none → instead = none →
    u.compose.fallbackCount = min (s.compose.fallbackCount + 1) (2 ^ 32 - 1) ∧ ds = safe

theorem noteMismatch_mem (p k s) : p ∈ (noteMismatch p k s).compose.mismatched := by
  rw [noteMismatch_compose]
  dsimp only
  split
  · next h => simpa using h
  · exact List.mem_cons_self

section
variable (s : State) (p : Port) (k : Nat) (bad : List Nat) (safe : List Nat)

/-- The state with the tile's mark of a bad output buffer taken (R359). -/
def takeBad (bad : List Nat) (s : State) : State := onCompose (fun c => { c with badTiles := bad }) s

theorem checks_good {instead} (xs : List Nat) : Checks s (takeBad bad s) p (some xs) instead safe xs :=
  ⟨rfl, rfl, fun _ h => ⟨Option.some.inj h, rfl, rfl⟩, nofun, nofun, nofun⟩

theorem checks_substituted (xs : List Nat) :
    Checks s (noteMismatch p k (takeBad bad s)) p none (some xs) safe xs where
  counts := by rw [noteMismatch_compose]; rfl
  rest := (noteMismatch_besideCompose p k _).trans rfl
  good := nofun
  bad _ := ⟨by rw [noteMismatch_compose]; rfl, noteMismatch_mem p k _⟩
  substituted _ _ h := ⟨Option.some.inj h, by rw [noteMismatch_compose]; rfl⟩
  dark _ := nofun

theorem checks_dark : Checks s (onCompose (fun c => { c with fallbackCount := count32 c.fallbackCount })
    (noteMismatch p k (takeBad bad s))) p none none safe safe where
  counts := by rw [onCompose, noteMismatch_compose]; rfl
  rest := (onCompose_besideCompose _ _).trans ((noteMismatch_besideCompose p k _).trans rfl)
  good := nofun
  bad _ := ⟨by rw [onCompose, noteMismatch_compose]; rfl, noteMismatch_mem p k _⟩
  substituted _ _ := nofun
  dark _ _ := ⟨by rw [onCompose, noteMismatch_compose]; rfl, rfl⟩

end

theorem execScanOut_eq {s : State} {p : Port} {row col : Nat} (lower flaws) (hlink : isOn s .link = true)
    (hport : hasPort s p = true) (hrow : row < 16) (hcol : col < 32) :
    let frame := readFrame s row lower
    let racing := frameRacing s frame
    let tile := row * 32 + col
    let z := zoneAt (32 * col) (32 * row)
    ∃ u ds, exec (.scanOutTileCheck p row col lower flaws) s
        = .next (putChecked frame p tile racing (racing && lower) ds u)
      ∧ Checks s u p
        (checkedRead s frame racing p tile (racing && lower) flaws (s.compose.badTiles.contains (p.num * 512 + tile)))
        (substitute s frame p tile z (racing && lower))
        (safeTile s frame p row col (if racing && lower then 16 else 0) (if racing then 16 else 32) z) ds := by
  dsimp only
  have hin : ¬(!(isOn s .link && hasPort s p && decide (row < 16) && decide (col < 32))) = true := by
    simp [hlink, hport, hrow, hcol]
  show ∃ u ds, execScanOutTileCheck p row col lower flaws s = _ ∧ _
  rw [execScanOutTileCheck, if_neg hin]
  dsimp only
  split
  · next xs hread =>
    refine ⟨_, xs, rfl, ?_⟩
    rw [hread]
    exact checks_good s p _ _ xs
  · next hread =>
    split
    · next xs hinstead =>
      refine ⟨_, xs, rfl, ?_⟩
      rw [hread, hinstead]
      exact checks_substituted s p _ _ _ xs
    · next hinstead =>
      refine ⟨_, _, rfl, ?_⟩
      rw [hread, hinstead]
      exact checks_dark s p _ _ _

/-! ## FRAME_COMPOSITION_DONE -/

/-- The state with a frame's figures published and its energy taken over. -/
def published (frame : BitVec 32) (s : State) : State :=
  (portsOf s.variant).foldl (fun s p => publishEnergy frame p s) (publishZones frame s)

/-- The state beside the composer's and the drive's. -/
def besidePublished (s : State) : State := { s with compose := blank.compose, drive := blank.drive }

theorem publishEnergy_compose (frame p s) : (publishEnergy frame p s).compose = s.compose :=
  (congrArg State.compose (publishEnergy_frame frame p s) :)

theorem publishEnergy_besidePublished (frame p s) : besidePublished (publishEnergy frame p s) = besidePublished s :=
  (congrArg besidePublished (publishEnergy_frame frame p s) :)

theorem publishZones_besidePublished (frame s) : besidePublished (publishZones frame s) = besidePublished s :=
  (congrArg besidePublished (publishZones_frame frame s) :)

theorem published_compose (frame s) : (published frame s).compose = (publishZones frame s).compose :=
  foldl_keeps State.compose (fun t p => publishEnergy_compose frame p t) _ _

theorem published_beside (frame s) : besidePublished (published frame s) = besidePublished s :=
  (foldl_keeps besidePublished (fun t p => publishEnergy_besidePublished frame p t) _ _).trans
    (publishZones_besidePublished frame s)

theorem execFrameCompositionDone_eq {s : State} (hpix : isOn s .pix = true)
    (hbusy : (s.compose.busy || s.compose.unpublished.isSome) = true) :
    exec .frameCompositionDone s = .next { handToToll (endingFrame s) (published (endingFrame s).1 s) with
        fetch := { (published (endingFrame s).1 s).fetch with
          store := (published (endingFrame s).1 s).fetch.store.filter fun x => x.frame != (endingFrame s).1 }
        compose := { (published (endingFrame s).1 s).compose with
          unpublished := none, busy := s.compose.busy && s.compose.unpublished.isSome
          older := s.compose.older.filter fun r => r.racing || r.frame != (endingFrame s).1 } } :=
  congrArg Host.Outcome.next (if_pos (by simp [hpix, hbusy]))

/-! ## O26 -/

/-- The count of staged zone rows of the port rises by one, while no next frame is due. -/
theorem zoneRowStaging_completes {s : State} {p : Port} {zr : Nat} (bad) (hp : composing s p = true)
    (hbusy : s.compose.busy = true) (hmode : s.compose.racing = false) (hzr : zr < 4)
    (hnext : s.compose.stagedRows.get p = zr) (hdue : s.compose.due = false) :
    ∃ t, exec (.zoneRowStagingDone p zr bad) s = .next t ∧ t.compose.stagedRows.get p = zr + 1
      ∧ (∀ q, q ≠ p → t.compose.stagedRows.get q = s.compose.stagedRows.get q)
      ∧ OnlyFaultParts { s with
          compose := t.compose, fetch := t.fetch, shade := t.shade, ceiling := t.ceiling, headroom := t.headroom } t
      ∧ t.dict = s.dict ∧ t.nvm = s.nvm ∧ t.scan = s.scan := by
  have hbeside := stageZoneRow_besideZoneRow p zr bad s
  have hrows := stageZoneRow_stagedRows p zr bad s
  have hsame : beginDue (stageZoneRow p zr bad s) = stageZoneRow p zr bad s :=
    beginDue_of_not_due (by rw [stageZoneRow_due, hdue])
  refine ⟨_, (execZoneRow_eq bad hp hbusy hmode hzr hnext).trans (congrArg Host.Outcome.next hsame), ?_, fun q hq => ?_,
    onlyFaultParts_of_besideZoneRow hbeside, (congrArg (fun y => y.1.dict) hbeside :), (congrArg Prod.snd hbeside :),
    (congrArg (fun y => y.1.scan) hbeside :)⟩
  · rw [hrows, perPort_get_set_self]
  · rw [hrows, perPort_get_set_of_ne _ _ hq]

theorem bufferedTile_completes {s : State} {p : Port} {row col : Nat} (lower bad) {x : Staged}
    (hp : composing s p = true) (hrow : row < 16) (hcol : col < 32) (hmode : s.compose.racing = false)
    (holder : s.compose.older = none)
    (hx : (s.compose.staged.find? fun y => y.port == p && y.tile == row * 32 + col) = some x) :
    ∃ t, exec (.tileComposed p row col lower bad) s = .next t ∧ isComposed t p (row * 32 + col) false = true
      ∧ t.compose.frame = s.compose.frame ∧ t.compose.staged = s.compose.staged
      ∧ OnlyFaultParts { s with compose := t.compose, fetch := t.fetch, pixels := t.pixels } t
      ∧ t.dict = s.dict ∧ t.nvm = s.nvm ∧ t.scan = s.scan := by
  have hexec := execBuffered_eq lower bad hp hrow hcol hmode holder hx
  have hbeside := composeStaged_besideTile x s
  obtain ⟨hdone, hframe, hstaged⟩ : isComposed (composeStaged x s) p (row * 32 + col) false = true
      ∧ (composeStaged x s).compose.frame = s.compose.frame
      ∧ (composeStaged x s).compose.staged = s.compose.staged := by
    obtain ⟨hport, htile⟩ : x.port = p ∧ x.tile = row * 32 + col := by simpa using List.find?_some hx
    cases hopen : isComposed s p (row * 32 + col) false with
    | true =>
      have hsame : composeStaged x s = s := if_pos (by rw [hport, htile, hopen])
      rw [hsame]
      exact ⟨hopen, rfl, rfl⟩
    | false =>
      obtain ⟨o, zs, ho, hcompose⟩ := composeStaged_compose (s := s) hport htile hcol hopen
      have hframe : (composeStaged x s).compose.frame = s.compose.frame := by rw [hcompose]; rfl
      exact ⟨isComposed_of_outTile (hframe ▸ outTile_written ho hcompose), hframe, by rw [hcompose]; rfl⟩
  exact ⟨_, hexec, hdone, hframe, hstaged, onlyFaultParts_of_besideTile hbeside,
    (congrArg State.dict hbeside :), (congrArg State.nvm hbeside :), (congrArg State.scan hbeside :)⟩

theorem racingTile_completes {s : State} {p : Port} {row col : Nat} {lower} (bad) (hp : composing s p = true)
    (hrow : row < 16) (hcol : col < 32) (hmode : s.compose.racing = true) (holder : s.compose.older = none)
    (hband : s.compose.band = 2 * row + (if lower then 1 else 0)) (hnext : (openHalves s).head? = some (p, col)) :
    ∃ t, exec (.tileComposed p row col lower bad) s = .next t ∧ isComposed t p (row * 32 + col) lower = true
      ∧ t.compose.frame = s.compose.frame ∧ t.compose.band = s.compose.band
      ∧ OnlyFaultParts { s with
          compose := t.compose, fetch := t.fetch, shade := t.shade, ceiling := t.ceiling, pixels := t.pixels } t
      ∧ t.dict = s.dict ∧ t.nvm = s.nvm ∧ t.scan = s.scan := by
  have hexec := execRacing_eq lower bad hp hrow hcol hmode holder
  have hbeside := composeNext_besideHalf p row col lower bad s
  obtain ⟨o, held, zs, tst, n, ho, hcompose⟩ := composeNext_compose bad hmode hband hnext
  have hframe : (composeNext p row col lower bad s).compose.frame = s.compose.frame := by rw [hcompose]; rfl
  exact ⟨_, hexec, isComposed_of_outTile (hframe ▸ outTile_written ho hcompose), hframe, by rw [hcompose]; rfl,
    onlyFaultParts_of_besideHalf hbeside, (congrArg (fun y => y.1.dict) hbeside :), (congrArg Prod.snd hbeside :),
    (congrArg (fun y => y.1.scan) hbeside :)⟩

theorem scanOutCheck_completes {s : State} {p : Port} {row col : Nat} (lower flaws) (hlink : isOn s .link = true)
    (hport : hasPort s p = true) (hrow : row < 16) (hcol : col < 32) :
    ∃ t, exec (.scanOutTileCheck p row col lower flaws) s = .next t
      ∧ (∃ x ∈ t.compose.checked, x.frame = readFrame s row lower ∧ x.port = p ∧ x.tile = row * 32 + col)
      ∧ t.compose.out = s.compose.out ∧ t.compose.tst = s.compose.tst ∧ t.compose.ring = s.compose.ring
      ∧ OnlyFaultParts { s with compose := t.compose } t
      ∧ t.dict = s.dict ∧ t.nvm = s.nvm ∧ t.scan = s.scan := by
  obtain ⟨u, ds, hexec, hcounts, hrest, -⟩ := execScanOut_eq lower flaws hlink hport hrow hcol
  have hcompose := putChecked_compose (readFrame s row lower) p (frameRacing s (readFrame s row lower))
    (frameRacing s (readFrame s row lower) && lower) ds (row := row) hcol hcounts
    (congrArg (fun y => y.1.drive) hrest :)
  refine ⟨_, hexec, ⟨_, by rw [hcompose]; exact List.mem_cons_self, rfl, rfl, rfl⟩, ?_, ?_, ?_,
    onlyFaultParts_of_besideCompose hrest, (congrArg (fun y => y.1.dict) hrest :), (congrArg Prod.snd hrest :),
    (congrArg (fun y => y.1.scan) hrest :)⟩
  · exact (congrArg Compose.out hcounts :)
  · exact (congrArg Compose.tst hcounts :)
  · exact (congrArg Compose.ring hcounts :)

theorem frameEnd_completes {s : State} (hpix : isOn s .pix = true)
    (hbusy : (s.compose.busy || s.compose.unpublished.isSome) = true) :
    ∃ t, exec .frameCompositionDone s = .next t ∧ t.compose.unpublished = none
      ∧ t.compose.out = s.compose.out ∧ t.compose.tst = s.compose.tst ∧ t.compose.staged = s.compose.staged
      ∧ t.compose.frame = s.compose.frame ∧ t.dict = s.dict ∧ t.link = s.link ∧ t.nvm = s.nvm ∧ t.scan = s.scan := by
  have hcompose := published_compose (endingFrame s).1 s
  have hbeside := published_beside (endingFrame s).1 s
  exact ⟨_, execFrameCompositionDone_eq hpix hbusy, rfl, (congrArg Compose.out hcompose :),
    (congrArg Compose.tst hcompose :), (congrArg Compose.staged hcompose :), (congrArg Compose.frame hcompose :),
    (congrArg State.dict hbeside :), (congrArg State.link hbeside :), (congrArg State.nvm hbeside :),
    (congrArg State.scan hbeside :)⟩

/-- Settles O26, command by command. -/
theorem theComposersCommandsComplete : Obligations.TheComposersCommandsComplete :=
  ⟨fun _ _ _ bad => zoneRowStaging_completes bad, fun _ _ _ _ lower bad _ => bufferedTile_completes lower bad,
    fun _ _ _ _ _ bad => racingTile_completes bad, fun _ _ _ _ lower flaws => scanOutCheck_completes lower flaws,
    fun _ => frameEnd_completes⟩

end Sys2Proof.Laws
end

section
/-!
O25: what a frame holds after each of the composer's commands (R26, R87, R139, R140, R146 to R148, R153, R182).
-/

namespace Sys2Proof.Laws

open Sys2Proof Sys2Proof.Machine

theorem stageZoneRow_field {α : Type} (f : Compose → α) (p zr bad s)
    (hf : ∀ c, f (besideStaged c) = f c) :
    f (stageZoneRow p zr bad s).compose = f { s.compose with stagedRows := s.compose.stagedRows.set p (zr + 1) } := by
  rw [← hf, (stageZoneRow_compose p zr bad s).1, hf]

theorem zoneRowStaging_fills {s : State} {p : Port} {zr : Nat} (bad) (hp : composing s p = true)
    (hbusy : s.compose.busy = true) (hmode : s.compose.racing = false) (hzr : zr < 4)
    (hnext : s.compose.stagedRows.get p = zr) :
    ∃ t, exec (.zoneRowStagingDone p zr bad) s = .next t
      ∧ (∀ k < 128, ∃ x ∈ t.compose.staged, x.frame = s.compose.frame ∧ x.port = p ∧ x.tile = 128 * zr + k)
      ∧ (s.compose.due = false → t.compose.frame = s.compose.frame ∧ t.compose.out = s.compose.out
          ∧ t.compose.stagedRows = s.compose.stagedRows.set p (zr + 1))
      ∧ (s.compose.due = true → zr = 3 → (∀ q ∈ canvasPorts s, q ≠ p → s.compose.stagedRows.get q = 4) →
          t.compose.frame = s.compose.frame + 1 ∧ t.compose.busy = true ∧ t.compose.racing = false
          ∧ t.compose.due = false ∧ t.compose.unpublished = some (s.compose.frame, s.compose.scales)) := by
  have hframe := stageZoneRow_frameNumber p zr bad s
  have hfield := fun {α : Type} (f : Compose → α) => stageZoneRow_field f p zr bad s
  refine ⟨_, execZoneRow_eq bad hp hbusy hmode hzr hnext,
    fun k hk => beginDue_staged hframe.symm ((stageZoneRow_compose p zr bad s).2 k hk), fun hdue => ?_,
    fun hdue hlast hothers => ?_⟩
  · rw [beginDue_of_not_due (by rw [stageZoneRow_due, hdue])]
    exact ⟨hframe, hfield Compose.out fun _ => rfl, stageZoneRow_stagedRows p zr bad s⟩
  · subst hlast
    have hbusy' : (stageZoneRow p 3 bad s).compose.busy = true := (hfield Compose.busy fun _ => rfl).trans hbusy
    have hscales : (stageZoneRow p 3 bad s).compose.scales = s.compose.scales := hfield Compose.scales fun _ => rfl
    rw [beginDue_of_ended (by rw [stageZoneRow_due, hdue]) (stagingEnded_of_last hothers),
      beginFrame_unpublished _ _ _ hbusy', hframe, hscales]
    exact ⟨rfl, rfl, rfl, rfl, rfl⟩

theorem bufferedTile_fills {s : State} {p : Port} {row col : Nat} (lower bad) {x : Staged} (hp : composing s p = true)
    (hrow : row < 16) (hcol : col < 32) (hmode : s.compose.racing = false) (holder : s.compose.older = none)
    (hopen : isComposed s p (row * 32 + col) false = false)
    (hx : (s.compose.staged.find? fun y => y.port == p && y.tile == row * 32 + col) = some x) :
    ∃ t o, exec (.tileComposed p row col lower bad) s = .next t
      ∧ outTile t s.compose.frame p (row * 32 + col) false = some o ∧ o.duties.length = 1024
      ∧ tstEntry t (tstIndex false s.compose.frame p (row * 32 + col) false)
          = ⟨tstIndex false s.compose.frame p (row * 32 + col) false, true, x.held, signature o.duties⟩ := by
  obtain ⟨hport, htile⟩ : x.port = p ∧ x.tile = row * 32 + col := by simpa using List.find?_some hx
  obtain ⟨o, zs, ho, hcompose⟩ := composeStaged_compose (s := s) hport htile hcol hopen
  have htst := tstEntry_written hcompose
  rw [hmode, ho.port, ho.tile, ho.lower] at htst
  exact ⟨_, o, execBuffered_eq lower bad hp hrow hcol hmode holder hx, outTile_written ho hcompose, ho.duties, htst⟩

theorem racingTile_fills {s : State} {p : Port} {row col : Nat} {lower} (bad) (hp : composing s p = true)
    (hrow : row < 16) (hcol : col < 32) (hmode : s.compose.racing = true) (holder : s.compose.older = none)
    (hband : s.compose.band = 2 * row + (if lower then 1 else 0)) (hnext : (openHalves s).head? = some (p, col)) :
    ∃ t o held, exec (.tileComposed p row col lower bad) s = .next t
      ∧ outTile t s.compose.frame p (row * 32 + col) lower = some o ∧ o ∈ t.compose.ring ∧ o.duties.length = 512
      ∧ tstEntry t (tstIndex true s.compose.frame p (row * 32 + col) lower)
          = ⟨tstIndex true s.compose.frame p (row * 32 + col) lower, true, held, signature o.duties⟩ := by
  obtain ⟨o, held, zs, tst, n, ho, hcompose⟩ := composeNext_compose bad hmode hband hnext
  have htst := tstEntry_written hcompose
  dsimp only at htst
  rw [hmode, ho.port, ho.tile, ho.lower] at htst
  refine ⟨_, o, held, execRacing_eq lower bad hp hrow hcol hmode holder, outTile_written ho hcompose, ?_, ho.duties,
    htst⟩
  rw [hcompose, writtenTile, if_pos hmode]
  exact List.mem_cons_self

theorem scanOutCheck_fills {s : State} {p : Port} {row col : Nat} (lower flaws) (hlink : isOn s .link = true)
    (hport : hasPort s p = true) (hrow : row < 16) (hcol : col < 32) :
    let frame := readFrame s row lower
    let racing := frameRacing s frame
    let tile := row * 32 + col
    let z := zoneAt (32 * col) (32 * row)
    let read := checkedRead s frame racing p tile (racing && lower) flaws
      (s.compose.badTiles.contains (p.num * 512 + tile))
    let instead := substitute s frame p tile z (racing && lower)
    let into := fun (ds : List Nat) => (⟨frame, p, tile, racing && lower, ds, (framePair s p frame z).n,
      tileWords s frame p tile racing (racing && lower)⟩ : Checked)
    ∃ t ds, exec (.scanOutTileCheck p row col lower flaws) s = .next t
      ∧ into ds ∈ t.compose.checked
      ∧ (∀ y ∈ t.compose.checked, y.port = p → y.tile = tile → y.lower = (racing && lower) → y = into ds)
      ∧ (∀ xs, read = some xs → ds = xs ∧ t.compose.mismatchCount = s.compose.mismatchCount
          ∧ t.compose.fallbackCount = s.compose.fallbackCount)
      ∧ (read = none → t.compose.mismatchCount = min (s.compose.mismatchCount + 1) (2 ^ 32 - 1)
        ∧ p ∈ t.compose.mismatched)
      ∧ (∀ xs, read = none → instead = some xs → ds = xs ∧ t.compose.fallbackCount = s.compose.fallbackCount)
      ∧ (read = none → instead = none → t.compose.fallbackCount = min (s.compose.fallbackCount + 1) (2 ^ 32 - 1)
          ∧ ds = safeTile s frame p row col (if racing && lower then 16 else 0) (if racing then 16 else 32) z) := by
  obtain ⟨u, ds, hexec, hchecks⟩ := execScanOut_eq lower flaws hlink hport hrow hcol
  have hcompose := putChecked_compose (readFrame s row lower) p (frameRacing s (readFrame s row lower))
    (frameRacing s (readFrame s row lower) && lower) ds (row := row) hcol hchecks.counts
    (congrArg (fun y => y.1.drive) hchecks.rest :)
  refine ⟨_, ds, hexec, ?_, ?_, hchecks.good, hchecks.bad, hchecks.substituted, hchecks.dark⟩
  all_goals rw [hcompose]
  · exact List.mem_cons_self
  · intro y hy hport htile hlower
    obtain rfl | hy := List.mem_cons.1 hy
    · rfl
    · simp [hport, htile, hlower] at hy

theorem published_zones (frame s p) : ((published frame s).compose.zones.get p).pubPeaks
        = ofFrame 0 1 (s.compose.zones.get p) frame (s.compose.zones.get p).peaks (s.compose.zones.get p).prevPeaks
      ∧ ((published frame s).compose.zones.get p).pubSums
        = ofFrame 0 1 (s.compose.zones.get p) frame (s.compose.zones.get p).dutySums
          (s.compose.zones.get p).prevSums := by
  simp [published_compose, publishZones, onCompose]

theorem published_cpReady (frame s) : cpReady (published frame s) = cpReady s := by
  have hpower : (published frame s).power = s.power := (congrArg State.power (published_beside frame s) :)
  have hunits : (published frame s).units = s.units := (congrArg State.units (published_beside frame s) :)
  simp only [cpReady, isOn, domainState, hpower, hunits]

/-- The figures that the Toll is handed are those of the frame that ends (R153). -/
theorem handToToll_measured (e s) :
    (cpReady s = false → (handToToll e s).toll.measured = [])
      ∧ (cpReady s = true → ∃ m, (handToToll e s).toll.measured = s.toll.measured ++ [m] ∧ m.frame = e.1
        ∧ m.scales = e.2
          ∧ ∀ p, m.power.get p = litPower s p ∧ m.demand.get p = (s.compose.zones.get p).pubClass) :=
  ⟨fun h => if_neg (by simp [h]),
    fun h => ⟨_, if_pos h, rfl, rfl, fun p => ⟨perPort_get_map _ _ p, perPort_get_map _ _ p⟩⟩⟩

theorem frameEnd_fills {s : State} (hpix : isOn s .pix = true)
    (hbusy : (s.compose.busy || s.compose.unpublished.isSome) = true) :
    let e := endingFrame s
    ∃ t, exec .frameCompositionDone s = .next t
      ∧ (cpReady s = false → t.toll.measured = [])
      ∧ (cpReady s = true → ∃ m, t.toll.measured = s.toll.measured ++ [m] ∧ m.frame = e.1 ∧ m.scales = e.2
          ∧ ∀ p, m.power.get p = litPower t p ∧ m.demand.get p = (t.compose.zones.get p).pubClass)
      ∧ t.compose.unpublished = none
      ∧ t.compose.busy = (s.compose.busy && s.compose.unpublished.isSome)
      ∧ t.fetch.store = s.fetch.store.filter (fun x => x.frame != e.1)
      ∧ ∀ p, (t.compose.zones.get p).pubPeaks
            = ofFrame 0 1 (s.compose.zones.get p) e.1 (s.compose.zones.get p).peaks (s.compose.zones.get p).prevPeaks
          ∧ (t.compose.zones.get p).pubSums
            = ofFrame 0 1 (s.compose.zones.get p) e.1 (s.compose.zones.get p).dutySums
              (s.compose.zones.get p).prevSums := by
  intro e
  obtain ⟨hidle, hready⟩ := handToToll_measured e (published e.1 s)
  have hbeside := published_beside e.1 s
  have htoll : (published e.1 s).toll = s.toll := (congrArg State.toll hbeside :)
  have hfetch : (published e.1 s).fetch = s.fetch := (congrArg State.fetch hbeside :)
  rw [published_cpReady] at hidle hready
  rw [htoll] at hready
  refine ⟨_, execFrameCompositionDone_eq hpix hbusy, hidle, hready, rfl, rfl, ?_, published_zones e.1 s⟩
  dsimp only
  rw [hfetch]

/-- Settles O25, command by command. -/
theorem compositionFillsTheFrame : Obligations.CompositionFillsTheFrame :=
  ⟨fun _ _ _ bad => zoneRowStaging_fills bad, fun _ _ _ _ lower bad _ => bufferedTile_fills lower bad,
    fun _ _ _ _ _ bad => racingTile_fills bad, fun _ _ _ _ lower flaws => scanOutCheck_fills lower flaws,
    fun _ => frameEnd_fills⟩

end Sys2Proof.Laws
end

section
/-!
The die-to-die bridge (R16, R17): what a raise leaves of what an end has heard, and how a frame is received.
-/

namespace Sys2Proof.Laws

open Sys2Proof Sys2Proof.Machine

/-! ## What a raise leaves of the bridge -/

/-- What the ends of the bridge have heard, and the count of repeats. -/
def bridgeHears (s : State) : (BitVec 4 × BitVec 60) × (BitVec 4 × BitVec 60) × Nat :=
  ((s.faults.ddbLd.heard, s.faults.ddbLd.last), (s.faults.ddbAd.heard, s.faults.ddbAd.last), s.faults.ddbRetries)

/-- The same, with the raises without an acknowledgement. -/
def bridgeView (s : State) : ((BitVec 4 × BitVec 60) × (BitVec 4 × BitVec 60) × Nat) × List RaiseRecord :=
  (bridgeHears s, s.faults.unacked)

theorem canWaybill_bridgeView (node w s) : bridgeView (canWaybill node w s) = bridgeView s := by
  unfold canWaybill
  repeat' split
  all_goals rfl

theorem caravanWaybill_bridgeView (w s) : bridgeView (caravanWaybill w s) = bridgeView s := by
  unfold caravanWaybill
  repeat' split
  all_goals rfl

theorem ddbSend_bridgeView (die ty payload s) : bridgeView (ddbSend die ty payload s) = bridgeView s := by
  unfold ddbSend onDdb
  repeat' split
  all_goals rfl

theorem ddbWaybillOut_bridgeView (ad w s) : bridgeView (ddbWaybillOut ad w s) = bridgeView s :=
  foldl_keeps bridgeView (fun t _ => ddbSend_bridgeView _ _ _ t) _ _

theorem writeEntry_bridgeView (ad ty w c s) : bridgeView (writeEntry ad ty w c s) = bridgeView s := rfl

theorem sendWaybill_bridgeView (ad reason w s) : bridgeView (sendWaybill ad reason w s) = bridgeView s := by
  unfold sendWaybill
  simp only [apply_ite bridgeView, canWaybill_bridgeView, caravanWaybill_bridgeView, writeEntry_bridgeView,
    ddbWaybillOut_bridgeView, ite_self]

theorem raiseEntry_bridgeView (k u i w s) : bridgeView (raiseEntry k u i w s) = bridgeView s := by
  unfold raiseEntry
  split <;> rfl

theorem noteActive_bridgeView (k u i w s) : bridgeView (noteActive k u i w s) = bridgeView s := by
  unfold noteActive
  repeat' split
  all_goals rfl

theorem settle_bridgeView (s) : bridgeView (settle s) = bridgeView s := by
  have hhold : ∀ t, bridgeView (holdAll t) = bridgeView t := fun t =>
    foldl_keeps bridgeView (fun s p => by split <;> rfl) _ _
  have hrelease : ∀ t, bridgeView (releaseHold t) = bridgeView t := fun t =>
    foldl_keeps bridgeView (fun s p => by
      repeat' split
      all_goals rfl) _ _
  show bridgeView (enterSafeState (governing s) s) = _
  unfold enterSafeState
  simp only [apply_ite bridgeView, hhold, hrelease]
  simp only [bridgeView, bridgeHears, ite_self]

theorem blankAgain_bridgeView (k s) : bridgeView (blankAgain k s) = bridgeView s := by
  unfold blankAgain
  split <;> rfl

theorem interruptCp_hears (k u w s) : bridgeHears (interruptCp k u w s) = bridgeHears s := by
  unfold interruptCp
  split
  · exact (congrArg Prod.fst (sendWaybill_bridgeView _ _ _ _) :)
  · split
    · exact (congrArg Prod.fst (sendWaybill_bridgeView _ _ _ _) :)
    · rfl

/-- A raise that goes to the CP waits for its acknowledgement (R354). -/
theorem interruptCp_unacked {k u w s r} (h : r ∈ (interruptCp k u w s).faults.unacked) :
    r ∈ s.faults.unacked ∨ r = ⟨u, k, w⟩ := by
  unfold interruptCp at h
  split at h
  · exact .inl (by rwa [sendWaybill_unacked] at h)
  · split at h
    · exact .inl (by rwa [sendWaybill_unacked] at h)
    · simpa using h

/-- What a fresh raise does before it goes to the CP. -/
theorem raiseFresh_eq (k u i s) : ∃ t, bridgeView t = bridgeView s ∧ raiseFresh k u i s
    = interruptCp k u (waybillOf u k (kindRow k).cls i.port i.lane i.address s.aon.waybillSequence.toNat) t := by
  refine ⟨_, ?_, rfl⟩
  rw [noteActive_bridgeView, apply_ite bridgeView, raiseEntry_bridgeView, ite_self]
  rfl

theorem raiseFresh_hears (k u i s) : bridgeHears (raiseFresh k u i s) = bridgeHears s := by
  obtain ⟨t, ht, heq⟩ := raiseFresh_eq k u i s
  rw [heq, interruptCp_hears]
  exact (congrArg Prod.fst ht :)

theorem raiseFresh_unacked {k u i s r} (h : r ∈ (raiseFresh k u i s).faults.unacked) :
    r ∈ s.faults.unacked
      ∨ r = ⟨u, k, waybillOf u k (kindRow k).cls i.port i.lane i.address s.aon.waybillSequence.toNat⟩ := by
  obtain ⟨t, ht, heq⟩ := raiseFresh_eq k u i s
  have hunacked : t.faults.unacked = s.faults.unacked := (congrArg Prod.snd ht :)
  rw [heq] at h
  simpa only [hunacked] using interruptCp_unacked h

theorem triggerCommit_hears (w s) : bridgeHears (triggerCommit w s) = bridgeHears s := by
  unfold triggerCommit tryCommit
  repeat' split
  · rfl
  · exact raiseFresh_hears _ _ _ _
  all_goals rfl

/-- Only a raise of the erase cap, which is of another unit, may become open when a commit is triggered (R371). -/
theorem triggerCommit_unacked {w s r} (h : r ∈ (triggerCommit w s).faults.unacked) :
    r ∈ s.faults.unacked ∨ r.unit = 0x16 := by
  unfold triggerCommit tryCommit at h
  split at h
  · exact .inl h
  · split at h
    · obtain h | rfl := raiseFresh_unacked h
      · exact .inl h
      · exact .inr rfl
    · split at h
      all_goals exact .inl h

/-- What a raise leaves of the bridge (R16). -/
theorem raiseKind_hears (k i s) : bridgeHears (raiseKind k i s) = bridgeHears s := by
  have hsettle : ∀ t, bridgeHears (settle t) = bridgeHears t := fun t => (congrArg Prod.fst (settle_bridgeView t) :)
  have hblank : ∀ t, bridgeHears (blankAgain k t) = bridgeHears t := fun t =>
    (congrArg Prod.fst (blankAgain_bridgeView k t) :)
  unfold raiseKind
  dsimp only
  split
  · rfl
  · rw [hsettle, apply_ite bridgeHears, triggerCommit_hears, ite_self, hblank, raiseFresh_hears]

/-- The raises that are open after a raise: those before it, its own, and that of the erase cap. -/
theorem raiseKind_unacked {k i s r} (h : r ∈ (raiseKind k i s).faults.unacked) :
    r ∈ s.faults.unacked ∨ r.unit = 0x16
      ∨ r = ⟨unitOf k i.port, k, waybillOf (unitOf k i.port) k (kindRow k).cls i.port i.lane i.address
          s.aon.waybillSequence.toNat⟩ := by
  have hsettle : ∀ t, (settle t).faults.unacked = t.faults.unacked := fun t =>
    (congrArg Prod.snd (settle_bridgeView t) :)
  have hblank : ∀ t, (blankAgain k t).faults.unacked = t.faults.unacked := fun t =>
    (congrArg Prod.snd (blankAgain_bridgeView k t) :)
  have hfresh : ∀ r ∈ (blankAgain k (raiseFresh k (unitOf k i.port) i s)).faults.unacked,
      r ∈ s.faults.unacked ∨ r.unit = 0x16
      ∨ r = ⟨unitOf k i.port, k, waybillOf (unitOf k i.port) k (kindRow k).cls i.port i.lane i.address
          s.aon.waybillSequence.toNat⟩ := fun r hr => by
    rw [hblank] at hr
    exact (raiseFresh_unacked hr).imp id .inr
  unfold raiseKind at h
  dsimp only at h
  split at h
  · exact .inl h
  · rw [hsettle] at h
    split at h
    · exact (triggerCommit_unacked h).elim (hfresh r) (.inr ∘ .inl)
    · exact hfresh r h

end Sys2Proof.Laws
end

section
/-!
O39: a frame of the die-to-die bridge is judged (R16, R17, R357).
-/

namespace Sys2Proof.Laws

open Sys2Proof Sys2Proof.Machine

/-! ## The ends of the bridge -/

@[simp] theorem ddbEnd_onDdb (d f s) : ddbEnd (onDdb d f s) d = f (ddbEnd s d) := by
  cases d <;> rfl

theorem onDdb_active (d f s) : (onDdb d f s).faults.active = s.faults.active := by
  cases d <;> rfl

theorem onDdb_retries (d f s) : (onDdb d f s).faults.ddbRetries = s.faults.ddbRetries := by
  cases d <;> rfl

theorem onDdb_only (d f s) : Outside.faultParts (onDdb d f s) = Outside.faultParts s := by
  cases d <;> rfl

theorem owesNak_eq {s : State} (d) (h : ddbRuns s = true) : owesNak d s = onDdb d (fun e => { e with
    seq := e.seq + 1, sent := e.sent ++ [ddbFrame 7 (e.seq + 1) 0]
    waiting := e.waiting ++ [(ddbFrame 7 (e.seq + 1) 0, 0)] }) s :=
  if_pos h

/-- Kind 0x05 is not active with its condition (R17). -/
def BridgeAbsent (t : State) : Prop := ∀ a ∈ t.faults.active, a.kind = 0x05 → a.unit = 0x04 → a.absent = true

/-- The condition of a kind with a quiet period ends, and the kind waits for it (R365). -/
theorem clearCondition_of_quiet {k : Nat} (u s) (hexit : (kindRow k).exit = .quiet) :
    clearCondition k u s = markAbsent k u s := by
  unfold clearCondition
  split
  · next hnone =>
    have hnot : ∀ a ∈ s.faults.active, ¬(a.kind == k && a.unit == u) = true := List.find?_eq_none.1 hnone
    have hsame : (s.faults.active.map fun a => if a.kind == k && a.unit == u then { a with absent := true } else a)
        = s.faults.active := by
      conv_rhs => rw [← List.map_id s.faults.active]
      exact List.map_congr_left fun a ha => if_neg (hnot a ha)
    rw [markAbsent, hsame]
  · rw [hexit, ite_self]

/-- A kind that has been marked absent is not active with its condition. -/
theorem absent_of_markAbsent (k u s) :
    ∀ a ∈ (markAbsent k u s).faults.active, a.kind = k → a.unit = u → a.absent = true := by
  intro a ha hk hu
  obtain ⟨b, -, rfl⟩ := List.mem_map.1 ha
  by_cases hb : (b.kind == k && b.unit == u) = true
  · rw [if_pos hb]
  · rw [if_neg hb] at hk hu
    exact absurd (by simp [hk, hu]) hb

/-- A frame that is heard ends the condition of kind 0x05, which waits for its quiet period (R17). -/
theorem bridgeHeard_eq (s) : bridgeHeard s = markAbsent 0x05 0x04 s := clearCondition_of_quiet 0x04 s rfl

theorem markAbsent_absent (s) : BridgeAbsent (markAbsent 0x05 0x04 s) := absent_of_markAbsent 0x05 0x04 s

theorem bridgeAbsent_onDdb {d f s} (h : BridgeAbsent s) : BridgeAbsent (onDdb d f s) := by
  rwa [BridgeAbsent, onDdb_active]

/-! ## A frame that is received -/

section
variable {s : State} {d : Die} {x : BitVec 80} {ty : Nat} {act : State → State}

theorem receiveDdb_of_idle (h : ddbRuns s = false) : receiveDdb ty d x act s = s :=
  if_pos (by simp [h])

theorem receiveDdb_of_bad (hruns : ddbRuns s = true) (h : ddbCrcGood x = false ∨ ddbFollows s d x = false) :
    receiveDdb ty d x act s = owesNak d s := by
  rw [receiveDdb, if_neg (by simp [hruns]), if_pos]
  obtain h | h := h <;> simp [h]

variable (hruns : ddbRuns s = true) (hcrc : ddbCrcGood x = true) (hseq : ddbFollows s d x = true)
include hruns hcrc hseq

theorem receiveDdb_of_reserved (h : ddbType x ≥ 8) :
    receiveDdb ty d x act s = onDdb d (fun e => { e with heard := ddbSequence x }) (bridgeHeard s) := by
  rw [receiveDdb, if_neg (by simp [hruns]), if_neg (by simp [hcrc, hseq]), if_pos h]

theorem receiveDdb_of_other (h : ddbType x ≠ ty) (hlow : ddbType x < 8) : receiveDdb ty d x act s = s := by
  rw [receiveDdb, if_neg (by simp [hruns]), if_neg (by simp [hcrc, hseq]), if_neg (by omega), if_pos h]

theorem receiveDdb_of_accepted (h : ddbType x = ty) (hlow : ty < 8) :
    receiveDdb ty d x act s = act (bridgeHeard (acceptDdb d x s)) := by
  rw [receiveDdb, if_neg (by simp [hruns]), if_neg (by simp [hcrc, hseq]), if_neg (by omega), if_neg (by simp [h])]

end

/-! ## The commands -/

theorem ddbEnd_bridgeHeard (d s) : ddbEnd (bridgeHeard s) d = ddbEnd s d := by
  rw [bridgeHeard_eq]
  cases d <;> rfl

theorem onDdb_outside (d f s) : Outside.faults (onDdb d f s) = Outside.faults s := by
  cases d <;> rfl

theorem bridgeHeard_outside (s) : Outside.faults (bridgeHeard s) = Outside.faults s := by
  rw [bridgeHeard_eq]
  rfl

theorem onlyFaultParts_of_faults {s t : State} (h : Outside.faults t = Outside.faults s) : OnlyFaultParts s t :=
  onlyFaultParts_of (congrArg Outside.faultParts h :)

/-- The state after an accepted frame is heard: its end has it as its last one, and the condition of kind 0x05 ends. -/
def heardFrame (d : Die) (x : BitVec 80) (s : State) : State := bridgeHeard (acceptDdb d x s)

theorem heardFrame_outside (d x s) : Outside.faults (heardFrame d x s) = Outside.faults s :=
  (bridgeHeard_outside _).trans (onDdb_outside _ _ _)

theorem heardFrame_absent (d x s) : BridgeAbsent (heardFrame d x s) := by
  rw [heardFrame, bridgeHeard_eq]
  exact markAbsent_absent _

theorem ddbEnd_heardFrame (d x s) : ddbEnd (heardFrame d x s) d = { ddbEnd s d with
    heard := ddbSequence x, last := BitVec.ofNat 60 (ddbType x * 2 ^ 56 + ddbPayload x) } := by
  rw [heardFrame, ddbEnd_bridgeHeard, acceptDdb, ddbEnd_onDdb]

/-- An accepted frame that is neither a Waybill's nor a negative acknowledge: the last send got through, and a record
that was begun is broken off. -/
theorem plainFrame (d x s) :
    let t := breakRecord d (sendsGood d (heardFrame d x s))
    Outside.faults t = Outside.faults s ∧ BridgeAbsent t ∧ ddbEnd t d = { ddbEnd s d with
      heard := ddbSequence x, last := BitVec.ofNat 60 (ddbType x * 2 ^ 56 + ddbPayload x), waiting := []
      parts := if (ddbEnd s d).parts.length < 3 then [] else (ddbEnd s d).parts } := by
  refine ⟨?_, bridgeAbsent_onDdb (bridgeAbsent_onDdb (heardFrame_absent d x s)), ?_⟩
  · rw [breakRecord, sendsGood, onDdb_outside, onDdb_outside, heardFrame_outside]
  · rw [breakRecord, sendsGood, ddbEnd_onDdb, ddbEnd_onDdb, ddbEnd_heardFrame]

/-- The commands of the bridge that take a frame, by the frame's type (R16). -/
theorem ddbCommand_cases {d : Die} {x : BitVec 80} {k : DdbFailure} {ty : Nat} {c : Instr}
    (h : (ty, c) ∈ (0, Instr.ddbIdleFrame d x) :: (7, .ddbNegativeAcknowledge d ⟨x, k⟩) ::
      [(1, Instr.ddbReadRequest d x), (2, .ddbReadResponse d x), (3, .ddbWrite d x), (4, .ddbWriteAcknowledge d x),
        (5, .ddbWaybill d x), (6, .ddbEvent d x)]) :
    (ty = 0 ∧ c = .ddbIdleFrame d x) ∨ (ty ≠ 0 ∧ ty < 8 ∧ ∃ act : State → State,
      (∀ s, exec c s = .next (receiveDdb ty d x act s))
        ∧ (ty ≠ 5 → ty ≠ 7 → act = fun s => breakRecord d (sendsGood d s))) := by
  simp only [List.mem_cons, Prod.mk.injEq, List.not_mem_nil, or_false] at h
  obtain h | ⟨rfl, rfl⟩ | ⟨rfl, rfl⟩ | ⟨rfl, rfl⟩ | ⟨rfl, rfl⟩ | ⟨rfl, rfl⟩ | ⟨rfl, rfl⟩ | ⟨rfl, rfl⟩ := h
  · exact .inl h
  · exact .inr ⟨by decide, by decide, _, fun _ => rfl, fun _ h => absurd rfl h⟩
  · exact .inr ⟨by decide, by decide, _, fun _ => rfl, fun _ _ => rfl⟩
  · exact .inr ⟨by decide, by decide, _, fun _ => rfl, fun _ _ => rfl⟩
  · exact .inr ⟨by decide, by decide, _, fun _ => rfl, fun _ _ => rfl⟩
  · exact .inr ⟨by decide, by decide, _, fun _ => rfl, fun _ _ => rfl⟩
  · exact .inr ⟨by decide, by decide, _, fun _ => rfl, fun h => absurd rfl h⟩
  · exact .inr ⟨by decide, by decide, _, fun _ => rfl, fun _ _ => rfl⟩

/-! ### Idle frames -/

theorem execIdle_of_idle {d x} {s : State} (h : ddbRuns s = false) : exec (.ddbIdleFrame d x) s = .next s :=
  congrArg Host.Outcome.next (if_pos (by simp [h]))

theorem execIdle_of_bad {d x} {s : State} (hruns : ddbRuns s = true)
    (h : ddbCrcGood x = false ∨ ddbFollows s d x = false) : exec (.ddbIdleFrame d x) s = .next (owesNak d s) := by
  refine congrArg Host.Outcome.next ((if_neg (by simp [hruns])).trans (if_pos ?_))
  obtain h | h := h <;> simp [h]

theorem execIdle_of_followed {d x} {s : State} (hruns : ddbRuns s = true) (hcrc : ddbCrcGood x = true)
    (hseq : ddbFollows s d x = true) :
    exec (.ddbIdleFrame d x) s = .next (if ddbType x ≠ 0 then s else bridgeHeard s) :=
  congrArg Host.Outcome.next ((if_neg (by simp [hruns])).trans (if_neg (by simp [hcrc, hseq])))

end Sys2Proof.Laws
end

section
/-!
O39: negative acknowledges, records of Waybills, silence, and the assembly (R16, R17, R357).
-/

namespace Sys2Proof.Laws

open Sys2Proof Sys2Proof.Machine

/-! ## What raising the fault of the bridge changes -/

/-- A Waybill sent past the SM, with the raises that wait for the CP cut by `f`. -/
def sentPast (node : Nat) (w : BitVec 64) (keep : RaiseRecord → Bool) (s : State) : State :=
  canWaybill node w (caravanWaybill w (onFaults (fun f => { f with unacked := f.unacked.filter keep }) s))

theorem raiseBridge_cases (d s) : raiseBridge d s = raiseKind 0x05 {} s ∨ ∃ (r : RaiseRecord) (node : Nat),
    raiseBridge d s = sentPast node r.waybill (fun x => x != r) (raiseKind 0x05 {} s) := by
  unfold raiseBridge
  dsimp only
  split
  · exact .inl rfl
  · split
    · exact .inl rfl
    · exact .inr ⟨_, _, rfl⟩

theorem sentPast_hears (node w keep s) : bridgeHears (sentPast node w keep s) = bridgeHears s :=
  (congrArg Prod.fst ((canWaybill_bridgeView _ _ _).trans (caravanWaybill_bridgeView _ _)) :)

theorem sentPast_unacked (node w keep s) :
    (sentPast node w keep s).faults.unacked = s.faults.unacked.filter keep :=
  (congrArg Prod.snd ((canWaybill_bridgeView _ _ _).trans (caravanWaybill_bridgeView _ _)) :)

theorem sentPast_only (node w keep s) : Outside.faultParts (sentPast node w keep s) = Outside.faultParts s := by
  rw [sentPast, canWaybill_only, caravanWaybill_only, onFaults, only_faults]

theorem sentPast_active (node w keep s) : (sentPast node w keep s).faults.active = s.faults.active :=
  (congrArg Prod.fst ((canWaybill_activity _ _ _).trans (caravanWaybill_activity _ _)) :)

theorem raiseBridge_hears (d s) : bridgeHears (raiseBridge d s) = bridgeHears s := by
  obtain h | ⟨r, node, h⟩ := raiseBridge_cases d s
  · rw [h, raiseKind_hears]
  · rw [h, sentPast_hears, raiseKind_hears]

theorem raiseBridge_only (d s) : Outside.faultParts (raiseBridge d s) = Outside.faultParts s := by
  obtain h | ⟨r, node, h⟩ := raiseBridge_cases d s
  · rw [h, raiseKind_only]
  · rw [h, sentPast_only, raiseKind_only]

theorem raiseBridge_active (d s) : isActive (raiseBridge d s) 0x05 0x04 = true := by
  have hraised : isActive (raiseKind 0x05 {} s) 0x05 0x04 = true := raiseKind_active 0x05 {} s rfl
  obtain h | ⟨r, node, h⟩ := raiseBridge_cases d s
  · rw [h, hraised]
  · rw [h, isActive, sentPast_active]
    exact hraised

/-- A fault that the LD end finds leaves no raise of the bridge for the CP (log 165). -/
theorem raiseBridge_unacked {s : State} (hact : isActive s 0x05 0x04 = false)
    (hopen : ∀ r ∈ s.faults.unacked, r.unit ≠ 0x04) : ∀ r ∈ (raiseBridge .ld s).faults.unacked, r.unit ≠ 0x04 := by
  have hown : ∀ r ∈ (raiseKind 0x05 {} s).faults.unacked, r.unit = 0x04 →
      r = ⟨0x04, 0x05, waybillOf 0x04 0x05 2 15 15 0 s.aon.waybillSequence.toNat⟩ := fun r hr hu => by
    obtain h | h | h := raiseKind_unacked hr
    · exact absurd hu (hopen r h)
    · exact absurd (h.symm.trans hu) (by decide)
    · exact h
  intro r hr hu
  unfold raiseBridge at hr
  dsimp only at hr
  split at hr
  · next hnone =>
    have hnot := List.find?_eq_none.1 hnone r hr
    rw [hown r hr hu] at hnot
    exact hnot rfl
  · next r' hfound =>
    have hunit := (Bool.and_eq_true _ _).mp
      (List.find?_some (p := fun r : RaiseRecord => r.unit == 0x04 && r.kind == 0x05) hfound)
    have heq := hown r' (List.mem_of_find?_eq_some hfound) (by simpa using hunit.1)
    rw [if_neg (by simp [hact])] at hr
    change r ∈ (sentPast _ _ (fun x => x != r') _).faults.unacked at hr
    rw [sentPast_unacked, List.mem_filter] at hr
    rw [hown r hr.1 hu, heq] at hr
    simp at hr

/-! ## A negative acknowledge (R17) -/

theorem bridgeHears_ddbEnd {s t : State} (h : bridgeHears t = bridgeHears s) (d) :
    (ddbEnd t d).heard = (ddbEnd s d).heard ∧ (ddbEnd t d).last = (ddbEnd s d).last
      ∧ t.faults.ddbRetries = s.faults.ddbRetries := by
  simp only [bridgeHears, Prod.mk.injEq] at h
  obtain ⟨⟨h1, h2⟩, ⟨h3, h4⟩, h5⟩ := h
  cases d
  · exact ⟨h1, h2, h5⟩
  · exact ⟨h3, h4, h5⟩

theorem failedForGood_frame {d i s f n} (h : (ddbEnd s d).waiting[i]? = some (f, n)) :
    failedForGood s d (.frame i) = decide (n ≥ 4) := by
  rw [failedForGood, h]
  rfl

theorem ddbEnd_onFaults_retries (d) (g : Nat → Nat) (s) :
    ddbEnd (onFaults (fun x => { x with ddbRetries := g x.ddbRetries }) s) d = ddbEnd s d := by
  cases d <;> rfl

/-- The frame at place `i` has failed once more. -/
def countFailed (d : Die) (i : Nat) (s : State) : State :=
  onDdb d (fun e => { e with waiting := e.waiting.modify i fun x => (x.1, x.2 + 1) }) s

/-- A frame that has failed is sent again, which counts. -/
def sendAgain (d : Die) (f : BitVec 80) (s : State) : State :=
  onDdb d (fun e => { e with sent := e.sent ++ [f] })
    (onFaults (fun x => { x with ddbRetries := count32 x.ddbRetries }) s)

theorem frameFailed_of_waits {d i s f n} (h : (ddbEnd s d).waiting[i]? = some (f, n)) :
    frameFailed d i s = if n ≥ 3 then countFailed d i s else sendAgain d f (countFailed d i s) := by
  rw [frameFailed, h]
  rfl

theorem ddbEnd_countFailed (d i s) : ddbEnd (countFailed d i s) d = { ddbEnd s d with
    waiting := (ddbEnd s d).waiting.modify i fun x => (x.1, x.2 + 1) } := by
  rw [countFailed, ddbEnd_onDdb]

theorem ddbEnd_sendAgain (d f s) : ddbEnd (sendAgain d f s) d = { ddbEnd s d with
    sent := (ddbEnd s d).sent ++ [f] } := by
  rw [sendAgain, ddbEnd_onDdb, ddbEnd_onFaults_retries d count32]

theorem sendAgain_retries (d f s) : (sendAgain d f s).faults.ddbRetries = count32 s.faults.ddbRetries := by
  rw [sendAgain, onDdb_retries, onFaults]

theorem sendAgain_only (d f s) : Outside.faultParts (sendAgain d f s) = Outside.faultParts s := by
  rw [sendAgain, onDdb_only, onFaults, only_faults]

theorem waiting_countFailed {d i s f n} (h : (ddbEnd s d).waiting[i]? = some (f, n)) :
    (ddbEnd (countFailed d i s) d).waiting[i]? = some (f, n + 1) := by
  rw [ddbEnd_countFailed, List.getElem?_modify_eq, h]
  rfl

/-- What a negative acknowledge of a frame does: the first three failed sends repeat it, the fourth raises kind 0x05. -/
theorem frameNak {d i s f n} (h : (ddbEnd s d).waiting[i]? = some (f, n)) :
    (if failedForGood (frameFailed d i s) d (.frame i) then raiseBridge d (frameFailed d i s) else frameFailed d i s)
      = if n < 3 then sendAgain d f (countFailed d i s) else raiseBridge d (countFailed d i s) := by
  have hwait := waiting_countFailed h
  rw [frameFailed_of_waits h]
  by_cases hn : n < 3
  · have hsent : (ddbEnd (sendAgain d f (countFailed d i s)) d).waiting[i]? = some (f, n + 1) := by
      rw [ddbEnd_sendAgain, hwait]
    rw [if_neg (show ¬n ≥ 3 by omega), failedForGood_frame hsent, if_neg (by simp; omega), if_pos hn]
  · rw [if_pos (show n ≥ 3 by omega), failedForGood_frame hwait, if_pos (by simp; omega), if_neg hn]

theorem heardFrame_retries (d x s) : (heardFrame d x s).faults.ddbRetries = s.faults.ddbRetries := by
  rw [heardFrame, bridgeHeard_eq, markAbsent]
  exact onDdb_retries _ _ _

theorem heardFrame_only (d x s) : Outside.faultParts (heardFrame d x s) = Outside.faultParts s :=
  (congrArg Outside.faultParts (heardFrame_outside d x s) :)

/-! ## A record of a Waybill is sent again (R357) -/

theorem ddbRuns_of_outside {s t : State} (h : Outside.faults t = Outside.faults s) : ddbRuns t = ddbRuns s := by
  rw [Outside.faults_eq h]
  rfl

theorem ddbSend_of_runs {s : State} (d ty payload) (h : ddbRuns s = true) : ddbSend d ty payload s =
    onDdb d (fun e => { e with
      seq := e.seq + 1, sent := e.sent ++ [ddbFrame ty (e.seq + 1) payload]
      waiting := e.waiting ++ [(ddbFrame ty (e.seq + 1) payload, 0)] }) s :=
  if_pos h

theorem ddbSend_outside (d ty payload s) : Outside.faults (ddbSend d ty payload s) = Outside.faults s := by
  unfold ddbSend
  split
  · exact onDdb_outside _ _ _
  · rfl

theorem ddbSend_hears (d ty payload s) : bridgeHears (ddbSend d ty payload s) = bridgeHears s :=
  (congrArg Prod.fst (ddbSend_bridgeView _ _ _ _) :)

/-- The record at `first` leaves the frames that wait, and the repeat counts. -/
def takeRecord (d : Die) (first : Nat) (s : State) : State :=
  onDdb d (fun e => { e with waiting := (ddbEnd s d).waiting.take first ++ (ddbEnd s d).waiting.drop (first + 3) })
    (onFaults (fun x => { x with ddbRetries := count32 x.ddbRetries }) s)

theorem recordFailed_of_waits {d i s f n} (h : (ddbEnd s d).waiting[i]? = some (f, n)) (hty : ddbType f = 5) :
    recordFailed d i s = ((((ddbEnd s d).waiting.drop (i - bitsOf (ddbPayload f) 54 2)).take 3).map (·.1)).foldl
      (fun s f => ddbSend d 0x5 (ddbPayload f) s) (takeRecord d (i - bitsOf (ddbPayload f) 54 2) s) := by
  rw [recordFailed, h]
  exact if_neg (by simp [hty])

theorem ddbEnd_takeRecord (d first s) : ddbEnd (takeRecord d first s) d = { ddbEnd s d with
    waiting := (ddbEnd s d).waiting.take first ++ (ddbEnd s d).waiting.drop (first + 3) } := by
  rw [takeRecord, ddbEnd_onDdb, ddbEnd_onFaults_retries d count32]

theorem takeRecord_outside (d first s) : Outside.faults (takeRecord d first s) = Outside.faults s := by
  rw [takeRecord, onDdb_outside]
  rfl

theorem takeRecord_retries (d first s) : (takeRecord d first s).faults.ddbRetries = count32 s.faults.ddbRetries := by
  rw [takeRecord, onDdb_retries, onFaults]

theorem sendParts_outside (d) (parts : List (BitVec 80)) (s) :
    Outside.faults (parts.foldl (fun s f => ddbSend d 0x5 (ddbPayload f) s) s) = Outside.faults s :=
  foldl_keeps _ (fun s _ => ddbSend_outside _ _ _ s) _ _

theorem sendParts_hears (d) (parts : List (BitVec 80)) (s) :
    bridgeHears (parts.foldl (fun s f => ddbSend d 0x5 (ddbPayload f) s) s) = bridgeHears s :=
  foldl_keeps _ (fun s _ => ddbSend_hears _ _ _ s) _ _

/-- The three parts of a record carry the next three sequences. -/
theorem sendParts_three {s : State} (d) (a b c : BitVec 80) (h : ddbRuns s = true) :
    (ddbEnd ([a, b, c].foldl (fun s f => ddbSend d 0x5 (ddbPayload f) s) s) d).sent = (ddbEnd s d).sent
      ++ [ddbFrame 5 ((ddbEnd s d).seq + 1) (ddbPayload a), ddbFrame 5 ((ddbEnd s d).seq + 2) (ddbPayload b),
        ddbFrame 5 ((ddbEnd s d).seq + 3) (ddbPayload c)] := by
  have hruns : ∀ f t, ddbRuns t = true → ddbRuns (ddbSend d 0x5 (ddbPayload f) t) = true := fun f t ht =>
    (ddbRuns_of_outside (ddbSend_outside _ _ _ _)).trans ht
  have htwo : ∀ q : BitVec 4, q + 1 + 1 = q + 2 := by decide
  have hthree : ∀ q : BitVec 4, q + 2 + 1 = q + 3 := by decide
  simp only [List.foldl_cons, List.foldl_nil]
  rw [ddbSend_of_runs d 5 (ddbPayload c) (hruns b _ (hruns a s h)), ddbEnd_onDdb,
    ddbSend_of_runs d 5 (ddbPayload b) (hruns a s h), ddbEnd_onDdb, ddbSend_of_runs d 5 (ddbPayload a) h, ddbEnd_onDdb]
  simp only [htwo, hthree, List.append_assoc, List.cons_append, List.nil_append]

end Sys2Proof.Laws
end

section
/-!
O39: the die-to-die bridge: CRC and sequence, records of Waybills, failed sends, silence.
-/

namespace Sys2Proof.Laws

open Sys2Proof Sys2Proof.Machine

/-! ## What a heard frame leaves to read -/

/-- The end has the frame as its last one, and only fault parts differ. -/
def FrameHeard (s t : State) (d : Die) (x : BitVec 80) : Prop :=
  (ddbEnd t d).heard = ddbSequence x ∧ (ddbEnd t d).last = BitVec.ofNat 60 (ddbType x * 2 ^ 56 + ddbPayload x)
    ∧ OnlyFaultParts s t

theorem frameHeard_of_end {s t : State} {d x} (hend : (ddbEnd t d).heard = (ddbEnd (heardFrame d x s) d).heard
    ∧ (ddbEnd t d).last = (ddbEnd (heardFrame d x s) d).last)
    (honly : Outside.faultParts t = Outside.faultParts (heardFrame d x s)) : FrameHeard s t d x := by
  rw [ddbEnd_heardFrame] at hend
  exact ⟨hend.1, hend.2, onlyFaultParts_of (honly.trans (heardFrame_only d x s))⟩

/-! ## A part of a Waybill -/

/-- The state after an accepted part of a Waybill. -/
def partTaken (d : Die) (x : BitVec 80) (s : State) : State :=
  onDdb d (fun e => { e with parts := takePart (ddbPayload x) e.parts }) (sendsGood d (heardFrame d x s))

theorem partTaken_outside (d x s) : Outside.faults (partTaken d x s) = Outside.faults s := by
  rw [partTaken, onDdb_outside, sendsGood, onDdb_outside, heardFrame_outside]

theorem partTaken_absent (d x s) : BridgeAbsent (partTaken d x s) :=
  bridgeAbsent_onDdb (bridgeAbsent_onDdb (heardFrame_absent d x s))

theorem ddbEnd_partTaken (d x s) : ddbEnd (partTaken d x s) d = { ddbEnd s d with
    heard := ddbSequence x, last := BitVec.ofNat 60 (ddbType x * 2 ^ 56 + ddbPayload x), waiting := []
    parts := takePart (ddbPayload x) (ddbEnd s d).parts } := by
  rw [partTaken, ddbEnd_onDdb, sendsGood, ddbEnd_onDdb, ddbEnd_heardFrame]

theorem execDdbWaybill_of_accepted {s : State} {d x} (hruns : ddbRuns s = true) (hcrc : ddbCrcGood x = true)
    (hseq : ddbFollows s d x = true) (hty : ddbType x = 5) : exec (.ddbWaybill d x) s = .next
      (if partOutOfOrder (ddbPayload x) (ddbEnd s d).parts then owesNak d (partTaken d x s) else partTaken d x s) := by
  refine congrArg Host.Outcome.next ((receiveDdb_of_accepted hruns hcrc hseq hty (by decide)).trans ?_)
  have hparts : (ddbEnd (heardFrame d x s) d).parts = (ddbEnd s d).parts := by rw [ddbEnd_heardFrame]
  exact congrArg (fun ps => if partOutOfOrder (ddbPayload x) ps then owesNak d (partTaken d x s) else partTaken d x s)
    hparts

/-- A part in its order is taken; one out of order is answered with a negative acknowledge (R357). -/
theorem partAnswered {s : State} (d x) (hruns : ddbRuns s = true) :
    let t := if partOutOfOrder (ddbPayload x) (ddbEnd s d).parts then owesNak d (partTaken d x s) else partTaken d x s
    FrameHeard s t d x ∧ Outside.faults t = Outside.faults s ∧ BridgeAbsent t
      ∧ (ddbEnd t d).parts = takePart (ddbPayload x) (ddbEnd s d).parts
      ∧ (partOutOfOrder (ddbPayload x) (ddbEnd s d).parts = false →
          (ddbEnd t d).waiting = [] ∧ (ddbEnd t d).sent = (ddbEnd s d).sent)
      ∧ (partOutOfOrder (ddbPayload x) (ddbEnd s d).parts = true →
          (ddbEnd t d).sent = (ddbEnd s d).sent ++ [ddbFrame 7 ((ddbEnd s d).seq + 1) 0]) := by
  intro t
  have hend := ddbEnd_partTaken d x s
  cases hpart : partOutOfOrder (ddbPayload x) (ddbEnd s d).parts with
  | false =>
    have ht : t = partTaken d x s := if_neg (by simp [hpart])
    have houtside := partTaken_outside d x s
    rw [ht, hend]
    exact ⟨⟨(congrArg DdbEnd.heard hend :), (congrArg DdbEnd.last hend :), onlyFaultParts_of_faults houtside⟩, houtside,
      partTaken_absent d x s, rfl, fun _ => ⟨rfl, rfl⟩, fun h => absurd h (by decide)⟩
  | true =>
    have hgo : ddbRuns (partTaken d x s) = true := (ddbRuns_of_outside (partTaken_outside d x s)).trans hruns
    have ht : t = _ := (if_pos hpart).trans (owesNak_eq d hgo)
    have houtside : Outside.faults t = Outside.faults s := by rw [ht, onDdb_outside, partTaken_outside]
    have htend : ddbEnd t d = _ := (congrArg (ddbEnd · d) ht).trans (ddbEnd_onDdb _ _ _)
    rw [hend] at htend
    exact ⟨⟨(congrArg DdbEnd.heard htend :), (congrArg DdbEnd.last htend :), onlyFaultParts_of_faults houtside⟩,
      houtside, ht ▸ bridgeAbsent_onDdb (partTaken_absent d x s), (congrArg DdbEnd.parts htend :),
      fun h => absurd h (by decide), fun _ => (congrArg DdbEnd.sent htend :)⟩

/-! ## A negative acknowledge -/

section
variable {s : State} {d : Die} {x : BitVec 80} {i : Nat} {f : BitVec 80} {n : Nat}

theorem execNak_of_accepted {failed : DdbFailure} (hruns : ddbRuns s = true) (hcrc : ddbCrcGood x = true)
    (hseq : ddbFollows s d x = true) (hty : ddbType x = 7) :
    exec (.ddbNegativeAcknowledge d ⟨x, failed⟩) s = .next
      (if failedForGood (sendFailed d failed (heardFrame d x s)) d failed
        then raiseBridge d (sendFailed d failed (heardFrame d x s)) else sendFailed d failed (heardFrame d x s)) :=
  congrArg Host.Outcome.next (receiveDdb_of_accepted hruns hcrc hseq hty (by decide))

theorem waiting_heardFrame (h : (ddbEnd s d).waiting[i]? = some (f, n)) :
    (ddbEnd (heardFrame d x s) d).waiting[i]? = some (f, n) := by
  rwa [ddbEnd_heardFrame]

/-- The frame that failed is repeated three times; then the fault of the bridge is raised (R17). -/
theorem nakOfFrame (h : (ddbEnd s d).waiting[i]? = some (f, n)) :
    let t := if n < 3 then sendAgain d f (countFailed d i (heardFrame d x s))
      else raiseBridge d (countFailed d i (heardFrame d x s))
    FrameHeard s t d x
      ∧ (n < 3 → (ddbEnd t d).sent = (ddbEnd s d).sent ++ [f] ∧ (ddbEnd t d).waiting[i]? = some (f, n + 1)
        ∧ t.faults.ddbRetries = min (s.faults.ddbRetries + 1) (2 ^ 32 - 1))
      ∧ (n ≥ 3 → isActive t 0x05 0x04 = true ∧ t.faults.ddbRetries = s.faults.ddbRetries) := by
  intro t
  have hcountOnly : Outside.faultParts (countFailed d i (heardFrame d x s)) = Outside.faultParts (heardFrame d x s) :=
    onDdb_only _ _ _
  have hcountRetries : (countFailed d i (heardFrame d x s)).faults.ddbRetries = s.faults.ddbRetries :=
    (onDdb_retries _ _ _).trans (heardFrame_retries d x s)
  have hwait := waiting_countFailed (waiting_heardFrame (x := x) h)
  by_cases hn : n < 3
  · have ht : t = sendAgain d f (countFailed d i (heardFrame d x s)) := if_pos hn
    have hend : ddbEnd t d = _ := (congrArg (ddbEnd · d) ht).trans (ddbEnd_sendAgain _ _ _)
    refine ⟨frameHeard_of_end ?_ ?_, fun _ => ⟨?_, ?_, ?_⟩, fun hge => absurd hge (by omega)⟩
    · rw [hend, ddbEnd_countFailed]
      exact ⟨rfl, rfl⟩
    · rw [ht, sendAgain_only, hcountOnly]
    · rw [hend, ddbEnd_countFailed, ddbEnd_heardFrame]
    · rw [hend, hwait]
    · rw [ht, sendAgain_retries, hcountRetries]
      rfl
  · have ht : t = raiseBridge d (countFailed d i (heardFrame d x s)) := if_neg hn
    obtain ⟨hheard, hlast, hretries⟩ := bridgeHears_ddbEnd (raiseBridge_hears d (countFailed d i (heardFrame d x s))) d
    refine ⟨frameHeard_of_end ?_ ?_, fun hlt => absurd hlt hn, fun _ => ⟨?_, ?_⟩⟩
    · rw [ht, hheard, hlast, ddbEnd_countFailed]
      exact ⟨rfl, rfl⟩
    · rw [ht, raiseBridge_only, hcountOnly]
    · rw [ht, raiseBridge_active]
    · rw [ht, hretries, hcountRetries]

/-- The record that failed is sent again whole (R357). -/
theorem nakOfRecord (hruns : ddbRuns s = true) (h : (ddbEnd s d).waiting[i]? = some (f, n)) (hty : ddbType f = 5) :
    let t := recordFailed d i (heardFrame d x s)
    FrameHeard s t d x ∧ t.faults.ddbRetries = min (s.faults.ddbRetries + 1) (2 ^ 32 - 1)
      ∧ (∀ a b c rest before, (ddbEnd s d).waiting = before ++ a :: b :: c :: rest →
          i - bitsOf (ddbPayload f) 54 2 = before.length →
          (ddbEnd t d).sent = (ddbEnd s d).sent ++ [ddbFrame 5 ((ddbEnd s d).seq + 1) (ddbPayload a.1),
            ddbFrame 5 ((ddbEnd s d).seq + 2) (ddbPayload b.1),
            ddbFrame 5 ((ddbEnd s d).seq + 3) (ddbPayload c.1)]) := by
  intro t
  have ht : t = _ := recordFailed_of_waits (waiting_heardFrame (x := x) h) hty
  obtain ⟨hheard, hlast, hretries⟩ := bridgeHears_ddbEnd ((congrArg bridgeHears ht).trans (sendParts_hears _ _ _)) d
  refine ⟨frameHeard_of_end ?_ ?_, ?_, fun a b c rest before hwait hfirst => ?_⟩
  · rw [hheard, hlast, ddbEnd_takeRecord]
    exact ⟨rfl, rfl⟩
  · rw [ht]
    exact (congrArg Outside.faultParts ((sendParts_outside _ _ _).trans (takeRecord_outside _ _ _)) :)
  · rw [hretries, takeRecord_retries, heardFrame_retries]
    rfl
  · have hthree : (((ddbEnd (heardFrame d x s) d).waiting.drop (i - bitsOf (ddbPayload f) 54 2)).take 3).map (·.1)
        = [a.1, b.1, c.1] := by
      rw [ddbEnd_heardFrame, hwait, hfirst, List.drop_left]
      rfl
    rw [hthree] at ht
    have hgo : ddbRuns (takeRecord d (i - bitsOf (ddbPayload f) 54 2) (heardFrame d x s)) = true :=
      (ddbRuns_of_outside ((takeRecord_outside _ _ _).trans (heardFrame_outside _ _ _))).trans hruns
    rw [ht, sendParts_three d a.1 b.1 c.1 hgo, ddbEnd_takeRecord, ddbEnd_heardFrame]

end

/-- Settles O39: each command's frame is judged by its type, and what it does to its end of the bridge is read from the
lemmas above. -/
theorem bridgeFramesAreJudged : Obligations.BridgeFramesAreJudged := by
  unfold Obligations.BridgeFramesAreJudged
  dsimp only
  refine ⟨fun s d x k ty c hc => ?_, fun s d x ⟨hruns, hcrc, hseq, hty⟩ => ?_,
    fun s d x i f n ⟨hruns, hcrc, hseq, hty⟩ hwait => ?_, fun s d x i f n ⟨hruns, hcrc, hseq, hty⟩ hwait hpart => ?_,
    fun s d => ⟨fun h => congrArg Host.Outcome.next (if_neg (by simp [h])), fun h => ?_⟩, fun s => ⟨fun h => ?_, ?_⟩,
    fun s d x hruns hcrc hseq hty => ?_⟩
  case refine_1 =>
    obtain ⟨rfl, rfl⟩ | ⟨hne, hlow, act, hexec, hplain⟩ := ddbCommand_cases hc
    · refine ⟨execIdle_of_idle, fun hruns h => ?_, fun hruns hcrc hseq hty hlt => ?_, fun _ _ _ h => absurd rfl h,
        fun _ h => absurd rfl h⟩
      · rw [execIdle_of_bad hruns h, owesNak_eq d hruns]
      · rw [execIdle_of_followed hruns hcrc hseq, if_pos hty]
    · refine ⟨fun hruns => ?_, fun hruns h => ?_, fun hruns hcrc hseq hty hlt => ?_,
        fun hruns hcrc hseq _ hres => ⟨_, hexec s, ?_⟩, fun ⟨hruns, hcrc, hseq, hty⟩ _ h5 h7 => ⟨_, hexec s, ?_⟩⟩
      · rw [hexec, receiveDdb_of_idle hruns]
      · rw [hexec, receiveDdb_of_bad hruns h, owesNak_eq d hruns]
      · rw [hexec, receiveDdb_of_other hruns hcrc hseq hty hlt]
      · rw [receiveDdb_of_reserved hruns hcrc hseq hres]
        refine ⟨Outside.faults_eq ((onDdb_outside _ _ _).trans (bridgeHeard_outside _)), ?_, bridgeAbsent_onDdb ?_⟩
        · rw [ddbEnd_onDdb, ddbEnd_bridgeHeard]
        · rw [bridgeHeard_eq]
          exact markAbsent_absent _
      · obtain ⟨houtside, habsent, hend⟩ := plainFrame d x s
        subst hty
        rw [receiveDdb_of_accepted hruns hcrc hseq rfl hlow, hplain h5 h7]
        exact ⟨⟨(congrArg DdbEnd.heard hend :), (congrArg DdbEnd.last hend :), onlyFaultParts_of_faults houtside⟩,
          Outside.faults_eq houtside, habsent, (congrArg DdbEnd.waiting hend :), (congrArg DdbEnd.sent hend :),
          (congrArg DdbEnd.parts hend :)⟩
  case refine_2 =>
    obtain ⟨⟨hheard, hlast, honly⟩, houtside, hrest⟩ := partAnswered d x hruns
    refine ⟨_, execDdbWaybill_of_accepted hruns hcrc hseq hty, ⟨hheard, ?_, honly⟩, Outside.faults_eq houtside, hrest⟩
    exact hlast.trans (by rw [hty])
  case refine_3 =>
    obtain ⟨⟨hheard, hlast, honly⟩, hrest⟩ := nakOfFrame (x := x) hwait
    refine ⟨_, (execNak_of_accepted hruns hcrc hseq hty).trans
      (congrArg Host.Outcome.next (frameNak (waiting_heardFrame hwait))), ⟨hheard, ?_, honly⟩, hrest⟩
    rw [hlast, hty]
  case refine_4 =>
    obtain ⟨⟨hheard, hlast, honly⟩, hrest⟩ := nakOfRecord (x := x) hruns hwait hpart
    refine ⟨_, execNak_of_accepted hruns hcrc hseq hty, ⟨hheard, ?_, honly⟩, hrest⟩
    exact hlast.trans (by rw [hty])
  case refine_5 =>
    exact ⟨_, congrArg Host.Outcome.next (if_pos h), ⟨raiseBridge_active d s, onlyFaultParts_of (raiseBridge_only d s)⟩,
      fun hd hact hopen => by subst hd; exact raiseBridge_unacked hact hopen⟩
  case refine_6 =>
    obtain ⟨hset, hcore⟩ := (Bool.and_eq_true _ _).mp h
    exact ⟨h, (Bool.and_eq_true _ _).mpr ⟨hset, by simp [hcore]⟩⟩
  case refine_7 =>
    intro hcore hsupply
    simp [silenceCounts, hcore, hsupply]
  case refine_8 =>
    refine ⟨_, (execIdle_of_followed hruns hcrc hseq).trans (congrArg Host.Outcome.next (if_neg (by simp [hty]))),
      ?_, ?_⟩
    · rw [bridgeHeard_eq]
      rfl
    · rw [bridgeHeard_eq]
      exact markAbsent_absent _

end Sys2Proof.Laws
end

section
/-!
Powering down a domain (R304, R433, R438): the states of the domains, what stands over a power-down, and which kinds
stay active.
-/

namespace Sys2Proof.Laws

open Sys2Proof Sys2Proof.Machine

/-! ## The states of the domains -/

theorem domainState_of_power {s t : State} (h : t.power = s.power) : domainState t = domainState s := by
  funext d
  cases d <;> simp only [domainState, h]

theorem domainState_of_only {s t : State} (h : Outside.faultParts t = Outside.faultParts s) :
    domainState t = domainState s := domainState_of_power (congrArg State.power h :)

theorem isOn_of_domainState {s t : State} (h : domainState t = domainState s) (d) : isOn t d = isOn s d := by
  rw [isOn, isOn, h]

theorem domainState_setDomain {d} (x s) (hd : d ≠ .aon) :
    domainState (setDomain d x s) = Function.update (domainState s) d x := by
  funext e
  cases d <;> cases e <;> simp_all [setDomain, domainState, onPower]

theorem busyRequests_power (s) : (busyRequests s).power = s.power := (congrArg State.power (busyRequests_frame s) :)

theorem dropLink_power (s) : (dropLink s).power = s.power := (congrArg State.power (dropHostLanes_frame s) :)

theorem domainState_dropDomain (d s) : domainState (dropDomain d s) = domainState s := by
  cases d with
  | aon => rfl
  | safe => funext e; cases e <;> rfl
  | core =>
    have hdrop : ∀ t, domainState (dropCore t) = domainState t := fun t => by funext e; cases e <;> rfl
    exact (hdrop _).trans (domainState_of_power (busyRequests_power (sendShadow s)))
  | pix => funext e; cases e <;> rfl
  | link => exact domainState_of_power (dropLink_power s)
  | dram => rfl
  | aux => rfl

theorem clearUnits_only (d s) : Outside.faultParts (clearUnits d s) = Outside.faultParts s :=
  foldl_keeps Outside.faultParts (fun t a => by
    split
    · exact clearCondition_only _ _ _
    · rfl) _ _

theorem isolateUnits_only (d s) : Outside.faultParts (isolateUnits d s) = Outside.faultParts s :=
  (only_faults _ _).trans (clearUnits_only d s)

/-- A domain that goes off waits its minimum off time, and no other changes its state (R438). -/
theorem domainState_powerDown {d} (s) (hd : d ≠ .aon) :
    domainState (powerDown d s) = Function.update (domainState s) d .minOff := by
  rw [powerDown, domainState_of_only (isolateUnits_only _ _), domainState_dropDomain,
    domainState_of_only (closeWrappers_only _ _), domainState_setDomain _ _ hd]

/-- One domain is forced off. -/
def forceOne (s : State) (d : Domain) : State :=
  if domainState s d = .off then s
  else if isOn s d then setDomain d .off (powerDown d s) else setDomain d .off s

theorem forceOff_eq (ds s) : forceOff ds s = ds.foldl forceOne s := rfl

theorem domainState_forceOne {d} (s) (hd : d ≠ .aon) :
    domainState (forceOne s d) = Function.update (domainState s) d .off := by
  unfold forceOne
  split
  · next hoff => rw [← hoff, Function.update_eq_self]
  · split
    · rw [domainState_setDomain _ _ hd, domainState_powerDown _ hd, Function.update_idem]
    · rw [domainState_setDomain _ _ hd]

/-- The domains forced off are off, and no other changes its state (R304, R433). -/
theorem domainState_forceOff {ds : List Domain} (s) (hds : Domain.aon ∉ ds) (d) :
    domainState (forceOff ds s) d = if d ∈ ds then .off else domainState s d := by
  rw [forceOff_eq]
  induction ds generalizing s with
  | nil => simp
  | cons e ds ih =>
    obtain ⟨hne, hrest⟩ := not_or.1 (mt List.mem_cons.2 hds)
    rw [List.foldl_cons, ih _ hrest, domainState_forceOne _ (Ne.symm hne), Function.update_apply]
    by_cases hmem : d ∈ ds
    · rw [if_pos hmem, if_pos (List.mem_cons_of_mem _ hmem)]
    · by_cases heq : d = e
      · rw [if_neg hmem, if_pos heq, if_pos (by simp [heq])]
      · rw [if_neg hmem, if_neg heq, if_neg (by simp [heq, hmem])]

/-! ## The requests that wait for the CP -/

section
variable {α : Type} {view : State → α}

/-- What the packets of the control lane do not touch, and a list of shades that lands does not, stays as it is. -/
theorem dropPackets_view (hhost : ∀ (h : HostPorts) s, h.sbp = s.host.sbp → view { s with host := h } = view s)
    (hmanifest : ∀ m s, view { s with manifest := m } = view s) (hshade : ∀ x s, view { s with shade := x } = view s)
    (hpair : ∀ time dt s, view (noteTimePair time dt s) = view s)
    (hfresh : ∀ s, view (clearCondition 0x0B 0x06 s) = view s) (s) : view (dropPackets s) = view s := by
  have hirq : ∀ bit t, view (setIrq bit t) = view t := fun bit t => hhost _ t rfl
  have honHost : ∀ (f : HostPorts → HostPorts) t, (f t.host).sbp = t.host.sbp → view (onHost f t) = view t :=
    fun f t h => hhost _ t h
  have hshades : ∀ objs t, view (shadeList objs t) = view t := fun objs t => by
    unfold shadeList
    split
    · exact (hirq _ _).trans (hshade _ _)
    · unfold offerList
      split
      · exact hshade _ _
      · exact (hfresh _).trans ((hshade _ _).trans (hshade _ _))
  have hact : ∀ q t, view (actItems q t) = view t := fun q t => by
    fun_induction actItems q t with
    | case1 t q ih =>
      rw [ih, requestCommit]
      split
      · rfl
      · exact hmanifest _ _
    | case2 t objs q ih => rw [ih, hshades]
    | case3 t v dt q ih => rw [ih, hpair]
    | case4 => exact honHost _ _ rfl
  have hdrop : ∀ q t, view (dropItems q t) = view t := fun q t => by
    fun_induction dropItems q t with
    | case1 => rfl
    | case2 t _ _ q ih => exact ih.trans ((hirq _ _).trans (honHost _ _ rfl))
    | case3 t x q _ ih => rw [ih, hact]
  exact (hdrop _ _).trans (honHost _ _ rfl)

theorem busyRequests_view {s} (hanswer : ∀ via write index sub status bs t, (via = .sbp → write = true) →
      view (answer via write index sub status bs t) = view t)
    (hhost : ∀ (h : HostPorts) s, h.sbp = s.host.sbp → view { s with host := h } = view s)
    (hpackets : ∀ t, view (dropPackets t) = view t)
    (hlose : view (loseWrites s) = view s) : view (busyRequests s) = view s :=
  have hanswered : ∀ t h, h.sbp = t.host.sbp → view t = view s → view { t with host := h } = view s :=
    fun t h hsbp ht => (hhost h t hsbp).trans ht
  have hshp : ∀ tag write index sub status bs t, view (answer (.shp tag) write index sub status bs t) = view t :=
    fun _ _ _ _ _ _ t => hanswer _ _ _ _ _ _ t nofun
  have hcan : ∀ bus tag write index sub status bs t,
      view (answer (.can bus tag) write index sub status bs t) = view t :=
    fun _ _ _ _ _ _ _ t => hanswer _ _ _ _ _ _ t nofun
  hanswered _ _ rfl ((foldl_keeps view (fun t _ => hcan _ _ _ _ _ _ _ t) _ _).trans
    ((foldl_keeps view (fun t _ => hshp _ _ _ _ _ _ t) _ _).trans ((hpackets _).trans hlose)))

theorem refuseAll_view (hanswer : ∀ via write index sub status bs t, (via = .sbp → write = true) →
    view (answer via write index sub status bs t) = view t) (status told ws s) :
    view (refuseAll status told ws s) = view s := by
  have hwaiter : ∀ w t, view (answerWaiter w status t) = view t := fun w t => by
    unfold answerWaiter
    split
    · rfl
    · split
      · exact hanswer _ _ _ _ _ _ _ fun _ => rfl
      · rfl
  induction ws generalizing told s with
  | nil => rfl
  | cons w ws ih => rw [refuseAll, ih, apply_ite view, hwaiter, ite_self]

end

/-- What LINK loses beside the host lanes, read by a view that does not see it. -/
theorem dropLink_view {α : Type} (view : State → α) (s) (hhost : ∀ h, view { s with host := h } = view s)
    (hlost : ∀ t a b c d e f (g : Housekeeping), g.thermal = t.hk.thermal → view { t with
      scan := a, link := b, units := c, pixels := d, compose := e, drive := f, hk := g } = view t) :
    view (dropLink s) = view s := by
  have hlanes : view (dropHostLanes s) = view s := by
    rw [Outside.host_eq (dropHostLanes_frame s)]
    exact hhost _
  rw [← hlanes]
  exact hlost (dropHostLanes s) _ _ _ _ _ _ _ rfl

/-! ## What stands over a power-down -/

/-- The parts of the AON that only a fault or the shadow writes are left out. -/
def heldAon (a : Aon) : Aon :=
  { a with
    ring := [], newest := 0, waybillSequence := 0, recoveries := [], commitAllowance := 0, commitSkipped := 0
    shadow := {} }

/-- What no power-down of a voteable domain changes: the AON but for the shadow, the thermal states, and whether the
journal is compacted. -/
def standing (s : State) : Aon × List Thermal × Bool := (heldAon s.aon, s.hk.thermal, s.journal.compacting)

theorem standing_of_only {s t : State} (h : Outside.faultParts t = Outside.faultParts s) : standing t = standing s :=
  (congrArg (fun x : State => standing x) h :)

theorem standing_of_host {s t : State} (h : Outside.host t = Outside.host s) : standing t = standing s :=
  (congrArg (fun x : State => standing x) h :)

theorem quietRecords_standing (s) : standing (quietRecords s) = standing s := rfl

theorem recordRefusal_standing (record index sub status s) :
    standing (recordRefusal record index sub status s) = standing s := by
  rw [recordRefusal, quietRecords_standing]
  exact standing_of_host ((setIrq_frame _ _).trans (setOdStatus_frame _ _ _))

theorem answer_standing (via write index sub status bs s) (_ : via = .sbp → write = true) :
    standing (answer via write index sub status bs s) = standing s := by
  cases via with
  | can bus tag => exact standing_of_host (answerCan_frame _ _ _ _ _ _ _ _)
  | uhl record =>
    rw [answer, apply_ite standing, recordRefusal_standing, ite_self]
  | shp tag | sbp | caravan tag => rfl

theorem busyRequests_standing (s) : standing (busyRequests s) = standing s :=
  busyRequests_view answer_standing (fun _ _ _ => rfl)
    (dropPackets_view (fun _ _ _ => rfl) (fun _ _ => rfl) (fun _ _ => rfl) (fun _ _ _ => rfl)
      fun s => standing_of_only (clearCondition_only _ _ s))
    (refuseAll_view answer_standing _ _ _ s)

theorem dropDomain_standing {d} (s) (hd : d ≠ .safe) : standing (dropDomain d s) = standing s := by
  cases d with
  | aon => rfl
  | safe => exact absurd rfl hd
  | core =>
    have hcore : ∀ u, standing (dropCore u) = standing u := fun _ => rfl
    exact (hcore _).trans (busyRequests_standing (sendShadow s))
  | pix => rfl
  | link => exact dropLink_view standing s (fun _ => rfl) fun t _ _ _ _ _ _ g hg =>
    congrArg (fun x => (heldAon t.aon, x, t.journal.compacting)) hg
  | dram => rfl
  | aux => rfl

theorem powerDown_standing {d} (s) (hd : d ≠ .safe) : standing (powerDown d s) = standing s := by
  rw [powerDown, standing_of_only (isolateUnits_only _ _), dropDomain_standing _ hd,
    standing_of_only (closeWrappers_only _ _)]
  exact (congrArg (fun x : State => standing x) (setDomain_frame d .minOff s) :)

theorem setDomain_standing (d x s) : standing (setDomain d x s) = standing s :=
  (congrArg (fun x : State => standing x) (setDomain_frame d x s) :)

theorem forceOff_standing {ds : List Domain} (s) (hds : Domain.safe ∉ ds) :
    standing (forceOff ds s) = standing s := by
  have hone : ∀ d ≠ Domain.safe, ∀ t, standing (forceOne t d) = standing t := fun d hd t => by
    unfold forceOne
    split
    · rfl
    · split
      · rw [setDomain_standing, powerDown_standing _ hd]
      · exact setDomain_standing _ _ _
  rw [forceOff_eq]
  induction ds generalizing s with
  | nil => rfl
  | cons e ds ih =>
    obtain ⟨hne, hrest⟩ := not_or.1 (mt List.mem_cons.2 hds)
    rw [List.foldl_cons, ih _ hrest, hone e (Ne.symm hne)]

/-! ## Kinds that stay active -/

theorem isActive_markAbsent (k u k' u' s) : isActive (markAbsent k u s) k' u' = isActive s k' u' := by
  simp only [isActive, markAbsent, List.any_map]
  congr 1
  funext a
  simp only [Function.comp_apply]
  split <;> rfl

/-- The end of a condition leaves every kind active that is not its own. -/
theorem isActive_clearCondition_other {k u k' u' : Nat} (s) (h : ¬(k = k' ∧ u = u')) :
    isActive (clearCondition k' u' s) k u = isActive s k u := by
  have habsent : isActive (markAbsent k' u' s) k u = isActive s k u := isActive_markAbsent _ _ _ _ _
  have hexit : isActive (exitKind k' u' s) k u = isActive s k u := by
    unfold exitKind
    split
    · rfl
    · rw [settle_isActive]
      show (List.filter _ s.faults.active).any _ = s.faults.active.any _
      rw [List.any_filter]
      congr 1
      funext a
      have : (a.kind == k && a.unit == u) = true → (a.kind == k' && a.unit == u') = false := by
        simp only [Bool.and_eq_true, beq_iff_eq, Bool.and_eq_false_iff, beq_eq_false_iff_ne]
        omega
      cases hk : (a.kind == k && a.unit == u)
      · simp
      · simp [this hk]
  unfold clearCondition
  split
  · rfl
  · split
    · exact habsent
    · split
      · exact habsent
      · split
        · exact habsent
        · exact hexit
      · exact hexit

theorem isActive_clearUnits {d k u} (s) (h : unitDomain u ≠ d) : isActive (clearUnits d s) k u = isActive s k u :=
  foldl_keeps (isActive · k u) (fun t a => by
    split
    · next hc =>
      refine isActive_clearCondition_other t fun ⟨_, hu⟩ => h ?_
      rw [hu]
      exact eq_of_beq (Bool.and_eq_true _ _ ▸ hc).1
    · rfl) _ _

theorem isActive_answer (k u via write index sub status bs s) (_ : via = .sbp → write = true) :
    isActive (answer via write index sub status bs s) k u = isActive s k u :=
  (congrArg (fun x : State => isActive x k u) (answer_frame via write index sub status bs s) :)

theorem isActive_busyRequests {k u : Nat} (s) (h : ¬(k = 0x0B ∧ u = 0x06)) :
    isActive (busyRequests s) k u = isActive s k u :=
  busyRequests_view (view := (isActive · k u)) (isActive_answer k u) (fun _ _ _ => rfl)
    (dropPackets_view (view := (isActive · k u)) (fun _ _ _ => rfl) (fun _ _ => rfl) (fun _ _ => rfl) (fun _ _ _ => rfl)
      fun s => isActive_clearCondition_other s h)
    (refuseAll_view (view := (isActive · k u)) (isActive_answer k u) _ _ _ s)

/-- A kind of a unit that keeps its power stays active (R441). -/
theorem isActive_powerDown {d k u} (s) (hd : d ≠ .safe) (hu : unitDomain u ≠ d) (hfresh : ¬(k = 0x0B ∧ u = 0x06)) :
    isActive (powerDown d s) k u = isActive s k u := by
  have hset : isActive (setDomain d .minOff s) k u = isActive s k u :=
    (congrArg (fun x : State => isActive x k u) (setDomain_frame d .minOff s) :)
  have hclose : ∀ t closes, isActive (closeWrappers closes t) k u = isActive t k u := fun t closes => by
    simp only [isActive, (Prod.mk.inj (closeWrappers_activity closes t)).1]
  have hdrop : ∀ t, isActive (dropDomain d t) k u = isActive t k u := fun t => by
    cases d with
    | aon => rfl
    | safe => exact absurd rfl hd
    | core =>
      have hcore : ∀ x, isActive (dropCore x) k u = isActive x k u := fun _ => rfl
      exact (hcore _).trans (isActive_busyRequests (sendShadow t) hfresh)
    | pix => rfl
    | link => exact dropLink_view (isActive · k u) t (fun _ => rfl) fun _ _ _ _ _ _ _ _ _ => rfl
    | dram => rfl
    | aux => rfl
  calc isActive (powerDown d s) k u = isActive (clearUnits d _) k u := rfl
    _ = isActive s k u := by rw [isActive_clearUnits _ hu, hdrop, hclose, hset]

/-- A kind of the SAFE domain stays active when domains are forced off (R304, R433). -/
theorem isActive_forceOff {ds : List Domain} {k u} (s) (hds : Domain.safe ∉ ds) (hu : unitDomain u = .safe) :
    isActive (forceOff ds s) k u = isActive s k u := by
  have hset : ∀ d t, isActive (setDomain d .off t) k u = isActive t k u := fun d t =>
    (congrArg (fun x : State => isActive x k u) (setDomain_frame d .off t) :)
  have hfresh : ¬(k = 0x0B ∧ u = 0x06) := fun ⟨_, h⟩ => absurd (h ▸ hu) (by decide)
  have hone : ∀ d ≠ Domain.safe, ∀ t, isActive (forceOne t d) k u = isActive t k u := fun d hd t => by
    unfold forceOne
    split
    · rfl
    · split
      · rw [hset, isActive_powerDown _ hd (hu ▸ hd.symm) hfresh]
      · exact hset _ _
  rw [forceOff_eq]
  induction ds generalizing s with
  | nil => rfl
  | cons e ds ih =>
    obtain ⟨hne, hrest⟩ := not_or.1 (mt List.mem_cons.2 hds)
    rw [List.foldl_cons, ih _ hrest, hone e (Ne.symm hne)]

/-! ## An empty journal queue stays empty -/

/-- No write waits for the journal. -/
def queueEmpty (s : State) : Bool := s.journal.queue.isEmpty

theorem queueEmpty_of_only {s t : State} (h : Outside.faultParts t = Outside.faultParts s) :
    queueEmpty t = queueEmpty s :=
  (congrArg (fun x : State => queueEmpty x) h :)

theorem queueEmpty_of_host {s t : State} (h : Outside.host t = Outside.host s) : queueEmpty t = queueEmpty s :=
  (congrArg (fun x : State => queueEmpty x) h :)

theorem queueEmpty_quietRecords (s) : queueEmpty (quietRecords s) = queueEmpty s := List.isEmpty_map

theorem queueEmpty_answer (via write index sub status bs s) (_ : via = .sbp → write = true) :
    queueEmpty (answer via write index sub status bs s) = queueEmpty s := by
  cases via with
  | can bus tag => exact queueEmpty_of_host (answerCan_frame _ _ _ _ _ _ _ _)
  | uhl record =>
    rw [answer, apply_ite queueEmpty, recordRefusal, queueEmpty_quietRecords,
      queueEmpty_of_host ((setIrq_frame _ _).trans (setOdStatus_frame _ _ _)), ite_self]
  | shp tag | sbp | caravan tag => rfl

theorem queueEmpty_loseWrites {s : State} (h : queueEmpty s = true) : queueEmpty (loseWrites s) = true := by
  have hrefused := (refuseAll_view queueEmpty_answer stBusy false (s.journal.queue.map (·.waiter)) s).trans h
  show (List.filter _ (refuseAll stBusy false (s.journal.queue.map (·.waiter)) s).journal.queue).isEmpty = true
  rw [List.isEmpty_iff.1 hrefused]
  rfl

theorem queueEmpty_powerDown {d} {s : State} (hd : d ≠ .safe) (h : queueEmpty s = true) :
    queueEmpty (powerDown d s) = true := by
  have hdrop : ∀ t, queueEmpty t = true → queueEmpty (dropDomain d t) = true := fun t ht => by
    cases d with
    | aon => exact ht
    | safe => exact absurd rfl hd
    | core =>
      have hcore : ∀ u, queueEmpty (dropCore u) = queueEmpty u := fun _ => rfl
      refine (hcore _).trans ((busyRequests_view queueEmpty_answer
        (fun _ _ _ => rfl) (dropPackets_view (fun _ _ _ => rfl) (fun _ _ => rfl) (fun _ _ => rfl) (fun _ _ _ => rfl)
          fun s => queueEmpty_of_only (clearCondition_only _ _ s)) ?_).trans ht)
      have hshadow : queueEmpty (sendShadow t) = true := ht
      exact (queueEmpty_loseWrites hshadow).trans hshadow.symm
    | pix => exact ht
    | link => exact (dropLink_view queueEmpty t (fun _ => rfl) fun _ _ _ _ _ _ _ _ _ => rfl).trans ht
    | dram => exact ht
    | aux => exact ht
  rw [powerDown, queueEmpty_of_only (isolateUnits_only _ _)]
  refine hdrop _ ((queueEmpty_of_only (closeWrappers_only _ _)).trans ?_)
  exact (congrArg (fun x : State => queueEmpty x) (setDomain_frame d .minOff s) :).trans h

theorem queueEmpty_forceOff {ds : List Domain} {s : State} (hds : Domain.safe ∉ ds) (h : queueEmpty s = true) :
    queueEmpty (forceOff ds s) = true := by
  have hset : ∀ d t, queueEmpty (setDomain d .off t) = queueEmpty t := fun d t =>
    (congrArg (fun x : State => queueEmpty x) (setDomain_frame d .off t) :)
  have hone : ∀ d ≠ Domain.safe, ∀ t, queueEmpty t = true → queueEmpty (forceOne t d) = true := fun d hd t ht => by
    unfold forceOne
    split
    · exact ht
    · split
      · exact (hset _ _).trans (queueEmpty_powerDown hd ht)
      · exact (hset _ _).trans ht
  rw [forceOff_eq]
  induction ds generalizing s with
  | nil => exact h
  | cons e ds ih =>
    obtain ⟨hne, hrest⟩ := not_or.1 (mt List.mem_cons.2 hds)
    exact ih hrest (hone e (Ne.symm hne) s h)

end Sys2Proof.Laws
end

section
/-!
What a raise leaves of the other kinds and of the recoveries (R348, R365).
-/

namespace Sys2Proof.Laws

open Sys2Proof Sys2Proof.Machine

/-! ## The other kinds -/

theorem isActive_noteActive_other {k u k' u' : Nat} (i w s) (h : k ≠ k') :
    isActive (noteActive k' u' i w s) k u = isActive s k u := by
  have hkind : (k' == k) = false := beq_eq_false_iff_ne.2 (Ne.symm h)
  unfold noteActive
  split
  · simp [isActive, hkind]
  · split <;> rfl

/-- A fresh raise makes no other kind active (R348). -/
theorem isActive_raiseFresh_other {k k' : Nat} (u u' i s) (h : k ≠ k') :
    isActive (raiseFresh k' u' i s) k u = isActive s k u := by
  have hsend : ∀ t w, isActive (interruptCp k' u' w t) k u = isActive t k u := fun t w => by
    simp only [isActive, (Prod.mk.inj (interruptCp_activity k' u' w t)).1]
  have hentry : ∀ t w, isActive (raiseEntry k' u' i w t) k u = isActive t k u := fun t w => by
    simp only [isActive, (Prod.mk.inj (raiseEntry_activity k' u' i w t)).1]
  unfold raiseFresh
  dsimp only
  rw [hsend, isActive_noteActive_other _ _ _ h, apply_ite (isActive · k u), hentry, ite_self]
  rfl

theorem isActive_tryCommit_other {k u : Nat} (w s) (h : k ≠ 0x3A) : isActive (tryCommit w s) k u = isActive s k u := by
  unfold tryCommit
  split
  · rw [isActive_raiseFresh_other _ _ _ _ h]
    rfl
  · split <;> rfl

/-- The end of a condition makes no kind active. -/
theorem isActive_clearCondition_le {k u : Nat} (k' u' s) (h : isActive s k u = false) :
    isActive (clearCondition k' u' s) k u = false := by
  by_cases hsame : k = k' ∧ u = u'
  · obtain ⟨rfl, rfl⟩ := hsame
    unfold clearCondition
    rw [show (s.faults.active.find? fun a => a.kind == k && a.unit == u) = none from
      List.find?_eq_none.2 fun a ha => by simpa using List.any_eq_false.1 h a ha]
    exact h
  · rw [isActive_clearCondition_other s hsame, h]

/-! ## The recoveries -/

/-- The recoveries and the latches of the kinds (R365). -/
def recoveries (s : State) : List Recovery := s.aon.recoveries

theorem recoveryOf_of_recoveries {s t : State} (h : recoveries t = recoveries s) (k) :
    recoveryOf t k = recoveryOf s k := by
  unfold recoveryOf
  rw [show t.aon.recoveries = s.aon.recoveries from h]

theorem recoveries_of_aon {s t : State} (h : t.aon = s.aon) : recoveries t = recoveries s :=
  congrArg Aon.recoveries h

theorem writeEntry_recoveries (ad ty w c s) : recoveries (writeEntry ad ty w c s) = recoveries s := rfl

theorem sendWaybill_recoveries (ad reason w s) : recoveries (sendWaybill ad reason w s) = recoveries s := by
  have hcan : ∀ node t, recoveries (canWaybill node w t) = recoveries t := fun node t =>
    recoveries_of_aon (congrArg State.aon (canWaybill_frame node w t) :)
  have hring : ∀ t, recoveries (caravanWaybill w t) = recoveries t := fun t =>
    recoveries_of_aon (congrArg State.aon (caravanWaybill_frame w t) :)
  have hout : ∀ t, recoveries (ddbWaybillOut ad w t) = recoveries t := fun t =>
    recoveries_of_aon (congrArg State.aon (ddbWaybillOut_frame ad w t) :)
  unfold sendWaybill
  simp only [apply_ite recoveries, hcan, hring, writeEntry_recoveries, hout, ite_self]

theorem interruptCp_recoveries (k u w s) : recoveries (interruptCp k u w s) = recoveries s := by
  unfold interruptCp
  split
  · exact sendWaybill_recoveries _ _ _ _
  · split
    · exact sendWaybill_recoveries _ _ _ _
    · rfl

theorem raiseFresh_recoveries (k u i s) : recoveries (raiseFresh k u i s) = recoveries s := by
  have hnote : ∀ w t, recoveries (noteActive k u i w t) = recoveries t := fun w t =>
    recoveries_of_aon (congrArg State.aon (noteActive_frame k u i w t) :)
  have hentry : ∀ w t, recoveries (raiseEntry k u i w t) = recoveries t := fun w t => by
    unfold raiseEntry
    split <;> rfl
  unfold raiseFresh
  dsimp only
  rw [interruptCp_recoveries, hnote, apply_ite recoveries, hentry, ite_self]
  rfl

theorem triggerCommit_recoveries (w s) : recoveries (triggerCommit w s) = recoveries s := by
  unfold triggerCommit tryCommit
  split
  · rfl
  · split
    · exact raiseFresh_recoveries _ _ _ _
    · split <;> rfl

theorem settle_recoveries (s) : recoveries (settle s) = recoveries s :=
  recoveries_of_aon (congrArg State.aon (settle_frame s) :)

/-- A raise is no recovery, and latches nothing (R365). -/
theorem raiseKind_recoveries (k i s) : recoveries (raiseKind k i s) = recoveries s := by
  have hblank : ∀ t, recoveries (blankAgain k t) = recoveries t := fun t =>
    recoveries_of_aon (congrArg State.aon (blankAgain_frame k t) :)
  unfold raiseKind
  dsimp only
  split
  · rfl
  · rw [settle_recoveries, apply_ite recoveries, triggerCommit_recoveries, ite_self, hblank, raiseFresh_recoveries]

theorem exitKind_recoveries (k u s) : recoveries (exitKind k u s) = recoveries s := by
  unfold exitKind
  split
  · rfl
  · rw [settle_recoveries]
    rfl

/-- The end of a condition is no recovery (R365). -/
theorem clearCondition_recoveries (k u s) : recoveries (clearCondition k u s) = recoveries s := by
  unfold clearCondition
  split
  · rfl
  · split
    · rfl
    · split
      · rfl
      · split
        · rfl
        · exact exitKind_recoveries _ _ _
      · exact exitKind_recoveries _ _ _

end Sys2Proof.Laws
end

section
/-!
O18: supplies out of window, the clock fallback and die shutdown force domains off (R15, R303 to R305, R432 to R434).
-/

namespace Sys2Proof.Laws

open Sys2Proof Sys2Proof.Machine

/-! ## Lists -/

theorem nth_modifyAt {α : Type} (d : α) (f : α → α) {xs : List α} {i : Nat} (h : i < xs.length) :
    nth d (modifyAt f i xs) i = f (nth d xs i) := by
  induction xs generalizing i with
  | nil => exact absurd h (by simp)
  | cons x xs ih =>
    cases i with
    | zero => rfl
    | succ i => exact ih (Nat.lt_of_succ_lt_succ h)

theorem lt_length_of_nth {α : Type} {d : α} {xs : List α} {i : Nat} (h : nth d xs i ≠ d) : i < xs.length := by
  by_contra hlen
  exact h (List.getD_eq_default _ _ (not_lt.1 hlen))

/-! ## Supplies -/

theorem supplyOf_onSupply {k s} (f) (h : k < s.power.supplies.length) :
    supplyOf (onSupply k f s) k = f (supplyOf s k) := nth_modifyAt _ f h

theorem supply_exists {k s} (h : (supplyOf s k).beyond ≥ 2) : k < s.power.supplies.length :=
  lt_length_of_nth (d := {}) fun heq => by
    have hzero : (supplyOf s k).beyond = 0 := congrArg SupplyState.beyond heq
    omega

/-- A raise leaves a state that differs in its fault parts alone. -/
theorem raisedOn_of_only {k u : Nat} {b r t : State} (hb : Outside.faultParts b = Outside.faultParts r)
    (ht : Outside.faultParts t = Outside.faultParts r) (hact : isActive t k u = true) : Raised k u b t :=
  ⟨hact, onlyFaultParts_of (ht.trans hb.symm)⟩

theorem execSupplyWarning_raises {s v} (hreset : inReset s = false) (hsafe : isOn s .safe = true)
    (hbeyond : (supplyOf s (supplyNum v)).beyond ≥ 2) (hwarn : (supplyOf s (supplyNum v)).warning = false) :
    exec (.supplyWarning v) s = .next (raiseKind 0x37 { figure := supplyNum v }
      (onSupply (supplyNum v) (fun x => { x with warning := true }) s)) :=
  congrArg Host.Outcome.next (if_pos (by simp [hreset, hsafe, hbeyond, hwarn]))

/-! ## Domains forced off -/

theorem sendShadow_of_core_standing (s) : standing (if isOn s .core then sendShadow s else s) = standing s := by
  rw [apply_ite standing]
  exact ite_self _

theorem freezeVotes_frozen (s) : (freezeVotes s).aon.frozen.isSome = true := by
  unfold freezeVotes
  split
  · next h => rw [h]; rfl
  · rfl

theorem freezeVotes_eq (s) : freezeVotes s = { s with aon := { s.aon with frozen := (freezeVotes s).aon.frozen } } := by
  unfold freezeVotes
  split <;> rfl

/-- The domains but AON and SAFE are off. -/
def Dark (t : State) : Prop := ∀ d, d ≠ .aon → d ≠ .safe → domainState t d = .off

theorem aon_notMem_allOff : Domain.aon ∉ allOff := by decide

theorem safe_notMem_allOff : Domain.safe ∉ allOff := by decide

theorem domainState_settle (s) : domainState (settle s) = domainState s :=
  domainState_of_power (congrArg State.power (settle_frame s) :)

theorem standing_settle (s) : standing (settle s) = standing s := standing_of_only (settle_only s)

/-- A whole shutdown leaves AON and SAFE alone powered (R304, R433). -/
theorem forceOff_dark (s) : Dark (settle (forceOff allOff s)) := by
  intro d haon hsafe
  rw [domainState_settle, domainState_forceOff _ aon_notMem_allOff, if_pos]
  cases d <;> simp_all [allOff]

theorem isOn_forceOff_safe {ds : List Domain} (s) (haon : Domain.aon ∉ ds) (hsafe : Domain.safe ∉ ds) :
    isOn (settle (forceOff ds s)) .safe = isOn s .safe := by
  rw [isOn, domainState_settle, domainState_forceOff _ haon, if_neg hsafe, isOn]

theorem standing_forced {ds : List Domain} (s) (hsafe : Domain.safe ∉ ds) :
    standing (settle (forceOff ds s)) = standing s := by
  rw [standing_settle, forceOff_standing _ hsafe]

theorem isActive_forced {ds : List Domain} {k u : Nat} (s) (hsafe : Domain.safe ∉ ds) (hu : unitDomain u = .safe) :
    isActive (settle (forceOff ds s)) k u = isActive s k u := by
  rw [settle_isActive, isActive_forceOff _ hsafe hu]

end Sys2Proof.Laws
end

section
/-!
O18: the commands, and the assembly.
-/

namespace Sys2Proof.Laws

open Sys2Proof Sys2Proof.Machine

/-! ## A supply out of its window -/

theorem execSupplyOutOfWindow_waits {s v} (hreset : inReset s = false) (hwaits : coreWaits s (supplyNum v) = true) :
    exec (.supplyOutOfWindow v) s = .next (onSupply (supplyNum v) (fun x => { x with low := true, inside := 0 }) s) :=
  congrArg Host.Outcome.next ((if_neg (by simp [hreset])).trans (if_pos hwaits))

theorem execSupplyOutOfWindow_forces {s v} (hreset : inReset s = false) (hsafe : isOn s .safe = true)
    (hwaits : coreWaits s (supplyNum v) = false) (hv : v ≠ .vdd2 ∧ v ≠ .vddq) :
    exec (.supplyOutOfWindow v) s = .next (settle (forceSupply (supplyNum v) s)) := by
  refine congrArg Host.Outcome.next ((if_neg (by simp [hreset])).trans ((if_neg (by simp [hwaits])).trans
    ((if_neg (by simp [hsafe])).trans ?_)))
  obtain ⟨h2, hq⟩ := hv
  cases v with
  | vdd2 => exact absurd rfl h2
  | vddq => exact absurd rfl hq
  | adVin | vddCore | vddPll | vddaLane => rfl

theorem execSupplyOutOfWindow_dram {s v} (hreset : inReset s = false) (hsafe : isOn s .safe = true)
    (hdram : isOn s .dram = true) (hv : v = .vdd2 ∨ v = .vddq) :
    exec (.supplyOutOfWindow v) s = .next (failDram s) := by
  have hwaits : coreWaits s (supplyNum v) = false := by
    obtain rfl | rfl := hv <;> simp [coreWaits, supplyNum]
  refine congrArg Host.Outcome.next ((if_neg (by simp [hreset])).trans ((if_neg (by simp [hwaits])).trans
    ((if_neg (by simp [hsafe])).trans ?_)))
  obtain rfl | rfl := hv <;> exact if_pos hdram

/-- The votes are frozen and kind 0x38 raised for supply `k`. -/
def supplyRaised (k : Nat) (s : State) : State :=
  raiseKind 0x38 { figure := k } (freezeVotes (onSupply k (fun x => { x with outside := true, inside := 0 }) s))

/-- The state in which the domains are forced off for supply `k`. -/
def supplyCut (k : Nat) (s : State) : State :=
  let s1 := if isOn s .core then sendShadow s else s
  let s2 := if k = 0 then cutRunning s1 else s1
  { s2 with aon := { s2.aon with supplyOff := true } }

theorem forceSupply_eq {k} (s) (hk : k ≠ 3) : forceSupply k s = forceOff allOff (supplyCut k (supplyRaised k s)) :=
  if_neg hk

theorem supplyRaised_frozen (k s) : (supplyRaised k s).aon.frozen.isSome = true := by
  have hraise : (supplyRaised k s).aon.frozen = _ := (congrArg (fun x : State => x.aon.frozen) (raiseKind_only _ _ _) :)
  rw [hraise]
  exact freezeVotes_frozen _

theorem supplyRaised_power_safe (k s) : isOn (supplyRaised k s) .safe = isOn s .safe := by
  rw [supplyRaised, isOn_of_domainState (domainState_of_only (raiseKind_only _ _ _)), freezeVotes_eq]
  rfl

theorem supplyRaised_journal (k s) : (supplyRaised k s).journal.scanned = s.journal.scanned
    ∧ (supplyRaised k s).journal.queue = s.journal.queue
    ∧ (supplyRaised k s).journal.compacting = s.journal.compacting := by
  have hfreeze :
      (freezeVotes (onSupply k (fun x => { x with outside := true, inside := 0 }) s)).journal = s.journal := by
    rw [freezeVotes_eq]
    rfl
  have hraise := raiseKind_only 0x38 { figure := k }
    (freezeVotes (onSupply k (fun x => { x with outside := true, inside := 0 }) s))
  exact ⟨(congrArg (fun x : State => x.journal.scanned) hraise :).trans (congrArg Journal.scanned hfreeze :),
    (congrArg (fun x : State => x.journal.queue) hraise :).trans (congrArg Journal.queue hfreeze :),
    (congrArg (fun x : State => x.journal.compacting) hraise :).trans (congrArg Journal.compacting hfreeze :)⟩

theorem cutRunning_aon (s) : (cutRunning s).aon = s.aon := (congrArg State.aon (cutRunning_frame s) :)

theorem cutRunning_power (s) : (cutRunning s).power = s.power := (congrArg State.power (cutRunning_frame s) :)

theorem cutRunning_faults (s) : (cutRunning s).faults = s.faults := (congrArg State.faults (cutRunning_frame s) :)

/-- A cut of a running write tears it, and the bank is compacted again (R493). -/
theorem cutRunning_journal (s) : (cutRunning s).journal.queue = [] ∧ (cutRunning s).journal.compacting
    = (s.journal.scanned && (!s.journal.queue.isEmpty || s.journal.compacting)) := by
  refine ⟨rfl, ?_⟩
  show (s.journal.scanned && (s.journal.scanned && !s.journal.queue.isEmpty || s.journal.compacting)) = _
  cases s.journal.scanned <;> rfl

theorem supplyCut_eq (k s) : (supplyCut k s).aon.frozen = s.aon.frozen ∧ (supplyCut k s).aon.supplyOff = true
    ∧ (supplyCut k s).power = s.power ∧ (supplyCut k s).faults = s.faults := by
  unfold supplyCut
  dsimp only
  have hshadow : (if isOn s .core then sendShadow s else s).aon.frozen = s.aon.frozen
      ∧ (if isOn s .core then sendShadow s else s).power = s.power
      ∧ (if isOn s .core then sendShadow s else s).faults = s.faults := by
    split <;> exact ⟨rfl, rfl, rfl⟩
  obtain ⟨hfrozen, hpower, hfaults⟩ := hshadow
  split
  · rw [cutRunning_aon, cutRunning_power, cutRunning_faults]
    exact ⟨hfrozen, rfl, hpower, hfaults⟩
  · exact ⟨hfrozen, rfl, hpower, hfaults⟩

theorem standing_aon {s t : State} (h : standing t = standing s) : heldAon t.aon = heldAon s.aon := congrArg Prod.fst h

/-- What a supply out of its window leaves (R433). -/
theorem supplyForces {s k} (hsafe : isOn s .safe = true) (hk : k ≠ 3) :
    let t := settle (forceSupply k s)
    Dark t ∧ isOn t .safe = true ∧ t.aon.frozen.isSome = true ∧ t.aon.supplyOff = true
      ∧ isActive t 0x38 0x15 = true := by
  intro t
  have ht : t = settle (forceOff allOff (supplyCut k (supplyRaised k s))) := congrArg settle (forceSupply_eq s hk)
  obtain ⟨hfrozen, hoff, hpower, hfaults⟩ := supplyCut_eq k (supplyRaised k s)
  have hstand : standing t = _ := (congrArg standing ht).trans (standing_forced _ safe_notMem_allOff)
  have hheld := standing_aon hstand
  refine ⟨ht ▸ forceOff_dark _, ?_, ?_, ?_, ?_⟩
  · rw [ht, isOn_forceOff_safe _ aon_notMem_allOff safe_notMem_allOff,
      isOn_of_domainState (domainState_of_power hpower), supplyRaised_power_safe, hsafe]
  · rw [show t.aon.frozen = _ from (congrArg Aon.frozen hheld :)]
    exact (congrArg Option.isSome hfrozen).trans (supplyRaised_frozen k s)
  · exact (congrArg Aon.supplyOff hheld :).trans hoff
  · rw [ht, isActive_forced _ safe_notMem_allOff rfl, isActive, hfaults]
    exact raiseKind_active 0x38 { figure := k } _ rfl

theorem standing_compacting {s t : State} (h : standing t = standing s) :
    t.journal.compacting = s.journal.compacting := congrArg (fun x => x.2.2) h

theorem supplyCut_zero_journal (s) : (supplyCut 0 s).journal.queue = [] ∧ (supplyCut 0 s).journal.compacting
    = (s.journal.scanned && (!s.journal.queue.isEmpty || s.journal.compacting)) := by
  have hshadow : (if isOn s .core then sendShadow s else s).journal = s.journal := by split <;> rfl
  rw [← hshadow]
  exact cutRunning_journal _

/-- AD VIN out of its window cuts the writes of the journal (R493). -/
theorem supplyForces_cuts (s) :
    let t := settle (forceSupply 0 s)
    t.journal.queue = [] ∧ t.journal.compacting
      = (s.journal.scanned && (!s.journal.queue.isEmpty || s.journal.compacting)) := by
  intro t
  have ht : t = settle (forceOff allOff (supplyCut 0 (supplyRaised 0 s))) :=
    congrArg settle (forceSupply_eq s (by decide))
  obtain ⟨hqueue, hcompacting⟩ := supplyCut_zero_journal (supplyRaised 0 s)
  obtain ⟨hscanned, hwrites, hcompact⟩ := supplyRaised_journal 0 s
  have hempty : queueEmpty (supplyCut 0 (supplyRaised 0 s)) = true := congrArg List.isEmpty hqueue
  rw [ht]
  refine ⟨List.isEmpty_iff.1 ((queueEmpty_of_only (settle_only _)).trans
    (queueEmpty_forceOff safe_notMem_allOff hempty)), ?_⟩
  rw [standing_compacting (standing_forced _ safe_notMem_allOff), hcompacting, hscanned, hwrites, hcompact]

/-- VDDA_LANE out of its window forces LINK off alone (R433). -/
theorem laneForces (s) :
    let t := settle (forceSupply 3 s)
    domainState t .link = .off ∧ (∀ d, d ≠ .link → domainState t d = domainState s d)
      ∧ t.aon.frozen = s.aon.frozen ∧ t.aon.laneOff.isSome = true ∧ isActive t 0x38 0x15 = true := by
  intro t
  have hraise := raiseKind_only 0x38 { figure := 3 } (onSupply 3 (fun x => { x with outside := true, inside := 0 }) s)
  have hdomains : domainState t = fun d => if d ∈ [Domain.link] then .off else domainState s d := by
    funext d
    have hcut : domainState t d = _ := (congrFun (domainState_settle _) d).trans
      (domainState_forceOff _ (by decide) d)
    rw [hcut]
    exact congrArg (fun x => if d ∈ [Domain.link] then DomainState.off else x)
      (congrFun ((domainState_of_only hraise).trans (domainState_of_power rfl : _ = domainState s)) d)
  have hheld : heldAon t.aon = _ := standing_aon (standing_forced _ (by decide))
  refine ⟨?_, fun d hd => ?_, ?_, ?_, ?_⟩
  · rw [hdomains]
    rfl
  · rw [hdomains]
    exact if_neg (by simp [hd])
  · exact (congrArg Aon.frozen hheld :).trans (congrArg (fun x : State => x.aon.frozen) hraise :)
  · rw [show t.aon.laneOff = _ from (congrArg Aon.laneOff hheld :)]
    rfl
  · exact (isActive_forced _ (by decide) rfl).trans (raiseKind_active 0x38 { figure := 3 } _ rfl)

end Sys2Proof.Laws
end

section
/-!
O18: the shutdown and the restart of a die (R303 to R305).
-/

namespace Sys2Proof.Laws

open Sys2Proof Sys2Proof.Machine

/-! ## The shutdown of a die -/

theorem raiseShutdown_only (i s) : Outside.faultParts (raiseShutdown i s) = Outside.faultParts s := by
  unfold raiseShutdown
  split
  · rw [triggerCommit_only, raiseKind_only]
  · rw [raiseKind_only]

theorem raiseShutdown_active (i s) : isActive (raiseShutdown i s) 0x2F 0x13 = true := by
  have hraise : isActive (raiseKind 0x2F i s) 0x2F 0x13 = true := raiseKind_active 0x2F i s rfl
  unfold raiseShutdown
  split
  · exact triggerCommit_keeps_active _ _ _ _ hraise
  · exact hraise

/-- The votes are frozen, and the die counts as shut down (R304). -/
def dieFrozen (die : Die) (s : State) : State :=
  let s1 := freezeVotes (onHk (fun h => { h with
    thermal := modifyAt (fun _ => Thermal.shutdown) (dieIndex die) h.thermal
    hot := modifyAt (fun _ => 0) (dieIndex die) h.hot }) s)
  { s1 with aon := { s1.aon with
    thermalShutdownCount := count32 s1.aon.thermalShutdownCount
    ldShutdown := s1.aon.ldShutdown || die == .ld
    adShutdown := s1.aon.adShutdown || die == .ad } }

/-- The shadow is sent where CORE runs, and kind 0x2F is raised (R304). -/
def dieRaised (i : RaiseInfo) (s : State) : State := raiseShutdown i (if isOn s .core then sendShadow s else s)

theorem execDieShutdown_shuts {s die} (hreset : inReset s = false) (hsafe : isOn s .safe = true)
    (hstate : nth .normal s.hk.thermal (dieIndex die) ≠ .shutdown) (hhot : nth 0 s.hk.hot (dieIndex die) ≥ 2) :
    ∃ i, exec (.dieShutdownDecision die) s
      = .next (settle (forceOff allOff (cutRunning (dieRaised i (dieFrozen die s))))) := by
  refine ⟨_, congrArg Host.Outcome.next (if_neg ?_)⟩
  simp [hreset, hsafe, hstate]
  omega

theorem dieRaised_standing (i s) : standing (dieRaised i s) = standing s := by
  rw [dieRaised, standing_of_only (raiseShutdown_only _ _), sendShadow_of_core_standing]

theorem dieRaised_domains (i s) : domainState (dieRaised i s) = domainState s := by
  rw [dieRaised, domainState_of_only (raiseShutdown_only _ _)]
  split <;> rfl

theorem dieFrozen_domains (die s) : domainState (dieFrozen die s) = domainState s :=
  domainState_of_power (congrArg State.power (freezeVotes_frame _) :)

theorem dieFrozen_thermal {die s} (h : dieIndex die < s.hk.thermal.length) :
    nth .normal (dieFrozen die s).hk.thermal (dieIndex die) = .shutdown := by
  have hhk : (dieFrozen die s).hk = _ := (congrArg State.hk (freezeVotes_frame _) :)
  rw [hhk]
  exact nth_modifyAt _ _ h

theorem dieFrozen_count (die s) :
    (dieFrozen die s).aon.thermalShutdownCount = min (s.aon.thermalShutdownCount + 1) (2 ^ 32 - 1) := by
  unfold dieFrozen
  rw [freezeVotes_eq]
  rfl

/-- What standing keeps of the AON. -/
theorem standing_fields {s t : State} (h : standing t = standing s) : t.aon.frozen = s.aon.frozen
    ∧ t.aon.ldShutdown = s.aon.ldShutdown ∧ t.aon.adShutdown = s.aon.adShutdown ∧ t.aon.supplyOff = s.aon.supplyOff
    ∧ t.aon.thermalShutdownCount = s.aon.thermalShutdownCount ∧ t.hk.thermal = s.hk.thermal :=
  have hheld := standing_aon h
  ⟨(congrArg Aon.frozen hheld :), (congrArg Aon.ldShutdown hheld :), (congrArg Aon.adShutdown hheld :),
    (congrArg Aon.supplyOff hheld :), (congrArg Aon.thermalShutdownCount hheld :), congrArg (fun x => x.2.1) h⟩

theorem cutRunning_hk (s) : (cutRunning s).hk = s.hk := (congrArg State.hk (cutRunning_frame s) :)

/-- What the shutdown of a die leaves (R303, R304). -/
theorem dieShuts {s die} (i) (hsafe : isOn s .safe = true) (hlen : dieIndex die < s.hk.thermal.length) :
    let t := settle (forceOff allOff (cutRunning (dieRaised i (dieFrozen die s))))
    Dark t ∧ isOn t .safe = true ∧ t.aon.frozen.isSome = true ∧ isActive t 0x2F 0x13 = true
      ∧ nth .normal t.hk.thermal (dieIndex die) = .shutdown
      ∧ (die = .ld → t.aon.ldShutdown = true) ∧ (die = .ad → t.aon.adShutdown = true)
      ∧ t.aon.thermalShutdownCount = min (s.aon.thermalShutdownCount + 1) (2 ^ 32 - 1) := by
  intro t
  have hforced : standing t = standing (cutRunning (dieRaised i (dieFrozen die s))) :=
    standing_forced _ safe_notMem_allOff
  obtain ⟨hfrozen, hld, had, -, hcount, hthermal⟩ := standing_fields hforced
  rw [cutRunning_aon] at hfrozen hld had hcount
  rw [cutRunning_hk] at hthermal
  obtain ⟨hfrozen', hld', had', -, hcount', hthermal'⟩ := standing_fields (dieRaised_standing i (dieFrozen die s))
  refine ⟨forceOff_dark _, ?_, ?_, ?_, ?_, fun hdie => ?_, fun hdie => ?_, ?_⟩
  · rw [isOn_forceOff_safe _ aon_notMem_allOff safe_notMem_allOff,
      isOn_of_domainState (domainState_of_power (cutRunning_power _)), isOn_of_domainState (dieRaised_domains _ _),
      isOn_of_domainState (dieFrozen_domains _ _), hsafe]
  · rw [hfrozen, hfrozen']
    exact freezeVotes_frozen _
  · rw [isActive_forced _ safe_notMem_allOff rfl, isActive, cutRunning_faults]
    exact raiseShutdown_active _ _
  · rw [hthermal, hthermal', dieFrozen_thermal hlen]
  · rw [hld, hld', hdie]
    exact Bool.or_true _
  · rw [had, had', hdie]
    exact Bool.or_true _
  · rw [hcount, hcount', dieFrozen_count]

/-! ## The restart of a die -/

theorem enterThermal_only (l x s) :
    Outside.faultParts (enterThermal l x s) = Outside.faultParts (putThermal l x s) := by
  have hthrottle : ∀ t, Outside.faultParts (settleThrottle t) = Outside.faultParts t := fun t => by
    unfold settleThrottle
    split
    · rfl
    · exact clearCondition_only _ _ _
  unfold enterThermal
  dsimp only
  rw [hthrottle]
  split
  · exact raiseKind_only _ _ _
  · exact raiseKind_only _ _ _
  · rfl

theorem enterThermal_recoveries (l x s) : recoveries (enterThermal l x s) = recoveries s := by
  have hthrottle : ∀ t, recoveries (settleThrottle t) = recoveries t := fun t => by
    unfold settleThrottle
    split
    · rfl
    · exact clearCondition_recoveries _ _ _
  unfold enterThermal
  dsimp only
  rw [hthrottle]
  split
  · exact raiseKind_recoveries _ _ _
  · exact raiseKind_recoveries _ _ _
  · rfl

/-- The die is in the state that its temperature implies (R305). -/
def dieImplied (die : Die) (s : State) : State :=
  enterThermal (.die die) (impliedState (thresholdsOf s (.die die)) (comparedValue s (.die die)))
    (onHk (fun h => { h with cool := modifyAt (fun _ => 0) (dieIndex die) h.cool }) s)

/-- The die no longer counts as shut down (R305). -/
def dieCooled (die : Die) (s : State) : State :=
  { dieImplied die s with aon := { (dieImplied die s).aon with
    ldShutdown := (dieImplied die s).aon.ldShutdown && die != .ld
    adShutdown := (dieImplied die s).aon.adShutdown && die != .ad } }

/-- With no die shut down any more kind 0x2F recovers, and the votes come back (R305). -/
def dieReturns (s : State) : State :=
  if s.aon.ldShutdown || s.aon.adShutdown then s
  else if isLatched (recoverKind 0x2F 0x13 s) 0x2F || (recoverKind 0x2F 0x13 s).aon.supplyOff then
    recoverKind 0x2F 0x13 s
  else thaw 3 (recoverKind 0x2F 0x13 s)

theorem execDieRestart_restarts {s die} (hreset : inReset s = false)
    (hstate : nth .normal s.hk.thermal (dieIndex die) = .shutdown) (hcool : nth 0 s.hk.cool (dieIndex die) ≥ 2)
    (hlatch : isLatched s 0x2F = false) : exec (.dieRestart die) s = .next (dieReturns (dieCooled die s)) := by
  refine congrArg Host.Outcome.next (if_neg ?_)
  simp [hreset, hstate, hlatch]
  omega

theorem dieImplied_only (die s) : Outside.faultParts (dieImplied die s) = Outside.faultParts { s with
    hk := (dieImplied die s).hk } := by
  have hthermal := enterThermal_only (.die die) (impliedState (thresholdsOf s (.die die)) (comparedValue s (.die die)))
    (onHk (fun h => { h with cool := modifyAt (fun _ => 0) (dieIndex die) h.cool }) s)
  have hhk : (dieImplied die s).hk = _ := (congrArg State.hk hthermal :)
  rw [hhk]
  exact hthermal

theorem dieCooled_flags (die s) : (dieCooled die s).aon.ldShutdown = (s.aon.ldShutdown && die != .ld)
    ∧ (dieCooled die s).aon.adShutdown = (s.aon.adShutdown && die != .ad)
    ∧ (dieCooled die s).aon.supplyOff = s.aon.supplyOff := by
  have honly := dieImplied_only die s
  have hld : (dieImplied die s).aon.ldShutdown = s.aon.ldShutdown :=
    (congrArg (fun x : State => x.aon.ldShutdown) honly :)
  have had : (dieImplied die s).aon.adShutdown = s.aon.adShutdown :=
    (congrArg (fun x : State => x.aon.adShutdown) honly :)
  exact ⟨congrArg (· && die != .ld) hld, congrArg (· && die != .ad) had,
    (congrArg (fun x : State => x.aon.supplyOff) honly :)⟩

theorem nowUs_of_only {s t : State} (h : Outside.faultParts t = Outside.faultParts s) : nowUs t = nowUs s :=
  (congrArg (fun x : State => nowUs x) h :)

theorem nowUs_flags (ld ad) (s : State) :
    nowUs { s with aon := { s.aon with ldShutdown := ld, adShutdown := ad } } = nowUs s := rfl

theorem dieCooled_now (die s) : nowUs (dieCooled die s) = nowUs s :=
  (nowUs_flags _ _ _).trans ((nowUs_of_only (dieImplied_only die s)).trans rfl)

theorem dieCooled_recovery (die s k) : recoveryOf (dieCooled die s) k = recoveryOf s k :=
  recoveryOf_of_recoveries (enterThermal_recoveries (.die die)
    (impliedState (thresholdsOf s (.die die)) (comparedValue s (.die die)))
    (onHk (fun h => { h with cool := modifyAt (fun _ => 0) (dieIndex die) h.cool }) s)) k

/-! ### The end of a kind by its recovery -/

theorem recoveryOf_putRecovery (r s) : recoveryOf (putRecovery r s) r.kind = r := by
  simp [recoveryOf, putRecovery]

theorem recoveryOf_kind (s k) : (recoveryOf s k).kind = k := by
  unfold recoveryOf
  cases h : s.aon.recoveries.find? fun r => r.kind == k with
  | none => rfl
  | some r => exact eq_of_beq (List.find?_some (p := fun r : Recovery => r.kind == k) h)

/-- A recovery that is not the eighth ends its kind and latches nothing (R365). -/
theorem recoverKind_ends {k u : Nat} {s : State} (hlatch : isLatched s k = false)
    (hearly : isEighthRecovery (nowUs s) (recoveryOf s k).times = false) :
    isActive (recoverKind k u s) k u = false ∧ isLatched (recoverKind k u s) k = false := by
  unfold recoverKind
  split
  · next hnone =>
    refine ⟨List.any_eq_false.2 fun a ha => ?_, hlatch⟩
    simpa using List.find?_eq_none.1 hnone a ha
  · rw [if_neg (by simp [hearly])]
    refine ⟨isActive_exitKind _ _ _, ?_⟩
    rw [isLatched, recoveryOf_of_recoveries (exitKind_recoveries _ _ _)]
    have hput := recoveryOf_putRecovery { recoveryOf s k with
      count := satAdd 16 (recoveryOf s k).count 1, times := pushRecovery (nowUs s) (recoveryOf s k).times } s
    rw [show ({ recoveryOf s k with
      count := satAdd 16 (recoveryOf s k).count 1
      times := pushRecovery (nowUs s) (recoveryOf s k).times } : Recovery).kind = k from recoveryOf_kind s k] at hput
    rw [hput]
    exact hlatch

/-! ### The frozen votes come back -/

/-- The votes frozen, and the dies shut down. -/
def shutdowns (s : State) : Option Votes × Bool × Bool := (s.aon.frozen, s.aon.ldShutdown, s.aon.adShutdown)

theorem shutdowns_of_only {s t : State} (h : Outside.faultParts t = Outside.faultParts s) :
    shutdowns t = shutdowns s := (congrArg (fun x : State => shutdowns x) h :)

theorem shutdowns_of_standing {s t : State} (h : standing t = standing s) : shutdowns t = shutdowns s := by
  obtain ⟨hfrozen, hld, had, -⟩ := standing_fields h
  rw [shutdowns, hfrozen, hld, had, shutdowns]

theorem powerUpVoted_shutdowns (s) : shutdowns (powerUpVoted s) = shutdowns s :=
  (congrArg (fun x : State => shutdowns x) (powerUpVoted_frame s) :)

theorem finishCommit_shutdowns (s) : shutdowns (finishCommit s) = shutdowns s := by
  have hfill : ∀ t, shutdowns (checkFill t) = shutdowns t := fun t => by
    unfold checkFill
    split <;> rfl
  have hfurther : ∀ t, shutdowns (furtherCommit t) = shutdowns t := fun t => by
    unfold furtherCommit
    split
    · rfl
    · exact (shutdowns_of_only (tryCommit_only _ _)).trans rfl
  have happend : ∀ r n t, shutdowns (appendRecord r n t) = shutdowns t := fun r n t =>
    (congrArg (fun x : State => shutdowns x) (putActiveBank_frame _ t) :)
  unfold finishCommit
  split
  · unfold endCommit
    dsimp only
    rw [hfurther, hfill, if_pos rfl, shutdowns_of_only (commitEntry_only _ _ _)]
    exact (happend _ _ _).trans rfl
  · rfl

theorem isActive_finishCommit {k u : Nat} (s) (h : k ≠ 0x3A) : isActive (finishCommit s) k u = isActive s k u := by
  have hfill : ∀ t, isActive (checkFill t) k u = isActive t k u := fun t => by
    unfold checkFill
    split <;> rfl
  have hfurther : ∀ t, isActive (furtherCommit t) k u = isActive t k u := fun t => by
    unfold furtherCommit
    split
    · rfl
    · exact (isActive_tryCommit_other _ _ h).trans rfl
  have happend : ∀ r n t, isActive (appendRecord r n t) k u = isActive t k u := fun r n t =>
    (congrArg (fun x : State => isActive x k u) (putActiveBank_frame _ t) :)
  have hentry : ∀ w n t, isActive (commitEntry w n t) k u = isActive t k u := fun _ _ _ => rfl
  unfold finishCommit
  split
  · unfold endCommit
    dsimp only
    rw [hfurther, hfill, if_pos rfl, hentry, happend]
    rfl
  · rfl

theorem isActive_clearUnits_le {k u : Nat} (d) {s : State} (h : isActive s k u = false) :
    isActive (clearUnits d s) k u = false := by
  unfold clearUnits
  generalize s.faults.active = kinds
  induction kinds generalizing s with
  | nil => exact h
  | cons a kinds ih =>
    refine ih ?_
    dsimp only
    split
    · exact isActive_clearCondition_le _ _ _ h
    · exact h

/-- One domain is switched off on the way into Stop (R444). -/
def stopOne (s : State) (d : Domain) : State :=
  if isOn s d then setDomain d .off (quiesce d s) else setDomain d .off s

theorem quiesce_standing {d} (s) (hd : d ≠ .safe) : standing (quiesce d s) = standing s := by
  rw [quiesce, powerDown_standing _ hd, apply_ite standing]
  exact ite_self _

theorem stopOne_standing {d} (s) (hd : d ≠ .safe) : standing (stopOne s d) = standing s := by
  unfold stopOne
  split
  · rw [setDomain_standing, quiesce_standing _ hd]
  · exact setDomain_standing _ _ _

theorem isActive_stopOne {d k u} (s) (hd : d ≠ .safe) (hu : unitDomain u = .safe) :
    isActive (stopOne s d) k u = isActive s k u := by
  have hset : ∀ t, isActive (setDomain d .off t) k u = isActive t k u := fun t =>
    (congrArg (fun x : State => isActive x k u) (setDomain_frame d .off t) :)
  have hfresh : ¬(k = 0x0B ∧ u = 0x06) := fun ⟨_, h⟩ => absurd (h ▸ hu) (by decide)
  unfold stopOne
  split
  · rw [hset, quiesce, isActive_powerDown _ hd (hu ▸ hd.symm) hfresh]
    split <;> rfl
  · exact hset _

/-- The state in which every voteable domain is off on the way into Stop, and commits under way are complete (R444). -/
def stopQuiet (s : State) : State :=
  finishCommit (finishCommit (allOff.foldl stopOne { s with aon := { s.aon with leapWrapped := false } }))

/-- SAFE is switched off, and the SM keeps its context (R444). -/
def stopDone (s : State) : State :=
  let s3 := isolateUnits .safe (setDomain .safe .off (dropSafe s))
  { s3 with aon := { s3.aon with smContext := true, stopEntryCount := count32 s3.aon.stopEntryCount } }

theorem enterStop_eq (s) : enterStop s = stopDone (stopQuiet s) := by
  have hone : stopOne = fun s d => if isOn s d then setDomain d .off (quiesce d s) else setDomain d .off s := rfl
  unfold enterStop stopDone stopQuiet
  rw [hone]

theorem stopDone_shutdowns (s) : shutdowns (stopDone s) = shutdowns s := by
  have hset : ∀ t, shutdowns (setDomain .safe .off t) = shutdowns t := fun t => rfl
  have hdrop : ∀ t, shutdowns (dropSafe t) = shutdowns t := fun t => rfl
  refine Eq.trans (b := shutdowns (isolateUnits .safe (setDomain .safe .off (dropSafe s)))) rfl ?_
  rw [shutdowns_of_only (isolateUnits_only _ _), hset, hdrop]

theorem isActive_stopDone {k u : Nat} {s : State} (h : isActive s k u = false) : isActive (stopDone s) k u = false := by
  have hdrop : ∀ t, isActive (setDomain .safe .off (dropSafe t)) k u = isActive t k u := fun t => rfl
  refine Eq.trans (b := isActive (clearUnits .safe (setDomain .safe .off (dropSafe s))) k u) rfl ?_
  exact isActive_clearUnits_le _ ((hdrop s).trans h)

theorem stopQuiet_shutdowns (s) : shutdowns (stopQuiet s) = shutdowns s := by
  have hone : ∀ d ∈ allOff, ∀ t, shutdowns (stopOne t d) = shutdowns t := fun d hd t =>
    shutdowns_of_standing (stopOne_standing t fun h => safe_notMem_allOff (h ▸ hd))
  rw [stopQuiet, finishCommit_shutdowns, finishCommit_shutdowns]
  simp only [allOff, List.foldl_cons, List.foldl_nil, hone .core (by decide), hone .pix (by decide),
    hone .link (by decide), hone .dram (by decide), hone .aux (by decide)]
  rfl

theorem isActive_stopQuiet {k u : Nat} (s) (hk : k ≠ 0x3A) (hu : unitDomain u = .safe) :
    isActive (stopQuiet s) k u = isActive s k u := by
  have hone : ∀ d ∈ allOff, ∀ t, isActive (stopOne t d) k u = isActive t k u := fun d hd t =>
    isActive_stopOne t (fun h => safe_notMem_allOff (h ▸ hd)) hu
  rw [stopQuiet, isActive_finishCommit _ hk, isActive_finishCommit _ hk]
  simp only [allOff, List.foldl_cons, List.foldl_nil, hone .core (by decide), hone .pix (by decide),
    hone .link (by decide), hone .dram (by decide), hone .aux (by decide)]
  rfl

theorem enterStop_shutdowns (s) : shutdowns (enterStop s) = shutdowns s := by
  rw [enterStop_eq, stopDone_shutdowns, stopQuiet_shutdowns]

/-- Entering Stop makes no kind active but that of the erase cap. -/
theorem isActive_enterStop {k u : Nat} {s : State} (hk : k ≠ 0x3A) (hu : unitDomain u = .safe)
    (h : isActive s k u = false) : isActive (enterStop s) k u = false := by
  rw [enterStop_eq]
  exact isActive_stopDone ((isActive_stopQuiet s hk hu).trans h)

theorem thaw_shutdowns (cause s) : shutdowns (thaw cause s) = (none, s.aon.ldShutdown, s.aon.adShutdown) := by
  unfold thaw
  split
  · next hnone => rw [powerUpVoted_shutdowns, shutdowns, hnone]
  · dsimp only
    split
    · exact (powerUpVoted_shutdowns _).trans rfl
    · exact (enterStop_shutdowns _).trans rfl

theorem isActive_thaw {k u : Nat} (cause) {s : State} (hk : k ≠ 0x3A) (hu : unitDomain u = .safe)
    (h : isActive s k u = false) : isActive (thaw cause s) k u = false := by
  have hup : ∀ t, isActive (powerUpVoted t) k u = isActive t k u := fun t =>
    (congrArg (fun x : State => isActive x k u) (powerUpVoted_frame t) :)
  unfold thaw
  split
  · rw [hup, h]
  · dsimp only
    split
    · exact (hup _).trans h
    · exact isActive_enterStop hk hu h

/-! ### The restart -/

theorem recoverKind_shutdowns (k u s) : shutdowns (recoverKind k u s) = shutdowns s :=
  shutdowns_of_only (recoverKind_only k u s)

theorem dieReturns_flags (s) : (dieReturns s).aon.ldShutdown = s.aon.ldShutdown
    ∧ (dieReturns s).aon.adShutdown = s.aon.adShutdown := by
  have hrecover := recoverKind_shutdowns 0x2F 0x13 s
  have hthaw := thaw_shutdowns 3 (recoverKind 0x2F 0x13 s)
  simp only [shutdowns, Prod.mk.injEq] at hrecover hthaw
  obtain ⟨-, hld, had⟩ := hrecover
  unfold dieReturns
  split
  · exact ⟨rfl, rfl⟩
  · split
    · exact ⟨hld, had⟩
    · exact ⟨hthaw.2.1.trans hld, hthaw.2.2.trans had⟩

/-- With no die shut down and the supplies good, kind 0x2F ends and the votes come back (R305). -/
theorem dieReturns_thaws {s : State} (hld : s.aon.ldShutdown = false) (had : s.aon.adShutdown = false)
    (hoff : s.aon.supplyOff = false) (hlatch : isLatched s 0x2F = false)
    (hearly : isEighthRecovery (nowUs s) (recoveryOf s 0x2F).times = false) :
    isActive (dieReturns s) 0x2F 0x13 = false ∧ (dieReturns s).aon.frozen = none := by
  obtain ⟨hended, hfree⟩ := recoverKind_ends (u := 0x13) hlatch hearly
  have hsupply : (recoverKind 0x2F 0x13 s).aon.supplyOff = false :=
    (congrArg (fun x : State => x.aon.supplyOff) (recoverKind_only 0x2F 0x13 s) :).trans hoff
  have heq : dieReturns s = thaw 3 (recoverKind 0x2F 0x13 s) :=
    (if_neg (by simp [hld, had])).trans (if_neg (by simp [hfree, hsupply]))
  rw [heq]
  exact ⟨isActive_thaw 3 (by decide) rfl hended, congrArg Prod.fst (thaw_shutdowns 3 _)⟩

end Sys2Proof.Laws
end

section
/-!
O18: warnings, the DRAM's supplies, the wait of CORE and the clock fallback, and the assembly.
-/

namespace Sys2Proof.Laws

open Sys2Proof Sys2Proof.Machine

/-- A beyond-limit supply is warned of, and kind 0x37 raised (R432). -/
theorem supplyWarned {s k} (hlen : k < s.power.supplies.length) :
    let t := raiseKind 0x37 { figure := k } (onSupply k (fun x => { x with warning := true }) s)
    (supplyOf t k).warning = true
      ∧ Raised 0x37 0x15 { s with power := { s.power with supplies := t.power.supplies } } t := by
  intro t
  have honly : Outside.faultParts t = Outside.faultParts (onSupply k (fun x => { x with warning := true }) s) :=
    raiseKind_only _ _ _
  have hsupplies : t.power.supplies = (onSupply k (fun x => { x with warning := true }) s).power.supplies :=
    (congrArg (fun x : State => x.power.supplies) honly :)
  constructor
  · have hsupply : supplyOf t k = supplyOf (onSupply k (fun x => { x with warning := true }) s) k := by
      rw [supplyOf, hsupplies, supplyOf]
    rw [hsupply, supplyOf_onSupply _ hlen]
  · refine raisedOn_of_only (r := onSupply k (fun x => { x with warning := true }) s) ?_ honly
      (raiseKind_active 0x37 { figure := k } _ rfl)
    rw [hsupplies]
    rfl

/-- The DRAM fails with its supply (R358). -/
theorem failDram_raised (s) : Raised 0x27 0x10 { s with
    units := { s.units with dramFailed := true }, fetch := { s.fetch with pins := (failDram s).fetch.pins } }
    (failDram s) := by
  have honly : Outside.faultParts (failDram s)
      = Outside.faultParts (failPins (onUnits (fun u => { u with dramFailed := true }) s)) :=
    (markAbsent_only _ _ _).trans (raiseKind_only _ _ _)
  refine raisedOn_of_only (r := failPins (onUnits (fun u => { u with dramFailed := true }) s)) ?_ honly ?_
  · rw [show (failDram s).fetch.pins = _ from (congrArg (fun x : State => x.fetch.pins) honly :)]
    rfl
  · rw [failDram, isActive_markAbsent]
    exact raiseKind_active 0x27 {} _ rfl

/-- A raise on a state that an operation has left. -/
theorem raised_after {k u : Nat} {s t r : State} (i) (hu : unitOf k i.port = u) (hkind : isStateKind k = true)
    (ht : t = raiseKind k i r) (hs : Outside.faultParts s = Outside.faultParts r) : Raised k u s t :=
  raisedOn_of_only hs (ht ▸ raiseKind_only k i r) (ht ▸ hu ▸ raiseKind_active k i r hkind)

/-- CORE has waited for its supplies (R434). -/
theorem coreWaitTimedOut {s : State} (hrising : domainState s .core = .rising) (hsupplied : coreSupplied s = false)
    (hfault : s.power.coreWaitFault = false) : ∃ t, exec .coreSupplyWaitTimeout s = .next t
      ∧ t.power.coreWaitFault = true ∧ Raised 0x38 0x15 { s with power := t.power } t := by
  refine ⟨_, congrArg Host.Outcome.next (if_pos (by simp [hrising, hsupplied, hfault])), ?_⟩
  generalize hr : onPower _ s = r
  have hpower : (raiseKind 0x38 {} r).power = r.power := (congrArg State.power (raiseKind_only 0x38 {} r) :)
  rw [hpower]
  refine ⟨by rw [← hr]; rfl, raised_after {} rfl rfl rfl ?_⟩
  rw [← hr]
  rfl

/-- The clock falls back (R15, R49). -/
theorem clockFallsBack {s : State} (hcore : isOn s .core = true) : ∃ t, exec .clockFallback s = .next t
      ∧ t.power = { s.power with backupClock := true }
      ∧ t.scan.delta = 0 ∧ t.scan.period = periodOf s.scan.rate 0
      ∧ Raised 0x04 0x03 { s with power := t.power, scan := t.scan } t := by
  refine ⟨_, congrArg Host.Outcome.next (if_pos hcore), ?_⟩
  generalize hr : ({ s with power := _, scan := _ } : State) = r
  have hpower : (raiseKind 0x04 {} r).power = r.power := (congrArg State.power (raiseKind_only 0x04 {} r) :)
  have hscan : (raiseKind 0x04 {} r).scan = r.scan := (congrArg State.scan (raiseKind_only 0x04 {} r) :)
  rw [hpower, hscan]
  refine ⟨by rw [← hr], by rw [← hr], by rw [← hr], raised_after {} rfl rfl rfl ?_⟩
  rw [← hr]

/-- Settles O18: each command's outcome is read from what a raise, a forced power-down and the return of the votes
leave. -/
theorem suppliesAndDiesForceOff : Obligations.SuppliesAndDiesForceOff := by
  unfold Obligations.SuppliesAndDiesForceOff
  dsimp only
  refine ⟨fun s v ⟨hreset, hsafe⟩ hbeyond hwarn => ?_, fun s v hreset hwaits =>
    execSupplyOutOfWindow_waits hreset hwaits, fun s v ⟨hreset, hsafe⟩ hv hwaits => ?_,
    fun s ⟨hreset, hsafe⟩ => ?_, fun s v ⟨hreset, hsafe⟩ hdram hv => ?_, fun s => coreWaitTimedOut,
    fun s => clockFallsBack, fun s die ⟨hreset, hsafe⟩ hlen hstate hhot => ?_,
    fun s die hreset hstate hcool hlatch hearly => ?_⟩
  case refine_1 =>
    exact ⟨_, execSupplyWarning_raises hreset hsafe hbeyond hwarn, supplyWarned (supply_exists hbeyond)⟩
  case refine_2 =>
    have hnum : supplyNum v ≠ 3 := by obtain rfl | rfl | rfl := hv <;> decide
    obtain ⟨hdark, hon, hfrozen, hoff, hact⟩ := supplyForces hsafe hnum
    refine ⟨_, execSupplyOutOfWindow_forces hreset hsafe hwaits ?_, hdark, hon, hfrozen, hoff, hact, fun hvin => ?_⟩
    · obtain rfl | rfl | rfl := hv <;> decide
    · subst hvin
      rw [show supplyNum .adVin = 0 from rfl]
      exact supplyForces_cuts s
  case refine_3 =>
    exact ⟨_, execSupplyOutOfWindow_forces (v := .vddaLane) hreset hsafe rfl (by decide), laneForces s⟩
  case refine_4 => exact ⟨_, execSupplyOutOfWindow_dram hreset hsafe hdram hv, failDram_raised s⟩
  case refine_5 =>
    obtain ⟨i, hexec⟩ := execDieShutdown_shuts hreset hsafe hstate hhot
    exact ⟨_, hexec, dieShuts i hsafe hlen⟩
  case refine_6 =>
    obtain ⟨hld, had, hoff⟩ := dieCooled_flags die s
    obtain ⟨hldAfter, hadAfter⟩ := dieReturns_flags (dieCooled die s)
    refine ⟨_, execDieRestart_restarts hreset hstate hcool hlatch, fun hdie => ?_, fun hdie => ?_, fun hl ha hs => ?_⟩
    · rw [hldAfter, hld, hdie]
      exact Bool.and_false _
    · rw [hadAfter, had, hdie]
      exact Bool.and_false _
    · refine dieReturns_thaws (hldAfter ▸ hl) (hadAfter ▸ ha) (hoff.trans hs) ?_ ?_
      · rw [isLatched, dieCooled_recovery]
        exact hlatch
      · rw [dieCooled_now, dieCooled_recovery, hearly]

end Sys2Proof.Laws
end

section
/-!
What raising and ending a kind leaves of a port's link, and how a port is lost or brought up again (R214, R222).
-/

namespace Sys2Proof.Laws

open Sys2Proof Sys2Proof.Machine

/-! ## What raises leave of a link -/

/-- Only what HOLD, START and PORTx_EN change of a link may have changed. -/
theorem quietLink_of_only {s t : State} (h : Outside.faultParts t = Outside.faultParts s) (p) :
    signalled {} (t.link.get p) = signalled {} (s.link.get p) := by
  have hlink : (t.link.map fun _ l => signalled {} l) = s.link.map fun _ l => signalled {} l :=
    (congrArg State.link h :)
  have hget := congrArg (PerPort.get · p) hlink
  simpa only [perPort_get_map] using hget

/-- PORTx_EN that is low stays low. -/
theorem enable_settle {s p} (h : (s.link.get p).enable = false) : ((settle s).link.get p).enable = false := by
  rw [settle_enable, h, Bool.false_and]

theorem enable_raiseKind {s : State} (k i) {p} (h : (s.link.get p).enable = false) :
    ((raiseKind k i s).link.get p).enable = false := by
  have hfresh : ∀ u t, (raiseFresh k u i t).link = t.link := fun u t =>
    (congrArg State.link (raiseFresh_frame k u i t) :)
  have hblank : ∀ t, (blankAgain k t).link = t.link := fun t => (congrArg State.link (blankAgain_frame k t) :)
  have hcommit : ∀ w t, (triggerCommit w t).link = t.link := fun w t =>
    (congrArg State.link (triggerCommit_frame w t) :)
  unfold raiseKind
  dsimp only
  split
  · exact h
  · refine enable_settle ?_
    split
    · rwa [hcommit, hblank, hfresh]
    · rwa [hblank, hfresh]

theorem enable_clearCondition {s : State} (k u) {p} (h : (s.link.get p).enable = false) :
    ((clearCondition k u s).link.get p).enable = false := by
  have hexit : ((exitKind k u s).link.get p).enable = false := by
    unfold exitKind
    split
    · exact h
    · exact enable_settle h
  unfold clearCondition
  split
  · exact h
  · split
    · exact h
    · split
      · exact h
      · split
        · exact h
        · exact hexit
      · exact hexit

/-! ## Sending a CTRL -/

theorem ctrl_link (p op payload s) :
    (ctrl p op payload s).link.get p = sendCtrl (lineNow s) s.scan.epoch.toNat op payload (s.link.get p) :=
  perPort_get_modify_self _ _ _

/-! ## A port is lost (R222) -/

theorem unitOf_lostKind (p : Port) : unitOf (lostKind p) p.num = 0x0A + p.num := by
  cases p <;> rfl

theorem isStateKind_lostKind (p : Port) : isStateKind (lostKind p) = true := by
  cases p <;> rfl

theorem lostKind_exit (p : Port) : (kindRow (lostKind p)).exit = .quiet := by
  cases p <;> rfl

/-- The port is dark, its loss counted and its kind active, with its cause lasting or not. -/
def PortLost (s t : State) (p : Port) (lasting : Bool) : Prop :=
  (t.link.get p).state = .lost ∧ (t.link.get p).enable = false ∧ (t.link.get p).lostCause = lasting
    ∧ (t.link.get p).map = [] ∧ (t.link.get p).counts.losses = min ((s.link.get p).counts.losses + 1) (2 ^ 32 - 1)
    ∧ isActive t (0x1B + p.num) (0x0A + p.num) = true

/-- The link of a port that is lost. -/
def lostLink (lasting : Bool) (l : LinkPort) : LinkPort :=
  { l with
    state := .lost, step := 0, sub := 0, map := [], spare := none, half := false, remap := false
    lanes := l.lanes.map fun x => if x = .working ∨ x = .spare then .untrained else x
    regained := false, heldBand := none, holdSent := false, holdDue := false, startAt := none, ctrls := []
    deferred := [], trimQueue := [], zoneDue := false, tx := {}
    retraining := none, returnLost := false, returnGrace := false, lostCause := lasting, enable := false
    counts := { l.counts with losses := count32 l.counts.losses } }

/-- The end of the kinds that a loss makes void. -/
def endLostKinds (p : Port) (lasting : Bool) (s : State) : State :=
  let s3 := if isActive s 0x17 (0x0A + p.num) then clearCondition 0x17 (0x0A + p.num) s else s
  let s4 := if isActive s3 0x18 (0x0A + p.num) then clearCondition 0x18 (0x0A + p.num) s3 else s3
  if lasting then s4 else clearCondition (lostKind p) (0x0A + p.num) s4

theorem losePort_of_up {p : Port} {s : State} (lasting) (h : (s.link.get p).state ≠ .lost) : losePort p lasting s
    = endLostKinds p lasting (raiseKind (lostKind p) { port := p.num } (onLink p (lostLink lasting) s)) :=
  if_neg h

theorem endLostKinds_only (p lasting s) : Outside.faultParts (endLostKinds p lasting s) = Outside.faultParts s := by
  unfold endLostKinds
  simp only [apply_ite Outside.faultParts, clearCondition_only, ite_self]

theorem enable_endLostKinds {p lasting s} (h : (s.link.get p).enable = false) :
    ((endLostKinds p lasting s).link.get p).enable = false := by
  have hclear : ∀ k c t, (t.link.get p).enable = false →
      ((if c = true then clearCondition k (0x0A + p.num) t else t).link.get p).enable = false := fun k c t ht => by
    split
    · exact enable_clearCondition _ _ ht
    · exact ht
  unfold endLostKinds
  dsimp only
  split
  · exact hclear _ _ _ (hclear _ _ _ h)
  · exact enable_clearCondition _ _ (hclear _ _ _ (hclear _ _ _ h))

theorem isActive_endLostKinds {p lasting s} (h : isActive s (lostKind p) (0x0A + p.num) = true) :
    isActive (endLostKinds p lasting s) (lostKind p) (0x0A + p.num) = true := by
  have hclear : ∀ k c t, lostKind p ≠ k → isActive t (lostKind p) (0x0A + p.num) = true →
      isActive (if c = true then clearCondition k (0x0A + p.num) t else t) (lostKind p) (0x0A + p.num) = true :=
    fun k c t hk ht => by
      split
      · rw [isActive_clearCondition_other _ fun hsame => hk hsame.1, ht]
      · exact ht
  have hother : lostKind p ≠ 0x17 ∧ lostKind p ≠ 0x18 := by cases p <;> decide
  have hcleared : ∀ c d, isActive (if c = true then clearCondition 0x18 (0x0A + p.num)
      (if d = true then clearCondition 0x17 (0x0A + p.num) s else s)
      else if d = true then clearCondition 0x17 (0x0A + p.num) s else s) (lostKind p) (0x0A + p.num) = true :=
    fun c d => hclear 0x18 c _ hother.2 (hclear 0x17 d s hother.1 h)
  unfold endLostKinds
  dsimp only
  split
  · exact hcleared _ _
  · rw [clearCondition_of_quiet _ _ (lostKind_exit p), isActive_markAbsent]
    exact hcleared _ _

/-- A port that is up is lost (R222). -/
theorem losePort_lost {p : Port} {s : State} (lasting) (h : (s.link.get p).state ≠ .lost) :
    PortLost s (losePort p lasting s) p lasting ∧ ((losePort p lasting s).link.get p).fault = (s.link.get p).fault := by
  have hget : (onLink p (lostLink lasting) s).link.get p = lostLink lasting (s.link.get p) :=
    perPort_get_modify_self _ _ _
  have honly : Outside.faultParts (losePort p lasting s) = Outside.faultParts (onLink p (lostLink lasting) s) := by
    rw [losePort_of_up lasting h, endLostKinds_only, raiseKind_only]
  have hlink := quietLink_of_only honly p
  rw [hget] at hlink
  refine ⟨⟨(congrArg LinkPort.state hlink :), ?_, (congrArg LinkPort.lostCause hlink :),
    (congrArg LinkPort.map hlink :),
    (congrArg (fun l : LinkPort => l.counts.losses) hlink :), ?_⟩, (congrArg LinkPort.fault hlink :)⟩
  · rw [losePort_of_up lasting h]
    exact enable_endLostKinds (enable_raiseKind _ _ (by rw [hget]; rfl))
  · rw [losePort_of_up lasting h]
    refine isActive_endLostKinds ?_
    rw [← unitOf_lostKind p]
    exact raiseKind_active _ { port := p.num } _ (isStateKind_lostKind p)

/-! ## A bring-up fails (R214, R222) -/

/-- The bring-up is tried again, or the third failure loses the port. -/
def Restarted (s t : State) (p : Port) : Prop :=
  ((s.link.get p).failures < 2 → portWanted s p = false → (t.link.get p).state = .off)
    ∧ ((s.link.get p).failures < 2 → portWanted s p = true → (t.link.get p).state = .bringUp ∧ (t.link.get p).step = 2
        ∧ (t.link.get p).failures = (s.link.get p).failures + 1
        ∧ (t.link.get p).counts.attempts = min ((s.link.get p).counts.attempts + 1) (2 ^ 32 - 1))
    ∧ ((s.link.get p).failures ≥ 2 → PortLost s t p false)

/-- The link of a port whose bring-up begins. -/
def bringUpLink (s : State) (p : Port) (l : LinkPort) : LinkPort :=
  { l with
    state := .bringUp, step := 2, sub := 0, sweep := [], map := [], spare := none
    settings := linkSettings s p, tx := { clock := s.scan.clkTotal }, holdDue := false, trimQueue := []
    zoneDue := false
    lanes := l.lanes.map fun x => if x = .failedForGood then x else .untrained
    errorRuns := [0, 0, 0, 0, 0], retraining := none, remap := false, regained := false, heldBand := none
    half := false, skew := [0, 0, 0, 0, 0], enable := false, waitBringUp := false
    holdSent := false, expired := false, startAt := none, returnSeq := none, ctrls := [], deferred := []
    returnLost := false, returnGrace := false, rowsSent := [], trimRows := [], resend := []
    counts := { l.counts with attempts := count32 l.counts.attempts } }

/-- A bring-up begins with CTRL 1 on the link as it starts. -/
theorem startBringUp_get (p s) : ∃ row epoch, (startBringUp p s).link.get p
    = sendCtrl row epoch 1 (List.replicate 16 0) (bringUpLink s p (s.link.get p)) :=
  ⟨_, _, (ctrl_link p 1 _ _).trans (congrArg (sendCtrl _ _ 1 _) (perPort_get_modify_self _ _ _))⟩

theorem startBringUp_link (p s) : ((startBringUp p s).link.get p).state = .bringUp
    ∧ ((startBringUp p s).link.get p).step = 2
    ∧ ((startBringUp p s).link.get p).failures = (s.link.get p).failures
    ∧ ((startBringUp p s).link.get p).counts.attempts = min ((s.link.get p).counts.attempts + 1) (2 ^ 32 - 1)
    ∧ ((startBringUp p s).link.get p).fault = (s.link.get p).fault := by
  obtain ⟨row, epoch, hget⟩ := startBringUp_get p s
  have hlink := (congrArg (signalled {}) hget).trans (sendCtrl_signalled row epoch 1 (List.replicate 16 0) _)
  exact ⟨(congrArg LinkPort.state hlink :), (congrArg LinkPort.step hlink :), (congrArg LinkPort.failures hlink :),
    (congrArg (fun l : LinkPort => l.counts.attempts) hlink :), (congrArg LinkPort.fault hlink :)⟩

theorem portWanted_onLink (p q f s) : portWanted (onLink q f s) p = portWanted s p := rfl

/-- A bring-up that fails is tried again up to twice (R214). -/
theorem failBringUp_restarted {p : Port} {s u : State} (hup : (s.link.get p).state = .bringUp)
    (hfailures : (s.link.get p).failures = (u.link.get p).failures)
    (hcounts : (s.link.get p).counts = (u.link.get p).counts) (hwanted : portWanted s p = portWanted u p) :
    Restarted u (failBringUp p s) p ∧ ((failBringUp p s).link.get p).fault = (s.link.get p).fault := by
  have hget : ∀ f t, (onLink p f t).link.get p = f (t.link.get p) := fun f t => perPort_get_modify_self _ _ _
  by_cases hlast : (s.link.get p).failures + 1 ≥ 3
  · have heq : failBringUp p s = losePort p false (onLink p (fun l => { l with failures := 0 })
      (onLink p (fun l => { l with failures := (s.link.get p).failures + 1 }) s)) := if_pos hlast
    obtain ⟨⟨hstate, henable, hcause, hmap, hlosses, hact⟩, hfault⟩ := losePort_lost (p := p) false
      (s := onLink p (fun l => { l with failures := 0 })
        (onLink p (fun l => { l with failures := (s.link.get p).failures + 1 }) s))
      (by rw [hget, hget]; exact fun h => absurd (hup.symm.trans h) (by decide))
    rw [← heq] at hstate henable hcause hmap hlosses hact hfault
    rw [hget, hget] at hlosses hfault
    refine ⟨⟨fun hlt => absurd hlt (by omega), fun hlt => absurd hlt (by omega), fun _ =>
      ⟨hstate, henable, hcause, hmap, ?_, hact⟩⟩, hfault⟩
    rw [hlosses, hcounts]
  · have heq : failBringUp p s = beginBringUp p
      (onLink p (fun l => { l with failures := (s.link.get p).failures + 1 }) s) := if_neg hlast
    rw [heq, beginBringUp, portWanted_onLink, hwanted]
    cases hw : portWanted u p with
    | true =>
      obtain ⟨hstate, hstep, hfail, hattempts, hfault⟩ := startBringUp_link p
        (onLink p (fun l => { l with failures := (s.link.get p).failures + 1 }) s)
      rw [hget] at hfail hattempts hfault
      rw [if_pos rfl]
      refine ⟨⟨fun _ h => absurd (hw.symm.trans h) (by decide), fun _ _ => ⟨hstate, hstep, ?_, ?_⟩, fun hge =>
        absurd hge (by omega)⟩, hfault⟩
      · rw [hfail, hfailures]
      · rw [hattempts, hcounts]
    | false =>
      rw [if_neg (by decide)]
      refine ⟨⟨fun _ _ => ?_, fun _ h => absurd (hw.symm.trans h) (by decide), fun hge => absurd hge (by omega)⟩, ?_⟩
      · rw [hget]
      · rw [hget, hget]

end Sys2Proof.Laws
end

section
/-!
O32: the commands of a link port, and the assembly (R35, R212, R215, R218, R222, R223, R225, R226, R332, R338, R339).
-/

namespace Sys2Proof.Laws

open Sys2Proof Sys2Proof.Machine

theorem onLink_get (p f s) : (onLink p f s).link.get p = f (s.link.get p) := perPort_get_modify_self _ _ _

theorem onLink_onLink (p f g s) : onLink p g (onLink p f s) = onLink p (fun l => g (f l)) s := by
  cases p <;> rfl

theorem state_of_serving {s p} (h : portServing s p = true) : (s.link.get p).state ≠ .lost := by
  intro hlost
  rw [portServing, hlost] at h
  exact absurd h (by decide)

/-! ## The return lane (R35, R226) -/

theorem returnLaneLost_raised {s p} (hserving : portServing s p = true) (hlost : (s.link.get p).returnLost = false) :
    ∃ t, exec (.returnLaneLost p) s = .next t ∧ Raised 0x18 (0x0A + p.num) { s with
      link := s.link.set p { s.link.get p with returnLost := true, returnGrace := true } } t :=
  ⟨_, congrArg Host.Outcome.next (if_pos (by simp [hserving, hlost])),
    raiseKind_raised 0x18 { port := p.num, lane := 5 } _ rfl⟩

theorem chooseCtle_link (p s) : ((chooseCtle p s).link.get p).returnLost = (s.link.get p).returnLost
    ∧ (linkCfg s p 9 = 1 → ((chooseCtle p s).link.get p).ctle = linkCfg s p 0x0A) := by
  unfold chooseCtle
  split
  · rw [onLink_get]
    exact ⟨rfl, fun _ => rfl⟩
  · next hcfg =>
    have hlink : (sweepErrors s).2.link = s.link := (congrArg State.link (sweepErrors_frame s) :)
    dsimp only
    rw [onLink_get, hlink]
    exact ⟨rfl, fun h => absurd h hcfg⟩

theorem chooseCtle_recoveries (p s) : recoveries (chooseCtle p s) = recoveries s := by
  unfold chooseCtle
  split
  · rfl
  · exact recoveries_of_aon (congrArg State.aon (sweepErrors_frame s) :)

theorem returnReceiverRetrained_ends {s p} (hlost : (s.link.get p).returnLost = true) :
    ∃ t, exec (.returnReceiverRetrained p) s = .next t ∧ (t.link.get p).returnLost = false
      ∧ (linkCfg s p 9 = 1 → (t.link.get p).ctle = linkCfg s p 0x0A)
      ∧ (isLatched s 0x18 = false → isActive t 0x18 (0x0A + p.num) = false) := by
  refine ⟨_, congrArg Host.Outcome.next (if_pos hlost), ?_⟩
  obtain ⟨hreturn, hctle⟩ := chooseCtle_link p (onLink p (fun l => { l with returnLost := false }) s)
  rw [onLink_get] at hreturn
  have hcfg : ∀ sub, linkCfg (onLink p (fun l => { l with returnLost := false }) s) p sub = linkCfg s p sub :=
    fun sub => by
      rw [linkCfg, onLink_get]
      rfl
  rw [hcfg, hcfg] at hctle
  have hlink := quietLink_of_only (clearCondition_only 0x18 (0x0A + p.num)
    (chooseCtle p (onLink p (fun l => { l with returnLost := false }) s))) p
  refine ⟨(congrArg LinkPort.returnLost hlink :).trans hreturn,
    fun h => (congrArg LinkPort.ctle hlink :).trans (hctle h),
    fun hlatch => isActive_clearCondition _ rfl ?_⟩
  rw [isLatched, recoveryOf_of_recoveries (chooseCtle_recoveries _ _)]
  exact hlatch

/-! ## Lanes (R225) -/

theorem laneRetrain_sends {s p lane} (hserving : portServing s p = true) (hready : s.units.ls.get p = .ready)
    (hcfg : linkCfg s p 0x10 = 1) (hfree : (s.link.get p).retraining = none) (hlane : lane < 5)
    (hfailed : nth .untrained (s.link.get p).lanes lane = .failed) :
    exec (.laneRetrain p lane) s = .next { s with link := s.link.set p (sendCtrl (lineNow s) s.scan.epoch.toNat 4
        (leBytes 8 (0x20 + 4 * lane)) (sendCtrl (lineNow s) s.scan.epoch.toNat 9
          (1 :: ((s.link.get p).deemphasis.map (BitVec.ofNat 8) ++ [0, 0]))
          { s.link.get p with retraining := some lane })) } := by
  refine congrArg Host.Outcome.next ((if_pos (by simp [hserving, hready, hcfg, hfree, hlane, hfailed])).trans ?_)
  have htrain : sendTrain p 1 (s.link.get p).deemphasis (onLink p (fun l => { l with retraining := some lane }) s)
      = onLink p (sendCtrl (lineNow s) s.scan.epoch.toNat 9
        (1 :: ((s.link.get p).deemphasis.map (BitVec.ofNat 8) ++ [0, 0])))
        (onLink p (fun l => { l with retraining := some lane }) s) := rfl
  rw [htrain, onLink_onLink]
  exact onLink_onLink p _ (sendCtrl (lineNow s) s.scan.epoch.toNat 4 (leBytes 8 (0x20 + 4 * lane))) s

theorem laneRetrainDone_joins {s p lane errors} (hserving : portServing s p = true)
    (hlane : (s.link.get p).retraining = some lane) : ∃ l,
      exec (.laneRetrainDone p lane errors) s = .next { s with link := s.link.set p l }
      ∧ (errors ≠ 0 → l = { s.link.get p with retraining := none })
      ∧ (errors = 0 → (s.link.get p).spare = none → l.spare = some lane
          ∧ l.lanes = modifyAt (fun _ => .spare) lane (s.link.get p).lanes
          ∧ l.retraining = none
          ∧ l.regained = ((s.link.get p).regained || decide ((s.link.get p).map.length < 4)))
      ∧ (errors = 0 → (s.link.get p).spare ≠ none → l.lanes = (s.link.get p).lanes
          ∧ l.spare = (s.link.get p).spare) := by
  refine ⟨_, congrArg Host.Outcome.next (if_pos (by simp [hserving, hlane])), fun herr => ?_, fun herr hspare => ?_,
    fun herr hspare => ?_⟩
  · simp [herr]
  · simp [herr, hspare]
  · simp [hspare]

/-! ## The fault pin (R222, R223) -/

theorem portLost_of_counts {s u t p lasting} (h : (u.link.get p).counts = (s.link.get p).counts)
    (hlost : PortLost u t p lasting) : PortLost s t p lasting := by
  obtain ⟨hstate, henable, hcause, hmap, hlosses, hact⟩ := hlost
  exact ⟨hstate, henable, hcause, hmap, by rw [hlosses, h], hact⟩

/-- The pin of a port is seen asserted. -/
def pinAsserted (p : Port) (s : State) : State := onLink p (fun l => { l with fault := true }) s

theorem execPortFltAssert_judged {s p} (hreset : inReset s = false) (hsafe : isOn s .safe = true)
    (hactive : portActive s p = true) : exec (.portFltAssert p) s = .next
      (if (s.link.get p).enable then losePort p true (pinAsserted p s)
        else if (s.link.get p).state = .bringUp then failBringUp p (pinAsserted p s) else pinAsserted p s) :=
  congrArg Host.Outcome.next (if_neg (by simp [hreset, hsafe, hactive]))

theorem portFlt_loses {s p} (hup : (s.link.get p).state ≠ .lost) :
    PortLost s (losePort p true (pinAsserted p s)) p true
      ∧ ((losePort p true (pinAsserted p s)).link.get p).fault = true := by
  have hget : (pinAsserted p s).link.get p = _ := onLink_get p _ s
  obtain ⟨hlost, hfault⟩ := losePort_lost (p := p) (s := pinAsserted p s) true (by rw [hget]; exact hup)
  refine ⟨portLost_of_counts (by rw [hget]) hlost, ?_⟩
  rw [hfault, hget]

theorem portFlt_restarts {s p} (hup : (s.link.get p).state = .bringUp) :
    Restarted s (failBringUp p (pinAsserted p s)) p
      ∧ ((failBringUp p (pinAsserted p s)).link.get p).fault = true := by
  have hget : (pinAsserted p s).link.get p = _ := onLink_get p _ s
  obtain ⟨hrestart, hfault⟩ := failBringUp_restarted (p := p) (s := pinAsserted p s) (u := s) (by rw [hget]; exact hup)
    (by rw [hget]) (by rw [hget]) rfl
  refine ⟨hrestart, ?_⟩
  rw [hfault, hget]

/-- The pin of a port is seen released. -/
def pinReleased (p : Port) (s : State) : State := onLink p (fun l => { l with fault := false }) s

/-- The cause of a loss no longer lasts. -/
def causeEnded (p : Port) (s : State) : State := onLink p (fun l => { l with lostCause := false }) s

theorem markAbsent_link (k u s) : (markAbsent k u s).link = s.link := rfl

theorem clearLoss_of_lasting {s p} (hlost : (s.link.get p).state = .lost) (hcause : (s.link.get p).lostCause = true)
    (hfault : (s.link.get p).fault = false) :
    clearLoss p s = markAbsent (lostKind p) (0x0A + p.num) (causeEnded p s) := by
  rw [← clearCondition_of_quiet _ _ (lostKind_exit p)]
  exact if_pos ⟨hlost, hcause, by rw [hfault]; rfl⟩

theorem portFltRelease_clears {s p} (hfault : (s.link.get p).fault = true) : ∃ t,
    exec (.portFltRelease p) s = .next t ∧ (t.link.get p).fault = false
      ∧ ((s.link.get p).state = .lost → (s.link.get p).lostCause = true → (t.link.get p).lostCause = false
          ∧ ∀ a ∈ t.faults.active, a.kind = 0x1B + p.num → a.unit = 0x0A + p.num → a.absent = true)
      ∧ ((s.link.get p).state ≠ .lost → t = { s with link := s.link.set p { s.link.get p with fault := false } }) := by
  refine ⟨clearLoss p (pinReleased p s), congrArg Host.Outcome.next (if_pos hfault), ?_⟩
  have hget : (pinReleased p s).link.get p = _ := onLink_get p _ s
  by_cases hlost : (s.link.get p).state = .lost ∧ (s.link.get p).lostCause = true
  · rw [clearLoss_of_lasting (by rw [hget]; exact hlost.1) (by rw [hget]; exact hlost.2) (by rw [hget]),
      markAbsent_link, causeEnded, onLink_get, hget]
    exact ⟨rfl, fun _ _ => ⟨rfl, absent_of_markAbsent _ _ _⟩, fun h => absurd hlost.1 h⟩
  · have heq : clearLoss p (pinReleased p s) = pinReleased p s := by
      refine if_neg ?_
      rw [hget]
      exact fun h => hlost ⟨h.1, h.2.1⟩
    rw [heq, hget]
    exact ⟨rfl, fun hs hc => absurd ⟨hs, hc⟩ hlost, fun _ => rfl⟩

/-! ## A CTRL without an answer (R212) -/

/-- The CTRL that has waited longest is given up. -/
def ctrlDropped (p : Port) (rest : List Ctrl) (s : State) : State := onLink p (fun l => { l with ctrls := rest }) s

theorem execCtrlAckTimeout_judged {s p c rest} (h : (s.link.get p).ctrls = c :: rest) :
    exec (.ctrlAckTimeout p) s = .next
      (if (s.link.get p).state = .bringUp then failBringUp p (ctrlDropped p rest s)
        else if c.opcode = 8 then raiseKind 0x16 { port := p.num } (ctrlDropped p rest s)
        else ctrlDropped p rest s) := by
  show Host.Outcome.next _ = _
  rw [h]
  rfl

/-! ## Confirmations (R332, R338) -/

theorem freeEntry_spec {fs : List Confirm} {k : Nat} (h : freeEntry fs = some k) :
    k < 16 ∧ ∀ f ∈ fs, f.entry ≠ k := by
  have hmem := List.mem_of_find?_eq_some h
  have hfree := List.find?_some h
  refine ⟨List.mem_range.1 hmem, fun f hf heq => ?_⟩
  simp only [Bool.not_eq_true', List.any_eq_false] at hfree
  exact hfree f hf (by simp [heq])

/-! ## The end of an echo fault (R339) -/

/-- The port is no longer held for its echo. -/
def echoReleased (p : Port) (s : State) : State :=
  onPixels p (fun x => { x with echoRun := 0, echoHeld := false })
    (if s.nvm.disabled.get p = 2 then putRecord p 0 0xFFFFFFFF s else s)

theorem execPortEchoReenable_releases {s p}
    (hheld : s.nvm.disabled.get p = 2 ∨ (s.pixels.get p).echoHeld = true) (hgood : (s.pixels.get p).echoGood ≥ 64) :
    exec (.portEchoReenable p) s = .next
      (if Port.all.any fun q => (echoReleased p s).nvm.disabled.get q == 2 || ((echoReleased p s).pixels.get q).echoHeld
        then echoReleased p s else clearCondition 0x13 0x09 (echoReleased p s)) :=
  congrArg Host.Outcome.next (if_pos ⟨hheld, hgood⟩)

theorem echoReleased_parts (p s) :
    (echoReleased p s).nvm.disabled.get p = (if s.nvm.disabled.get p = 2 then 0 else s.nvm.disabled.get p)
      ∧ (∀ q, q ≠ p → (echoReleased p s).nvm.disabled.get q = s.nvm.disabled.get q)
      ∧ (echoReleased p s).pixels = s.pixels.set p { s.pixels.get p with echoRun := 0, echoHeld := false }
      ∧ (echoReleased p s).faults = s.faults ∧ recoveries (echoReleased p s) = recoveries s := by
  unfold echoReleased
  split
  · exact ⟨perPort_get_set_self _ _ _, fun q hq => perPort_get_set_of_ne _ _ hq, rfl, rfl, rfl⟩
  · exact ⟨rfl, fun _ _ => rfl, rfl, rfl, rfl⟩

theorem port_mem_all (p : Port) : p ∈ Port.all := by
  cases p <;> decide

theorem portEchoReenable_ends {s p}
    (hheld : s.nvm.disabled.get p = 2 ∨ (s.pixels.get p).echoHeld = true) (hgood : (s.pixels.get p).echoGood ≥ 64) :
    ∃ t, exec (.portEchoReenable p) s = .next t
      ∧ t.nvm.disabled.get p = (if s.nvm.disabled.get p = 2 then 0 else s.nvm.disabled.get p)
      ∧ (∀ q, q ≠ p → t.nvm.disabled.get q = s.nvm.disabled.get q)
      ∧ t.pixels = s.pixels.set p { s.pixels.get p with echoRun := 0, echoHeld := false }
      ∧ ((∃ q, t.nvm.disabled.get q = 2 ∨ (t.pixels.get q).echoHeld = true) → t.faults = s.faults)
      ∧ ((∀ q, t.nvm.disabled.get q ≠ 2 ∧ (t.pixels.get q).echoHeld = false) → isLatched s 0x13 = false →
          isActive t 0x13 0x09 = false) := by
  refine ⟨_, execPortEchoReenable_releases hheld hgood, ?_⟩
  obtain ⟨hself, hothers, hpixels, hfaults, hrec⟩ := echoReleased_parts p s
  by_cases hany : (Port.all.any fun q =>
      (echoReleased p s).nvm.disabled.get q == 2 || ((echoReleased p s).pixels.get q).echoHeld) = true
  · rw [if_pos hany]
    refine ⟨hself, hothers, hpixels, fun _ => hfaults, fun hnone => ?_⟩
    obtain ⟨q, -, hq⟩ := List.any_eq_true.1 hany
    obtain ⟨hdisabled, hecho⟩ := hnone q
    simp [hdisabled, hecho] at hq
  · rw [if_neg hany]
    have honly := clearCondition_only 0x13 0x09 (echoReleased p s)
    have hdisabled : (clearCondition 0x13 0x09 (echoReleased p s)).nvm.disabled = (echoReleased p s).nvm.disabled :=
      (congrArg (fun x : State => x.nvm.disabled) honly :)
    have hsame : (clearCondition 0x13 0x09 (echoReleased p s)).pixels = (echoReleased p s).pixels :=
      (congrArg State.pixels honly :)
    rw [hdisabled, hsame]
    refine ⟨hself, hothers, hpixels, fun ⟨q, hq⟩ => absurd ?_ hany, fun _ hlatch => isActive_clearCondition _ rfl ?_⟩
    · exact List.any_eq_true.2 ⟨q, port_mem_all q, by simpa using hq⟩
    · rw [isLatched, recoveryOf_of_recoveries hrec]
      exact hlatch

end Sys2Proof.Laws
end

section
/-!
O32: the oldest candidate begins step A, and the assembly.
-/

namespace Sys2Proof.Laws

open Sys2Proof Sys2Proof.Machine

/-- The oldest candidate takes entry `k` (R332). -/
def candidateTaken (p : Port) (i k : Nat) (rest : List Nat) (s : State) : State :=
  onPixels p (fun x => { x with candidates := rest, confirms := x.confirms ++ [⟨k, i, 0, 0, false, false, none⟩] }) s

/-- The entry is written and its window opened. -/
def entryStarted (s : State) (p : Port) (f g : Confirm) : Confirm :=
  if g.entry = f.entry then
    { g with
      started := true
      raised := false
      skip := if rowBegun s p (f.pixel / 1024) then some s.compose.frame else none }
  else g

theorem execConfirmation_starts {s p i rest k} (hserving : portServing s p = true) (hready : s.units.ls.get p = .ready)
    (hstarted : ∀ f ∈ (s.pixels.get p).confirms, f.started = true) (hcand : (s.pixels.get p).candidates = i :: rest)
    (hfree : freeEntry (s.pixels.get p).confirms = some k) : exec (.confirmationStepStart p) s
      = .next (startStep p ⟨k, i, 0, 0, false, false, none⟩ (candidateTaken p i k rest s)) := by
  refine congrArg Host.Outcome.next ((if_neg (by simp [hserving, hready])).trans ?_)
  have hnone : ((s.pixels.get p).confirms.find? fun f => !f.started) = none :=
    List.find?_eq_none.2 fun f hf => by simp [hstarted f hf]
  rw [hnone, hcand, hfree]
  rfl

/-- Only the new entry is started. -/
theorem entryStarted_append {s p k i} {fs : List Confirm} (hfree : ∀ f ∈ fs, f.entry ≠ k) :
    (fs ++ [(⟨k, i, 0, 0, false, false, none⟩ : Confirm)]).map (entryStarted s p ⟨k, i, 0, 0, false, false, none⟩)
      = fs ++ [⟨k, i, 0, 0, true, false, if rowBegun s p (i / 1024) then some s.compose.frame else none⟩] := by
  have hkept : fs.map (entryStarted s p ⟨k, i, 0, 0, false, false, none⟩) = fs := by
    conv_rhs => rw [← List.map_id fs]
    exact List.map_congr_left fun f hf => if_neg (hfree f hf)
  rw [List.map_append, hkept, List.map_singleton]
  exact congrArg (fun x => fs ++ [x]) (if_pos rfl)

theorem startStep_eq (p f s) : startStep p f s =
    onLink p (sendCtrl (lineNow s) s.scan.epoch.toNat 7 (probePayload (lineNow s)))
      (onLink p (sendCtrl (lineNow s) s.scan.epoch.toNat 5 (leBytes 4 (0x80 + 4 * f.entry) ++ leBytes 4 (probeEntry f)))
        (onPixels p (fun x => { x with confirms := x.confirms.map (entryStarted s p f) }) s)) := rfl

theorem startStep_touches (p f s) : startStep p f s = { s with
    pixels := (startStep p f s).pixels, link := (startStep p f s).link } := rfl

theorem probeEntry_first (k i) : probeEntry ⟨k, i, 0, 0, false, false, none⟩
    = 2 ^ 31 + 2 ^ 29 + i % 1024 * 2 ^ 19 + i / 1024 * 2 ^ 10 := by
  rw [probeEntry, show probeMode 0 = 1 from rfl, Nat.one_mul]

theorem confirmationStepStart_begins {s p i rest k} (hserving : portServing s p = true)
    (hready : s.units.ls.get p = .ready) (hstarted : ∀ f ∈ (s.pixels.get p).confirms, f.started = true)
    (hcand : (s.pixels.get p).candidates = i :: rest) (hfree : freeEntry (s.pixels.get p).confirms = some k) :
    ∃ t, exec (.confirmationStepStart p) s = .next t
      ∧ t = { s with pixels := t.pixels, link := t.link } ∧ k < 16
      ∧ (t.pixels.get p).candidates = rest
      ∧ (t.pixels.get p).confirms = (s.pixels.get p).confirms ++ [⟨k, i, 0, 0, true, false,
          if rowBegun s p (i / 1024) then some s.compose.frame else none⟩]
      ∧ t.link.get p = sendCtrl (lineNow s) s.scan.epoch.toNat 7
          (leBytes 2 (8 * ((lineNow s + 4) % 512)) ++ leBytes 2 4096 ++ leBytes 4 0)
          (sendCtrl (lineNow s) s.scan.epoch.toNat 5
            (leBytes 4 (0x80 + 4 * k) ++ leBytes 4 (2 ^ 31 + 2 ^ 29 + i % 1024 * 2 ^ 19 + i / 1024 * 2 ^ 10))
            (s.link.get p)) := by
  obtain ⟨hlow, hother⟩ := freeEntry_spec hfree
  refine ⟨_, execConfirmation_starts hserving hready hstarted hcand hfree, ?_⟩
  have hpixels : (startStep p ⟨k, i, 0, 0, false, false, none⟩ (candidateTaken p i k rest s)).pixels.get p
      = { s.pixels.get p with candidates := rest, confirms := (s.pixels.get p).confirms
          ++ [⟨k, i, 0, 0, true, false, if rowBegun s p (i / 1024) then some s.compose.frame else none⟩] } := by
    rw [startStep_eq, onLink_pixels, onLink_pixels, onPixels, perPort_get_modify_self, candidateTaken, onPixels,
      perPort_get_modify_self]
    exact congrArg (fun fs => { s.pixels.get p with candidates := rest, confirms := fs }) (entryStarted_append hother)
  have hlink : (startStep p ⟨k, i, 0, 0, false, false, none⟩ (candidateTaken p i k rest s)).link.get p
      = sendCtrl (lineNow s) s.scan.epoch.toNat 7 (probePayload (lineNow s))
        (sendCtrl (lineNow s) s.scan.epoch.toNat 5
          (leBytes 4 (0x80 + 4 * k) ++ leBytes 4 (probeEntry ⟨k, i, 0, 0, false, false, none⟩)) (s.link.get p)) := by
    rw [startStep_eq, onLink_get, onLink_get, onPixels_link, candidateTaken, onPixels_link]
    rfl
  rw [hpixels, hlink, probeEntry_first]
  exact ⟨(startStep_touches p _ (candidateTaken p i k rest s)).trans rfl, hlow, rfl, rfl, rfl⟩

/-- Settles O32: each command's outcome on the port's link, by the lemmas above. -/
theorem portCommandsFollowTheLink : Obligations.PortCommandsFollowTheLink := by
  unfold Obligations.PortCommandsFollowTheLink
  dsimp only
  refine ⟨fun s p => returnLaneLost_raised, fun s p => returnReceiverRetrained_ends, fun s p hserving hgrace => ?_,
    fun s p band hreported => congrArg Host.Outcome.next (if_neg (by simp [hreported])),
    fun s p band hlisten hreported => congrArg Host.Outcome.next (if_pos (by simp [hlisten, hreported])),
    fun s p lane => laneRetrain_sends, fun s p lane errors => laneRetrainDone_joins,
    fun s p hserving hhold hresume => ?_, fun s p hreset hsafe hactive => ?_, fun s p => portFltRelease_clears,
    fun s p c rest hctrls => ?_, fun s p i rest k => confirmationStepStart_begins,
    fun s p => portEchoReenable_ends⟩
  case refine_1 =>
    exact ⟨_, congrArg Host.Outcome.next (if_pos (by simp [hserving, hgrace])),
      (losePort_lost false (state_of_serving hserving)).1⟩
  case refine_2 =>
    refine ⟨_, congrArg Host.Outcome.next (if_pos ?_), (losePort_lost _ (state_of_serving hserving)).1⟩
    obtain hready | hstart := hresume
    · simp [hserving, hhold, hready]
    · simp [hserving, hhold, Option.isSome_iff_ne_none.2 hstart]
  case refine_3 =>
    have hexec := execPortFltAssert_judged hreset hsafe hactive
    refine ⟨fun henable hup => ⟨_, ?_, portFlt_loses hup⟩, fun henable hup => ⟨_, ?_, portFlt_restarts hup⟩,
      fun henable hup => ?_⟩
    · rw [hexec, if_pos henable]
    · rw [hexec, if_neg (by simp [henable]), if_pos hup]
    · rw [hexec, if_neg (by simp [henable]), if_neg hup]
      rfl
  case refine_4 =>
    have hget : (ctrlDropped p rest s).link.get p = _ := onLink_get p _ s
    refine ⟨fun hup => ⟨_, ?_, (failBringUp_restarted (s := ctrlDropped p rest s) (u := s) (by rw [hget]; exact hup)
      (by rw [hget]) (by rw [hget]) rfl).1⟩, fun hup hop => ⟨_, ?_, raiseKind_noted 0x16 { port := p.num } _ rfl ?_⟩,
      fun hup hop => ?_⟩
    · rw [execCtrlAckTimeout_judged hctrls, if_pos hup]
    · rw [execCtrlAckTimeout_judged hctrls, if_neg hup, if_pos hop]
      rfl
    · cases p <;> decide
    · rw [execCtrlAckTimeout_judged hctrls, if_neg hup, if_neg hop]
      rfl

end Sys2Proof.Laws
end

section
/-!
Powering up (R14, R425, R437, R439, R440): which domains begin to rise, and what a domain's power-up leaves.
-/

namespace Sys2Proof.Laws

open Sys2Proof Sys2Proof.Machine

/-! ## The domains that begin to rise (R437) -/

/-- The options are in force, no reset holds, and the domain can rise. -/
def canRise (s : State) (d : Domain) : Bool :=
  !inReset s && !s.power.loadRunning && domainState s d == .off && heldByVote s.power.votes d && !forcedOff s d
    && (dependsOn d).all fun q => isOn s q

theorem riseIfVoted_eq (s d) : riseIfVoted s d = if canRise s d then setDomain d .rising s else s := rfl

theorem setDomain_power_rest (d x s) : inReset (setDomain d x s) = inReset s
    ∧ (setDomain d x s).power.loadRunning = s.power.loadRunning ∧ (setDomain d x s).power.votes = s.power.votes
    ∧ (setDomain d x s).aon = s.aon := by
  cases d <;> exact ⟨rfl, rfl, rfl, rfl⟩

theorem off_of_canRise {s d} (h : canRise s d = true) : domainState s d = .off := by
  simp only [canRise, Bool.and_eq_true, beq_iff_eq] at h
  exact h.1.1.1.2

theorem ne_aon_of_off {s d} (h : domainState s d = .off) : d ≠ .aon := by
  rintro rfl
  exact nomatch (show DomainState.on = .off from h)

/-- A domain that begins to rise is not yet on. -/
theorem isOn_setRising {s d} (hoff : domainState s d = .off) (q) : isOn (setDomain d .rising s) q = isOn s q := by
  rw [isOn, isOn, domainState_setDomain _ _ (ne_aon_of_off hoff), Function.update_apply]
  split
  · next heq => rw [heq, hoff]; rfl
  · rfl

/-- A domain that begins to rise keeps no other from rising, and lets none rise. -/
theorem canRise_riseIfVoted {s d e} (hne : d ≠ e) : canRise (riseIfVoted s e) d = canRise s d := by
  rw [riseIfVoted_eq]
  split
  · next hrise =>
    have hoff := off_of_canRise hrise
    obtain ⟨hreset, hload, hvotes, haon⟩ := setDomain_power_rest e .rising s
    have hforced : forcedOff (setDomain e .rising s) d = forcedOff s d := by
      cases d <;> simp only [forcedOff, haon]
    have hstate : domainState (setDomain e .rising s) d = domainState s d := by
      rw [domainState_setDomain _ _ (ne_aon_of_off hoff), Function.update_of_ne hne]
    simp only [canRise, hreset, hload, hvotes, hforced, hstate, isOn_setRising hoff]
  · rfl

theorem domainState_riseIfVoted (s e d) : domainState (riseIfVoted s e) d
    = if d = e ∧ canRise s e = true then .rising else domainState s d := by
  rw [riseIfVoted_eq]
  split
  · next hrise =>
    rw [domainState_setDomain _ _ (ne_aon_of_off (off_of_canRise hrise)), Function.update_apply]
    simp [hrise]
  · next hstay => rw [if_neg (by simp [hstay])]

theorem domainState_rises (ds : List Domain) (s) (hnodup : ds.Nodup) (d) : domainState (ds.foldl riseIfVoted s) d
    = if d ∈ ds ∧ canRise s d = true then .rising else domainState s d := by
  induction ds generalizing s with
  | nil => simp
  | cons e ds ih =>
    obtain ⟨hnew, hrest⟩ := List.nodup_cons.1 hnodup
    rw [List.foldl_cons, ih _ hrest, domainState_riseIfVoted]
    by_cases heq : d = e
    · subst heq
      simp [hnew]
    · rw [canRise_riseIfVoted heq]
      simp [heq]

/-- Every voted domain that can power up begins to, and no other changes its state (R437). -/
theorem domainState_powerUpVoted (s d) : domainState (powerUpVoted s) d
    = if voteable.contains d = true ∧ canRise s d = true then .rising else domainState s d := by
  rw [powerUpVoted, domainState_rises _ _ (by decide)]
  simp only [List.contains_iff_mem]

theorem canRise_of_free {s} (hreset : inReset s = false) (hload : s.power.loadRunning = false) (d) :
    (voteable.contains d = true ∧ canRise s d = true) ↔ rises s d = true := by
  simp only [canRise, rises, hreset, hload, Bool.not_false, Bool.true_and, Bool.and_eq_true, and_assoc]

/-! ## The option load (R425, R426, R429) -/

/-- The state once the options are in force. -/
def optionsTaken (strap : StrapCodes) (s : State) : State :=
  let c := chooseOptions s
  let o := if c.2.1.strapCompat then applyStrap (strapCode strap) c.2.1 else c.2.1
  { s with
    power := { s.power with
      loadRunning := false, options := o, optionCopyUsed := c.1
      strapCode := if c.2.1.strapCompat then strapCode strap else 0xFF }
    aon := { s.aon with options := o } }

/-- The kind that a choice of a copy raises. -/
def judged (kind : Option Nat) (s : State) : State :=
  match kind with
  | some k => raiseKind k {} s
  | none => s

/-- The options are in force, and the kind of the copy that was taken has been raised. -/
def optionsJudged (strap : StrapCodes) (s : State) : State := judged (chooseOptions s).2.2 (optionsTaken strap s)

theorem execOptionLoad_commits {s strap} (hreset : inReset s = false) (hload : s.power.loadRunning = true) :
    exec (.optionLoadCommit strap) s = .next (powerUpVoted (optionsJudged strap s)) :=
  congrArg Host.Outcome.next (if_neg (by simp [hreset, hload]))

theorem optionsJudged_only (strap s) :
    Outside.faultParts (optionsJudged strap s) = Outside.faultParts (optionsTaken strap s) := by
  unfold optionsJudged judged
  split
  · exact raiseKind_only _ _ _
  · rfl

theorem powerUpVoted_rest (s) : (powerUpVoted s).faults = s.faults ∧ (powerUpVoted s).aon = s.aon :=
  ⟨(congrArg State.faults (powerUpVoted_frame s) :), (congrArg State.aon (powerUpVoted_frame s) :)⟩

/-- What powering up leaves of the power state. -/
theorem powerUpVoted_power (s) : (powerUpVoted s).power.votes = s.power.votes
    ∧ (powerUpVoted s).power.loadRunning = s.power.loadRunning
    ∧ (powerUpVoted s).power.optionCopyUsed = s.power.optionCopyUsed
    ∧ (powerUpVoted s).power.options = s.power.options ∧ (powerUpVoted s).power.strapCode = s.power.strapCode := by
  have hkeeps := foldl_keeps (fun t : State => (t.power.votes, t.power.loadRunning, t.power.optionCopyUsed,
    t.power.options, t.power.strapCode)) (g := riseIfVoted) (fun t d => by
      rw [riseIfVoted_eq]
      split
      · cases d <;> rfl
      · rfl) voteable s
  simp only [Prod.mk.injEq] at hkeeps
  exact hkeeps

theorem rises_congr {s t : State} (hstates : domainState t = domainState s) (hvotes : t.power.votes = s.power.votes)
    (hfrozen : t.aon.frozen = s.aon.frozen) (hlane : t.aon.laneOff = s.aon.laneOff) (d) : rises t d = rises s d := by
  have hforced : forcedOff t d = forcedOff s d := by
    cases d <;> simp only [forcedOff, hfrozen, hlane]
  simp only [rises, hstates, hvotes, hforced, isOn]

theorem optionsJudged_parts (strap s) : (optionsJudged strap s).power = (optionsTaken strap s).power
    ∧ (optionsJudged strap s).aon.options = (optionsTaken strap s).aon.options
    ∧ (optionsJudged strap s).aon.frozen = s.aon.frozen ∧ (optionsJudged strap s).aon.laneOff = s.aon.laneOff :=
  have honly := optionsJudged_only strap s
  ⟨(congrArg State.power honly :), (congrArg (fun x : State => x.aon.options) honly :),
    (congrArg (fun x : State => x.aon.frozen) honly :), (congrArg (fun x : State => x.aon.laneOff) honly :)⟩

theorem inReset_of_power {s t : State} (h : t.power = s.power) : inReset t = inReset s := by
  rw [inReset, inReset, h]

/-- The option load begins the power-up of every voted domain whose supply is on (R425). -/
theorem domainState_optionLoad {s strap} (hreset : inReset s = false) (d) :
    domainState (powerUpVoted (optionsJudged strap s)) d = if rises s d then .rising else domainState s d := by
  obtain ⟨hpower, -, hfrozen, hlane⟩ := optionsJudged_parts strap s
  have hstates : domainState (optionsJudged strap s) = domainState s :=
    (domainState_of_power hpower).trans (by funext e; cases e <;> rfl)
  have hload : (optionsJudged strap s).power.loadRunning = false := by rw [hpower]; rfl
  have hnow : inReset (optionsJudged strap s) = false := (inReset_of_power hpower).trans hreset
  rw [domainState_powerUpVoted, hstates]
  simp only [canRise_of_free hnow hload, rises_congr hstates (by rw [hpower]; rfl) hfrozen hlane]

theorem optionsJudged_of_none {strap s} (h : (chooseOptions s).2.2 = none) :
    optionsJudged strap s = optionsTaken strap s :=
  congrArg (judged · (optionsTaken strap s)) h

theorem optionsJudged_of_some {strap s k} (h : (chooseOptions s).2.2 = some k) :
    optionsJudged strap s = raiseKind k {} (optionsTaken strap s) :=
  congrArg (judged · (optionsTaken strap s)) h

theorem chooseOptions_options (s) : (chooseOptions s).2.1 = (if optionValid s.nvm.optionA then optionsOf s.nvm.optionA
    else if optionValid s.nvm.optionB then optionsOf s.nvm.optionB else {}) := by
  unfold chooseOptions
  split
  · rfl
  · split <;> rfl

/-- The option load takes copy A, else copy B, else the safe defaults (R426). -/
theorem optionLoadCommits {s strap} (hreset : inReset s = false) (hload : s.power.loadRunning = true) :
    ∃ t, exec (.optionLoadCommit strap) s = .next t
      ∧ t.power.loadRunning = false
      ∧ (optionValid s.nvm.optionA = true → t.power.optionCopyUsed = 0 ∧ t.faults = s.faults)
      ∧ (optionValid s.nvm.optionA = false → optionValid s.nvm.optionB = true →
          t.power.optionCopyUsed = 1 ∧ (blockOf t 0x17).bits.getLsbD (kindBit 0x17 0x3B) = true)
      ∧ (optionValid s.nvm.optionA = false → optionValid s.nvm.optionB = false →
          t.power.optionCopyUsed = 2 ∧ t.power.options = {} ∧ t.power.strapCode = 0xFF ∧ isActive t 0x3C 0x17 = true)
      ∧ (∀ o, o = (if optionValid s.nvm.optionA then optionsOf s.nvm.optionA
            else if optionValid s.nvm.optionB then optionsOf s.nvm.optionB else {}) →
          t.power.options = (if o.strapCompat then applyStrap (strapCode strap) o else o)
          ∧ t.power.strapCode = (if o.strapCompat then strapCode strap else 0xFF)
          ∧ t.aon.options = t.power.options)
      ∧ (∀ d, domainState t d = if rises s d then .rising else domainState s d) := by
  obtain ⟨hpower, hoptions, -, -⟩ := optionsJudged_parts strap s
  obtain ⟨hfaults, haon⟩ := powerUpVoted_rest (optionsJudged strap s)
  obtain ⟨-, hrunning, hcopy, hopts, hstrap⟩ := powerUpVoted_power (optionsJudged strap s)
  have hcopyUsed : (powerUpVoted (optionsJudged strap s)).power.optionCopyUsed = (chooseOptions s).1 :=
    hcopy.trans (congrArg Power.optionCopyUsed hpower)
  refine ⟨_, execOptionLoad_commits hreset hload, hrunning.trans (congrArg Power.loadRunning hpower), fun ha => ?_,
    fun ha hb => ?_, fun ha hb => ?_, fun o ho => ?_, domainState_optionLoad hreset⟩
  · have hchoose : chooseOptions s = (0, optionsOf s.nvm.optionA, none) := if_pos ha
    refine ⟨hcopyUsed.trans (by rw [hchoose]), hfaults.trans ?_⟩
    rw [optionsJudged_of_none (by rw [hchoose])]
    rfl
  · have hchoose : chooseOptions s = (1, optionsOf s.nvm.optionB, some 0x3B) := by simp [chooseOptions, ha, hb]
    refine ⟨hcopyUsed.trans (by rw [hchoose]), ?_⟩
    rw [blockOf, hfaults, optionsJudged_of_some (k := 0x3B) (by rw [hchoose])]
    exact (raiseKind_noted 0x3B {} (optionsTaken strap s) rfl (by decide)).1
  · have hchoose : chooseOptions s = (2, {}, some 0x3C) := by simp [chooseOptions, ha, hb]
    refine ⟨hcopyUsed.trans (by rw [hchoose]), ?_, ?_, ?_⟩
    · rw [hopts, hpower, optionsTaken, hchoose]
      rfl
    · rw [hstrap, hpower, optionsTaken, hchoose]
      rfl
    · rw [isActive, hfaults, optionsJudged_of_some (k := 0x3C) (by rw [hchoose])]
      exact raiseKind_active 0x3C {} (optionsTaken strap s) rfl
  · rw [← chooseOptions_options] at ho
    rw [hopts, hstrap, haon, hoptions, hpower, ho]
    exact ⟨rfl, rfl, rfl⟩

end Sys2Proof.Laws
end

section
/-!
The power-down of a domain, and what it held (R438).
-/

namespace Sys2Proof.Laws

open Sys2Proof Sys2Proof.Machine

/-! ## The parts that a domain loses -/

/-- The state at the isolation point, before the domain loses what it holds. -/
def isolating (d : Domain) (s : State) : State :=
  closeWrappers (fun u => unitDomain u == d) (setDomain d .minOff s)

theorem powerDown_eq (d s) : powerDown d s = isolateUnits d (dropDomain d (isolating d s)) := rfl

/-- What raises and their ends may change is all that follows the loss. -/
theorem powerDown_only (d s) :
    Outside.faultParts (settle (powerDown d s)) = Outside.faultParts (dropDomain d (isolating d s)) := by
  rw [settle_only, powerDown_eq, isolateUnits_only]

/-- But for the link, raises and their ends touch no part of a port or a bus. -/
theorem powerDown_outside (d s) :
    Outside.records (settle (powerDown d s)) = Outside.records (dropDomain d (isolating d s)) :=
  (Outside.records_of_faultsLink (settle_frame (powerDown d s))).trans (isolateUnits_frame d _)

/-- A part that raises and their ends do not touch reads as the loss has left it. -/
theorem read_powerDown {α : Type} (view : State → α) (hview : ∀ t, view (Outside.records t) = view t) (d s) :
    view (settle (powerDown d s)) = view (dropDomain d (isolating d s)) := by
  rw [← hview, powerDown_outside, hview]

theorem isolating_only (d s) : Outside.faultParts (isolating d s) = Outside.faultParts (setDomain d .minOff s) :=
  closeWrappers_only _ _

theorem isolating_recoveries (d s) : recoveries (isolating d s) = recoveries s := by
  have hclose : recoveries (isolating d s) = recoveries (setDomain d .minOff s) :=
    (foldl_keeps recoveries (fun t r => sendWaybill_recoveries _ _ _ t) _ _).trans rfl
  exact hclose.trans (recoveries_of_aon (congrArg State.aon (setDomain_frame d .minOff s) :))

/-- What the isolation leaves of the time, the ring's and the host's records and the sinks. -/
theorem isolating_parts (d s) : (isolating d s).scan = s.scan ∧ (isolating d s).sinks = s.sinks
    ∧ (isolating d s).aon.leap = s.aon.leap ∧ (isolating d s).aon.ldShutdown = s.aon.ldShutdown
    ∧ (isolating d s).aon.adShutdown = s.aon.adShutdown ∧ (isolating d s).host.sbp = s.host.sbp := by
  have honly := isolating_only d s
  have hset := setDomain_frame d .minOff s
  exact ⟨(congrArg State.scan honly :).trans (congrArg State.scan hset :),
    (congrArg State.sinks honly :).trans (congrArg State.sinks hset :),
    (congrArg (fun x : State => x.aon.leap) honly :).trans (congrArg (fun x : State => x.aon.leap) hset :),
    (congrArg (fun x : State => x.aon.ldShutdown) honly :).trans (congrArg (fun x : State => x.aon.ldShutdown) hset :),
    (congrArg (fun x : State => x.aon.adShutdown) honly :).trans (congrArg (fun x : State => x.aon.adShutdown) hset :),
    (congrArg (fun x : State => x.host.sbp) honly :).trans (congrArg (fun x : State => x.host.sbp) hset :)⟩

theorem dropDomain_dram (s) : (dropDomain .dram s).dram = [] ∧ (dropDomain .dram s).units.dramTrained = false :=
  ⟨rfl, rfl⟩

theorem dropDomain_aux_sinks (s) : (dropDomain .aux s).sinks = heldSinks s := rfl

theorem dropDomain_pix (s) : (dropDomain .pix s).scan.running = false ∧ (dropDomain .pix s).manifest = {}
    ∧ (dropDomain .pix s).compose = {} ∧ (dropDomain .pix s).almanac.entries = [] :=
  ⟨rfl, rfl, rfl, rfl⟩

/-- DRAM loses its contents and its training (R438). -/
theorem powerDown_dram (s) :
    (settle (powerDown .dram s)).dram = [] ∧ (settle (powerDown .dram s)).units.dramTrained = false := by
  obtain ⟨hdram, htrained⟩ := dropDomain_dram (isolating .dram s)
  exact ⟨(read_powerDown State.dram (fun _ => rfl) .dram s).trans hdram,
    (read_powerDown (fun x => x.units.dramTrained) (fun _ => rfl) .dram s).trans htrained⟩

/-- AUX holds of its sinks what stands over a power-down (R438). -/
theorem powerDown_aux (s) : (settle (powerDown .aux s)).sinks = heldSinks s := by
  obtain ⟨-, hkept, -, hld, had, -⟩ := isolating_parts .aux s
  have hlatch : isLatched (isolating .aux s) 0x48 = isLatched s 0x48 := by
    rw [isLatched, recoveryOf_of_recoveries (isolating_recoveries .aux s), isLatched]
  rw [read_powerDown State.sinks (fun _ => rfl), dropDomain_aux_sinks, heldSinks, hlatch, hkept, hld, had, heldSinks]

/-- PIX loses the scan, the Manifest, the composition and the Almanac (R438). -/
theorem powerDown_pix (s) : (settle (powerDown .pix s)).scan.running = false ∧ (settle (powerDown .pix s)).manifest = {}
    ∧ (settle (powerDown .pix s)).compose = {} ∧ (settle (powerDown .pix s)).almanac.entries = [] := by
  obtain ⟨hscan, hmanifest, hcompose, halmanac⟩ := dropDomain_pix (isolating .pix s)
  exact ⟨(read_powerDown (fun x => x.scan.running) (fun _ => rfl) .pix s).trans hscan,
    (read_powerDown State.manifest (fun _ => rfl) .pix s).trans hmanifest,
    (read_powerDown State.compose (fun _ => rfl) .pix s).trans hcompose,
    (read_powerDown (fun x => x.almanac.entries) (fun _ => rfl) .pix s).trans halmanac⟩

theorem enable_clearUnits {d p} {s : State} (h : (s.link.get p).enable = false) :
    ((clearUnits d s).link.get p).enable = false := by
  unfold clearUnits
  generalize s.faults.active = kinds
  induction kinds generalizing s with
  | nil => exact h
  | cons a kinds ih =>
    refine ih ?_
    dsimp only
    split
    · exact enable_clearCondition _ _ h
    · exact h

theorem dropLink_link (s) : (dropLink s).link = (dropHostLanes s).link.map fun _ l => darkLink l := rfl

/-- LINK loses the LS, and every port is dark (R438). -/
theorem powerDown_link (s) : (settle (powerDown .link s)).units.ls = PerPort.const .off
    ∧ ∀ p, ((settle (powerDown .link s)).link.get p).enable = false := by
  have hls : ∀ u, (dropDomain .link u).units.ls = PerPort.const .off := fun _ => rfl
  refine ⟨(read_powerDown (fun x => x.units.ls) (fun _ => rfl) .link s).trans (hls _), fun p => enable_settle ?_⟩
  have hdark : ((dropLink (isolating .link s)).link.get p).enable = false := by
    rw [dropLink_link, perPort_get_map]
    rfl
  exact enable_clearUnits (d := .link) hdark

/-! ### CORE -/

/-- The sideband port but for the status of its last write. -/
def sideband (s : State) : Sideband := { s.host.sbp with status := none }

theorem sideband_of_host {s t : State} (h : t.host.sbp = s.host.sbp) : sideband t = sideband s := by
  rw [sideband, h, sideband]

theorem quietRecords_sbp (s) : (quietRecords s).host.sbp = s.host.sbp := rfl

theorem setIrq_sbp (bit s) : (setIrq bit s).host.sbp = s.host.sbp := rfl

theorem setOdStatus_sbp (status object s) : (setOdStatus status object s).host.sbp = s.host.sbp := rfl

theorem recordRefusal_sideband (record index sub status s) :
    sideband (recordRefusal record index sub status s) = sideband s := by
  refine sideband_of_host ?_
  rw [recordRefusal, quietRecords_sbp, setIrq_sbp, setOdStatus_sbp]

theorem canSend_sbp (bus id frames s) : (canSend bus id frames s).host.sbp = s.host.sbp := by
  unfold canSend
  dsimp only
  split <;> rfl

theorem answerCan_sbp (node bus write tag index status bs s) :
    (answerCan node bus write tag index status bs s).host.sbp = s.host.sbp := by
  unfold answerCan
  dsimp only
  split
  · rw [canSend_sbp, canSend_sbp]
  · rw [canSend_sbp]

theorem sideband_answer (via write index sub status bs s) (h : via = .sbp → write = true) :
    sideband (answer via write index sub status bs s) = sideband s := by
  cases via with
  | can bus tag =>
    exact sideband_of_host (answerCan_sbp _ _ _ _ _ _ _ _)
  | uhl record =>
    rw [answer, apply_ite sideband, recordRefusal_sideband, ite_self]
  | sbp =>
    rw [h rfl]
    rfl
  | shp tag | caravan tag => rfl

theorem busyRequests_sideband (s) : sideband (busyRequests s) = sideband s :=
  busyRequests_view sideband_answer (fun _ _ h => sideband_of_host h)
    (dropPackets_view (fun _ _ h => sideband_of_host h) (fun _ _ => rfl) (fun _ _ => rfl) (fun _ _ _ => rfl)
      fun s => sideband_of_host (congrArg (fun x : State => x.host.sbp) (clearCondition_frame 0x0B 0x06 s) :))
    (refuseAll_view sideband_answer _ _ _ s)

/-- The time, the Epoch and the Leap value that the AON has been sent (R55). -/
def shadowTime (s : State) : BitVec 48 × BitVec 32 × BitVec 40 :=
  (s.aon.shadow.dt, s.aon.shadow.epoch, s.aon.shadow.leap)

theorem shadowTime_of_only {s t : State} (h : Outside.faultParts t = Outside.faultParts s) :
    shadowTime t = shadowTime s := (congrArg (fun x : State => shadowTime x) h :)

theorem shadowTime_answer (via write index sub status bs s) (_ : via = .sbp → write = true) :
    shadowTime (answer via write index sub status bs s) = shadowTime s :=
  (congrArg (fun x : State => shadowTime x) (answer_frame via write index sub status bs s) :)

theorem busyRequests_shadow (s) : shadowTime (busyRequests s) = shadowTime s :=
  busyRequests_view shadowTime_answer (fun _ _ _ => rfl)
    (dropPackets_view (fun _ _ _ => rfl) (fun _ _ => rfl) (fun _ _ => rfl) (fun _ _ _ => rfl)
      fun s => shadowTime_of_only (clearCondition_only 0x0B 0x06 s))
    (refuseAll_view shadowTime_answer _ _ _ s)

theorem dropDomain_core (s) : ∃ u, dropDomain .core s = dropCore u ∧ sideband u = sideband s
    ∧ shadowTime u = (s.scan.dt, s.scan.epoch, s.aon.leap) :=
  ⟨_, rfl, (busyRequests_sideband (sendShadow s)).trans rfl, (busyRequests_shadow (sendShadow s)).trans rfl⟩

theorem dropCore_parts (s) : (dropCore s).host = { sbp := s.host.sbp } ∧ (dropCore s).units.cp = .off
    ∧ (dropCore s).access.session = none ∧ shadowTime (dropCore s) = shadowTime s :=
  ⟨rfl, rfl, rfl, rfl⟩

/-- CORE loses the CP, its sessions and its ports, and the AON has been sent the time (R55, R438). -/
theorem powerDown_core (s) :
    let t := settle (powerDown .core s)
    t.host = { sbp := { s.host.sbp with status := t.host.sbp.status } } ∧ t.units.cp = .off ∧ t.access.session = none
      ∧ t.aon.shadow.dt = s.scan.dt ∧ t.aon.shadow.epoch = s.scan.epoch ∧ t.aon.shadow.leap = s.aon.leap := by
  intro t
  obtain ⟨u, hdrop, hside, hshadow⟩ := dropDomain_core (isolating .core s)
  obtain ⟨hhost, hcp, hsession, htime⟩ := dropCore_parts u
  obtain ⟨hscan, -, hleap, -, -, hsbp⟩ := isolating_parts .core s
  have hthost : t.host = { sbp := u.host.sbp } :=
    (read_powerDown State.host (fun _ => rfl) .core s).trans ((congrArg State.host hdrop).trans hhost)
  have htshadow : shadowTime t = (s.scan.dt, s.scan.epoch, s.aon.leap) := by
    refine (shadowTime_of_only (powerDown_only .core s)).trans ?_
    rw [hdrop, htime, hshadow, hscan, hleap]
  have hheld : sideband u = sideband s := hside.trans (sideband_of_host hsbp)
  simp only [shadowTime, Prod.mk.injEq] at htshadow
  refine ⟨?_, ?_, ?_, htshadow⟩
  · rw [hthost]
    have hport : u.host.sbp = { s.host.sbp with status := u.host.sbp.status } :=
      congrArg (fun x : Sideband => { x with status := u.host.sbp.status }) hheld
    exact congrArg (fun x : Sideband => ({ sbp := x } : HostPorts)) hport
  · exact (read_powerDown (fun x => x.units.cp) (fun _ => rfl) .core s).trans
      ((congrArg (fun x : State => x.units.cp) hdrop).trans hcp)
  · exact (read_powerDown (fun x => x.access.session) (fun _ => rfl) .core s).trans
      ((congrArg (fun x : State => x.access.session) hdrop).trans hsession)

end Sys2Proof.Laws
end

section
/-!
O6: the units of a domain leave reset, and the assembly (R14, R425, R426, R429, R437 to R440).
-/

namespace Sys2Proof.Laws

open Sys2Proof Sys2Proof.Machine

/-! ## CORE powers up (R440) -/

/-- What the return of the time leaves as it was. -/
def coreEntry (s : State) : Power × Units × BitVec 40 × BitVec 16 :=
  (s.power, s.units, s.aon.leap, s.aon.bootCount)

theorem coreEntry_of_only {s t : State} (h : Outside.faultParts t = Outside.faultParts s) : coreEntry t = coreEntry s :=
  (congrArg (fun x : State => coreEntry x) h :)

theorem requalifyLd_entry (s) : coreEntry (requalifyLd s) = coreEntry s := by
  have hclear : ∀ k u t, coreEntry (clearCondition k u t) = coreEntry t := fun k u t =>
    coreEntry_of_only (clearCondition_only k u t)
  unfold requalifyLd
  simp only [apply_ite coreEntry, hclear, ite_self]
  rfl

/-- The values wait for the CP's restore, and the time comes back (R55). -/
def coreReturned (s : State) : State :=
  let s1 := { requalifyLd s with
    dict := { s.dict with
      values := s.dict.values.filter fun e =>
        (decide (0x700000 ≤ e.1) && decide (e.1 < 0x800000)) || isWakeKey e.1 }
    almanac := { s.almanac with restart := true }
    caravan := ringUp s
    scan := { rate := startRate s, period := periodOf (startRate s) 0 } }
  if s.power.bootCause = 1 then s1
  else if s.power.bootCause = 4 then
    restoreTime (publishLeap (journalValue s 0x8200 5) (journalValue s 0x8200 6) s1)
  else restoreTime s1

/-- HostVote takes its default, and the CP begins to boot (R440). -/
def coreVoted (s : State) : State :=
  bootCp (onVotes (fun v => { v with host := allDomains, cal := 0, caravan := 0 }) (noteSmStart s))

/-- The boot of CORE is entered (R367). -/
def bootEntered (s : State) : State :=
  onPower (fun w => { w with bootCause := 4 }) (writeBoot (takeBootCause s).1 0 (takeBootCause s).2)

theorem coreUp_eq (s) : coreUp s = bootEntered (coreVoted (coreReturned s)) := rfl

theorem coreReturned_entry (s) : coreEntry (coreReturned s) = coreEntry s := by
  have hkept : ∀ t d a c x, coreEntry { t with dict := d, almanac := a, caravan := c, scan := x } = coreEntry t :=
    fun _ _ _ _ _ => rfl
  have htime : ∀ t, coreEntry (restoreTime t) = coreEntry t := fun _ => rfl
  have hleap : ∀ a b t, coreEntry (publishLeap a b t) = coreEntry t := fun _ _ _ => rfl
  unfold coreReturned
  dsimp only
  split
  · rw [hkept, requalifyLd_entry]
  · split
    · rw [htime, hleap, hkept, requalifyLd_entry]
    · rw [htime, hkept, requalifyLd_entry]

theorem coreVoted_parts (s) : domainState (coreVoted s) = domainState s ∧ (coreVoted s).power.votes.host = 0x7C
    ∧ (coreVoted s).aon = s.aon ∧ (s.power.options.bootSource ≠ 2 → (coreVoted s).units.cp = .booting
        ∧ (coreVoted s).power.votes.cp = s.power.votes.cp ||| 0x04) := by
  have hsource : (onVotes (fun v => { v with host := allDomains, cal := 0, caravan := 0 })
    (noteSmStart s)).power.options.bootSource = s.power.options.bootSource := rfl
  unfold coreVoted bootCp
  rw [hsource]
  split
  · next hmss => exact ⟨by funext e; cases e <;> rfl, rfl, rfl, fun h => absurd hmss h⟩
  · exact ⟨by funext e; cases e <;> rfl, rfl, rfl, fun _ => ⟨rfl, rfl⟩⟩

theorem takeBootCause_parts (s) : (takeBootCause s).2.power = s.power ∧ (takeBootCause s).2.units = s.units
    ∧ (takeBootCause s).2.aon = s.aon := by
  unfold takeBootCause
  split <;> exact ⟨rfl, rfl, rfl⟩

theorem bootEntered_parts (s) : domainState (bootEntered s) = domainState s
    ∧ (bootEntered s).power.votes = s.power.votes ∧ (bootEntered s).units = s.units
    ∧ (bootEntered s).aon.leap = s.aon.leap ∧ (bootEntered s).aon.bootCount = s.aon.bootCount + 1 := by
  obtain ⟨hpower, hunits, haon⟩ := takeBootCause_parts s
  have hwrite : ∀ c t, domainState (onPower (fun w => { w with bootCause := 4 }) (writeBoot c 0 t)) = domainState t
      ∧ (onPower (fun w => { w with bootCause := 4 }) (writeBoot c 0 t)).power.votes = t.power.votes
      ∧ (onPower (fun w => { w with bootCause := 4 }) (writeBoot c 0 t)).units = t.units
      ∧ (onPower (fun w => { w with bootCause := 4 }) (writeBoot c 0 t)).aon.leap = t.aon.leap
      ∧ (onPower (fun w => { w with bootCause := 4 }) (writeBoot c 0 t)).aon.bootCount = t.aon.bootCount + 1 :=
    fun _ _ => ⟨by funext e; cases e <;> rfl, rfl, rfl, rfl, rfl⟩
  obtain ⟨hdomains, hvotes, hunits', hleap, hcount⟩ := hwrite (takeBootCause s).1 (takeBootCause s).2
  exact ⟨hdomains.trans (domainState_of_power hpower), hvotes.trans (congrArg Power.votes hpower),
    hunits'.trans hunits, hleap.trans (congrArg Aon.leap haon), hcount.trans (congrArg (·.bootCount + 1) haon)⟩

/-- What the power-up of CORE leaves (R367, R440). -/
theorem coreUp_parts (s) : domainState (coreUp s) = domainState s ∧ (coreUp s).power.votes.host = 0x7C
    ∧ (coreUp s).aon.leap = s.aon.leap ∧ (coreUp s).aon.bootCount = s.aon.bootCount + 1
    ∧ (s.power.options.bootSource ≠ 2 → (coreUp s).units.cp = .booting
        ∧ (coreUp s).power.votes.cp = s.power.votes.cp ||| 0x04) := by
  have hentry := coreReturned_entry s
  simp only [coreEntry, Prod.mk.injEq] at hentry
  obtain ⟨hpower, -, hleap, hcount⟩ := hentry
  obtain ⟨hstates, hhost, haon, hboot⟩ := coreVoted_parts (coreReturned s)
  obtain ⟨hstates', hvotes, hunits, hleap', hcount'⟩ := bootEntered_parts (coreVoted (coreReturned s))
  rw [coreUp_eq]
  refine ⟨hstates'.trans (hstates.trans (domainState_of_power hpower)), ?_, ?_, ?_, fun hsource => ?_⟩
  · rw [hvotes, hhost]
  · rw [hleap', haon, hleap]
  · rw [hcount', haon, hcount]
  · rw [hpower] at hboot
    rw [hunits, hvotes]
    exact hboot hsource

/-! ## The other domains power up (R440) -/

theorem pixUp_rest (s) : (pixUp s).power = s.power ∧ (pixUp s).aon = s.aon := by
  have hinvert : ∀ t, (invertMeshes t).power = t.power ∧ (invertMeshes t).aon = t.aon := fun t =>
    ⟨(congrArg State.power (invertMeshes_frame t) :), (congrArg State.aon (invertMeshes_frame t) :)⟩
  have hstep : ∀ p t, (rebuildSteps p t).power = t.power ∧ (rebuildSteps p t).aon = t.aon := fun p t =>
    ⟨(congrArg State.power (rebuildSteps_frame p t) :), (congrArg State.aon (rebuildSteps_frame p t) :)⟩
  have hsteps : ∀ (ps : List Port) t, (ps.foldl (fun t p => rebuildSteps p t) t).power = t.power
      ∧ (ps.foldl (fun t p => rebuildSteps p t) t).aon = t.aon := fun ps t =>
    ⟨foldl_keeps State.power (fun u p => (hstep p u).1) ps t, foldl_keeps State.aon (fun u p => (hstep p u).2) ps t⟩
  unfold pixUp
  dsimp only
  split
  · rw [(hsteps _ _).1, (hsteps _ _).2, (hinvert _).1, (hinvert _).2]
    exact ⟨rfl, rfl⟩
  · exact ⟨rfl, rfl⟩

theorem linkUp_rest (s) : (linkUp s).power = s.power ∧ (linkUp s).aon = s.aon
    ∧ ∀ p, (linkUp s).units.ls.get p = if hasPort s p then .booting else .off :=
  ⟨rfl, rfl, fun p => perPort_get_map _ _ p⟩

theorem applyGroup_applied (g s) : (applyGroup g s).sinks.applied = s.sinks.applied := by
  have hchannel : ∀ c f t, (onSink c f t).sinks.applied = t.sinks.applied := fun _ _ _ => rfl
  have hgroup : ∀ f t, (onGroup g f t).sinks.applied = t.sinks.applied := fun _ _ => rfl
  unfold applyGroup
  rw [hgroup]
  exact foldl_keeps (fun t : State => t.sinks.applied) (fun t c => hchannel _ _ t) _ _

/-- The sinks at the option defaults (R402). -/
def sinksDefault (s : State) : State :=
  (List.range 4).foldl (fun s g => applyGroup g s) (dropVolatile .aux { s with
    sinks := { s.sinks with restored := false, applied := false } })

theorem auxUp_eq (s) : auxUp s = { sinksDefault s with
    sinks := { (sinksDefault s).sinks with restored := cpReady (sinksDefault s) } } := rfl

theorem cpReady_of_parts {s t : State} (hpower : t.power = s.power) (hunits : t.units = s.units) :
    cpReady t = cpReady s := by
  rw [cpReady, cpReady, isOn_of_domainState (domainState_of_power hpower), hunits]

theorem sinksDefault_rest (s) : (sinksDefault s).power = s.power ∧ (sinksDefault s).units = s.units
    ∧ (sinksDefault s).aon = s.aon ∧ (sinksDefault s).sinks.applied = false := by
  have hgroup : ∀ g t, (applyGroup g t).power = t.power ∧ (applyGroup g t).units = t.units
      ∧ (applyGroup g t).aon = t.aon := fun g t =>
    ⟨(congrArg State.power (applyGroup_frame g t) :), (congrArg State.units (applyGroup_frame g t) :),
      (congrArg State.aon (applyGroup_frame g t) :)⟩
  refine ⟨?_, ?_, ?_, ?_⟩
  · exact foldl_keeps State.power (fun t g => (hgroup g t).1) _ _
  · exact foldl_keeps State.units (fun t g => (hgroup g t).2.1) _ _
  · exact foldl_keeps State.aon (fun t g => (hgroup g t).2.2) _ _
  · exact foldl_keeps (fun t : State => t.sinks.applied) (fun t g => applyGroup_applied g t) _ _

theorem auxUp_rest (s) : (auxUp s).power = s.power ∧ (auxUp s).aon = s.aon
    ∧ (auxUp s).sinks.restored = cpReady s ∧ (auxUp s).sinks.applied = false := by
  obtain ⟨hpower, hunits, haon, happlied⟩ := sinksDefault_rest s
  rw [auxUp_eq]
  generalize sinksDefault s = u at *
  exact ⟨hpower, haon, cpReady_of_parts hpower hunits, happlied⟩

/-- A power-up changes no domain's state and not the Leap value. -/
theorem domainUp_rest (d s) : domainState (domainUp d s) = domainState s ∧ (domainUp d s).aon.leap = s.aon.leap := by
  cases d with
  | core => exact ⟨(coreUp_parts s).1, (coreUp_parts s).2.2.1⟩
  | pix => exact ⟨domainState_of_power (pixUp_rest s).1, congrArg Aon.leap (pixUp_rest s).2⟩
  | link => exact ⟨domainState_of_power (linkUp_rest s).1, congrArg Aon.leap (linkUp_rest s).2.1⟩
  | aux => exact ⟨domainState_of_power (auxUp_rest s).1, congrArg Aon.leap (auxUp_rest s).2.1⟩
  | aon | safe | dram => exact ⟨rfl, rfl⟩

end Sys2Proof.Laws
end

section
/-!
O6: the ends of power-ups and power-downs, and the assembly.
-/

namespace Sys2Proof.Laws

open Sys2Proof Sys2Proof.Machine

/-! ## The start of a power-down (R438) -/

theorem execPowerDown_starts {s d} (hreset : inReset s = false) (hvoteable : voteable.contains d = true)
    (hon : isOn s d = true) (hvote : heldByVote s.power.votes d = false)
    (hfree : ∀ e ∈ dependants d, domainState s e ≠ .on ∧ domainState s e ≠ .rising) :
    exec (.domainPowerDownStart d) s = .next (settle (quiesce d s)) := by
  have hheld : heldByDependant s d = false := List.any_eq_false.2 fun e he => by
    obtain ⟨hnotOn, hnotRising⟩ := hfree e he
    simp [hnotOn, hnotRising]
  exact congrArg Host.Outcome.next (if_neg (by simp only [hreset, hvoteable, hon, hvote, hheld]; decide))

theorem ne_aon_of_voteable {d} (h : voteable.contains d = true) : d ≠ .aon := by
  rintro rfl
  exact absurd h (by decide)

/-- CORE closes the ring before it goes (R455). -/
def ringClosed (s : State) : State := onRing closingFrame s

theorem quiesce_core (s) : quiesce .core s = powerDown .core (ringClosed s) :=
  congrArg (powerDown .core) (if_pos rfl)

theorem quiesce_other {d} (s) (h : d ≠ .core) : quiesce d s = powerDown d s := congrArg (powerDown d) (if_neg h)

theorem domainState_quiesce {d} (s) (hd : d ≠ .aon) :
    domainState (settle (quiesce d s)) = Function.update (domainState s) d .minOff := by
  rw [domainState_settle, quiesce, domainState_powerDown _ hd]
  split <;> rfl

/-- No status record of the domain's units is left (R441). -/
theorem blocks_powerDown (d s) : ∀ b ∈ (settle (powerDown d s)).faults.blocks, unitDomain b.unit ≠ d := by
  intro b hb
  rw [(Prod.mk.inj (settle_activity (powerDown d s))).2] at hb
  have hkept : (powerDown d s).faults.blocks = ((clearUnits d (dropDomain d (isolating d s))).faults.blocks.filter
    fun b => unitDomain b.unit != d) := rfl
  rw [hkept] at hb
  simpa using (List.mem_filter.1 hb).2

theorem ringClosed_parts (s) : (ringClosed s).host = s.host ∧ (ringClosed s).scan = s.scan
    ∧ (ringClosed s).aon = s.aon := ⟨rfl, rfl, rfl⟩

/-! ## The end of the minimum off time (R438, R439) -/

theorem isOn_setOff {s d} (hd : domainState s d = .minOff) (q) : isOn (setDomain d .off s) q = isOn s q := by
  have hne : d ≠ .aon := by
    rintro rfl
    exact nomatch (show DomainState.on = .minOff from hd)
  rw [isOn, isOn, domainState_setDomain _ _ hne, Function.update_apply]
  split
  · next heq => rw [heq, hd]; rfl
  · rfl

theorem minOffEnds {s d} (hvoteable : voteable.contains d = true) (hmin : domainState s d = .minOff) :
    ∃ t, exec (.domainMinOffEnd d) s = .next t ∧ t = { s with power := t.power }
      ∧ domainState t d = (if !inReset s && !s.power.loadRunning && heldByVote s.power.votes d && !forcedOff s d
            && (dependsOn d).all fun e => isOn s e then .rising else .off) := by
  refine ⟨powerUpVoted (setDomain d .off s), congrArg Host.Outcome.next (if_pos (by simp [hmin])),
    Outside.power_eq ((powerUpVoted_frame _).trans (setDomain_frame _ _ _)), ?_⟩
  obtain ⟨hreset, hload, hvotes, haon⟩ := setDomain_power_rest d .off s
  have hoff : domainState (setDomain d .off s) d = .off := by
    rw [domainState_setDomain _ _ (ne_aon_of_voteable hvoteable), Function.update_self]
  have hforced : forcedOff (setDomain d .off s) d = forcedOff s d := by
    cases d <;> simp only [forcedOff, haon]
  rw [domainState_powerUpVoted, hoff]
  simp only [hvoteable, true_and, canRise, hoff, hreset, hload, hvotes, hforced, isOn_setOff hmin, beq_self_eq_true,
    Bool.and_true]

/-! ## The end of a power-up (R440) -/

/-- The domain is on, and its units leave reset. -/
def cameUp (d : Domain) (leap : Nat) (s : State) : State := domainUp d (setDomain d .on (countLeap leap s))

theorem execPowerUp_ends {s d leap} (hreset : inReset s = false) (hrising : domainState s d = .rising)
    (hsupplied : d = .core → coreSupplied s = true) (hdepends : ∀ e ∈ dependsOn d, isOn s e = true) :
    exec (.domainPowerUpDone d leap) s = .next (settle (powerUpVoted (cameUp d leap s))) := by
  have hall : ((dependsOn d).all fun q => isOn s q) = true := List.all_eq_true.2 hdepends
  have hcore : (d == .core && !coreSupplied s) = false := by
    by_cases hd : d = .core
    · simp [hsupplied hd]
    · simp [hd]
  exact congrArg Host.Outcome.next (if_neg (by simp only [hreset, hrising, hcore, hall]; decide))

theorem domainState_cameUp {d} (leap s) (hd : d ≠ .aon) :
    domainState (cameUp d leap s) = Function.update (domainState s) d .on := by
  rw [cameUp, (domainUp_rest d _).1, domainState_setDomain _ _ hd]
  rfl

theorem ne_aon_of_rising {s d} (h : domainState s d = .rising) : d ≠ .aon := by
  rintro rfl
  exact nomatch (show DomainState.on = .rising from h)

/-- The domain is on, and of the others only such as were off have begun to rise (R437). -/
theorem domainState_powerUpEnds {s d} (leap) (hrising : domainState s d = .rising) :
    let t := settle (powerUpVoted (cameUp d leap s))
    domainState t d = .on
      ∧ ∀ e, e ≠ d → domainState t e = domainState s e ∨ domainState t e = .rising ∧ domainState s e = .off := by
  intro t
  have hup := domainState_cameUp leap s (ne_aon_of_rising hrising)
  have hstate : ∀ e, domainState t e = _ := fun e =>
    (congrFun (domainState_settle _) e).trans (domainState_powerUpVoted (cameUp d leap s) e)
  have hself : domainState (cameUp d leap s) d = .on := by rw [hup, Function.update_self]
  refine ⟨?_, fun e he => ?_⟩
  · rw [hstate, hself, if_neg]
    exact fun h => absurd ((off_of_canRise h.2).symm.trans hself) (by decide)
  · have hother : domainState (cameUp d leap s) e = domainState s e := by rw [hup, Function.update_of_ne he]
    rw [hstate, hother]
    by_cases hrise : voteable.contains e = true ∧ canRise (cameUp d leap s) e = true
    · exact .inr ⟨if_pos hrise, hother.symm.trans (off_of_canRise hrise.2)⟩
    · exact .inl (if_neg hrise)

theorem settle_rest (s) : (settle s).aon = s.aon ∧ (settle s).units = s.units ∧ (settle s).sinks = s.sinks
    ∧ (settle s).power = s.power :=
  have hframe := settle_frame s
  ⟨(congrArg State.aon hframe :), (congrArg State.units hframe :), (congrArg State.sinks hframe :),
    (congrArg State.power hframe :)⟩

theorem powerUpVoted_units (s) : (powerUpVoted s).units = s.units ∧ (powerUpVoted s).sinks = s.sinks :=
  have hframe := powerUpVoted_frame s
  ⟨(congrArg State.units hframe :), (congrArg State.sinks hframe :)⟩

/-- What rising domains and the safe state leave of the units that come up. -/
theorem powerUpEnds_keeps (s) : (settle (powerUpVoted s)).aon = s.aon ∧ (settle (powerUpVoted s)).units = s.units
    ∧ (settle (powerUpVoted s)).sinks = s.sinks ∧ (settle (powerUpVoted s)).power.votes = s.power.votes := by
  obtain ⟨haon, hunits, hsinks, hpower⟩ := settle_rest (powerUpVoted s)
  obtain ⟨hunits', hsinks'⟩ := powerUpVoted_units s
  rw [haon, hunits, hsinks, hpower, (powerUpVoted_rest s).2, hunits', hsinks', (powerUpVoted_power s).1]
  exact ⟨rfl, rfl, rfl, rfl⟩

theorem cpReady_cameUp (s leap) : cpReady (setDomain .aux .on (countLeap leap s)) = cpReady s := rfl

/-- Settles O6: the option load, and each end of a power-up and power-down, by the lemmas above. -/
theorem domainsFollowTheVotes : Obligations.DomainsFollowTheVotes := by
  unfold Obligations.DomainsFollowTheVotes
  refine ⟨fun s strap => optionLoadCommits, fun s d hreset hvoteable hon hvote hfree => ?_,
    fun s d => minOffEnds, fun s d leap hreset hrising hsupplied hdepends => ?_, fun s leap hreset hlow => ?_⟩
  case refine_1 =>
    refine ⟨_, execPowerDown_starts hreset hvoteable hon hvote hfree, fun e => ?_, ?_, ?_, ?_, ?_, ?_, ?_⟩
    · rw [domainState_quiesce s (ne_aon_of_voteable hvoteable), Function.update_apply]
    · exact blocks_powerDown d _
    · rintro rfl
      rw [quiesce_other s (by decide)]
      exact powerDown_dram s
    · rintro rfl
      rw [quiesce_other s (by decide)]
      exact powerDown_aux s
    · rintro rfl
      rw [quiesce_other s (by decide)]
      exact powerDown_link s
    · rintro rfl
      rw [quiesce_other s (by decide)]
      exact powerDown_pix s
    · rintro rfl
      obtain ⟨hhost, hscan, haon⟩ := ringClosed_parts s
      rw [quiesce_core, ← hhost, ← hscan, ← haon]
      exact powerDown_core (ringClosed s)
  case refine_2 =>
    obtain ⟨hself, hothers⟩ := domainState_powerUpEnds leap hrising
    obtain ⟨haon, hunits, hsinks, hvotes⟩ := powerUpEnds_keeps (cameUp d leap s)
    refine ⟨_, execPowerUp_ends hreset hrising hsupplied hdepends, hself, hothers, ?_, ?_, ?_, ?_⟩
    · rw [haon, cameUp, (domainUp_rest d _).2, (setDomain_power_rest d .on _).2.2.2]
      rfl
    · rintro rfl p
      rw [hunits]
      exact (linkUp_rest (setDomain .link .on (countLeap leap s))).2.2 p
    · rintro rfl
      obtain ⟨-, -, hrestored, happlied⟩ := auxUp_rest (setDomain .aux .on (countLeap leap s))
      rw [hsinks]
      exact ⟨hrestored.trans (cpReady_cameUp s leap), happlied⟩
    · rintro rfl
      obtain ⟨-, hhost, -, hcount, hboot⟩ := coreUp_parts (setDomain .core .on (countLeap leap s))
      rw [hvotes, haon, hunits]
      exact ⟨hhost, hcount, hboot⟩
  case refine_3 =>
    exact congrArg Host.Outcome.next (if_pos (by simp [hlow]))

end Sys2Proof.Laws
end

section
/-!
O9: the commands that name a write of one object (R63, R97, R98, R102, R124, R133, R145, R236, R246, R271, R272, R279).
-/

namespace Sys2Proof.Laws

open Sys2Proof Sys2Proof.Machine

theorem kindsIn_zero (u : Nat) : kindsIn u 0 = [] := by
  simp [kindsIn]

/-- With no kind raised on its clock BLOCK_ACK is its write alone (R285, R373). -/
theorem execBlockAck_of_no_raise (via : Via) (unit : Nat) (data : List Byte) (s : State) :
    exec (.blockAck via unit ⟨data, 0⟩) s = .next (requestWrite via 0x7301 (unit % 256) data s) := by
  change execBlockAck via unit ⟨data, 0⟩ s = _
  unfold execBlockAck
  simp only [kindsIn_zero, raiseKinds, keepBits, List.foldl_nil]

/-- Settles O9: each command's meaning is the write of its object, by definition but for BLOCK_ACK. -/
theorem namedWritesAreObjectWrites : Obligations.NamedWritesAreObjectWrites := by
  intro via data p n s
  refine ⟨rfl, rfl, rfl, rfl, rfl, rfl, rfl, rfl, rfl, rfl, rfl, rfl, rfl, rfl, rfl, rfl, rfl, rfl,
    execBlockAck_of_no_raise via n data s, rfl, rfl, rfl, rfl, rfl, rfl, rfl, rfl⟩

end Sys2Proof.Laws
end

section
/-!
O45: the phase events of the references never step the scan position (R42, R44, R47, R245, R461).
-/

namespace Sys2Proof.Laws

open Sys2Proof Sys2Proof.Machine

/-! ## What the line DPLL derives from an event -/

/-- The scan outside what the line DPLL derives from its reference's events (R44 to R48, R461). -/
def Outside.dpll (c : Scan) : Scan :=
  { c with
    period := 0, lock := .freeRun, active := 0, onFallback := false, eventCount := 0, goodRun := 0, badRun := 0
    phaseError := 0, delta := 0, integral := 0, rejectCount := 0, lastEvent := none, lastToken := none
    everLocked := false }

theorem comparePhase_dpll (e c) : Outside.dpll (comparePhase e c) = Outside.dpll c := rfl

theorem beginAcquire_dpll (source fallback c) : Outside.dpll (beginAcquire source fallback c) = Outside.dpll c := rfl

theorem noteLock_dpll (before after) : Outside.dpll (noteLock before after) = Outside.dpll after := rfl

theorem acceptEvent_dpll (source t cap expected c) :
    Outside.dpll (acceptEvent source t cap expected c) = Outside.dpll c := by
  have hnoted : ∀ x n (c : Scan), Outside.dpll { c with lastEvent := x, eventCount := n } = Outside.dpll c :=
    fun _ _ _ => rfl
  unfold acceptEvent
  simp only [apply_ite Outside.dpll, comparePhase_dpll, hnoted, beginAcquire_dpll, ite_self]

theorem raiseKind_scan (k i s) : (raiseKind k i s).scan = s.scan := (congrArg State.scan (raiseKind_frame k i s) :)

/-- The scan after an accepted event, with the kind of a lost lock (R48). -/
def lockJudged (c : Scan) (s : State) : State :=
  let s1 := { s with scan := noteLock s.scan c }
  if lostLock s.scan c then raiseKind 0x43 {} s1 else s1

theorem lockJudged_scan (c s) : (lockJudged c s).scan = noteLock s.scan c := by
  unfold lockJudged
  dsimp only
  split
  · exact raiseKind_scan _ _ _
  · rfl

theorem phaseEvent_dpll (source fraction lat expected s) :
    Outside.dpll (phaseEvent source fraction lat expected s).scan = Outside.dpll s.scan := by
  unfold phaseEvent
  dsimp only
  split
  · rfl
  split
  · rfl
  exact (congrArg Outside.dpll (lockJudged_scan _ s)).trans ((noteLock_dpll _ _).trans (acceptEvent_dpll _ _ _ _ _))

/-! ## The place in the scan -/

/-- The place in the scan, the eighth under way, and device time: what the passing of eighths alone moves
(R40, R42, R54). -/
def gridOf (c : Scan) : BitVec 12 × Nat × BitVec 24 × Nat × BitVec 48 × Nat × Nat × Bool :=
  (c.pos, c.eighths, c.phi, c.clocks, c.dt, c.clkRest, c.clkTotal, c.running)

/-- What both branches leave of the place in the scan, their choice leaves. -/
theorem gridOf_ite {c : Prop} [Decidable c] {a b : State} {x : Scan} (ha : gridOf a.scan = gridOf x)
    (hb : gridOf b.scan = gridOf x) : gridOf (if c then a else b).scan = gridOf x := by
  split
  · exact ha
  · exact hb

theorem gridOf_of_dpll {c c' : Scan} (h : Outside.dpll c' = Outside.dpll c) : gridOf c' = gridOf c :=
  (congrArg gridOf h :)

theorem phaseEvent_grid (source fraction lat expected s) :
    gridOf (phaseEvent source fraction lat expected s).scan = gridOf s.scan :=
  gridOf_of_dpll (phaseEvent_dpll _ _ _ _ _)

theorem execSyncInEdge_grid (rising fraction s) : ∃ t, exec (.syncInEdge rising fraction) s = .next t
    ∧ gridOf t.scan = gridOf s.scan := by
  refine ⟨_, rfl, ?_⟩
  split
  · exact phaseEvent_grid _ _ _ _ s
  · rfl

/-! ### TIME_SYNC -/

theorem requestCommit_scan (s) : (requestCommit s).scan = s.scan := (congrArg State.scan (requestCommit_frame s) :)

theorem clearCondition_scan (k u s) : (clearCondition k u s).scan = s.scan :=
  (congrArg State.scan (clearCondition_frame k u s) :)

theorem shadeList_scan (objs s) : (shadeList objs s).scan = s.scan := by
  have hirq : ∀ b s, (setIrq b s).scan = s.scan := fun _ _ => rfl
  unfold shadeList
  split
  · rfl
  · exact (congrArg State.scan (offerList_frame _ s) :)

/-- The packets that act change of the scan the time pair alone (R56, R242). -/
theorem actItems_grid (q s) : gridOf (actItems q s).scan = gridOf s.scan := by
  fun_induction actItems q s with
  | case1 q s ih => rw [ih, requestCommit_scan]
  | case2 objs q s ih => rw [ih, shadeList_scan]
  | case3 time dt q s ih => rw [ih]; rfl
  | case4 q s => rfl

theorem queueItem_grid (x s) : gridOf (queueItem x s).scan = gridOf s.scan := by
  unfold queueItem runQueue
  split
  · rfl
  · exact actItems_grid _ _

theorem hostActive_scan (uhl s) : (hostActive uhl s).scan = s.scan := (congrArg State.scan (hostActive_frame uhl s) :)

/-- A packet leaves the place in the scan alone where its act does (R235). -/
theorem receiveUhl_grid {act : State → State} (hact : ∀ t, gridOf (act t).scan = gridOf t.scan)
    (lane packet control good s) :
    gridOf (receiveUhl lane packet control good act s).scan = gridOf s.scan := by
  refine gridOf_ite rfl (gridOf_ite rfl (gridOf_ite rfl (gridOf_ite rfl ?_)))
  exact (hact _).trans (congrArg gridOf (hostActive_scan _ _))

theorem execUhlTimeSync_grid (lane packet fraction s) : ∃ t, exec (.uhlTimeSync lane packet fraction) s = .next t
    ∧ gridOf t.scan = gridOf s.scan := by
  refine ⟨_, rfl, receiveUhl_grid (fun t => ?_) _ _ _ _ _⟩
  dsimp only
  split
  · rw [phaseEvent_grid, queueItem_grid]
  · exact queueItem_grid _ _

/-! ### The token of the Caravan -/

/-- What a frame does to the ring is nothing to the scan. -/
theorem scan_of_caravan {s t : State} (h : Outside.caravan t = Outside.caravan s) : t.scan = s.scan :=
  (congrArg State.scan h :)

theorem scan_of_faults {s t : State} (h : Outside.faults t = Outside.faults s) : t.scan = s.scan :=
  (congrArg State.scan h :)

theorem writeEntry_scan (ad ty waybill context s) : (writeEntry ad ty waybill context s).scan = s.scan :=
  (congrArg State.scan (writeEntry_frame ad ty waybill context s) :)

theorem adoptEpoch_grid (new s) : gridOf (adoptEpoch new s).scan = gridOf s.scan :=
  (congrArg gridOf (writeEntry_scan false 0x7 0 _ _)).trans rfl

theorem compareEpoch_scan (f cap s) : (compareEpoch f cap s).scan = s.scan :=
  (congrArg State.scan (compareEpoch_frame f cap s) :)

theorem acceptToken_grid (p t f s) : gridOf (acceptToken p t f s).scan = gridOf s.scan := by
  have hlock : ∀ c, Outside.dpll c = Outside.dpll s.scan → gridOf (lockJudged c s).scan = gridOf s.scan := fun c hc =>
    gridOf_of_dpll ((congrArg Outside.dpll (lockJudged_scan c s)).trans hc)
  have haccepted := hlock _ (acceptEvent_dpll 3 t (tokenCaptured s p f) (tokenExpected s f)
    { s.scan with lastToken := some t })
  refine gridOf_ite ?_ (gridOf_ite ?_ ?_)
  · exact (adoptEpoch_grid _ (lockJudged _ s)).trans haccepted
  · exact (congrArg gridOf (compareEpoch_scan f _ (lockJudged _ s))).trans haccepted
  · exact (congrArg gridOf (onRing_scan _ (lockJudged _ s))).trans haccepted

theorem tokenEvent_grid (p f s) : gridOf (tokenEvent p f s).scan = gridOf s.scan :=
  gridOf_ite rfl (gridOf_ite rfl (acceptToken_grid _ _ _ _))

/-- A token that comes is read, and is then a phase event (R459, R461). -/
theorem tokenTaken_grid (p f s) :
    gridOf (tokenEvent p f (markAbsent 0x49 0x1B (readToken f (takeWords f s)))).scan = gridOf s.scan := by
  rw [tokenEvent_grid, scan_of_faults (markAbsent_frame _ _ _), scan_of_caravan (readToken_frame _ _),
    scan_of_caravan (takeWords_frame _ _)]

theorem stationFrame_grid (f s) : gridOf (stationFrame f s).scan = gridOf s.scan := by
  have hown : ∀ s, (emitOwn s).scan = s.scan := fun s => scan_of_caravan (emitOwn_frame s)
  have henter : ∀ g, (enterRing f (onRing g s)).scan = s.scan := fun g => scan_of_caravan (enterRing_frame f _)
  have hquiet : ∀ s, (markPresent 0x49 0x1B (takeWords f s)).scan = s.scan := fun s =>
    (scan_of_faults (markPresent_frame _ _ _)).trans (scan_of_caravan (takeWords_frame _ _))
  refine gridOf_ite (gridOf_ite (congrArg gridOf (hown _)) rfl) ?_
  dsimp only
  split
  · exact congrArg gridOf (henter _)
  · refine gridOf_ite (congrArg gridOf (henter _)) ?_
    refine (congrArg gridOf (scan_of_caravan (emitFrame_frame _ _ _ _))).trans (gridOf_ite ?_ ?_)
    · exact (tokenTaken_grid _ _ _).trans (congrArg gridOf (henter _))
    · exact congrArg gridOf ((hquiet _).trans (henter _))

theorem headFrame_scan (f s) : (headFrame f s).scan = s.scan := (congrArg State.scan (headFrame_frame f s) :)

theorem execCaravanFrameReceived_grid (frame s) : ∃ t, exec (.caravanFrameReceived frame) s = .next t
    ∧ gridOf t.scan = gridOf s.scan :=
  ⟨_, rfl, gridOf_ite rfl (gridOf_ite (congrArg gridOf (headFrame_scan _ s))
    (gridOf_ite (stationFrame_grid _ s) rfl))⟩

/-- Settles O45: each of the three commands leaves the place in the scan, as the lemmas above say. -/
theorem phaseCorrectionsNeverStepThePosition : Obligations.PhaseCorrectionsNeverStepThePosition := by
  intro s c hc
  have hgrid : ∃ t, exec c s = .next t ∧ gridOf t.scan = gridOf s.scan := by
    rcases hc with ⟨rising, fraction, rfl⟩ | ⟨lane, packet, fraction, rfl⟩ | ⟨frame, rfl⟩
    · exact execSyncInEdge_grid rising fraction s
    · exact execUhlTimeSync_grid lane packet fraction s
    · exact execCaravanFrameReceived_grid frame s
  obtain ⟨t, hexec, ht⟩ := hgrid
  simp only [gridOf, Prod.mk.injEq] at ht
  obtain ⟨hpos, heighths, hphi, hclocks, hdt, -, htotal, hrunning⟩ := ht
  exact ⟨t, hexec, hpos, heighths, hphi, hclocks, hdt, htotal, hrunning⟩

end Sys2Proof.Laws
end

section
/-!
O46: TIME_SYNC records host time and device time together (R56, R242, R245).
-/

namespace Sys2Proof.Laws

open Sys2Proof Sys2Proof.Machine

/-! ## A packet that its lane accepts -/

theorem clearCondition_queues (k u s) : (clearCondition k u s).host.queue = s.host.queue
    ∧ (clearCondition k u s).journal.queue = s.journal.queue :=
  have honly := clearCondition_only k u s
  ⟨(congrArg (fun x : State => x.host.queue) honly :), (congrArg (fun x : State => x.journal.queue) honly :)⟩

theorem raiseKind_queue (k i s) : (raiseKind k i s).host.queue = s.host.queue :=
  (congrArg (fun x : State => x.host.queue) (raiseKind_only k i s) :)

theorem hostActive_queues (uhl s) : (hostActive uhl s).host.queue = s.host.queue
    ∧ (hostActive uhl s).journal.queue = s.journal.queue := by
  unfold hostActive
  dsimp only
  split
  · exact clearCondition_queues _ _ _
  · exact ⟨rfl, rfl⟩

/-- A packet is accepted on its lane (R232, R235): it acts on a state with the same scan and the same queues. -/
theorem receiveUhl_of_accepted {s : State} {lane : Nat} {packet : RxPacket} {control good : Bool} (act)
    (hlink : isOn s .link = true) (hlane : (hostLane s lane).state = 1) (hgood : good = true)
    (hcontrol : onControlLane s lane packet = true)
    (hnew : (hostLane s lane).lastSeq ≠ some (BitVec.ofNat 16 (hdrSequence packet.header))) :
    ∃ u, receiveUhl lane packet control good act s = act u ∧ u.scan = s.scan ∧ u.host.queue = s.host.queue
      ∧ recordsWait u = recordsWait s := by
  have hright : (control && !onControlLane (onLane lane
      (fun l => { l with codeErrors := l.codeErrors + packet.codeErrors }) s) lane packet) = false := by
    change (control && !onControlLane s lane packet) = false
    rw [hcontrol, Bool.not_true, Bool.and_false]
  have hacts : ∃ v, receiveUhl lane packet control good act s = act (hostActive true v) ∧ v.scan = s.scan
      ∧ v.host.queue = s.host.queue ∧ v.journal = s.journal := by
    unfold receiveUhl
    dsimp only
    rw [if_neg (by simp [hlink, hlane]), if_neg (by simp [hgood]), if_neg (by simp [hright]), if_neg hnew]
    exact ⟨_, rfl, rfl, rfl, rfl⟩
  obtain ⟨v, hv, hscan, hqueue, hjournal⟩ := hacts
  obtain ⟨hqueue', hjournal'⟩ := hostActive_queues true v
  refine ⟨_, hv, (hostActive_scan true v).trans hscan, hqueue'.trans hqueue, ?_⟩
  rw [recordsWait, hjournal', hjournal, recordsWait]

/-! ## The time pair -/

/-- The time pair that HostTimeAtSync and DtAtSync hold (R56). -/
def timePairOf (c : Scan) : BitVec 64 × BitVec 48 := (c.hostTime, c.dtAtSync)

theorem phaseEvent_pair (source fraction lat expected s) :
    timePairOf (phaseEvent source fraction lat expected s).scan = timePairOf s.scan :=
  (congrArg timePairOf (phaseEvent_dpll source fraction lat expected s) :)

theorem phaseEvent_queue (source fraction lat expected s) :
    (phaseEvent source fraction lat expected s).host.queue = s.host.queue := by
  unfold phaseEvent
  dsimp only
  split
  · rfl
  split
  · rfl
  split
  · exact raiseKind_queue _ _ _
  · rfl

/-- Packets that act leave the time pair alone unless one of them brings another (R242). -/
theorem actItems_pair (q s) (h : ∀ x y, .timePair x y ∉ q) : timePairOf (actItems q s).scan = timePairOf s.scan := by
  fun_induction actItems q s with
  | case1 q s ih => rw [ih fun x y hq => h x y (.tail _ hq), requestCommit_scan]
  | case2 objs q s ih => rw [ih fun x y hq => h x y (.tail _ hq), shadeList_scan]
  | case3 time dt q s => exact absurd (.head _) (h time dt)
  | case4 q s => rfl

/-- The time pair at the front of the queue is taken when the queue goes on (R56, R242). -/
theorem runQueue_timePair {s : State} {time dt q} (hqueue : s.host.queue = .timePair time dt :: q)
    (hwait : recordsWait s = false) (hlast : ∀ x y, .timePair x y ∉ q) :
    (runQueue s).scan.hostTime = time ∧ (runQueue s).scan.dtAtSync = dt ∧ (runQueue s).scan.dt = s.scan.dt := by
  have hrun : runQueue s = actItems q (noteTimePair time dt s) := by
    rw [runQueue, if_neg (by simp [hwait]), hqueue, actItems]
  have hpair := actItems_pair q (noteTimePair time dt s) hlast
  have hgrid := actItems_grid q (noteTimePair time dt s)
  simp only [timePairOf, gridOf, Prod.mk.injEq] at hpair hgrid
  obtain ⟨htime, hdt⟩ := hpair
  obtain ⟨-, -, -, -, hnow, -⟩ := hgrid
  rw [hrun]
  exact ⟨htime, hdt, hnow⟩

/-- With nothing before it a packet acts at once (R242). -/
theorem queueItem_of_empty {x s} (hqueue : s.host.queue = []) (hwait : recordsWait s = false) :
    queueItem x s = actItems [x] (onHost (fun h => { h with queue := [x] }) s) := by
  have hthis : queueItem x s = runQueue (onHost (fun h => { h with queue := [x] }) s) := by
    rw [queueItem, onHost, onHost, hqueue, List.nil_append]
  rw [hthis, runQueue, if_neg (by simpa [recordsWait] using hwait)]
  rfl

/-- Behind records, or behind an OD_WRITE, a packet waits (R242, log 29). -/
theorem queueItem_of_waiting {x s} (h : recordsWait s = true ∨ ∃ n bs q, s.host.queue = .odWrite n bs :: q) :
    queueItem x s = onHost (fun h => { h with queue := h.queue ++ [x] }) s := by
  rcases h with hwait | ⟨n, bs, q, hqueue⟩
  · exact if_pos hwait
  · unfold queueItem runQueue
    split
    · rfl
    · have hfront : (onHost (fun h => { h with queue := h.queue ++ [x] }) s).host.queue
          = .odWrite n bs :: (q ++ [x]) := by
        rw [onHost, hqueue]; rfl
      rw [hfront, actItems]
      · rw [onHost, onHost, hqueue]; rfl
      all_goals simp

/-! ## TIME_SYNC -/

/-- What the packet does once it is accepted: the pair in its turn, then the phase event (R44, R56). -/
def timeSyncActs (packet : RxPacket) (fraction : Nat) (s : State) : State :=
  let v := leNat packet.payload
  let s1 := queueItem (.timePair (BitVec.ofNat 64 v) (dtWithin s.scan (fraction % 256))) s
  if s.scan.running then phaseEvent 1 (fraction % 256) 60 ((bitsOf v 64 16 * 256 : Nat) : Int) s1 else s1

/-- The phase event leaves the pair and the queue as the packet's turn has left them. -/
theorem timeSyncActs_reads (packet fraction s) :
    let s1 := queueItem (.timePair (BitVec.ofNat 64 (leNat packet.payload)) (dtWithin s.scan (fraction % 256))) s
    timePairOf (timeSyncActs packet fraction s).scan = timePairOf s1.scan
      ∧ (timeSyncActs packet fraction s).host.queue = s1.host.queue := by
  intro s1
  unfold timeSyncActs
  dsimp only
  split
  · exact ⟨phaseEvent_pair _ _ _ _ _, phaseEvent_queue _ _ _ _ _⟩
  · exact ⟨rfl, rfl⟩

theorem execUhlTimeSync_of_accepted {s : State} {lane packet} (fraction) (hlink : isOn s .link = true)
    (hlane : (hostLane s lane).state = 1) (hcontrol : onControlLane s lane packet = true)
    (hgood : uhlGood packet 5 24 = true) (hlength : packet.payload.length = 16)
    (hpos : bitsOf (leNat packet.payload) 64 16 ≤ 4095) (hzero : bitsOf (leNat packet.payload) 80 48 = 0)
    (hnew : (hostLane s lane).lastSeq ≠ some (BitVec.ofNat 16 (hdrSequence packet.header))) :
    ∃ u, exec (.uhlTimeSync lane packet fraction) s = .next (timeSyncActs packet fraction u) ∧ u.scan = s.scan
      ∧ u.host.queue = s.host.queue ∧ recordsWait u = recordsWait s := by
  have hwhole : (uhlGood packet 5 24 && packet.payload.length == 16
      && decide (bitsOf (leNat packet.payload) 64 16 ≤ 4095) && bitsOf (leNat packet.payload) 80 48 == 0) = true := by
    simp [hgood, hlength, hpos, hzero]
  obtain ⟨u, hu, hrest⟩ := receiveUhl_of_accepted (timeSyncActs packet fraction) hlink hlane hwhole hcontrol hnew
  exact ⟨u, congrArg Host.Outcome.next hu, hrest⟩

/-- What an accepted TIME_SYNC leaves (R56, R245). -/
theorem timeSync_takesPair {s : State} {lane packet} (fraction) (hlink : isOn s .link = true)
    (hlane : (hostLane s lane).state = 1) (hcontrol : onControlLane s lane packet = true)
    (hgood : uhlGood packet 5 24 = true) (hlength : packet.payload.length = 16)
    (hpos : bitsOf (leNat packet.payload) 64 16 ≤ 4095) (hzero : bitsOf (leNat packet.payload) 80 48 = 0)
    (hnew : (hostLane s lane).lastSeq ≠ some (BitVec.ofNat 16 (hdrSequence packet.header))) :
    let time := BitVec.ofNat 64 (leNat packet.payload)
    let dt := dtWithin s.scan (fraction % 256)
    ∃ t, exec (.uhlTimeSync lane packet fraction) s = .next t ∧ gridOf t.scan = gridOf s.scan
      ∧ (s.host.queue = [] → recordsWait s = false → timePairOf t.scan = (time, dt) ∧ t.host.queue = [])
      ∧ (recordsWait s = true ∨ (∃ n bs q, s.host.queue = .odWrite n bs :: q) →
          timePairOf t.scan = timePairOf s.scan ∧ t.host.queue = s.host.queue ++ [.timePair time dt]) := by
  intro time dt
  obtain ⟨u, hexec, hscan, hqueue, hwait⟩ :=
    execUhlTimeSync_of_accepted fraction hlink hlane hcontrol hgood hlength hpos hzero hnew
  obtain ⟨t, hexec', hgrid⟩ := execUhlTimeSync_grid lane packet fraction s
  obtain rfl : timeSyncActs packet fraction u = t := Host.Outcome.next.inj (hexec.symm.trans hexec')
  obtain ⟨hpair, hleft⟩ := timeSyncActs_reads packet fraction u
  rw [hscan] at hpair hleft
  refine ⟨_, hexec, hgrid, fun hempty hno => ?_, fun hbehind => ?_⟩
  · rw [hpair, hleft, queueItem_of_empty (hqueue.trans hempty) (hwait.trans hno)]
    exact ⟨rfl, rfl⟩
  · rw [← hwait, ← hqueue] at hbehind
    rw [hpair, hleft, queueItem_of_waiting hbehind, ← hqueue]
    exact ⟨congrArg timePairOf hscan, rfl⟩

/-- The two objects of the dictionary read the pair (R56). -/
theorem readTime_pair (s) : readTime s 0x8100 0x12 = s.scan.hostTime.toNat
    ∧ readTime s 0x8100 0x13 = s.scan.dtAtSync.toNat := ⟨rfl, rfl⟩

theorem objectValue_time {o : ObjectRow} {sub} (s) (hobject : objectAt 0x8100 sub = some o)
    (hro : (objectAt 0x8100 sub).map (·.access) = some .ro) : objectValue s o 0x8100 sub = readTime s 0x8100 sub := by
  have haccess : o.access = .ro := by simpa [hobject] using hro
  have hport : portOfIndex 0x8100 = none := by decide
  have hplain : inManifest 0x8100 = false := by decide
  simp only [objectValue, hport, presentValue, hplain, haccess]
  rfl

/-- Settles O46: the packet's turn, the queue that goes on, and the two objects. -/
theorem timePairOfTimeSync : Obligations.TimePairOfTimeSync := by
  refine ⟨fun s lane packet fraction hlink hlane hcontrol hgood hlength hpos hzero hnew => ?_,
    fun s time dt q hqueue hwait hlast => runQueue_timePair hqueue hwait hlast,
    fun s o x ho hx => ⟨(objectValue_time s ho (by decide)).trans (readTime_pair s).1,
      (objectValue_time s hx (by decide)).trans (readTime_pair s).2⟩⟩
  obtain ⟨t, hexec, hgrid, hnow, hlater⟩ :=
    timeSync_takesPair fraction hlink hlane hcontrol hgood hlength hpos hzero hnew
  simp only [gridOf, timePairOf, Prod.mk.injEq] at hgrid hnow hlater
  obtain ⟨-, -, -, -, hdt, hrest, -⟩ := hgrid
  refine ⟨t, hexec, hdt, hrest, fun hempty hno => ?_, fun hbehind => ?_⟩
  · obtain ⟨⟨htime, hat⟩, hleft⟩ := hnow hempty hno
    exact ⟨htime, hat, hleft⟩
  · obtain ⟨⟨htime, hat⟩, hleft⟩ := hlater hbehind
    exact ⟨htime, hat, hleft⟩

end Sys2Proof.Laws
end

section
/-!
O11: the writes that command a unit at once (R63, R97, R98, R124, R133, R246, R346, R436, R445).
-/

namespace Sys2Proof.Laws

open Sys2Proof Sys2Proof.Machine

/-! ## A request that is accepted -/

/-- What a write that is accepted has passed (R229). -/
theorem judgeRequest_passed {s via index sub data} (h : judgeRequest s via index sub data = stOk) :
    (∃ o, objectAt index sub = some o) ∧ unitBusy s index sub = false
      ∧ judgeValue s index sub (if index = 0x3301 then leNat data else cleanValue index sub (leNat data)) = stOk := by
  cases hobject : objectAt index sub with
  | none => exact absurd ((judgeRequest_of_no_object s via data hobject).symm.trans h) (by decide)
  | some o =>
    rw [judgeRequest, hobject] at h
    dsimp only at h
    split at h
    · exact absurd h (by decide)
    split at h
    · exact absurd h (by decide)
    next hbusy =>
      split at h
      · exact absurd h (by decide)
      split at h
      · exact absurd h (by decide)
      split at h
      · exact absurd h (by decide)
      · exact ⟨⟨o, rfl⟩, Bool.eq_false_iff.2 hbusy, h⟩

/-- The unit that takes an accepted write has its power (R441). -/
theorem isOn_of_passed {s index sub} (h : unitBusy s index sub = false) : isOn s (objectDomain index sub) = true := by
  unfold unitBusy busTransfer at h
  split at h
  · next hon => exact ((Bool.and_eq_true _ _).mp hon).1
  · cases h

/-- An accepted write of an object that hardware holds is answered with what its unit says (R266, R279). -/
theorem requestWrite_of_special {s via index sub data st u} (hready : cpReady s = true)
    (hjudged : judgeRequest s via index sub data = stOk) (hrestore : index ≠ 0x1020) (hoption : index ≠ 0x9030)
    (hjournal : (objectAt index sub).map (·.journal) = some false)
    (hspecial : writeSpecial { via := via, index := index, sub := sub } index sub
      (cleanValue index sub (leNat data)) data s = some (st, u)) :
    requestWrite via index sub data s = answer via true index sub st [] u := by
  obtain ⟨⟨o, hobject⟩, -⟩ := judgeRequest_passed hjudged
  have hplain : o.journal = false := by simpa [hobject] using hjournal
  have hperform : writeObject { via := via, index := index, sub := sub } index sub data s = (some st, u) := by
    simp only [writeObject, hjudged, hobject, performWrite, hplain, hspecial, if_neg hrestore, if_neg hoption]
    rfl
  simp only [requestWrite, hready, hperform]
  rfl

/-! ## The host's vote -/

theorem setDomain_votes (d x s) : (setDomain d x s).power.votes = s.power.votes := by
  cases d <;> rfl

theorem dropDomain_votes (d s) : (dropDomain d s).power.votes = s.power.votes := by
  cases d with
  | core =>
    have hcore : ∀ u, (dropCore u).power.votes = u.power.votes := fun _ => rfl
    exact (hcore _).trans (congrArg Power.votes (busyRequests_power (sendShadow s)))
  | link => exact congrArg Power.votes (dropLink_power s)
  | aon | safe | pix | dram | aux => rfl

theorem votes_of_only {s t : State} (h : Outside.faultParts t = Outside.faultParts s) :
    t.power.votes = s.power.votes := (congrArg (fun x : State => x.power.votes) h :)

theorem quiesce_votes (d s) : (quiesce d s).power.votes = s.power.votes := by
  rw [quiesce, powerDown_eq, votes_of_only (isolateUnits_only _ _), dropDomain_votes,
    votes_of_only (isolating_only _ _), setDomain_votes]
  split <;> rfl

theorem stopOne_votes (s d) : (stopOne s d).power.votes = s.power.votes := by
  unfold stopOne
  split
  · rw [setDomain_votes, quiesce_votes]
  · exact setDomain_votes _ _ _

/-- Stop is entered with the votes as they stand (R444). -/
theorem enterStop_votes (s) : (enterStop s).power.votes = s.power.votes := by
  have hcommit : ∀ t, (finishCommit t).power.votes = t.power.votes := fun t =>
    (congrArg (fun x : State => x.power.votes) (finishCommit_frame t) :)
  have hdone : ∀ t, (stopDone t).power.votes = t.power.votes := fun t =>
    (votes_of_only (isolateUnits_only .safe (setDomain .safe .off (dropSafe t)))).trans rfl
  rw [enterStop_eq, hdone, stopQuiet, hcommit, hcommit]
  exact (foldl_keeps (fun t : State => t.power.votes) stopOne_votes _ _).trans rfl

/-- A withdrawal that has been registered leaves HostVote alone (R444). -/
theorem afterWithdrawal_host (s) : (afterWithdrawal s).power.votes.host = s.power.votes.host := by
  unfold afterWithdrawal
  split
  · rfl
  split
  · rfl
  · exact congrArg Votes.host (enterStop_votes s)

/-- HostVote takes the voteable bits written, unless CORE is held by a wake (R436, R445). -/
theorem writeHostVote_cases (v s) :
    let b : BitVec 8 := BitVec.ofNat 8 v &&& 0x7C
    let held := votedBy b .core = false ∧ votedBy s.power.votes.host .core = true
      ∧ ((s.power.votes.wake ||| s.power.votes.sbp) != 0) = true
    (held → writeHostVote v s = (0x01, { s with power := { s.power with sleepStatus := 2 } }))
      ∧ (¬held → ∃ u, writeHostVote v s = (0x00, u) ∧ u.power.votes.host = b) := by
  intro b held
  refine ⟨fun ⟨hcore, hhost, hwake⟩ => ?_, fun hfree => ?_⟩
  · have hwithdrawn : (!votedBy b .core && votedBy s.power.votes.host .core
        && (s.power.votes.wake ||| s.power.votes.sbp) != 0) = true := by
      rw [hcore, hhost, hwake]
      rfl
    exact if_pos hwithdrawn
  · have hno : ¬(!votedBy b .core && votedBy s.power.votes.host .core
        && (s.power.votes.wake ||| s.power.votes.sbp) != 0) = true := by
      simpa [held, and_assoc] using hfree
    refine ⟨_, if_neg hno, ?_⟩
    rw [afterWithdrawal_host, (powerUpVoted_power _).1]
    rfl

/-! ## The shade swap -/

/-- A swap request is registered (R124): the list is fresh, and the banks stand. -/
theorem acceptSwapRequest_shade (s) : (acceptSwapRequest s).shade.frozen = true
    ∧ (acceptSwapRequest s).shade.swapRequested = (s.shade.swapRequested || cfg s 0x3300 0x0D == 0) := by
  have hfresh : ∀ f, (shadeFresh (onShade f s)).shade
      = { f s.shade with freshAt := dtNow s, armed := true, stale := false } := fun f =>
    (congrArg State.shade (clearCondition_frame 0x0B 0x06 _) :)
  rw [acceptSwapRequest, hfresh]
  exact ⟨rfl, rfl⟩

/-- A commit is requested while the Manifest is not frozen (R133). -/
theorem writeCommit_eq {s : State} (hpix : isOn s .pix = true) (v : Nat) :
    (if v = 1 then requestCommit s else s) = if v = 1 ∧ manifestFrozen s = false
      then { s with manifest := { s.manifest with pending := true } } else s := by
  cases hfrozen : manifestFrozen s <;> simp [requestCommit, onManifest, hpix, hfrozen]

/-! ## Pins -/

theorem pinOf_putPin {x : Pin} {f : Nat} (s) (h : x.surface = f) : pinOf (putPin x s) f = some x := by
  simp [pinOf, putPin, h]

theorem pinOf_surface {s f x} (h : pinOf s f = some x) : x.surface = f := by
  simpa using List.find?_some h

/-- A request to pin starts a copy, while a copy in use serves on, or is refused (R97, logs 79, 166). -/
theorem pinSurface_pin (f s) :
    let starts := surfaceValid s f && surfaceValue s f 5 == 1 && isOn s .pix && dramReadable s
    let u := pinSurface f s
    u = { s with fetch := { s.fetch with pins := u.fetch.pins } }
      ∧ pinState u f = (if starts then 1 else 3)
      ∧ (starts = true → pinnedTiles u f = pinnedTiles s f)
      ∧ (starts = false → pinnedTiles u f = none) := by
  intro starts u
  cases hstarts : starts with
  | false =>
    have hu : u = putPin { surface := f, state := 3 } s := if_neg (by simpa [starts] using hstarts)
    have hpin : pinOf u f = some { surface := f, state := 3 } := by rw [hu]; exact pinOf_putPin s rfl
    exact ⟨by rw [hu]; rfl, by rw [pinState, hpin]; rfl, nofun, fun _ => by rw [pinnedTiles, hpin]; rfl⟩
  | true =>
    have hu : u = putPin { (pinOf s f).getD { surface := f, state := 1 } with state := 1, next := none } s :=
      if_pos hstarts
    have hsurface : ((pinOf s f).getD { surface := f, state := 1 }).surface = f := by
      cases h : pinOf s f with
      | none => rfl
      | some x => exact pinOf_surface h
    have hpin : pinOf u f = some { (pinOf s f).getD { surface := f, state := 1 } with state := 1, next := none } := by
      rw [hu]
      exact pinOf_putPin s hsurface
    refine ⟨by rw [hu]; rfl, by rw [pinState, hpin]; rfl, fun _ => ?_, nofun⟩
    rw [pinnedTiles, pinnedTiles, hpin]
    cases pinOf s f <;> rfl

/-- A request to unpin drops a copy under way or a refusal, and marks a pinned surface as leaving (R98). -/
theorem unpinSurface_pin (f s) :
    let u := unpinSurface f s
    u = { s with fetch := { s.fetch with pins := u.fetch.pins } }
      ∧ (∀ x, pinOf s f = some x → (x.state = 2 ∨ x.inUse.isSome = true) →
          pinOf u f = some { x with state := 2, next := none, leaving := true })
      ∧ (∀ x, pinOf s f = some x → ¬(x.state = 2 ∨ x.inUse.isSome = true) → pinOf u f = none)
      ∧ (pinOf s f = none → u = s) := by
  intro u
  cases hpin : pinOf s f with
  | none =>
    have hu : u = s := by simp only [u, unpinSurface, hpin]
    exact ⟨by rw [hu], nofun, nofun, fun _ => hu⟩
  | some x =>
    by_cases hserves : x.state = 2 ∨ x.inUse.isSome = true
    · have hu : u = putPin { x with state := 2, next := none, leaving := true } s := by
        simp only [u, unpinSurface, hpin]
        exact if_pos (by simpa using hserves)
      have hleft : pinOf u f = some { x with state := 2, next := none, leaving := true } := by
        rw [hu]
        exact pinOf_putPin s (show x.surface = f from pinOf_surface hpin)
      refine ⟨by rw [hu]; rfl, fun y hy _ => ?_, fun y hy hno => ?_, nofun⟩
      · cases hy
        exact hleft
      · cases hy
        exact absurd hserves hno
    · have hu : u = { s with fetch := { s.fetch with pins := s.fetch.pins.filter fun y => y.surface != f } } := by
        simp only [u, unpinSurface, hpin]
        exact if_neg (by simpa using hserves)
      refine ⟨by rw [hu], fun y hy hyes => ?_, fun y hy _ => ?_, nofun⟩
      · cases hy
        exact absurd hyes hserves
      · rw [hu]
        simp [pinOf]

/-- A pin is written at its surface's object (R97, R98). -/
theorem writeSpecial_pin (w : Waiter) {f : Nat} (hf : f < 64) (v data s) :
    writeSpecial w (0x3400 + f) 0x0A v data s = some (stOk, writePin f v s) := by
  have hmanifest : inManifest (0x3400 + f) = false := by
    simp only [inManifest, Bool.or_eq_false_iff, Bool.and_eq_false_iff, decide_eq_false_iff_not]
    omega
  unfold writeSpecial
  dsimp only
  split
  case h_15 => rw [if_neg (by simp [hmanifest]), if_pos (by omega), Nat.add_sub_cancel_left]
  all_goals omega

/-- The objects that the pins are written through are journalled nowhere. -/
theorem surfacePin_plain (f : Fin 64) : (objectAt (0x3400 + f.val) 0x0A).map (·.journal) = some false := by
  revert f
  decide

theorem cleanValue_pin {f : Nat} (hf : f < 64) (v) : cleanValue (0x3400 + f) 0x0A v = v := by
  unfold cleanValue
  rw [if_neg (by omega), if_neg (by omega), if_neg (by omega), if_neg (by omega)]

/-- An accepted request of SurfacePin acts on its surface (R97, R98). -/
theorem requestWrite_pin {s : State} {via : Via} {n : Nat} {data : List Byte} (hready : cpReady s = true)
    (hjudged : judgeRequest s via (0x3400 + n % 64) 0x0A data = stOk) :
    requestWrite via (0x3400 + n % 64) 0x0A data s
      = answer via true (0x3400 + n % 64) 0x0A 0x00 [] (writePin (n % 64) (leNat data) s) := by
  have hf : n % 64 < 64 := Nat.mod_lt _ (by decide)
  refine requestWrite_of_special hready hjudged (by omega) (by omega) (surfacePin_plain ⟨_, hf⟩) ?_
  rw [cleanValue_pin hf]
  exact writeSpecial_pin _ hf _ _ s

/-- A row of the status map is selected at its port's object (R346). -/
theorem requestWrite_row {s : State} {via : Via} {p : Port} {data : List Byte} (hready : cpReady s = true)
    (hjudged : judgeRequest s via (0xB100 + p.num) 0x20 data = stOk) :
    requestWrite via (0xB100 + p.num) 0x20 data s = answer via true (0xB100 + p.num) 0x20 0x00 []
      (onPixels p (fun x => { x with pendingRow := some (leNat data) }) s) := by
  refine requestWrite_of_special hready hjudged ?_ ?_ ?_ ?_
  case refine_4 => cases p <;> rfl
  all_goals cases p <;> decide

/-- Settles O11: each write reaches its unit, whose answer the lemmas above give. -/
theorem controlWritesTakeEffect : Obligations.ControlWritesTakeEffect := by
  refine ⟨fun s via data ⟨hready, hjudged⟩ => ?_, fun s via data ⟨hready, hjudged⟩ => ?_,
    fun s via data ⟨hready, hjudged⟩ => ?_, fun s via data ⟨hready, hjudged⟩ => ?_,
    fun s via data ⟨hready, hjudged⟩ => ?_, fun s via n ⟨hready, hjudged⟩ => ?_,
    fun s via n ⟨hready, hjudged⟩ => ?_, fun s via p data ⟨hready, hjudged⟩ => ?_⟩
  case refine_1 =>
    have hwrite : ∀ st u, writeHostVote (leNat data) s = (st, u) →
        exec (.hostVoteWrite via data) s = .next (answer via true 0x8000 1 st [] u) := fun st u hvote =>
      congrArg Host.Outcome.next (requestWrite_of_special hready hjudged (by decide) (by decide) (by decide)
        (congrArg some hvote))
    obtain ⟨hrefused, hcast⟩ := writeHostVote_cases (leNat data) s
    refine ⟨fun hheld => hwrite _ _ (hrefused hheld), fun hfree => ?_⟩
    obtain ⟨u, hvote, hhost⟩ := hcast hfree
    exact ⟨u, hwrite _ _ hvote, hhost⟩
  case refine_2 =>
    exact congrArg Host.Outcome.next (requestWrite_of_special hready hjudged (by decide) (by decide) (by decide) rfl)
  case refine_3 =>
    exact congrArg Host.Outcome.next (requestWrite_of_special hready hjudged (by decide) (by decide) (by decide) rfl)
  case refine_4 =>
    refine congrArg Host.Outcome.next ((requestWrite_of_special hready hjudged (by decide) (by decide) (by decide)
      rfl).trans (congrArg (answer via true 0x3000 1 0x00 []) ?_))
    obtain ⟨-, hbusy, -⟩ := judgeRequest_passed hjudged
    exact writeCommit_eq (isOn_of_passed hbusy) _
  case refine_5 =>
    refine ⟨if leNat data = 1 then acceptSwapRequest s else s, congrArg Host.Outcome.next
      (requestWrite_of_special hready hjudged (by decide) (by decide) (by decide) rfl), fun h => if_neg h, fun h => ?_⟩
    rw [if_pos h]
    exact acceptSwapRequest_shade s
  case refine_6 =>
    exact ⟨_, congrArg Host.Outcome.next (requestWrite_pin hready hjudged), pinSurface_pin (n % 64) s⟩
  case refine_7 =>
    exact ⟨_, congrArg Host.Outcome.next (requestWrite_pin hready hjudged), unpinSurface_pin (n % 64) s⟩
  case refine_8 =>
    exact ⟨_, congrArg Host.Outcome.next (requestWrite_row hready hjudged), rfl, perPort_get_modify_self _ _ _,
      fun q hq => perPort_get_modify_of_ne _ _ hq⟩

end Sys2Proof.Laws
end

section
/-!
O22: the commands of the Almanac and of the references (R44 to R48, R56, R60, R61, R68, R69, R72, R245, R295).
-/

namespace Sys2Proof.Laws

open Sys2Proof Sys2Proof.Machine

/-! ## Extra conversions (R60, R295) -/

theorem correctedCode_lt (s raw) : correctedCode s raw < 4096 := by
  unfold correctedCode clampInt
  omega

/-- The result of an extra conversion names its channel. -/
theorem sampleWord_channel {channel : Nat} (s raw) (h : channel < 256) :
    (sampleWord s channel raw).toNat / 2 ^ 24 = channel := by
  have hcode := correctedCode_lt s raw
  have hround : s.hk.round % 12 < 12 := Nat.mod_lt _ (by decide)
  have hword : ∀ sink code, sink < 4096 → code < 4096 →
      (BitVec.ofNat 32 (channel * 2 ^ 24 + sink * 2 ^ 12 + code)).toNat / 2 ^ 24 = channel := fun sink code _ _ => by
    rw [BitVec.toNat_ofNat, Nat.mod_eq_of_lt (by omega)]
    omega
  refine hword _ _ ?_ hcode
  split <;> omega

theorem getElem?_modifyAt {α : Type} (v : α) (xs : List α) {i : Nat} (h : i < xs.length) :
    (modifyAt (fun _ => v) i xs)[i]? = some v := by
  induction xs generalizing i with
  | nil => exact absurd h (Nat.not_lt_zero i)
  | cons x xs ih =>
    cases i with
    | zero => rfl
    | succ i => exact ih (Nat.lt_of_succ_lt_succ h)

/-- The first request in the queue is served into the result ring (R295). -/
theorem sampleConversion_served {s : State} {raw c : Nat} {rest : List Nat} (hqueue : s.hk.queue = c :: rest)
    (hchannel : c < 256) (hring : s.hk.ring.length = 16) (hnext : s.hk.ringNext < 16) : ∃ t,
    exec (.sampleHkConversionDone raw) s = .next t ∧ t = { s with hk := t.hk }
      ∧ t.hk.queue = rest ∧ t.hk.result.toNat / 2 ^ 24 = c ∧ t.hk.ring[s.hk.ringNext]? = some t.hk.result
      ∧ t.hk.ringNewest = s.hk.ringNext ∧ t.hk.ringNext = (s.hk.ringNext + 1) % 16 := by
  have hserved : exec (.sampleHkConversionDone raw) s = .next (onHk (fun h =>
      let w := sampleWord s c raw
      { h with
        queue := rest
        result := w
        ring := modifyAt (fun _ => w) h.ringNext (if h.ring.isEmpty then List.replicate 16 0 else h.ring)
        ringNewest := h.ringNext
        ringNext := (h.ringNext + 1) % 16 }) s) := by
    change execSampleHkConversionDone raw s = _
    unfold execSampleHkConversionDone
    rw [hqueue]
  refine ⟨_, hserved, rfl, rfl, sampleWord_channel s raw hchannel, ?_, rfl, rfl⟩
  have hfull : s.hk.ring.isEmpty = false := by
    rw [List.isEmpty_eq_false_iff, ← List.length_pos_iff, hring]
    decide
  change (modifyAt _ _ (if s.hk.ring.isEmpty then _ else s.hk.ring))[_]? = _
  rw [hfull]
  exact getElem?_modifyAt _ _ (hring ▸ hnext)

/-- An entry that asks for a channel's conversion queues it, or drops it behind 16 others (R60, R293). -/
theorem entryActs_sample {e : BitVec 96} (s) (haction : entryAction e = 0x01) :
    (28 ≤ entryTarget e → entryActs e s = s)
      ∧ (entryTarget e < 28 → entryTarget e ≠ 22 → entryTarget e ≠ 23 → entryActs e s = { s with hk :=
          if s.hk.queue.length < 16 then { s.hk with queue := s.hk.queue ++ [entryTarget e] }
          else { s.hk with dropCount := min (s.hk.dropCount + 1) (2 ^ 32 - 1) } }) := by
  have hacts : entryActs e s = sampleHk (entryTarget e) s := by
    unfold entryActs
    rw [haction]
    rfl
  rw [hacts]
  refine ⟨fun hbeyond => if_pos ?_, fun hchannel hstrap hother => ?_⟩
  · simp [sampleable, Nat.not_lt.2 hbeyond]
  · have hcan : sampleable (entryTarget e) = true := by simp [sampleable, hchannel, hstrap, hother]
    unfold sampleHk
    rw [hcan]
    by_cases hroom : s.hk.queue.length < 16
    · rw [if_pos hroom, if_pos hroom]; rfl
    · rw [if_neg hroom, if_neg hroom]; rfl

/-! ## OneShot entries (R68) -/

/-- An entry is offered to the journal once, with nobody that waits for its record. -/
theorem offerEntry_eq (n s) : offerEntry n s =
    let w : JWrite := ⟨0xA100 + n / 256, n % 256, 1, 12,
      (disabledEntry (BitVec.ofNat 96 (cfg s (0xA100 + n / 256) (n % 256)))).toNat, none⟩
    if s.journal.queue.any (fun w => w.index == 0xA100 + n / 256 && w.sub == n % 256) then s
    else match judgeWrite s w with
      | .taken => { s with journal := { s.journal with queue := s.journal.queue ++ [w] } }
      | .busy => s
      | .full => raiseJournal (0xA100 + n / 256) (n % 256) s := rfl

/-! ## An edge of SYNC_IN (R44 to R48) -/

/-- The scan after an edge that the DPLL, acquiring on SYNC_IN, compares; `n` is its event counter (R47). -/
def comparedEdge (fraction n : Nat) (c : Scan) : Scan :=
  noteLock c (comparePhase (wrapPhase (captured c fraction 4 - ((c.ref.phase * 256 : Nat) : Int)))
    { c with lastEvent := some (eventClock c fraction), eventCount := n })

/-- While the DPLL acquires on its source, the first event of a group is compared (R45, R47). -/
theorem acceptEvent_compared {c : Scan} {source t : Nat} {cap expected : Int} (hlock : c.lock = .acquiring)
    (hactive : c.active = source) (hcount : c.eventCount = 0) : ∃ n, acceptEvent source t cap expected c
      = comparePhase (wrapPhase (cap - expected)) { c with lastEvent := some t, eventCount := n } := by
  have hkept : (if c.lock = .freeRun ∨ c.lock = .holdover ∨ c.active ≠ source then
      beginAcquire source (source == c.ref.fallback && source != c.ref.primary) c else c) = c :=
    if_neg (by simp [hlock, hactive])
  unfold acceptEvent
  dsimp only
  rw [hkept, if_pos (Or.inr hcount)]
  exact ⟨_, rfl⟩

section
variable {s : State} {rising : Bool} {fraction : Nat} (hrunning : s.scan.running = true)
  (hedge : edgeSelected s.scan.ref.edge rising = true) (hclock : s.power.backupClock = false)
  (htakes : takesSource s.scan 2 = true)
include hrunning hedge hclock htakes

theorem syncInEdge_rejected (hearly : tooEarly s.scan (eventClock s.scan (fraction % 256)) = true) :
    exec (.syncInEdge rising fraction) s = .next { s with scan := { s.scan with
      rejectCount := min (s.scan.rejectCount + 1) (2 ^ 32 - 1) } } := by
  refine congrArg Host.Outcome.next ((if_pos (by rw [hrunning, hedge]; rfl)).trans ?_)
  unfold phaseEvent
  dsimp only
  rw [if_neg (by simp [hclock, htakes]), if_pos hearly]
  rfl

theorem syncInEdge_compared (hintime : tooEarly s.scan (eventClock s.scan (fraction % 256)) = false)
    (hactive : s.scan.active = 2) (hlock : s.scan.lock = .acquiring) (hcount : s.scan.eventCount = 0) : ∃ n,
    exec (.syncInEdge rising fraction) s = .next { s with scan := comparedEdge (fraction % 256) n s.scan } := by
  have hnolost : ∀ c, lostLock s.scan c = false := fun c => by simp [lostLock, hlock]
  obtain ⟨n, haccepted⟩ := acceptEvent_compared (t := eventClock s.scan (fraction % 256))
    (cap := captured s.scan (fraction % 256) 4) (expected := ((s.scan.ref.phase * 256 : Nat) : Int)) hlock hactive hcount
  refine ⟨n, congrArg Host.Outcome.next ((if_pos (by rw [hrunning, hedge]; rfl)).trans ?_)⟩
  unfold phaseEvent
  dsimp only
  rw [if_neg (by simp [hclock, htakes]), if_neg (by simp [hintime]), haccepted, if_neg (by simp [hnolost])]
  rfl

end

theorem clampDelta_le (clamp x) : (clampDelta clamp x).natAbs ≤ clamp * 1000 := by
  unfold clampDelta clampInt
  omega

/-- What a compared edge leaves (R47, R48). -/
theorem comparedEdge_parts {c : Scan} (fraction n) (hlock : c.lock = .acquiring) :
    let t := comparedEdge fraction n c
    t.phaseError = wrapPhase (captured c fraction 4 - ((c.ref.phase * 256 : Nat) : Int))
      ∧ t.delta.natAbs ≤ c.ref.clamp * 1000 ∧ t.period = periodOf c.rate t.delta
      ∧ t.lastEvent = some (eventClock c fraction)
      ∧ (t.lock = .locked ↔ t.phaseError.natAbs ≤ 256 ∧ c.goodRun ≥ 15) := by
  refine ⟨rfl, clampDelta_le _ _, rfl, rfl, ?_⟩
  simp only [comparedEdge, noteLock, comparePhase, hlock]
  generalize wrapPhase _ = e
  by_cases hgood : e.natAbs ≤ 256
  · by_cases hrun : 15 ≤ c.goodRun <;> simp [hgood, hrun]
  · simp [hgood]

/-! ## Loss of the reference (R48) -/

theorem referenceHoldover_noted {s : State} (h : s.scan.lock = .acquiring ∨ s.scan.lock = .locked) : ∃ t,
    exec .referenceHoldover s = .next t
      ∧ t.scan = { s.scan with lock := .holdover, goodRun := 0, badRun := 0, lastEvent := none }
      ∧ Noted 0x44 0x1D { s with scan := t.scan } t := by
  refine ⟨_, congrArg Host.Outcome.next (if_pos h), raiseKind_scan _ _ _, ?_⟩
  rw [raiseKind_scan]
  exact raiseKind_noted 0x44 {} _ (by decide) (by decide)

/-- Settles O22, command by command. -/
theorem almanacAndReferenceCommands : Obligations.AlmanacAndReferenceCommands := by
  refine ⟨fun s hpulse => congrArg Host.Outcome.next (if_pos hpulse),
    fun s raw c rest hqueue hchannel hring hnext => sampleConversion_served hqueue hchannel hring hnext,
    fun s firmware hready hpix => ⟨_, congrArg Host.Outcome.next (if_pos (by rw [hready, hpix]; rfl)), rfl, rfl, rfl⟩,
    fun s e haction => entryActs_sample s haction, fun s hready => congrArg Host.Outcome.next ((if_pos hready).trans ?_),
    fun s rising fraction hrunning hedge hclock htakes => ⟨syncInEdge_rejected hrunning hedge hclock htakes,
      fun hintime hactive hlock hcount => ?_⟩,
    fun s lane packet fraction hlink hlane hcontrol hempty hno hgood hlength hpos hzero hnew => ?_,
    fun s hlock => referenceHoldover_noted hlock, fun s hfallback hclock => ?_, fun s count hcore hclock hcount => ?_,
    fun s hstop => congrArg Host.Outcome.next (if_pos hstop)⟩
  case refine_1 =>
    exact congrArg (s.almanac.unsaved.foldl · s) (funext fun t => funext fun n => offerEntry_eq n t)
  case refine_2 =>
    obtain ⟨n, hexec⟩ := syncInEdge_compared hrunning hedge hclock htakes hintime hactive hlock hcount
    exact ⟨_, hexec, comparedEdge_parts _ n hlock⟩
  case refine_3 =>
    obtain ⟨t, hexec, -, htaken, -⟩ :=
      timeSync_takesPair fraction hlink hlane hcontrol hgood hlength hpos hzero hnew
    obtain ⟨hpair, -⟩ := htaken hempty hno
    exact ⟨t, hexec, congrArg Prod.fst hpair, congrArg Prod.snd hpair⟩
  case refine_4 =>
    refine congrArg Host.Outcome.next ((if_pos (by rw [hfallback, hclock]; rfl)).trans ?_)
    rfl
  case refine_5 =>
    exact congrArg Host.Outcome.next (if_pos (by simp [hcore, hclock, hcount]))

end Sys2Proof.Laws
end

section
/-!
O21: what the work of an eighth leaves of the time (R40, R42, R43, R52 to R55, R63): one lemma per operation, each
composed of those of the operations it is built of.
-/

namespace Sys2Proof.Laws

open Sys2Proof Sys2Proof.Machine

/-- The scan, the mask count, and the Leap count with what the AON was last sent (R42, R55, R63). -/
def timeOf (s : State) : Scan × BitVec 32 × Bool × BitVec 40 × Shadow :=
  (s.scan, s.almanac.maskCount, s.almanac.restart, s.aon.leap, s.aon.shadow)

/-- The time of `s` is `x`. -/
@[reducible] def StandsAt (x : Scan × BitVec 32 × Bool × BitVec 40 × Shadow) (s : State) : Prop := timeOf s = x

variable {x : Scan × BitVec 32 × Bool × BitVec 40 × Shadow}

theorem stands_of_eq {s t : State} (e : timeOf t = timeOf s) (h : StandsAt x s) : StandsAt x t := e.trans h

/-- An operation whose footprint lies outside the time. -/
theorem stands_of_frame {s t : State} {c : State → State} (e : c t = c s) (hc : ∀ u, timeOf (c u) = timeOf u)
    (h : StandsAt x s) : StandsAt x t :=
  stands_of_eq (by rw [← hc, e, hc]) h

/-- What a fault writes is nothing of the time. -/
theorem stands_of_only {s t : State} (e : Outside.faultParts t = Outside.faultParts s) (h : StandsAt x s) :
    StandsAt x t :=
  stands_of_frame e (fun _ => rfl) h

theorem stands_ite {c : Prop} [Decidable c] {a b : State} (ha : StandsAt x a) (hb : StandsAt x b) :
    StandsAt x (if c then a else b) := by
  split
  · exact ha
  · exact hb

theorem stands_foldl {α : Type} {g : State → α → State} (hg : ∀ s a, StandsAt x s → StandsAt x (g s a)) {l : List α}
    {s : State} (h : StandsAt x s) : StandsAt x (l.foldl g s) :=
  List.foldlRecOn l g h fun s h a _ => hg s a h

/-! ## Kinds -/

theorem raiseKind_stands {k i s} (h : StandsAt x s) : StandsAt x (raiseKind k i s) :=
  stands_of_only (raiseKind_only k i s) h

theorem clearCondition_stands {k u s} (h : StandsAt x s) : StandsAt x (clearCondition k u s) :=
  stands_of_only (clearCondition_only k u s) h

theorem ctrl_stands {p op payload s} (h : StandsAt x s) : StandsAt x (ctrl p op payload s) :=
  stands_of_only (ctrl_only p op payload s) h

theorem onLink_stands {p f s} (h : StandsAt x s) : StandsAt x (onLink p f s) := h

theorem raiseSupply_stands {p a b s} (h : StandsAt x s) : StandsAt x (raiseSupply p a b s) :=
  stands_of_frame (raiseSupply_frame p a b s) (fun _ => rfl) h

theorem failCeiling_stands {c s} (h : StandsAt x s) : StandsAt x (failCeiling c s) := raiseKind_stands h

/-! ## A band boundary (R43 items 2 and 3) -/

theorem acceptCommit_stands {s} (h : StandsAt x s) : StandsAt x (acceptCommit s) :=
  stands_of_frame (handleByPins_frame _) (fun _ => rfl) (stands_of_frame (onManifest_frame _ s) (fun _ => rfl) h)

theorem commitBoundary_stands {s} (h : StandsAt x s) : StandsAt x (commitBoundary s) :=
  have hirq : ∀ {bit t}, StandsAt x t → StandsAt x (setIrq bit t) :=
    fun ht => stands_of_frame (setIrq_frame _ _) (fun _ => rfl) ht
  stands_ite (stands_ite (hirq (acceptCommit_stands h))
    (hirq (stands_of_frame (refuseCommit_frame _ s) (fun _ => rfl) h))) h

theorem markLate_stands {p need s} (h : StandsAt x s) : StandsAt x (markLate p need s) :=
  stands_of_eq (congrArg (fun y : State × Nvm => timeOf y.1) (markLate_besideStaging p need s) :) h

theorem composeHalf_stands {p row col lower s} (h : StandsAt x s) : StandsAt x (composeHalf p row col lower s) :=
  stands_of_eq (congrArg (fun y : State × Nvm => timeOf y.1) (composeHalf_besideHalf p row col lower s) :) h

theorem cutBuffered_stands {frame zr s} (h : StandsAt x s) : StandsAt x (cutBuffered frame zr s) :=
  stands_ite (stands_foldl (fun _ _ => markLate_stands) h) h

theorem cutZoneRow_stands {b s} (h : StandsAt x s) : StandsAt x (cutZoneRow b s) :=
  stands_ite (cutBuffered_stands h) (stands_ite (cutBuffered_stands h) h)

theorem startBand_stands {b s} (h : StandsAt x s) : StandsAt x (startBand b s) :=
  have hbegin : ∀ {band t}, StandsAt x t → StandsAt x (chooseZones band (beginBand band t)) := fun ht =>
    stands_of_frame (chooseZones_frame _ _) (fun _ => rfl) (stands_of_frame (beginBand_frame _ _) (fun _ => rfl) ht)
  stands_ite (stands_ite (hbegin (stands_of_frame (beginFrame_frame _ _ _ s) (fun _ => rfl) h))
    (stands_ite (stands_of_frame (leaveRacing_frame s) (fun _ => rfl) h) h)) (stands_ite (hbegin h) h)

theorem compositionBoundary_stands {b s} (h : StandsAt x s) : StandsAt x (compositionBoundary b s) :=
  have hcut : StandsAt x (cutZoneRow b s) := cutZoneRow_stands h
  stands_ite h (stands_ite (stands_ite hcut (stands_of_frame (startBuffered_frame _) (fun _ => rfl) hcut))
    (startBand_stands hcut))

theorem judgeRate_stands {p s} (h : StandsAt x s) : StandsAt x (judgeRate p s) :=
  stands_ite (raiseKind_stands (onLink_stands h)) (stands_ite (clearCondition_stands (onLink_stands h))
    (onLink_stands h))

theorem remapPort_stands {p b s} (h : StandsAt x s) : StandsAt x (remapPort p b s) :=
  ctrl_stands (judgeRate_stands (onLink_stands h))

theorem remapBoundary_stands {b s} (h : StandsAt x s) : StandsAt x (remapBoundary b s) :=
  stands_foldl (fun _ _ ht => stands_ite (remapPort_stands ht) (onLink_stands ht)) h

theorem bandBoundary_stands {b s} (h : StandsAt x s) : StandsAt x (bandBoundary b s) :=
  stands_of_frame (openReport_frame _ _) (fun _ => rfl) (remapBoundary_stands (compositionBoundary_stands
    (stands_ite (stands_of_frame (swapBoundary_frame _) (fun _ => rfl) (commitBoundary_stands h)) h)))

/-! ## The line and the sub-period (R141, R165, R199) -/

theorem showSafe_stands {p s} (h : StandsAt x s) : StandsAt x (showSafe p s) :=
  raiseSupply_stands (onLink_stands h)

theorem takeSafe_stands {s} (h : StandsAt x s) : StandsAt x (takeSafe s) :=
  have hshown := stands_foldl (fun _ _ ht => stands_ite (showSafe_stands ht) ht) h
  stands_ite hshown (stands_of_only (dropEnables_only _) hshown)

theorem lineStart_stands {before s} (h : StandsAt x s) : StandsAt x (lineStart before s) :=
  have hheld : ∀ {t : State} {f}, StandsAt x t → StandsAt x { t with link := t.link.map f } := id
  stands_foldl (fun _ _ ht => stands_of_frame (noteScanned_frame _ _ _) (fun _ => rfl) (onLink_stands ht))
    (stands_of_frame (noteSeed_frame _) (fun _ => rfl) (hheld (takeSafe_stands h)))

theorem enterRun_stands {r s} (h : StandsAt x s) : StandsAt x (enterRun r s) :=
  stands_of_frame (enterRun_frame r s) (fun _ => rfl) h

theorem completeOlder_stands {s} (h : StandsAt x s) : StandsAt x (completeOlder s) := by
  unfold completeOlder
  split
  · exact stands_ite (stands_of_frame (onCompose_frame _ _) (fun _ => rfl)
      (enterRun_stands (stands_foldl (fun _ _ => composeHalf_stands) (enterRun_stands h)))) h
  · exact h

theorem lineAndSeed_stands {before s} (h : StandsAt x s) : StandsAt x (lineAndSeed before s) :=
  have hsub := stands_ite (stands_of_frame (subPeriodStart_frame s) (fun _ => rfl) h) h
  have hline := stands_ite (lineStart_stands hsub) hsub
  stands_ite (completeOlder_stands hline) hline

/-! ## The Almanac (R57 to R61) -/

theorem noteLate_stands {lateness s} (h : StandsAt x s) : StandsAt x (noteLate lateness s) :=
  stands_ite (raiseKind_stands h) h

theorem noteSkip_stands {e s} (h : StandsAt x s) : StandsAt x (noteSkip e s) := stands_ite h h

theorem enqueueWrite_stands {w s} (h : StandsAt x s) : StandsAt x (enqueueWrite w s) := by
  unfold enqueueWrite
  split
  · exact h
  · exact stands_of_frame (answerWaiter_frame _ _ _) (fun _ => rfl) h
  · exact stands_of_frame (answerWaiter_frame _ _ _) (fun _ => rfl) (raiseKind_stands h)

theorem offerEntry_stands {n s} (h : StandsAt x s) : StandsAt x (offerEntry n s) :=
  stands_ite h (enqueueWrite_stands h)

theorem clearOneShot_stands {n e s} (h : StandsAt x s) : StandsAt x (clearOneShot n e s) :=
  stands_ite h (stands_ite (offerEntry_stands h) h)

theorem driveSyncOut_stands {argument s} (h : StandsAt x s) : StandsAt x (onAlmanac (driveSyncOut argument) s) := by
  refine stands_of_eq ?_ h
  unfold onAlmanac driveSyncOut
  split <;> rfl

theorem entryActs_stands {e s} (h : StandsAt x s) : StandsAt x (entryActs e s) := by
  unfold entryActs
  split
  · exact stands_of_frame (sampleHk_frame _ _) (fun _ => rfl) h
  · exact stands_of_frame (openProbeWindow_frame _ _ _ _) (fun _ => rfl) h
  · exact stands_of_frame (requestCommit_frame _) (fun _ => rfl) h
  · exact stands_of_frame (requestSwap_frame _) (fun _ => rfl) h
  · exact driveSyncOut_stands h
  · exact stands_of_frame (setIrq_frame _ _) (fun _ => rfl) h
  · exact stands_of_frame (startCalStep_frame _ _) (fun _ => rfl) h
  · exact h

theorem executeEntry_stands {n e lateness s} (h : StandsAt x s) : StandsAt x (executeEntry n e lateness s) :=
  clearOneShot_stands (entryActs_stands (stands_ite h (noteLate_stands h)))

theorem runEntries_stands : ∀ {es used s}, StandsAt x s → StandsAt x (runEntries es used s)
  | [], _, _, h => h
  | (_, _, _) :: es, _, _, h => stands_ite h
      (stands_ite (runEntries_stands (es := es) (noteSkip_stands h))
        (runEntries_stands (es := es) (executeEntry_stands h)))

theorem runAlmanac_stands {s} (h : StandsAt x s) : StandsAt x (runAlmanac s) := runEntries_stands h

/-! ## What a frame boundary does beside the time (R43 item 1) -/

theorem clearRecord_stands {p s} (h : StandsAt x s) : StandsAt x (clearRecord p s) :=
  have hput := stands_of_frame (putRecord_frame p 0 0xFFFFFFFF s) (fun _ => rfl) h
  stands_ite hput (clearCondition_stands hput)

theorem frameCeiling_stands {bad s} (h : StandsAt x s) : StandsAt x (frameCeiling bad s) :=
  have hput := stands_of_frame (ceilingBoundary_frame s) (fun _ => rfl) h
  have hrewritten : ∀ {t : State} {l}, StandsAt x t →
      StandsAt x { t with ceiling := { t.ceiling with rewritten := l } } := id
  stands_foldl (fun _ _ ht => stands_ite (clearRecord_stands ht) ht)
    (hrewritten (stands_ite (failCeiling_stands hput) hput))

theorem endSafeUntilCommit_stands {s} (h : StandsAt x s) : StandsAt x (endSafeUntilCommit s) :=
  stands_ite (clearCondition_stands h) h

theorem modeBoundary_stands {s} (h : StandsAt x s) : StandsAt x (modeBoundary s) := by
  have hstart : ∀ {t}, StandsAt x t → StandsAt x (startModeChange t) :=
    fun ht => stands_of_frame (startModeChange_frame _) (fun _ => rfl) ht
  have hput : ∀ {f}, StandsAt x (onManifest f s) := stands_of_frame (onManifest_frame _ s) (fun _ => rfl) h
  unfold modeBoundary
  split
  · exact h
  · exact stands_ite (hstart hput) hput
  · exact stands_ite (hstart hput) (stands_ite (stands_of_frame (repeatFrame_frame _) (fun _ => rfl) hput) hput)

theorem restoreDivergence_stands {s} (h : StandsAt x s) : StandsAt x (restoreDivergence s) :=
  stands_ite (stands_of_frame (handleKind_frame _ _) (fun _ => rfl) (stands_foldl (fun _ _ ht =>
    stands_of_frame (rebuildSteps_frame _ _) (fun _ => rfl) (stands_of_frame (onFullScale_frame _ _ _) (fun _ => rfl)
      ht)) h)) h

theorem writeChanged_stands {p old s} (h : StandsAt x s) : StandsAt x (writeChanged p old s) :=
  have hwindow := stands_ite h (ctrl_stands h)
  have hlimit := stands_ite hwindow (ctrl_stands hwindow)
  stands_ite h (stands_ite hlimit (stands_of_frame (onPixels_frame _ _ _) (fun _ => rfl) (ctrl_stands hlimit)))

theorem diagnosticBoundary_stands {s} (h : StandsAt x s) : StandsAt x (diagnosticBoundary s) :=
  have hmarks : ∀ {a b}, StandsAt x { s with pixels := a, checker := b } := h
  have hwritten := stands_foldl (fun _ _ => writeChanged_stands) hmarks
  stands_ite (stands_of_frame (concealAll_frame _) (fun _ => rfl) hwritten) hwritten

theorem announceRate_stands {s} (h : StandsAt x s) : StandsAt x (announceRate s) := by
  unfold announceRate
  split
  · exact stands_foldl (fun _ _ ht => stands_ite (ctrl_stands ht) ht) h
  · exact h

theorem portBoundary_stands {s} (h : StandsAt x s) : StandsAt x (portBoundary s) :=
  have hlinks : ∀ {t : State} {f}, StandsAt x t → StandsAt x { t with link := t.link.map f } := id
  hlinks (stands_foldl (fun _ _ ht => stands_ite (onLink_stands ht) ht) h)

theorem queueBoundary_stands {s} (h : StandsAt x s) : StandsAt x (queueBoundary s) := h

theorem returnComposed_stands {s} (h : StandsAt x s) : StandsAt x (returnComposed s) :=
  stands_foldl (fun _ _ ht => stands_ite (raiseSupply_stands (onLink_stands ht)) ht) h

end Sys2Proof.Laws
end

section
/-!
O21: a frame boundary and the passing of an eighth (R40, R42, R43, R52 to R55, R63).
-/

namespace Sys2Proof.Laws

open Sys2Proof Sys2Proof.Machine

/-- What a frame boundary moves of the time (R52 to R54, R63). -/
structure Beat where
  running : Bool
  pos : BitVec 12
  firstFrame : Bool
  epoch : BitVec 32
  dt : BitVec 48
  rate : Nat
  rateNext : List (Nat × Nat)
  maskCount : BitVec 32
  leap : BitVec 40

/-- The beat of a scan, with a mask count and a Leap count. -/
def Beat.of (c : Scan) (maskCount : BitVec 32) (leap : BitVec 40) : Beat :=
  ⟨c.running, c.pos, c.firstFrame, c.epoch, c.dt, c.rate, c.rateNext, maskCount, leap⟩

def beatOf (s : State) : Beat := Beat.of s.scan s.almanac.maskCount s.aon.leap

theorem beatOf_of_only {s t : State} (e : Outside.faultParts t = Outside.faultParts s) : beatOf t = beatOf s :=
  (congrArg beatOf e :)

/-- A vote that is withdrawn does not put the part in Stop: the CP has votes of its own, or its tasks before Stop run
(R443). -/
def Attends (w : Power) : Prop := w.stopTasks = true ∨ w.votes.cp &&& allDomains ≠ 0

/-- The frame boundary has come to the time `b`, and the part does not go to Stop in it. -/
def BeatsAt (b : Beat) (s : State) : Prop := beatOf s = b ∧ Attends s.power

variable {b : Beat}

theorem beats_of_eq {s t : State} (e : beatOf t = beatOf s) (hpower : t.power = s.power) (h : BeatsAt b s) :
    BeatsAt b t :=
  ⟨e.trans h.1, hpower ▸ h.2⟩

/-- An operation that leaves the time and the power. -/
theorem beats_of_stands {s t : State} (e : StandsAt (timeOf s) t) (hpower : t.power = s.power) (h : BeatsAt b s) :
    BeatsAt b t := by
  simp only [StandsAt, timeOf, Prod.mk.injEq] at e
  obtain ⟨hscan, hmask, -, hleap, -⟩ := e
  exact beats_of_eq (by simp only [beatOf, hscan, hmask, hleap]) hpower h

/-- An operation whose footprint lies outside the time and the power. -/
theorem beats_of_frame {s t : State} {c : State → State} (e : c t = c s) (hc : ∀ u, beatOf (c u) = beatOf u)
    (hpower : ∀ u, (c u).power = u.power) (h : BeatsAt b s) : BeatsAt b t :=
  beats_of_eq (by rw [← hc, e, hc]) (by rw [← hpower, e, hpower]) h

theorem beats_ite {c : Prop} [Decidable c] {s t : State} (hs : BeatsAt b s) (ht : BeatsAt b t) :
    BeatsAt b (if c then s else t) := by
  split
  · exact hs
  · exact ht

/-! ## Votes that are withdrawn -/

theorem startStopTasks_beats {s} (h : beatOf s = b) : BeatsAt b (startStopTasks s) := ⟨h, Or.inl rfl⟩

theorem afterWithdrawal_beats {s} (h : BeatsAt b s) : BeatsAt b (afterWithdrawal s) := by
  unfold afterWithdrawal
  split
  · exact h
  · next hidle =>
    obtain ⟨htime, htasks | hvotes⟩ := h
    · simp [htasks] at hidle
    · rw [if_pos (by simpa using hvotes)]
      exact startStopTasks_beats htime

theorem endCalStep_beats {s} (h : BeatsAt b s) : BeatsAt b (endCalStep s) := beats_ite (afterWithdrawal_beats h) h

theorem discardPaused_beats {s} (h : BeatsAt b s) : BeatsAt b (discardPaused s) := beats_ite h (endCalStep_beats h)

theorem releaseWakeVotes_beats {s} (h : BeatsAt b s) : BeatsAt b (releaseWakeVotes s) :=
  beats_ite (afterWithdrawal_beats h) h

theorem frameEnables_beats {s} (h : BeatsAt b s) : BeatsAt b (frameEnables s) :=
  releaseWakeVotes_beats (beats_of_frame (raiseEnables_frame _) (fun _ => rfl) (fun _ => rfl)
    (beats_of_frame (endBlanking_frame s) (fun _ => rfl) (fun _ => rfl) h))

/-! ## An activation whose port has settled (R411 to R414) -/

theorem writeBoot_beat (cause port s) : beatOf (writeBoot cause port s) = beatOf s := by
  unfold writeBoot
  exact (beatOf_of_only (writeEntry_only _ _ _ _ _)).trans rfl

theorem stopPort_beat (p s) : beatOf (stopPort p s) = beatOf s := by
  rw [stopPort, apply_ite beatOf, beatOf_of_only (sendHold_only p s), ite_self]

theorem restartLs_beat (p cause s) : beatOf (restartLs p cause s) = beatOf s :=
  (writeBoot_beat _ _ _).trans ((stopPort_beat p _).trans (beatOf_of_only (closeWrappers_only _ s)))

/-- The time and the power, which no answer to a request changes. -/
def beatAndPower (s : State) : Beat × Power := (beatOf s, s.power)

theorem beatAndPower_answer (via write index sub status bs s) (_ : via = .sbp → write = true) :
    beatAndPower (answer via write index sub status bs s) = beatAndPower s :=
  (congrArg beatAndPower (answer_frame via write index sub status bs s) :)

theorem busyRequests_beat (s) : beatAndPower (busyRequests s) = beatAndPower s :=
  busyRequests_view beatAndPower_answer (fun _ _ _ => rfl)
    (dropPackets_view (fun _ _ _ => rfl) (fun _ _ => rfl) (fun _ _ => rfl) (fun _ _ _ => rfl)
      fun s => (congrArg beatAndPower (clearCondition_only 0x0B 0x06 s) :))
    (refuseAll_view beatAndPower_answer _ _ _ s)

theorem waybillAll_beat (s) : beatAndPower (waybillAll s) = beatAndPower s :=
  have hsent : ∀ ad reason w t, beatAndPower (sendWaybill ad reason w t) = beatAndPower t := fun ad reason w t =>
    (congrArg beatAndPower (sendWaybill_only ad reason w t) :)
  foldl_keeps beatAndPower (fun _ _ => hsent _ _ _ _) _ _

theorem dropRingVote_beats {s} (h : BeatsAt b s) : BeatsAt b (dropRingVote s) :=
  beats_ite h (afterWithdrawal_beats h)

theorem settleRelayVote_beats {s} (h : BeatsAt b s) : BeatsAt b (settleRelayVote s) :=
  beats_ite h (beats_ite (dropRingVote_beats h) (beats_ite h h))

theorem abortRelays_beats {status s} (h : BeatsAt b s) : BeatsAt b (abortRelays status s) :=
  settleRelayVote_beats (List.foldlRecOn _ _ (motive := BeatsAt b) h fun _ ht r _ =>
    beats_of_frame (answerRelay_frame r status [] _) (fun _ => rfl) (fun _ => rfl) ht)

theorem restartCp_time {cause s} (h : BeatsAt b s) : beatOf (restartCp cause s) = b := by
  have hbusy := (busyRequests_beat (waybillAll s)).trans (waybillAll_beat s)
  have hrelays : BeatsAt b (abortRelays stBusy (busyRequests (waybillAll s))) :=
    abortRelays_beats (beats_of_eq (congrArg Prod.fst hbusy) (congrArg Prod.snd hbusy) h)
  unfold restartCp
  dsimp only
  rw [writeBoot_beat]
  generalize abortRelays stBusy (busyRequests (waybillAll s)) = u at hrelays
  exact hrelays.1

theorem activationBoundary_time {s} (h : BeatsAt b s) : beatOf (activationBoundary s) = b := by
  have hfinish : beatOf (finishActivation s) = b := by
    unfold finishActivation
    dsimp only
    split
    · exact h.1
    · exact h.1
  have hadvance : beatOf (advanceActivation s) = b := by
    unfold advanceActivation
    split
    · split
      · exact (restartLs_beat _ _ _).trans h.1
      · exact h.1
    · split
      · exact restartCp_time h
      · exact hfinish
  unfold activationBoundary
  split
  · exact h.1
  · split
    · exact hadvance
    · exact h.1

/-! ## The settings that a frame boundary puts in force (R51, R52) -/

/-- The frame of `b` is the next one: its Epoch counts on unless it is the first, and the mask count restarts or counts
(R53, R63). -/
def Beat.nextFrame (b : Beat) (restart : Bool) : Beat :=
  { b with
    firstFrame := false
    epoch := if b.firstFrame then b.epoch else b.epoch + 1
    maskCount := if restart then 0 else b.maskCount + 1 }

/-- A frame rate whose second boundary this is takes effect (R52). -/
def Beat.latched (b : Beat) : Beat :=
  { b with
    rate := ((b.rateNext.find? fun x => decide (x.2 ≤ 1)).map Prod.fst).getD b.rate
    rateNext := (b.rateNext.filter fun x => decide (1 < x.2)).map fun x => (x.1, x.2 - 1) }

/-- A new configuration of the reference leaves what a frame boundary moves (R46, R51). -/
theorem applyRef_beat (r c maskCount leap) : Beat.of (applyRef r c) maskCount leap = Beat.of c maskCount leap := by
  unfold applyRef Beat.of freeRunning changeSource
  split
  · rfl
  · dsimp only
    split
    · rfl
    · split <;> rfl

theorem stepRate_beat (c maskCount leap) :
    Beat.of (stepRate c) maskCount leap = (Beat.of c maskCount leap).latched := by
  unfold stepRate Beat.latched Beat.of
  dsimp only
  cases c.rateNext.find? fun x => decide (x.2 ≤ 1) with
  | none => rfl
  | some x => rfl

theorem latchSettings_beat (s) : beatOf (latchSettings s) = (beatOf s).latched :=
  (stepRate_beat _ _ _).trans (congrArg Beat.latched (applyRef_beat _ _ _ _))

theorem latchSettings_beats {s} (h : BeatsAt b s) : BeatsAt b.latched (latchSettings s) :=
  ⟨(latchSettings_beat s).trans (congrArg Beat.latched h.1), h.2⟩

/-! ## A frame boundary (R43 item 1) -/

/-- What the time and its course rest on: the scan, the Almanac, the AON, the power, and what the Caravan hands over. -/
def clockwork (s : State) : Scan × Almanac × Aon × Power × Caravan := (s.scan, s.almanac, s.aon, s.power, s.caravan)

/-- What has been sampled and scanned in the frame that ends is closed. -/
def frameEnded (s : State) : State := endScanned (Port.all.foldl (fun s p => pairSamples p s) s)

theorem frameEnded_clockwork (s) : clockwork (frameEnded s) = clockwork s := by
  have hscanned : ∀ t, clockwork (endScanned t) = clockwork t := fun _ => rfl
  have hpaired : ∀ t p, clockwork (pairSamples p t) = clockwork t := fun t p =>
    (congrArg clockwork (pairSamples_frame p t) :)
  rw [frameEnded, hscanned, foldl_keeps clockwork hpaired]

theorem nextEpoch_beats {s} (hadopt : s.caravan.adopt = none) (h : Attends s.power) :
    BeatsAt ((beatOf s).nextFrame s.almanac.restart) (almanacBoundary (nextEpoch s)) := by
  rw [nextEpoch, hadopt]
  exact ⟨rfl, h⟩

theorem diagnosticBoundary_power (s) : (diagnosticBoundary s).power = s.power := by
  have hwritten : ∀ old t p, (writeChanged p old t).power = t.power := fun old t p =>
    (congrArg State.power (writeChanged_frame p old t) :)
  have hconcealed : ∀ t, (concealAll t).power = t.power := fun t => (congrArg State.power (concealAll_frame t) :)
  unfold diagnosticBoundary
  dsimp only
  rw [apply_ite State.power, hconcealed, ite_self]
  exact foldl_keeps State.power (hwritten s) _ _

theorem decayActive_beats {s} (h : BeatsAt b s) : BeatsAt b (decayActive s) :=
  beats_of_frame (decayActive_frame s) (fun _ => rfl) (fun _ => rfl) h

theorem modeBoundary_beats {s} (h : BeatsAt b s) : BeatsAt b (modeBoundary s) :=
  beats_of_stands (modeBoundary_stands rfl) (congrArg State.power (modeBoundary_frame s) :) h

theorem restoreDivergence_beats {s} (h : BeatsAt b s) : BeatsAt b (restoreDivergence s) :=
  beats_of_stands (restoreDivergence_stands rfl) (congrArg State.power (restoreDivergence_frame s) :) h

theorem repairBoundary_beats {s} (h : BeatsAt b s) : BeatsAt b (repairBoundary s) :=
  beats_of_frame (repairBoundary_frame s) (fun _ => rfl) (fun _ => rfl) h

theorem clearFrameMarks_beats {s} (h : BeatsAt b s) : BeatsAt b (clearFrameMarks s) :=
  beats_of_frame (clearFrameMarks_frame s) (fun _ => rfl) (fun _ => rfl) h

theorem pinBoundary_beats {s} (h : BeatsAt b s) : BeatsAt b (pinBoundary s) :=
  beats_of_frame (pinBoundary_frame s) (fun _ => rfl) (fun _ => rfl) h

theorem warpBoundary_beats {s} (h : BeatsAt b s) : BeatsAt b (warpBoundary s) :=
  beats_of_frame (warpBoundary_frame s) (fun _ => rfl) (fun _ => rfl) h

theorem frameCeiling_beats {bad s} (h : BeatsAt b s) : BeatsAt b (frameCeiling bad s) :=
  beats_of_stands (frameCeiling_stands rfl) (congrArg State.power (frameCeiling_frame bad s) :) h

theorem frameExcluded_beats {s} (h : BeatsAt b s) : BeatsAt b (frameExcluded s) :=
  beats_of_frame (frameExcluded_frame s) (fun _ => rfl) (fun _ => rfl) h

theorem queueBoundary_beats {s} (h : BeatsAt b s) : BeatsAt b (queueBoundary s) :=
  beats_of_stands (queueBoundary_stands rfl) (congrArg State.power (queueBoundary_frame s) :) h

theorem portBoundary_beats {s} (h : BeatsAt b s) : BeatsAt b (portBoundary s) :=
  beats_of_stands (portBoundary_stands rfl) (congrArg State.power (portBoundary_frame s) :) h

theorem announceRate_beats {s} (h : BeatsAt b s) : BeatsAt b (announceRate s) :=
  beats_of_stands (announceRate_stands rfl) (congrArg State.power (announceRate_frame s) :) h

theorem diagnosticBoundary_beats {s} (h : BeatsAt b s) : BeatsAt b (diagnosticBoundary s) :=
  beats_of_stands (diagnosticBoundary_stands rfl) (diagnosticBoundary_power s) h

theorem endSafeUntilCommit_beats {s} (h : BeatsAt b s) : BeatsAt b (endSafeUntilCommit s) :=
  beats_of_stands (endSafeUntilCommit_stands rfl) (congrArg State.power (endSafeUntilCommit_frame s) :) h

theorem returnComposed_beats {s} (h : BeatsAt b s) : BeatsAt b (returnComposed s) :=
  beats_of_stands (returnComposed_stands rfl) (congrArg State.power (returnComposed_frame s) :) h

/-- What a frame boundary does before the new frame's settings are in force leaves the time. -/
theorem frameOpened_beats {s} (h : BeatsAt b s) :
    BeatsAt b (repairBoundary (discardPaused (restoreDivergence (modeBoundary (decayActive s))))) :=
  repairBoundary_beats (discardPaused_beats (restoreDivergence_beats (modeBoundary_beats (decayActive_beats h))))

/-- What it does once they are in force leaves the time too. -/
theorem frameFollowed_beats {bad s} (h : BeatsAt b s) : BeatsAt b (returnComposed (endSafeUntilCommit
    (diagnosticBoundary (announceRate (portBoundary (queueBoundary (frameExcluded (frameCeiling bad
      (warpBoundary (pinBoundary (clearFrameMarks s))))))))))) :=
  returnComposed_beats (endSafeUntilCommit_beats (diagnosticBoundary_beats (announceRate_beats (portBoundary_beats
    (queueBoundary_beats (frameExcluded_beats (frameCeiling_beats (warpBoundary_beats (pinBoundary_beats
      (clearFrameMarks_beats h))))))))))

theorem sendShadow_beat (s) : beatOf (sendShadow s) = beatOf s := rfl

/-- A frame boundary with no Epoch to adopt (R52, R53, R63). -/
theorem frameBoundary_beat {bad s} (hadopt : s.caravan.adopt = none) (h : Attends s.power) :
    beatOf (frameBoundary bad s) = ((beatOf s).nextFrame s.almanac.restart).latched := by
  have hended := frameEnded_clockwork s
  simp only [clockwork, Prod.mk.injEq] at hended
  obtain ⟨hscan, halmanac, haon, hpower, hcaravan⟩ := hended
  have hbegun := nextEpoch_beats (s := frameEnded s) (by rw [hcaravan, hadopt]) (by rwa [hpower])
  have hbeat : beatOf (frameEnded s) = beatOf s := by simp only [beatOf, hscan, halmanac, haon]
  rw [hbeat, halmanac] at hbegun
  have hdone := activationBoundary_time (frameEnables_beats (frameFollowed_beats (bad := bad) (latchSettings_beats
    (frameOpened_beats hbegun))))
  unfold frameBoundary
  exact (sendShadow_beat _).trans hdone

/-- What the AON is sent of the time (R55). -/
def Beat.sent (b : Beat) : BitVec 48 × BitVec 32 × BitVec 40 := (b.dt, b.epoch, b.leap)

theorem sendShadow_shadow (s) : shadowTime (sendShadow s) = (beatOf (sendShadow s)).sent := rfl

/-- The AON has been sent the time of the new frame (R55). -/
theorem frameBoundary_shadow (bad s) : shadowTime (frameBoundary bad s) = (beatOf (frameBoundary bad s)).sent := by
  unfold frameBoundary
  exact sendShadow_shadow _

/-! ## The passing of an eighth (R40, R42) -/

/-- The eighth under way ends, with the ticks of the AON counted in it, and a line that begins opens on every port. -/
def eighthOpened (leap : Nat) (s : State) : State :=
  let s1 := endEighth (countLeap leap s)
  if s1.scan.pos.toNat % 8 = 0 then openLine s1 else s1

/-- The next eighth begins. -/
def beginEighth (s : State) : State := { s with scan := nextEighth s.scan }

/-- The next eighth has begun, with a frame at position 0. -/
def eighthBegun (bad : Bool) (s : State) : State :=
  beginEighth (if s.scan.pos.toNat = 0 then frameBoundary bad s else s)

theorem eighthOpened_clockwork (leap s) :
    clockwork (eighthOpened leap s) = clockwork (endEighth (countLeap leap s)) := by
  have hline : ∀ t, clockwork (openLine t) = clockwork t := fun _ => rfl
  unfold eighthOpened
  dsimp only
  rw [apply_ite clockwork, hline, ite_self]

theorem boundaries_stands (bad s) : StandsAt (timeOf (eighthBegun bad s)) (boundaries bad s) := by
  have hbegun : ∀ {s1 : State}, StandsAt (timeOf (beginEighth s1))
      { s1 with scan := nextEighth s1.scan, almanac := countPulse s1.almanac } := rfl
  exact runAlmanac_stands (stands_ite (bandBoundary_stands hbegun) hbegun)

theorem eighthBoundary_next {leap bad s} (hreset : inReset s = false) (hlink : isOn s .link = true)
    (hpix : isOn s .pix = true) (hcore : isOn s .core = true) : ∃ t, exec (.eighthBoundary leap bad) s = .next t
      ∧ timeOf t = timeOf (eighthBegun bad (eighthOpened leap s)) := by
  refine ⟨lineAndSeed (countLeap leap s) (boundaries bad (eighthOpened leap s)), ?_,
    lineAndSeed_stands (boundaries_stands _ _)⟩
  have hpowered : (isOn s .link && isOn s .pix && isOn s .core && !inReset s) = true := by
    rw [hlink, hpix, hcore, hreset]; rfl
  exact congrArg Host.Outcome.next (if_pos hpowered)

end Sys2Proof.Laws
end

section
/-!
O21: EIGHTH_BOUNDARY (R40, R42, R43, R52 to R55, R63).
-/

namespace Sys2Proof.Laws

open Sys2Proof Sys2Proof.Machine

/-! ## The end of an eighth (R42, R54) -/

/-- The eighth under way has ended: its clocks are counted, and the position is the next one. -/
def oneEighthOn (c : Scan) : Scan :=
  { c with
    pos := c.pos + 1, eighths := c.eighths + 1
    dt := c.dt + BitVec.ofNat 48 ((c.clkRest + c.clocks) / 200)
    clkRest := (c.clkRest + c.clocks) % 200
    clkTotal := c.clkTotal + c.clocks }

theorem eighthOpened_parts (leap s) : (eighthOpened leap s).scan = (endEighth (countLeap leap s)).scan
    ∧ (eighthOpened leap s).almanac = s.almanac ∧ (eighthOpened leap s).aon.leap = s.aon.leap + BitVec.ofNat 40 leap
    ∧ (eighthOpened leap s).power = s.power ∧ (eighthOpened leap s).caravan = s.caravan := by
  have hend : ∀ t, (clockwork (endEighth t)).2 = (clockwork t).2 := fun t => by
    unfold endEighth
    split <;> rfl
  have hopened := eighthOpened_clockwork leap s
  have hrest := (congrArg Prod.snd hopened).trans (hend _)
  simp only [clockwork, countLeap, Prod.mk.injEq] at hopened hrest
  obtain ⟨hscan, -⟩ := hopened
  obtain ⟨halmanac, haon, hpower, hcaravan⟩ := hrest
  exact ⟨hscan, halmanac, congrArg Aon.leap haon, hpower, hcaravan⟩

theorem endEighth_of_running {s} (h : s.scan.running = true) : (endEighth s).scan = oneEighthOn s.scan :=
  congrArg State.scan (if_pos h)

theorem endEighth_of_idle {s} (h : s.scan.running = false) : (endEighth s).scan = { s.scan with
    running := true, pos := 0, phi := 0
    period := if s.scan.period = 0 then periodOf s.scan.rate s.scan.delta else s.scan.period } :=
  congrArg State.scan (if_neg (by simp [h]))

/-- Where a frame begins, the time stands at position 0 of a scan that runs (R42). -/
theorem eighthOpened_beat {leap s} (hframe : s.scan.running = true ∧ s.scan.pos = 4095 ∨ s.scan.running = false) :
    beatOf (eighthOpened leap s) = { beatOf s with
      running := true, pos := 0
      dt := if s.scan.running then s.scan.dt + BitVec.ofNat 48 ((s.scan.clkRest + s.scan.clocks) / 200) else s.scan.dt
      leap := s.aon.leap + BitVec.ofNat 40 leap } := by
  obtain ⟨hscan, halmanac, hleap, -, -⟩ := eighthOpened_parts leap s
  rw [beatOf, hscan, halmanac, hleap]
  obtain ⟨hrun, hpos⟩ | hidle := hframe
  · have hzero : s.scan.pos + 1 = 0 := by rw [hpos]; rfl
    rw [endEighth_of_running (s := countLeap leap s) hrun, if_pos hrun]
    simp only [Beat.of, beatOf, oneEighthOn]
    exact congrArg₂ (Beat.mk · · _ _ _ _ _ _ _) hrun hzero
  · rw [endEighth_of_idle (s := countLeap leap s) hidle, if_neg (Bool.eq_false_iff.1 hidle)]
    rfl

/-! ## The two courses of a boundary -/

theorem eighthBegun_of_frame {bad s} (h : s.scan.pos = 0) : eighthBegun bad s = beginEighth (frameBoundary bad s) :=
  congrArg beginEighth (if_pos (congrArg BitVec.toNat h))

theorem eighthBegun_of_ne {bad s} (h : s.scan.pos ≠ 0) : eighthBegun bad s = beginEighth s :=
  congrArg beginEighth (if_neg fun hzero => h (BitVec.eq_of_toNat_eq hzero))

theorem latched_rate_of_due {b : Beat} {x} (h : (b.rateNext.find? fun x => decide (x.2 ≤ 1)) = some x) :
    b.latched.rate = x.1 := by
  rw [Beat.latched, h]
  rfl

theorem latched_rate_of_none {b : Beat} (h : (b.rateNext.find? fun x => decide (x.2 ≤ 1)) = none) :
    b.latched.rate = b.rate := by
  rw [Beat.latched, h]
  rfl

/-- The beginning of an eighth leaves what a frame boundary has moved, and what it has sent the AON. -/
theorem beat_of_timeOf {t u : State} (h : timeOf t = timeOf (beginEighth u)) :
    beatOf t = beatOf u ∧ shadowTime t = shadowTime u := by
  simp only [timeOf, Prod.mk.injEq] at h
  obtain ⟨hscan, hmask, -, hleap, hshadow⟩ := h
  exact ⟨by rw [beatOf, hscan, hmask, hleap]; rfl, by rw [shadowTime, hshadow]; rfl⟩

/-- Inside a frame the boundary moves the scan one eighth on, and begins the next (R40, R42, R54). -/
theorem eighthBoundary_inFrame {leap bad s} (hreset : inReset s = false) (hlink : isOn s .link = true)
    (hpix : isOn s .pix = true) (hcore : isOn s .core = true) (hrun : s.scan.running = true) (hpos : s.scan.pos ≠ 4095) :
    ∃ t, exec (.eighthBoundary leap bad) s = .next t ∧ t.scan = nextEighth (oneEighthOn s.scan)
      ∧ t.aon.leap = s.aon.leap + BitVec.ofNat 40 leap ∧ t.almanac.maskCount = s.almanac.maskCount := by
  obtain ⟨t, hstep, htime⟩ := eighthBoundary_next (leap := leap) (bad := bad) hreset hlink hpix hcore
  obtain ⟨hscan, halmanac, hleap, -, -⟩ := eighthOpened_parts leap s
  rw [endEighth_of_running (s := countLeap leap s) hrun] at hscan
  have hwithin : s.scan.pos + 1 ≠ 0 := by bv_omega
  have hnext : (eighthOpened leap s).scan.pos ≠ 0 := by rw [hscan]; exact hwithin
  rw [eighthBegun_of_ne hnext] at htime
  simp only [timeOf, beginEighth, Prod.mk.injEq, hscan, halmanac, hleap] at htime
  obtain ⟨htscan, htmask, -, htleap, -⟩ := htime
  exact ⟨t, hstep, htscan, htleap, htmask⟩

/-- Where a frame begins, the boundary puts the next frame's time in force, and the AON is sent it (R52, R53, R55,
R63). -/
theorem eighthBoundary_newFrame {leap bad s} (hreset : inReset s = false) (hlink : isOn s .link = true)
    (hpix : isOn s .pix = true) (hcore : isOn s .core = true)
    (hframe : s.scan.running = true ∧ s.scan.pos = 4095 ∨ s.scan.running = false) (hadopt : s.caravan.adopt = none)
    (hvotes : s.power.votes.cp &&& allDomains ≠ 0) : ∃ t, exec (.eighthBoundary leap bad) s = .next t
      ∧ beatOf t = ((beatOf (eighthOpened leap s)).nextFrame s.almanac.restart).latched
      ∧ shadowTime t = (beatOf t).sent := by
  obtain ⟨t, hstep, htime⟩ := eighthBoundary_next (leap := leap) (bad := bad) hreset hlink hpix hcore
  obtain ⟨-, halmanac, -, hpower, hcaravan⟩ := eighthOpened_parts leap s
  have hbeat := frameBoundary_beat (bad := bad) (s := eighthOpened leap s) (by rw [hcaravan, hadopt])
    (by rw [hpower]; exact Or.inr hvotes)
  have hshadow := frameBoundary_shadow bad (eighthOpened leap s)
  rw [eighthBegun_of_frame (congrArg Beat.pos (eighthOpened_beat hframe))] at htime
  obtain ⟨htbeat, htshadow⟩ := beat_of_timeOf htime
  exact ⟨t, hstep, by rw [htbeat, hbeat, halmanac], by rw [htbeat, htshadow, hshadow]⟩

/-- Settles O21: what the work of a boundary leaves of the time, and what the frame boundary moves of it. -/
theorem eighthBoundaryAdvancesTheScan : Obligations.EighthBoundaryAdvancesTheScan := by
  unfold Obligations.EighthBoundaryAdvancesTheScan
  dsimp only
  refine ⟨fun s leap bad ⟨hreset, hlink, hpix, hcore⟩ hrun hpos => ?_,
    fun s leap bad ⟨hreset, hlink, hpix, hcore⟩ hframe hadopt hvotes => ?_, fun s leap bad hpowered => ?_⟩
  case refine_1 => exact eighthBoundary_inFrame hreset hlink hpix hcore hrun hpos
  case refine_2 =>
    obtain ⟨t, hstep, hbeat, hsent⟩ :=
      eighthBoundary_newFrame (leap := leap) (bad := bad) hreset hlink hpix hcore hframe hadopt hvotes
    rw [eighthOpened_beat hframe] at hbeat
    simp only [shadowTime, Beat.sent, Prod.mk.injEq] at hsent
    obtain ⟨hdt, hepoch, hleap⟩ := hsent
    refine ⟨t, hstep, congrArg Beat.running hbeat, congrArg Beat.pos hbeat, congrArg Beat.firstFrame hbeat,
      congrArg Beat.epoch hbeat, congrArg Beat.dt hbeat, (congrArg Beat.rate hbeat).trans ?_,
      congrArg Beat.maskCount hbeat, hdt, hepoch, hleap.trans (congrArg Beat.leap hbeat)⟩
    cases hdue : s.scan.rateNext.find? fun x => decide (x.2 ≤ 1) with
    | none => exact latched_rate_of_none hdue
    | some x => exact latched_rate_of_due hdue
  case refine_3 =>
    exact congrArg Host.Outcome.next (if_neg fun h => hpowered (by
      simp only [Bool.and_eq_true, Bool.not_eq_true'] at h
      obtain ⟨⟨⟨hlink, hpix⟩, hcore⟩, hreset⟩ := h
      exact ⟨hreset, hlink, hpix, hcore⟩))

end Sys2Proof.Laws
end

section
/-!
O33: the tile codec (R82 to R86, R239): what the ingest unit encodes the decoder gives back.
-/

namespace Sys2Proof.Laws

open Sys2Proof Sys2Proof.Machine

/-! ## Bits and bytes of a number -/

theorem bitsOf_eq (v lo len : Nat) : bitsOf v lo len = v / 2 ^ lo % 2 ^ len := by
  rw [bitsOf, Nat.shiftRight_eq_div_pow]

theorem leNat_append (as bs : List Byte) : leNat (as ++ bs) = leNat as + 256 ^ as.length * leNat bs := by
  induction as with
  | nil => simp [leNat]
  | cons a as ih =>
    rw [List.cons_append, leNat, ih, leNat, List.length_cons, Nat.pow_succ]
    ring

/-- The number whose low `n` bits are `x` and whose higher bits are `y` fits `n` bits and those of `y`. -/
theorem add_mul_two_pow_lt {n m x y : Nat} (hx : x < 2 ^ n) (hy : y < 2 ^ m) : x + y * 2 ^ n < 2 ^ (n + m) :=
  calc x + y * 2 ^ n < (y + 1) * 2 ^ n := by rw [Nat.succ_mul]; omega
    _ ≤ 2 ^ m * 2 ^ n := Nat.mul_le_mul_right _ hy
    _ = 2 ^ (n + m) := by rw [← Nat.pow_add, Nat.add_comm]

theorem add_mul_two_pow_div {n x : Nat} (hx : x < 2 ^ n) (y : Nat) : (x + y * 2 ^ n) / 2 ^ n = y := by
  rw [Nat.add_mul_div_right _ _ (Nat.two_pow_pos n), Nat.div_eq_of_lt hx, Nat.zero_add]

/-- The low bits of a number whose higher part starts at bit `n`. -/
theorem bitsOf_below {n x : Nat} (hx : x < 2 ^ n) (y : Nat) : bitsOf (x + 2 ^ n * y) 0 n = x := by
  rw [bitsOf_eq, Nat.pow_zero, Nat.div_one, Nat.add_mul_mod_self_left, Nat.mod_eq_of_lt hx]

/-- The bits from `n` on of a number whose higher part starts at bit `n`. -/
theorem bitsOf_above {n x : Nat} (hx : x < 2 ^ n) (y lo len : Nat) :
    bitsOf (x + 2 ^ n * y) (n + lo) len = bitsOf y lo len := by
  rw [bitsOf_eq, Nat.pow_add, ← Nat.div_div_eq_div_mul, Nat.mul_comm, add_mul_two_pow_div hx, bitsOf_eq]

theorem packLe_lt (w : Nat) (xs : List Nat) : packLe w xs < 2 ^ (w * xs.length) := by
  induction xs with
  | nil => exact Nat.one_pos
  | cons x xs ih =>
    rw [List.length_cons, Nat.mul_succ, Nat.add_comm, packLe]
    rw [Nat.mul_comm (2 ^ w)]
    exact add_mul_two_pow_lt (Nat.mod_lt _ (Nat.two_pow_pos w)) ih

/-- An entry of a packed value is read back in its place. -/
theorem bitsOf_packLe (w : Nat) : ∀ (xs : List Nat) (i : Nat) (hi : i < xs.length), (∀ x ∈ xs, x < 2 ^ w) →
    bitsOf (packLe w xs) (i * w) w = xs[i]
  | x :: xs, 0, _, h => by
    have hx := h x List.mem_cons_self
    rw [packLe, Nat.mod_eq_of_lt hx, Nat.zero_mul, bitsOf_below hx]
    rfl
  | x :: xs, i + 1, hi, h => by
    rw [packLe, Nat.succ_mul, Nat.add_comm (i * w), bitsOf_above (Nat.mod_lt _ (Nat.two_pow_pos w))]
    exact bitsOf_packLe w xs i (Nat.lt_of_succ_lt_succ hi) fun y hy => h y (List.mem_cons_of_mem x hy)

/-- The number of fields given with their widths, the lowest first. -/
def packFields : List (Nat × Nat) → Nat
  | [] => 0
  | (n, v) :: fs => v + 2 ^ n * packFields fs

theorem packFields_lt : ∀ {fs : List (Nat × Nat)}, (∀ f ∈ fs, f.2 < 2 ^ f.1) →
    packFields fs < 2 ^ (fs.map Prod.fst).sum
  | [], _ => Nat.one_pos
  | (n, v) :: fs, h => by
    obtain ⟨hv, hfs⟩ := List.forall_mem_cons.1 h
    rw [List.map_cons, List.sum_cons, packFields, Nat.mul_comm]
    exact add_mul_two_pow_lt hv (packFields_lt hfs)

theorem packFields_append (fs gs : List (Nat × Nat)) :
    packFields (fs ++ gs) = packFields fs + 2 ^ (fs.map Prod.fst).sum * packFields gs := by
  induction fs with
  | nil => simp [packFields]
  | cons f fs ih =>
    rw [List.cons_append, packFields, ih, packFields, List.map_cons, List.sum_cons, Nat.pow_add, Nat.mul_add,
      Nat.add_assoc, Nat.mul_assoc]

/-- A field is read back in its place. -/
theorem bitsOf_packFields : ∀ {fs : List (Nat × Nat)} (i : Nat) {n v : Nat}, (∀ f ∈ fs, f.2 < 2 ^ f.1) →
    fs[i]? = some (n, v) → bitsOf (packFields fs) ((fs.take i).map Prod.fst).sum n = v
  | (n, v) :: fs, 0, _, _, h, e => by
    cases e
    exact bitsOf_below (h (n, v) List.mem_cons_self) _
  | (n, v) :: fs, i + 1, _, _, h, e => by
    obtain ⟨hv, hfs⟩ := List.forall_mem_cons.1 h
    rw [List.take_succ_cons, List.map_cons, List.sum_cons, packFields, bitsOf_above hv]
    exact bitsOf_packFields i hfs e

/-! ## Residuals (R85) -/

theorem zigzag_lt {w d : Nat} (hw : 0 < w) (hd : d < 2 ^ w) : zigzag w d < 2 ^ w := by
  have hhalf : 2 ^ w = 2 * 2 ^ (w - 1) := by rw [← Nat.pow_succ', Nat.succ_eq_add_one, Nat.sub_add_cancel hw]
  unfold zigzag
  split <;> omega

/-- The signed residual differs from the difference that was coded by a multiple of `2 ^ w`. -/
theorem unzigzag_zigzag {w d : Nat} (hd : d < 2 ^ w) :
    unzigzag (zigzag w d) = d ∨ unzigzag (zigzag w d) = (d : Int) - (2 ^ w : Nat) := by
  unfold zigzag unzigzag
  split
  · left
    rw [if_pos (by omega)]
    omega
  · right
    rw [if_neg (by omega)]
    omega

/-- The predictor answers a value between its neighbours. -/
theorem medPredict_lt {a b c m : Nat} (ha : a < m) (hb : b < m) : medPredict a b c < m := by
  unfold medPredict
  repeat' split
  all_goals omega

theorem nth_lt {xs : List Nat} {m : Nat} (hm : 0 < m) (h : ∀ x ∈ xs, x < m) (i : Nat) : nth 0 xs i < m := by
  unfold nth
  by_cases hi : i < xs.length
  · rw [List.getD_eq_getElem _ _ hi]
    exact h _ (List.getElem_mem hi)
  · rwa [List.getD_eq_default _ _ (Nat.le_of_not_lt hi)]

theorem headD_lt {xs : List Nat} {m : Nat} (hm : 0 < m) (h : ∀ x ∈ xs, x < m) : xs.headD 0 < m := by
  cases xs with
  | nil => exact hm
  | cons x xs => exact h x List.mem_cons_self

theorem predictSample_lt {r c m : Nat} {above left : List Nat} (hm : 0 < m) (ha : ∀ x ∈ above, x < m)
    (hl : ∀ x ∈ left, x < m) : predictSample r c above left < m := by
  unfold predictSample
  repeat' split
  · exact hm
  · exact headD_lt hm hl
  · exact headD_lt hm ha
  · exact medPredict_lt (headD_lt hm hl) (nth_lt hm ha c)

/-- A sample is its prediction and its residual modulo `2 ^ w`. -/
theorem sample_of_residual {w x p : Nat} (hx : x < 2 ^ w) (hp : p < 2 ^ w) :
    (((p : Int) + unzigzag (zigzag w ((x + 2 ^ w - p) % 2 ^ w))) % (2 ^ w : Nat)).toNat = x := by
  have hd : (x + 2 ^ w - p) % 2 ^ w < 2 ^ w := Nat.mod_lt _ (Nat.two_pow_pos w)
  have hround := unzigzag_zigzag hd
  generalize unzigzag (zigzag w ((x + 2 ^ w - p) % 2 ^ w)) = e at hround ⊢
  have hdiff : (x + 2 ^ w - p) % 2 ^ w = if p ≤ x then x - p else x + 2 ^ w - p := by
    split
    · rw [show x + 2 ^ w - p = x - p + 2 ^ w by omega, Nat.add_mod_right, Nat.mod_eq_of_lt (by omega)]
    · exact Nat.mod_eq_of_lt (by omega)
  rw [hdiff] at hround
  have hmod : ((p : Int) + e) % (2 ^ w : Nat) = x := by
    have hcases : (p : Int) + e = x ∨ (p : Int) + e = x + (2 ^ w : Nat) ∨ (p : Int) + e = x - (2 ^ w : Nat) := by
      split at hround <;> omega
    have hself : (x : Int) % (2 ^ w : Nat) = x := Int.emod_eq_of_lt (by omega) (by omega)
    rcases hcases with h | h | h <;> rw [h]
    · exact hself
    · rw [Int.add_emod_right, hself]
    · rw [Int.sub_emod_right, hself]
  rw [hmod, Int.toNat_natCast]

/-! ## Coded residuals (R84, R85) -/

theorem countOnes_of_zero : ∀ {n q : Nat} (v : Nat), q < n → countOnes n (2 ^ q - 1 + v * 2 ^ (q + 1)) = q
  | n + 1, 0, v, _ => by
    rw [countOnes, if_neg (by omega)]
  | n + 1, q + 1, v, h => by
    have hpos := Nat.two_pow_pos q
    have hhalf : (2 ^ (q + 1) - 1 + v * 2 ^ (q + 1 + 1)) / 2 = 2 ^ q - 1 + v * 2 ^ (q + 1) := by
      rw [Nat.pow_succ 2 (q + 1), ← Nat.mul_assoc, Nat.pow_succ]
      omega
    have hodd : (2 ^ (q + 1) - 1 + v * 2 ^ (q + 1 + 1)) % 2 = 1 := by
      rw [Nat.pow_succ 2 (q + 1), ← Nat.mul_assoc, Nat.pow_succ]
      omega
    rw [countOnes, if_pos hodd, hhalf, countOnes_of_zero v (Nat.lt_of_succ_lt_succ h), Nat.add_comm]

theorem countOnes_of_ones : ∀ (n v : Nat), countOnes n (2 ^ n - 1 + v * 2 ^ n) = n
  | 0, _ => rfl
  | n + 1, v => by
    have hpos := Nat.two_pow_pos n
    have hhalf : (2 ^ (n + 1) - 1 + v * 2 ^ (n + 1)) / 2 = 2 ^ n - 1 + v * 2 ^ n := by
      rw [Nat.pow_succ, ← Nat.mul_assoc]
      omega
    have hodd : (2 ^ (n + 1) - 1 + v * 2 ^ (n + 1)) % 2 = 1 := by
      rw [Nat.pow_succ, ← Nat.mul_assoc]
      omega
    rw [countOnes, if_pos hodd, hhalf, countOnes_of_ones n v, Nat.add_comm]

/-- The ones of a code leave room for the zero that ends them. -/
theorem ones_lt (q : Nat) : 2 ^ q - 1 < 2 ^ (q + 1) := by
  have hpos := Nat.two_pow_pos q
  rw [Nat.pow_succ]
  omega

theorem codeOfResidual_lt {w k u : Nat} (hu : u < 2 ^ w) : codeOfResidual k u < 2 ^ codeBits w k u := by
  unfold codeOfResidual codeBits
  split
  · exact add_mul_two_pow_lt (ones_lt _) (Nat.mod_lt _ (Nat.two_pow_pos k))
  · exact add_mul_two_pow_lt (by decide) hu

/-- The decoder reads a coded residual, whatever bits follow it. -/
theorem residual_codeOfResidual {w k u : Nat} (hu : u < 2 ^ w) (rest : Nat) :
    Machine.residual w k (codeOfResidual k u + rest * 2 ^ codeBits w k u) = (u, codeBits w k u) := by
  unfold codeOfResidual codeBits
  by_cases hq : u / 2 ^ k < 24
  · simp only [if_pos hq]
    have hshape : 2 ^ (u / 2 ^ k) - 1 + u % 2 ^ k * 2 ^ (u / 2 ^ k + 1) + rest * 2 ^ (u / 2 ^ k + 1 + k)
        = 2 ^ (u / 2 ^ k) - 1 + (u % 2 ^ k + rest * 2 ^ k) * 2 ^ (u / 2 ^ k + 1) := by
      rw [Nat.pow_add _ (u / 2 ^ k + 1)]
      ring
    rw [Machine.residual, hshape, countOnes_of_zero _ hq, if_pos hq, bitsOf_eq, add_mul_two_pow_div (ones_lt _),
      Nat.add_mul_mod_self_right, Nat.mod_mod, Nat.mul_comm (u / 2 ^ k), Nat.div_add_mod]
  · simp only [if_neg hq]
    have hshape : 2 ^ 24 - 1 + u * 2 ^ 24 + rest * 2 ^ (24 + w) = 2 ^ 24 - 1 + (u + rest * 2 ^ w) * 2 ^ 24 := by
      rw [Nat.pow_add]
      ring
    rw [Machine.residual, hshape, countOnes_of_ones, if_neg (by decide), bitsOf_eq, add_mul_two_pow_div (by decide),
      Nat.add_mul_mod_self_right, Nat.mod_eq_of_lt hu]

/-! ## Rows of PRED (R84, R85) -/

theorem appendBits_appendBits (a : Nat × Nat) (v n v' n' : Nat) :
    appendBits (appendBits a v n) v' n' = appendBits a (v + v' * 2 ^ n) (n + n') := by
  simp only [appendBits, Prod.mk.injEq]
  constructor
  · rw [Nat.pow_add]; ring
  · omega

/-- The coded residuals of the samples of a row are some `n` bits, from which the decoder makes the samples. -/
theorem predRow_of_residuals {w : Nat} (hw : 0 < w) (k r : Nat) {above : List Nat} (habove : ∀ x ∈ above, x < 2 ^ w) :
    ∀ (xs : List Nat) (c : Nat) (left : List Nat) (a : Nat × Nat), (∀ x ∈ xs, x < 2 ^ w) → (∀ x ∈ left, x < 2 ^ w) →
    ∃ v n, (residuals w r above c left xs).foldl (fun a u => appendBits a (codeOfResidual k u) (codeBits w k u)) a
        = appendBits a v n ∧ v < 2 ^ n
      ∧ ∀ rest, predRow w k r above xs.length c left (v + rest * 2 ^ n) = (xs.reverse ++ left, rest)
  | [], c, left, a, _, _ => ⟨0, 0, by simp [residuals, appendBits], Nat.one_pos, fun rest => by simp [predRow]⟩
  | x :: xs, c, left, a, hxs, hleft => by
    have hx : x < 2 ^ w := hxs x List.mem_cons_self
    have hp := predictSample_lt (r := r) (c := c) (Nat.two_pow_pos w) habove hleft
    have hu := zigzag_lt hw (Nat.mod_lt (x + 2 ^ w - predictSample r c above left) (Nat.two_pow_pos w))
    have hsample := sample_of_residual hx hp
    rw [residuals]
    generalize zigzag w ((x + 2 ^ w - predictSample r c above left) % 2 ^ w) = u at hu hsample ⊢
    obtain ⟨v, n, hcode, hv, hdecode⟩ := predRow_of_residuals hw k r habove xs (c + 1) (x :: left)
      (appendBits a (codeOfResidual k u) (codeBits w k u)) (fun y hy => hxs y (List.mem_cons_of_mem x hy))
      (List.forall_mem_cons.2 ⟨hx, hleft⟩)
    have hcodeU := codeOfResidual_lt (k := k) hu
    refine ⟨codeOfResidual k u + v * 2 ^ codeBits w k u, codeBits w k u + n, ?_, add_mul_two_pow_lt hcodeU hv, fun rest => ?_⟩
    · rw [List.foldl_cons, hcode, appendBits_appendBits]
    · have hshape : codeOfResidual k u + v * 2 ^ codeBits w k u + rest * 2 ^ (codeBits w k u + n)
          = codeOfResidual k u + (v + rest * 2 ^ n) * 2 ^ codeBits w k u := by
        rw [Nat.pow_add]; ring
      rw [hshape, List.length_cons, predRow, residual_codeOfResidual hu, hsample, add_mul_two_pow_div hcodeU, hdecode,
        List.reverse_cons, List.append_assoc, List.singleton_append]

/-- The Rice parameter of a row fits its 4 bits and does not exceed the sample width. -/
theorem bestK_lt (w : Nat) (us : List Nat) : bestK w us < min (w + 1) 16 := by
  unfold bestK
  refine List.foldlRecOn (motive := fun b => b < min (w + 1) 16) _ _ (by omega) fun b hb k hk => ?_
  split
  · exact List.mem_range.1 hk
  · exact hb

/-- The coded rows are some `n` bits, from which the decoder makes the samples. -/
theorem predRows_of_encodeRows {w : Nat} (hw : 0 < w) :
    ∀ (rows : List (List Nat)) (r : Nat) (above acc : List Nat) (a : Nat × Nat),
      (∀ row ∈ rows, row.length = 32 ∧ ∀ x ∈ row, x < 2 ^ w) → (∀ x ∈ above, x < 2 ^ w) →
    ∃ v n, encodeRows w r above rows a = appendBits a v n ∧ v < 2 ^ n
      ∧ ∀ rest, predRows w rows.length r above acc (v + rest * 2 ^ n) = some (acc ++ rows.flatten, rest)
  | [], r, above, acc, a, _, _ =>
    ⟨0, 0, by simp [encodeRows, appendBits], Nat.one_pos, fun rest => by simp [predRows]⟩
  | row :: rows, r, above, acc, a, hrows, habove => by
    obtain ⟨hlen, hrow⟩ := hrows row List.mem_cons_self
    have hk := bestK_lt w (residuals w r above 0 [] row)
    rw [encodeRows, encodeRow]
    generalize bestK w (residuals w r above 0 [] row) = k at hk ⊢
    obtain ⟨v, n, hcode, hv, hdecode⟩ := predRow_of_residuals hw k r habove row 0 [] (appendBits a k 4) hrow (by simp)
    obtain ⟨v', n', hcode', hv', hdecode'⟩ := predRows_of_encodeRows hw rows (r + 1) row (acc ++ row)
      (appendBits (appendBits a k 4) v n) (fun x hx => hrows x (List.mem_cons_of_mem row hx)) hrow
    have hhead : k + v * 2 ^ 4 < 2 ^ (4 + n) := add_mul_two_pow_lt (by omega) hv
    refine ⟨k + v * 2 ^ 4 + v' * 2 ^ (4 + n), 4 + n + n', ?_, add_mul_two_pow_lt hhead hv', fun rest => ?_⟩
    · rw [hcode, hcode', appendBits_appendBits a, appendBits_appendBits a]
    · have hshape : k + v * 2 ^ 4 + v' * 2 ^ (4 + n) + rest * 2 ^ (4 + n + n')
          = k + (v + (v' + rest * 2 ^ n') * 2 ^ n) * 16 := by
        rw [Nat.pow_add _ (4 + n), Nat.pow_add _ 4]; ring
      rw [hlen] at hdecode
      rw [hshape, List.length_cons, predRows, show (k + (v + (v' + rest * 2 ^ n') * 2 ^ n) * 16) % 16 = k by omega,
        show (k + (v + (v' + rest * 2 ^ n') * 2 ^ n) * 16) / 16 = v + (v' + rest * 2 ^ n') * 2 ^ n by omega,
        if_neg (by omega), hdecode]
      simp only [List.append_nil, List.reverse_reverse, hdecode', List.flatten_cons, List.append_assoc]

/-- The marker bit above less than a byte of zero padding passes the decoder's check. -/
theorem paddingGood_two_pow : ∀ {i : Nat}, i < 8 → paddingGood (2 ^ i) = true := by decide

/-! ## Payloads (R84) -/

section
variable {w : Nat} {rows : List (List Nat)} (hw : 0 < w) (hlen : rows.length = 32)
  (hrows : ∀ row ∈ rows, row.length = 32 ∧ ∀ x ∈ row, x < 2 ^ w)
include hlen hrows

theorem samples_length : rows.flatten.length = 1024 := by
  rw [List.length_flatten, List.map_congr_left (g := fun _ => 32) fun row h => (hrows row h).1, List.map_const',
    List.sum_replicate, hlen]
  rfl

omit hlen in
theorem samples_lt : ∀ x ∈ rows.flatten, x < 2 ^ w := fun x hx => by
  obtain ⟨row, hrow, hmem⟩ := List.mem_flatten.1 hx
  exact (hrows row hrow).2 x hmem

theorem rawSamples_packLe : rawSamples w (packLe w rows.flatten) = rows.flatten := by
  have hflat := samples_length hlen hrows
  refine List.ext_getElem (by simp [rawSamples, hflat]) fun i _ hi => ?_
  simp only [rawSamples, List.getElem_map, List.getElem_range]
  exact bitsOf_packLe w _ i hi (samples_lt hrows)

/-- A RAW payload holds every sample at its own place. -/
theorem decodePayload_raw :
    decodePayload w 0 0 (128 * w) (leBytes (128 * w) (packLe w rows.flatten)) = some rows.flatten := by
  have hfit : packLe w rows.flatten < 256 ^ (128 * w) :=
    calc packLe w rows.flatten < 2 ^ (w * rows.flatten.length) := packLe_lt w _
      _ = 256 ^ (128 * w) := by
        rw [samples_length hlen hrows, show 256 = 2 ^ 8 from rfl, ← Nat.pow_mul]
        congr 1
        omega
  rw [decodePayload, if_pos rfl, if_pos rfl, leNat_leBytes _ _ hfit, rawSamples_packLe hlen hrows]

/-- A CONST tile repeats the sample that all of its samples equal. -/
theorem decodePayload_const (hall : ∀ x ∈ rows.flatten, x = rows.flatten.headD 0) :
    decodePayload w 1 (rows.flatten.headD 0) 0 [] = some rows.flatten := by
  have hvalue := headD_lt (Nat.two_pow_pos w) (samples_lt hrows)
  have hsame := List.eq_replicate_of_mem hall
  rw [samples_length hlen hrows] at hsame
  rw [decodePayload, if_neg (by decide), if_pos rfl, if_pos rfl, Nat.mod_eq_of_lt hvalue]
  exact congrArg some hsame.symm

include hw in
/-- A PRED payload: the rows leave the marker above the padding of the last byte. -/
theorem decodePayload_pred {n : Nat} (hn : n = ((encodeRows w 0 [] rows (0, 0)).2 + 7) / 8) :
    decodePayload w 2 0 n (leBytes n (encodeRows w 0 [] rows (0, 0)).1) = some rows.flatten := by
  obtain ⟨v, bits, hcode, hv, hdecode⟩ := predRows_of_encodeRows hw rows 0 [] [] (0, 0) hrows (by simp)
  simp only [appendBits, Nat.pow_zero, Nat.mul_one, Nat.zero_add] at hcode
  rw [hcode] at hn ⊢
  have hpad : 8 * n = bits + (8 * n - bits) := by omega
  have hfit : v < 256 ^ n :=
    calc v < 2 ^ bits := hv
      _ ≤ 2 ^ (8 * n) := Nat.pow_le_pow_right (by decide) (by omega)
      _ = 256 ^ n := by rw [Nat.pow_mul]
  have hmarker : v + 2 ^ (8 * n) = v + 2 ^ (8 * n - bits) * 2 ^ bits := by
    rw [← Nat.pow_add, Nat.add_comm (8 * n - bits), ← hpad]
  rw [hlen] at hdecode
  rw [decodePayload, if_neg (by decide), if_neg (by decide), if_pos rfl, leNat_leBytes n v hfit, hmarker, hdecode]
  exact if_pos (paddingGood_two_pow (by omega))

include hw in
/-- What the encoder chooses among CONST, PRED and RAW fits the header, and the decoder gives the samples back. -/
theorem decodePayload_encodePayload (hw16 : w ≤ 16) :
    ∃ mode const payload, encodePayload w rows = (mode, const, payload) ∧ mode < 2 ^ 4 ∧ const < 2 ^ 16
      ∧ payload.length ≤ 128 * w
      ∧ decodePayload w mode const payload.length payload = some rows.flatten := by
  by_cases hall : (rows.flatten.all fun x => x == rows.flatten.headD 0) = true
  · have hsame : ∀ x ∈ rows.flatten, x = rows.flatten.headD 0 :=
      fun x hx => beq_iff_eq.1 (List.all_eq_true.1 hall x hx)
    have hvalue : rows.flatten.headD 0 < 2 ^ 16 := Nat.lt_of_lt_of_le (headD_lt (Nat.two_pow_pos w) (samples_lt hrows))
      (Nat.pow_le_pow_right (by decide) hw16)
    exact ⟨1, rows.flatten.headD 0, [], if_pos hall, by decide, hvalue, Nat.zero_le _,
      decodePayload_const hlen hrows hsame⟩
  · by_cases hshort : ((encodeRows w 0 [] rows (0, 0)).2 + 7) / 8 ≤ 128 * w
    · refine ⟨2, 0, _, (if_neg hall).trans (if_pos hshort), by decide, by decide, ?_, ?_⟩
      · rwa [leBytes_length]
      · rw [leBytes_length]
        exact decodePayload_pred hw hlen hrows rfl
    · refine ⟨0, 0, _, (if_neg hall).trans (if_neg hshort), by decide, by decide, ?_, ?_⟩
      · rw [leBytes_length]
      · rw [leBytes_length]
        exact decodePayload_raw hlen hrows

end

/-! ## The header (R82, R83) -/

/-- The header's fields below its check, each with its width. -/
def headerFields (mode code length crc const tx ty tag : Nat) : List (Nat × Nat) :=
  [(8, 0xA5), (4, mode), (4, code), (16, length), (32, crc), (16, const), (16, tx), (16, ty), (8, tag)]

/-- The encoder adds the fields, each at its place. -/
theorem packFields_headerFields (mode code length crc const tx ty tag : Nat) :
    packFields (headerFields mode code length crc const tx ty tag)
      = 0xA5 + mode * 2 ^ 8 + code * 2 ^ 12 + length * 2 ^ 16 + crc * 2 ^ 32 + const * 2 ^ 64 + tx * 2 ^ 80 + ty * 2 ^ 96
        + tag * 2 ^ 112 := by
  simp only [headerFields, packFields]
  ring

/-- 15 bytes of fields and one of a check are the fields with the check above them. -/
theorem leNat_header {fs : List (Nat × Nat)} (hfs : ∀ f ∈ fs, f.2 < 2 ^ f.1) (hsum : (fs.map Prod.fst).sum = 120)
    {check : Nat} (hcheck : check < 2 ^ 8) :
    leNat (leBytes 15 (packFields fs) ++ [BitVec.ofNat 8 check]) = packFields (fs ++ [(8, check)]) := by
  have hfit : packFields fs < 256 ^ 15 := by
    have hlt := packFields_lt hfs
    rwa [hsum] at hlt
  rw [leNat_append, leNat_leBytes _ _ hfit, leBytes_length, packFields_append, hsum, leNat, leNat, packFields, packFields,
    BitVec.toNat_ofNat, Nat.mod_eq_of_lt hcheck, Nat.mul_zero, Nat.mul_zero, Nat.pow_mul 2 8 15]

/-- Each field of the header, and the check above them, is read in its place. -/
theorem headerFields_read {mode code length crc const tx ty tag check : Nat}
    (h : ∀ f ∈ headerFields mode code length crc const tx ty tag ++ [(8, check)], f.2 < 2 ^ f.1) :
    let v := packFields (headerFields mode code length crc const tx ty tag ++ [(8, check)])
    bitsOf v 0 8 = 0xA5 ∧ bitsOf v 8 4 = mode ∧ bitsOf v 12 4 = code ∧ bitsOf v 16 16 = length
      ∧ bitsOf v 32 32 = crc ∧ bitsOf v 64 16 = const ∧ bitsOf v 80 16 = tx ∧ bitsOf v 96 16 = ty
      ∧ bitsOf v 112 8 = tag ∧ bitsOf v 120 8 = check :=
  ⟨bitsOf_packFields 0 h rfl, bitsOf_packFields 1 h rfl, bitsOf_packFields 2 h rfl, bitsOf_packFields 3 h rfl,
    bitsOf_packFields 4 h rfl, bitsOf_packFields 5 h rfl, bitsOf_packFields 6 h rfl, bitsOf_packFields 7 h rfl,
    bitsOf_packFields 8 h rfl, bitsOf_packFields 9 h rfl⟩

/-- A header, its check and the payload, whatever follows, pass the checks of the decoder (R82, R86). -/
theorem decodeTile_of_header {code tag tx ty mode const : Nat} {xs : List Nat} {payload head : List Byte} (rest : List Byte)
    (hhead : head = leBytes 15 (packFields (headerFields mode code (16 + payload.length) (sampleCrc xs) const tx ty tag)))
    (hfields : ∀ f ∈ headerFields mode code (16 + payload.length) (sampleCrc xs) const tx ty tag, f.2 < 2 ^ f.1)
    (hshort : payload.length ≤ 128 * formatWidth code)
    (hdecode : decodePayload (formatWidth code) mode const payload.length payload = some xs) :
    decodeTile code tag tx ty (head ++ [BitVec.ofNat 8 (crc8 head)] ++ payload ++ rest) = some xs := by
  have hlen : head.length = 15 := by rw [hhead, leBytes_length]
  have hlen16 : (head ++ [BitVec.ofNat 8 (crc8 head)]).length = 16 := by simp [hlen]
  have htake16 : (head ++ [BitVec.ofNat 8 (crc8 head)] ++ payload ++ rest).take 16
      = head ++ [BitVec.ofNat 8 (crc8 head)] := by
    rw [List.append_assoc, List.take_left' hlen16]
  have htake15 : (head ++ [BitVec.ofNat 8 (crc8 head)] ++ payload ++ rest).take 15 = head := by
    rw [List.append_assoc, List.append_assoc, List.take_left' hlen]
  have hdrop : ((head ++ [BitVec.ofNat 8 (crc8 head)] ++ payload ++ rest).drop 16).take payload.length = payload := by
    rw [List.append_assoc, List.drop_left' hlen16, List.take_left' rfl]
  have hvalue : leNat (head ++ [BitVec.ofNat 8 (crc8 head)])
      = packFields (headerFields mode code (16 + payload.length) (sampleCrc xs) const tx ty tag ++ [(8, crc8 head)]) := by
    have hbytes := leNat_header hfields rfl (crc8_lt head)
    rwa [← hhead] at hbytes
  obtain ⟨hmagic, hmode, hcode, hlength, hcrc, hconst, htx, hty, htag, hcheck⟩ := headerFields_read (check := crc8 head)
    (List.forall_mem_append.2 ⟨hfields, List.forall_mem_singleton.2 (crc8_lt head)⟩)
  unfold decodeTile
  simp only [htake16, htake15, hvalue, hmagic, hmode, hcode, hlength, hcrc, hconst, htx, hty, htag, hcheck,
    Nat.add_sub_cancel_left, hdrop, hdecode, if_true]
  exact if_pos ⟨trivial, trivial, trivial, trivial, trivial, trivial, by omega, by omega⟩

theorem formatWidth_bounds {code : Nat} (h1 : 1 ≤ code) (h6 : code ≤ 6) :
    0 < formatWidth code ∧ formatWidth code ≤ 16 := by
  interval_cases code <;> decide

/-- Settles O33: the payload that the encoder chose gives the samples back, and the header passes its checks. -/
theorem tileCodecRoundTrip : Obligations.TileCodecRoundTrip := by
  intro code tag tx ty rows rest h1 h6 htag htx hty hlen hrows
  obtain ⟨hw, hw16⟩ := formatWidth_bounds h1 h6
  obtain ⟨mode, const, payload, hencode, hmode, hconst, hshort, hdecode⟩ :=
    decodePayload_encodePayload hw hlen hrows hw16
  have hfields : ∀ f ∈ headerFields mode code (16 + payload.length) (sampleCrc rows.flatten) const tx ty tag,
      f.2 < 2 ^ f.1 := by
    have hcode : code < 2 ^ 4 := by omega
    have hlength : 16 + payload.length < 2 ^ 16 := by omega
    have hcrc : sampleCrc rows.flatten < 2 ^ 32 := crc32c_lt _
    simp only [headerFields, List.forall_mem_cons, hmode, hcode, hlength, hcrc, hconst, htx, hty, htag]
    simp
  unfold encodeTile
  simp only [hencode]
  exact decodeTile_of_header rest (congrArg _ (packFields_headerFields ..).symm) hfields hshort hdecode

end Sys2Proof.Laws
end

section
/-!
O40: a tile row of a video stream is encoded, and a picture completes (R81, R239, R240).
-/

namespace Sys2Proof.Laws

open Sys2Proof Sys2Proof.Machine

/-! ## One stream after an update of a stream -/

theorem streamOf_onStream_self {s t : State} (h : t.host = s.host) (k : Nat) (f : Stream → Stream) :
    streamOf (onStream k f t) k = f (streamOf s k) := by
  by_cases hk : k = 0 <;> simp [streamOf, onStream, onHost, hk, h]

theorem streamOf_onStream_of_ne {s t : State} (h : t.host = s.host) {j k : Nat} (hj : j < 2) (hk : k < 2) (hne : j ≠ k)
    (f : Stream → Stream) : streamOf (onStream k f t) j = streamOf s j := by
  by_cases hk0 : k = 0
  · simp [streamOf, onStream, onHost, hk0, h, show j ≠ 0 by omega]
  · simp [streamOf, onStream, onHost, hk0, h, show j = 0 by omega]

/-! ## The commands -/

/-- VIDEO_TILE_ROW_ENCODED encodes the row that is due (R239). -/
theorem execVideoTileRowEncoded_due {s : State} {k f r : Nat} (hk : k < 2) (hsurface : streamSurface s k = some f)
    (hrow : rowToEncode s f (streamOf s k) = some r) :
    exec (.videoTileRowEncoded k) s = .next (encodeTileRow k f r s) := by
  show execVideoTileRowEncoded k s = _
  simp only [execVideoTileRowEncoded, Nat.mod_eq_of_lt hk, hsurface, hrow]

/-- VIDEO_PICTURE_COMPLETE finishes a picture whose tile rows are encoded (R240). -/
theorem execVideoPictureComplete_finishes {s : State} {k f q : Nat} (hk : k < 2) (hsurface : streamSurface s k = some f)
    (hpicture : (streamOf s k).picture = some q) (hkept : (streamOf s k).discarded = false)
    (hopen : (streamOf s k).complete = false) (hrows : tileRows s f ≤ (streamOf s k).row) :
    exec (.videoPictureComplete k) s = .next (onStream k
      (fun x => { x with complete := true, count := x.count + 1, last := x.picture.getD 0 })
      (setCfg (0x3400 + f) 7 (streamOf s k).buffer s)) := by
  show execVideoPictureComplete k s = _
  simp only [execVideoPictureComplete, Nat.mod_eq_of_lt hk, hsurface, finishPicture, hpicture, hkept, hopen, hrows,
    Option.isSome_some, Bool.not_false, Bool.and_self, decide_true, if_true]

/-- What the encoding of a tile row does to the stream: the row goes out of its lines, and the place moves past it. -/
theorem streamOf_encodeTileRow (k f r : Nat) (s : State) :
    streamOf (encodeTileRow k f r s) k = { streamOf s k with
      row := if r ≠ (streamOf s k).row then (streamOf s k).row
        else if (streamOf s k).ahead then (streamOf s k).row + 2 else (streamOf s k).row + 1
      ahead := decide (r ≠ (streamOf s k).row)
      lines := (streamOf s k).lines.filter fun e => e.1 / 32 != r } := by
  refine (streamOf_onStream_self (s := s) ?_ k _).trans ?_
  · rfl
  · by_cases hr : r = (streamOf s k).row <;> simp [hr]

/-- DRAM that can be read takes the tiles of the row, other DRAM takes nothing (R239). -/
theorem encodeTileRow_dram (k f r : Nat) (s : State) :
    (encodeTileRow k f r s).dram = if dramReadable s = true then
      (List.range (tileCols s f)).foldl
        (fun m tx => storeTile s f (streamOf s k).buffer tx r (streamOf s k).lines m) s.dram
      else s.dram := rfl

/-- Settles O40: the row that is due is encoded, and the finished picture's buffer becomes the current one. -/
theorem videoRowsAreEncoded : Obligations.VideoRowsAreEncoded := by
  constructor
  · intro s k f r hk hsurface hrow
    refine ⟨_, execVideoTileRowEncoded_due hk hsurface hrow, rfl, fun j hj hne => streamOf_onStream_of_ne rfl hj hk hne _,
      streamOf_encodeTileRow k f r s, fun hdram => ?_, fun hdram => ?_⟩
    · rw [encodeTileRow_dram, if_neg (by simp [hdram])]
    · rw [encodeTileRow_dram, if_pos hdram]
  · intro s k f q hk hsurface hpicture hkept hopen hrows
    refine ⟨_, execVideoPictureComplete_finishes hk hsurface hpicture hkept hopen hrows, rfl,
      fun j hj hne => streamOf_onStream_of_ne rfl hj hk hne _, ?_⟩
    refine (streamOf_onStream_self (s := s) ?_ k _).trans ?_
    · rfl
    · simp only [hpicture, Option.getD_some]

end Sys2Proof.Laws
end

section
/-!
O23: source tiles are decoded, read again and late (R87 to R92).
-/

namespace Sys2Proof.Laws

open Sys2Proof Sys2Proof.Machine

/-! ## The tile that a layer reads -/

/-- The surface whose tile a layer reads is the layer's surface. -/
theorem layerSurface_of_reading {s p n k f} (h : readingSurface s p n k = some f) :
    layerSurface s s.compose.manifest n = some f := by
  unfold readingSurface at h
  cases hlayer : layerSurface s s.compose.manifest n with
  | none => simp [hlayer] at h
  | some g =>
    simp only [hlayer] at h
    split at h
    · exact h
    · cases h

/-- Work of the fetch engines on a tile of the frame in composition, where no band before it is open and the tile's status
calls for the work. -/
theorem fetchWork_onReading {s : State} {p : Port} {n k f : Nat} {c : Option TileStatus → Bool} {g : Nat → State → State}
    (hbusy : s.compose.busy = true) (holder : s.compose.older = none) (hreads : readingSurface s p n k = some f)
    (hdue : c (storedTile s p n f k) = true) : fetchWork (tileDue p n k c) (onSurface n g) s = g f s := by
  have hwork : tileDue p n k c s = true := by simp only [tileDue, hreads, hdue]
  simp only [fetchWork, hbusy, holder, hwork, Bool.true_or, Bool.not_true, Bool.false_eq_true, if_false, if_true,
    onSurface, layerSurface_of_reading hreads]

/-! ## The decoded tile store -/

theorem storedTile_putTile (p n f tile x s) : storedTile (putTile p n f tile x s) p n f tile = some x := by
  rw [storedTile, putTile, List.find?_cons_of_pos]
  · rfl
  · simp [StoredTile.isFor]

/-- The store is read by the frame in composition and its tiles alone. -/
theorem storedTile_congr {s t : State} (hframe : t.compose.frame = s.compose.frame)
    (hstore : t.fetch.store = s.fetch.store) (p n f tile) : storedTile t p n f tile = storedTile s p n f tile := by
  simp only [storedTile, StoredTile.isFor, hframe, hstore]

/-! ## States that differ in what the fetch engines hold and in the fault parts -/

/-- Beside the fault parts, the fetch engines hold `F` and the rest is as before. -/
def FetchedTo (F : Fetch) (s t : State) : Prop := Outside.faultParts t = Outside.faultParts { s with fetch := F }

theorem FetchedTo.fetch {F : Fetch} {s t : State} (h : FetchedTo F s t) : t.fetch = F :=
  (congrArg State.fetch h :)

theorem FetchedTo.only {F : Fetch} {s t : State} (h : FetchedTo F s t) : OnlyFaultParts { s with fetch := t.fetch } t := by
  rw [h.fetch]
  exact onlyFaultParts_of h

theorem FetchedTo.storedTile {F : Fetch} {s t u : State} (h : FetchedTo F s t) (hframe : u.compose.frame = s.compose.frame)
    (hstore : u.fetch.store = F.store) (p n f tile) :
    Machine.storedTile t p n f tile = Machine.storedTile u p n f tile :=
  storedTile_congr ((congrArg (fun x : State => x.compose.frame) h :).trans hframe.symm)
    ((congrArg Fetch.store h.fetch).trans hstore.symm) p n f tile

/-- A kind of the fetch engines is noted for the frame and the layer, and at most raised (R92). -/
theorem raisePerLayer_fetchedTo (k n f tile s) : ∃ rs, (s.compose.frame, k, n) ∈ rs
    ∧ FetchedTo { s.fetch with raised := rs } s (raisePerLayer k n f tile s) := by
  unfold raisePerLayer
  split
  · next hraised => exact ⟨s.fetch.raised, List.contains_iff_mem.1 hraised, rfl⟩
  · exact ⟨_, List.mem_cons_self, raiseKind_only _ _ _⟩

/-- What the fetch engines hold after a tile has failed for good, `rs` being what they have raised (R89). -/
def failedFetch (p : Port) (n f tile : Nat) (rs : List (BitVec 32 × Nat × Nat)) (s : State) : Fetch :=
  { (putTile p n f tile .failed s).fetch with
    lastFailed := failedTileWord n f tile
    transparentCount := if isCritical s s.compose.manifest n then s.fetch.transparentCount
      else count32 s.fetch.transparentCount
    raised := rs }

theorem failTile_fetchedTo (p n f tile s) : ∃ rs,
    (s.compose.frame, (if isCritical s s.compose.manifest n then 8 else 7), n) ∈ rs
      ∧ FetchedTo (failedFetch p n f tile rs s) s (failTile p n f tile s) := by
  have hcritical : isCritical (putTile p n f tile .failed s) (putTile p n f tile .failed s).compose.manifest n
      = isCritical s s.compose.manifest n := rfl
  unfold failTile noteFailed failedFetch
  simp only [hcritical]
  split
  · obtain ⟨rs, hmem, hto⟩ := raisePerLayer_fetchedTo 0x08 n f tile
      (setLastFailed (failedTileWord n f tile) (putTile p n f tile .failed s))
    exact ⟨rs, hmem, hto⟩
  · obtain ⟨rs, hmem, hto⟩ := raisePerLayer_fetchedTo 0x07 n f tile
      (countTransparent (setLastFailed (failedTileWord n f tile) (putTile p n f tile .failed s)))
    exact ⟨rs, hmem, hto⟩

/-! ## The commands -/

section
variable {s : State} {p : Port} {n k f : Nat} (hbusy : s.compose.busy = true) (holder : s.compose.older = none)
  (hreads : readingSurface s p n k = some f)
include hbusy holder hreads

/-- The first decode stores the samples, or the tile waits for its re-fetch (R87, R88). -/
theorem tileDecodeDone_stores (flaws) (hstored : storedTile s p n f k = none) : ∃ t,
    exec (.tileDecodeDone p n k flaws) s = .next t ∧ t = { s with fetch := { s.fetch with store := t.fetch.store } }
      ∧ storedTile t p n f k = some (match readTile s f (bufferOf s f) k flaws with
        | some xs => .decoded xs
        | none => .failedOnce) := by
  have hwork := fetchWork_onReading (c := (· == none)) (g := decodeFirst p n k flaws) hbusy holder hreads (by rw [hstored]; rfl)
  exact ⟨_, congrArg Host.Outcome.next hwork, rfl, storedTile_putTile _ _ _ _ _ _⟩

/-- The second decode stores the samples and counts, or the tile fails for good (R88, R89). -/
theorem tileRefetchDone_judges (flaws) (hstored : storedTile s p n f k = some .failedOnce) : ∃ t,
    exec (.tileRefetchDone p n k flaws) s = .next t
      ∧ OnlyFaultParts { s with fetch := t.fetch } t
      ∧ (∀ xs, readTile s f (bufferOf s f) k flaws = some xs →
          storedTile t p n f k = some (.decodedAgain xs) ∧ t.fetch.refetchCount = min (s.fetch.refetchCount + 1) (2 ^ 32 - 1)
          ∧ t.fetch.lastFailed = s.fetch.lastFailed ∧ (s.compose.frame, 6, n) ∈ t.fetch.raised)
      ∧ (readTile s f (bufferOf s f) k flaws = none →
          storedTile t p n f k = some .failed ∧ t.fetch.refetchCount = s.fetch.refetchCount
          ∧ t.fetch.lastFailed = BitVec.ofNat 32 (n * 2 ^ 29 + f * 2 ^ 20 + k)
          ∧ (s.compose.frame, (if isCritical s s.compose.manifest n then 8 else 7), n) ∈ t.fetch.raised
          ∧ t.fetch.transparentCount = (if isCritical s s.compose.manifest n then s.fetch.transparentCount
              else min (s.fetch.transparentCount + 1) (2 ^ 32 - 1))) := by
  have hwork := fetchWork_onReading (c := (· == some .failedOnce)) (g := decodeAgain p n k flaws) hbusy holder hreads
    (by rw [hstored]; rfl)
  refine ⟨_, congrArg Host.Outcome.next hwork, ?_⟩
  unfold decodeAgain
  cases hread : readTile s f (bufferOf s f) k flaws with
  | some xs =>
    dsimp only
    obtain ⟨rs, hmem, hto⟩ := raisePerLayer_fetchedTo 0x06 n f k (putTile p n f k (.decodedAgain xs)
      { s with fetch := { s.fetch with refetchCount := count32 s.fetch.refetchCount } })
    have hto' : FetchedTo _ s _ := hto
    refine ⟨hto'.only, fun ys hys => ?_, nofun⟩
    cases hys
    refine ⟨?_, (congrArg Fetch.refetchCount hto.fetch :),
      (congrArg Fetch.lastFailed hto.fetch :), ?_⟩
    · exact (hto.storedTile rfl rfl p n f k).trans (storedTile_putTile _ _ _ _ _ _)
    · simp only [hto.fetch]
      exact hmem
  | none =>
    dsimp only
    obtain ⟨rs, hmem, hto⟩ := failTile_fetchedTo p n f k s
    refine ⟨hto.only, nofun, fun _ => ⟨?_, (congrArg Fetch.refetchCount hto.fetch :),
      (congrArg Fetch.lastFailed hto.fetch :), ?_,
      (congrArg Fetch.transparentCount hto.fetch :)⟩⟩
    · exact (hto.storedTile (u := putTile p n f k .failed s) rfl rfl p n f k).trans (storedTile_putTile _ _ _ _ _ _)
    · simp only [hto.fetch]
      exact hmem

/-- A late tile counts and fails for good (R91). -/
theorem tileLateTimeout_fails (hstored : storedTile s p n f k = none ∨ storedTile s p n f k = some .failedOnce) : ∃ t,
    exec (.tileLateTimeout p n k) s = .next t
      ∧ OnlyFaultParts { s with fetch := t.fetch } t
      ∧ storedTile t p n f k = some .failed ∧ t.fetch.lateCount = min (s.fetch.lateCount + 1) (2 ^ 32 - 1)
      ∧ t.fetch.lastFailed = BitVec.ofNat 32 (n * 2 ^ 29 + f * 2 ^ 20 + k) := by
  have hopen : TileStatus.isOpen (storedTile s p n f k) = true := by
    obtain h | h := hstored <;> rw [h] <;> rfl
  have hwork := fetchWork_onReading (g := fun f => lateTile p n f k) hbusy holder hreads hopen
  refine ⟨_, congrArg Host.Outcome.next hwork, ?_⟩
  generalize hlate : ({ s with fetch := { s.fetch with lateCount := count32 s.fetch.lateCount } } : State) = r
  obtain ⟨rs, -, hto⟩ := failTile_fetchedTo p n f k r
  simp only [lateTile, hlate]
  subst hlate
  have hto' : FetchedTo _ s _ := hto
  refine ⟨hto'.only, ?_, (congrArg Fetch.lateCount hto.fetch :),
    (congrArg Fetch.lastFailed hto.fetch :)⟩
  exact (hto.storedTile (u := putTile p n f k .failed _) rfl rfl p n f k).trans (storedTile_putTile _ _ _ _ _ _)

end

/-! ## Pins (R97, R98, R362) -/

theorem handleByPins_faults (s) : ∃ fs, handleByPins s = { s with faults := fs } := by
  unfold handleByPins
  split
  · exact ⟨_, rfl⟩
  · exact ⟨s.faults, rfl⟩

theorem finishPin_pins (f s) : ∃ ps, finishPin f s = { s with fetch := { s.fetch with pins := ps } } := by
  unfold finishPin
  repeat' split
  all_goals exact ⟨_, rfl⟩

/-- A copy whose tiles pass, while DRAM can be read and the total fits, ends pinned (R97, R98). -/
theorem finishPin_pinned {s : State} {f : Nat} {ts : List (List Byte)} (hdram : dramReadable s = true)
    (htiles : pinTiles s f = some ts) (hfit : otherPinnedBytes s f + pinSize ts ≤ pinnedLimit) :
    ∃ x, pinOf (finishPin f s) f = some x ∧ x.state = 2 ∧ x.next = some ts ∧ x.bytes = pinSize ts := by
  have hsurface : ((pinOf s f).getD { surface := f, state := 2 }).surface = f := by
    cases h : pinOf s f with
    | none => rfl
    | some x => exact pinOf_surface h
  simp only [finishPin, hdram, htiles, hfit, if_true]
  exact ⟨_, pinOf_putPin s hsurface, rfl, rfl, rfl⟩

/-- Any other copy ends refused (R98). -/
theorem finishPin_refused {s : State} {f : Nat} (h : dramReadable s = false ∨ pinTiles s f = none
    ∨ ∃ ts, pinTiles s f = some ts ∧ pinnedLimit < otherPinnedBytes s f + pinSize ts) :
    pinState (finishPin f s) f = 3 := by
  have hrefuse : finishPin f s = refusePin f s := by
    unfold finishPin
    obtain hdram | htiles | ⟨ts, htiles, hlarge⟩ := h
    · simp [hdram]
    · simp [htiles]
    · by_cases hdram : dramReadable s = true <;> simp [hdram, htiles, Nat.not_le.2 hlarge]
  rw [hrefuse, refusePin, pinState, pinOf_putPin s rfl]
  rfl

theorem pinCopyDone_judges {s : State} {f : Nat} (hcopying : pinState s f = 1) : ∃ t, exec (.pinCopyDone f) s = .next t
    ∧ t = { s with fetch := { s.fetch with pins := t.fetch.pins }, faults := t.faults }
    ∧ (∀ g, pinOf t g = pinOf (finishPin f s) g) := by
  obtain ⟨fs, hfaults⟩ := handleByPins_faults (finishPin f s)
  obtain ⟨ps, hpins⟩ := finishPin_pins f s
  refine ⟨handleByPins (finishPin f s), congrArg Host.Outcome.next (if_pos hcopying), ?_, fun g => ?_⟩
  · rw [hfaults, hpins]
  · rw [hfaults]
    rfl

/-- A mesh whose inversion is done waits for the frame boundary (R102). -/
theorem meshInversionDone_waits {s : State} {p : Port} (h : (s.warp.get p).inverting = true) :
    exec (.meshInversionDone p) s
      = .next { s with warp := s.warp.modify p fun w => { w with inverting := false, done := true } } := by
  show execMeshInversionDone p s = _
  simp only [execMeshInversionDone, onWarp, PerPort.modify, h, if_true]

/-- Settles O23, command by command. -/
theorem sourceTilesAndPinsAreJudged : Obligations.SourceTilesAndPinsAreJudged := by
  refine ⟨fun s p n k flaws f hbusy holder hreads hstored => tileDecodeDone_stores hbusy holder hreads flaws hstored,
    fun s p n k flaws f hbusy holder hreads hstored => tileRefetchDone_judges hbusy holder hreads flaws hstored,
    fun s p n k f hbusy holder hreads hstored => tileLateTimeout_fails hbusy holder hreads hstored,
    fun s f hcopying => ?_, fun s p => meshInversionDone_waits,
    fun s hpix => congrArg Host.Outcome.next (if_pos hpix)⟩
  obtain ⟨t, hexec, honly, hpin⟩ := pinCopyDone_judges hcopying
  have hstate : pinState t f = pinState (finishPin f s) f := by rw [pinState, hpin, pinState]
  refine ⟨t, hexec, honly, fun ts hdram htiles hfit => ?_, fun h => ?_, fun ts htiles hlarge => ?_⟩
  · rw [hpin]
    exact finishPin_pinned hdram htiles hfit
  · rw [hstate]
    exact finishPin_refused (h.imp_right .inl)
  · rw [hstate]
    exact finishPin_refused (.inr (.inr ⟨ts, htiles, hlarge⟩))

end Sys2Proof.Laws
end

section
/-!
The KindBits of the units (R349): no raise clears one, and neither do the operations that end what waits for the CP.
-/

namespace Sys2Proof.Laws

open Sys2Proof Sys2Proof.Machine

/-- Every KindBit that is set in one state is set in another. -/
def BitsKept (s t : State) : Prop :=
  ∀ u b, (blockOf s u).bits.getLsbD b = true → (blockOf t u).bits.getLsbD b = true

theorem bitsKept_of_blocks {s t : State} (h : t.faults.blocks = s.faults.blocks) : BitsKept s t := fun u b hb => by
  rwa [blockOf, h]

theorem BitsKept.trans {s t u : State} (h : BitsKept s t) (h' : BitsKept t u) : BitsKept s u := fun v b hb =>
  h' v b (h v b hb)

/-- An operation that begins by leaving the status records alone. -/
theorem BitsKept.of_start {r s t : State} (h : BitsKept r t) (hstart : r.faults.blocks = s.faults.blocks) : BitsKept s t :=
  (bitsKept_of_blocks hstart).trans h

theorem bitsKept_foldl {α : Type} {g : State → α → State} (hg : ∀ s x, BitsKept s (g s x)) (xs : List α) (s : State) :
    BitsKept s (xs.foldl g s) :=
  List.foldlRecOn xs g (motive := BitsKept s) (bitsKept_of_blocks rfl) fun t ht x _ => ht.trans (hg t x)

/-! ## Raises -/

theorem blockOf_unit (s : State) (u : Nat) : (blockOf s u).unit = u := by
  unfold blockOf
  cases hfind : s.faults.blocks.find? fun b => b.unit == u with
  | none => rfl
  | some b => exact beq_iff_eq.1 (List.find?_some (p := fun b : Block => b.unit == u) hfind)

theorem blockOf_putBlock (b : Block) (u : Nat) (s : State) :
    blockOf (putBlock b s) u = if b.unit = u then b else blockOf s u := by
  by_cases hb : b.unit = u
  · rw [if_pos hb, blockOf, putBlock, List.find?_cons_of_pos (by simp [hb])]
    rfl
  · have hfind : (s.faults.blocks.filter fun x => x.unit != b.unit).find? (fun x => x.unit == u)
        = s.faults.blocks.find? fun x => x.unit == u := by
      rw [List.find?_filter]
      refine List.find?_congr fun x _ => ?_
      by_cases hx : x.unit = u
      · simp [hx, Ne.symm hb]
      · simp [hx]
    rw [if_neg hb, blockOf, putBlock, List.find?_cons_of_neg (by simp [hb]), hfind, blockOf]

theorem noteBlock_bitsKept (u k s) : BitsKept s (noteBlock u k s) := fun v b hb => by
  unfold noteBlock
  dsimp only
  rw [blockOf_putBlock, blockOf_unit]
  split
  · next h =>
    subst h
    rw [BitVec.getLsbD_or, hb, Bool.true_or]
  · exact hb

theorem raiseFresh_blocks (k u i s) : (raiseFresh k u i s).faults.blocks = (noteBlock u k s).faults.blocks := by
  have hsent : ∀ w t, (interruptCp k u w t).faults.blocks = t.faults.blocks := fun w t =>
    (Prod.mk.inj (interruptCp_activity k u w t)).2
  have hentry : ∀ w t, (raiseEntry k u i w t).faults.blocks = t.faults.blocks := fun w t =>
    (Prod.mk.inj (raiseEntry_activity k u i w t)).2
  have hactive : ∀ w t, (noteActive k u i w t).faults.blocks = t.faults.blocks := fun w t => by
    unfold noteActive
    repeat' split
    all_goals rfl
  unfold raiseFresh
  dsimp only
  rw [hsent, hactive, apply_ite (fun t : State => t.faults.blocks), hentry, ite_self]
  rfl

theorem raiseFresh_bitsKept (k u i s) : BitsKept s (raiseFresh k u i s) :=
  (noteBlock_bitsKept u k s).trans (bitsKept_of_blocks (raiseFresh_blocks k u i s))

theorem triggerCommit_bitsKept (w s) : BitsKept s (triggerCommit w s) := by
  unfold triggerCommit tryCommit
  repeat' split
  · exact bitsKept_of_blocks rfl
  · exact (raiseFresh_bitsKept 0x3A 0x16 {} (commitEntry w 2 s)).of_start rfl
  · exact bitsKept_of_blocks rfl
  · exact bitsKept_of_blocks rfl

theorem settle_blocks (s) : (settle s).faults.blocks = s.faults.blocks := (Prod.mk.inj (settle_activity s)).2

/-- A raise clears no KindBit (R349). -/
theorem raiseKind_bitsKept (k i s) : BitsKept s (raiseKind k i s) := by
  have hfresh : BitsKept s (blankAgain k (raiseFresh k (unitOf k i.port) i s)) :=
    (raiseFresh_bitsKept k (unitOf k i.port) i s).trans (bitsKept_of_blocks (Prod.mk.inj (blankAgain_activity k _)).2)
  unfold raiseKind
  dsimp only
  split
  · exact bitsKept_of_blocks rfl
  · refine BitsKept.trans ?_ (bitsKept_of_blocks (settle_blocks _))
    split
    · exact hfresh.trans (triggerCommit_bitsKept _ _)
    · exact hfresh

/-! ## What waits for the CP -/

theorem clearCondition_blocks (k u s) : (clearCondition k u s).faults.blocks = s.faults.blocks := by
  have hexit : (exitKind k u s).faults.blocks = s.faults.blocks := by
    unfold exitKind
    split
    · rfl
    · exact (settle_blocks _).trans rfl
  unfold clearCondition
  repeat' split
  · rfl
  · rfl
  · rfl
  · rfl
  · exact hexit
  · exact hexit

/-- The units' status records and the power, which no answer to a request changes. -/
def blocksAndPower (s : State) : List Block × Power := (s.faults.blocks, s.power)

theorem sendWaybill_blocksAndPower (ad reason w s) : blocksAndPower (sendWaybill ad reason w s) = blocksAndPower s :=
  Prod.ext (Prod.mk.inj (sendWaybill_activity ad reason w s)).2 (congrArg State.power (sendWaybill_only ad reason w s) :)

theorem waybillAll_blocksAndPower (s) : blocksAndPower (waybillAll s) = blocksAndPower s :=
  foldl_keeps blocksAndPower (fun _ _ => sendWaybill_blocksAndPower _ _ _ _) _ _

theorem answer_blocksAndPower (via write index sub status bs s) (_ : via = .sbp → write = true) :
    blocksAndPower (answer via write index sub status bs s) = blocksAndPower s :=
  (congrArg blocksAndPower (answer_frame via write index sub status bs s) :)

theorem busyRequests_blocksAndPower (s) : blocksAndPower (busyRequests s) = blocksAndPower s :=
  busyRequests_view answer_blocksAndPower (fun _ _ _ => rfl)
    (dropPackets_view (fun _ _ _ => rfl) (fun _ _ => rfl) (fun _ _ => rfl) (fun _ _ _ => rfl)
      fun s => Prod.ext (clearCondition_blocks 0x0B 0x06 s) (congrArg State.power (clearCondition_only 0x0B 0x06 s) :))
    (refuseAll_view answer_blocksAndPower _ _ _ s)

/-- A withdrawal that does not put the part in Stop changes nothing, or starts the tasks before Stop (R444). -/
theorem afterWithdrawal_of_attends {s : State} (h : Attends s.power) :
    afterWithdrawal s = s ∨ afterWithdrawal s = startStopTasks s := by
  unfold afterWithdrawal
  split
  · exact .inl rfl
  · next hidle =>
    obtain htasks | hvotes := h
    · simp [htasks] at hidle
    · exact .inr (if_pos (by simpa using hvotes))

theorem settleRelayVote_blocks {s : State} (h : Attends s.power) :
    (settleRelayVote s).faults.blocks = s.faults.blocks := by
  have hwithdrawn : (afterWithdrawal (onVotes (fun v => { v with caravan := 0 }) s)).faults.blocks = s.faults.blocks := by
    obtain hsame | htasks := afterWithdrawal_of_attends (s := onVotes (fun v => { v with caravan := 0 }) s) h
    · rw [hsame]
      rfl
    · rw [htasks]
      rfl
  unfold settleRelayVote dropRingVote
  repeat' split
  · rfl
  · rfl
  · exact hwithdrawn
  · rfl
  · rfl

theorem abortRelays_blocks {status} {s : State} (h : Attends s.power) :
    (abortRelays status s).faults.blocks = s.faults.blocks := by
  have hrelay : ∀ t r, blocksAndPower (answerRelay r status [] t) = blocksAndPower t := fun t r =>
    (congrArg blocksAndPower (answerRelay_frame r status [] t) :)
  have hanswered : blocksAndPower (s.caravan.relays.foldl (fun s r => answerRelay r status [] s)
      (onRing (fun c => { c with relays := [] }) s)) = blocksAndPower s :=
    (foldl_keeps blocksAndPower hrelay _ _).trans rfl
  obtain ⟨hblocks, hpower⟩ := Prod.mk.inj hanswered
  exact (settleRelayVote_blocks (by rwa [hpower])).trans hblocks

/-- The restart of the CP clears no KindBit while the part attends to it (R349, R358). -/
theorem restartCp_blocks {cause} {s : State} (h : Attends s.power) :
    (restartCp cause s).faults.blocks = s.faults.blocks := by
  obtain ⟨hblocks, hpower⟩ := Prod.mk.inj ((busyRequests_blocksAndPower (waybillAll s)).trans (waybillAll_blocksAndPower s))
  have hrelays := (abortRelays_blocks (status := stBusy) (by rwa [hpower])).trans hblocks
  unfold restartCp
  dsimp only
  rw [show ∀ t, (writeBoot cause 0 t).faults = t.faults from fun t => (congrArg State.faults (writeBoot_frame cause 0 t) :)]
  exact hrelays

end Sys2Proof.Laws
end

section
/-!
O8: the DRAM's training and failure (R358, R430), SRAM errors (R359) and full service (R430).
-/

namespace Sys2Proof.Laws

open Sys2Proof Sys2Proof.Machine

/-! ## The DRAM -/

theorem pinState_failPins (f s) : pinState (failPins s) f = if pinState s f = 1 then 3 else pinState s f := by
  have hsurface : ((fun x : Pin => x.surface == f) ∘ fun x => if x.state = 1 then { surface := x.surface, state := 3 } else x)
      = fun x => x.surface == f := by
    funext x
    simp only [Function.comp_apply]
    split <;> rfl
  rw [pinState, pinOf, failPins, List.find?_map, hsurface, pinState, pinOf]
  cases s.fetch.pins.find? fun x => x.surface == f with
  | none => rfl
  | some x =>
    simp only [Option.map_some, Option.elim_some]
    by_cases hx : x.state = 1 <;> simp [hx]

/-- A failed read of the DRAM (R358, kind 0x27). -/
theorem dramFails (s) : (failDram s).units = { s.units with dramFailed := true }
    ∧ Raised 0x27 0x10 { s with
        units := { s.units with dramFailed := true }, fetch := { s.fetch with pins := (failDram s).fetch.pins } } (failDram s)
    ∧ (∀ f, pinState (failDram s) f = if pinState s f = 1 then 3 else pinState s f)
    ∧ (∀ a ∈ (failDram s).faults.active, a.kind = 0x27 → a.unit = 0x10 → a.absent = true) := by
  have honly : Outside.faultParts (failDram s)
      = Outside.faultParts (failPins (onUnits (fun u => { u with dramFailed := true }) s)) :=
    (markAbsent_only _ _ _).trans (raiseKind_only _ _ _)
  refine ⟨(congrArg State.units honly :), failDram_raised s, fun f => ?_, absent_of_markAbsent 0x27 0x10 _⟩
  have hpins : (failDram s).fetch = (failPins s).fetch := (congrArg State.fetch honly :)
  have hfailed := pinState_failPins f s
  rw [pinState, pinOf] at hfailed ⊢
  rwa [hpins]

/-- The DRAM is trained again (R358, R442). -/
theorem dramRetrains {s : State} (hdram : isOn s .dram = true) (hfailed : s.units.dramFailed = true)
    (hquiet : kindActive s 0x27 = false) (hcp : cpReady s = true) : ∃ t, exec .dramRetrainDone s = .next t
      ∧ OnlyFaultParts { s with units := { s.units with dramFailed := false, dramTrained := true } } t
      ∧ ∀ r ∈ t.faults.unacked, r.unit ≠ 0x10 := by
  refine ⟨_, congrArg Host.Outcome.next (if_pos (by simp [hdram, hfailed, hquiet, hcp])), ?_, closeWrapper_closes 0x10 _⟩
  exact onlyFaultParts_of (closeWrappers_only _ _)

/-! ## The regions of SRAM (R359) -/

theorem putTile_mem {p n f tile x s} {y : StoredTile} (hfree : storedTile s p n f tile = none) (hy : y ∈ s.fetch.store) :
    y ∈ (putTile p n f tile x s).fetch.store := by
  have hnone := List.find?_eq_none.1 (Option.map_eq_none_iff.1 hfree) y hy
  exact List.mem_cons_of_mem _ (List.mem_filter.2 ⟨hy, by simpa using hnone⟩)

/-- The work on a cached tile keeps what is in the store: the tile itself is not yet there. -/
theorem spoilCached_mem {p n tile s} {y : StoredTile} (hy : y ∈ s.fetch.store) :
    y ∈ (spoilCached p n tile s).fetch.store := by
  have hspoil : ∀ u : State, y ∈ u.fetch.store → tileDue p n tile (· == none) u = true →
      y ∈ (onSurface n (fun f => putTile p n f tile .failedOnce) u).fetch.store := fun u hu hdue => by
    unfold tileDue at hdue
    split at hdue
    · next f hreads =>
      rw [onSurface, layerSurface_of_reading hreads]
      exact putTile_mem (beq_iff_eq.1 hdue) hu
    · cases hdue
  unfold spoilCached fetchWork
  split
  · exact hy
  · split
    · next r _ =>
      split
      · next hdue => exact hspoil (enterRun r s) hy (Bool.and_eq_true_iff.1 hdue).2
      · split
        · next hdue => exact hspoil s hy hdue
        · exact hy
    · split
      · next hdue => exact hspoil s hy hdue
      · exact hy

theorem noteFailed_store (n f tile s) : (noteFailed n f tile s).fetch.store = s.fetch.store := by
  have hraised : ∀ k t, (raisePerLayer k n f tile t).fetch.store = t.fetch.store := fun k t => by
    obtain ⟨rs, -, hto⟩ := raisePerLayer_fetchedTo k n f tile t
    exact (congrArg Fetch.store hto.fetch :)
  have hlast : ∀ w t, (setLastFailed w t).fetch.store = t.fetch.store := fun _ _ => rfl
  have hcount : ∀ t, (countTransparent t).fetch.store = t.fetch.store := fun _ => rfl
  unfold noteFailed
  dsimp only
  split
  · rw [hraised, hlast]
  · rw [hraised, hcount, hlast]

/-- Every tile of the port, layer and number that is in the store is spoilt there (R359). -/
theorem spoilTiles_mem {p n tile s} {x : StoredTile} (hx : x ∈ s.fetch.store) (hport : x.port = p) (hlayer : x.layer = n)
    (htile : x.tile = tile) : { x with status := spoilStatus x.status } ∈ (spoilTiles p n tile s).fetch.store := by
  unfold spoilTiles
  dsimp only
  rw [foldl_keeps (fun t : State => t.fetch.store) (fun t x => noteFailed_store _ _ _ t)]
  exact List.mem_map.2 ⟨x, hx, if_pos (by simp [hport, hlayer, htile])⟩

theorem spoilLayer_mem {p n tile s} {x : StoredTile} (hx : x ∈ s.fetch.store) (hport : x.port = p) (hlayer : x.layer = n)
    (htile : x.tile = tile) : { x with status := spoilStatus x.status } ∈ (spoilLayer p n tile s).fetch.store := by
  have hspoilt := spoilTiles_mem hx hport hlayer htile
  unfold spoilLayer
  dsimp only
  split
  · split
    · exact hspoilt
    · exact spoilCached_mem hspoilt
  · exact spoilCached_mem hspoilt

theorem repairPixels_darkPixels (s) : (repairPixels s).drive.darkPixels = s.drive.darkPixels :=
  foldl_keeps (fun t : State => t.drive.darkPixels) (fun t e => by unfold repairPixel; split <;> rfl) _ _

theorem spoilPixel_dark (status pixel s) : pixel ∈ (spoilPixel status pixel s).drive.darkPixels := by
  have hdark : pixel ∈ addNew s.drive.darkPixels pixel := mem_addNew.2 (.inr rfl)
  unfold spoilPixel
  dsimp only
  split
  · rw [repairPixels_darkPixels]
    exact hdark
  · exact hdark

theorem spoilPixel_repairs {status pixel} {s : State} (h : cpReady s = true) :
    (spoilPixel status pixel s).drive.repairs = [] :=
  congrArg (fun t : State => t.drive.repairs) (if_pos h)

theorem stallComposer_restarts {s : State} (h : isOn s .pix = true) :
    (stallComposer s).units.composerRestart = true := by
  have honly : Outside.faultParts (stallComposer s) = Outside.faultParts (restartComposer s) := by
    rw [stallComposer, if_pos h]
    exact (closeWrappers_only _ _).trans (raiseKind_only _ _ _)
  exact (congrArg (fun t : State => t.units.composerRestart) honly :)

theorem restartCp_boots (cause s) : (restartCp cause s).units.cp = .booting := by
  have hboot : ∀ t, (writeBoot cause 0 t).units = t.units := fun t => (congrArg State.units (writeBoot_frame cause 0 t) :)
  unfold restartCp
  dsimp only
  rw [hboot]
  rfl

theorem recopySafeBeam_repairs (p s) : p ∈ (recopySafeBeam p s).safeBeam.repairing := by
  show p ∈ if s.safeBeam.repairing.contains p then s.safeBeam.repairing else p :: s.safeBeam.repairing
  split
  · next h => exact List.contains_iff_mem.1 h
  · exact List.mem_cons_self

/-! ## KindBits through the handling of a region -/

theorem raisePerLayer_bitsKept (k n f tile s) : BitsKept s (raisePerLayer k n f tile s) := by
  unfold raisePerLayer
  split
  · exact bitsKept_of_blocks rfl
  · exact (raiseKind_bitsKept _ _ _).of_start rfl

theorem noteFailed_bitsKept (n f tile s) : BitsKept s (noteFailed n f tile s) := by
  have hlast : ∀ w t, (setLastFailed w t).faults.blocks = t.faults.blocks := fun _ _ => rfl
  have hcount : ∀ t, (countTransparent t).faults.blocks = t.faults.blocks := fun _ => rfl
  unfold noteFailed
  dsimp only
  split
  · exact (raisePerLayer_bitsKept _ _ _ _ _).of_start (hlast _ _)
  · exact (raisePerLayer_bitsKept _ _ _ _ _).of_start ((hcount _).trans (hlast _ _))

theorem spoilLayer_bitsKept (p n tile s) : BitsKept s (spoilLayer p n tile s) := by
  have htiles : BitsKept s (spoilTiles p n tile s) := by
    unfold spoilTiles
    dsimp only
    refine BitsKept.of_start (bitsKept_foldl (fun t x => noteFailed_bitsKept _ _ _ t) _ _) ?_
    rfl
  have hcached : ∀ t : State, BitsKept t (spoilCached p n tile t) := fun t =>
    bitsKept_of_blocks (congrArg (fun u : State => u.faults.blocks) (spoilCached_frame p n tile t) :)
  unfold spoilLayer
  dsimp only
  split
  · split
    · exact htiles.trans (bitsKept_of_blocks rfl)
    · exact htiles.trans (hcached _)
  · exact htiles.trans (hcached _)

theorem stallComposer_bitsKept (s) : BitsKept s (stallComposer s) := by
  unfold stallComposer
  split
  · have hraised : BitsKept s (raiseKind 0x0C {} (restartComposer s)) := (raiseKind_bitsKept 0x0C {} _).of_start rfl
    exact hraised.trans (bitsKept_of_blocks (Prod.mk.inj (closeWrappers_activity _ _)).2)
  · exact bitsKept_of_blocks rfl

theorem spoilPixel_bitsKept (status pixel s) : BitsKept s (spoilPixel status pixel s) := by
  unfold spoilPixel
  dsimp only
  split
  · exact bitsKept_of_blocks (congrArg (fun u : State => u.faults.blocks) (repairPixels_frame _) :)
  · exact bitsKept_of_blocks rfl

/-- The handling of a region clears no KindBit, the CP's region where the part attends to its restart (R349, R359). -/
theorem handleSram_bitsKept {region} {s : State} (h : region = .cpData → Attends s.power) :
    BitsKept s (handleSram region s) := by
  cases region with
  | outputBuffers p tile => exact bitsKept_of_blocks rfl
  | layerCaches p layer tile => exact spoilLayer_bitsKept p layer tile s
  | pixelMaps status pixel =>
    show BitsKept s (if pixel < 2097152 then spoilPixel status pixel s else s)
    split
    · exact spoilPixel_bitsKept status pixel s
    · exact bitsKept_of_blocks rfl
  | tables => exact stallComposer_bitsKept s
  | cpData =>
    show BitsKept s (if s.units.cp = .off then s else restartCp 0x05 (raiseKind 0x01 {} s))
    split
    · exact bitsKept_of_blocks rfl
    · have hpower : (raiseKind 0x01 {} s).power = s.power := (congrArg State.power (raiseKind_only 0x01 {} s) :)
      exact (raiseKind_bitsKept 0x01 {} s).trans (bitsKept_of_blocks (restartCp_blocks (hpower ▸ h rfl)))
  | safeBeamCopy p => exact bitsKept_of_blocks rfl

/-- An uncorrectable word of SRAM is noted and handled by its region (R358 kind 0x28, R359). -/
theorem sramUncorrectable_handled {s : State} {region} (hpix : isOn s .pix = true)
    (hcp : region = .cpData → s.power.votes.cp &&& allDomains ≠ 0) : ∃ t, exec (.sramUncorrectable region) s = .next t
      ∧ (blockOf t 0x11).bits.getLsbD (kindBit 0x11 0x28) = true
      ∧ (∀ p tile, region = .outputBuffers p tile → p.num * 512 + tile % 512 ∈ t.compose.badTiles)
      ∧ (∀ p layer tile, region = .layerCaches p layer tile →
          ∀ x ∈ s.fetch.store, x.port = p → x.layer = layer → x.tile = tile →
            { x with status := spoilStatus x.status } ∈ t.fetch.store)
      ∧ (∀ status pixel, region = .pixelMaps status pixel → pixel < 2097152 → pixel ∈ t.drive.darkPixels
          ∧ (cpReady s = true → t.drive.repairs = []))
      ∧ (region = .tables → t.units.composerRestart = true)
      ∧ (region = .cpData → s.units.cp ≠ .off → t.units.cp = .booting)
      ∧ (∀ p, region = .safeBeamCopy p → t.safeBeam.copying = true ∧ p ∈ t.safeBeam.repairing) := by
  refine ⟨_, congrArg Host.Outcome.next (if_pos hpix), ?_⟩
  have honly := raiseKind_only 0x28 {} s
  have hnoted := (raiseKind_noted 0x28 {} s rfl (by decide)).1
  generalize raiseKind 0x28 {} s = r at honly hnoted
  have hpower : r.power = s.power := (congrArg State.power honly :)
  have hunits : r.units = s.units := (congrArg State.units honly :)
  have hfetch : r.fetch = s.fetch := (congrArg State.fetch honly :)
  have hsettle := settle_frame (handleSram region r)
  have hcompose : (settle (handleSram region r)).compose = (handleSram region r).compose := (congrArg State.compose hsettle :)
  have hstore : (settle (handleSram region r)).fetch = (handleSram region r).fetch := (congrArg State.fetch hsettle :)
  have hdrive : (settle (handleSram region r)).drive = (handleSram region r).drive := (congrArg State.drive hsettle :)
  have hunits' : (settle (handleSram region r)).units = (handleSram region r).units := (congrArg State.units hsettle :)
  have hbeam : (settle (handleSram region r)).safeBeam = (handleSram region r).safeBeam := (congrArg State.safeBeam hsettle :)
  rw [hcompose, hstore, hdrive, hunits', hbeam]
  refine ⟨?_, ?_, ?_, ?_, ?_, ?_, ?_⟩
  case refine_1 =>
    have hattends : region = .cpData → Attends r.power := fun h => .inr (hpower ▸ hcp h)
    exact ((handleSram_bitsKept hattends).trans (bitsKept_of_blocks (settle_blocks _))) _ _ hnoted
  case refine_2 =>
    rintro p tile rfl
    exact mem_addNew.2 (.inr rfl)
  case refine_3 =>
    rintro p layer tile rfl x hx hport hlayer htile
    exact spoilLayer_mem (hfetch ▸ hx) hport hlayer htile
  case refine_4 =>
    rintro status pixel rfl hpixel
    have hready : cpReady r = cpReady s := by simp only [cpReady, isOn, domainState, hpower, hunits]
    rw [show handleSram (.pixelMaps status pixel) r = spoilPixel status pixel r from if_pos hpixel]
    exact ⟨spoilPixel_dark status pixel r, fun h => spoilPixel_repairs (hready.trans h)⟩
  case refine_5 =>
    rintro rfl
    refine stallComposer_restarts ?_
    simpa only [isOn, domainState, hpower] using hpix
  case refine_6 =>
    rintro rfl hoff
    rw [show handleSram .cpData r = restartCp 0x05 (raiseKind 0x01 {} r) from if_neg (by rwa [hunits])]
    exact restartCp_boots _ _
  case refine_7 =>
    rintro p rfl
    exact ⟨rfl, recopySafeBeam_repairs p r⟩

/-! ## Full service (R430) -/

/-- What full service loads, and the power. -/
def served (s : State) : Power × List MasterPixel × Bool × List Host.Cell :=
  (s.power, s.drive.master, s.manifest.calLoaded, s.dram)

theorem boostNeighbour_served (boost s q) : served (boostNeighbour boost s q) = served s := by
  have hqueued : ∀ x w, served (queueWord x w s) = served s := fun x w => by
    unfold queueWord
    repeat' split
    all_goals rfl
  unfold boostNeighbour
  dsimp only
  repeat' split
  · rfl
  · exact hqueued _ _
  · exact hqueued _ _

theorem concealAll_served (s) : served (concealAll s) = served s :=
  foldl_keeps served (fun t p => foldl_keeps served (fun u e => by
    unfold concealPixel
    dsimp only
    split
    · exact foldl_keeps served (fun v q => boostNeighbour_served _ v q) _ _
    · rfl) _ t) _ s

theorem loadSurface_served (s x) : served (loadSurface s x) = served s := by
  have hdescribed : ∀ i sub v t, served (setCfg i sub v t) = served t := fun _ _ _ _ => rfl
  have hpinned : ∀ f t, served (finishPin f t) = served t := fun f t => (congrArg served (finishPin_frame f t) :)
  unfold loadSurface
  dsimp only
  split
  · simp only [hpinned, hdescribed]
  · simp only [hdescribed]

/-- The wake and SBP votes end when they have been served, and the rest of what full service loads stands (R435). -/
theorem releaseWakeVotes_served {s : State} (h : Attends s.power) :
    (served (releaseWakeVotes s)).2 = (served s).2
      ∧ (releaseWakeVotes s).power.fullService = s.power.fullService
      ∧ (wakeServed s = true → (releaseWakeVotes s).power.votes.wake = 0 ∧ (releaseWakeVotes s).power.votes.sbp = 0) := by
  unfold releaseWakeVotes
  split
  · obtain hsame | htasks := afterWithdrawal_of_attends (s := onVotes (fun v => { v with wake := 0, sbp := 0 }) s) h
    · rw [hsame]
      exact ⟨rfl, rfl, fun _ => ⟨rfl, rfl⟩⟩
    · rw [htasks]
      exact ⟨rfl, rfl, fun _ => ⟨rfl, rfl⟩⟩
  · next hidle =>
    refine ⟨rfl, rfl, fun hserved => ?_⟩
    have hnone : s.power.votes.wake ||| s.power.votes.sbp = 0 := by simpa [hserved] using hidle
    exact BitVec.or_eq_zero_iff.1 hnone

/-- Full service (R99, R170, R329, R430). -/
theorem fullService_loads {s : State} (load) (hcp : cpReady s = true) (hrecovery : s.units.cpRecoveryBoot = false)
    (hpix : isOn s .pix = true) (hjournal : s.journal.scanned = true) (halmanac : s.almanac.ready = true)
    (hnot : s.power.fullService = false) (hvotes : s.power.votes.cp &&& allDomains ≠ 0) :
    ∃ t, exec (.fullService load) s = .next t
      ∧ t.power.fullService = true ∧ t.drive.master = load.pixels ∧ t.manifest.calLoaded = true
      ∧ (isOn s .dram = true → t.dram = load.dram.foldl (fun m e => memWrite e.1 e.2 m) s.dram)
      ∧ (s.power.options.bootSource ≠ 2 → t.power.votes.wake = 0 ∧ t.power.votes.sbp = 0) := by
  refine ⟨_, congrArg Host.Outcome.next (if_pos (by simp [hcp, hrecovery, hpix, hjournal, halmanac, hnot])), ?_⟩
  dsimp only
  generalize hu : load.surfaces.foldl loadSurface _ = u
  have hserved : served u = (s.power, load.pixels, true,
      if isOn s .dram = true then load.dram.foldl (fun m e => memWrite e.1 e.2 m) s.dram else s.dram) := by
    rw [← hu, foldl_keeps served loadSurface_served, concealAll_served]
    simp only [served, loadMaps]
    split <;> rfl
  simp only [served, Prod.mk.injEq] at hserved
  obtain ⟨hpower, hmaster, hloaded, hdram⟩ := hserved
  obtain ⟨hkept, hfull, hwake⟩ := releaseWakeVotes_served (s := onPower (fun w => { w with fullService := true }) u)
    (.inr (show u.power.votes.cp &&& allDomains ≠ 0 by rwa [hpower]))
  simp only [served, Prod.mk.injEq] at hkept
  obtain ⟨hmaster', hloaded', hdram'⟩ := hkept
  refine ⟨hfull, hmaster'.trans hmaster, hloaded'.trans hloaded, fun hon => ?_, fun hsource => hwake ?_⟩
  · rw [hdram']
    exact hdram.trans (if_pos hon)
  · have hoptions : (onPower (fun w => { w with fullService := true }) u).power.options = s.power.options := by
      rw [← hpower]
      rfl
    rw [wakeServed, hoptions, if_neg hsource]
    rfl

/-- Settles O8: the DRAM's training, failures and retraining, the regions of SRAM, and full service. -/
theorem memoryFailuresAndFullService : Obligations.MemoryFailuresAndFullService := by
  refine ⟨fun s hdram hcp => ?_, fun s timeout hdram => ⟨failDram s, ?_, dramFails s⟩,
    fun s hdram hfailed hquiet hcp => dramRetrains hdram hfailed hquiet hcp,
    fun s region hpix hcp => sramUncorrectable_handled hpix hcp,
    fun s load hcp hrecovery hpix hjournal halmanac hnot hvotes =>
      fullService_loads load hcp hrecovery hpix hjournal halmanac hnot hvotes⟩
  · exact congrArg Host.Outcome.next (if_pos (by simp [hdram, hcp]))
  · cases timeout <;> exact congrArg Host.Outcome.next (if_pos hdram)

end Sys2Proof.Laws
end

section
/-!
O35: packets of the host link: what the lane does with them, and what an accepted one does (R232 to R244).
-/

namespace Sys2Proof.Laws

open Sys2Proof Sys2Proof.Machine

/-! ## Lanes -/

theorem modifyAt_of_fixed {α : Type} {f : α → α} (h : ∀ x, f x = x) (i : Nat) (xs : List α) : modifyAt f i xs = xs := by
  induction xs generalizing i with
  | nil => cases i <;> rfl
  | cons x xs ih =>
    cases i with
    | zero => exact congrArg (· :: xs) (h x)
    | succ i => exact congrArg (x :: ·) (ih i)

theorem modifyAt_modifyAt {α : Type} (f g : α → α) (i : Nat) (xs : List α) :
    modifyAt f i (modifyAt g i xs) = modifyAt (fun x => f (g x)) i xs := by
  induction xs generalizing i with
  | nil => cases i <;> rfl
  | cons x xs ih =>
    cases i with
    | zero => rfl
    | succ i => exact congrArg (x :: ·) (ih i)

theorem onLane_onLane (lane f g s) : onLane lane f (onLane lane g s) = onLane lane (fun l => f (g l)) s := by
  simp only [onLane, onHost, modifyAt_modifyAt]

theorem hostLane_onLane {s : State} {lane : Nat} (f : HostLane → HostLane) (h : lane < s.host.lanes.length) :
    hostLane (onLane lane f s) lane = f (hostLane s lane) := nth_modifyAt _ f h

theorem onControlLane_onLane (k f s lane packet) : onControlLane (onLane k f s) lane packet = onControlLane s lane packet :=
  rfl

/-- A packet without code errors adds none to its lane (R189). -/
theorem onLane_noCodeErrors {packet : RxPacket} (lane s) (h : packet.codeErrors = 0) :
    onLane lane (fun l => { l with codeErrors := l.codeErrors + packet.codeErrors }) s = s := by
  rw [onLane, onHost, modifyAt_of_fixed fun l => by rw [h, Nat.add_zero]]

theorem codeErrors_of_uhlGood {packet : RxPacket} {ty reserved} (h : uhlGood packet ty reserved = true) :
    packet.codeErrors = 0 := by
  simp only [uhlGood, packetGood, Bool.and_eq_true, beq_iff_eq] at h
  obtain ⟨⟨⟨⟨⟨hcode, -⟩, -⟩, -⟩, -⟩, -⟩ := h
  exact hcode

/-! ## What a lane does with a packet (R189, R232, R235) -/

section

variable {s : State} {lane : Nat} {packet : RxPacket} {control good : Bool} {act : State → State}

theorem receiveUhl_of_closed (h : isOn s .link = false ∨ (hostLane s lane).state ≠ 1) :
    receiveUhl lane packet control good act s = s := by
  rw [receiveUhl, if_pos]
  simpa using h

theorem receiveUhl_of_bad (hlink : isOn s .link = true) (hlane : (hostLane s lane).state = 1) (hgood : good = false) :
    receiveUhl lane packet control good act s = { s with host := { s.host with
      lanes := modifyAt (fun l => { l with
        codeErrors := l.codeErrors + packet.codeErrors, errors := min (l.errors + 1) (2 ^ 32 - 1) }) lane s.host.lanes } } := by
  rw [receiveUhl, if_neg (by simp [hlink, hlane]), if_pos (by rw [hgood]; rfl)]
  exact onLane_onLane _ _ _ s

theorem receiveUhl_of_misrouted (hlink : isOn s .link = true) (hlane : (hostLane s lane).state = 1)
    (hcode : packet.codeErrors = 0) (hcontrol : onControlLane s lane packet = false) :
    receiveUhl lane packet true true act s = { s with host := { s.host with
      misrouted := min (s.host.misrouted + 1) (2 ^ 32 - 1) } } := by
  simp only [receiveUhl, onLane_noCodeErrors _ _ hcode]
  rw [if_neg (by simp [hlink, hlane]), if_neg (by decide), if_pos (by rw [hcontrol]; rfl)]
  rfl

theorem receiveUhl_of_duplicate (hlink : isOn s .link = true) (hlane : (hostLane s lane).state = 1)
    (hcode : packet.codeErrors = 0) (hcontrol : onControlLane s lane packet = true)
    (hseq : (hostLane s lane).lastSeq = some (BitVec.ofNat 16 (hdrSequence packet.header))) :
    receiveUhl lane packet true true act s = { s with host := { s.host with
      duplicates := min (s.host.duplicates + 1) (2 ^ 32 - 1) } } := by
  simp only [receiveUhl, onLane_noCodeErrors _ _ hcode]
  rw [if_neg (by simp [hlink, hlane]), if_neg (by decide), if_neg (by rw [hcontrol]; decide), if_pos hseq]
  rfl

end

/-- Each command that brings a packet hands it to its lane, and a packet that arrived damaged is not good (R189, R193). -/
theorem exec_receivesUhl {lane packet fraction c} (s : State)
    (h : c ∈ [Instr.uhlVideoLine lane packet, .uhlShadeList lane packet, .uhlManifestCommit lane packet,
      .uhlOdWrite lane packet, .uhlTimeSync lane packet fraction]) :
    ∃ control good act, exec c s = .next (receiveUhl lane packet control good act s)
      ∧ (packetGood packet = false → good = false) := by
  simp only [List.mem_cons, List.not_mem_nil, or_false] at h
  rcases h with rfl | rfl | rfl | rfl | rfl <;> exact ⟨_, _, _, rfl, fun hbad => by simp [uhlGood, hbad]⟩

/-! ## A packet that is accepted (R232, R235, R260) -/

/-- The state beside what an accepted packet changes before it acts: its lane, the count of gaps, the monitor of the host
link and the parts that hold fault kinds (R235, R260). -/
def besideArrival (s : State) : State :=
  Outside.faultParts { s with host := { s.host with lanes := [], gaps := 0, linkArmed := false, linkLost := false } }

theorem besideArrival_of_only {s t : State} (h : Outside.faultParts t = Outside.faultParts s) :
    besideArrival t = besideArrival s :=
  (congrArg (fun x : State => besideArrival x) h :)

theorem hostActive_arrives (uhl s) : besideArrival (hostActive uhl s) = besideArrival s
    ∧ (hostActive uhl s).host.lanes = s.host.lanes := by
  unfold hostActive
  dsimp only
  split
  · have honly := clearCondition_only 0x24 0x0E (onHost (fun h => { h with linkArmed := true, linkLost := false }) s)
    exact ⟨(besideArrival_of_only honly).trans rfl, (congrArg (fun x : State => x.host.lanes) honly :)⟩
  · exact ⟨rfl, rfl⟩

/-- An accepted packet acts on a state that is the present one beside its arrival, with its sequence noted. -/
theorem receiveUhl_arrives {s : State} {lane : Nat} {packet : RxPacket} {control : Bool} (act)
    (hlink : isOn s .link = true) (hlane : (hostLane s lane).state = 1)
    (hcontrol : control = true → onControlLane s lane packet = true)
    (hnew : (hostLane s lane).lastSeq ≠ some (BitVec.ofNat 16 (hdrSequence packet.header)))
    (hbound : lane < s.host.lanes.length) :
    ∃ u, receiveUhl lane packet control true act s = act u ∧ besideArrival u = besideArrival s
      ∧ (hostLane u lane).lastSeq = some (BitVec.ofNat 16 (hdrSequence packet.header)) := by
  have hright : (control && !onControlLane s lane packet) = false := by
    cases control with
    | false => rfl
    | true => rw [hcontrol rfl]; rfl
  have hacts : ∃ v, receiveUhl lane packet control true act s = act (hostActive true v)
      ∧ besideArrival v = besideArrival s
      ∧ (hostLane v lane).lastSeq = some (BitVec.ofNat 16 (hdrSequence packet.header)) := by
    rw [receiveUhl, if_neg (by simp [hlink, hlane]), if_neg (by decide), onControlLane_onLane,
      if_neg (by rw [hright]; decide), if_neg hnew, onLane_onLane]
    exact ⟨_, rfl, rfl, congrArg HostLane.lastSeq (hostLane_onLane _ hbound)⟩
  obtain ⟨v, hv, hbeside, hseq⟩ := hacts
  obtain ⟨hbeside', hlanes⟩ := hostActive_arrives true v
  refine ⟨_, hv, hbeside'.trans hbeside, ?_⟩
  rw [hostLane, hlanes]
  exact hseq

/-! ## The queue of the control lane (R242) -/

/-- What of the host ports the packets in the queue leave as they are when they act: all but the queue, the reports over
CAN and the interrupts other than bit 1. -/
def besideQueue (s : State) : HostPorts × Bool := ({ s.host with irq := 0, queue := [], canOut := [] }, s.host.irq.getLsbD 1)

theorem setIrq6_besideQueue (s) : besideQueue (setIrq 6 s) = besideQueue s := by
  refine Prod.ext rfl ?_
  show (s.host.irq ||| BitVec.ofNat 32 (2 ^ 6)).getLsbD 1 = s.host.irq.getLsbD 1
  rw [BitVec.getLsbD_or, show (BitVec.ofNat 32 (2 ^ 6)).getLsbD 1 = false from by decide, Bool.or_false]

theorem shadeFresh_besideQueue (s) : besideQueue (shadeFresh s) = besideQueue s :=
  (congrArg (fun x : State => besideQueue x) (clearCondition_only 0x0B 0x06 _) :)

theorem shadeList_besideQueue (objs s) : besideQueue (shadeList objs s) = besideQueue s := by
  unfold shadeList offerList
  split
  · exact setIrq6_besideQueue _
  split
  · rfl
  · exact shadeFresh_besideQueue _

theorem requestCommit_besideQueue (s) : besideQueue (requestCommit s) = besideQueue s := by
  rw [requestCommit_eq]
  rfl

theorem actItems_besideQueue (q s) : besideQueue (actItems q s) = besideQueue s := by
  fun_induction actItems q s with
  | case1 q s ih => rw [ih, requestCommit_besideQueue]
  | case2 objs q s ih => rw [ih, shadeList_besideQueue]
  | case3 time dt q s ih => rw [ih]; rfl
  | case4 q s => rfl

theorem runQueue_besideQueue (s) : besideQueue (runQueue s) = besideQueue s := by
  rw [runQueue]
  split
  · rfl
  · exact actItems_besideQueue _ _

theorem queueItem_besideQueue (x s) : besideQueue (queueItem x s) = besideQueue s := runQueue_besideQueue _

theorem runQueue_of_empty {s : State} (h : s.host.queue = []) : runQueue s = s := by
  rw [runQueue, h, ite_eq_left_iff]
  intro
  rw [actItems, onHost, ← h]
  all_goals simp

/-! ## Shade lists (R119, R120, R123, R124, R128, R241) -/

section

variable {objs : List (BitVec 128)} {s : State}

theorem shadeList_of_rejected (h : s.shade.source ≠ 0 ∨ ∃ o ∈ objs, shadeInvalid o = true) :
    shadeList objs s = setIrq 6 (rejectList s) :=
  if_pos (by rwa [List.any_eq_true])

theorem shadeList_of_good (hsource : s.shade.source = 0) (hvalid : ∀ o ∈ objs, shadeInvalid o = false) :
    shadeList objs s = offerList (objs.map keptObject) s :=
  if_neg (by simpa [hsource] using hvalid)

theorem offerList_of_refilling (h : s.shade.refilling = true) :
    (offerList objs s).shade.staged = s.shade.staged ∧ (offerList objs s).shade.waiting = some objs := by
  rw [offerList, if_pos h]
  exact ⟨rfl, rfl⟩

theorem offerList_of_filled (h : s.shade.refilling = false) : offerList objs s = landList objs s :=
  if_neg (by rw [h]; decide)

end

/-- A shade list with nothing before it is rejected, waits for the end of a refill, or lands (R123, R124, R242). -/
theorem queueItem_shades {objs : List (BitVec 128)} {s : State} (hfirst : s.host.queue = []) (hno : recordsWait s = false) :
    (queueItem (.shades objs) s).host.queue = []
      ∧ (s.shade.source ≠ 0 ∨ (∃ o ∈ objs, shadeInvalid o = true) →
          (queueItem (.shades objs) s).shade = { s.shade with rejected := min (s.shade.rejected + 1) (2 ^ 32 - 1) }
          ∧ (queueItem (.shades objs) s).host.irq = s.host.irq ||| 64)
      ∧ (s.shade.source = 0 → (∀ o ∈ objs, shadeInvalid o = false) → s.shade.refilling = true →
          (queueItem (.shades objs) s).shade.staged = s.shade.staged
          ∧ (queueItem (.shades objs) s).shade.waiting = some (objs.map keptObject))
      ∧ (s.shade.source = 0 → (∀ o ∈ objs, shadeInvalid o = false) → s.shade.refilling = false →
          let h := (queueItem (.shades objs) s).shade
          h.staged = objs.map keptObject ∧ h.written = true ∧ h.freshAt = dtNow s ∧ h.armed = true ∧ h.stale = false
          ∧ h.swapRequested = (s.shade.swapRequested || cfg s 0x3300 0x0D == 0)) := by
  have hacts : queueItem (.shades objs) s = onHost (fun h => { h with queue := [] })
      (shadeList objs (onHost (fun h => { h with queue := [.shades objs] }) s)) := queueItem_of_empty hfirst hno
  rw [hacts]
  refine ⟨rfl, fun hbad => ?_, fun hsource hvalid hrefill => ?_, fun hsource hvalid hrefill => ?_⟩
  · rw [shadeList_of_rejected (s := onHost _ s) hbad]
    exact ⟨rfl, rfl⟩
  · rw [shadeList_of_good (s := onHost _ s) hsource hvalid]
    exact offerList_of_refilling (s := onHost _ s) hrefill
  · rw [shadeList_of_good (s := onHost _ s) hsource hvalid, offerList_of_filled (s := onHost _ s) hrefill]
    intro h
    rw [show h = _ from landList_shade _ _]
    exact ⟨rfl, rfl, rfl, rfl, rfl, rfl⟩

/-! ## Commits, object writes and shade lists -/

section

variable {s : State} {lane : Nat} {packet : RxPacket} (hlink : isOn s .link = true) (hlane : (hostLane s lane).state = 1)
  (hnew : (hostLane s lane).lastSeq ≠ some (BitVec.ofNat 16 (hdrSequence packet.header)))
  (hbound : lane < s.host.lanes.length) (hcontrol : onControlLane s lane packet = true)
include hlink hlane hnew hbound hcontrol

/-- An accepted commit (R242). -/
theorem uhlManifestCommit_accepted (hgood : uhlGood packet 3 24 = true) (hempty : packet.payload = []) :
    ∃ t, exec (.uhlManifestCommit lane packet) s = .next t
      ∧ (hostLane t lane).lastSeq = some (BitVec.ofNat 16 (hdrSequence packet.header))
      ∧ (s.host.queue = [] → recordsWait s = false →
          t.manifest.pending = (s.manifest.pending || (isOn s .pix && !manifestFrozen s)) ∧ t.host.queue = [])
      ∧ (recordsWait s = true ∨ (∃ n bs q, s.host.queue = .odWrite n bs :: q) →
          t.manifest = s.manifest ∧ t.host.queue = s.host.queue ++ [.commit]) := by
  obtain ⟨u, hu, hbeside, hseq⟩ := receiveUhl_arrives (queueItem .commit) hlink hlane (fun _ => hcontrol) hnew hbound
  have hwhole : (uhlGood packet 3 24 && packet.payload.isEmpty) = true := by simp [hgood, hempty]
  have hqueue : u.host.queue = s.host.queue := (congrArg (fun x : State => x.host.queue) hbeside :)
  have hwait : recordsWait u = recordsWait s := (congrArg recordsWait hbeside :)
  have hmanifest : u.manifest = s.manifest := (congrArg State.manifest hbeside :)
  have hfrozen : manifestFrozen u = manifestFrozen s := (congrArg manifestFrozen hbeside :)
  have hpix : isOn u .pix = isOn s .pix := (congrArg (isOn · .pix) hbeside :)
  refine ⟨queueItem .commit u, congrArg Host.Outcome.next ?_, ?_, fun hfirst hno => ?_, fun hbehind => ?_⟩
  · rw [hwhole]
    exact hu
  · have hlanes : (queueItem .commit u).host.lanes = u.host.lanes := (congrArg (·.1.lanes) (queueItem_besideQueue _ u) :)
    rw [hostLane, hlanes]
    exact hseq
  · rw [queueItem_of_empty (hqueue.trans hfirst) (hwait.trans hno)]
    refine ⟨?_, rfl⟩
    rw [← hmanifest, ← hpix, ← hfrozen]
    exact (congrArg (fun x : State => x.manifest.pending) (requestCommit_eq _) :)
  · rw [← hwait, ← hqueue] at hbehind
    rw [queueItem_of_waiting hbehind, ← hqueue]
    exact ⟨hmanifest, rfl⟩

/-- An accepted OD_WRITE waits in the queue, or finds the CP booting or the queue full (R243, R244). -/
theorem uhlOdWrite_accepted {n : Nat} (hn : n = bitsOf (uhlField packet) 16 8) (hgood : uhlGood packet 4 16 = true)
    (hone : 1 ≤ n) (hlow : 6 ≤ packet.payload.length) (hhigh : packet.payload.length ≤ 8192)
    (hrecords : (recordsOf n packet.payload).isSome = true) :
    ∃ t, exec (.uhlOdWrite lane packet) s = .next t
      ∧ (cpReady s = true → queuedWrites s < 8 → t.host.queue = s.host.queue ++ [.odWrite n packet.payload]
          ∧ t.host.odDiscards = s.host.odDiscards)
      ∧ (cpReady s = false ∨ queuedWrites s ≥ 8 → t.host.queue = s.host.queue
          ∧ t.host.odDiscards = min (s.host.odDiscards + 1) (2 ^ 32 - 1)) := by
  subst hn
  have hwhole : (uhlGood packet 4 16 && decide (1 ≤ bitsOf (uhlField packet) 16 8)
      && decide (6 ≤ packet.payload.length) && decide (packet.payload.length ≤ 8192)
      && (recordsOf (bitsOf (uhlField packet) 16 8) packet.payload).isSome) = true := by
    simp [hgood, hone, hlow, hhigh, hrecords]
  obtain ⟨u, hu, hbeside, -⟩ := receiveUhl_arrives (fun s => if !cpReady s || decide (8 ≤ queuedWrites s)
      then discardRecords s
      else onHost (fun h => { h with queue := h.queue ++ [.odWrite (bitsOf (uhlField packet) 16 8) packet.payload] }) s)
    hlink hlane (fun _ => hcontrol) hnew hbound
  have hready : cpReady u = cpReady s := (congrArg cpReady hbeside :)
  have hwrites : queuedWrites u = queuedWrites s := (congrArg queuedWrites hbeside :)
  have hqueue : u.host.queue = s.host.queue := (congrArg (fun x : State => x.host.queue) hbeside :)
  have hdiscards : u.host.odDiscards = s.host.odDiscards := (congrArg (fun x : State => x.host.odDiscards) hbeside :)
  rw [hready, hwrites] at hu
  rw [← hqueue, ← hdiscards]
  refine ⟨_, congrArg Host.Outcome.next ((congrArg (receiveUhl lane packet true · _ s) hwhole).trans hu),
    fun hcp hroom => ?_, fun hfull => ?_⟩
  · rw [if_neg (by simp [hcp, hroom])]
    exact ⟨rfl, rfl⟩
  · rw [if_pos (by simpa using hfull)]
    exact ⟨rfl, rfl⟩


/-- An accepted shade list is rejected, waits, or lands in the staged bank (R119, R120, R123, R124, R128, R242). -/
theorem uhlShadeList_accepted {n : Nat} (hn : n = bitsOf (uhlField packet) 17 7) (hgood : uhlGood packet 2 17 = true)
    (hmost : n ≤ 64) (hlength : packet.payload.length = 16 * n) :
    ∃ t, exec (.uhlShadeList lane packet) s = .next t
      ∧ (recordsWait s = true ∨ (∃ n bs q, s.host.queue = .odWrite n bs :: q) →
          t.shade = s.shade ∧ t.host.queue = s.host.queue ++ [.shades (objectsOf n packet.payload)])
      ∧ (s.host.queue = [] → recordsWait s = false → t.host.queue = []
          ∧ (s.shade.source ≠ 0 ∨ (∃ o ∈ objectsOf n packet.payload, shadeInvalid o = true) →
              t.shade = { s.shade with rejected := min (s.shade.rejected + 1) (2 ^ 32 - 1) }
              ∧ t.host.irq = s.host.irq ||| 64)
          ∧ (s.shade.source = 0 → (∀ o ∈ objectsOf n packet.payload, shadeInvalid o = false) → s.shade.refilling = true →
              t.shade.staged = s.shade.staged
                ∧ t.shade.waiting = some ((objectsOf n packet.payload).map keptObject))
          ∧ (s.shade.source = 0 → (∀ o ∈ objectsOf n packet.payload, shadeInvalid o = false) → s.shade.refilling = false →
              t.shade.staged = (objectsOf n packet.payload).map keptObject ∧ t.shade.written = true
              ∧ t.shade.freshAt = dtNow s ∧ t.shade.armed = true ∧ t.shade.stale = false
              ∧ t.shade.swapRequested = (s.shade.swapRequested || cfg s 0x3300 0x0D == 0))) := by
  have hwhole : (uhlGood packet 2 17 && decide (bitsOf (uhlField packet) 17 7 ≤ 64)
      && packet.payload.length == 16 * bitsOf (uhlField packet) 17 7) = true := by simp [hgood, ← hn, hmost, hlength]
  obtain ⟨u, hu, hbeside, -⟩ := receiveUhl_arrives (queueItem (.shades (objectsOf n packet.payload))) hlink hlane
    (fun _ => hcontrol) hnew hbound
  have hexec : exec (.uhlShadeList lane packet) s = .next (queueItem (.shades (objectsOf n packet.payload)) u) := by
    subst hn
    exact congrArg Host.Outcome.next ((congrArg (receiveUhl lane packet true · _ s) hwhole).trans hu)
  have hqueue : u.host.queue = s.host.queue := (congrArg (fun x : State => x.host.queue) hbeside :)
  have hirq : u.host.irq = s.host.irq := (congrArg (fun x : State => x.host.irq) hbeside :)
  have hwait : recordsWait u = recordsWait s := (congrArg recordsWait hbeside :)
  have hshade : u.shade = s.shade := (congrArg State.shade hbeside :)
  have hnow : dtNow u = dtNow s := (congrArg dtNow hbeside :)
  have hcfg : cfg u = cfg s := (congrArg cfg hbeside :)
  rw [← hqueue, ← hirq, ← hwait, ← hshade, ← hnow, ← hcfg]
  refine ⟨_, hexec, fun hbehind => ?_, fun hfirst hno => ?_⟩
  · rw [queueItem_of_waiting hbehind]
    exact ⟨rfl, rfl⟩
  · exact queueItem_shades hfirst hno

end

/-! ## Lines of a picture (R236, R238, R240) -/

section

variable {s : State} {k f n picture : Nat} {payload : List Byte}

theorem streamOf_discardPicture (k s) : streamOf (discardPicture k s) k = { streamOf s k with
    discarded := true, lines := [], discards := min ((streamOf s k).discards + 1) (2 ^ 32 - 1) } :=
  streamOf_onStream_self (s := s) rfl k _

theorem takeLine_of_discarded (h : (streamOf s k).discarded = true) : takeLine k f n payload s = s :=
  if_pos (by simp [h])

/-- A line joins the lines held when its tile row is at most the one after the first incomplete one (R238). -/
theorem takeLine_joins (hkept : (streamOf s k).discarded = false) (hopen : (streamOf s k).complete = false)
    (hnew : lineTaken (streamOf s k) n = false)
    (hnear : n / 32 < ((List.range (tileRows s f)).find? fun t => !rowComplete s f (streamOf s k) t).getD 0 + 2) :
    takeLine k f n payload s = onStream k (fun x => { x with lines := putEntry n payload x.lines }) s := by
  rw [takeLine]
  dsimp only
  rw [if_neg (by simp [hkept, hopen, hnew]), if_neg (Nat.not_le.2 hnear)]

/-- The stream at the first line of a picture that has found the buffer `b` (R238, R240). -/
theorem streamOf_beginPicture {b : Nat} (h : freeBuffer s f = some b) :
    streamOf (beginPicture k f picture s) k = { idleStream (streamOf s k) with picture := some picture, buffer := b } := by
  have hbegin : beginPicture k f picture s = onStream k
      (fun x => { idleStream x with picture := some picture, buffer := (freeBuffer s f).getD 0 }) s :=
    if_neg (by simp [h])
  rw [hbegin, streamOf_onStream_self rfl, h]
  rfl

variable (hinside : n < surfaceValue s f 3)
include hinside

/-- The first line of a picture opens a free buffer, and it is held (R238, R240). -/
theorem videoLine_opens {b : Nat} (hnone : (streamOf s k).picture = none) (hfree : freeBuffer s f = some b) (hn : n < 64) :
    streamOf (videoLine k f n picture payload s) k
      = { idleStream (streamOf s k) with picture := some picture, buffer := b, lines := [(n, payload)] } := by
  have hstream := streamOf_beginPicture (k := k) (picture := picture) hfree
  rw [videoLine, if_neg (Nat.not_le.2 hinside), hnone]
  dsimp only
  rw [takeLine_joins (by rw [hstream]; rfl) (by rw [hstream]; rfl) (by rw [hstream]; simp [lineTaken, idleStream]) (by omega),
    streamOf_onStream_self rfl, hstream]
  rfl

/-- A picture that finds no free buffer is discarded (R240). -/
theorem videoLine_withoutBuffer (hnone : (streamOf s k).picture = none) (hfull : freeBuffer s f = none) :
    (streamOf (videoLine k f n picture payload s) k).discarded = true
      ∧ (streamOf (videoLine k f n picture payload s) k).discards = min ((streamOf s k).discards + 1) (2 ^ 32 - 1) := by
  have hbegin : beginPicture k f picture s = discardPicture k (onStream k
      (fun x => { idleStream x with picture := some picture, buffer := (freeBuffer s f).getD 0 }) s) := by
    rw [beginPicture, if_pos (by rw [hfull]; rfl)]
  have hstream := streamOf_discardPicture k (onStream k
    (fun x => { idleStream x with picture := some picture, buffer := (freeBuffer s f).getD 0 }) s)
  rw [← hbegin, streamOf_onStream_self rfl] at hstream
  rw [videoLine, if_neg (Nat.not_le.2 hinside), hnone]
  dsimp only
  rw [takeLine_of_discarded (by rw [hstream]), hstream]
  exact ⟨rfl, rfl⟩

/-- A further line of the picture in progress joins it (R238). -/
theorem videoLine_joins {i : Nat} (hpicture : (streamOf s k).picture = some picture)
    (hkept : (streamOf s k).discarded = false) (hopen : (streamOf s k).complete = false)
    (hnew : lineTaken (streamOf s k) n = false) (hnear : i + 1 ≥ n / 32) (hrow : i < tileRows s f)
    (hmissing : rowComplete s f (streamOf s k) i = false) (hbefore : ∀ j < i, rowComplete s f (streamOf s k) j = true) :
    (streamOf (videoLine k f n picture payload s) k).lines = putEntry n payload (streamOf s k).lines := by
  have hfirst : (List.range (tileRows s f)).find? (fun t => !rowComplete s f (streamOf s k) t) = some i :=
    List.find?_range_eq_some.2 ⟨by simp [hmissing], List.mem_range.2 hrow, fun j hj => by simp [hbefore j hj]⟩
  rw [videoLine, if_neg (Nat.not_le.2 hinside), hpicture]
  dsimp only
  rw [if_pos (by rw [Nat.add_sub_cancel_left]),
    takeLine_joins hkept hopen hnew (by rw [hfirst, Option.getD_some]; omega), streamOf_onStream_self rfl]

/-- A line of a picture more than 7 ahead is late and changes nothing (R238). -/
theorem videoLine_late {q : Nat} (hpicture : (streamOf s k).picture = some q) (hlate : (picture + 16 - q) % 16 ≥ 8) :
    videoLine k f n picture payload s = s := by
  rw [videoLine, if_neg (Nat.not_le.2 hinside), hpicture]
  dsimp only
  rw [if_neg (by omega), if_neg (by omega)]

end

/-- An accepted line of a bound stream (R234, R236 to R238, R240). -/
theorem uhlVideoLine_accepted {s : State} {lane : Nat} {packet : RxPacket} {n f : Nat} (hlink : isOn s .link = true)
    (hlane : (hostLane s lane).state = 1)
    (hnew : (hostLane s lane).lastSeq ≠ some (BitVec.ofNat 16 (hdrSequence packet.header)))
    (hbound : lane < s.host.lanes.length) (hn : n = bitsOf (uhlField packet) 23 1) (hgood : uhlGood packet 1 9 = true)
    (hsurface : streamSurface s n = some f) (hlength : packet.payload.length = lineBytes s f) :
    ∃ u, exec (.uhlVideoLine lane packet) s = .next
        (videoLine n f (bitsOf (uhlField packet) 13 10) (bitsOf (uhlField packet) 9 4) packet.payload u)
      ∧ besideArrival u = besideArrival s := by
  subst hn
  have hwhole : (uhlGood packet 1 9 && packet.payload.length == lineBytes s f) = true := by simp [hgood, hlength]
  obtain ⟨u, hu, hbeside, -⟩ := receiveUhl_arrives (videoLine (bitsOf (uhlField packet) 23 1) f
    (bitsOf (uhlField packet) 13 10) (bitsOf (uhlField packet) 9 4) packet.payload) hlink hlane (control := false)
    (fun h => by simp at h) hnew hbound
  refine ⟨u, ?_, hbeside⟩
  show execUhlVideoLine lane packet s = _
  simp only [execUhlVideoLine, hsurface]
  exact congrArg Host.Outcome.next ((congrArg (receiveUhl lane packet false · _ s) hwhole).trans hu)

/-! ## Object writes that are applied (R242 to R244) -/

theorem execOdWriteApply_waits {s : State} (h : cpReady s = false ∨ recordsWait s = true) :
    exec .odWriteApply s = .next s := by
  refine congrArg Host.Outcome.next ?_
  split
  · exact if_pos (by simpa using h)
  · rfl

/-- The record of a packet of one: a refusal is recorded (R244). -/
theorem applyUhlRecord_answered {r : Nat × Nat × List Byte} {s u : State} {n st : Nat}
    (h : writeObject { via := .uhl n, index := r.1, sub := r.2.1, last := true } r.1 r.2.1 r.2.2 s = (some st, u)) :
    (applyUhlRecord n r (s, false)).1 = if st = 0 then u else recordRefusal n r.1 r.2.1 st u := by
  rw [applyUhlRecord]
  simp only [Bool.not_false, h, Bool.false_eq_true, or_false, stOk]
  split <;> rfl

theorem quietRecords_host (s) : (quietRecords s).host = s.host := rfl

theorem setIrq_host (bit s) : (setIrq bit s).host = { s.host with irq := s.host.irq ||| BitVec.ofNat 32 (2 ^ bit) } := rfl

theorem setOdStatus_host (status object s) :
    (setOdStatus status object s).host = { s.host with odStatus := status, odObject := object } := rfl

theorem recordRefusal_host (n index sub st u) : (recordRefusal n index sub st u).host = { u.host with
    odStatus := BitVec.ofNat 32 (st * 2 ^ 24 + n * 2 ^ 16), odObject := BitVec.ofNat 32 (index * 2 ^ 8 + sub)
    irq := u.host.irq ||| BitVec.ofNat 32 (2 ^ 1) } := by
  rw [recordRefusal, quietRecords_host, setIrq_host, setOdStatus_host]

theorem recordRefusal_dict (n index sub st u) : (recordRefusal n index sub st u).dict = u.dict := by
  have hquiet : ∀ s, (quietRecords s).dict = s.dict := fun _ => rfl
  have hirq : ∀ bit s, (setIrq bit s).dict = s.dict := fun _ _ => rfl
  have hstatus : ∀ status object s, (setOdStatus status object s).dict = s.dict := fun _ _ _ => rfl
  rw [recordRefusal, hquiet, hirq, hstatus]

/-- What a refusal leaves in the host ports is still there when the queue has gone on (R244). -/
theorem runQueue_recordRefusal (n index sub st u) :
    (runQueue (recordRefusal n index sub st u)).host.odStatus = BitVec.ofNat 32 (st * 2 ^ 24 + n * 2 ^ 16)
      ∧ (runQueue (recordRefusal n index sub st u)).host.odObject = BitVec.ofNat 32 (index * 2 ^ 8 + sub)
      ∧ (runQueue (recordRefusal n index sub st u)).host.irq.getLsbD 1 = true := by
  have hbeside := runQueue_besideQueue (recordRefusal n index sub st u)
  generalize runQueue (recordRefusal n index sub st u) = t at hbeside
  simp only [besideQueue, recordRefusal_host, Prod.mk.injEq, HostPorts.mk.injEq] at hbeside
  obtain ⟨⟨-, -, -, -, -, -, hstatus, hobject, -⟩, hirq⟩ := hbeside
  refine ⟨hstatus, hobject, hirq.trans ?_⟩
  rw [BitVec.getLsbD_or, show (BitVec.ofNat 32 (2 ^ 1)).getLsbD 1 = true from by decide, Bool.or_true]

/-- The CP applies a packet of one record (R242, R244). -/
theorem odWriteApply_one {s : State} {n : Nat} {payload q r st u} (hqueue : s.host.queue = .odWrite n payload :: q)
    (hready : cpReady s = true) (hwait : recordsWait s = false) (hrecord : recordsOf n payload = some [r])
    (hwrite : writeObject { via := .uhl 0, index := r.1, sub := r.2.1, last := true } r.1 r.2.1 r.2.2
      { s with host := { s.host with queue := q } } = (some st, u)) :
    exec .odWriteApply s = .next (runQueue (if st = 0 then u else recordRefusal 0 r.1 r.2.1 st u)) := by
  show execOdWriteApply s = _
  have happlied : applyUhlRecords 0 [r] (onHost (fun h => { h with queue := q }) s, false)
      = applyUhlRecord 0 r (onHost (fun h => { h with queue := q }) s, false) := rfl
  simp only [execOdWriteApply, hqueue, hready, hwait, hrecord, Option.getD_some, happlied]
  rw [onHost, applyUhlRecord_answered hwrite]
  rfl

/-- A packet of one record leaves its refusal, and with nothing behind it no more (R243, R244). -/
theorem odWriteApply_settles {s : State} {n : Nat} {payload q r st u} (hqueue : s.host.queue = .odWrite n payload :: q)
    (hready : cpReady s = true) (hwait : recordsWait s = false) (hrecord : recordsOf n payload = some [r])
    (hwrite : writeObject { via := .uhl 0, index := r.1, sub := r.2.1, last := true } r.1 r.2.1 r.2.2
      { s with host := { s.host with queue := q } } = (some st, u)) :
    ∃ t, exec .odWriteApply s = .next t
      ∧ (st ≠ 0 → t.host.odStatus = BitVec.ofNat 32 (st * 2 ^ 24)
          ∧ t.host.odObject = BitVec.ofNat 32 (r.1 * 2 ^ 8 + r.2.1) ∧ t.host.irq.getLsbD 1 = true)
      ∧ (u.host.queue = [] → (st = 0 → t = u) ∧ (st ≠ 0 → t.dict = u.dict ∧ t.host.irq = u.host.irq ||| 2)) := by
  refine ⟨_, odWriteApply_one hqueue hready hwait hrecord hwrite, fun hrefused => ?_,
    fun hempty => ⟨fun hok => ?_, fun hrefused => ?_⟩⟩
  · have hleft := runQueue_recordRefusal 0 r.1 r.2.1 st u
    rw [Nat.zero_mul, Nat.add_zero] at hleft
    rwa [if_neg hrefused]
  · rw [if_pos hok]
    exact runQueue_of_empty hempty
  · have hqueue' : (recordRefusal 0 r.1 r.2.1 st u).host.queue = [] := by rw [recordRefusal_host, hempty]
    rw [if_neg hrefused, runQueue_of_empty hqueue', recordRefusal_host]
    exact ⟨recordRefusal_dict 0 r.1 r.2.1 st u, rfl⟩

/-- Settles O35: each packet is judged by its lane, and an accepted one acts as the lemmas above say. -/
theorem uhlPacketsAreReceived : Obligations.UhlPacketsAreReceived := by
  refine ⟨fun s lane k fr c hc => ?_, fun s lane k ⟨hlink, hlane⟩ hgood hempty => ?_,
    fun s lane k n hn hcontrol ⟨hlink, hlane, hnew, hbound⟩ hgood hone hlow hhigh hrecords =>
      uhlOdWrite_accepted hlink hlane hnew hbound hcontrol hn hgood hone hlow hhigh hrecords,
    fun s lane k n hn hcontrol ⟨hlink, hlane, hnew, hbound⟩ hgood hmost hlength =>
      uhlShadeList_accepted hlink hlane hnew hbound hcontrol hn hgood hmost hlength,
    fun s lane k f => ?_,
    fun s h => execOdWriteApply_waits h,
    fun s n payload q r st u hqueue hready hwait hrecord hwrite =>
      odWriteApply_settles hqueue hready hwait hrecord hwrite⟩
  case refine_1 =>
    obtain ⟨control, good, act, hexec, hbad⟩ := exec_receivesUhl s hc
    rw [hexec]
    exact ⟨fun hclosed => congrArg Host.Outcome.next (receiveUhl_of_closed hclosed), fun ⟨hlink, hlane⟩ hdamaged =>
      congrArg Host.Outcome.next (receiveUhl_of_bad hlink hlane (hbad hdamaged))⟩
  case refine_2 =>
    have hcode := codeErrors_of_uhlGood hgood
    have hexec : exec (.uhlManifestCommit lane k) s = .next (receiveUhl lane k true true (queueItem .commit) s) :=
      congrArg (fun good => Host.Outcome.next (receiveUhl lane k true good (queueItem .commit) s))
        (show (uhlGood k 3 24 && k.payload.isEmpty) = true by simp [hgood, hempty])
    refine ⟨fun hcontrol => ?_, fun hcontrol hseq => ?_, fun hcontrol ⟨_, _, hnew, hbound⟩ =>
      uhlManifestCommit_accepted hlink hlane hnew hbound hcontrol hgood hempty⟩
    · exact hexec.trans (congrArg Host.Outcome.next (receiveUhl_of_misrouted hlink hlane hcode hcontrol))
    · exact hexec.trans (congrArg Host.Outcome.next (receiveUhl_of_duplicate hlink hlane hcode hcontrol hseq))
  case refine_3 =>
    intro h n ⟨hlink, hlane, hnew, hbound⟩ hgood hsurface hlength hinside
    obtain ⟨u, hexec, hbeside⟩ := uhlVideoLine_accepted hlink hlane hnew hbound rfl hgood hsurface hlength
    have hstream : streamOf s n = streamOf u n := (congrArg (streamOf · n) hbeside.symm :)
    have hvalue : surfaceValue s = surfaceValue u := (congrArg surfaceValue hbeside.symm :)
    have hfree : freeBuffer s f = freeBuffer u f := (congrArg (freeBuffer · f) hbeside.symm :)
    have hrows : tileRows s f = tileRows u f := (congrArg (tileRows · f) hbeside.symm :)
    have hcomplete : rowComplete s f = rowComplete u f := (congrArg (rowComplete · f) hbeside.symm :)
    rw [hvalue] at hinside
    rw [hstream, hfree, hrows, hcomplete]
    refine ⟨_, hexec, fun b hnone hbuffer hn => ?_, fun hnone hfull => videoLine_withoutBuffer hinside hnone hfull,
      fun hpicture hkept hopen hline ⟨i, _, hnear, hrow, hmissing, hbefore⟩ =>
        videoLine_joins hinside hpicture hkept hopen hline hnear hrow hmissing hbefore,
      fun q hpicture hlate => by rw [videoLine_late hinside hpicture hlate]⟩
    rw [videoLine_opens hinside hnone hbuffer hn]
    exact ⟨rfl, rfl, rfl, rfl⟩

end Sys2Proof.Laws
end

section
/-!
The dither matrix and the thresholds that the pixels of a port meet (R163).
-/

namespace Sys2Proof.Laws

open Sys2Proof Sys2Proof.Machine

/-! ## The matrix -/

theorem putAt_perm (x : Nat) : ∀ (i : Nat) (xs : List Nat), (putAt i x xs).Perm (x :: xs)
  | _, [] => by rw [putAt]
  | 0, _ :: _ => .refl _
  | i + 1, y :: ys => ((putAt_perm x i ys).cons y).trans (.swap x y ys)

/-- Wherever the part puts them, the first `n` values stand in the matrix once each. -/
theorem ditherList_perm : ∀ n, (ditherList n).Perm (List.range n)
  | 0 => .refl _
  | n + 1 => by
    rw [List.range_succ]
    exact (putAt_perm n _ _).trans (((ditherList_perm n).cons n).trans (List.perm_append_singleton n _).symm)

theorem ditherList_length (n : Nat) : (ditherList n).length = n :=
  (ditherList_perm n).length_eq.trans List.length_range

theorem ditherList_lt {n x : Nat} (hx : x ∈ ditherList n) : x < n :=
  List.mem_range.1 ((ditherList_perm n).mem_iff.1 hx)

theorem ditherEntry_eq {i : Nat} (hi : i < (ditherList 4096).length) : ditherEntry i = (ditherList 4096)[i] := by
  simp [ditherEntry, nth, List.getD_eq_getElem?_getD, hi]

/-- The entries of the matrix in raster order are its list. -/
theorem map_ditherEntry : (List.range 4096).map ditherEntry = ditherList 4096 := by
  refine List.ext_getElem (by rw [List.length_map, List.length_range, ditherList_length]) fun i _ hi => ?_
  rw [List.getElem_map, List.getElem_range, ditherEntry_eq hi]

theorem map_ditherEntry_perm : ((List.range 4096).map ditherEntry).Perm (List.range 4096) :=
  map_ditherEntry ▸ ditherList_perm 4096

/-- The dictionary reads the matrix as its packed list (R163). -/
theorem objectValue_ditherMatrix (s : State) {o : ObjectRow} (hobject : objectAt 0x4000 2 = some o) :
    objectValue s o 0x4000 2 = packLe 16 (ditherList 4096) := by
  have hro : o.access = .ro := by
    have h : (objectAt 0x4000 2).map (·.access) = some .ro := by decide
    rw [hobject] at h
    exact Option.some.inj h
  have hport : portOfIndex 0x4000 = none := rfl
  have hplain : inManifest 0x4000 = false := rfl
  rw [objectValue, hport]
  simp [presentValue, hplain, hro, readOnly, hport, readDrive]

/-- Half-word `i` of the object is entry `i` of the matrix. -/
theorem half_of_packed_dither {i : Nat} (hi : i < 4096) :
    packLe 16 (ditherList 4096) / 2 ^ (16 * i) % 2 ^ 16 = ditherEntry i := by
  have hlen : i < (ditherList 4096).length := by rwa [ditherList_length]
  rw [ditherEntry_eq hlen, Nat.mul_comm, ← bitsOf_eq]
  exact bitsOf_packLe 16 _ i hlen fun x hx => Nat.lt_trans (ditherList_lt hx) (by decide)

/-! ## The thresholds of a pixel -/

/-- A map of the first `n` numbers into themselves that keeps them apart reorders them. -/
theorem map_range_perm {n : Nat} {f : Nat → Nat} (hlt : ∀ k < n, f k < n)
    (hinj : ∀ j < n, ∀ k < n, f j = f k → j = k) : ((List.range n).map f).Perm (List.range n) := by
  have hnodup : ((List.range n).map f).Nodup := List.nodup_range.map_on fun j hj k hk =>
    hinj j (List.mem_range.1 hj) k (List.mem_range.1 hk)
  have hsub : (List.range n).map f ⊆ List.range n := fun x hx => by
    obtain ⟨k, hk, rfl⟩ := List.mem_map.1 hx
    exact List.mem_range.2 (hlt k (List.mem_range.1 hk))
  exact (List.subperm_of_subset hnodup hsub).perm_of_length_le (by rw [List.length_map])

/-- The entry of the matrix that a pixel takes as its threshold at a dither offset (R163). -/
def ditherPosition (p : Port) (c r o : Nat) : Nat := (r + o / 64) % 64 * 64 + (c + o % 64 + 16 * p.num) % 64

theorem ditherPosition_lt (p : Port) (c r o : Nat) : ditherPosition p c r o < 4096 := by
  unfold ditherPosition
  omega

/-- Two offsets below 4,096 take a pixel to two entries. -/
theorem ditherPosition_inj {p : Port} {c r o q : Nat} (ho : o < 4096) (hq : q < 4096)
    (h : ditherPosition p c r o = ditherPosition p c r q) : o = q := by
  unfold ditherPosition at h
  have hrow : (r + o / 64) % 64 = (r + q / 64) % 64 := by omega
  have hcol : (c + o % 64 + 16 * p.num) % 64 = (c + q % 64 + 16 * p.num) % 64 := by omega
  omega

theorem threshold_eq {s : State} (hmode : cfg s 0x4000 1 ≠ 1) (p : Port) (c r e : Nat) :
    threshold s p c r e = ditherEntry (ditherPosition p c r (ditherOffset s e)) := by
  rw [threshold, if_neg hmode]
  rfl

/-- The offset steps by 2,531 a frame while no window holds it (R163). -/
theorem ditherOffset_of_free {s : State} (hfree : guardEnabled s = false ∨ cfg s 0x4000 3 ≠ 1) (e : Nat) :
    ditherOffset s e = e * 2531 % 4096 :=
  if_neg (by rcases hfree with h | h <;> simp [h])

theorem ditherOffset_of_held {s : State} (hguard : guardEnabled s = true) (hhold : cfg s 0x4000 3 = 1) (e : Nat) :
    ditherOffset s e = 0 :=
  if_pos (by simp [hguard, hhold])

/-- 2,531 is odd, so 4,096 frames in a row take a pixel to each entry of the matrix once. -/
theorem frames_perm (p : Port) (c r e : Nat) :
    ((List.range 4096).map fun k => ditherPosition p c r ((e + k) * 2531 % 4096)).Perm (List.range 4096) :=
  map_range_perm (fun k _ => ditherPosition_lt p c r _) fun j hj k hk h => by
    have hoffset := ditherPosition_inj (Nat.mod_lt _ (by decide)) (Nat.mod_lt _ (by decide)) h
    omega

/-- In 4,096 frames in a row a pixel meets every threshold once. -/
theorem thresholds_perm {s : State} (hmode : cfg s 0x4000 1 ≠ 1) (hfree : guardEnabled s = false ∨ cfg s 0x4000 3 ≠ 1)
    (p : Port) (c r e : Nat) : ((List.range 4096).map fun k => threshold s p c r (e + k)).Perm (List.range 4096) := by
  have hentries : ((List.range 4096).map fun k => threshold s p c r (e + k))
      = ((List.range 4096).map fun k => ditherPosition p c r ((e + k) * 2531 % 4096)).map ditherEntry := by
    rw [List.map_map]
    exact List.map_congr_left fun k _ => by
      rw [threshold_eq hmode, ditherOffset_of_free hfree, Function.comp_apply]
  rw [hentries]
  exact ((frames_perm p c r e).map ditherEntry).trans map_ditherEntry_perm

/-- A held offset leaves a pixel's threshold as it is, in either mode. -/
theorem threshold_of_held {s : State} (hguard : guardEnabled s = true) (hhold : cfg s 0x4000 3 = 1) (p : Port)
    (c r e f : Nat) : threshold s p c r e = threshold s p c r f := by
  simp only [threshold, ditherOffset_of_held hguard hhold]

/-- Settles O58: the offset of R163 visits each entry of a matrix that holds each value once. -/
theorem ditherMeetsEveryThresholdOnce : Obligations.DitherMeetsEveryThresholdOnce :=
  ⟨map_ditherEntry_perm,
    fun s _ hobject _ hi => by rw [objectValue_ditherMatrix s hobject, half_of_packed_dither hi],
    fun _ p c r e hmode hfree _ _ => thresholds_perm hmode hfree p c r e,
    fun _ _ _ _ _ hmode => if_pos hmode,
    fun _ p c r e f hguard hhold => threshold_of_held hguard hhold p c r e f⟩

end Sys2Proof.Laws
end

section
/-!
The rules of the sink channels and groups (R398 to R414): what an operation on one of them leaves of the others, and what a
raise leaves of all of them.
-/

namespace Sys2Proof.Laws

open Sys2Proof Sys2Proof.Machine

/-! ## One place of a list -/

@[simp] theorem length_modifyAt {α : Type} (f : α → α) : ∀ (i : Nat) (xs : List α), (modifyAt f i xs).length = xs.length
  | _, [] => by rw [modifyAt]
  | 0, _ :: _ => rfl
  | i + 1, _ :: xs => congrArg (· + 1) (length_modifyAt f i xs)

theorem nth_modifyAt_of_ne {α : Type} (d : α) (f : α → α) : ∀ {xs : List α} {i j : Nat}, j ≠ i →
    nth d (modifyAt f i xs) j = nth d xs j
  | [], _, _, _ => by rw [modifyAt]
  | _ :: _, 0, 0, h => absurd rfl h
  | _ :: _, 0, _ + 1, _ => rfl
  | _ :: _, _ + 1, 0, _ => rfl
  | _ :: xs, _ + 1, _ + 1, h => nth_modifyAt_of_ne d f (xs := xs) fun he => h (congrArg (· + 1) he)

/-! ## Channels and groups -/

theorem sinkOf_onSink {c : Nat} {s : State} (f) (h : c < s.sinks.channels.length) :
    sinkOf (onSink c f s) c = f (sinkOf s c) := nth_modifyAt _ f h

theorem sinkOf_onSink_of_ne {c d : Nat} (f) (s : State) (h : d ≠ c) : sinkOf (onSink c f s) d = sinkOf s d :=
  nth_modifyAt_of_ne _ f h

theorem sinkGroup_onGroup {g : Nat} {s : State} (f) (h : g < s.sinks.groups.length) :
    sinkGroup (onGroup g f s) g = f (sinkGroup s g) := nth_modifyAt _ f h

theorem sinkGroup_onGroup_of_ne {g h : Nat} (f) (s : State) (hne : h ≠ g) :
    sinkGroup (onGroup g f s) h = sinkGroup s h := nth_modifyAt_of_ne _ f hne

theorem sinkOf_of_sinks {s t : State} (h : t.sinks = s.sinks) : sinkOf t = sinkOf s := by
  unfold sinkOf
  rw [h]

theorem sinkGroup_of_sinks {s t : State} (h : t.sinks = s.sinks) : sinkGroup t = sinkGroup s := by
  unfold sinkGroup
  rw [h]

theorem sinkAlive_iff {s : State} {c : Nat} :
    sinkAlive s c = true ↔ isOn s .aux = true ∧ c < 48 ∧ (sinkGroup s (groupOf c)).off = false := by
  simp [sinkAlive, and_assoc]

/-! ## What keeps a channel off (R408, R413) -/

theorem isDriven_of_short {s : State} {c : Nat} (h : (sinkOf s c).status = 2) : isDriven s c = false := by
  simp [isDriven, h]

theorem isDriven_of_off {s : State} {c : Nat} (h : (sinkGroup s (groupOf c)).off = true) : isDriven s c = false := by
  simp [isDriven, h]

theorem isDriven_of_resuming {s : State} {c : Nat} (h : (sinkGroup s (groupOf c)).resuming = true) :
    isDriven s c = false := by
  simp [isDriven, h]

/-! ## A raise beside the sinks -/

theorem sinks_of_only {s t : State} (h : Outside.faultParts t = Outside.faultParts s) : t.sinks = s.sinks :=
  (congrArg State.sinks h :)

/-- An event kind raised after a change of the sinks. -/
theorem noted_sinks {k u : Nat} (i : RaiseInfo) (x : Sinks) (s : State) (hu : unitOf k i.port = u)
    (hkind : isStateKind k = false) (hbit : kindBit u k < 16) : Noted k u
      { s with sinks := (raiseKind k i { s with sinks := x }).sinks } (raiseKind k i { s with sinks := x }) := by
  rw [sinks_of_only (raiseKind_only k i _)]
  subst hu
  exact raiseKind_noted k i { s with sinks := x } hkind hbit

/-- A state kind raised after a change of the sinks. -/
theorem raised_sinks {k u : Nat} (i : RaiseInfo) (x : Sinks) (s : State) (hu : unitOf k i.port = u)
    (hkind : isStateKind k = true) : Raised k u
      { s with sinks := (raiseKind k i { s with sinks := x }).sinks } (raiseKind k i { s with sinks := x }) := by
  rw [sinks_of_only (raiseKind_only k i _)]
  subst hu
  exact raiseKind_raised k i { s with sinks := x } hkind

/-! ## Operations on the channels of a group, one after the other -/

/-- The operation changes its own channel only. -/
def ChangesOwnChannel (f : State → Nat → State) : Prop :=
  ∀ s c, (f s c).sinks.channels.length = s.sinks.channels.length ∧ ∀ d, d ≠ c → sinkOf (f s c) d = sinkOf s d

theorem onSink_changesOwnChannel (f : Nat → Sink → Sink) : ChangesOwnChannel fun s c => onSink c (f c) s :=
  fun s c => ⟨length_modifyAt (f c) c _, fun _ hne => sinkOf_onSink_of_ne (f c) s hne⟩

/-- What the sinks hold beside their channels. -/
def besideChannels (s : State) : Sinks := { s.sinks with channels := [] }

theorem beside_fields {s t : State} (h : besideChannels t = besideChannels s) : t.sinks.groups = s.sinks.groups
    ∧ t.sinks.restored = s.sinks.restored ∧ t.sinks.applied = s.sinks.applied :=
  ⟨(congrArg Sinks.groups h :), (congrArg Sinks.restored h :), (congrArg Sinks.applied h :)⟩

/-- What a fold of changes of one channel each leaves: all but the channels. -/
theorem foldl_onSink_frame (f : Nat → Sink → Sink) (cs : List Nat) (s : State) :
    Outside.sinks (cs.foldl (fun t c => onSink c (f c) t) s) = Outside.sinks s :=
  foldl_keeps Outside.sinks (fun t c => onSink_frame c (f c) t) cs s

theorem foldl_onSink_beside (f : Nat → Sink → Sink) (cs : List Nat) (s : State) :
    besideChannels (cs.foldl (fun t c => onSink c (f c) t) s) = besideChannels s :=
  foldl_keeps besideChannels (g := fun t c => onSink c (f c) t) (fun _ _ => rfl) cs s

theorem foldl_recalibrate_frame (cs : List Nat) (s : State) :
    Outside.freeSinks (cs.foldl recalibrate s) = Outside.freeSinks s :=
  foldl_keeps Outside.freeSinks recalibrate_frame cs s

theorem foldl_recalibrate_beside (cs : List Nat) (s : State) :
    besideChannels (cs.foldl recalibrate s) = besideChannels s :=
  foldl_keeps besideChannels (g := recalibrate) (fun _ _ => rfl) cs s

theorem length_foldl_channels {f : State → Nat → State} (hf : ChangesOwnChannel f) (cs : List Nat) (s : State) :
    (cs.foldl f s).sinks.channels.length = s.sinks.channels.length :=
  foldl_keeps (fun t : State => t.sinks.channels.length) (fun t c => (hf t c).1) cs s

theorem sinkOf_foldl_of_notMem {f : State → Nat → State} (hf : ChangesOwnChannel f) {cs : List Nat} {c : Nat}
    (hc : c ∉ cs) (s : State) : sinkOf (cs.foldl f s) c = sinkOf s c := by
  induction cs generalizing s with
  | nil => rfl
  | cons d cs ih =>
    obtain ⟨hne, hrest⟩ := not_or.1 (mt List.mem_cons.2 hc)
    rw [List.foldl_cons, ih hrest, (hf s d).2 c hne]

/-- A channel of the list is changed once, in a state that holds it as it was. -/
theorem sinkOf_foldl_of_mem {f : State → Nat → State} (hf : ChangesOwnChannel f) {cs : List Nat} (hnodup : cs.Nodup)
    {c : Nat} (hc : c ∈ cs) (s : State) : ∃ t, t.sinks.channels.length = s.sinks.channels.length
      ∧ sinkOf t c = sinkOf s c ∧ sinkOf (cs.foldl f s) c = sinkOf (f t c) c := by
  induction cs generalizing s with
  | nil => exact absurd hc List.not_mem_nil
  | cons d cs ih =>
    obtain ⟨hd, hrest⟩ := List.nodup_cons.1 hnodup
    rw [List.foldl_cons]
    rcases List.mem_cons.1 hc with rfl | hmem
    · exact ⟨s, rfl, rfl, sinkOf_foldl_of_notMem hf hd _⟩
    · obtain ⟨t, hlength, hsame, hlast⟩ := ih hrest hmem (f s d)
      exact ⟨t, hlength.trans (hf s d).1, hsame.trans ((hf s d).2 c fun he => hd (he ▸ hmem)), hlast⟩

theorem mem_groupChannels {g c : Nat} : c ∈ groupChannels g ↔ c / 12 = g := by
  simp only [groupChannels, List.mem_map, List.mem_range]
  exact ⟨fun ⟨a, ha, h⟩ => by omega, fun h => ⟨c % 12, by omega, by omega⟩⟩

theorem groupChannels_nodup (g : Nat) : (groupChannels g).Nodup :=
  List.nodup_range.map fun _ _ h => Nat.add_left_cancel h

end Sys2Proof.Laws
end

section
/-!
The sink channels at a period boundary, their probes and tests, the headroom cycle, and the shutdown and restart of a group
(R176, R398 to R414).
-/

namespace Sys2Proof.Laws

open Sys2Proof Sys2Proof.Machine

/-! ## The period boundary (R176, R399, R402, R403, R407) -/

/-- The settings in force at the boundary are those written, whatever the sinks hold beside the restore (R402). -/
theorem settings_of_restored {s t : State} (hout : Outside.freeSinks t = Outside.freeSinks s)
    (hrestored : t.sinks.restored = s.sinks.restored) :
    channelSettings t = channelSettings s ∧ groupSettings t = groupSettings s := by
  rw [Outside.freeSinks_eq hout]
  generalize t.sinks = x at hrestored
  have hdefaults : onOptionDefaults { s with sinks := x, free := t.free } = onOptionDefaults s := by
    unfold onOptionDefaults
    rw [← hrestored]
    rfl
  constructor
  · funext c
    unfold channelSettings
    rw [hdefaults]
    rfl
  · funext g
    unfold groupSettings
    rw [hdefaults]
    rfl

theorem recalibrate_changesOwnChannel : ChangesOwnChannel recalibrate := fun _ c =>
  ⟨length_modifyAt _ c _, fun _ hne => sinkOf_onSink_of_ne _ _ hne⟩

/-- The corrected trim is a value in its range (R176, R415). -/
theorem sinkOf_recalibrate {s : State} {c : Nat} (hc : c < s.sinks.channels.length) :
    ∃ x, sinkOf (recalibrate s c) c = { sinkOf s c with oldTrim := (sinkOf s c).trim, trim := some x } ∧ -8 ≤ x ∧ x ≤ 7 :=
  ⟨_, sinkOf_onSink _ hc, by omega, by omega⟩

/-- The state at a boundary once the CP's restore has come into force (R402). -/
def boundaryApplied (s : State) : State :=
  { s with sinks := { s.sinks with applied := s.sinks.applied || s.sinks.restored } }

/-- The state at a boundary once trims are corrected and the period that ends is counted (R176, R407). -/
def boundaryCounted (g : Nat) (s : State) : State :=
  (groupChannels g).foldl (fun t c => onSink c (countPeriod s c) t)
    ((groupChannels g).foldl recalibrate (boundaryApplied s))

theorem boundaryCounted_frame (g s) : Outside.freeSinks (boundaryCounted g s) = Outside.freeSinks s := by
  have happlied : Outside.freeSinks (boundaryApplied s) = Outside.freeSinks s := rfl
  rw [boundaryCounted, Outside.freeSinks_of_sinks (foldl_onSink_frame (countPeriod s) _ _), foldl_recalibrate_frame,
    happlied]

/-- Nothing but channels has changed before the settings come into force. -/
theorem boundaryCounted_beside (g s) : besideChannels (boundaryCounted g s) = besideChannels (boundaryApplied s) := by
  rw [boundaryCounted, foldl_onSink_beside (countPeriod s), foldl_recalibrate_beside]

theorem boundaryCounted_length (g s) : (boundaryCounted g s).sinks.channels.length = s.sinks.channels.length := by
  have happlied : (boundaryApplied s).sinks.channels = s.sinks.channels := rfl
  rw [boundaryCounted, length_foldl_channels (onSink_changesOwnChannel (countPeriod s)),
    length_foldl_channels recalibrate_changesOwnChannel, happlied]

/-- A channel of the group at the boundary: its trim is corrected, and its period is counted. -/
theorem sinkOf_boundaryCounted {g c : Nat} {s : State} (hc : c / 12 = g) (hlen : c < s.sinks.channels.length) :
    ∃ x, sinkOf (boundaryCounted g s) c
        = countPeriod s c { sinkOf s c with oldTrim := (sinkOf s c).trim, trim := some x } ∧ -8 ≤ x ∧ x ≤ 7 := by
  have hmem := mem_groupChannels.2 hc
  obtain ⟨r, hrlen, hrsame, hrlast⟩ := sinkOf_foldl_of_mem recalibrate_changesOwnChannel (groupChannels_nodup g) hmem
    (boundaryApplied s)
  obtain ⟨x, htrim, hlow, hhigh⟩ := sinkOf_recalibrate (hrlen ▸ hlen : c < r.sinks.channels.length)
  obtain ⟨t, htlen, htsame, htlast⟩ := sinkOf_foldl_of_mem (onSink_changesOwnChannel (countPeriod s))
    (groupChannels_nodup g) hmem ((groupChannels g).foldl recalibrate (boundaryApplied s))
  have hcount : c < t.sinks.channels.length := by
    rw [htlen, length_foldl_channels recalibrate_changesOwnChannel]
    exact hlen
  refine ⟨x, ?_, hlow, hhigh⟩
  rw [boundaryCounted, htlast, sinkOf_onSink _ hcount, htsame, hrlast, htrim, hrsame]
  rfl

theorem sinkOf_boundaryCounted_of_ne {g c : Nat} (s) (hc : c / 12 ≠ g) :
    sinkOf (boundaryCounted g s) c = sinkOf s c := by
  have hmem := mt mem_groupChannels.1 hc
  have happlied : sinkOf (boundaryApplied s) c = sinkOf s c := rfl
  rw [boundaryCounted, sinkOf_foldl_of_notMem (onSink_changesOwnChannel (countPeriod s)) hmem,
    sinkOf_foldl_of_notMem recalibrate_changesOwnChannel hmem, happlied]

/-- The settings of a group's channels come into force (R399). -/
def applyChannels (g : Nat) (s : State) : State :=
  (groupChannels g).foldl (fun t c =>
    onSink c (applyChannel (sinkGroup s g).reference (channelSettings s c)) t) s

theorem applyGroup_eq (g s) : applyGroup g s = onGroup g (fun x => { x with
    reference := (groupSettings s g).1, divider := (groupSettings s g).2, resuming := false }) (applyChannels g s) := rfl

/-- The channels' own change, one for each. -/
theorem applyChannels_changes (g s) : ChangesOwnChannel fun t c =>
    onSink c (applyChannel (sinkGroup s g).reference (channelSettings s c)) t :=
  onSink_changesOwnChannel fun c => applyChannel (sinkGroup s g).reference (channelSettings s c)

theorem sinkOf_applyGroup {g c : Nat} {s : State} (hc : c / 12 = g) (hlen : c < s.sinks.channels.length) :
    sinkOf (applyGroup g s) c = applyChannel (sinkGroup s g).reference (channelSettings s c) (sinkOf s c) := by
  have hgroup : sinkOf (applyGroup g s) = sinkOf (applyChannels g s) := rfl
  obtain ⟨t, htlen, htsame, htlast⟩ := sinkOf_foldl_of_mem (applyChannels_changes g s) (groupChannels_nodup g)
    (mem_groupChannels.2 hc) s
  rw [hgroup, applyChannels, htlast, sinkOf_onSink _ (htlen ▸ hlen), htsame]

theorem sinkOf_applyGroup_of_ne {g c : Nat} (s) (hc : c / 12 ≠ g) : sinkOf (applyGroup g s) c = sinkOf s c := by
  have hgroup : sinkOf (applyGroup g s) = sinkOf (applyChannels g s) := rfl
  rw [hgroup, applyChannels, sinkOf_foldl_of_notMem (applyChannels_changes g s) (mt mem_groupChannels.1 hc)]

/-- Applying the settings leaves the groups but its own. -/
theorem sinkGroup_applyGroup {g : Nat} {s : State} (hg : g < s.sinks.groups.length) :
    sinkGroup (applyGroup g s) g = { sinkGroup s g with
      reference := (groupSettings s g).1, divider := (groupSettings s g).2, resuming := false }
    ∧ ∀ h, h ≠ g → sinkGroup (applyGroup g s) h = sinkGroup s h := by
  have hbeside := foldl_onSink_beside (fun c => applyChannel (sinkGroup s g).reference (channelSettings s c))
    (groupChannels g) s
  have hgroups : (applyChannels g s).sinks.groups = s.sinks.groups := (beside_fields hbeside).1
  have hsame : sinkGroup (applyChannels g s) = sinkGroup s := by
    funext h
    rw [sinkGroup, hgroups, sinkGroup]
  rw [applyGroup_eq]
  exact ⟨by rw [sinkGroup_onGroup _ (hgroups.symm ▸ hg), hsame],
    fun h hne => by rw [sinkGroup_onGroup_of_ne _ _ hne, hsame]⟩

theorem execSinkPeriodBoundary_off {g : Nat} {s : State} (hoff : (sinkGroup s g).off = true) :
    exec (.sinkPeriodBoundary g) s = .next s :=
  congrArg Host.Outcome.next (if_pos (by simp [hoff]))

theorem execSinkPeriodBoundary_on {g : Nat} {s : State} (haux : isOn s .aux = true) (hg : g < 4)
    (hoff : (sinkGroup s g).off = false) :
    exec (.sinkPeriodBoundary g) s = .next (applyGroup g (boundaryCounted g s)) :=
  congrArg Host.Outcome.next (if_neg (by simp [haux, hoff, hg]))

/-- What a boundary leaves of a group that is on (R176, R399, R402). -/
theorem sinkPeriodBoundary_applies {g : Nat} {s t : State} (ht : t = applyGroup g (boundaryCounted g s))
    (hgroups : g < s.sinks.groups.length) (hchannels : ∀ c, c / 12 = g → c < s.sinks.channels.length) :
    t = { s with sinks := t.sinks, free := t.free }
    ∧ sinkGroup t g = { sinkGroup s g with
        reference := (groupSettings s g).1, divider := (groupSettings s g).2, resuming := false }
    ∧ t.sinks.applied = (s.sinks.applied || s.sinks.restored)
    ∧ (∀ h, h ≠ g → sinkGroup t h = sinkGroup s h)
    ∧ (∀ c, c / 12 = g → (sinkOf t c).enable = (channelSettings s c).1 ∧ (sinkOf t c).duty = (channelSettings s c).2.2
        ∧ (sinkOf t c).status = (sinkOf s c).status
        ∧ (sinkOf t c).code = (if (sinkOf s c).status = 2 then (sinkOf s c).code else (channelSettings s c).2.1)
        ∧ (sinkOf t c).oldCode = (sinkOf s c).code ∧ (sinkOf t c).oldRef = (sinkGroup s g).reference
        ∧ (sinkOf t c).oldTrim = (sinkOf s c).trim ∧ ∃ x, (sinkOf t c).trim = some x ∧ -8 ≤ x ∧ x ≤ 7)
    ∧ (∀ c, c / 12 ≠ g → sinkOf t c = sinkOf s c) := by
  obtain ⟨hsame, hrestored, happlied⟩ := beside_fields (boundaryCounted_beside g s)
  have hframe : Outside.freeSinks t = Outside.freeSinks s := by
    rw [ht, Outside.freeSinks_of_sinks (applyGroup_frame g _), boundaryCounted_frame]
  obtain ⟨hchannel, hsettings⟩ := settings_of_restored (boundaryCounted_frame g s) hrestored
  have hgroup : sinkGroup (boundaryCounted g s) = sinkGroup s := by
    funext h
    rw [sinkGroup, hsame]
    rfl
  obtain ⟨hown, hother⟩ := sinkGroup_applyGroup (s := boundaryCounted g s) (hsame.symm ▸ hgroups)
  rw [← ht, hgroup] at hother
  rw [← ht, hgroup, hsettings] at hown
  have hlength := boundaryCounted_length g s
  refine ⟨Outside.freeSinks_eq hframe, hown, ?_, hother, fun c hc => ?_, fun c hc => ?_⟩
  · rw [ht, applyGroup_applied, happlied]
    rfl
  · have hlen := hchannels c hc
    obtain ⟨x, hcounted, hlow, hhigh⟩ := sinkOf_boundaryCounted hc hlen
    rw [ht, sinkOf_applyGroup hc (hlength.symm ▸ hlen), hcounted, hchannel, hgroup]
    exact ⟨rfl, rfl, rfl, rfl, rfl, rfl, rfl, x, rfl, hlow, hhigh⟩
  · rw [ht, sinkOf_applyGroup_of_ne _ hc, sinkOf_boundaryCounted_of_ne s hc]

/-! ## Probes for opens (R407) -/

theorem execSinkOpenProbe_waits {s : State} {c pin : Nat}
    (h : sinkAlive s c = false ∨ (sinkOf s c).probeDue = false ∨ hasOffRun s c = false) :
    exec (.sinkOpenProbe c pin) s = .next s :=
  congrArg Host.Outcome.next (if_pos (by rcases h with h | h | h <;> simp [probeable, h]))

/-- A probe at or above the level is good (R407). -/
def goodProbe (k : Sink) : Sink :=
  { k with
    noProbe := 0, probed := true, probeDue := false, opens := 0, goods := k.goods + 1
    status := if k.status = 1 ∧ k.goods ≥ 1 then 0 else k.status }

/-- A probe below the level finds the channel open (R407). -/
def openProbe (k : Sink) : Sink :=
  { k with
    noProbe := 0, probed := true, probeDue := false, goods := 0, opens := k.opens + 1
    status := if k.status = 0 ∧ k.opens ≥ 1 then 1 else k.status }

/-- What a probe that is made does. -/
theorem execSinkOpenProbe_probes {s : State} {c : Nat} (pin : Nat) (halive : sinkAlive s c = true)
    (hdue : (sinkOf s c).probeDue = true) (hrun : hasOffRun s c = true) :
    exec (.sinkOpenProbe c pin) s = .next (
      if pin < cfg s 0x5000 5 then
        if (sinkOf s c).status = 0 ∧ (sinkOf s c).opens ≥ 1 then raiseKind 0x45 { address := c } (onSink c openProbe s)
        else onSink c openProbe s
      else onSink c goodProbe s) :=
  congrArg Host.Outcome.next (if_neg (by simp [probeable, halive, hdue, hrun]))

/-- A probe that finds the channel open (R407). -/
theorem sinkOpenProbe_open {s : State} {c pin : Nat} (halive : sinkAlive s c = true)
    (hdue : (sinkOf s c).probeDue = true) (hrun : hasOffRun s c = true) (hlen : c < s.sinks.channels.length)
    (hpin : pin < cfg s 0x5000 5) : ∃ t, exec (.sinkOpenProbe c pin) s = .next t
      ∧ (sinkOf t c).opens = (sinkOf s c).opens + 1 ∧ (sinkOf t c).probeDue = false ∧ (sinkOf t c).noProbe = 0
      ∧ (¬((sinkOf s c).status = 0 ∧ (sinkOf s c).opens ≥ 1) →
          (sinkOf t c).status = (sinkOf s c).status ∧ t = { s with sinks := t.sinks })
      ∧ ((sinkOf s c).status = 0 → (sinkOf s c).opens ≥ 1 →
          (sinkOf t c).status = 1 ∧ Noted 0x45 0x1A { s with sinks := t.sinks } t) := by
  have hexec := execSinkOpenProbe_probes pin halive hdue hrun
  rw [if_pos hpin] at hexec
  have hsink : sinkOf (onSink c openProbe s) c = openProbe (sinkOf s c) := sinkOf_onSink _ hlen
  refine ⟨_, hexec, ?_⟩
  split
  · next hsecond =>
    rw [sinkOf_of_sinks (sinks_of_only (raiseKind_only _ _ _)), hsink]
    exact ⟨rfl, rfl, rfl, fun hnot => absurd hsecond hnot,
      fun _ _ => ⟨if_pos hsecond, noted_sinks { address := c } _ s rfl rfl (by decide)⟩⟩
  · next hfirst =>
    rw [hsink]
    exact ⟨rfl, rfl, rfl, fun _ => ⟨if_neg hfirst, rfl⟩, fun hstatus hopens => absurd ⟨hstatus, hopens⟩ hfirst⟩

/-! ## Shorts to the supply (R408, R412, R414) -/

theorem execSinkShortTrip_below {s : State} {c pin : Nat} (h : hasOnRun s c = false ∨ pin ≤ cfg s 0x5000 4) :
    exec (.sinkShortTrip ⟨c, pin⟩) s = .next s := by
  refine congrArg Host.Outcome.next (if_neg ?_)
  rcases h with h | h
  · simp only [hasOnRun, Bool.and_eq_false_iff] at h
    rcases h with h | h <;> simp [shortTrips, h]
  · simp [shortTrips, h]

/-- The comparator of a channel has tripped: the sink is off (R408). -/
theorem sinkShortTrip_trips {s : State} {c pin : Nat} (halive : sinkAlive s c = true) (hrun : hasOnRun s c = true)
    (hpin : pin > cfg s 0x5000 4) (hlen : c < s.sinks.channels.length) : ∃ t,
      exec (.sinkShortTrip ⟨c, pin⟩) s = .next t ∧ (sinkOf t c).status = 2 ∧ isDriven t c = false
      ∧ Noted 0x46 0x1A { s with sinks := t.sinks } t := by
  obtain ⟨hdriven, hlong⟩ := Bool.and_eq_true _ _ ▸ hrun
  refine ⟨_, congrArg Host.Outcome.next (if_pos (by simp [halive, hdriven, hlong, hpin, shortTrips])), ?_⟩
  have hstatus : (sinkOf (raiseKind 0x46 { address := c } (onSink c (fun k => { k with status := 2 }) s)) c).status = 2 := by
    rw [sinkOf_of_sinks (sinks_of_only (raiseKind_only _ _ _)), sinkOf_onSink _ hlen]
  exact ⟨hstatus, isDriven_of_short hstatus, noted_sinks { address := c } _ s rfl rfl (by decide)⟩

theorem execSinkShortRetry_unshort {s : State} {c pin : Nat} (h : (sinkOf s c).status ≠ 2) :
    exec (.sinkShortRetry c pin) s = .next s :=
  congrArg Host.Outcome.next (if_neg (by simp [h]))

theorem execSinkShortRetry_retries {s : State} {c : Nat} (pin : Nat) (halive : sinkAlive s c = true)
    (hstatus : (sinkOf s c).status = 2) : exec (.sinkShortRetry c pin) s = .next (onSink c (fun k => { k with
      code := (channelSettings s c).2.1
      status := if longRun s c = true ∧ pin > cfg s 0x5000 4 then 2 else 0 }) s) := by
  have htrips : (shortTrips s c pin = true) = (longRun s c = true ∧ pin > cfg s 0x5000 4) := by simp [shortTrips]
  refine congrArg Host.Outcome.next ((if_pos (by simp [halive, hstatus])).trans ?_)
  simp only [htrips]

/-! ## Shorts between neighbours (R409) -/

theorem execSinkNeighbourTest_waits {s : State} {c pin : Nat}
    (h : (sinkOf s c).testDue = false ∨ pairPossible s c = false) : exec (.sinkNeighbourTest c pin) s = .next s :=
  congrArg Host.Outcome.next (if_pos (by rcases h with h | h <;> simp [pairTestable, h]))

/-- The result of a test of a pair (R409). -/
def testedPair (short : Bool) (k : Sink) : Sink :=
  { k with
    testDue := false
    nShorts := if short then k.nShorts + 1 else 0
    nCleans := if short then 0 else k.nCleans + 1
    pairShort := if short then k.pairShort || decide (k.nShorts ≥ 1) else k.pairShort && k.nCleans == 0 }

theorem execSinkNeighbourTest_tests {s : State} {c : Nat} (pin : Nat) (halive : sinkAlive s c = true)
    (hdue : (sinkOf s c).testDue = true) (hpair : pairPossible s c = true) :
    exec (.sinkNeighbourTest c pin) s = .next (
      if decide (pin < cfg s 0x5000 6) && !(sinkOf s c).pairShort && decide ((sinkOf s c).nShorts ≥ 1) then
        raiseKind 0x47 { address := c } (onSink c (testedPair (decide (pin < cfg s 0x5000 6))) s)
      else onSink c (testedPair (decide (pin < cfg s 0x5000 6))) s) :=
  congrArg Host.Outcome.next (if_neg (by simp [pairTestable, halive, hdue, hpair]))

/-- A test of a pair that is due and possible (R409). -/
theorem sinkNeighbourTest_judges {s : State} {c pin : Nat} (halive : sinkAlive s c = true)
    (hdue : (sinkOf s c).testDue = true) (hpair : pairPossible s c = true) (hlen : c < s.sinks.channels.length) :
    ∃ t, exec (.sinkNeighbourTest c pin) s = .next t
      ∧ (∀ d, d ≠ c → sinkOf t d = sinkOf s d) ∧ (sinkOf t c).testDue = false
      ∧ (pin < cfg s 0x5000 6 → (sinkOf t c).pairShort = ((sinkOf s c).pairShort || decide ((sinkOf s c).nShorts ≥ 1)))
      ∧ (pin < cfg s 0x5000 6 → (sinkOf s c).pairShort = false → (sinkOf s c).nShorts ≥ 1 →
          Noted 0x47 0x1A { s with sinks := t.sinks } t)
      ∧ (pin ≥ cfg s 0x5000 6 → t = { s with sinks := t.sinks }
          ∧ (sinkOf t c).pairShort = ((sinkOf s c).pairShort && (sinkOf s c).nCleans == 0)) := by
  have hown := sinkOf_onSink (testedPair (decide (pin < cfg s 0x5000 6))) hlen
  have hother : ∀ d, d ≠ c → sinkOf (onSink c (testedPair (decide (pin < cfg s 0x5000 6))) s) d = sinkOf s d :=
    fun _ hne => sinkOf_onSink_of_ne _ s hne
  refine ⟨_, execSinkNeighbourTest_tests pin halive hdue hpair, ?_⟩
  split
  · next hraise =>
    have hpin : pin < cfg s 0x5000 6 := by
      simp only [Bool.and_eq_true, decide_eq_true_eq] at hraise
      exact hraise.1.1
    rw [sinkOf_of_sinks (sinks_of_only (raiseKind_only _ _ _)), hown]
    exact ⟨hother, rfl, fun _ => if_pos (decide_eq_true hpin),
      fun _ _ _ => noted_sinks { address := c } _ s rfl rfl (by decide), fun hhigh => absurd hpin (not_lt.2 hhigh)⟩
  · next hquiet =>
    rw [hown]
    exact ⟨hother, rfl, fun hpin => if_pos (decide_eq_true hpin),
      fun hpin hclean hshorts => absurd (by simp [hpin, hclean, hshorts]) hquiet,
      fun hhigh => ⟨rfl, if_neg (by simpa using hhigh)⟩⟩

/-! ## The headroom cycle (R405) -/

/-- A group at the end of its headroom cycle. -/
def cycledGroup (s : State) (g : Nat) (x : SinkGroup) : SinkGroup :=
  { x with
    hrctl := match x.lowest with
      | some h => cycleCode (cfg s 0x5000 2) (cfg s (0x5010 + g) 7) h x
      | none => x.hrctl
    headroom := x.lowest.getD x.headroom
    noRise := x.noRise - 1
    lowest := none }

theorem execSinkHeadroomCycleEnd_on {s : State} {g : Nat} (haux : isOn s .aux = true) (hg : g < 4)
    (hoff : (sinkGroup s g).off = false) :
    exec (.sinkHeadroomCycleEnd g) s = .next (onGroup g (cycledGroup s g) s) :=
  congrArg Host.Outcome.next (if_pos (by simp [haux, hg, hoff]))

/-- What HRCTL sources follows the code of a group that is on (R405). -/
theorem hrctlOutput_of_on {s : State} {g : Nat} (haux : isOn s .aux = true) (hoff : (sinkGroup s g).off = false) :
    hrctlOutput s g = some ((sinkGroup s g).hrctl * 400) :=
  if_pos (by simp [haux, hoff])

theorem hrctlOutput_of_off {s : State} {g : Nat} (hoff : (sinkGroup s g).off = true) : hrctlOutput s g = none :=
  if_neg (by simp [hoff])

/-- The end of a headroom cycle (R405). -/
theorem sinkHeadroomCycleEnd_moves {s : State} {g : Nat} (haux : isOn s .aux = true) (hg : g < 4)
    (hlen : g < s.sinks.groups.length) (hoff : (sinkGroup s g).off = false) : ∃ t,
      exec (.sinkHeadroomCycleEnd g) s = .next t ∧ t = { s with sinks := t.sinks }
      ∧ (∀ h, h ≠ g → sinkGroup t h = sinkGroup s h) ∧ (sinkGroup t g).lowest = none
      ∧ ((sinkGroup s g).lowest = none → (sinkGroup t g).hrctl = (sinkGroup s g).hrctl)
      ∧ hrctlOutput t g = some ((sinkGroup t g).hrctl * 400)
      ∧ (∀ h, (sinkGroup s g).lowest = some h → (sinkGroup t g).headroom = h
        ∧ (sinkGroup t g).hrctl = cycleCode (cfg s 0x5000 2) (cfg s (0x5010 + g) 7) h (sinkGroup s g)) := by
  have hown : sinkGroup (onGroup g (cycledGroup s g) s) g = cycledGroup s g (sinkGroup s g) := sinkGroup_onGroup _ hlen
  refine ⟨_, execSinkHeadroomCycleEnd_on haux hg hoff, rfl, fun _ hne => sinkGroup_onGroup_of_ne _ s hne, ?_, ?_,
    hrctlOutput_of_on haux (by rw [hown]; exact hoff), ?_⟩
  · rw [hown]
    rfl
  · intro hnone
    simp only [hown, cycledGroup, hnone]
  · intro h hsome
    simp only [hown, cycledGroup, hsome, Option.getD_some, and_self]

/-! ## Shutdown and restart of a group (R413, R414) -/

theorem sinkGroupShutdown_shuts {s : State} {g : Nat} (haux : isOn s .aux = true) (hg : g < 4)
    (hlen : g < s.sinks.groups.length) (hoff : (sinkGroup s g).off = false) (hhot : (sinkGroup s g).hot ≥ 2) : ∃ t,
      exec (.sinkGroupShutdown g) s = .next t
      ∧ (sinkGroup t g).off = true ∧ (sinkGroup t g).hrctl = 0 ∧ hrctlOutput t g = none
      ∧ (sinkGroup t g).shutdowns = min ((sinkGroup s g).shutdowns + 1) (2 ^ 32 - 1)
      ∧ (∀ c, c / 12 = g → isDriven t c = false) ∧ Raised 0x48 0x1A { s with sinks := t.sinks } t := by
  refine ⟨_, congrArg Host.Outcome.next (if_pos (by simp [haux, hg, hoff, hhot])), ?_⟩
  generalize hr : onGroup g _ s = r
  have hown : sinkGroup (raiseKind 0x48 { address := g, counter := count32 (sinkGroup s g).shutdowns } r) g
      = { sinkGroup s g with off := true, resuming := false, hrctl := 0, lowest := none, noRise := 0
                             shutdowns := count32 (sinkGroup s g).shutdowns } := by
    rw [sinkGroup_of_sinks (sinks_of_only (raiseKind_only _ _ _)), ← hr, sinkGroup_onGroup _ hlen]
  have hdark := congrArg SinkGroup.off hown
  refine ⟨hdark, congrArg SinkGroup.hrctl hown, hrctlOutput_of_off hdark, congrArg SinkGroup.shutdowns hown,
    fun c hc => isDriven_of_off (by rw [groupOf, hc]; exact hdark), ?_⟩
  rw [← hr]
  exact raised_sinks { address := g, counter := count32 (sinkGroup s g).shutdowns } _ s rfl rfl

/-! ### Recoveries of a kind (R365) -/

theorem find_active {s : State} {k u : Nat} (h : isActive s k u = true) :
    ∃ a, s.faults.active.find? (fun a => a.kind == k && a.unit == u) = some a :=
  Option.isSome_iff_exists.1 (List.find?_isSome.2 (List.any_eq_true.1 h))

/-- The recovery record that has been written is read back. -/
theorem recoveryOf_exitKind_putRecovery (k u n times l) (s : State) :
    recoveryOf (exitKind k u (putRecovery { recoveryOf s k with count := n, times := times, latched := l } s)) k
      = { recoveryOf s k with count := n, times := times, latched := l } := by
  have hread := recoveryOf_putRecovery { recoveryOf s k with count := n, times := times, latched := l } s
  rw [recoveryOf_of_recoveries (exitKind_recoveries _ _ _)]
  rwa [recoveryOf_kind] at hread

/-- The eighth recovery of an active kind latches it. -/
theorem recoverKind_latches {k u : Nat} {s : State} (hact : isActive s k u = true)
    (heighth : isEighthRecovery (nowUs s) (recoveryOf s k).times = true) : isLatched (recoverKind k u s) k = true := by
  obtain ⟨a, ha⟩ := find_active hact
  have hread := recoveryOf_putRecovery { recoveryOf s k with
    count := satAdd 16 (recoveryOf s k).count 1, latched := true } s
  rw [show ({ recoveryOf s k with
    count := satAdd 16 (recoveryOf s k).count 1, latched := true } : Recovery).kind = k from recoveryOf_kind s k] at hread
  simp only [recoverKind, ha, heighth, if_true]
  rw [isLatched, recoveryOf_of_recoveries (settle_recoveries _), recoveryOf_of_recoveries (writeEntry_recoveries _ _ _ _ _),
    hread]

/-- An earlier recovery of an active kind is counted. -/
theorem recoverKind_counts {k u : Nat} {s : State} (hact : isActive s k u = true)
    (hearly : isEighthRecovery (nowUs s) (recoveryOf s k).times = false) :
    (recoveryOf (recoverKind k u s) k).count = satAdd 16 (recoveryOf s k).count 1 := by
  obtain ⟨a, ha⟩ := find_active hact
  simp only [recoverKind, ha, hearly, Bool.false_eq_true, if_false]
  exact congrArg Recovery.count (recoveryOf_exitKind_putRecovery k u _ _ _ s)

/-! ### The restart -/

theorem execSinkGroupRestart_cooled {s : State} {g : Nat} (haux : isOn s .aux = true) (hg : g < 4)
    (hoff : (sinkGroup s g).off = true) (hcool : (sinkGroup s g).cool ≥ 2) (hlatch : isLatched s 0x48 = false) :
    exec (.sinkGroupRestart g) s
      = .next (if isActive s 0x48 0x1A then recoverGroup g s else resumeGroup g s) :=
  congrArg Host.Outcome.next (if_pos (by simp [haux, hg, hoff, hcool, hlatch]))

theorem recoverGroup_eighth {s : State} {g : Nat}
    (heighth : isEighthRecovery (nowUs s) (recoveryOf s 0x48).times = true) :
    recoverGroup g s = markAbsent 0x48 0x1A (recoverKind 0x48 0x1A s) :=
  if_pos heighth

theorem recoverGroup_early {s : State} {g : Nat}
    (hearly : isEighthRecovery (nowUs s) (recoveryOf s 0x48).times = false) :
    recoverGroup g s = if otherGroupOff s g then
        putRecovery { recoveryOf s 0x48 with
          count := satAdd 16 (recoveryOf s 0x48).count 1, times := pushRecovery (nowUs s) (recoveryOf s 0x48).times }
          (resumeGroup g s)
      else recoverKind 0x48 0x1A (resumeGroup g s) :=
  if_neg (by simp [hearly])

/-- A recovery that is not the eighth lets the group resume, counts it, and ends the kind with the last group. -/
theorem recoverGroup_resumes {s : State} {g : Nat} (hact : isActive s 0x48 0x1A = true) (hlatch : isLatched s 0x48 = false)
    (hearly : isEighthRecovery (nowUs s) (recoveryOf s 0x48).times = false) :
    Outside.faultParts (recoverGroup g s) = Outside.faultParts (resumeGroup g s)
    ∧ (recoveryOf (recoverGroup g s) 0x48).count = satAdd 16 (recoveryOf s 0x48).count 1
    ∧ isActive (recoverGroup g s) 0x48 0x1A = otherGroupOff s g := by
  have hresumed : isActive (resumeGroup g s) 0x48 0x1A = true := hact
  have hlatched : isLatched (resumeGroup g s) 0x48 = false := hlatch
  have htimes : isEighthRecovery (nowUs (resumeGroup g s)) (recoveryOf (resumeGroup g s) 0x48).times = false := hearly
  rw [recoverGroup_early hearly]
  split
  · next hother =>
    have hread := recoveryOf_putRecovery { recoveryOf s 0x48 with
      count := satAdd 16 (recoveryOf s 0x48).count 1
      times := pushRecovery (nowUs s) (recoveryOf s 0x48).times } (resumeGroup g s)
    rw [recoveryOf_kind] at hread
    exact ⟨putRecovery_only _ _, congrArg Recovery.count hread, hact.trans hother.symm⟩
  · next hlast =>
    exact ⟨recoverKind_only _ _ _, recoverKind_counts hresumed htimes,
      (recoverKind_ends hlatched htimes).1.trans (Bool.not_eq_true _ ▸ hlast).symm⟩

/-- What a group shows that has resumed (R413, R414). -/
theorem resumed_of_only {s t : State} {g : Nat} (h : Outside.faultParts t = Outside.faultParts (resumeGroup g s))
    (hlen : g < s.sinks.groups.length) : OnlyFaultParts { s with sinks := t.sinks } t ∧ (sinkGroup t g).off = false
      ∧ (sinkGroup t g).resuming = true ∧ (∀ c, c / 12 = g → isDriven t c = false) := by
  have hsinks := sinks_of_only h
  have hown : sinkGroup t g = { sinkGroup s g with off := false, resuming := true, cool := 0, hot := 0 } := by
    rw [sinkGroup_of_sinks hsinks]
    exact sinkGroup_onGroup _ hlen
  have hresuming := congrArg SinkGroup.resuming hown
  refine ⟨?_, congrArg SinkGroup.off hown, hresuming,
    fun c hc => isDriven_of_resuming (by rw [groupOf, hc]; exact hresuming)⟩
  rw [hsinks]
  exact onlyFaultParts_of h

/-- The restart of a group that has cooled down (R365, R413, R414). -/
theorem sinkGroupRestart_recovers {s : State} {g : Nat} (haux : isOn s .aux = true) (hg : g < 4)
    (hlen : g < s.sinks.groups.length) (hoff : (sinkGroup s g).off = true) (hcool : (sinkGroup s g).cool ≥ 2)
    (hlatch : isLatched s 0x48 = false) : ∃ t, exec (.sinkGroupRestart g) s = .next t
      ∧ OnlyFaultParts { s with sinks := t.sinks } t
      ∧ (isActive s 0x48 0x1A = true → isEighthRecovery (nowUs s) (recoveryOf s 0x48).times = true →
          (sinkGroup t g).off = true ∧ isLatched t 0x48 = true)
      ∧ (isEighthRecovery (nowUs s) (recoveryOf s 0x48).times = false → (sinkGroup t g).off = false
          ∧ (sinkGroup t g).resuming = true ∧ (∀ c, c / 12 = g → isDriven t c = false)
          ∧ (isActive s 0x48 0x1A = true →
            (recoveryOf t 0x48).count = min ((recoveryOf s 0x48).count + 1) (2 ^ 16 - 1)
            ∧ isActive t 0x48 0x1A = otherGroupOff s g)) := by
  refine ⟨_, execSinkGroupRestart_cooled haux hg hoff hcool hlatch, ?_⟩
  cases hact : isActive s 0x48 0x1A with
  | false =>
    obtain ⟨honly, hon, hresuming, hdark⟩ := resumed_of_only (t := resumeGroup g s) rfl hlen
    exact ⟨honly, nofun, fun _ => ⟨hon, hresuming, hdark, nofun⟩⟩
  | true =>
    rw [if_pos rfl]
    cases heighth : isEighthRecovery (nowUs s) (recoveryOf s 0x48).times with
    | true =>
      have honly : Outside.faultParts (recoverGroup g s) = Outside.faultParts s := by
        rw [recoverGroup_eighth heighth, markAbsent_only, recoverKind_only]
      have hsinks := sinks_of_only honly
      refine ⟨hsinks ▸ onlyFaultParts_of honly, fun _ _ => ⟨by rw [sinkGroup_of_sinks hsinks, hoff], ?_⟩, nofun⟩
      rw [recoverGroup_eighth heighth]
      exact recoverKind_latches hact heighth
    | false =>
      obtain ⟨hresumed, hcount, hactive⟩ := recoverGroup_resumes (g := g) hact hlatch heighth
      obtain ⟨honly, hon, hresuming, hdark⟩ := resumed_of_only hresumed hlen
      exact ⟨honly, nofun, fun _ => ⟨hon, hresuming, hdark, fun _ => ⟨hcount, hactive⟩⟩⟩

/-! ## The statement -/

/-- Settles O38: each command of the sinks does what its lemma above says. -/
theorem sinksFollowTheirPeriods : Obligations.SinksFollowTheirPeriods := by
  have hchannel : ∀ {s c}, sinkAlive s c = true → s.sinks.channels.length = 48 → c < s.sinks.channels.length :=
    fun halive hlen => hlen ▸ (sinkAlive_iff.1 halive).2.1
  refine ⟨fun s g haux hg hgroups hchannels => ⟨execSinkPeriodBoundary_off, fun hoff =>
      ⟨_, execSinkPeriodBoundary_on haux hg hoff,
        sinkPeriodBoundary_applies rfl (hgroups ▸ hg) fun c hc => by omega⟩⟩,
    fun s c pin h => execSinkOpenProbe_waits h,
    fun s c pin halive hdue hrun hlen => ⟨fun hpin => ?_, sinkOpenProbe_open halive hdue hrun (hchannel halive hlen)⟩,
    fun s c pin h => execSinkShortTrip_below h,
    fun s c pin halive hrun hpin hlen => sinkShortTrip_trips halive hrun hpin (hchannel halive hlen),
    fun s c pin h => execSinkShortRetry_unshort h,
    fun s c pin halive hstatus => execSinkShortRetry_retries pin halive hstatus,
    fun s c pin h => execSinkNeighbourTest_waits h,
    fun s c pin halive hdue hpair hlen => sinkNeighbourTest_judges halive hdue hpair (hchannel halive hlen),
    fun s g haux hg hgroups hoff => sinkHeadroomCycleEnd_moves haux hg (hgroups ▸ hg) hoff,
    fun s g haux hg hgroups hoff hhot => sinkGroupShutdown_shuts haux hg (hgroups ▸ hg) hoff hhot,
    fun s g haux hg hgroups hoff hcool hlatch =>
      sinkGroupRestart_recovers haux hg (hgroups ▸ hg) hoff hcool hlatch⟩
  have hexec := execSinkOpenProbe_probes pin halive hdue hrun
  rwa [if_neg (not_lt.2 hpin)] at hexec

end Sys2Proof.Laws
end

section
/-!
The decisions of the thermal functions: sensors, thermal states, arrays, the zone models and the supply of the ports (R181,
R296 to R298, R301, R302, R307, R312, R313).
-/

namespace Sys2Proof.Laws

open Sys2Proof Sys2Proof.Machine

/-! ## Raises and ends of kinds -/

/-- A raise ends no kind (R348). -/
theorem raiseKind_keeps_active {k' u' : Nat} (k i) {s : State} (h : isActive s k' u' = true) :
    isActive (raiseKind k i s) k' u' = true := by
  unfold raiseKind
  dsimp only
  split
  · show isActive (markPresent k (unitOf k i.port) s) k' u' = true
    rw [← h, isActive, markPresent, List.any_map, isActive]
    congr 1
    funext a
    rw [Function.comp_apply]
    split <;> rfl
  · have hfresh : isActive (blankAgain k (raiseFresh k (unitOf k i.port) i s)) k' u' = true := by
      rw [isActive, (Prod.mk.inj (blankAgain_activity _ _)).1]
      exact raiseFresh_keeps_active _ _ _ _ _ _ h
    rw [settle_isActive]
    split
    · exact triggerCommit_keeps_active _ _ _ _ hfresh
    · exact hfresh

/-- A privileged kind that has not escalated ends with its condition (R362, R364). -/
theorem isActive_clearCondition_privileged {k : Nat} (u) {s : State} (hexit : (kindRow k).exit = .privileged)
    (hlatch : isLatched s k = false) (hcalm : ∀ a ∈ s.faults.active, a.kind = k → a.escalated = false) :
    isActive (clearCondition k u s) k u = false := by
  unfold clearCondition
  split
  · next hnone => simpa [isActive] using List.find?_eq_none.1 hnone
  · next a hfind =>
    have hkind : a.kind = k := by
      have hmatch := List.find?_some hfind
      simp only [Bool.and_eq_true, beq_iff_eq] at hmatch
      exact hmatch.1
    rw [if_neg (by simp [hlatch]), hexit, hcalm a (List.mem_of_find?_eq_some hfind) hkind]
    exact isActive_exitKind k u s

theorem isLatched_of_recoveries {s t : State} (h : recoveries t = recoveries s) (k : Nat) :
    isLatched t k = isLatched s k := congrArg Recovery.latched (recoveryOf_of_recoveries h k)

theorem hk_of_only {s t : State} (h : Outside.faultParts t = Outside.faultParts s) : t.hk = s.hk :=
  (congrArg State.hk h :)

/-- Two states that differ in fault parts differ in them still with the same housekeeping values. -/
theorem outside_hk_of_only {s t : State} {x : Housekeeping} (h : Outside.faultParts t = Outside.faultParts s) :
    Outside.faultParts { t with hk := x } = Outside.faultParts { s with hk := x } :=
  (congrArg (fun y : State => { y with hk := x }) h :)

theorem toll_of_only {s t : State} (h : Outside.faultParts t = Outside.faultParts s) : t.toll = s.toll :=
  (congrArg State.toll h :)

/-- Only fault parts differ from the state with the new housekeeping values. -/
theorem onlyFaultParts_of_hk {s t : State} {x : Housekeeping}
    (h : Outside.faultParts t = Outside.faultParts { s with hk := x }) : OnlyFaultParts { s with hk := t.hk } t := by
  rw [hk_of_only h]
  exact onlyFaultParts_of h

/-- Only fault parts differ from the state with the new values of the Toll. -/
theorem onlyFaultParts_of_toll {s t : State} {x : Toll}
    (h : Outside.faultParts t = Outside.faultParts { s with toll := x }) : OnlyFaultParts { s with toll := t.toll } t := by
  rw [toll_of_only h]
  exact onlyFaultParts_of h

/-! ## Sensors (R297, R298) -/

/-- A table of twelve sensors is read in its place. -/
theorem nth_map_range {α : Type} (d : α) (f : Nat → α) {n k : Nat} (hk : k < n) :
    nth d ((List.range n).map f) k = f k := by
  simp [nth, List.getD_eq_getElem?_getD, hk]

/-- The third round in which a sensor disagrees takes its neighbours' median (R297). -/
theorem crossCheck_disagreeing {s : State} {k : Nat} (hk : k < 12) (hcore : isOn s .core = true)
    (hdisagree : disagreement s k ≥ 3) : nth 0 (crossCheck s).hk.used k = neighbourMedian s k
      ∧ nth 0 (crossCheck s).hk.disagree k = disagreement s k := by
  have hreports : (reporting s).contains k = true := by
    rw [reporting, if_pos hcore]
    exact List.elem_eq_true_of_mem (List.mem_range.2 hk)
  have hused := nth_map_range (0 : Int) (fun k => if !(reporting s).contains k then nth 0 s.hk.used k
    else if isDisqualified s k || decide (disagreement s k ≥ 3) then neighbourMedian s k else nth 0 s.hk.raw k) hk
  rw [if_neg (by simp only [hreports, Bool.not_true, Bool.false_eq_true, not_false_eq_true]), if_pos (by simp [hdisagree])]
    at hused
  exact ⟨hused, nth_map_range 0 (disagreement s) hk⟩

/-- The sensor joins those that are disqualified (R297). -/
def disqualify (k : Nat) (h : Housekeeping) : Housekeeping :=
  { h with disqualified := h.disqualified ||| BitVec.ofNat 16 (2 ^ k) }

theorem isDisqualified_disqualify {k j : Nat} (hj : j < 12) (s : State) :
    isDisqualified (onHk (disqualify k) s) j = (isDisqualified s j || j == k) := by
  have hbit : (BitVec.ofNat 16 (2 ^ k)).getLsbD j = (j == k) := by
    rw [BitVec.getLsbD_ofNat, Nat.testBit_two_pow, decide_eq_true (by omega : j < 16), Bool.true_and]
    exact decide_eq_decide.2 eq_comm
  rw [← hbit]
  exact BitVec.getLsbD_or ..

theorem badSensors_of_disqualified {s t : State} (h : t.hk.disqualified = s.hk.disqualified) (ld : Bool) :
    badSensors t ld = badSensors s ld := by
  have hsame : isDisqualified t = isDisqualified s := by
    funext k
    rw [isDisqualified, h, isDisqualified]
  rw [badSensors, hsame, badSensors]

/-- The thresholds of a die are shifted (R298). -/
def shiftThresholds (ld : Bool) (h : Housekeeping) : Housekeeping :=
  { h with shiftLd := h.shiftLd || ld, shiftAd := h.shiftAd || !ld }

/-- A die of which two sensors are disqualified (R298). -/
def shiftDie (ld : Bool) (s : State) : State :=
  if 2 ≤ badSensors s ld then raiseKind 0x2D { address := heatAddress (if ld then 0 else 1) 0 } (onHk (shiftThresholds ld) s)
  else s

/-- The number of disqualified sensors at which a die's temperature is unknown (R298). -/
def unknownAt (ld : Bool) : Nat := if ld then 4 else 3

theorem escalateSensors_eq (ld s) : escalateSensors ld s =
    if unknownAt ld ≤ badSensors s ld then
      raiseKind 0x2E { address := heatAddress (if ld then 0 else 1) 0 } (shiftDie ld s)
    else shiftDie ld s := by
  have hunknown : (if ld = true then decide (badSensors s ld ≥ 4) else decide (badSensors s ld ≥ 3))
      = decide (unknownAt ld ≤ badSensors s ld) := by cases ld <;> rfl
  simp only [escalateSensors, hunknown, shiftDie, decide_eq_true_eq]
  rfl

/-- What the shift of a die's thresholds leaves. -/
theorem shiftDie_acts (ld s) :
    Outside.faultParts (shiftDie ld s) = Outside.faultParts { s with hk := (shiftDie ld s).hk }
    ∧ (shiftDie ld s).hk.disqualified = s.hk.disqualified ∧ (shiftDie ld s).hk.raw = s.hk.raw
    ∧ (shiftDie ld s).hk.used = s.hk.used ∧ BitsKept s (shiftDie ld s)
    ∧ (2 ≤ badSensors s ld → isActive (shiftDie ld s) 0x2D 0x13 = true
        ∧ (if ld then (shiftDie ld s).hk.shiftLd else (shiftDie ld s).hk.shiftAd) = true) := by
  unfold shiftDie
  split
  · have honly := raiseKind_only 0x2D { address := heatAddress (if ld then 0 else 1) 0 } (onHk (shiftThresholds ld) s)
    have hbits : BitsKept (onHk (shiftThresholds ld) s) _ :=
      raiseKind_bitsKept 0x2D { address := heatAddress (if ld then 0 else 1) 0 } _
    rw [hk_of_only honly]
    exact ⟨honly, rfl, rfl, rfl, hbits.of_start rfl,
      fun _ => ⟨raiseKind_active 0x2D _ _ rfl, by cases ld <;> exact Bool.or_true _⟩⟩
  · next hfew => exact ⟨rfl, rfl, rfl, rfl, bitsKept_of_blocks rfl, fun h => absurd h hfew⟩

/-- The levels of R298 after a disqualification. -/
theorem escalateSensors_acts (ld s) :
    Outside.faultParts (escalateSensors ld s) = Outside.faultParts { s with hk := (escalateSensors ld s).hk }
    ∧ (escalateSensors ld s).hk.disqualified = s.hk.disqualified ∧ (escalateSensors ld s).hk.raw = s.hk.raw
    ∧ (escalateSensors ld s).hk.used = s.hk.used ∧ BitsKept s (escalateSensors ld s)
    ∧ (2 ≤ badSensors s ld → isActive (escalateSensors ld s) 0x2D 0x13 = true
        ∧ (if ld then (escalateSensors ld s).hk.shiftLd else (escalateSensors ld s).hk.shiftAd) = true)
    ∧ (unknownAt ld ≤ badSensors s ld → isActive (escalateSensors ld s) 0x2E 0x13 = true) := by
  obtain ⟨honly, hbad, hraw, hused, hbits, hshift⟩ := shiftDie_acts ld s
  rw [escalateSensors_eq]
  split
  · have hraise := raiseKind_only 0x2E { address := heatAddress (if ld then 0 else 1) 0 } (shiftDie ld s)
    rw [hk_of_only hraise]
    exact ⟨hraise.trans honly, hbad, hraw, hused, hbits.trans (raiseKind_bitsKept _ _ _),
      fun h => ⟨raiseKind_keeps_active _ _ (hshift h).1, (hshift h).2⟩, fun _ => raiseKind_active 0x2E _ _ rfl⟩
  · next hfew => exact ⟨honly, hbad, hraw, hused, hbits, hshift, fun h => absurd h hfew⟩

theorem execSensorDisqualify_disqualifies {s : State} {k : Nat} (hk : k < 12) (hdisagree : nth 0 s.hk.disagree k ≥ 3)
    (hqualified : isDisqualified s k = false) : ∃ i : RaiseInfo, i.port = 7 ∧ exec (.sensorDisqualify k) s
      = .next (escalateSensors (decide (k < 8)) (raiseKind 0x2C i (onHk (disqualify k) s))) :=
  ⟨_, rfl, congrArg Host.Outcome.next (if_pos (by simp [hk, hdisagree, hqualified]))⟩

/-- A sensor that has disagreed in three rounds (R297, R298). -/
theorem sensorDisqualify_acts {s : State} {k : Nat} (hk : k < 12) (hdisagree : nth 0 s.hk.disagree k ≥ 3)
    (hqualified : isDisqualified s k = false) : ∃ t, exec (.sensorDisqualify k) s = .next t
      ∧ (∀ j < 12, isDisqualified t j = (isDisqualified s j || j == k))
      ∧ t.hk.raw = s.hk.raw ∧ t.hk.used = s.hk.used
      ∧ Noted 0x2C 0x13 { s with hk := t.hk } t
      ∧ (2 ≤ badSensors t (k < 8) → isActive t 0x2D 0x13 = true ∧ (if k < 8 then t.hk.shiftLd else t.hk.shiftAd) = true)
      ∧ ((if k < 8 then 4 else 3) ≤ badSensors t (k < 8) → isActive t 0x2E 0x13 = true) := by
  obtain ⟨i, hport, hexec⟩ := execSensorDisqualify_disqualifies hk hdisagree hqualified
  refine ⟨_, hexec, ?_⟩
  have hraise := raiseKind_only 0x2C i (onHk (disqualify k) s)
  obtain ⟨hnoted, -⟩ := raiseKind_noted 0x2C i (onHk (disqualify k) s) rfl (by rw [hport]; decide)
  obtain ⟨honly, hbad, hraw, hused, hbits, hshift, hunknown⟩ :=
    escalateSensors_acts (decide (k < 8)) (raiseKind 0x2C i (onHk (disqualify k) s))
  have hhk := hk_of_only hraise
  have hdisqualified := hbad.trans (congrArg Housekeeping.disqualified hhk)
  rw [← badSensors_of_disqualified hbad] at hshift hunknown
  simp only [decide_eq_true_eq, unknownAt] at hshift hunknown
  refine ⟨fun j hj => ?_, hraw.trans (congrArg Housekeeping.raw hhk :), hused.trans (congrArg Housekeeping.used hhk :),
    ⟨hbits _ _ hnoted, onlyFaultParts_of ?_⟩, hshift, hunknown⟩
  · rw [← isDisqualified_disqualify hj, isDisqualified, isDisqualified]
    exact congrArg (fun x => BitVec.getLsbD x j) hdisqualified
  · rw [honly, outside_hk_of_only hraise]
    rfl

/-! ## Thermal states (R301, R302) -/

theorem settleThrottle_only (s) : Outside.faultParts (settleThrottle s) = Outside.faultParts s := by
  unfold settleThrottle
  split
  · rfl
  · exact clearCondition_only _ _ _

theorem settleThrottle_bitsKept (s) : BitsKept s (settleThrottle s) := by
  unfold settleThrottle
  split
  · exact bitsKept_of_blocks rfl
  · exact bitsKept_of_blocks (clearCondition_blocks _ _ _)

/-- No kind but 0x2B ends with the last location in throttle. -/
theorem isActive_settleThrottle {k u : Nat} (s) (h : k ≠ 0x2B) : isActive (settleThrottle s) k u = isActive s k u := by
  unfold settleThrottle
  split
  · rfl
  · exact isActive_clearCondition_other s fun hsame => h hsame.1

/-- Kind 0x2B ends with the last location in throttle (R302). -/
theorem settleThrottle_ends {s : State} (hnone : s.hk.thermal.contains .throttle = false)
    (hlatch : isLatched s 0x2B = false) : isActive (settleThrottle s) 0x2B 0x13 = false := by
  rw [settleThrottle, if_neg (Bool.eq_false_iff.1 hnone)]
  exact isActive_clearCondition 0x13 rfl hlatch

/-- A location in a new thermal state, with the kind that its entry raises (R301). -/
def raiseThermal (i : RaiseInfo) (l : Location) (x : Thermal) (s : State) : State :=
  match x with
  | .warning => raiseKind 0x2A i (putThermal l x s)
  | .throttle => raiseKind 0x2B i (putThermal l x s)
  | _ => putThermal l x s

theorem enterThermal_raises (l x s) : ∃ i, enterThermal l x s = settleThrottle (raiseThermal i l x s) := by
  refine ⟨⟨locationPort l, 7, locationAddress l, 0, ofSigned 32 (comparedValue s l)⟩, ?_⟩
  cases x <;> rfl

theorem raiseThermal_recoveries (i l x s) : recoveries (raiseThermal i l x s) = recoveries s := by
  cases x
  · rfl
  · exact (raiseKind_recoveries _ _ _).trans rfl
  · exact (raiseKind_recoveries _ _ _).trans rfl
  · rfl

/-- Kind 0x2B is not active once no location is in throttle (R302). -/
theorem enterThermal_ends_throttle {l : Location} {x : Thermal} {s : State}
    (hnone : (enterThermal l x s).hk.thermal.contains .throttle = false) (hlatch : isLatched s 0x2B = false) :
    isActive (enterThermal l x s) 0x2B 0x13 = false := by
  obtain ⟨i, henter⟩ := enterThermal_raises l x s
  rw [henter, hk_of_only (settleThrottle_only _)] at hnone
  rw [henter]
  exact settleThrottle_ends hnone ((isLatched_of_recoveries (raiseThermal_recoveries i l x s) _).trans hlatch)

/-- The entry of the warning state raises kind 0x2A (R301). -/
theorem enterThermal_warns (l s) :
    (blockOf (enterThermal l .warning s) 0x13).bits.getLsbD (kindBit 0x13 0x2A) = true := by
  obtain ⟨i, henter⟩ := enterThermal_raises l .warning s
  obtain ⟨hnoted, -⟩ := raiseKind_noted 0x2A i (putThermal l .warning s) rfl
    (show kindBit 0x13 0x2A < 16 by decide)
  rw [henter]
  exact settleThrottle_bitsKept _ _ _ hnoted

theorem thermalOf_putThermal {l : Location} {s : State} (x) (h : locationIndex l < s.hk.thermal.length) :
    thermalOf (putThermal l x s) l = x := nth_modifyAt _ _ h

theorem thermalOf_putThermal_of_ne {l m : Location} (x) (s : State) (h : locationIndex m ≠ locationIndex l) :
    thermalOf (putThermal l x s) m = thermalOf s m := nth_modifyAt_of_ne _ _ h

theorem thermalOf_of_only {s t : State} (h : Outside.faultParts t = Outside.faultParts s) : thermalOf t = thermalOf s := by
  funext l
  rw [thermalOf, hk_of_only h, thermalOf]

/-- The count of rounds below the clear level begins anew at a location. -/
def resetBelow (l : Location) (s : State) : State :=
  onHk (fun h => { h with below := modifyAt (fun _ => 0) (locationIndex l) h.below }) s

/-- The state one step below. -/
def coolerState (x : Thermal) : Thermal := if x = .throttle then .warning else .normal

theorem execThermalStateFall_falls {s : State} {l : Location} (hbelow : nth 0 s.hk.below (locationIndex l) ≥ 2)
    (hstate : thermalOf s l = .throttle ∨ thermalOf s l = .warning) :
    exec (.thermalStateFall l) s = .next (enterThermal l (coolerState (thermalOf s l)) (resetBelow l s)) := by
  refine congrArg Host.Outcome.next ((if_pos (by simpa using hbelow)).trans ?_)
  rcases hstate with h | h <;> rw [h] <;> rfl

/-- A thermal state falls one step (R301, R302). -/
theorem thermalStateFall_falls {s : State} {l : Location} (hbelow : nth 0 s.hk.below (locationIndex l) ≥ 2)
    (hlen : locationIndex l < s.hk.thermal.length)
    (hstate : thermalOf s l = .throttle ∨ thermalOf s l = .warning) : ∃ t, exec (.thermalStateFall l) s = .next t
      ∧ thermalOf t l = (if thermalOf s l = .throttle then .warning else .normal)
      ∧ (∀ m, locationIndex m ≠ locationIndex l → thermalOf t m = thermalOf s m)
      ∧ OnlyFaultParts { s with hk := t.hk } t
      ∧ (thermalOf s l = .throttle → (blockOf t 0x13).bits.getLsbD (kindBit 0x13 0x2A) = true)
      ∧ (t.hk.thermal.contains .throttle = false → isLatched s 0x2B = false → isActive t 0x2B 0x13 = false) := by
  refine ⟨_, execThermalStateFall_falls hbelow hstate, ?_⟩
  have honly := enterThermal_only l (coolerState (thermalOf s l)) (resetBelow l s)
  rw [thermalOf_of_only honly]
  refine ⟨thermalOf_putThermal _ hlen, fun m hm => thermalOf_putThermal_of_ne _ _ hm, onlyFaultParts_of_hk honly,
    fun hthrottle => ?_, fun hnone hlatch => enterThermal_ends_throttle hnone hlatch⟩
  rw [hthrottle]
  exact enterThermal_warns l _

/-! ## Shutdown and restart of an array (R307) -/

theorem mayEmit_of_shutdown {s : State} {p : Port} (h : thermalOf s (.array p) = .shutdown) : mayEmit s p = false := by
  simp [mayEmit, h]

/-- PORTx_EN falls on a port that may not emit (R224). -/
theorem dropEnables_lowers {s : State} {p : Port} (h : mayEmit s p = false) : ((dropEnables s).link.get p).enable = false := by
  rw [show (dropEnables s).link = s.link.map fun p l => if mayEmit s p then l else { l with enable := false } from rfl,
    perPort_get_map, h]
  rfl

/-- A change of what a port signals is a change of the fault parts. -/
theorem outside_signalled {s t : State} (h : Outside.faultParts t = Outside.faultParts s) :
    Outside.faultParts { s with link := t.link } = Outside.faultParts s := by
  have hlink : t.link.map (fun _ l => signalled {} l) = s.link.map fun _ l => signalled {} l :=
    (congrArg State.link h :)
  show { Outside.faultParts s with link := t.link.map fun _ l => signalled {} l } = _
  rw [hlink]
  rfl

theorem arrayKind_facts (p : Port) : unitOf (arrayKind p) p.num = 0x13 ∧ isStateKind (arrayKind p) = true
    ∧ arrayKind p ≠ 0x2B ∧ (kindRow (arrayKind p)).exit = .condition := by
  cases p <;> decide

theorem execArrayThermalShutdown_shuts {s : State} {p : Port} (hport : hasPort s p = true)
    (hstate : thermalOf s (.array p) ≠ .shutdown)
    (hhot : nth 0 s.hk.hot (2 + p.num) ≥ 2 ∨ s.hk.overTemp.get p = true) : ∃ i : RaiseInfo, i.port = p.num ∧
      exec (.arrayThermalShutdown p) s = .next (dropEnables (settleThrottle (raiseKind (arrayKind p) i
        (putThermal (.array p) .shutdown s)))) :=
  ⟨_, rfl, congrArg Host.Outcome.next (if_pos (by simpa [hport, hstate, locationIndex] using hhot))⟩

/-- An array at its shutdown condition (R307). -/
theorem arrayThermalShutdown_shuts {s : State} {p : Port} (hport : hasPort s p = true)
    (hstate : thermalOf s (.array p) ≠ .shutdown) (hlen : 2 + p.num < s.hk.thermal.length)
    (hhot : nth 0 s.hk.hot (2 + p.num) ≥ 2 ∨ s.hk.overTemp.get p = true) : ∃ t,
      exec (.arrayThermalShutdown p) s = .next t
      ∧ thermalOf t (.array p) = .shutdown ∧ (t.link.get p).enable = false
      ∧ Raised (0x31 + p.num) 0x13 { s with hk := t.hk, link := t.link } t := by
  obtain ⟨i, hi, hexec⟩ := execArrayThermalShutdown_shuts hport hstate hhot
  obtain ⟨hunit, hkind, hother, -⟩ := arrayKind_facts p
  refine ⟨_, hexec, ?_⟩
  generalize hr : settleThrottle _ = r
  have hbefore : Outside.faultParts r = Outside.faultParts (putThermal (.array p) .shutdown s) := by
    rw [← hr, settleThrottle_only, raiseKind_only]
  have hact : isActive r (arrayKind p) 0x13 = true := by
    rw [← hr, isActive_settleThrottle _ hother, ← hunit, ← hi]
    exact raiseKind_active _ _ _ hkind
  have hshut : thermalOf r (.array p) = .shutdown := by
    rw [thermalOf_of_only hbefore]
    exact thermalOf_putThermal (l := .array p) _ hlen
  have honly : Outside.faultParts (dropEnables r) = Outside.faultParts (putThermal (.array p) .shutdown s) :=
    (dropEnables_only r).trans hbefore
  refine ⟨hshut, dropEnables_lowers (mayEmit_of_shutdown hshut), hact, onlyFaultParts_of ?_⟩
  rw [hk_of_only honly, honly]
  exact (outside_signalled honly).symm

/-- The counts of rounds at the shutdown and the restart condition begin anew at a location. -/
def resetRounds (l : Location) (s : State) : State :=
  onHk (fun h => { h with
    cool := modifyAt (fun _ => 0) (locationIndex l) h.cool
    hot := modifyAt (fun _ => 0) (locationIndex l) h.hot }) s

theorem execArrayRestart_restarts {s : State} {p : Port} (hstate : thermalOf s (.array p) = .shutdown)
    (hcool : nth 0 s.hk.cool (2 + p.num) ≥ 2) : exec (.arrayRestart p) s
      = .next (clearCondition (arrayKind p) 0x13 (enterThermal (.array p)
          (impliedState (thresholdsOf s (.array p)) (comparedValue s (.array p))) (resetRounds (.array p) s))) :=
  congrArg Host.Outcome.next (if_pos (by simpa [hstate, locationIndex] using hcool))

/-- An array that has cooled down (R301, R307). -/
theorem arrayRestart_restarts {s : State} {p : Port} (hstate : thermalOf s (.array p) = .shutdown)
    (hlen : 2 + p.num < s.hk.thermal.length) (hcool : nth 0 s.hk.cool (2 + p.num) ≥ 2) : ∃ t,
      exec (.arrayRestart p) s = .next t
      ∧ thermalOf t (.array p) = impliedState (thresholdsOf s (.array p)) (comparedValue s (.array p))
      ∧ OnlyFaultParts { s with hk := t.hk } t
      ∧ (isLatched s (0x31 + p.num) = false → isActive t (0x31 + p.num) 0x13 = false) := by
  refine ⟨_, execArrayRestart_restarts hstate hcool, ?_⟩
  generalize impliedState _ _ = x
  have honly := (clearCondition_only (arrayKind p) 0x13 (enterThermal (.array p) x (resetRounds (.array p) s))).trans
    (enterThermal_only _ _ _)
  refine ⟨?_, onlyFaultParts_of_hk honly, fun hlatch => ?_⟩
  · rw [thermalOf_of_only honly]
    exact thermalOf_putThermal (l := .array p) _ hlen
  · exact isActive_clearCondition 0x13 (arrayKind_facts p).2.2.2
      ((isLatched_of_recoveries (enterThermal_recoveries _ _ _) _).trans hlatch)

/-! ## Reference and port supply (R181, R296) -/

theorem referenceDisagreement_raises {s : State} (hbad : s.hk.refBad ≥ 2) :
    ∃ t, exec .referenceDisagreement s = .next t ∧ Raised 0x36 0x14 s t :=
  ⟨_, congrArg Host.Outcome.next (if_pos hbad), raiseKind_raised 0x36 {} s rfl⟩

theorem supplyKind_facts (p : Port) : unitOf (supplyKind p) p.num = 0x0A + p.num ∧ isStateKind (supplyKind p) = true := by
  cases p <;> decide

theorem portSupplyInsufficient_raises {s : State} {p : Port} (hlow : (s.headroom.get p).lowRounds ≥ 8) :
    ∃ t, exec (.portSupplyInsufficient p) s = .next t ∧ Raised (0x1F + p.num) (0x0A + p.num) s t := by
  obtain ⟨hunit, hkind⟩ := supplyKind_facts p
  refine ⟨_, congrArg Host.Outcome.next (if_pos hlow), ?_⟩
  rw [← hunit]
  exact raiseKind_raised (supplyKind p) { port := p.num } s hkind

/-! ## The zone models (R312, R313) -/

theorem modelOf_onModel (p : Port) (f) (s : State) : modelOf (onModel p f s) p = f (modelOf s p) :=
  perPort_get_modify_self _ _ _

theorem modelOf_onModel_of_ne {p q : Port} (f) (s : State) (h : q ≠ p) : modelOf (onModel p f s) q = modelOf s q :=
  perPort_get_modify_of_ne _ _ h

theorem modelOf_of_only {s t : State} (h : Outside.faultParts t = Outside.faultParts s) : modelOf t = modelOf s := by
  funext p
  rw [modelOf, toll_of_only h, modelOf]

/-- A sensor is used no longer (R312). -/
def dropSensor (q : Nat) (m : ThermalModel) : ThermalModel :=
  { m with sensorOut := modifyAt (fun _ => true) q m.sensorOut }

theorem execArraySensorDisqualify_drops {s : State} {p : Port} {q : Nat} (hq : q < 4)
    (hbad : nth 0 (modelOf s p).sensorBad q ≥ 3) (hused : nth false (modelOf s p).sensorOut q = false) :
    ∃ i : RaiseInfo, exec (.arraySensorDisqualify p q) s = .next (raiseKind 0x30 i (onModel p (dropSensor q) s)) :=
  ⟨_, congrArg Host.Outcome.next (if_pos (by simp [hq, hbad, hused]))⟩

/-- The sensors that are out once one more is. -/
theorem nth_dropSensor {m : ThermalModel} {q : Nat} (hq : q < m.sensorOut.length) (r : Nat) :
    nth false (dropSensor q m).sensorOut r = (nth false m.sensorOut r || r == q) := by
  by_cases hr : r = q
  · subst hr
    rw [beq_self_eq_true, Bool.or_true]
    exact nth_modifyAt false _ hq
  · rw [beq_false_of_ne hr, Bool.or_false]
    exact nth_modifyAt_of_ne false _ hr

/-- A sensor of an array that has differed in three rounds (R312). -/
theorem arraySensorDisqualify_drops {s : State} {p : Port} {q : Nat} (hq : q < 4)
    (hbad : nth 0 (modelOf s p).sensorBad q ≥ 3) (hlen : (modelOf s p).sensorOut.length = 4)
    (hused : nth false (modelOf s p).sensorOut q = false) : ∃ t, exec (.arraySensorDisqualify p q) s = .next t
      ∧ modelOf t p = { modelOf s p with sensorOut := (modelOf t p).sensorOut }
      ∧ (∀ r < 4, nth false (modelOf t p).sensorOut r = (nth false (modelOf s p).sensorOut r || r == q))
      ∧ (∀ r, r ≠ p → modelOf t r = modelOf s r) ∧ Noted 0x30 0x13 { s with toll := t.toll } t := by
  obtain ⟨i, hexec⟩ := execArraySensorDisqualify_drops hq hbad hused
  have honly := raiseKind_only 0x30 i (onModel p (dropSensor q) s)
  obtain ⟨hnoted, -⟩ := raiseKind_noted 0x30 i (onModel p (dropSensor q) s) rfl (show kindBit 0x13 0x30 < 16 by decide)
  refine ⟨_, hexec, ?_⟩
  rw [modelOf_of_only honly, modelOf_onModel]
  exact ⟨rfl, fun r _ => nth_dropSensor (hlen ▸ hq) r, fun r hr => modelOf_onModel_of_ne _ s hr, hnoted,
    onlyFaultParts_of_toll honly⟩

/-- A model begins to diverge (R313). -/
def divergedModel (m : ThermalModel) : ThermalModel :=
  { m with divergent := true, reinit := true, reinited := false, goodSince := 0 }

theorem execTollModelDivergence_diverges {s : State} {p : Port} (hcount : (modelOf s p).diverge ≥ 64)
    (hcalm : (modelOf s p).divergent = false) : ∃ i : RaiseInfo,
      exec (.tollModelDivergence p) s = .next (raiseKind 0x35 i (onModel p divergedModel s)) :=
  ⟨_, congrArg Host.Outcome.next (if_pos (by simp [hcount, hcalm]))⟩

/-- A model has differed from its sensors in 64 rounds (R313). -/
theorem tollModelDivergence_raises {s : State} {p : Port} (hcount : (modelOf s p).diverge ≥ 64)
    (hcalm : (modelOf s p).divergent = false) : ∃ t, exec (.tollModelDivergence p) s = .next t
      ∧ t.toll = { s.toll with models := s.toll.models.set p (divergedModel (modelOf s p)) }
      ∧ Raised 0x35 0x13 { s with toll := t.toll } t := by
  obtain ⟨i, hexec⟩ := execTollModelDivergence_diverges hcount hcalm
  have honly := raiseKind_only 0x35 i (onModel p divergedModel s)
  exact ⟨_, hexec, toll_of_only honly, raiseKind_active 0x35 i _ rfl, onlyFaultParts_of_toll honly⟩

/-- A model no longer diverges (R313). -/
def agreedModel (m : ThermalModel) : ThermalModel :=
  { m with divergent := false, reinit := false, reinited := false }

theorem execModelDivergenceClear_agrees {s : State} {p : Port} (hcount : (modelOf s p).agree ≥ 64)
    (hdivergent : (modelOf s p).divergent = true) : exec (.modelDivergenceClear p) s
      = .next (if Port.all.any fun q => (modelOf (onModel p agreedModel s) q).divergent then onModel p agreedModel s
          else clearCondition 0x35 0x13 (onModel p agreedModel s)) :=
  congrArg Host.Outcome.next (if_pos (by simp [hcount, hdivergent]))

/-- 64 good rounds end the divergence of a model, and kind 0x35 with the last of them (R313). -/
theorem modelDivergenceClear_ends {s : State} {p : Port} (hcount : (modelOf s p).agree ≥ 64)
    (hdivergent : (modelOf s p).divergent = true) : ∃ t, exec (.modelDivergenceClear p) s = .next t
      ∧ t.toll = { s.toll with models := s.toll.models.set p (agreedModel (modelOf s p)) }
      ∧ OnlyFaultParts { s with toll := t.toll } t
      ∧ ((∃ q, (modelOf t q).divergent = true) → t = { s with toll := t.toll })
      ∧ ((∀ q, (modelOf t q).divergent = false) → isLatched s 0x35 = false →
          (∀ a ∈ s.faults.active, a.kind = 0x35 → a.escalated = false) → isActive t 0x35 0x13 = false) := by
  refine ⟨_, execModelDivergenceClear_agrees hcount hdivergent, ?_⟩
  split
  · next hsome =>
    obtain ⟨q, -, hq⟩ := List.any_eq_true.1 hsome
    exact ⟨rfl, onlyFaultParts_of rfl, fun _ => rfl, fun hnone => absurd (hnone q) (by simp [hq])⟩
  · next hnone =>
    have honly := clearCondition_only 0x35 0x13 (onModel p agreedModel s)
    refine ⟨toll_of_only honly, onlyFaultParts_of_toll honly, fun ⟨q, hq⟩ => absurd ?_ hnone, fun _ hlatch hcalm =>
      isActive_clearCondition_privileged 0x13 rfl hlatch hcalm⟩
    rw [modelOf_of_only honly] at hq
    exact List.any_eq_true.2 ⟨q, port_mem_all q, hq⟩

/-! ## The statement -/

/-- Settles O27: each decision does what its lemma above says. -/
theorem thermalDecisionsAct : Obligations.ThermalDecisionsAct :=
  ⟨fun _ _ hk hcore hdisagree => crossCheck_disagreeing hk hcore hdisagree,
    fun _ _ hk hdisagree hqualified => sensorDisqualify_acts hk hdisagree hqualified,
    fun _ _ hbelow hlen hstate => thermalStateFall_falls hbelow hlen hstate,
    fun _ _ hport hstate hlen hhot => arrayThermalShutdown_shuts hport hstate hlen hhot,
    fun _ _ hstate hlen hcool => arrayRestart_restarts hstate hlen hcool,
    fun _ hbad => referenceDisagreement_raises hbad,
    fun _ _ hlow => portSupplyInsufficient_raises hlow,
    fun _ _ _ hq hbad hlen hused => arraySensorDisqualify_drops hq hbad hlen hused,
    fun _ _ hcount hcalm => tollModelDivergence_raises hcount hcalm,
    fun _ _ hcount hdivergent => modelDivergenceClear_ends hcount hdivergent⟩

end Sys2Proof.Laws
end

section
/-!
The Toll's scales, ageing, the write-back and the full-scale estimate (R172 to R175, R315 to R318, R362).
-/

namespace Sys2Proof.Laws

open Sys2Proof Sys2Proof.Machine

/-! ## The scales of a solution (R317) -/

/-- Four scales, none above 1.0, and that of P0 at 1.0. -/
def ScalesBounded (sc : List Nat) : Prop :=
  sc.length = 4 ∧ (∀ k, nth 0 sc k ≤ fullScale32) ∧ nth 0 sc 0 = fullScale32

theorem fullScales_bounded : ScalesBounded [fullScale32, fullScale32, fullScale32, fullScale32] :=
  ⟨rfl, fun k => match k with
    | 0 | 1 | 2 | 3 => Nat.le_refl _
    | _ + 4 => Nat.zero_le _, rfl⟩

/-- Lowering the scale of a class other than P0. -/
theorem lowerFor_bounded {w : Table} {k : Nat} {sc : List Nat} (hk : k ≠ 0) (c : Constraint) (h : ScalesBounded sc) :
    ScalesBounded (lowerFor w k sc c) := by
  obtain ⟨hlen, hle, hzero⟩ := h
  unfold lowerFor
  dsimp only
  split
  · exact ⟨hlen, hle, hzero⟩
  · refine ⟨by rw [length_modifyAt, hlen], fun j => ?_, by rw [nth_modifyAt_of_ne _ _ hk.symm, hzero]⟩
    by_cases hj : j = k
    · subst hj
      by_cases hlt : j < sc.length
      · rw [nth_modifyAt _ _ hlt]
        exact Nat.le_trans (Nat.min_le_left _ _) (hle j)
      · rw [nth, List.getD_eq_default _ _ (by rw [length_modifyAt]; omega)]
        exact Nat.zero_le _
    · rw [nth_modifyAt_of_ne _ _ hj]
      exact hle j

theorem lowerAll_bounded {w : Table} {k : Nat} {sc : List Nat} (hk : k ≠ 0) (cs : List Constraint)
    (h : ScalesBounded sc) : ScalesBounded (if cs.all (isMet w sc) then sc else cs.foldl (lowerFor w k) sc) := by
  split
  · exact h
  · exact List.foldlRecOn cs (lowerFor w k) h fun _ hsc c _ => lowerFor_bounded hk c hsc

theorem solveToll_bounded (w : Table) (cs : List Constraint) : ScalesBounded (solveToll w cs) :=
  List.foldlRecOn [3, 2, 1] _ fullScales_bounded fun _ hsc k hk =>
    lowerAll_bounded (fun h0 => absurd (h0 ▸ hk) (by decide)) cs hsc

/-- A scale of the solution as it is queued, u1.15. -/
theorem nth_truncScale (sc : List Nat) (k : Nat) : nth 0 (sc.map truncScale) k = truncScale (nth 0 sc k) :=
  List.getD_map sc 0 truncScale

theorem tollStateOf_lt (s w cs sc) : tollStateOf s w cs sc < 4 := by
  unfold tollStateOf
  dsimp only
  split
  · decide
  · split
    · decide
    · split <;> decide

/-! ## The Toll computation (R315, R317, R322) -/

/-- The solution for the oldest frame that waits is queued and published. -/
def tollComputed (m : Measured) (ms : List Measured) (s : State) : State :=
  publishToll { s with toll := { s.toll with
    w := updateW s m
    coming := s.toll.coming ++ [(m.frame + 2, (solveToll (updateW s m) (constraints s)).map truncScale)]
    measured := ms
    stateNext := tollStateOf s (updateW s m) (constraints s) (solveToll (updateW s m) (constraints s)) } }

theorem execTollComputationDone_computes {s : State} {m ms} (hready : cpReady s = true)
    (hwaits : s.toll.measured = m :: ms) : exec .tollComputationDone s = .next (tollComputed m ms s) := by
  show execTollComputationDone s = _
  simp only [execTollComputationDone, hwaits, hready, Bool.not_true, Bool.false_eq_true, if_false]
  rfl

/-- What the computation leaves. -/
theorem tollComputed_acts (m ms) (s : State) : ∃ new,
    tollComputed m ms s = { s with toll := { s.toll with
      w := (tollComputed m ms s).toll.w, coming := s.toll.coming ++ [(m.frame + 2, new)], measured := ms
      stateNext := (tollComputed m ms s).toll.stateNext, portToll := (tollComputed m ms s).toll.portToll
      total := (tollComputed m ms s).toll.total } }
    ∧ (tollComputed m ms s).toll.stateNext < 4 ∧ new.length = 4 ∧ nth 0 new 0 = 0x8000 ∧ (∀ k < 4, nth 0 new k ≤ 0x8000)
    ∧ (∀ p, (tollComputed m ms s).toll.portToll.get p = portAllowance s p * s.hk.m / 32768)
    ∧ (tollComputed m ms s).toll.total = totalAllowance s * s.hk.m / 32768 := by
  obtain ⟨hlen, hle, hzero⟩ := solveToll_bounded (updateW s m) (constraints s)
  refine ⟨_, rfl, tollStateOf_lt _ _ _ _, by rw [List.length_map, hlen], by rw [nth_truncScale, hzero]; rfl,
    fun k _ => ?_, fun p => perPort_get_map _ _ p, rfl⟩
  rw [nth_truncScale]
  exact Nat.div_le_div_right (hle k)

/-! ## The scales in force (R318) -/

/-- The solutions that have come due for a frame. -/
def dueScales (epoch : BitVec 32) (s : State) : List (BitVec 32 × List Nat) :=
  s.toll.coming.filter fun e => decide ((epoch - e.1).toNat < 2 ^ 31)

theorem takeScales_none {epoch : BitVec 32} {s : State} (h : dueScales epoch s = []) :
    (takeScales epoch s).toll.scales = s.toll.scales := by
  have hlast : (dueScales epoch s).getLast? = none := by rw [h]; rfl
  unfold takeScales
  simp only [dueScales] at hlast
  simp only [hlast]
  split <;> rfl

theorem takeScales_some {epoch : BitVec 32} {s : State} {e : BitVec 32 × List Nat}
    (h : (dueScales epoch s).getLast? = some e) : (takeScales epoch s).toll.scales
      = (List.range 4).map fun k => moveScale (nth 0x8000 s.toll.scales k) (nth 0x8000 e.2 k) := by
  unfold takeScales
  simp only [dueScales] at h
  simp only [h]
  split <;> rfl

/-! ## The words of the pixels -/

/-- The queue, the words in application and the map. -/
def pixelWords (s : State) : List CalUpdate × List CalUpdate × List (Nat × BitVec 32) :=
  (s.drive.queue, s.drive.applying, s.drive.calMap)

theorem latestWord_of_words {s t : State} (h : pixelWords t = pixelWords s) : latestWord t = latestWord s := by
  simp only [pixelWords, Prod.mk.injEq] at h
  obtain ⟨hqueue, happlying, hmap⟩ := h
  funext x
  simp only [latestWord, calWord, hqueue, happlying, hmap]

theorem wordAge_lt (w : BitVec 32) : wordAge w < 256 := Nat.mod_lt _ (by decide)

/-- The Age field of a word is read back (R150). -/
theorem wordAge_makeWord (gain trim boost : Nat) (excluded : Bool) {age : Nat} (hage : age < 256) :
    wordAge (makeWord gain trim age excluded boost) = age := by
  have hexcluded : ofBool excluded ≤ 1 := by cases excluded <;> decide
  simp only [wordAge, bitsOf_eq, makeWord, BitVec.toNat_ofNat]
  omega

/-- A word that finds its place in the queue is the newest of its pixel (R169). -/
theorem latestWord_queueWord {s : State} (x : Nat) (w : BitVec 32)
    (hroom : s.drive.queue.length + s.drive.applying.length < queueLimit) : latestWord (queueWord x w s) x = w := by
  by_cases hwaits : (s.drive.queue.any fun u => u.pixel == x) = true
  · have hsome : ((s.drive.queue.map fun u => if u.pixel == x then ⟨x, w⟩ else u).find? fun u => u.pixel == x).isSome := by
      obtain ⟨u, hu, hpixel⟩ := List.any_eq_true.1 hwaits
      refine List.find?_isSome.2 ⟨⟨x, w⟩, List.mem_map.2 ⟨u, hu, if_pos hpixel⟩, beq_self_eq_true x⟩
    obtain ⟨v, hv⟩ := Option.isSome_iff_exists.1 hsome
    have hword : v.word = w := by
      obtain ⟨u, -, rfl⟩ := List.mem_map.1 (List.mem_of_find?_eq_some hv)
      have hpixel := List.find?_some hv
      by_cases hu : (u.pixel == x) = true
      · rw [if_pos hu]
      · rw [if_neg hu] at hpixel
        exact absurd hpixel hu
    rw [queueWord, if_pos hwaits]
    simp only [latestWord, hv, hword]
  · have hnone : s.drive.queue.find? (fun u => u.pixel == x) = none :=
      List.find?_eq_none.2 fun u hu hpixel => hwaits (List.any_eq_true.2 ⟨u, hu, hpixel⟩)
    rw [queueWord, if_neg hwaits, if_pos hroom]
    simp [latestWord, List.find?_append, hnone]

/-! ## A pixel becomes weak (R173, R329) -/

theorem tableGet_tablePut {d k v : Nat} (hv : v ≠ d) : ∀ t : Table, tableGet d k (tablePut d k v t) = v
  | [] => by simp [tablePut, tableGet, hv]
  | (k', v') :: t => by
    rw [tablePut, if_neg hv, if_neg hv]
    split
    · simp [tableGet]
    · split
      · simp [tableGet]
      · next hne =>
        rw [tableGet, if_neg (Ne.symm hne)]
        exact tableGet_tablePut hv t

theorem statusOf_putStatus {p : Port} {i code : Nat} (s : State) (hcode : code ≠ 0) :
    statusOf (putStatus p i code s) p i = code := by
  have hget : (putStatus p i code s).pixels.get p = _ := perPort_get_modify_self s.pixels p _
  rw [statusOf, hget]
  exact tableGet_tablePut hcode _

/-- A weak pixel has no neighbours to boost (R336). -/
theorem concealPixel_weak {p : Port} {i : Nat} {s : State} (hweak : statusOf s p i = 4) : concealPixel p i s = s :=
  if_neg (by simp [hweak])

/-- The CP's treatment of a weak pixel excludes and conceals nothing (R329, R336). -/
theorem treatPixel_weak {p : Port} {i : Nat} {s : State} (hweak : statusOf s p i = 4) :
    treatPixel p i s = putMaster { masterOf s (p.num * 524288 + i) with status := 4 } s := by
  have hplain : excludes 4 = false := by decide
  unfold treatPixel
  simp only [hweak, hplain, Bool.false_eq_true, if_false]
  exact concealPixel_weak hweak

theorem markWeak_words (p : Port) (i : Nat) {s : State} (hready : cpReady s = true) :
    pixelWords (markWeak p i s) = pixelWords s := by
  unfold markWeak
  dsimp only
  split
  · have htreated : cpReady (putStatus p i 4 s) = true := hready
    rw [treatOrWait, if_pos htreated, treatPixel_weak (statusOf_putStatus s (by decide))]
    rfl
  · rfl

/-! ## The end of an averaging period (R171 to R173) -/

theorem targetAge_le (slope a) : targetAge slope a ≤ 255 := by
  unfold targetAge clampInt
  omega

/-- A pixel at its target age keeps its word (R172). -/
theorem agePixel_of_reached {s : State} {a : AgeSum}
    (h : targetAge (cfg s (0x4200 + (portOfPixel a.pixel).num) 1) a ≤ wordAge (latestWord s a.pixel)) :
    agePixel s a = s :=
  if_pos h

/-- A pixel below its target age has its Age raised by one step (R172, R173). -/
theorem agePixel_raises {s : State} {a : AgeSum} (hready : cpReady s = true)
    (hroom : s.drive.queue.length + s.drive.applying.length < queueLimit)
    (h : wordAge (latestWord s a.pixel) < targetAge (cfg s (0x4200 + (portOfPixel a.pixel).num) 1) a) :
    wordAge (latestWord (agePixel s a) a.pixel) = wordAge (latestWord s a.pixel) + 1 := by
  have hage : wordAge (latestWord s a.pixel) + 1 < 256 := by
    have htarget := targetAge_le (cfg s (0x4200 + (portOfPixel a.pixel).num) 1) a
    omega
  generalize hword : agedWord (latestWord s a.pixel) (masterOf s a.pixel).correction
    (wordAge (latestWord s a.pixel) + 1) = r
  have hnew : wordAge r.1 = wordAge (latestWord s a.pixel) + 1 := by
    rw [← hword]
    exact wordAge_makeWord _ _ _ _ hage
  have hcp : cpReady (queueWord a.pixel r.1 s) = true :=
    (congrArg (fun x : State => cpReady x) (queueWord_frame a.pixel r.1 s) :).trans hready
  have hqueued : pixelWords (agePixel s a) = pixelWords (queueWord a.pixel r.1 s) := by
    unfold agePixel
    dsimp only
    rw [if_neg (Nat.not_le.2 h), hword]
    split
    · rw [markWeak_words]
      · rfl
      · exact hcp
    · rfl
  rw [latestWord_of_words hqueued, latestWord_queueWord _ _ hroom, hnew]

/-- The averages begin anew (R171). -/
def clearAges (s : State) : State := { s with drive := { s.drive with ages := [] } }

theorem execAgeAveragingPeriod_averages {s : State} (hready : cpReady s = true) (hstate : s.toll.state ≤ 2) :
    exec .ageAveragingPeriod s = .next (clearAges (s.drive.ages.foldl agePixel s)) :=
  congrArg Host.Outcome.next (if_pos (by simp [hready, hstate]))

theorem foldl_agePixel_of_reached {s : State} {xs : List AgeSum} (h : ∀ a ∈ xs,
    targetAge (cfg s (0x4200 + (portOfPixel a.pixel).num) 1) a ≤ wordAge (latestWord s a.pixel)) :
    xs.foldl agePixel s = s := by
  induction xs with
  | nil => rfl
  | cons a xs ih =>
    rw [List.foldl_cons, agePixel_of_reached (h a List.mem_cons_self), ih fun b hb => h b (List.mem_cons_of_mem a hb)]

/-- The end of an averaging period (R171 to R173). -/
theorem ageAveragingPeriod_ages {s : State} (hready : cpReady s = true) (hstate : s.toll.state ≤ 2) :
    ∃ t, exec .ageAveragingPeriod s = .next t ∧ t.drive.ages = []
      ∧ ((∀ a ∈ s.drive.ages, targetAge (cfg s (0x4200 + (portOfPixel a.pixel).num) 1) a ≤ wordAge (latestWord s a.pixel)) →
          t = { s with drive := { s.drive with ages := [] } })
      ∧ (∀ a, s.drive.ages = [a] → s.drive.queue.length + s.drive.applying.length < queueLimit →
          wordAge (latestWord s a.pixel) < targetAge (cfg s (0x4200 + (portOfPixel a.pixel).num) 1) a →
          wordAge (latestWord t a.pixel) = wordAge (latestWord s a.pixel) + 1) := by
  refine ⟨_, execAgeAveragingPeriod_averages hready hstate, rfl, fun hreached => ?_, fun a hone hroom hbelow => ?_⟩
  · rw [foldl_agePixel_of_reached hreached]
    rfl
  · rw [hone]
    exact agePixel_raises hready hroom hbelow

/-! ## The write-back of ages (R173) -/

theorem masterOf_pixel (s : State) (x : Nat) : (masterOf s x).pixel = x := by
  unfold masterOf
  cases h : s.drive.master.find? fun m => m.pixel == x with
  | none => rfl
  | some m => exact eq_of_beq (List.find?_some (p := fun m : MasterPixel => m.pixel == x) h)

theorem masterOf_putMaster (m : MasterPixel) (s : State) : masterOf (putMaster m s) m.pixel = m := by
  simp [masterOf, putMaster]

theorem masterOf_putMaster_of_ne {m : MasterPixel} {x : Nat} (s : State) (h : x ≠ m.pixel) :
    masterOf (putMaster m s) x = masterOf s x := by
  have hrest : (s.drive.master.filter fun y => y.pixel != m.pixel).find? (fun y => y.pixel == x)
      = s.drive.master.find? fun y => y.pixel == x := by
    rw [List.find?_filter]
    congr 1
    funext y
    by_cases hy : y.pixel = x
    · simp [hy, h]
    · simp [hy]
  simp only [masterOf, putMaster, List.find?_cons, beq_false_of_ne (Ne.symm h), hrest]

/-- The record of one pixel takes its Age (R173). -/
def writebackAge (s : State) (e : Nat × BitVec 32) : State :=
  if wordAge e.2 = wordAge (masterOf s e.1).word then s
  else putMaster { masterOf s e.1 with
    word := makeWord (wordGain e.2) (wordTrim e.2) (wordAge e.2) (wordExcluded (masterOf s e.1).word)
      (wordBoost (masterOf s e.1).word) } s

theorem writebackAge_own (s : State) (e : Nat × BitVec 32) :
    wordAge (masterOf (writebackAge s e) e.1).word = wordAge e.2 := by
  unfold writebackAge
  split
  · next hsame => exact hsame.symm
  · generalize hm : ({ masterOf s e.1 with word := _ } : MasterPixel) = m
    have hpixel : m.pixel = e.1 := by rw [← hm]; exact masterOf_pixel s e.1
    rw [← hpixel, masterOf_putMaster, ← hm]
    exact wordAge_makeWord _ _ _ _ (wordAge_lt _)

theorem writebackAge_other {s : State} {e : Nat × BitVec 32} {x : Nat} (h : e.1 ≠ x) :
    masterOf (writebackAge s e) x = masterOf s x := by
  unfold writebackAge
  split
  · rfl
  · exact masterOf_putMaster_of_ne s (by rw [masterOf_pixel]; exact h.symm)

theorem foldl_writebackAge_other {x : Nat} : ∀ {es : List (Nat × BitVec 32)} (s : State), (∀ e ∈ es, e.1 ≠ x) →
    masterOf (es.foldl writebackAge s) x = masterOf s x
  | [], _, _ => rfl
  | e :: es, s, h => by
    rw [List.foldl_cons, foldl_writebackAge_other _ fun f hf => h f (List.mem_cons_of_mem e hf),
      writebackAge_other (h e List.mem_cons_self)]

theorem foldl_writebackAge_own {es : List (Nat × BitVec 32)} (s : State) (hnodup : (es.map (·.1)).Nodup) :
    ∀ e ∈ es, wordAge (masterOf (es.foldl writebackAge s) e.1).word = wordAge e.2 := by
  induction es generalizing s with
  | nil => exact fun _ he => absurd he List.not_mem_nil
  | cons f es ih =>
    obtain ⟨hf, hrest⟩ := List.nodup_cons.1 hnodup
    intro e he
    rw [List.foldl_cons]
    rcases List.mem_cons.1 he with rfl | hmem
    · rw [foldl_writebackAge_other _ fun g hg heq => hf (List.mem_map.2 ⟨g, hg, heq⟩), writebackAge_own]
    · exact ih _ hrest e hmem

theorem foldl_writebackAge_master (es : List (Nat × BitVec 32)) (s : State) : es.foldl writebackAge s
    = { s with drive := { s.drive with master := (es.foldl writebackAge s).drive.master } } := by
  induction es generalizing s with
  | nil => rfl
  | cons e es ih =>
    have hone : writebackAge s e = { s with drive := { s.drive with master := (writebackAge s e).drive.master } } := by
      unfold writebackAge
      split <;> rfl
    rw [List.foldl_cons, ih (writebackAge s e), hone]

/-- The write-back (R173). -/
theorem ageWriteback_copies {s : State} (hready : cpReady s = true) (hstate : s.toll.state ≤ 2) :
    ∃ t, exec .ageWriteback s = .next t
      ∧ t = { s with drive := { s.drive with master := t.drive.master } }
      ∧ (∀ x, (∀ e ∈ s.drive.calMap, e.1 ≠ x) → masterOf t x = masterOf s x)
      ∧ ((s.drive.calMap.map (·.1)).Nodup → ∀ e ∈ s.drive.calMap, wordAge (masterOf t e.1).word = wordAge e.2) :=
  ⟨_, congrArg Host.Outcome.next (if_pos (by simp [hready, hstate])), foldl_writebackAge_master _ s,
    fun _ hunlisted => foldl_writebackAge_other s hunlisted, fun hnodup => foldl_writebackAge_own s hnodup⟩

end Sys2Proof.Laws
end

section
/-!
The full-scale estimate, and the last good correction that comes back after a divergence (R174, R175, R362).
-/

namespace Sys2Proof.Laws

open Sys2Proof Sys2Proof.Machine

/-! ## The full-scale estimate (R174, R175) -/

/-- The full-scale estimation of a port. -/
def scaleOf (s : State) (p : Port) : FullScale := s.drive.fullScale.get p

theorem scaleOf_onFullScale (p : Port) (f) (s : State) : scaleOf (onFullScale p f s) p = f (scaleOf s p) :=
  perPort_get_modify_self _ _ _

theorem scaleOf_onFullScale_of_ne {p q : Port} (f) (s : State) (h : q ≠ p) :
    scaleOf (onFullScale p f s) q = scaleOf s q := perPort_get_modify_of_ne _ _ h

theorem scaleOf_of_drive {s t : State} (h : t.drive = s.drive) : scaleOf t = scaleOf s := by
  funext p
  rw [scaleOf, h, scaleOf]

theorem scaleOf_of_only {s t : State} (h : Outside.faultParts t = Outside.faultParts s) : scaleOf t = scaleOf s :=
  scaleOf_of_drive (congrArg State.drive h :)

theorem rebuildSteps_drive (p s) : (rebuildSteps p s).drive = s.drive := (congrArg State.drive (rebuildSteps_frame p s) :)

theorem journalCorrection_drive (p old s) : (journalCorrection p old s).drive = s.drive :=
  (congrArg State.drive (journalCorrection_frame p old s) :)

/-- A correction moves within its bounds (R175). -/
theorem moveCorrection_bounds (old k : Nat) : 0x6666 ≤ moveCorrection old k ∧ moveCorrection old k ≤ 0xA000 :=
  ⟨Nat.le_max_left _ _, Nat.max_le.2 ⟨by decide, Nat.min_le_left _ _⟩⟩

/-- A correction in its bounds moves by at most 0x0020 (R175). -/
theorem moveCorrection_step {old k : Nat} (hlow : 0x6666 ≤ old) (hhigh : old ≤ 0xA000) :
    moveCorrection old k ≤ old + 0x20 ∧ old ≤ moveCorrection old k + 0x20 := by
  unfold moveCorrection
  dsimp only
  split <;> omega

/-- An estimate within its band is published, moves the correction and ends a freeze (R175). -/
def goodEstimate (k : Nat) (f : FullScale) : FullScale :=
  { f with estimate := k, frozen := false, correction := moveCorrection f.correction k }

theorem scaleOf_takeEstimate_good {p : Port} {k : Nat} {s : State} (hgood : kGood k = true) :
    scaleOf (takeEstimate p k s) p = goodEstimate k (scaleOf s p) := by
  unfold takeEstimate
  rw [if_pos hgood]
  dsimp only
  rw [apply_ite scaleOf, scaleOf_of_only (clearCondition_only _ _ _), ite_self,
    scaleOf_of_drive (journalCorrection_drive _ _ _), scaleOf_of_drive (rebuildSteps_drive _ _), scaleOf_onFullScale,
    scaleOf_onFullScale]
  rfl

/-- An estimate outside its band is published and freezes the correction (R175). -/
theorem takeEstimate_bad {p : Port} {k : Nat} {s : State} (hbad : kGood k = false) :
    scaleOf (takeEstimate p k s) p = { scaleOf s p with estimate := k, frozen := true }
    ∧ isActive (takeEstimate p k s) 0x42 0x1C = true := by
  unfold takeEstimate
  rw [if_neg (by simp [hbad])]
  constructor
  · rw [scaleOf_onFullScale, scaleOf_of_only (raiseKind_only _ _ _), scaleOf_onFullScale]
  · exact raiseKind_active 0x42 { port := p.num } _ rfl

/-- The window of samples ends, and with an estimate in it that estimate is taken. -/
theorem execFullScaleEstimate_ends {s : State} {p : Port} (hready : cpReady s = true) (hstate : s.toll.state ≤ 1)
    (hrounds : (scaleOf s p).rounds ≥ 4096) :
    (fitK (scaleOf s p) = none → exec (.fullScaleEstimate p) s = .next (onFullScale p clearWindow s))
    ∧ ∀ k, fitK (scaleOf s p) = some k →
        exec (.fullScaleEstimate p) s = .next (takeEstimate p k (onFullScale p clearWindow s)) := by
  have hruns : (cpReady s && decide (s.toll.state ≤ 1) && decide ((s.drive.fullScale.get p).rounds ≥ 4096)) = true := by
    rw [hready, decide_eq_true hstate]
    exact decide_eq_true hrounds
  have hexec : exec (.fullScaleEstimate p) s = execFullScaleEstimate p s := rfl
  unfold scaleOf
  constructor
  · intro hfit
    rw [hexec, execFullScaleEstimate]
    simp only [hruns, if_true, hfit]
  · intro k hfit
    rw [hexec, execFullScaleEstimate]
    simp only [hruns, if_true, hfit]

/-- The end of 4,096 rounds of samples (R174, R175). -/
theorem fullScaleEstimate_takes {s : State} {p : Port} (hready : cpReady s = true) (hstate : s.toll.state ≤ 1)
    (hrounds : (scaleOf s p).rounds ≥ 4096) : ∃ t, exec (.fullScaleEstimate p) s = .next t
      ∧ (scaleOf t p).rounds = 0
      ∧ (fitK (scaleOf s p) = none → scaleOf t p = clearWindow (scaleOf s p))
      ∧ ∀ k, fitK (scaleOf s p) = some k → (scaleOf t p).estimate = k
        ∧ (kGood k = true → (scaleOf t p).frozen = false
            ∧ 0x6666 ≤ (scaleOf t p).correction ∧ (scaleOf t p).correction ≤ 0xA000
            ∧ (0x6666 ≤ (scaleOf s p).correction → (scaleOf s p).correction ≤ 0xA000 →
              (scaleOf t p).correction ≤ (scaleOf s p).correction + 0x20
              ∧ (scaleOf s p).correction ≤ (scaleOf t p).correction + 0x20))
        ∧ (kGood k = false → (scaleOf t p).frozen = true
            ∧ (scaleOf t p).correction = (scaleOf s p).correction ∧ isActive t 0x42 0x1C = true) := by
  have hclear : scaleOf (onFullScale p clearWindow s) p = clearWindow (scaleOf s p) := scaleOf_onFullScale p _ s
  obtain ⟨hnone, hsome⟩ := execFullScaleEstimate_ends hready hstate hrounds
  cases hfit : fitK (scaleOf s p) with
  | none =>
    refine ⟨_, hnone hfit, ?_⟩
    rw [hclear]
    exact ⟨rfl, fun _ => rfl, nofun⟩
  | some k =>
    refine ⟨_, hsome k hfit, ?_⟩
    cases hgood : kGood k with
    | true =>
      rw [scaleOf_takeEstimate_good hgood, hclear]
      obtain ⟨hlow, hhigh⟩ := moveCorrection_bounds (scaleOf s p).correction k
      refine ⟨rfl, nofun, fun j hj => ?_⟩
      obtain rfl := Option.some.inj hj
      exact ⟨rfl, fun _ => ⟨rfl, hlow, hhigh, moveCorrection_step⟩, fun hbad => absurd hgood (by simp [hbad])⟩
    | false =>
      obtain ⟨hscale, hact⟩ := takeEstimate_bad (p := p) (s := onFullScale p clearWindow s) hgood
      rw [hscale, hclear]
      refine ⟨rfl, nofun, fun j hj => ?_⟩
      obtain rfl := Option.some.inj hj
      exact ⟨rfl, fun hnot => absurd hgood (by simp [hnot]), fun _ => ⟨rfl, rfl, hact⟩⟩

/-! ## The last good correction comes back (R175, R362) -/

/-- A frozen port takes its last good correction. -/
def restorePort (s : State) (p : Port) : State :=
  rebuildSteps p (onFullScale p (fun f => { f with correction := f.lastGood }) s)

theorem scaleOf_restorePort (s : State) (p : Port) :
    scaleOf (restorePort s p) p = { scaleOf s p with correction := (scaleOf s p).lastGood } := by
  rw [restorePort, scaleOf_of_drive (rebuildSteps_drive _ _), scaleOf_onFullScale]

theorem scaleOf_restorePort_of_ne {s : State} {p q : Port} (h : q ≠ p) : scaleOf (restorePort s p) q = scaleOf s q := by
  rw [restorePort, scaleOf_of_drive (rebuildSteps_drive _ _), scaleOf_onFullScale_of_ne _ _ h]

theorem scaleOf_foldl_restorePort_of_notMem {q : Port} {ps : List Port} (s : State) (h : q ∉ ps) :
    scaleOf (ps.foldl restorePort s) q = scaleOf s q := by
  induction ps generalizing s with
  | nil => rfl
  | cons p ps ih =>
    obtain ⟨hne, hrest⟩ := not_or.1 (mt List.mem_cons.2 h)
    rw [List.foldl_cons, ih _ hrest, scaleOf_restorePort_of_ne hne]

theorem scaleOf_foldl_restorePort_of_mem {q : Port} {ps : List Port} (s : State) (hnodup : ps.Nodup) (h : q ∈ ps) :
    scaleOf (ps.foldl restorePort s) q = { scaleOf s q with correction := (scaleOf s q).lastGood } := by
  induction ps generalizing s with
  | nil => exact absurd h List.not_mem_nil
  | cons p ps ih =>
    obtain ⟨hp, hrest⟩ := List.nodup_cons.1 hnodup
    rw [List.foldl_cons]
    rcases List.mem_cons.1 h with rfl | hmem
    · rw [scaleOf_foldl_restorePort_of_notMem _ hp, scaleOf_restorePort]
    · rw [ih _ hrest hmem, scaleOf_restorePort_of_ne fun he : q = p => hp (he ▸ hmem)]

/-- The ports whose correction is frozen. -/
def frozenPorts (s : State) : List Port := Port.all.filter fun p => (scaleOf s p).frozen

theorem mem_frozenPorts {s : State} {p : Port} : p ∈ frozenPorts s ↔ (scaleOf s p).frozen = true := by
  simp [frozenPorts, port_mem_all]

theorem frozenPorts_nodup (s : State) : (frozenPorts s).Nodup :=
  List.Nodup.filter _ (by decide : Port.all.Nodup)

theorem restoreDivergence_handles {s : State} (hready : cpReady s = true)
    (htiming : (s.faults.active.any fun a => a.kind == 0x42 && a.timing) = true) :
    restoreDivergence s = handleKind 0x42 ((frozenPorts s).foldl restorePort s) :=
  if_pos (by rw [hready, htiming]; rfl)

/-- A kind that is handled has its timer stopped (R362). -/
theorem timing_of_handleKind {k : Nat} {s : State} : ∀ a ∈ (handleKind k s).faults.active, a.kind = k → a.timing = false := by
  intro a ha hkind
  obtain ⟨b, -, rfl⟩ := List.mem_map.1 ha
  split at hkind
  · next hb => rw [if_pos hb]
  · next hb => exact absurd (beq_iff_eq.2 hkind) hb

/-- A divergence is handled at the next frame boundary (R175, R362). -/
theorem restoreDivergence_restores {s : State} (p : Port) (hready : cpReady s = true)
    (htiming : (s.faults.active.any fun a => a.kind == 0x42 && a.timing) = true) :
    (∀ a ∈ (restoreDivergence s).faults.active, a.kind = 0x42 → a.timing = false)
    ∧ ((scaleOf s p).frozen = true →
        scaleOf (restoreDivergence s) p = { scaleOf s p with correction := (scaleOf s p).lastGood })
    ∧ ((scaleOf s p).frozen = false → scaleOf (restoreDivergence s) p = scaleOf s p) := by
  rw [restoreDivergence_handles hready htiming]
  refine ⟨timing_of_handleKind, fun hfrozen => ?_, fun hfree => ?_⟩
  · exact scaleOf_foldl_restorePort_of_mem s (frozenPorts_nodup s) (mem_frozenPorts.2 hfrozen)
  · exact scaleOf_foldl_restorePort_of_notMem s (mt mem_frozenPorts.1 (by simp [hfree]))

end Sys2Proof.Laws
end

section
/-!
The slots of the housekeeping round (R172, R293, R294, R308): what a slot leaves of the round's clockwork, and the statement
about the Toll, ageing, full scale and the slots.
-/

namespace Sys2Proof.Laws

open Sys2Proof Sys2Proof.Machine

/-! ## The clockwork of the round -/

/-- The place in the round, the reference codes, the throttle factor and the temperatures of the arrays. -/
def roundMarks (h : Housekeeping) : Housekeeping :=
  { slot := h.slot, round := h.round, gnd := h.gnd, bg := h.bg, gndPrev := h.gndPrev, bgPrev := h.bgPrev, m := h.m
    tempIn := h.tempIn, arrayTemps := h.arrayTemps }

/-- What a slot leaves beside them: the Leap counter, the scan and the votes. -/
def roundClocks (s : State) : BitVec 40 × Scan × Votes := (s.aon.leap, s.scan, s.power.votes)

/-- Both of them. -/
def roundView (s : State) : Housekeeping × BitVec 40 × Scan × Votes := (roundMarks s.hk, roundClocks s)

theorem roundView_of_only {s t : State} (h : Outside.faultParts t = Outside.faultParts s) : roundView t = roundView s :=
  (congrArg (fun x : State => roundView x) h :)

theorem roundMarks_m {g h : Housekeeping} (e : roundMarks g = roundMarks h) : g.m = h.m := (congrArg Housekeeping.m e :)

theorem noteCode_view (channel raw s) : roundView (noteCode channel raw s) = roundView s := rfl

theorem slotReference_view (raw s) : roundView (slotReference raw s) = roundView s := by
  unfold slotReference
  split
  · rw [roundView_of_only (markPresent_only _ _ _)]
    rfl
  · rw [roundView_of_only (clearCondition_only _ _ _)]
    rfl

theorem onSupply_view (k f s) : roundView (onSupply k f s) = roundView s := rfl

theorem judgeSupply_view (k uv s) : roundView (judgeSupply k uv s) = roundView s := by
  unfold judgeSupply
  dsimp only
  split
  · rw [apply_ite roundView, roundView_of_only (markPresent_only _ _ _), ite_self, onSupply_view]
  · rw [apply_ite roundView, roundView_of_only (markAbsent_only _ _ _), ite_self, apply_ite roundView,
      roundView_of_only (clearCondition_only _ _ _), ite_self, onSupply_view]

theorem onFullScale_view (p f s) : roundView (onFullScale p f s) = roundView s := rfl

theorem slotImon_view (p raw s) : roundView (slotImon p raw s) = roundView s := by
  unfold slotImon
  dsimp only
  rw [apply_ite roundView, apply_ite roundView, apply_ite roundView, onFullScale_view, onFullScale_view]
  simp only [ite_self]

theorem senseSink_view (c reading s) : roundView (senseSink c reading s) = roundView s := by
  unfold senseSink
  split <;> rfl

theorem startCode_view (p s) : roundView (startCode p s).2 = roundView s := by
  unfold startCode
  split <;> rfl

theorem noteLow_view (p s) : roundView (noteLow p s) = roundView s := by
  unfold noteLow
  dsimp only
  rw [apply_ite roundView, roundView_of_only (raiseKind_only _ _ _), ite_self]
  rfl

theorem headroom_view (x) (s : State) : roundView { s with headroom := x } = roundView s := rfl

theorem slotHeadroom_view (p s) : roundView (slotHeadroom p s) = roundView s := by
  unfold slotHeadroom
  dsimp only
  split
  · rfl
  · split
    · rfl
    · rw [apply_ite roundView, roundView_of_only (markPresent_only _ _ _), noteLow_view,
        roundView_of_only (clearCondition_only _ _ _), ite_self, headroom_view, startCode_view]

/-! ## The thresholds of slot 28 (R297, R300, R308) -/

theorem putThermal_view (l x s) : roundView (putThermal l x s) = roundView s := rfl

theorem enterThermal_view (l x s) : roundView (enterThermal l x s) = roundView s :=
  (roundView_of_only (enterThermal_only l x s)).trans (putThermal_view l x s)

theorem judgeLocation_view (s l) : roundView (judgeLocation s l) = roundView s := by
  unfold judgeLocation
  dsimp only
  split
  · rfl
  · rw [apply_ite roundView, enterThermal_view, ite_self]
    rfl

theorem onGroup_view (g f s) : roundView (onGroup g f s) = roundView s := rfl

theorem judgeGroups_view (s) : roundView (judgeGroups s) = roundView s :=
  foldl_keeps roundView (fun t g => onGroup_view g _ t) _ _

/-- The throttle factor that the thermal states of a round lead to (R308). -/
def throttleAfter (ts : List Thermal) (m : Nat) : Nat :=
  if ts.any fun x => x == .throttle || x == .shutdown then m * 3 / 4 else min 0x8000 (m + 0x0400)

/-- The state of slot 28 before the throttle factor moves. -/
def slotJudged (s : State) : State := judgeGroups (locations.foldl judgeLocation (crossCheck s))

theorem slotJudged_view (s) : roundView (slotJudged s) = roundView s := by
  rw [slotJudged, judgeGroups_view, foldl_keeps roundView judgeLocation_view]
  rfl

theorem modelRound_hk (p s) : (modelRound p s).hk = s.hk := (congrArg State.hk (modelRound_frame p s) :)

theorem modelRound_view (p s) : roundView (modelRound p s) = roundView s := by
  have hmodel : ∀ f t, roundView (onModel p f t) = roundView t := fun _ _ => rfl
  have hhandle : ∀ t, roundView (handleKind 0x35 t) = roundView t := fun _ => rfl
  unfold modelRound
  dsimp only
  simp only [apply_ite roundView, hhandle, hmodel, ite_self]

theorem foldl_modelRound_hk (ps : List Port) (s : State) : (ps.foldl (fun s p => modelRound p s) s).hk = s.hk :=
  foldl_keeps State.hk (fun s p => modelRound_hk p s) ps s

theorem foldl_modelRound_view (ps : List Port) (s : State) :
    roundView (ps.foldl (fun s p => modelRound p s) s) = roundView s :=
  foldl_keeps roundView (fun s p => modelRound_view p s) ps s

/-- The throttle factor moves (R308). -/
def slotThrottled (s : State) : State := onHk (fun h => { h with m := nextThrottle s }) s

theorem slotThrottled_view (s) : roundView (slotThrottled s)
    = ({ roundMarks s.hk with m := throttleAfter s.hk.thermal s.hk.m }, roundClocks s) := rfl

theorem slotThrottled_thermal (s) : (slotThrottled s).hk.thermal = s.hk.thermal := rfl

theorem slotThresholds_eq (s) : slotThresholds s = if cpReady (slotThrottled (slotJudged s)) then
      Port.all.foldl (fun s p => modelRound p s) (slotThrottled (slotJudged s))
    else slotThrottled (slotJudged s) := rfl

theorem slotThresholds_thermal (s) : (slotThresholds s).hk.thermal = (slotJudged s).hk.thermal := by
  have hlast : (slotThresholds s).hk = (slotThrottled (slotJudged s)).hk := by
    rw [slotThresholds_eq, apply_ite State.hk, foldl_modelRound_hk, ite_self]
  rw [hlast, slotThrottled_thermal]

/-- Slot 28 moves the throttle factor by the thermal states that it leaves, and no other mark of the round (R308). -/
theorem slotThresholds_view (s) : roundView (slotThresholds s)
    = ({ roundMarks s.hk with m := throttleAfter (slotThresholds s).hk.thermal s.hk.m }, roundClocks s) := by
  have hview := slotJudged_view s
  have hmarks : roundMarks (slotJudged s).hk = roundMarks s.hk := congrArg Prod.fst hview
  have hclocks : roundClocks (slotJudged s) = roundClocks s := congrArg Prod.snd hview
  rw [slotThresholds_thermal, slotThresholds_eq, apply_ite roundView, foldl_modelRound_view, ite_self, slotThrottled_view,
    roundMarks_m hmarks, hmarks, hclocks]

/-! ## A slot (R293) -/

/-- The marks of the round after a slot has run, with the thermal states that it leaves. -/
def marksAfter (slot raw : Nat) (thermal : List Thermal) (h : Housekeeping) : Housekeeping :=
  { roundMarks h with
    gnd := if slot = 0 then raw else h.gnd
    bg := if slot = 1 then raw else h.bg
    m := if slot = 28 then throttleAfter thermal h.m else h.m
    arrayTemps := if slot = 27 then h.tempIn else h.arrayTemps }

theorem marksAfter_of_marks {g h : Housekeeping} (e : roundMarks g = roundMarks h) (slot raw thermal) :
    marksAfter slot raw thermal g = marksAfter slot raw thermal h :=
  (congrArg (fun x => marksAfter slot raw thermal x) e :)

theorem marksAfter_plain {slot : Nat} (hgnd : slot ≠ 0) (hbg : slot ≠ 1) (htemps : slot ≠ 27) (hm : slot ≠ 28)
    (raw thermal h) : marksAfter slot raw thermal h = roundMarks h := by
  simp only [marksAfter, hgnd, hbg, htemps, hm, if_false]
  rfl

/-- The code of a slot's channel is kept (R293). -/
def slotNoted (slot raw : Nat) (s : State) : State :=
  if slot ≤ 21 then noteCode slot raw s else if slot ≤ 25 then noteCode (slot + 2) raw s else s

theorem slotNoted_view (slot raw s) : roundView (slotNoted slot raw s) = roundView s := by
  unfold slotNoted
  simp only [apply_ite roundView, noteCode_view, ite_self]

/-- The temperatures of the arrays are taken over for the round (R293). -/
def takeTemps (s : State) : State := onHk (fun h => { h with arrayTemps := h.tempIn, tempAt := h.tempInAt }) s

/-- The marks that slots 0, 1 and 27 set. -/
theorem onHk_marks (s : State) (raw : Nat) :
    roundView (onHk (fun h => { h with gnd := raw }) s) = ({ roundMarks s.hk with gnd := raw }, roundClocks s)
    ∧ roundView (onHk (fun h => { h with bg := raw }) s) = ({ roundMarks s.hk with bg := raw }, roundClocks s)
    ∧ roundView (takeTemps s) = ({ roundMarks s.hk with arrayTemps := s.hk.tempIn }, roundClocks s) := ⟨rfl, rfl, rfl⟩

theorem foldl_slotHeadroom_view (ps : List Port) (s : State) :
    roundView (ps.foldl (fun s p => slotHeadroom p s) s) = roundView s :=
  foldl_keeps roundView (fun s p => slotHeadroom_view p s) ps s

theorem onHk_raw_view (f : Housekeeping → List Int) (s : State) :
    roundView (onHk (fun h => { h with raw := f h }) s) = roundView s := rfl

theorem onHk_diode_view (x : Int) (s : State) : roundView (onHk (fun h => { h with diode := x }) s) = roundView s := rfl

/-- A slot that sets no mark of the round. -/
theorem runSlot_plain_view {slot : Nat} (hgnd : slot ≠ 0) (hbg : slot ≠ 1) (htemps : slot ≠ 27) (hm : slot ≠ 28)
    (raw ld s) : roundView (runSlot slot raw ld s) = roundView s := by
  unfold runSlot
  extract_lets s1
  have hnoted : roundView s1 = roundView s := slotNoted_view slot raw s
  clear_value s1
  simp only [if_neg hgnd, if_neg hbg, if_neg htemps, if_neg hm, apply_ite roundView, slotReference_view, judgeSupply_view,
    slotImon_view, senseSink_view, onHk_raw_view, onHk_diode_view, hnoted, ite_self]

theorem runSlot_ground (raw ld s) : runSlot 0 raw ld s = onHk (fun h => { h with gnd := raw }) (slotNoted 0 raw s) := rfl

theorem runSlot_bandgap (raw ld s) : runSlot 1 raw ld s = onHk (fun h => { h with bg := raw }) (slotNoted 1 raw s) := rfl

theorem runSlot_temps (raw ld s) : runSlot 27 raw ld s
    = Port.all.foldl (fun s p => slotHeadroom p s) (takeTemps (slotNoted 27 raw s)) := by
  simp only [runSlot, slotNoted, takeTemps, Nat.reduceEqDiff, Nat.reduceLeDiff, if_false, if_true]

theorem runSlot_thresholds (raw ld s) : runSlot 28 raw ld s = slotThresholds (slotNoted 28 raw s) := by
  simp only [runSlot, slotNoted, Nat.reduceEqDiff, Nat.reduceLeDiff, if_false, if_true]

/-- The marks of the slots that set one. -/
theorem marksAfter_marking (raw thermal h) :
    marksAfter 0 raw thermal h = { roundMarks h with gnd := raw }
    ∧ marksAfter 1 raw thermal h = { roundMarks h with bg := raw }
    ∧ marksAfter 27 raw thermal h = { roundMarks h with arrayTemps := h.tempIn }
    ∧ marksAfter 28 raw thermal h = { roundMarks h with m := throttleAfter thermal h.m } := ⟨rfl, rfl, rfl, rfl⟩

/-- What a slot leaves of the round's clockwork (R293, R294, R308). -/
theorem runSlot_view (slot raw ld s) : roundView (runSlot slot raw ld s)
    = (marksAfter slot raw (runSlot slot raw ld s).hk.thermal s.hk, roundClocks s) := by
  have hview := slotNoted_view slot raw s
  have hmarks : roundMarks (slotNoted slot raw s).hk = roundMarks s.hk := congrArg Prod.fst hview
  have hclocks : roundClocks (slotNoted slot raw s) = roundClocks s := congrArg Prod.snd hview
  obtain ⟨hgnd, hbg, htemps⟩ := onHk_marks (slotNoted slot raw s) raw
  obtain ⟨hmark0, hmark1, hmark27, hmark28⟩ :=
    marksAfter_marking raw (runSlot slot raw ld s).hk.thermal (slotNoted slot raw s).hk
  rw [← marksAfter_of_marks hmarks, ← hclocks]
  by_cases h0 : slot = 0
  · subst h0
    rw [hmark0, runSlot_ground, hgnd]
  by_cases h1 : slot = 1
  · subst h1
    rw [hmark1, runSlot_bandgap, hbg]
  by_cases h27 : slot = 27
  · subst h27
    rw [hmark27, runSlot_temps, foldl_slotHeadroom_view, htemps]
  by_cases h28 : slot = 28
  · subst h28
    rw [hmark28, runSlot_thresholds, slotThresholds_view]
  rw [runSlot_plain_view h0 h1 h27 h28, marksAfter_plain h0 h1 h27 h28, ← hview]
  rfl

/-! ## The next slot, the buses and the wake votes (R252, R283, R293, R435) -/

/-- The marks of the round at the next slot, which after slot 31 is slot 0 of the next round (R293, R294). -/
def advanceMarks (h : Housekeeping) : Housekeeping :=
  if h.slot < 31 then { h with slot := h.slot + 1 }
  else { h with slot := 0, round := h.round + 1, gndPrev := h.gnd, bgPrev := h.bg }

theorem nextSlot_acts (s : State) : roundMarks (nextSlot s).hk = advanceMarks (roundMarks s.hk)
    ∧ (nextSlot s).hk.thermal = s.hk.thermal ∧ roundClocks (nextSlot s) = roundClocks s := by
  have hslot : (roundMarks s.hk).slot = s.hk.slot := rfl
  unfold nextSlot advanceMarks
  rw [hslot]
  split <;> exact ⟨rfl, rfl, rfl⟩

/-- The buses' recovery touches neither housekeeping nor the clocks. -/
theorem recoverBuses_round (s) : (recoverBuses s).hk = s.hk ∧ roundClocks (recoverBuses s) = roundClocks s :=
  ⟨(congrArg State.hk (recoverBuses_frame s) :), (congrArg (fun x : State => roundClocks x) (recoverBuses_frame s) :)⟩

/-- Wake votes that end take no domain down while none stands or the CP has a vote (R435, R444). -/
theorem releaseWakeVotes_round {s : State}
    (hvotes : s.power.votes.wake ||| s.power.votes.sbp = 0 ∨ s.power.votes.cp &&& allDomains ≠ 0) :
    (releaseWakeVotes s).hk = s.hk ∧ (releaseWakeVotes s).aon.leap = s.aon.leap
      ∧ (releaseWakeVotes s).scan = s.scan := by
  unfold releaseWakeVotes
  split
  · next hserved =>
    have hcp : (s.power.votes.cp &&& allDomains != 0) = true := by
      rcases hvotes with hnone | hcp
      · simp [hnone] at hserved
      · exact bne_iff_ne.2 hcp
    unfold afterWithdrawal
    split
    · exact ⟨rfl, rfl, rfl⟩
    · split
      · exact ⟨rfl, rfl, rfl⟩
      · next hnot => exact absurd hcp hnot
  · exact ⟨rfl, rfl, rfl⟩

/-! ## The housekeeping slot (R172, R293) -/

/-- The Leap ticks are counted, and with CORE on and no scan DT advances by a slot. -/
def slotStarted (leap : Nat) (s : State) : State :=
  if isOn s .core && !s.scan.running then advanceDt 32 (countLeap leap s) else countLeap leap s

theorem slotStarted_hk (leap s) : (slotStarted leap s).hk = s.hk := by
  unfold slotStarted
  split <;> rfl

theorem slotStarted_clocks (leap s) : (slotStarted leap s).aon.leap = s.aon.leap + BitVec.ofNat 40 leap
    ∧ (slotStarted leap s).scan.dt = (if isOn s .core && !s.scan.running then s.scan.dt + 32 else s.scan.dt)
    ∧ (slotStarted leap s).power.votes = s.power.votes := by
  unfold slotStarted
  split <;> exact ⟨rfl, rfl, rfl⟩

theorem execHousekeepingSlot_runs {s : State} {raw : Nat} {ld : List Int} {leap : Nat} (hsafe : isOn s .safe = true)
    (hreset : inReset s = false) : exec (.housekeepingSlot raw ld leap) s = .next (releaseWakeVotes (recoverBuses
      (nextSlot (runSlot s.hk.slot (raw % 4096) ld (slotStarted leap s))))) :=
  congrArg Host.Outcome.next (if_neg (by simp [hsafe, hreset]))

/-- The marks of the round after a slot, field by field. -/
theorem marks_advanced {slot raw : Nat} {g h : Housekeeping} (hslot : h.slot = slot)
    (hmarks : roundMarks g = advanceMarks (marksAfter slot raw g.thermal h)) :
    g.slot = (if slot < 31 then slot + 1 else 0) ∧ g.round = (if slot < 31 then h.round else h.round + 1)
    ∧ g.gnd = (if slot = 0 then raw else h.gnd) ∧ g.bg = (if slot = 1 then raw else h.bg)
    ∧ (g.gndPrev, g.bgPrev) = (if slot < 31 then (h.gndPrev, h.bgPrev) else (h.gnd, h.bg))
    ∧ g.m = (if slot = 28 then throttleAfter g.thermal h.m else h.m)
    ∧ (slot = 27 → g.arrayTemps = h.tempIn) := by
  subst hslot
  have hplace : (marksAfter h.slot raw g.thermal h).slot = h.slot := rfl
  by_cases hinside : h.slot < 31
  · rw [advanceMarks, hplace, if_pos hinside] at hmarks
    simp only [if_pos hinside]
    exact ⟨(congrArg Housekeeping.slot hmarks :), (congrArg Housekeeping.round hmarks :),
      (congrArg Housekeeping.gnd hmarks :), (congrArg Housekeeping.bg hmarks :),
      (congrArg (fun x : Housekeeping => (x.gndPrev, x.bgPrev)) hmarks :), (congrArg Housekeeping.m hmarks :),
      fun htemps => (congrArg Housekeeping.arrayTemps hmarks :).trans (if_pos htemps)⟩
  · have hgnd : h.slot ≠ 0 := by omega
    have hbg : h.slot ≠ 1 := by omega
    have hm : h.slot ≠ 28 := by omega
    rw [advanceMarks, hplace, if_neg hinside, marksAfter_plain hgnd hbg (by omega) hm] at hmarks
    simp only [if_neg hinside, if_neg hgnd, if_neg hbg, if_neg hm]
    exact ⟨(congrArg Housekeeping.slot hmarks :), (congrArg Housekeeping.round hmarks :),
      (congrArg Housekeeping.gnd hmarks :), (congrArg Housekeeping.bg hmarks :),
      (congrArg (fun x : Housekeeping => (x.gndPrev, x.bgPrev)) hmarks :), (congrArg Housekeeping.m hmarks :),
      fun htemps => absurd htemps (by omega)⟩

/-- What a housekeeping slot leaves (R293, R294, R308; log 56 for DT). -/
theorem housekeepingSlot_advances {s : State} {raw : Nat} {ld : List Int} {leap : Nat} (hsafe : isOn s .safe = true)
    (hreset : inReset s = false)
    (hvotes : s.power.votes.wake ||| s.power.votes.sbp = 0 ∨ s.power.votes.cp &&& allDomains ≠ 0) :
    ∃ t, exec (.housekeepingSlot raw ld leap) s = .next t
      ∧ roundMarks t.hk = advanceMarks (marksAfter s.hk.slot (raw % 4096) t.hk.thermal s.hk)
      ∧ t.aon.leap = s.aon.leap + BitVec.ofNat 40 leap
      ∧ t.scan.dt = (if isOn s .core && !s.scan.running then s.scan.dt + 32 else s.scan.dt) := by
  refine ⟨_, execHousekeepingSlot_runs hsafe hreset, ?_⟩
  have hrun := runSlot_view s.hk.slot (raw % 4096) ld (slotStarted leap s)
  obtain ⟨hleap, hdt, hheld⟩ := slotStarted_clocks leap s
  rw [slotStarted_hk] at hrun
  generalize runSlot s.hk.slot (raw % 4096) ld (slotStarted leap s) = r at hrun ⊢
  obtain ⟨hmarks, hthermal, hclocks⟩ := nextSlot_acts r
  generalize nextSlot r = n at hmarks hthermal hclocks ⊢
  obtain ⟨hbushk, hbusclocks⟩ := recoverBuses_round n
  generalize recoverBuses n = b at hbushk hbusclocks ⊢
  have hstarted : roundClocks b = roundClocks (slotStarted leap s) :=
    (hbusclocks.trans hclocks).trans (congrArg Prod.snd hrun)
  simp only [roundClocks, Prod.mk.injEq] at hstarted
  obtain ⟨hbleap, hbscan, hbvotes⟩ := hstarted
  obtain ⟨hhk, htleap, htscan⟩ := releaseWakeVotes_round (s := b) (by rw [hbvotes, hheld]; exact hvotes)
  refine ⟨?_, by rw [htleap, hbleap, hleap], by rw [htscan, hbscan, hdt]⟩
  rw [hhk, hbushk, hmarks, hthermal, show roundMarks r.hk = _ from congrArg Prod.fst hrun]

/-! ## The statement -/

/-- Settles O29: each command and each frame boundary does what its lemma above says. -/
theorem calibrationAndTollCommands : Obligations.CalibrationAndTollCommands := by
  refine ⟨fun s m ms hready hwaits => ?_, fun s epoch => ⟨takeScales_none, fun e hlast k hk => ?_⟩,
    fun s hready hstate => ageAveragingPeriod_ages hready hstate,
    fun s hready hstate => ageWriteback_copies hready hstate,
    fun s p hready hstate hrounds => fullScaleEstimate_takes hready hstate hrounds,
    fun s p hready htiming => restoreDivergence_restores p hready htiming,
    fun s raw ld leap hsafe hreset hvotes => ?_⟩
  · obtain ⟨new, hacts⟩ := tollComputed_acts m ms s
    exact ⟨_, new, execTollComputationDone_computes hready hwaits, hacts⟩
  · rw [takeScales_some hlast, nth_map_range _ _ hk]
    rfl
  · obtain ⟨t, hexec, hmarks, hclocks⟩ := housekeepingSlot_advances (raw := raw) (ld := ld) (leap := leap) hsafe hreset
      hvotes
    obtain ⟨hslot, hround, hgnd, hbg, hcodes, hm, htemps⟩ := marks_advanced rfl hmarks
    exact ⟨t, hexec, hslot, hround, hgnd, hbg, hcodes, hm, htemps, hclocks⟩

end Sys2Proof.Laws
end

section
/-!
O59: a receiver reads what a transmitter codes (R188 to R190, R193): code groups, runs of characters and packets.
-/

namespace Sys2Proof.Laws

open Sys2Proof Sys2Proof.Machine

/-! ## The disparity of a code group (R188) -/

/-- A sub-block of `n` bits is balanced, or off balance by two towards the side that its running disparity asks for. -/
def fits (n : Nat) (rd : Bool) (v : Nat) : Bool :=
  2 * onesOf n v == n || 2 * onesOf n v + (if rd then 2 else 0) == n + (if rd then 0 else 2)

theorem onesOf_codeGroup (n : Nat) {six four : Nat} (h : four < 16) :
    onesOf (n + 4) (16 * six + four) = onesOf 4 four + onesOf n six := by
  have hlast : (16 * six + four) / 2 / 2 / 2 / 2 = six := by omega
  simp only [onesOf, hlast]
  omega

/-- The running disparity after a code group is that after its two sub-blocks, one after the other. -/
theorem disparityAfter_codeGroup {rd : Bool} {six four : Nat} (hlt : four < 16) (hsix : fits 6 rd six = true)
    (hfour : fits 4 (disparityAfter 6 rd six) four = true) :
    disparityAfter 10 rd (16 * six + four) = disparityAfter 4 (disparityAfter 6 rd six) four := by
  have hones : onesOf 10 (16 * six + four) = onesOf 4 four + onesOf 6 six := onesOf_codeGroup 6 hlt
  simp only [fits, Bool.or_eq_true, beq_iff_eq] at hsix hfour
  have hcount : onesOf 6 six = 3 ∨ onesOf 6 six = if rd then 2 else 4 := by
    cases rd <;> simp at hsix <;> simp <;> omega
  obtain h | h := hcount <;> cases rd <;> simp [disparityAfter, hones, h] at hfour ⊢ <;> grind

theorem codeGroup_toNat {six four : Nat} (hsix : six < 64) (hfour : four < 16) :
    (codeGroup six four).toNat = 16 * six + four := by
  rw [codeGroup, BitVec.toNat_ofNat]
  omega

/-! ## The sub-blocks of a data character (R188) -/

/-- The sub-block abcdei of each D.x differs from that of K.28 and from those of the others. -/
theorem sixOf_decodes : ∀ (rd : Bool) (x : Fin 32), sixOf rd x < 64 ∧ fits 6 rd (sixOf rd x) = true
    ∧ sixOf rd x ≠ kSixOf rd 28 ∧ ((List.range 32).find? fun z => sixOf rd z == sixOf rd x) = some x.val := by decide

/-- The sub-block fghj of D.x.y, by whether A7 takes the place of P7. -/
def fourAt (rd a7 : Bool) (y : Nat) : Nat :=
  if y = 7 ∧ a7 = true then (if rd then 0b1000 else 0b0111) else subBlock 4 0b1100 rd (nth 0 fourTable y)

theorem fourAt_decodes : ∀ (rd a7 : Bool) (y : Fin 8), fourAt rd a7 y < 16 ∧ fits 4 rd (fourAt rd a7 y) = true
    ∧ ((List.range 8).find? fun z => fourAt rd a7 z == fourAt rd a7 y) = some y.val := by decide

/-- The sub-blocks fghj of D.x.0 to D.x.7 differ from one another. -/
theorem fourOf_decodes (rd : Bool) (x : Nat) {y : Nat} (h : y < 8) : fourOf rd x y < 16 ∧ fits 4 rd (fourOf rd x y) = true
    ∧ ((List.range 8).find? fun z => fourOf rd x z == fourOf rd x y) = some y :=
  fourAt_decodes rd (takesA7 rd x) ⟨y, h⟩

/-! ## Characters and runs of characters (R188, R189) -/

/-- The receiver reads a code group as the character, and its running disparity follows the transmitter's. -/
def ReadsBack (rd : Bool) (c : Character) : Prop :=
  decodeGroup rd (encodeCharacter rd c).1 = .char c
    ∧ disparityAfter 10 rd (encodeCharacter rd c).1.toNat = (encodeCharacter rd c).2

theorem data_readsBack (rd : Bool) (b : Byte) : ReadsBack rd (.data b) := by
  have hb : b.toNat < 256 := b.isLt
  have hx : b.toNat % 32 < 32 := Nat.mod_lt _ (by decide)
  obtain ⟨hsix, hsixFits, hkSix, hfindSix⟩ := sixOf_decodes rd ⟨b.toNat % 32, hx⟩
  obtain ⟨hfour, hfourFits, hfindFour⟩ := fourOf_decodes (disparityAfter 6 rd (sixOf rd (b.toNat % 32))) (b.toNat % 32)
    (y := b.toNat / 32) (by omega)
  dsimp only at hsix hsixFits hkSix hfindSix
  have hgroup := codeGroup_toNat hsix hfour
  refine ⟨?_, by rw [encodeCharacter, hgroup]; exact disparityAfter_codeGroup hfour hsixFits hfourFits⟩
  have hdiv : (codeGroup (sixOf rd (b.toNat % 32)) (fourOf (disparityAfter 6 rd (sixOf rd (b.toNat % 32)))
      (b.toNat % 32) (b.toNat / 32))).toNat / 16 = sixOf rd (b.toNat % 32) := by omega
  have hmod : (codeGroup (sixOf rd (b.toNat % 32)) (fourOf (disparityAfter 6 rd (sixOf rd (b.toNat % 32)))
      (b.toNat % 32) (b.toNat / 32))).toNat % 16 = fourOf (disparityAfter 6 rd (sixOf rd (b.toNat % 32)))
      (b.toNat % 32) (b.toNat / 32) := by omega
  have hbyte : BitVec.ofNat 8 (32 * (b.toNat / 32) + b.toNat % 32) = b := by
    rw [Nat.div_add_mod, BitVec.ofNat_toNat, BitVec.setWidth_eq]
  simp only [decodeGroup, validGroup, encodeCharacter, hdiv, hmod, if_neg hkSix, hfindSix, hfindFour, hbyte]

/-- Every character reads back: the special ones by their rows of the table. -/
theorem character_readsBack (rd : Bool) : ∀ c, ReadsBack rd c
  | .data b => data_readsBack rd b
  | .idle | .sop | .eop | .marker | .hold => by unfold ReadsBack; revert rd; decide

theorem decodeGroups_encodeCharacters (rd : Bool) (cs : List Character) :
    decodeGroups rd (encodeCharacters rd cs).1 = cs.map .char := by
  induction cs generalizing rd with
  | nil => rfl
  | cons c cs ih =>
    obtain ⟨hread, hdisparity⟩ := character_readsBack rd c
    simp only [encodeCharacters, decodeGroups, List.map_cons, hread, hdisparity, ih]

/-! ## Packets with a marker inside (R190, R193) -/

theorem dataSymbols_append (xs ys : List Byte) : dataSymbols (xs ++ ys) = dataSymbols xs ++ dataSymbols ys :=
  List.map_append

/-- The three symbols of a marker. -/
def markerSymbols (a b : Byte) : List Symbol := [.char .marker, .char (.data a), .char (.data b)]

theorem dropMarkers_marker (bs cs : List Byte) (a b : Byte) :
    dropMarkers (dataSymbols bs ++ markerSymbols a b ++ dataSymbols cs) = dataSymbols (bs ++ cs) := by
  induction bs with
  | nil => exact dropMarkers_data cs
  | cons x bs ih => exact congrArg (Symbol.char (.data x) :: ·) ih

theorem codeErrors_marker (bs cs : List Byte) (a b : Byte) :
    (dataSymbols bs ++ markerSymbols a b ++ dataSymbols cs).filter isCodeError = [] := by
  rw [List.filter_append, List.filter_append, codeErrors_data, codeErrors_data]
  rfl

/-- A packet that arrives with a marker among its symbols. -/
def markedPacket (h : BitVec 64) (p : List Byte) (n : Nat) (a b : Byte) : RxPacket :=
  { symbols := (packetOf h p).symbols.take n ++ markerSymbols a b ++ (packetOf h p).symbols.drop n }

theorem markedPacket_symbols (h : BitVec 64) (p : List Byte) (n : Nat) (a b : Byte) : ∃ bs cs,
    (packetOf h p).symbols = dataSymbols (bs ++ cs)
    ∧ (markedPacket h p n a b).symbols = dataSymbols bs ++ markerSymbols a b ++ dataSymbols cs := by
  refine ⟨_, _, ?_, congrArg₂ (· ++ markerSymbols a b ++ ·) List.map_take.symm List.map_drop.symm⟩
  rw [List.take_append_drop]
  rfl

/-- The marker leaves no trace in what the receiver parses. -/
theorem markedPacket_bytes (h : BitVec 64) (p : List Byte) (n : Nat) (a b : Byte) :
    packetBytes (markedPacket h p n a b) = packetBytes (packetOf h p) := by
  obtain ⟨bs, cs, hplain, hmarked⟩ := markedPacket_symbols h p n a b
  rw [packetBytes, packetBytes, hplain, hmarked, dropMarkers_marker, dropMarkers_data]

theorem markedPacket_codeErrors (h : BitVec 64) (p : List Byte) (n : Nat) (a b : Byte) :
    (markedPacket h p n a b).codeErrors = 0 := by
  obtain ⟨bs, cs, -, hmarked⟩ := markedPacket_symbols h p n a b
  rw [RxPacket.codeErrors, hmarked, codeErrors_marker, List.length_nil]

/-- A packet is good, without a code error, and carries this header and payload. -/
def Arrives (k : RxPacket) (h : BitVec 64) (p : List Byte) : Prop :=
  packetGood k = true ∧ k.codeErrors = 0 ∧ k.header = h ∧ k.payload = p

theorem packetOf_codeErrors (h : BitVec 64) (p : List Byte) : (packetOf h p).codeErrors = 0 := by
  rw [RxPacket.codeErrors, packetOf, codeErrors_data, List.length_nil]

/-- What a packet carries is read from its bytes alone. -/
theorem arrives_of_bytes {k : RxPacket} {h : BitVec 64} {p : List Byte} (herrors : k.codeErrors = 0)
    (hbytes : packetBytes k = packetBytes (packetOf h p)) : Arrives k h p := by
  have hheader : k.header = h := by rw [← packetOf_header h p, RxPacket.header, hbytes]; rfl
  have hpayload : k.payload = p := by
    refine Eq.trans ?_ (packetOf_payload h p)
    rw [RxPacket.payload, hbytes]
    rfl
  have hcrc : k.crc.toNat = crc32c (leBytes 8 h.toNat ++ p) := by
    rw [← packetOf_crc, RxPacket.crc, hbytes]
    rfl
  refine ⟨?_, herrors, hheader, hpayload⟩
  simp only [packetGood, herrors, hcrc, hheader, hpayload, beq_self_eq_true, Bool.and_self]

/-! ## The statement -/

/-- What stands between SOP and EOP of a sent packet is the packet as it arrives. -/
theorem packetCharacters_symbols (t : TxPacket) : (packetCharacters t).map Symbol.char
    = .char .sop :: ((packetOf t.header t.payload).symbols ++ [.char .eop]) := by
  simp only [packetCharacters, packetOf, dataSymbols, txCrc, List.map_cons, List.map_append, List.map_map, List.map_nil]
  rfl

/-- Settles O59: each character reads back, so runs and packets do, and a marker inside a packet is taken out again. -/
theorem symbolsRoundTrip : Obligations.SymbolsRoundTrip := by
  refine ⟨character_readsBack, decodeGroups_encodeCharacters, fun t rd => ⟨(packetOf t.header t.payload).symbols, ?_,
    arrives_of_bytes (packetOf_codeErrors _ _) rfl, fun n a b => ?_⟩⟩
  · rw [decodeGroups_encodeCharacters, packetCharacters_symbols]
  · exact arrives_of_bytes (markedPacket_codeErrors t.header t.payload n a b) (markedPacket_bytes _ _ _ _ _)

end Sys2Proof.Laws
end

section
/-!
O34: a failed host lane while the CP is down. Its Waybill leaves on CAN_A at once (R355, R356), so the host ports hold a
frame more than the statement allows.
-/

namespace Sys2Proof.Laws

open Sys2Proof Sys2Proof.Machine

/-- CORE and LINK are on, the CP boots, no bus is off, and host lane 0 is in service and the control lane. -/
def bootingLaneState : State := { Tests.bootState with
  host := { Tests.bootState.host with lanes := [{ state := 1 }, {}, {}, {}], control := some 0 } }

/-- Lane 0 has met 8 code errors in a row (R231). -/
def eightErrors : LaneReport := ⟨0, 8, 0, 0⟩

/-- The CAN frames that a command leaves to be sent. -/
def canFramesAfter (c : Instr) (s : State) : List CanTx :=
  match exec c s with
  | .next t => t.host.canOut
  | _ => []

/-- The Waybill of kind 0x23 leaves as a CAN frame. -/
theorem bootingLane_sends : (canFramesAfter (.hostLaneFail eightErrors) bootingLaneState).length = 1 := by decide

/-- Refutes O34: its second clause has everything of the host ports but the lanes, the control lane and the interrupt
status stand, but with the CP down the Waybill of kind 0x23 goes out on CAN_A as a frame of `host.canOut`. -/
theorem not_hostLanesFollowTraining : ¬ Obligations.HostLanesFollowTraining := by
  rintro ⟨-, hfail, -⟩
  obtain ⟨t, hexec, -, hhost, -⟩ := (hfail bootingLaneState eightErrors rfl rfl).1 (.inl (by decide))
  have hsent := bootingLane_sends
  have hstand : t.host.canOut = [] := (congrArg HostPorts.canOut hhost :)
  rw [canFramesAfter, hexec] at hsent
  simp [hstand] at hsent

end Sys2Proof.Laws
end

section
/-!
Packets of a return lane that a port takes (R189, R193 to R197, R212).
-/

namespace Sys2Proof.Laws

open Sys2Proof Sys2Proof.Machine

/-- The sequence of a packet that the port takes is noted (R197). -/
def received (p : Port) (k : RxPacket) (s : State) : State :=
  onLink p (noteSequence (BitVec.ofNat 16 (hdrSequence k.header))) s

theorem received_get (p k s) : (received p k s).link.get p
    = noteSequence (BitVec.ofNat 16 (hdrSequence k.header)) (s.link.get p) := onLink_get _ _ _

theorem codeErrors_of_good {k : RxPacket} (h : packetGood k = true) : k.codeErrors = 0 := by
  simp only [packetGood, Bool.and_eq_true, beq_iff_eq] at h
  exact h.1

theorem crcGood_of_good {k : RxPacket} (h : packetGood k = true) : crcGood k = true := by
  simp only [packetGood, Bool.and_eq_true] at h
  exact h.2

theorem onLink_of_fixed {p f} {s : State} (h : f (s.link.get p) = s.link.get p) : onLink p f s = s := by
  have hset : s.link.set p (f (s.link.get p)) = s.link := by rw [h]; cases p <;> rfl
  exact congrArg (fun l => { s with link := l }) hset

theorem countCodeErrors_of_good {k : RxPacket} (p s) (h : packetGood k = true) : countCodeErrors p k s = s :=
  onLink_of_fixed (by rw [codeErrors_of_good h, Nat.add_zero])

/-- A port that hears a good packet of the type and length takes it. -/
theorem receiveReturn_taken {p ty lengthOk k act} {s : State} (hhears : hears s p ty = true) (hgood : packetGood k = true)
    (htype : packetOfType k ty = true) (hlength : lengthOk k.payload.length = true) :
    receiveReturn p ty lengthOk k act s = act (received p k s) := by
  simp only [receiveReturn, countCodeErrors_of_good p s hgood, hhears, crcGood_of_good hgood, hgood, htype, hlength,
    received, Bool.not_true, Bool.and_self, Bool.false_eq_true, if_false]

theorem hears_of_listening {s : State} {p} (ty) (h : listening s p = true) : hears s p ty = true := by
  rw [hears, h, Bool.true_or]

/-- A port that listens hears a good packet of the type and length. -/
def Takes (s : State) (p : Port) (k : RxPacket) (ty n : Nat) : Prop :=
  listening s p = true ∧ packetGood k = true ∧ packetOfType k ty = true ∧ k.payload.length = n

theorem Takes.acts {s p k ty n lengthOk act} (h : Takes s p k ty n) (hlength : lengthOk n = true) :
    receiveReturn p ty lengthOk k act s = act (received p k s) := by
  obtain ⟨hlisten, hgood, htype, hn⟩ := h
  exact receiveReturn_taken (hears_of_listening ty hlisten) hgood htype (hn ▸ hlength)

/-! ## Reports that are set aside (R337) -/

theorem noteStorm_only (p band s) : Outside.faultParts (noteStorm p band s)
    = Outside.faultParts (onPixels p (fun x => { x with storms := count32 x.storms, stormFrame := true }) s) := by
  unfold noteStorm
  dsimp only
  split
  · exact raiseKind_only _ _ _
  · rfl

theorem pixels_of_only {s t : State} (h : Outside.faultParts t = Outside.faultParts s) : t.pixels = s.pixels :=
  (congrArg State.pixels h :)

theorem onPixels_get (p f s) : (onPixels p f s).pixels.get p = f (s.pixels.get p) := perPort_get_modify_self _ _ _

/-- The flags of a report count towards no candidate after all. -/
def reportWithdrawn (r : BandReport) (x : PixelCheck) : PixelCheck :=
  { x with
    report := some { r with counted := false }
    flagged := r.flagged
    candidates := x.candidates.filter fun i => !r.added.contains i
    confirms := x.confirms.filter fun f => !r.added.contains f.pixel }

theorem withdrawReport_of_counted {p band s r} (hreport : (s.pixels.get p).report = some r) (hcounted : r.counted = true)
    (hband : r.band = band) : withdrawReport p band s = noteStorm p band (onPixels p (reportWithdrawn r) s) := by
  unfold withdrawReport
  rw [hreport]
  exact if_pos (by simp [hcounted, hband])

/-- What a withdrawn report leaves alone. -/
theorem withdrawReport_parts (p band s) : Outside.faultParts { withdrawReport p band s with pixels := s.pixels }
    = Outside.faultParts s := by
  unfold withdrawReport
  split
  · rfl
  · split
    · exact (congrArg (fun x : State => { x with pixels := s.pixels }) (noteStorm_only _ _ _) :)
    · rfl

end Sys2Proof.Laws
end

section
/-!
O31: TEMP (R210, R219, R307, R311, R337).
-/

namespace Sys2Proof.Laws

open Sys2Proof Sys2Proof.Machine

/-- The four temperatures of a TEMP. -/
def tempReadings (k : RxPacket) : List Int := (List.range 4).map fun q => toSigned 16 (halfOf (leNat k.payload) q)

/-- The readings of a TEMP are stored for slot 27, and the lowest headroom follows (R181, R293, R307). -/
def tempStored (p : Port) (k : RxPacket) (s : State) : State :=
  { s with
    hk := { s.hk with
      tempIn := s.hk.tempIn.set p (tempReadings k)
      tempInAt := s.hk.tempInAt.set p (some (dtNow s))
      overTemp := s.hk.overTemp.set p (bitOf (leNat k.payload) 120) }
    headroom := s.headroom.modify p fun h => { h with
      lowest := some (match h.lowest with
        | some x => min x (halfOf (leNat k.payload) 4)
        | none => halfOf (leNat k.payload) 4) } }

/-- A TEMP without lane errors, before its headroom is judged. -/
def tempTaken (p : Port) (k : RxPacket) (s : State) : State :=
  onLink p (noteLaneErrors [0, 0, 0, 0, 0]) (firstTemp p (tempReadings k) (tempStored p k (received p k s)))

/-- A lane without errors does not fail (R219). -/
theorem failedByTemp_none {s : State} {p} (hlimit : linkCfg s p 0x0C ≥ 1) :
    failedByTemp (onLink p (noteLaneErrors [0, 0, 0, 0, 0]) s) p [0, 0, 0, 0, 0] = [] := by
  have hcfg : linkCfg (onLink p (noteLaneErrors [0, 0, 0, 0, 0]) s) p 0x0C = linkCfg s p 0x0C := by
    rw [linkCfg, onLink_get]
    rfl
  have hzero : ∀ i ∈ List.range 5, nth 0 [0, 0, 0, 0, 0] i = 0 := by decide
  refine List.filter_eq_nil_iff.2 fun i hi => ?_
  have hruns : nth 0 (noteLaneErrors [0, 0, 0, 0, 0] (s.link.get p)).errorRuns i = 0 := hzero i hi
  rw [hcfg, onLink_get, hruns, hzero i hi]
  simp
  omega

theorem tempTaken_parts (p k s) : (tempTaken p k s).hk = (tempStored p k s).hk
    ∧ (tempTaken p k s).headroom = (tempStored p k s).headroom ∧ (tempTaken p k s).pixels = s.pixels
    ∧ ((tempTaken p k s).link.get p).errorRuns = [0, 0, 0, 0, 0]
    ∧ ((tempTaken p k s).link.get p).lanes = (s.link.get p).lanes := by
  have hfirst := firstTemp_frame p (tempReadings k) (tempStored p k (received p k s))
  have hlink : (firstTemp p (tempReadings k) (tempStored p k (received p k s))).link = (received p k s).link :=
    (congrArg State.link hfirst :)
  refine ⟨(congrArg State.hk hfirst :), (congrArg State.headroom hfirst :), (congrArg State.pixels hfirst :), ?_, ?_⟩
  · rw [tempTaken, onLink_get]
    rfl
  · rw [tempTaken, onLink_get, hlink, received_get]
    rfl

theorem tempTaken_toll (p k s) : (cpReady s = true → (modelOf s p).ready = false →
      modelOf (tempTaken p k s) p = initModel (tempReadings k) (modelOf s p))
    ∧ ((modelOf s p).ready = true ∨ cpReady s = false → (tempTaken p k s).toll = s.toll) := by
  have htaken : (tempTaken p k s).toll = if cpReady s && !(modelOf s p).ready then
      { s.toll with models := s.toll.models.modify p (initModel (tempReadings k)) } else s.toll := by
    show (firstTemp p (tempReadings k) (tempStored p k (received p k s))).toll = _
    unfold firstTemp
    exact apply_ite State.toll _ _ _
  refine ⟨fun hready hfirst => ?_, fun hstarted => ?_⟩
  · rw [modelOf, htaken, if_pos (by rw [hready, hfirst]; rfl)]
    exact perPort_get_modify_self _ _ _
  · rw [htaken, if_neg]
    obtain h | h := hstarted <;> simp [h]

/-- The headroom of a TEMP is judged (R337). -/
def tempJudged (low : Prop) [Decidable low] (p : Port) (k : RxPacket) (s : State) : State :=
  if low then withdrawReport p (hdrBand k.header) (tempTaken p k s) else tempTaken p k s

theorem tempFirst_cfg (p k s sub) :
    linkCfg (firstTemp p (tempReadings k) (tempStored p k (received p k s))) p sub = linkCfg s p sub := by
  rw [Outside.toll_eq (firstTemp_frame p (tempReadings k) (tempStored p k (received p k s)))]
  show getEntry _ sub ((received p k s).link.get p).settings = _
  rw [received_get]
  rfl

theorem execTemp_judged {s p k} (htakes : Takes s p k 0xA 16) (hquiet : ∀ i < 5, byteOf (leNat k.payload) (10 + i) = 0)
    (hlimit : linkCfg s p 0x0C ≥ 1) : exec (.temp p k) s = .next
      (tempJudged (halfOf (leNat k.payload) 4 < cfg s (0x4300 + p.num) 2) p k s) := by
  have herrors : ((List.range 5).map fun i => byteOf (leNat k.payload) (10 + i)) = [0, 0, 0, 0, 0] :=
    (List.map_congr_left (g := fun _ => 0) fun i hi => hquiet i (List.mem_range.1 hi)).trans rfl
  have hnone := failedByTemp_none (hlimit.trans_eq (tempFirst_cfg p k s 0x0C).symm)
  show Host.Outcome.next (receiveReturn p 0xA (· == 16) k _ s) = _
  rw [htakes.acts (by decide)]
  dsimp only
  rw [herrors]
  refine congrArg Host.Outcome.next ?_
  show (if _ < _ then withdrawReport p _ (List.foldl _ (tempTaken p k s)
    (failedByTemp (tempTaken p k s) p [0, 0, 0, 0, 0])) else List.foldl _ (tempTaken p k s)
      (failedByTemp (tempTaken p k s) p [0, 0, 0, 0, 0])) = _
  rw [show failedByTemp (tempTaken p k s) p [0, 0, 0, 0, 0] = [] from hnone]
  rfl

/-- What a withdrawn report leaves of the pixel checks (R337). -/
theorem withdrawReport_pixels {p band s r} (hreport : (s.pixels.get p).report = some r) (hcounted : r.counted = true)
    (hband : r.band = band) : ((withdrawReport p band s).pixels.get p).flagged = r.flagged
      ∧ ∀ i ∈ r.added, i ∉ ((withdrawReport p band s).pixels.get p).candidates := by
  rw [withdrawReport_of_counted hreport hcounted hband, pixels_of_only (noteStorm_only p band _), onPixels_get,
    onPixels_get]
  refine ⟨rfl, fun i hi hmem => ?_⟩
  have hkept := (List.mem_filter.1 hmem).2
  simp [hi] at hkept

theorem tempJudged_parts (low : Prop) [Decidable low] (p k s) :
    Outside.faultParts { tempJudged low p k s with pixels := (tempTaken p k s).pixels }
      = Outside.faultParts (tempTaken p k s) := by
  unfold tempJudged
  split
  · exact withdrawReport_parts _ _ _
  · rfl

/-- What a TEMP without lane errors leaves (R210, R219, R293, R307, R311, R337). -/
theorem temp_acts {s p k} (htakes : Takes s p k 0xA 16) (hquiet : ∀ i < 5, byteOf (leNat k.payload) (10 + i) = 0)
    (hlimit : linkCfg s p 0x0C ≥ 1) : ∃ t, exec (.temp p k) s = .next t
      ∧ t.hk = { s.hk with
          tempIn := s.hk.tempIn.set p (tempReadings k), tempInAt := s.hk.tempInAt.set p (some (dtNow s))
          overTemp := s.hk.overTemp.set p (bitOf (leNat k.payload) 120) }
      ∧ (t.headroom.get p).lowest = some (match (s.headroom.get p).lowest with
          | some x => min x (halfOf (leNat k.payload) 4) | none => halfOf (leNat k.payload) 4)
      ∧ (t.link.get p).errorRuns = [0, 0, 0, 0, 0] ∧ (t.link.get p).lanes = (s.link.get p).lanes
      ∧ (cpReady s = true → (modelOf s p).ready = false → modelOf t p = initModel (tempReadings k) (modelOf s p))
      ∧ ((modelOf s p).ready = true ∨ cpReady s = false → t.toll = s.toll)
      ∧ (halfOf (leNat k.payload) 4 ≥ cfg s (0x4300 + p.num) 2 → t.pixels = s.pixels)
      ∧ (∀ r, halfOf (leNat k.payload) 4 < cfg s (0x4300 + p.num) 2 → (s.pixels.get p).report = some r →
          r.counted = true → r.band = hdrBand k.header → (t.pixels.get p).flagged = r.flagged
          ∧ ∀ i ∈ r.added, i ∉ (t.pixels.get p).candidates) := by
  refine ⟨tempJudged (halfOf (leNat k.payload) 4 < cfg s (0x4300 + p.num) 2) p k s,
    execTemp_judged htakes hquiet hlimit, ?_⟩
  obtain ⟨hhk, hheadroom, hpixels, hruns, hlanes⟩ := tempTaken_parts p k s
  obtain ⟨hfirst, hlater⟩ := tempTaken_toll p k s
  have hparts := tempJudged_parts (halfOf (leNat k.payload) 4 < cfg s (0x4300 + p.num) 2) p k s
  have hlink := quietLink_of_only hparts p
  have htoll : (tempJudged (halfOf (leNat k.payload) 4 < cfg s (0x4300 + p.num) 2) p k s).toll = (tempTaken p k s).toll :=
    (congrArg State.toll hparts :)
  refine ⟨(congrArg State.hk hparts :).trans hhk, ?_, (congrArg LinkPort.errorRuns hlink :).trans hruns,
    (congrArg LinkPort.lanes hlink :).trans hlanes, fun hready hmodel => ?_, fun h => htoll.trans (hlater h),
    fun hhigh => ?_, fun r hlow hreport => ?_⟩
  · rw [show (tempJudged _ p k s).headroom = _ from (congrArg State.headroom hparts :).trans hheadroom]
    exact congrArg Headroom.lowest (perPort_get_modify_self _ _ _)
  · rw [modelOf, htoll]
    exact hfirst hready hmodel
  · rw [tempJudged, if_neg (Nat.not_lt.2 hhigh), hpixels]
  · rw [tempJudged, if_pos hlow]
    exact withdrawReport_pixels (by rw [hpixels, hreport])

end Sys2Proof.Laws
end

section
/-!
O31: the answers to CTRLs and HOLDs (R211, R214, R215, R218).
-/

namespace Sys2Proof.Laws

open Sys2Proof Sys2Proof.Machine

/-- The packet acknowledges CTRL `c`. -/
def Answers (s : State) (p : Port) (k : RxPacket) (c : Ctrl) : Prop :=
  Takes s p k 0xB 8 ∧ ((s.link.get p).ctrls.find? fun d => d.sequence.toNat == ackSequence k) = some c

/-- The link of a port whose CTRL `c` is acknowledged by the packet. -/
def answeredLink (k : RxPacket) (c : Ctrl) (l : LinkPort) : LinkPort :=
  { noteSequence (BitVec.ofNat 16 (hdrSequence k.header)) l with
    ctrls := l.ctrls.filter fun x => x.sequence != c.sequence }

/-- CTRL `c` waits no longer (R211). -/
def answered (p : Port) (k : RxPacket) (c : Ctrl) (s : State) : State := onLink p (answeredLink k c) s

theorem answered_get (p k c s) : (answered p k c s).link.get p = answeredLink k c (s.link.get p) := onLink_get _ _ _

theorem execAck_answers {s p k c} (h : Answers s p k c) : exec (.ack p k) s = .next
    (if c.opcode = holdOp then ackHold p (answered p k c s)
      else if (s.link.get p).state = .bringUp then
        (if ackStatus k ≠ 0 then failBringUp p (answered p k c s)
          else if c.opcode = 5 && (s.link.get p).step != 7 then answered p k c s
          else bringUpAck p (ackValue k) (answered p k c s))
      else answered p k c s) := by
  obtain ⟨htakes, hfind⟩ := h
  show Host.Outcome.next (receiveReturn p 0xB (· == 8) k _ s) = _
  rw [htakes.acts (by decide)]
  have hfound : ((received p k s).link.get p).ctrls.find? (fun d => d.sequence.toNat == ackSequence k) = some c := by
    rw [received_get]
    exact hfind
  have hanswered : onLink p (fun l => { l with ctrls := l.ctrls.filter fun x => x.sequence != c.sequence })
      (received p k s) = answered p k c s := onLink_onLink _ _ _ _
  have hget := answered_get p k c s
  rw [hfound]
  simp only [answerCtrl, hanswered, hget]
  rfl

/-! ## HOLD and answers that change nothing else (R218) -/

/-- The link of a port whose HOLD is acknowledged. -/
def heldLink (l : LinkPort) : LinkPort :=
  { l with
    state := if l.state = .service ∨ l.state = .halfRate then .hold else l.state
    counts := { l.counts with holds := count32 l.counts.holds } }

theorem remapHeld_of_settled {p} {s : State} (h : (s.link.get p).remap = false) : remapHeld p s = s :=
  if_neg (by simp [h])

theorem noteSequence_holds (q l) : (noteSequence q l).counts.holds = l.counts.holds := by
  unfold noteSequence
  dsimp only
  split
  · split <;> rfl
  · rfl

theorem ack_holds {s p k c} (h : Answers s p k c) (hop : c.opcode = holdOp) (hstate : (s.link.get p).state = .service)
    (hremap : (s.link.get p).remap = false) : ∃ t, exec (.ack p k) s = .next t
      ∧ t = { s with link := t.link } ∧ (∀ q, q ≠ p → t.link.get q = s.link.get q)
      ∧ (t.link.get p).state = .hold
      ∧ (t.link.get p).counts.holds = min ((s.link.get p).counts.holds + 1) (2 ^ 32 - 1)
      ∧ (t.link.get p).ctrls = (s.link.get p).ctrls.filter fun x => x.sequence != c.sequence := by
  have hheld : ackHold p (answered p k c s) = onLink p (fun l => heldLink (answeredLink k c l)) s := by
    refine (remapHeld_of_settled ?_).trans (onLink_onLink _ _ _ _)
    rw [onLink_get, answered_get]
    exact hremap
  have hcounts := noteSequence_holds (BitVec.ofNat 16 (hdrSequence k.header)) (s.link.get p)
  refine ⟨_, (execAck_answers h).trans (by rw [if_pos hop, hheld]), rfl,
    fun q hq => perPort_get_modify_of_ne _ _ hq, ?_, ?_, ?_⟩
  · rw [onLink_get]
    exact if_pos (.inl hstate)
  · rw [onLink_get, ← hcounts]
    rfl
  · rw [onLink_get]
    rfl

theorem ack_only {s p k c} (h : Answers s p k c) (hop : c.opcode ≠ holdOp)
    (hplain : (s.link.get p).state ≠ .bringUp ∨ (c.opcode = 5 ∧ ackStatus k = 0 ∧ (s.link.get p).step ≠ 7)) :
    ∃ t, exec (.ack p k) s = .next t
      ∧ t = { s with link := t.link } ∧ (∀ q, q ≠ p → t.link.get q = s.link.get q)
      ∧ t.link.get p = answeredLink k c (s.link.get p) := by
  refine ⟨answered p k c s, (execAck_answers h).trans ?_, rfl, fun q hq => perPort_get_modify_of_ne _ _ hq,
    answered_get p k c s⟩
  rw [if_neg hop]
  by_cases hup : (s.link.get p).state = .bringUp
  · obtain ⟨hwrite, hstatus, hstep⟩ := hplain.resolve_left (not_not_intro hup)
    rw [if_pos hup, if_neg (not_not_intro hstatus), if_pos (by simp [hwrite, hstep])]
  · rw [if_neg hup]

end Sys2Proof.Laws
end

section
/-!
O31: the steps of a bring-up that an ACK leads to (R213, R214, R215, R323).
-/

namespace Sys2Proof.Laws

open Sys2Proof Sys2Proof.Machine

/-! ## A failed step (R215) -/

/-- A bring-up that is tried again stands at the start of its step. -/
theorem failBringUp_sub {p : Port} {s : State} (hfew : (s.link.get p).failures < 2) (hwanted : portWanted s p = true) :
    ((failBringUp p s).link.get p).sub = 0 := by
  have heq : failBringUp p s = startBringUp p (onLink p (fun l => { l with failures := (s.link.get p).failures + 1 }) s) :=
    (if_neg (by omega)).trans (if_pos hwanted)
  obtain ⟨row, epoch, hget⟩ := startBringUp_get p
    (onLink p (fun l => { l with failures := (s.link.get p).failures + 1 }) s)
  rw [heq, hget]
  exact (congrArg LinkPort.sub (sendCtrl_signalled row epoch 1 (List.replicate 16 0) _) :)

/-- The array has not done what the step asks for: a status other than 0, or a wrong Geometry (R213, R215). -/
theorem ack_restarts {s p k c} (h : Answers s p k c) (hop : c.opcode ≠ holdOp) (hup : (s.link.get p).state = .bringUp)
    (hbad : ackStatus k ≠ 0 ∨ (c.opcode ≠ 5 ∧ (s.link.get p).step = 2 ∧ (s.link.get p).sub = 2
        ∧ ¬(bitsOf (ackValue k) 16 10 = 1023 ∧ bitsOf (ackValue k) 0 9 = 511))) :
    ∃ t, exec (.ack p k) s = .next t
      ∧ ((s.link.get p).failures < 2 → portWanted s p = false → (t.link.get p).state = .off)
      ∧ ((s.link.get p).failures < 2 → portWanted s p = true → (t.link.get p).state = .bringUp ∧ (t.link.get p).step = 2
          ∧ (t.link.get p).sub = 0 ∧ (t.link.get p).failures = (s.link.get p).failures + 1)
      ∧ ((s.link.get p).failures ≥ 2 → (t.link.get p).state = .lost
          ∧ isActive t (0x1B + p.num) (0x0A + p.num) = true) := by
  have hget := answered_get p k c s
  have hstays : ((answered p k c s).link.get p).state = .bringUp := by rw [hget]; exact hup
  have hfailures : ((answered p k c s).link.get p).failures = (s.link.get p).failures := by rw [hget]; rfl
  obtain ⟨⟨hoff, hagain, hlost⟩, -⟩ := failBringUp_restarted hstays rfl rfl rfl
  rw [hfailures] at hoff hagain hlost
  refine ⟨failBringUp p (answered p k c s), (execAck_answers h).trans ?_, hoff, fun hfew hwanted => ?_, fun hmany => ?_⟩
  · rw [if_neg hop, if_pos hup]
    by_cases hstatus : ackStatus k = 0
    · obtain ⟨hread, hstep, hsub, hgeometry⟩ := hbad.resolve_left (not_not_intro hstatus)
      have hreset : bringUpAck p (ackValue k) (answered p k c s) = failBringUp p (answered p k c s) := by
        simp only [bringUpAck, ackReset, hget, answeredLink, noteSequence, hstep, hsub]
        exact if_neg hgeometry
      rw [if_neg (not_not_intro hstatus), if_neg (by simp [hread]), hreset]
    · rw [if_pos hstatus]
  · obtain ⟨hstate, hstep, hcount, -⟩ := hagain hfew hwanted
    exact ⟨hstate, hstep, failBringUp_sub (hfailures ▸ hfew) hwanted, hcount⟩
  · obtain ⟨hstate, -, -, -, -, hactive⟩ := hlost hmany
    exact ⟨hstate, hactive⟩

end Sys2Proof.Laws
end

section
/-!
O31: how a bring-up advances with each ACK (R214, R323).
-/

namespace Sys2Proof.Laws

open Sys2Proof Sys2Proof.Machine

/-! ## What sending leaves of a link -/

theorem readReg_only (p a s) : Outside.faultParts (readReg p a s) = Outside.faultParts s := ctrl_only _ _ _ _

theorem sendTrain_only (p pattern codes s) : Outside.faultParts (sendTrain p pattern codes s) = Outside.faultParts s :=
  ctrl_only _ _ _ _

theorem sendSetLanes_only (p band s) : Outside.faultParts (sendSetLanes p band s) = Outside.faultParts s :=
  ctrl_only _ _ _ _

theorem sendPacket_signalled (ty row epoch field payload lanes l) :
    signalled {} (sendPacket ty row epoch field payload lanes l) = signalled {} l := rfl

theorem sendZone_signalled (zr epoch line codes l) : signalled {} (sendZone zr epoch line codes l) = signalled {} l := rfl

theorem sendTrimRow_signalled (row epoch immediate trim l) :
    signalled {} (sendTrimRow row epoch immediate trim l) = signalled {} l := by
  unfold sendTrimRow
  rw [foldl_keeps (signalled {}) fun l b => sendPacket_signalled _ _ _ _ _ _ l]

theorem uploadTrims_only (p s) : Outside.faultParts (uploadTrims p s) = Outside.faultParts s :=
  only_onLink _ _ _ fun l => by rw [foldl_keeps (signalled {}) fun l r => sendTrimRow_signalled _ _ _ _ l]

theorem sendFirstSettings_only (p s) : Outside.faultParts (sendFirstSettings p s) = Outside.faultParts s :=
  (ctrl_only _ _ _ _).trans (only_onLink _ _ _ fun l => by
    show signalled {} (List.foldl _ l _) = _
    rw [foldl_keeps (signalled {}) fun l zr => sendZone_signalled _ _ _ _ l])

/-- The registers that step 7 writes leave the link but for what is sent (R323). -/
theorem writeDiagnostics_quiet (p s) : signalled {} ((writeDiagnostics p s).link.get p) = signalled {} (s.link.get p) := by
  have hwrite : ∀ a v t, signalled {} ((writeReg p a v t).link.get p) = signalled {} (t.link.get p) := fun a v t =>
    quietLink_of_only (ctrl_only _ _ _ _) p
  have hpixels : ∀ f t, (onPixels p f t).link = t.link := fun _ _ => rfl
  unfold writeDiagnostics
  dsimp only
  rw [foldl_keeps (fun t : State => signalled {} (t.link.get p)) (fun t i => hwrite _ _ t), hpixels, hwrite, hwrite, hwrite]

/-! ## Step 2 (R213, R214) -/

theorem ackReset_first {p v} {s : State} (hsub : (s.link.get p).sub = 0) :
    signalled {} ((ackReset p v s).link.get p) = signalled {} { s.link.get p with sub := 1 } := by
  have heq : ackReset p v s = readReg p 0 (onLink p (fun l => { l with sub := 1 }) s) := by
    rw [ackReset, hsub]
    rfl
  rw [heq, quietLink_of_only (readReg_only _ _ _), onLink_get]

theorem ackReset_second {p v} {s : State} (hsub : (s.link.get p).sub = 1) : signalled {} ((ackReset p v s).link.get p)
    = signalled {} { s.link.get p with sub := 2, arrayId := BitVec.ofNat 32 v } := by
  have heq : ackReset p v s = readReg p 4 (onLink p (fun l => { l with sub := 2, arrayId := BitVec.ofNat 32 v }) s) := by
    rw [ackReset, hsub]
    rfl
  rw [heq, quietLink_of_only (readReg_only _ _ _), onLink_get]

theorem trainCode_quiet (p k s) : signalled {} ((trainCode p k s).link.get p)
    = { signalled {} (s.link.get p) with step := 4, sub := 6 * k } := by
  rw [trainCode, onLink_get]
  exact congrArg (fun l : LinkPort => { l with step := 4, sub := 6 * k }) (quietLink_of_only (sendTrain_only _ _ _ _) p)

theorem ackReset_third {p v} {s : State} (hsub : (s.link.get p).sub = 2) (hcolumns : bitsOf v 16 10 = 1023)
    (hrows : bitsOf v 0 9 = 511) : ((ackReset p v s).link.get p).step = 4 ∧ ((ackReset p v s).link.get p).sub = 0
      ∧ (linkCfg s p 9 = 1 → ((ackReset p v s).link.get p).ctle = linkCfg s p 0x0A) := by
  have heq : ackReset p v s = trainCode p 0 (chooseCtle p s) := by
    rw [ackReset, hsub]
    exact if_pos ⟨hcolumns, hrows⟩
  have hquiet := trainCode_quiet p 0 (chooseCtle p s)
  rw [heq]
  exact ⟨(congrArg LinkPort.step hquiet :), (congrArg LinkPort.sub hquiet :),
    fun hfixed => (congrArg LinkPort.ctle hquiet :).trans ((chooseCtle_link p s).2 hfixed)⟩

/-! ## Steps 4 and 5 (R214) -/

/-- What an ACK of the sweep brings. -/
def sweepNoted (p : Port) (v : Nat) (s : State) : State :=
  onLink p (fun l => { l with sweep := v :: l.sweep, sub := l.sub + 1 }) s

theorem ackSweep_lane {p v} {s : State} (hlane : (s.link.get p).sub % 6 < 5) :
    ((ackSweep p v s).link.get p).step = (s.link.get p).step
      ∧ ((ackSweep p v s).link.get p).sub = (s.link.get p).sub + 1 := by
  by_cases hfirst : (s.link.get p).sub % 6 = 0
  · have heq : ackSweep p v s = readReg p 0x20 (onLink p (fun l => { l with sub := l.sub + 1 }) s) := if_pos hfirst
    have hquiet := quietLink_of_only (readReg_only p 0x20 (onLink p (fun l => { l with sub := l.sub + 1 }) s)) p
    rw [onLink_get] at hquiet
    rw [heq]
    exact ⟨(congrArg LinkPort.step hquiet :), (congrArg LinkPort.sub hquiet :)⟩
  · have heq : ackSweep p v s = readReg p (0x20 + 4 * ((s.link.get p).sub % 6)) (sweepNoted p v s) :=
      (if_neg hfirst).trans (if_pos hlane)
    have hquiet := quietLink_of_only (readReg_only p (0x20 + 4 * ((s.link.get p).sub % 6)) (sweepNoted p v s)) p
    rw [sweepNoted, onLink_get] at hquiet
    rw [heq]
    exact ⟨(congrArg LinkPort.step hquiet :), (congrArg LinkPort.sub hquiet :)⟩

theorem ackSweep_next {p v} {s : State} (hlane : (s.link.get p).sub % 6 = 5)
    (hmore : (s.link.get p).sub / 6 + 1 < (sweepCodes s p).length) : ((ackSweep p v s).link.get p).step = 4
      ∧ ((ackSweep p v s).link.get p).sub = 6 * ((s.link.get p).sub / 6 + 1) := by
  have heq : ackSweep p v s = trainCode p ((s.link.get p).sub / 6 + 1) (sweepNoted p v s) :=
    (if_neg (by omega)).trans ((if_neg (by omega)).trans (if_pos hmore))
  have hquiet := trainCode_quiet p ((s.link.get p).sub / 6 + 1) (sweepNoted p v s)
  rw [heq]
  exact ⟨(congrArg LinkPort.step hquiet :), (congrArg LinkPort.sub hquiet :)⟩

theorem ackSweep_ends {p v} {s : State} (hlane : (s.link.get p).sub % 6 = 5)
    (hlast : (s.link.get p).sub / 6 + 1 ≥ (sweepCodes s p).length) : ((ackSweep p v s).link.get p).step = 5
      ∧ ((ackSweep p v s).link.get p).sub = 0
      ∧ ((ackSweep p v s).link.get p).deemphasis
        = (endSweep (sweepCodes s p) { s.link.get p with sweep := v :: (s.link.get p).sweep }).deemphasis := by
  have heq : ackSweep p v s = readReg p 0x40 (onLink p (fun l => { endSweep (sweepCodes s p) l with step := 5, sub := 0 })
      (sweepNoted p v s)) := (if_neg (by omega)).trans ((if_neg (by omega)).trans (if_neg (by omega)))
  have hquiet := quietLink_of_only (readReg_only p 0x40
    (onLink p (fun l => { endSweep (sweepCodes s p) l with step := 5, sub := 0 }) (sweepNoted p v s))) p
  rw [onLink_get, sweepNoted, onLink_get] at hquiet
  rw [heq, sweepNoted]
  exact ⟨(congrArg LinkPort.step hquiet :), (congrArg LinkPort.sub hquiet :), (congrArg LinkPort.deemphasis hquiet :)⟩

/-- A lane's skew as step 5 reads it. -/
def skewNoted (p : Port) (v : Nat) (s : State) : State :=
  onLink p (fun l => { l with sweep := v :: l.sweep, sub := (s.link.get p).sub + 1 }) s

theorem ackSkew_lane {p v} {s : State} (hlane : (s.link.get p).sub < 4) : signalled {} ((ackSkew p v s).link.get p)
    = signalled {} { s.link.get p with sweep := v :: (s.link.get p).sweep, sub := (s.link.get p).sub + 1 } := by
  have heq : ackSkew p v s = readReg p (0x40 + 4 * ((s.link.get p).sub + 1)) (skewNoted p v s) := if_pos hlane
  rw [heq, quietLink_of_only (readReg_only _ _ _), skewNoted, onLink_get]

theorem ackSkew_ends {p v} {s : State} (hlane : (s.link.get p).sub = 4)
    (hgood : (goodLanes (endSkew { s.link.get p with sweep := v :: (s.link.get p).sweep })).length ≥ 3) :
    ((ackSkew p v s).link.get p).step = 6 ∧ ((ackSkew p v s).link.get p).sub = 0
      ∧ ((ackSkew p v s).link.get p).map
        = (goodLanes (endSkew { s.link.get p with sweep := v :: (s.link.get p).sweep })).take 4 := by
  have hlanes : goodLanes ((onLink p endSkew (skewNoted p v s)).link.get p)
      = goodLanes (endSkew { s.link.get p with sweep := v :: (s.link.get p).sweep }) := by
    rw [onLink_get, skewNoted, onLink_get]
    rfl
  have heq : ackSkew p v s = sendSetLanes p 0 (onLink p (fun l => { assignLanes l with step := 6, sub := 0 })
      (onLink p endSkew (skewNoted p v s))) :=
    (if_neg (by omega)).trans (if_neg (show ¬(goodLanes ((onLink p endSkew (skewNoted p v s)).link.get p)).length < 3 by
      rw [hlanes]; omega))
  have hquiet := quietLink_of_only (sendSetLanes_only p 0 (onLink p (fun l => { assignLanes l with step := 6, sub := 0 })
      (onLink p endSkew (skewNoted p v s)))) p
  rw [onLink_get] at hquiet
  rw [heq, ← hlanes]
  exact ⟨(congrArg LinkPort.step hquiet :), (congrArg LinkPort.sub hquiet :), (congrArg LinkPort.map hquiet :)⟩

/-! ## Steps 6 to 8 (R214, R323) -/

theorem bringUpAck_sixth {p v} {s : State} (hstep : (s.link.get p).step = 6) :
    ((bringUpAck p v s).link.get p).step = 7 ∧ ((bringUpAck p v s).link.get p).sub = 0 := by
  have heq : bringUpAck p v s = writeDiagnostics p (uploadTrims p (onLink p (fun l => { l with step := 7, sub := 0 }) s)) := by
    rw [bringUpAck, hstep]
    rfl
  have hquiet := (writeDiagnostics_quiet p (uploadTrims p (onLink p (fun l => { l with step := 7, sub := 0 }) s))).trans
    (quietLink_of_only (uploadTrims_only _ _) p)
  rw [onLink_get] at hquiet
  rw [heq]
  exact ⟨(congrArg LinkPort.step hquiet :), (congrArg LinkPort.sub hquiet :)⟩

theorem ackDiagnostics_waits {p} {s : State} (h : writesOpen (s.link.get p) = true) :
    (ackDiagnostics p s).link.get p = { s.link.get p with sub := (s.link.get p).sub + 1 } := by
  rw [ackDiagnostics, if_pos h, onLink_get]

theorem ackDiagnostics_ends {p} {s : State} (h : writesOpen (s.link.get p) = false) :
    ((ackDiagnostics p s).link.get p).step = 8 ∧ ((ackDiagnostics p s).link.get p).sub = 0 := by
  have hquiet := quietLink_of_only (sendFirstSettings_only p (onLink p (fun l => { l with step := 8, sub := 0 }) s)) p
  rw [onLink_get] at hquiet
  rw [ackDiagnostics, if_neg (by simp [h])]
  exact ⟨(congrArg LinkPort.step hquiet :), (congrArg LinkPort.sub hquiet :)⟩

theorem bringUpAck_starts {p v} {s : State} (hstep : (s.link.get p).step = 8) (hsub : (s.link.get p).sub = 0) :
    ((bringUpAck p v s).link.get p).step = 8 ∧ ((bringUpAck p v s).link.get p).sub = 1
      ∧ ((bringUpAck p v s).link.get p).startAt = some (startFrame s) := by
  have heq : bringUpAck p v s = sendStart p (startFrame s) (onLink p (fun l => { l with sub := 1 }) s) := by
    rw [bringUpAck, hstep]
    exact if_pos hsub
  have hquiet := quietLink_of_only (sendStart_only p (startFrame s) (onLink p (fun l => { l with sub := 1 }) s)) p
  rw [onLink_get] at hquiet
  rw [heq]
  refine ⟨(congrArg LinkPort.step hquiet :).trans hstep, (congrArg LinkPort.sub hquiet :), ?_⟩
  rw [sendStart, onLink_get]

theorem bringUpAck_started {p v} {s : State} (hstep : (s.link.get p).step = 8) (hsub : (s.link.get p).sub = 1) :
    ((bringUpAck p v s).link.get p).step = 9 := by
  have heq : bringUpAck p v s = onLink p (fun l => { l with step := 9 }) s := by
    rw [bringUpAck, hstep]
    exact if_neg (by simp [hsub])
  rw [heq, onLink_get]

/-! ## The ACK of a bring-up -/

theorem ack_advances {s p k c} (h : Answers s p k c) (hop : c.opcode ≠ holdOp) (hup : (s.link.get p).state = .bringUp)
    (hstatus : ackStatus k = 0) (hread : c.opcode ≠ 5 ∨ (s.link.get p).step = 7) :
    exec (.ack p k) s = .next (bringUpAck p (ackValue k) (answered p k c s)) := by
  rw [execAck_answers h, if_neg hop, if_pos hup, if_neg (not_not_intro hstatus), if_neg]
  obtain hread | hseven := hread
  · simp [hread]
  · simp [hseven]

/-- After the answer a register write is open when another one waits for its ACK, or for room in a line. -/
theorem writesOpen_answered (k c l) : writesOpen (answeredLink k c l)
    = ((l.ctrls.any fun d => d.sequence != c.sequence && d.opcode == 5) || l.deferred.any fun d => d.1 == 5) :=
  congrArg (· || _) List.any_filter

theorem linkCfg_answered (p k c s sub) : linkCfg (answered p k c s) p sub = linkCfg s p sub := by
  rw [linkCfg, answered_get]
  rfl

theorem sweepCodes_answered (p k c s) : sweepCodes (answered p k c s) p = sweepCodes s p := by
  rw [sweepCodes, linkCfg_answered, linkCfg_answered]
  rfl

/-- The step that an ACK with value `v` leads from link `l` to link `m` of port `p` of `s`; `waits` says that another
register write is open (R214, R323). -/
def Advances (s : State) (p : Port) (v : Nat) (waits : Bool) (l m : LinkPort) : Prop :=
  (l.step = 2 → l.sub = 0 → (m.step, m.sub) = (2, 1))
    ∧ (l.step = 2 → l.sub = 1 → (m.step, m.sub) = (2, 2) ∧ m.arrayId = BitVec.ofNat 32 v)
    ∧ (l.step = 2 → l.sub = 2 → bitsOf v 16 10 = 1023 → bitsOf v 0 9 = 511 →
        (m.step, m.sub) = (4, 0) ∧ (linkCfg s p 9 = 1 → m.ctle = linkCfg s p 0x0A))
    ∧ (l.step = 4 → l.sub % 6 < 5 → (m.step, m.sub) = (4, l.sub + 1))
    ∧ (l.step = 4 → l.sub % 6 = 5 → l.sub / 6 + 1 < (sweepCodes s p).length → (m.step, m.sub) = (4, 6 * (l.sub / 6 + 1)))
    ∧ (l.step = 4 → l.sub % 6 = 5 → l.sub / 6 + 1 ≥ (sweepCodes s p).length → (m.step, m.sub) = (5, 0)
        ∧ m.deemphasis = (endSweep (sweepCodes s p) { l with sweep := v :: l.sweep }).deemphasis)
    ∧ (l.step = 5 → l.sub < 4 → (m.step, m.sub) = (5, l.sub + 1) ∧ m.sweep = v :: l.sweep)
    ∧ (l.step = 5 → l.sub = 4 → (goodLanes (endSkew { l with sweep := v :: l.sweep })).length ≥ 3 →
        (m.step, m.sub) = (6, 0) ∧ m.map = (goodLanes (endSkew { l with sweep := v :: l.sweep })).take 4)
    ∧ (l.step = 6 → (m.step, m.sub) = (7, 0))
    ∧ (l.step = 7 → (waits = true → (m.step, m.sub) = (7, l.sub + 1)) ∧ (waits = false → (m.step, m.sub) = (8, 0)))
    ∧ (l.step = 8 → l.sub = 0 → (m.step, m.sub) = (8, 1) ∧ m.startAt = some (startFrame s))
    ∧ (l.step = 8 → l.sub = 1 → m.step = 9)

section

variable {p : Port} {v : Nat} {s : State}

theorem bringUpAck_of_reset (h : (s.link.get p).step = 2) : bringUpAck p v s = ackReset p v s := by
  rw [bringUpAck, h]
  rfl

theorem bringUpAck_of_sweep (h : (s.link.get p).step = 4) : bringUpAck p v s = ackSweep p v s := by
  rw [bringUpAck, h]
  rfl

theorem bringUpAck_of_skew (h : (s.link.get p).step = 5) : bringUpAck p v s = ackSkew p v s := by
  rw [bringUpAck, h]
  rfl

theorem bringUpAck_of_diagnostics (h : (s.link.get p).step = 7) : bringUpAck p v s = ackDiagnostics p s := by
  rw [bringUpAck, h]
  rfl

/-- Each step of a bring-up leads to the next one (R214, R323). -/
theorem bringUpAck_advances :
    Advances s p v (writesOpen (s.link.get p)) (s.link.get p) ((bringUpAck p v s).link.get p) := by
  refine ⟨fun hstep hsub => ?_, fun hstep hsub => ?_, fun hstep hsub hcolumns hrows => ?_, fun hstep hlane => ?_,
    fun hstep hlane hmore => ?_, fun hstep hlane hlast => ?_, fun hstep hlane => ?_, fun hstep hlane hgood => ?_,
    fun hstep => ?_, fun hstep => ⟨fun hopen => ?_, fun hdone => ?_⟩, fun hstep hsub => ?_,
    fun hstep hsub => bringUpAck_started hstep hsub⟩
  case refine_1 =>
    have hquiet := ackReset_first (v := v) hsub
    rw [bringUpAck_of_reset hstep]
    exact Prod.ext ((congrArg LinkPort.step hquiet :).trans hstep) (congrArg LinkPort.sub hquiet :)
  case refine_2 =>
    have hquiet := ackReset_second (v := v) hsub
    rw [bringUpAck_of_reset hstep]
    exact ⟨Prod.ext ((congrArg LinkPort.step hquiet :).trans hstep) (congrArg LinkPort.sub hquiet :),
      (congrArg LinkPort.arrayId hquiet :)⟩
  case refine_3 =>
    obtain ⟨hnext, hstart, hctle⟩ := ackReset_third hsub hcolumns hrows
    rw [bringUpAck_of_reset hstep]
    exact ⟨Prod.ext hnext hstart, hctle⟩
  case refine_4 =>
    obtain ⟨hsame, hnext⟩ := ackSweep_lane (v := v) hlane
    rw [bringUpAck_of_sweep hstep]
    exact Prod.ext (hsame.trans hstep) hnext
  case refine_5 =>
    obtain ⟨hnext, hstart⟩ := ackSweep_next (v := v) hlane hmore
    rw [bringUpAck_of_sweep hstep]
    exact Prod.ext hnext hstart
  case refine_6 =>
    obtain ⟨hnext, hstart, hcodes⟩ := ackSweep_ends (v := v) hlane hlast
    rw [bringUpAck_of_sweep hstep]
    exact ⟨Prod.ext hnext hstart, hcodes⟩
  case refine_7 =>
    have hquiet := ackSkew_lane (v := v) hlane
    rw [bringUpAck_of_skew hstep]
    exact ⟨Prod.ext ((congrArg LinkPort.step hquiet :).trans hstep) (congrArg LinkPort.sub hquiet :),
      (congrArg LinkPort.sweep hquiet :)⟩
  case refine_8 =>
    obtain ⟨hnext, hstart, hmap⟩ := ackSkew_ends hlane hgood
    rw [bringUpAck_of_skew hstep]
    exact ⟨Prod.ext hnext hstart, hmap⟩
  case refine_9 =>
    obtain ⟨hnext, hstart⟩ := bringUpAck_sixth (v := v) hstep
    exact Prod.ext hnext hstart
  case refine_10 =>
    rw [bringUpAck_of_diagnostics hstep, ackDiagnostics_waits hopen]
    exact Prod.ext hstep rfl
  case refine_11 =>
    obtain ⟨hnext, hstart⟩ := ackDiagnostics_ends hdone
    rw [bringUpAck_of_diagnostics hstep]
    exact Prod.ext hnext hstart
  case refine_12 =>
    obtain ⟨hsame, hnext, hframe⟩ := bringUpAck_starts (v := v) hstep hsub
    exact ⟨Prod.ext hsame hnext, hframe⟩

end

/-- The step that an ACK of a bring-up leads to (R211, R214, R323). -/
theorem ack_steps {s p k c} (h : Answers s p k c) (hop : c.opcode ≠ holdOp) (hup : (s.link.get p).state = .bringUp)
    (hstatus : ackStatus k = 0) (hread : c.opcode ≠ 5 ∨ (s.link.get p).step = 7) : ∃ t, exec (.ack p k) s = .next t
      ∧ Advances s p (ackValue k) ((s.link.get p).ctrls.any (fun d => d.sequence != c.sequence && d.opcode == 5)
        || (s.link.get p).deferred.any fun d => d.1 == 5) (s.link.get p) (t.link.get p) := by
  refine ⟨_, ack_advances h hop hup hstatus hread, ?_⟩
  have hnext := bringUpAck_advances (p := p) (v := ackValue k) (s := answered p k c s)
  rw [answered_get, writesOpen_answered, Advances, linkCfg_answered, linkCfg_answered, sweepCodes_answered] at hnext
  exact hnext

end Sys2Proof.Laws
end

section
/-!
O31: a lane of a port fails (R214, R219, R220, R222, R223), and the assembly.
-/

namespace Sys2Proof.Laws

open Sys2Proof Sys2Proof.Machine

/-! ## Lists of lanes -/

theorem nth_mapIdx {α : Type} (d : α) (f : Nat → α → α) {xs : List α} {i : Nat} (h : i < xs.length) :
    nth d (xs.mapIdx f) i = f i (nth d xs i) := by
  simp [nth, List.getD_eq_getElem?_getD, h]

theorem nth_beyond {α : Type} (d : α) {xs : List α} {i : Nat} (h : xs.length ≤ i) : nth d xs i = d := by
  simp [nth, List.getD_eq_getElem?_getD, h]

theorem nth_map {α β : Type} (d : α) (e : β) (f : α → β) {xs : List α} {i : Nat} (h : i < xs.length) :
    nth e (xs.map f) i = f (nth d xs i) := by
  simp [nth, List.getD_eq_getElem?_getD, h]

/-! ## The failure of a lane on a link (R219, R223) -/

/-- The link of a port one of whose lanes has failed. -/
def laneFailed (lane : Nat) (x : LaneState) (l : LinkPort) : LinkPort :=
  { failLanes (· == lane) l with
    errorRuns := modifyAt (fun _ => 0) lane l.errorRuns
    spare := if l.spare = some lane then none else l.spare
    remap := l.remap || x == .working }

/-- What becomes of a lane that fails: the fourth failure is for good (R223). -/
def failedState (l : LinkPort) (lane : Nat) : LaneState :=
  if nth 0 l.laneFails lane + 1 ≥ 4 then .failedForGood else .failed

theorem failedState_ne_working (l lane) : failedState l lane ≠ .working ∧ failedState l lane ≠ .spare := by
  unfold failedState
  split <;> exact ⟨by decide, by decide⟩

theorem failLanes_laneFails (bad l) : (failLanes bad l).laneFails
    = (List.range 5).map fun i => nth 0 l.laneFails i + ofBool (bad i) := rfl

theorem failLanes_lanes (bad l) : (failLanes bad l).lanes = l.lanes.mapIdx fun i x => if !bad i then x
    else if nth 0 (failLanes bad l).laneFails i ≥ 4 then .failedForGood else .failed := rfl

theorem failLanes_fails (l) {lane : Nat} (hlane : lane < 5) :
    nth 0 (failLanes (· == lane) l).laneFails lane = nth 0 l.laneFails lane + 1 := by
  rw [failLanes_laneFails, nth_map_range 0 _ hlane, beq_self_eq_true]
  rfl

theorem failLanes_lane {l : LinkPort} {lane : Nat} (hlength : l.lanes.length = 5) (hlane : lane < 5) :
    nth .failed (failLanes (· == lane) l).lanes lane = failedState l lane := by
  rw [failLanes_lanes, nth_mapIdx _ _ (by omega), failLanes_fails l hlane, beq_self_eq_true]
  rfl

theorem failLanes_other {l : LinkPort} {lane y : Nat} (hy : y ≠ lane) :
    nth LaneState.failed (failLanes (· == lane) l).lanes y = nth .failed l.lanes y := by
  rw [failLanes_lanes]
  by_cases hin : y < l.lanes.length
  · rw [nth_mapIdx _ _ hin, beq_eq_false_iff_ne.2 hy]
    rfl
  · rw [nth_beyond _ (by rw [List.length_mapIdx]; omega), nth_beyond _ (by omega)]

/-- The lanes that are left after the failure (R220). -/
theorem survivors_laneFailed {l : LinkPort} {lane x} (hlength : l.lanes.length = 5) (hlane : lane < 5) :
    survivors (laneFailed lane x l) = l.map.filter fun y => y != lane && nth .failed l.lanes y == .working := by
  refine List.filter_congr fun y _ => ?_
  show (nth LaneState.failed (failLanes (· == lane) l).lanes y == .working) = _
  by_cases hy : y = lane
  · subst hy
    rw [failLanes_lane hlength hlane]
    simp [failedState_ne_working]
  · rw [failLanes_other hy]
    simp [hy]

/-! ## The failure of a lane of a port (R219, R220) -/

theorem remapHeld_of_up {p} {s : State} (h : (s.link.get p).state ≠ .hold) : remapHeld p s = s :=
  if_neg fun hheld => h hheld.1

/-- A port that is lost keeps what it counts and its other fields, as `lostLink` says (R222). -/
theorem losePort_quiet {p : Port} {s : State} (lasting) (h : (s.link.get p).state ≠ .lost) :
    signalled {} ((losePort p lasting s).link.get p) = signalled {} (lostLink lasting (s.link.get p)) := by
  have honly : Outside.faultParts (losePort p lasting s) = Outside.faultParts (onLink p (lostLink lasting) s) := by
    rw [losePort_of_up lasting h, endLostKinds_only, raiseKind_only]
  rw [quietLink_of_only honly p, onLink_get]

theorem endLostKinds_blocks (p lasting s) : (endLostKinds p lasting s).faults.blocks = s.faults.blocks := by
  have hclear : ∀ k (c : Bool) t, (if c = true then clearCondition k (0x0A + p.num) t else t).faults.blocks
      = t.faults.blocks := fun k c t => by
    split
    · exact clearCondition_blocks _ _ _
    · rfl
  unfold endLostKinds
  dsimp only
  split
  · rw [hclear, hclear]
  · rw [clearCondition_blocks, hclear, hclear]

theorem losePort_bitsKept {p : Port} {s : State} (lasting) (h : (s.link.get p).state ≠ .lost) :
    BitsKept s (losePort p lasting s) := by
  rw [losePort_of_up lasting h]
  have hraise : BitsKept s (raiseKind (lostKind p) { port := p.num } (onLink p (lostLink lasting) s)) :=
    (raiseKind_bitsKept _ _ _).of_start rfl
  exact hraise.trans (bitsKept_of_blocks (endLostKinds_blocks _ _ _))

/-- The kind of a failed working lane is noted (R358 kind 0x14). -/
def workingFailed (p : Port) (lane : Nat) (s : State) : State :=
  raiseKind 0x14 { port := p.num, lane := lane } (onLink p (laneFailed lane .working) s)

theorem workingFailed_quiet (p lane s) : signalled {} ((workingFailed p lane s).link.get p)
    = signalled {} (laneFailed lane .working (s.link.get p)) := by
  rw [workingFailed, quietLink_of_only (raiseKind_only _ _ _), onLink_get]

theorem failLane_working {p lane} {s : State} (hserving : portServing s p = true)
    (hworking : nth .failed (s.link.get p).lanes lane = .working) : failLane p lane s
      = if (survivors ((workingFailed p lane s).link.get p)).length
          + ofBool ((workingFailed p lane s).link.get p).spare.isSome < 2
        then losePort p false (workingFailed p lane s) else workingFailed p lane s := by
  unfold failLane
  simp only [hserving, hworking]
  rfl

theorem failLane_spare {p lane} {s : State} (hserving : portServing s p = true)
    (hspare : nth .failed (s.link.get p).lanes lane = .spare) : failLane p lane s
      = raiseKind 0x15 { port := p.num, lane := lane } (onLink p (laneFailed lane .spare) s) := by
  unfold failLane
  simp only [hserving, hspare]
  rfl

/-- What the failure of lane `lane` leaves of a link `l` that is not on hold: the lane is marked, its kind is noted, and a
working lane waits for the remap or loses the port (R219, R220, R223). -/
def LaneFails (p : Port) (lane : Nat) (l : LinkPort) (t : State) : Prop :=
  (nth .failed l.lanes lane = .working → l.spare ≠ some lane →
      nth .failed (t.link.get p).lanes lane = failedState l lane
      ∧ nth 0 (t.link.get p).laneFails lane = nth 0 l.laneFails lane + 1
      ∧ (blockOf t (0x0A + p.num)).bits.getLsbD (kindBit (0x0A + p.num) 0x14) = true
      ∧ ((l.map.filter fun y => y != lane && nth .failed l.lanes y == .working).length + ofBool l.spare.isSome < 2 →
          (t.link.get p).state = .lost ∧ isActive t (0x1B + p.num) (0x0A + p.num) = true)
      ∧ ((l.map.filter fun y => y != lane && nth .failed l.lanes y == .working).length + ofBool l.spare.isSome ≥ 2 →
          (t.link.get p).state = l.state ∧ (t.link.get p).remap = true))
    ∧ (nth .failed l.lanes lane = .spare → l.spare = some lane →
      nth .failed (t.link.get p).lanes lane = failedState l lane
      ∧ (t.link.get p).spare = none ∧ (t.link.get p).map = l.map
      ∧ (blockOf t (0x0A + p.num)).bits.getLsbD (kindBit (0x0A + p.num) 0x15) = true)

theorem lane_lt_of_known {l : LinkPort} {lane x} (hlength : l.lanes.length = 5) (hstate : nth .failed l.lanes lane = x)
    (hx : x ≠ .failed) : lane < 5 := by
  by_contra hout
  exact hx (hstate.symm.trans (nth_beyond _ (by omega)))

theorem kindBit_lane (p : Port) : kindBit (0x0A + p.num) 0x14 < 16 ∧ kindBit (0x0A + p.num) 0x15 < 16 := by
  cases p <;> decide

theorem workingFailed_bit (p lane s) :
    (blockOf (workingFailed p lane s) (0x0A + p.num)).bits.getLsbD (kindBit (0x0A + p.num) 0x14) = true :=
  (raiseKind_noted 0x14 { port := p.num, lane := lane } _ rfl (kindBit_lane p).1).1

/-- A working lane fails (R219, R220). -/
theorem laneFailure_working {p lane} {s : State} (hserving : portServing s p = true)
    (hhold : (s.link.get p).state ≠ .hold) (hlength : (s.link.get p).lanes.length = 5)
    (hworking : nth .failed (s.link.get p).lanes lane = .working) (hspare : (s.link.get p).spare ≠ some lane) :
    nth .failed ((laneFailure p lane s).link.get p).lanes lane = failedState (s.link.get p) lane
      ∧ nth 0 ((laneFailure p lane s).link.get p).laneFails lane = nth 0 (s.link.get p).laneFails lane + 1
      ∧ (blockOf (laneFailure p lane s) (0x0A + p.num)).bits.getLsbD (kindBit (0x0A + p.num) 0x14) = true
      ∧ (((s.link.get p).map.filter fun y => y != lane && nth .failed (s.link.get p).lanes y == .working).length
            + ofBool (s.link.get p).spare.isSome < 2 → ((laneFailure p lane s).link.get p).state = .lost
          ∧ isActive (laneFailure p lane s) (0x1B + p.num) (0x0A + p.num) = true)
      ∧ (((s.link.get p).map.filter fun y => y != lane && nth .failed (s.link.get p).lanes y == .working).length
            + ofBool (s.link.get p).spare.isSome ≥ 2 → ((laneFailure p lane s).link.get p).state = (s.link.get p).state
          ∧ ((laneFailure p lane s).link.get p).remap = true) := by
  have hlane := lane_lt_of_known hlength hworking (by decide)
  have hquiet := workingFailed_quiet p lane s
  have hbit := workingFailed_bit p lane s
  have hfail := failLane_working hserving hworking
  generalize workingFailed p lane s = w at hquiet hbit hfail
  have hstate : (w.link.get p).state = (s.link.get p).state := (congrArg LinkPort.state hquiet :)
  have hlanes : nth .failed (w.link.get p).lanes lane = failedState (s.link.get p) lane :=
    (congrArg (fun l : LinkPort => nth LaneState.failed l.lanes lane) hquiet :).trans (failLanes_lane hlength hlane)
  have hfails : nth 0 (w.link.get p).laneFails lane = nth 0 (s.link.get p).laneFails lane + 1 :=
    (congrArg (fun l : LinkPort => nth 0 l.laneFails lane) hquiet :).trans (failLanes_fails _ hlane)
  have hleft : (survivors (w.link.get p)).length = _ := congrArg List.length
    ((congrArg survivors hquiet :).trans (survivors_laneFailed (x := .working) hlength hlane))
  have hspares : (w.link.get p).spare = (s.link.get p).spare :=
    (congrArg LinkPort.spare hquiet :).trans (if_neg hspare)
  have hup : (w.link.get p).state ≠ .lost := hstate ▸ state_of_serving hserving
  rw [hleft, hspares] at hfail
  by_cases hfew : ((s.link.get p).map.filter fun y => y != lane && nth .failed (s.link.get p).lanes y == .working).length
      + ofBool (s.link.get p).spare.isSome < 2
  · obtain ⟨⟨hlost, -, -, -, -, hactive⟩, -⟩ := losePort_lost (p := p) false hup
    have hlostQuiet := losePort_quiet (p := p) false hup
    have heq : laneFailure p lane s = losePort p false w := by
      rw [laneFailure, hfail, if_pos hfew]
      exact remapHeld_of_up (by rw [hlost]; decide)
    rw [heq]
    refine ⟨?_, (congrArg (fun l : LinkPort => nth 0 l.laneFails lane) hlostQuiet :).trans hfails,
      losePort_bitsKept false hup _ _ hbit, fun _ => ⟨hlost, hactive⟩, fun hmany => absurd hmany (by omega)⟩
    have hlength' : (w.link.get p).lanes.length = 5 :=
      (congrArg (fun l : LinkPort => l.lanes.length) hquiet :).trans (List.length_mapIdx.trans hlength)
    refine (congrArg (fun l : LinkPort => nth LaneState.failed l.lanes lane) hlostQuiet :).trans ?_
    refine (nth_map LaneState.failed LaneState.failed _ (by omega)).trans ?_
    rw [hlanes, if_neg (not_or.2 (failedState_ne_working _ _))]
  · have heq : laneFailure p lane s = w := by
      rw [laneFailure, hfail, if_neg hfew]
      exact remapHeld_of_up (by rw [hstate]; exact hhold)
    rw [heq]
    exact ⟨hlanes, hfails, hbit, fun h => absurd h hfew, fun _ => ⟨hstate,
      (congrArg LinkPort.remap hquiet :).trans (Bool.or_true _)⟩⟩

/-- The spare fails (R219, R223). -/
theorem laneFailure_spare {p lane} {s : State} (hserving : portServing s p = true)
    (hhold : (s.link.get p).state ≠ .hold) (hlength : (s.link.get p).lanes.length = 5)
    (hstate : nth .failed (s.link.get p).lanes lane = .spare) (hspare : (s.link.get p).spare = some lane) :
    nth .failed ((laneFailure p lane s).link.get p).lanes lane = failedState (s.link.get p) lane
      ∧ ((laneFailure p lane s).link.get p).spare = none
      ∧ ((laneFailure p lane s).link.get p).map = (s.link.get p).map
      ∧ (blockOf (laneFailure p lane s) (0x0A + p.num)).bits.getLsbD (kindBit (0x0A + p.num) 0x15) = true := by
  have hlane := lane_lt_of_known hlength hstate (by decide)
  have hquiet := quietLink_of_only (raiseKind_only 0x15 { port := p.num, lane := lane }
    (onLink p (laneFailed lane .spare) s)) p
  rw [onLink_get] at hquiet
  have heq : laneFailure p lane s = raiseKind 0x15 { port := p.num, lane := lane } (onLink p (laneFailed lane .spare) s) := by
    rw [laneFailure, failLane_spare hserving hstate]
    exact remapHeld_of_up fun h => hhold ((congrArg LinkPort.state hquiet :).symm.trans h)
  rw [heq]
  exact ⟨(congrArg (fun l : LinkPort => nth LaneState.failed l.lanes lane) hquiet :).trans (failLanes_lane hlength hlane),
    (congrArg LinkPort.spare hquiet :).trans (if_pos hspare), (congrArg LinkPort.map hquiet :),
    (raiseKind_noted 0x15 { port := p.num, lane := lane } _ rfl (kindBit_lane p).2).1⟩

theorem laneFailure_fails {p lane} {s : State} (hserving : portServing s p = true)
    (hhold : (s.link.get p).state ≠ .hold) (hlength : (s.link.get p).lanes.length = 5) :
    LaneFails p lane (s.link.get p) (laneFailure p lane s) :=
  ⟨laneFailure_working hserving hhold hlength, laneFailure_spare hserving hhold hlength⟩

/-! ## The commands of a lane and of a hold (R211, R217, R219) -/

theorem execLaneFail_takes {s p k} (htakes : Takes s p k 0xB 8) (hlost : isUnsolicited k 0x10 = true) :
    exec (.laneFail p k) s = .next (laneFailure p (ackLane k) (received p k s)) := by
  show Host.Outcome.next (receiveReturn p 0xB (· == 8) k _ s) = _
  rw [htakes.acts (by decide)]
  exact congrArg Host.Outcome.next (if_pos hlost)

theorem execHoldExpired_takes {s p k} (htakes : Takes s p k 0xB 8) (hexpired : isUnsolicited k 0x11 = true) :
    exec (.holdExpired p k) s = .next { s with link := s.link.set p { noteSequence (BitVec.ofNat 16
      (hdrSequence k.header)) (s.link.get p) with expired := true } } := by
  show Host.Outcome.next (receiveReturn p 0xB (· == 8) k _ s) = _
  rw [htakes.acts (by decide)]
  exact congrArg Host.Outcome.next ((if_pos hexpired).trans (onLink_onLink _ _ _ _))

/-- The failure of a lane, on the link as it was before the packet's sequence was noted. -/
theorem received_fails {s p k lane} (hserving : portServing s p = true) (hhold : (s.link.get p).state ≠ .hold)
    (hlength : (s.link.get p).lanes.length = 5) :
    LaneFails p lane (s.link.get p) (laneFailure p lane (received p k s)) := by
  have hget := received_get p k s
  have hfails := laneFailure_fails (p := p) (lane := lane) (s := received p k s)
    (by rw [portServing, hget]; exact hserving) (by rw [hget]; exact hhold) (by rw [hget]; exact hlength)
  rw [hget] at hfails
  exact hfails

/-! ## The statement -/

/-- Settles O31: TEMP, the answers to CTRLs, and the failures of lanes, by the lemmas above. -/
theorem tempAndAcknowledgementsAct : Obligations.TempAndAcknowledgementsAct := by
  unfold Obligations.TempAndAcknowledgementsAct
  refine ⟨fun s p k htakes hquiet hlimit => temp_acts htakes hquiet hlimit, fun s p k c h => ack_holds h,
    fun s p k c h => ack_only h, fun s p k c h => ack_restarts h, fun s p k c h => ack_steps h,
    fun s p k htakes hlost => ⟨_, execLaneFail_takes htakes hlost, fun hserving hhold hlength _ =>
      received_fails hserving hhold hlength⟩,
    fun s p lane hlink hlane => ⟨laneFailure p lane s, congrArg Host.Outcome.next (if_pos (by simp [hlink, hlane])),
      fun hserving hhold hlength _ => laneFailure_fails hserving hhold hlength⟩,
    fun s p k htakes hexpired => ⟨_, execHoldExpired_takes htakes hexpired, rfl⟩⟩

end Sys2Proof.Laws
end

section
/-!
O30: return packets that a port does not take (R189, R212, R342).
-/

namespace Sys2Proof.Laws

open Sys2Proof Sys2Proof.Machine

section

variable {p : Port} {ty : Nat} {lengthOk : Nat → Bool} {k : RxPacket} {act : State → State} {s : State}

theorem receiveReturn_unheard (h : hears s p ty = false) : receiveReturn p ty lengthOk k act s = s :=
  if_pos (by simp [h])

theorem receiveReturn_badCrc (hhears : hears s p ty = true) (hcrc : crcGood k = false) :
    receiveReturn p ty lengthOk k act s = { s with link := s.link.modify p fun l =>
      { l with codeErrors := l.codeErrors + k.codeErrors, counts := { l.counts with returnErrors := min (l.counts.returnErrors + 1) (2 ^ 32 - 1) } } } :=
  (if_neg (by simp [hhears])).trans ((if_pos (by simp [hcrc])).trans (onLink_onLink _ _ _ _))

theorem receiveReturn_badForm (hhears : hears s p ty = true) (hcrc : crcGood k = true)
    (hbad : k.codeErrors ≠ 0 ∨ packetOfType k ty = false) : receiveReturn p ty lengthOk k act s
      = { s with link := s.link.modify p fun l => { l with codeErrors := l.codeErrors + k.codeErrors } } := by
  have hform : (packetGood k && packetOfType k ty && lengthOk k.payload.length) = false := by
    obtain herrors | htype := hbad
    · simp [packetGood, herrors]
    · simp [htype]
  exact (if_neg (by simp [hhears])).trans ((if_neg (by simp [hcrc])).trans (if_pos (by simp [hform])))

end

/-- A command that brings a return packet of a type is judged by `receiveReturn`. -/
theorem exec_returns {p : Port} {k : RxPacket} {ty : Nat} {c : Instr} (s : State)
    (h : (ty, c) ∈ [(8, Instr.bandStatus p k), (9, .vfSample p k), (0xA, .temp p k), (0xB, .ack p k),
        (0xB, .laneFail p k), (0xB, .holdExpired p k)]) :
    ∃ lengthOk act, exec c s = .next (receiveReturn p ty lengthOk k act s) := by
  simp only [List.mem_cons, List.not_mem_nil, or_false, Prod.mk.injEq] at h
  obtain ⟨rfl, rfl⟩ | ⟨rfl, rfl⟩ | ⟨rfl, rfl⟩ | ⟨rfl, rfl⟩ | ⟨rfl, rfl⟩ | ⟨rfl, rfl⟩ := h <;> exact ⟨_, _, rfl⟩

end Sys2Proof.Laws
end

section
/-!
O30: the echo of a BAND_STATUS (R338).
-/

namespace Sys2Proof.Laws

open Sys2Proof Sys2Proof.Machine

/-! ## Raises about pixels -/

theorem pixels_of_raise (k i s) : (raiseKind k i s).pixels = s.pixels := pixels_of_only (raiseKind_only k i s)

theorem disabled_of_raise (k i s) : (raiseKind k i s).nvm.disabled = s.nvm.disabled :=
  (congrArg (fun x : State => x.nvm.disabled) (raiseKind_only k i s) :)

theorem mayEmit_of_disabled {s : State} {p : Port} (h : s.nvm.disabled.get p ≠ 0) : mayEmit s p = false := by
  simp [mayEmit, h]

theorem enable_dropEnables {s : State} {p : Port} (h : (s.link.get p).enable = false) :
    ((dropEnables s).link.get p).enable = false := by
  rw [dropEnables, perPort_get_map]
  split
  · exact h
  · rfl

/-! ## The fault "band echo persistent" (R338) -/

/-- A port whose echo fault begins, with its record but for that of a stuck-lit pixel (log 163). -/
def echoHeldState (p : Port) (s : State) : State :=
  if s.nvm.disabled.get p = 1 then onPixels p (fun x => { x with echoHeld := true }) s
  else putRecord p 2 0xFFFFFFFF (onPixels p (fun x => { x with echoHeld := true }) s)

theorem echoPersistent_of_fresh {p band} {s : State} (h : (s.pixels.get p).echoHeld = false) : echoPersistent p band s
    = dropEnables (raiseKind 0x13 { port := p.num, address := band } (echoHeldState p s)) :=
  if_neg (by simp [h])

theorem echoHeldState_parts (p s) : (echoHeldState p s).pixels.get p = { s.pixels.get p with echoHeld := true }
    ∧ (echoHeldState p s).nvm.disabled.get p = (if s.nvm.disabled.get p = 1 then 1 else 2)
    ∧ (echoHeldState p s).link = s.link ∧ (echoHeldState p s).faults = s.faults := by
  unfold echoHeldState
  split
  · next h => exact ⟨onPixels_get _ _ _, h, rfl, rfl⟩
  · exact ⟨onPixels_get _ _ _, perPort_get_set_self _ _ _, rfl, rfl⟩

/-- The port is dark and its record written (R338). -/
theorem echoPersistent_disables {p band} {s : State} (h : (s.pixels.get p).echoHeld = false) :
    ((echoPersistent p band s).pixels.get p).echoHeld = true ∧ kindActive (echoPersistent p band s) 0x13 = true
      ∧ ((echoPersistent p band s).link.get p).enable = false
      ∧ (echoPersistent p band s).nvm.disabled.get p = if s.nvm.disabled.get p = 1 then 1 else 2 := by
  obtain ⟨hpixels, hdisabled, -, -⟩ := echoHeldState_parts p s
  have hraised := raiseKind_active 0x13 { port := p.num, address := band } (echoHeldState p s) rfl
  have hstands : (raiseKind 0x13 { port := p.num, address := band } (echoHeldState p s)).nvm.disabled.get p
      = if s.nvm.disabled.get p = 1 then 1 else 2 := by rw [disabled_of_raise, hdisabled]
  rw [echoPersistent_of_fresh h]
  refine ⟨?_, ?_, dropEnables_lowers (mayEmit_of_disabled ?_), hstands⟩
  · show ((raiseKind 0x13 _ (echoHeldState p s)).pixels.get p).echoHeld = true
    rw [pixels_of_raise, hpixels]
  · obtain ⟨a, ha, hkind⟩ := List.any_eq_true.1 hraised
    exact List.any_eq_true.2 ⟨a, ha, (Bool.and_eq_true_iff.1 hkind).1⟩
  · rw [hstands]
    split <;> decide

/-- What the fault changes of the port's echo counts, of a link and of the status records (R338). -/
theorem echoPersistent_parts (p band s) :
    { (echoPersistent p band s).pixels.get p with echoHeld := false } = { s.pixels.get p with echoHeld := false }
      ∧ signalled {} ((echoPersistent p band s).link.get p) = signalled {} (s.link.get p)
      ∧ BitsKept s (echoPersistent p band s)
      ∧ ((s.link.get p).enable = false → ((echoPersistent p band s).link.get p).enable = false) := by
  cases h : (s.pixels.get p).echoHeld with
  | true =>
    have heq : echoPersistent p band s = s := if_pos h
    rw [heq]
    exact ⟨rfl, rfl, bitsKept_of_blocks rfl, id⟩
  | false =>
    obtain ⟨hpixels, -, hlink, hfaults⟩ := echoHeldState_parts p s
    have hraise := raiseKind_only 0x13 { port := p.num, address := band } (echoHeldState p s)
    have hbits := raiseKind_bitsKept 0x13 { port := p.num, address := band } (echoHeldState p s)
    have henable := enable_raiseKind 0x13 { port := p.num, address := band } (s := echoHeldState p s) (p := p)
    rw [hlink] at henable
    rw [echoPersistent_of_fresh h]
    generalize raiseKind 0x13 { port := p.num, address := band } (echoHeldState p s) = r at hraise hbits henable
    refine ⟨?_, ?_, BitsKept.of_start (hbits.trans (bitsKept_of_blocks rfl)) (congrArg Faults.blocks hfaults),
      fun hlow => enable_dropEnables (henable hlow)⟩
    · show { r.pixels.get p with echoHeld := false } = _
      rw [pixels_of_only hraise, hpixels]
    · rw [quietLink_of_only ((dropEnables_only r).trans hraise) p, hlink]

end Sys2Proof.Laws
end

section
/-!
O30: the comparison of the echo and the flags of a BAND_STATUS (R208, R331, R337, R338).
-/

namespace Sys2Proof.Laws

open Sys2Proof Sys2Proof.Machine

/-! ## A mismatch of the echo (R338) -/

/-- The counts of a port whose echo did not match. -/
def mismatchNoted (x : PixelCheck) : PixelCheck :=
  { x with
    echoErrors := count32 x.echoErrors
    echoRun := if x.echoFrame then x.echoRun else x.echoRun + 1
    echoFrame := true
    echoGood := 0 }

/-- The mismatch is counted and its kind raised (R358 kind 0x12). -/
def mismatchRaised (p : Port) (band : Nat) (s : State) : State :=
  raiseKind 0x12 { port := p.num, address := band } (onPixels p mismatchNoted s)

theorem echoMismatch_eq (p band s) : echoMismatch p band s
    = if ((mismatchRaised p band s).pixels.get p).echoRun ≥ 3 then echoPersistent p band (mismatchRaised p band s)
      else mismatchRaised p band s := rfl

theorem mismatchRaised_parts (p band s) :
    (mismatchRaised p band s).pixels.get p = mismatchNoted (s.pixels.get p)
      ∧ (mismatchRaised p band s).nvm.disabled = s.nvm.disabled
      ∧ signalled {} ((mismatchRaised p band s).link.get p) = signalled {} (s.link.get p)
      ∧ (blockOf (mismatchRaised p band s) 0x09).bits.getLsbD (kindBit 0x09 0x12) = true
      ∧ ((s.link.get p).enable = false → ((mismatchRaised p band s).link.get p).enable = false) := by
  refine ⟨?_, disabled_of_raise _ _ _, quietLink_of_only (raiseKind_only _ _ _) p,
    (raiseKind_noted 0x12 { port := p.num, address := band } _ rfl (show kindBit 0x09 0x12 < 16 by decide)).1,
    fun hlow => enable_raiseKind _ _ hlow⟩
  rw [mismatchRaised, pixels_of_raise, onPixels_get]

/-- What a mismatch leaves (R338). -/
theorem echoMismatch_parts (p band s) :
    { (echoMismatch p band s).pixels.get p with echoHeld := false }
        = { mismatchNoted (s.pixels.get p) with echoHeld := false }
      ∧ signalled {} ((echoMismatch p band s).link.get p) = signalled {} (s.link.get p)
      ∧ (blockOf (echoMismatch p band s) 0x09).bits.getLsbD (kindBit 0x09 0x12) = true
      ∧ ((s.link.get p).enable = false → ((echoMismatch p band s).link.get p).enable = false) := by
  obtain ⟨hpixels, -, hlink, hbit, henable⟩ := mismatchRaised_parts p band s
  rw [echoMismatch_eq]
  generalize mismatchRaised p band s = r at hpixels hlink hbit henable
  split
  · obtain ⟨hechoes, hquiet, hbits, hlow⟩ := echoPersistent_parts p band r
    exact ⟨hechoes.trans (by rw [hpixels]), hquiet.trans hlink, hbits _ _ hbit, fun h => hlow (henable h)⟩
  · exact ⟨by rw [hpixels], hlink, hbit, henable⟩

/-- The third frame in a row with a mismatch disables the port (R338). -/
theorem echoMismatch_third {p band} {s : State} (hframe : (s.pixels.get p).echoFrame = false)
    (hrun : (s.pixels.get p).echoRun ≥ 2) (hheld : (s.pixels.get p).echoHeld = false) :
    ((echoMismatch p band s).pixels.get p).echoHeld = true ∧ kindActive (echoMismatch p band s) 0x13 = true
      ∧ ((echoMismatch p band s).link.get p).enable = false
      ∧ (echoMismatch p band s).nvm.disabled.get p = if s.nvm.disabled.get p = 1 then 1 else 2 := by
  obtain ⟨hpixels, hdisabled, -⟩ := mismatchRaised_parts p band s
  have hthird : ((mismatchRaised p band s).pixels.get p).echoRun ≥ 3 := by
    rw [hpixels, mismatchNoted, hframe]
    exact Nat.succ_le_succ hrun
  rw [echoMismatch_eq, if_pos hthird, ← hdisabled]
  exact echoPersistent_disables (by rw [hpixels]; exact hheld)

/-! ## Candidates (R331) -/

/-- What a port's checks hold beside the candidates. -/
def besideCandidates (x : PixelCheck) : PixelCheck := { x with candidates := [], dropped := 0 }

theorem addCandidate_beside (p i s) :
    besideCandidates ((addCandidate p i s).pixels.get p) = besideCandidates (s.pixels.get p) := by
  unfold addCandidate
  dsimp only
  split
  · rfl
  · split <;> rw [onPixels_get] <;> rfl

theorem addCandidate_mem {p i j} {s : State} (h : j ∈ (s.pixels.get p).candidates) :
    j ∈ ((addCandidate p i s).pixels.get p).candidates := by
  unfold addCandidate
  dsimp only
  split
  · exact h
  · split <;> rw [onPixels_get]
    · exact List.mem_append_left _ h
    · exact h

theorem addCandidate_length (p i s) :
    ((addCandidate p i s).pixels.get p).candidates.length ≤ (s.pixels.get p).candidates.length + 1 := by
  unfold addCandidate
  dsimp only
  split
  · exact Nat.le_succ _
  · split <;> rw [onPixels_get]
    · exact (List.length_append).le
    · exact Nat.le_succ _

/-- A pixel of status 0 that is no candidate and not under confirmation joins the queue (R331). -/
theorem addCandidate_joins {p i} {s : State} (hstatus : statusOf s p i = 0) (hnew : i ∉ (s.pixels.get p).candidates)
    (hconfirms : ∀ f ∈ (s.pixels.get p).confirms, f.pixel ≠ i)
    (hroom : (s.pixels.get p).candidates.length < candidateLimit) :
    ((addCandidate p i s).pixels.get p).candidates = (s.pixels.get p).candidates ++ [i] := by
  have heq : addCandidate p i s = onPixels p (fun x => { x with candidates := x.candidates ++ [i] }) s := by
    refine (if_neg ?_).trans (if_pos hroom)
    simpa [hstatus, hnew] using hconfirms
  rw [heq, onPixels_get]

theorem addCandidate_mem_self {p i} {s : State} (hstatus : statusOf s p i = 0)
    (hconfirms : ∀ f ∈ (s.pixels.get p).confirms, f.pixel ≠ i)
    (hroom : (s.pixels.get p).candidates.length < candidateLimit) :
    i ∈ ((addCandidate p i s).pixels.get p).candidates := by
  by_cases hold : i ∈ (s.pixels.get p).candidates
  · exact addCandidate_mem hold
  · rw [addCandidate_joins hstatus hold hconfirms hroom]
    exact List.mem_append_right _ (List.mem_singleton_self i)

/-- Pixels that become candidates, one after the other. -/
def addCandidates (p : Port) (is : List Nat) (s : State) : State := is.foldl (fun s i => addCandidate p i s) s

theorem addCandidates_beside (p is s) :
    besideCandidates ((addCandidates p is s).pixels.get p) = besideCandidates (s.pixels.get p) :=
  foldl_keeps (fun s : State => besideCandidates (s.pixels.get p)) (fun s i => addCandidate_beside p i s) is s

theorem addCandidates_frame (p is s) : Outside.pixels (addCandidates p is s) = Outside.pixels s :=
  foldl_keeps Outside.pixels (fun s i => addCandidate_frame p i s) is s

theorem addCandidates_mem {p i} (is) {s : State} (h : i ∈ (s.pixels.get p).candidates) :
    i ∈ ((addCandidates p is s).pixels.get p).candidates := by
  induction is generalizing s with
  | nil => exact h
  | cons j is ih => exact ih (addCandidate_mem h)

/-- With room for all of them, each of the pixels of status 0 becomes a candidate (R331). -/
theorem addCandidates_joins {p i} {is : List Nat} {s : State} (hi : i ∈ is) (hstatus : statusOf s p i = 0)
    (hconfirms : ∀ f ∈ (s.pixels.get p).confirms, f.pixel ≠ i)
    (hroom : (s.pixels.get p).candidates.length + is.length ≤ candidateLimit) :
    i ∈ ((addCandidates p is s).pixels.get p).candidates := by
  induction is generalizing s with
  | nil => exact absurd hi List.not_mem_nil
  | cons j is ih =>
    rw [List.length_cons] at hroom
    obtain rfl | hlater := List.mem_cons.1 hi
    · exact addCandidates_mem is (addCandidate_mem_self hstatus hconfirms (by omega))
    · have hbeside := addCandidate_beside p j s
      have hlength := addCandidate_length p j s
      have hsame : ((addCandidate p j s).pixels.get p).confirms = (s.pixels.get p).confirms :=
        (congrArg PixelCheck.confirms hbeside :)
      refine ih hlater ((congrArg (fun x : PixelCheck => tableGet 0 i x.status) hbeside :).trans hstatus)
        (by rw [hsame]; exact hconfirms) ?_
      show ((addCandidate p j s).pixels.get p).candidates.length + is.length ≤ candidateLimit
      omega

/-! ## Work on the pixel checks -/

/-- Only pixel checks differ, and what raises change: no KindBit and no kind has gone, and no PORTx_EN has risen. -/
def PixelWork (s t : State) : Prop :=
  Outside.faultParts { t with pixels := s.pixels } = Outside.faultParts s ∧ BitsKept s t
    ∧ (∀ k, kindActive s k = true → kindActive t k = true)
    ∧ ∀ p, (s.link.get p).enable = false → (t.link.get p).enable = false

theorem pixelWork_of_frame {s t : State} (h : Outside.pixels t = Outside.pixels s) : PixelWork s t := by
  obtain ⟨x, rfl⟩ : ∃ x, t = { s with pixels := x } := ⟨_, Outside.pixels_eq h⟩
  exact ⟨rfl, bitsKept_of_blocks rfl, fun _ => id, fun _ => id⟩

theorem pixelWork_onPixels (p f s) : PixelWork s (onPixels p f s) := pixelWork_of_frame (onPixels_frame p f s)

theorem PixelWork.trans {s t u : State} (h : PixelWork s t) (h' : PixelWork t u) : PixelWork s u := by
  obtain ⟨hparts, hbits, hactive, henable⟩ := h
  obtain ⟨hparts', hbits', hactive', henable'⟩ := h'
  refine ⟨?_, hbits.trans hbits', fun k hk => hactive' k (hactive k hk), fun p hp => henable' p (henable p hp)⟩
  exact (congrArg (fun x : State => { x with pixels := s.pixels }) hparts' :).trans hparts

theorem kindActive_raise (k i) {s : State} {k' : Nat} (h : kindActive s k' = true) :
    kindActive (raiseKind k i s) k' = true := by
  obtain ⟨a, ha, hkind⟩ := List.any_eq_true.1 h
  have hbefore : isActive s k' a.unit = true := List.any_eq_true.2 ⟨a, ha, by simp [hkind]⟩
  obtain ⟨b, hb, hafter⟩ := List.any_eq_true.1 (raiseKind_keeps_active k i hbefore)
  exact List.any_eq_true.2 ⟨b, hb, (Bool.and_eq_true_iff.1 hafter).1⟩

theorem pixelWork_raise (k i s) : PixelWork s (raiseKind k i s) := by
  refine ⟨?_, raiseKind_bitsKept k i s, fun _ => kindActive_raise k i, fun _ => enable_raiseKind k i⟩
  exact (congrArg (fun x : State => { x with pixels := s.pixels }) (raiseKind_only k i s) :)

theorem noteStorm_work (p band s) : PixelWork s (noteStorm p band s) := by
  unfold noteStorm
  dsimp only
  split
  · exact (pixelWork_onPixels _ _ _).trans (pixelWork_raise _ _ _)
  · exact pixelWork_onPixels _ _ _

section

variable {s t : State} (h : PixelWork s t)
include h

theorem PixelWork.link (p : Port) : signalled {} (t.link.get p) = signalled {} (s.link.get p) :=
  quietLink_of_only h.1 p

theorem PixelWork.disabled : t.nvm.disabled = s.nvm.disabled := (congrArg (fun x : State => x.nvm.disabled) h.1 :)

end

/-! ## The flags of a report (R331, R337) -/

/-- The flags of a report wait, uncounted, for the TEMP of its band. -/
def reportPlain (p : Port) (band mask : Nat) (s : State) : State :=
  onPixels p (fun x => { x with report := some ⟨band, mask, [], (s.pixels.get p).flagged, false⟩ }) s

/-- The flags of a report count, and it waits for the TEMP of its band with what it adds. -/
def reportCounted (p : Port) (band mask : Nat) (flags added : List Nat) (s : State) : State :=
  onPixels p (fun x => { x with
    report := some ⟨band, mask, added, (s.pixels.get p).flagged, true⟩
    flagged := nextFlagged (s.link.get p) (s.pixels.get p) band mask flags }) s

/-- The pixels that a report adds to the candidates. -/
def addedBy (s : State) (p : Port) (mask : Nat) (flags : List Nat) : List Nat :=
  (newCandidates s p mask flags).filter fun i =>
    !(s.pixels.get p).candidates.contains i && !(s.pixels.get p).confirms.any fun f => f.pixel == i

theorem judgeFlags_eq (p band mask flags s) : judgeFlags p band mask flags s
    = if !(s.link.get p).enable then reportPlain p band mask s
      else if flags.length > limitOf s p 0x13 then noteStorm p band (reportPlain p band mask s)
      else addCandidates p (addedBy s p mask flags) (reportCounted p band mask flags (addedBy s p mask flags) s) := rfl

theorem reportPlain_get (p band mask s) : (reportPlain p band mask s).pixels.get p
    = { s.pixels.get p with report := some ⟨band, mask, [], (s.pixels.get p).flagged, false⟩ } := onPixels_get _ _ _

theorem reportCounted_get (p band mask flags added s) : (reportCounted p band mask flags added s).pixels.get p
    = { s.pixels.get p with
        report := some ⟨band, mask, added, (s.pixels.get p).flagged, true⟩
        flagged := nextFlagged (s.link.get p) (s.pixels.get p) band mask flags } := onPixels_get _ _ _

theorem judgeFlags_work (p band mask flags s) : PixelWork s (judgeFlags p band mask flags s) := by
  rw [judgeFlags_eq]
  split
  · exact pixelWork_onPixels _ _ _
  · split
    · exact (pixelWork_onPixels _ _ _).trans (noteStorm_work _ _ _)
    · exact (pixelWork_onPixels _ _ _).trans (pixelWork_of_frame (addCandidates_frame _ _ _))

/-- What a port's checks hold of the echo. -/
def echoView (x : PixelCheck) : Nat × Nat × Bool := (x.echoGood, x.echoErrors, x.echoHeld)

theorem noteStorm_get (p band s) : (noteStorm p band s).pixels.get p
    = { s.pixels.get p with storms := count32 (s.pixels.get p).storms, stormFrame := true } := by
  rw [pixels_of_only (noteStorm_only p band s), onPixels_get]

theorem judgeFlags_echo (p band mask flags s) :
    echoView ((judgeFlags p band mask flags s).pixels.get p) = echoView (s.pixels.get p) := by
  rw [judgeFlags_eq]
  split
  · rw [reportPlain_get]
    rfl
  · split
    · rw [noteStorm_get, reportPlain_get]
      rfl
    · refine (congrArg echoView (addCandidates_beside _ _ _) :).trans ?_
      rw [reportCounted_get]
      rfl

/-- While PORTx_EN is low the flags of a report are set aside (R331). -/
theorem judgeFlags_low {p band mask flags} {s : State} (h : (s.link.get p).enable = false) :
    ((judgeFlags p band mask flags s).pixels.get p).candidates = (s.pixels.get p).candidates
      ∧ ((judgeFlags p band mask flags s).pixels.get p).flagged = (s.pixels.get p).flagged := by
  rw [judgeFlags_eq, if_pos (by simp [h]), reportPlain_get]
  exact ⟨rfl, rfl⟩

/-- Too many flags are set aside with a count (R337). -/
theorem judgeFlags_storm {p band mask flags} {s : State} (h : (s.link.get p).enable = true)
    (hmany : flags.length > limitOf s p 0x13) :
    ((judgeFlags p band mask flags s).pixels.get p).candidates = (s.pixels.get p).candidates
      ∧ ((judgeFlags p band mask flags s).pixels.get p).storms = count32 (s.pixels.get p).storms := by
  rw [judgeFlags_eq, if_neg (by simp [h]), if_pos hmany, noteStorm_get, reportPlain_get]
  exact ⟨rfl, rfl⟩

/-- A flagged pixel becomes a candidate: in an SF1 cell at once, elsewhere at the second counted report (R331). -/
theorem judgeFlags_joins {p band mask flags i} {s : State} (h : (s.link.get p).enable = true)
    (hfew : flags.length ≤ limitOf s p 0x13)
    (hroom : (s.pixels.get p).candidates.length + flags.length ≤ candidateLimit) (hi : i ∈ flags)
    (hstatus : statusOf s p i = 0) (hconfirms : ∀ f ∈ (s.pixels.get p).confirms, f.pixel ≠ i)
    (hflagged : inSf1 s p (i % 1024) (i / 1024) = true
      ∨ ((s.pixels.get p).flagged.contains i = true ∧ rowCounts (s.link.get p) mask (i / 1024 % 16) = true)) :
    i ∈ ((judgeFlags p band mask flags s).pixels.get p).candidates := by
  rw [judgeFlags_eq, if_neg (by simp [h]), if_neg (Nat.not_lt.2 hfew)]
  have hget := reportCounted_get p band mask flags (addedBy s p mask flags) s
  have hshort : (addedBy s p mask flags).length ≤ flags.length :=
    (List.length_filter_le _ _).trans (List.length_filter_le _ _)
  by_cases hold : i ∈ (s.pixels.get p).candidates
  · exact addCandidates_mem _ (by rw [hget]; exact hold)
  · refine addCandidates_joins (List.mem_filter.2 ⟨List.mem_filter.2 ⟨hi, ?_⟩, ?_⟩) ?_ ?_ ?_
    · simpa using hflagged
    · simpa [hold] using hconfirms
    · rw [statusOf, hget]
      exact hstatus
    · rw [hget]
      exact hconfirms
    · rw [hget]
      show (s.pixels.get p).candidates.length + _ ≤ _
      omega

end Sys2Proof.Laws
end

section
/-!
O30: BAND_STATUS (R208, R212, R228, R331, R338).
-/

namespace Sys2Proof.Laws

open Sys2Proof Sys2Proof.Machine

/-! ## The parts of the report (R208) -/

/-- The checksum of a BAND_STATUS. -/
def bandChecksum (k : RxPacket) : Nat := wordOf (leNat (k.payload.take 8)) 0

/-- The rows that a BAND_STATUS reports as latched. -/
def bandMask (k : RxPacket) : Nat := halfOf (leNat (k.payload.take 8)) 2

/-- The rows that a BAND_STATUS asks for again. -/
def bandBlocked (k : RxPacket) : Nat := halfOf (leNat (k.payload.take 8)) 3

/-- The echo of a BAND_STATUS is that of what the port sent (R338). -/
def Matched (k : RxPacket) (l : LinkPort) : Prop :=
  echoOf l (maskedRows (hdrBand k.header) (bandMask k)) = some (bandChecksum k)

/-- The rows that were due and are not reported as latched (R228). -/
def rowsMissed (k : RxPacket) (l : LinkPort) : Nat :=
  ((dueRows (hdrEpoch k.header) l).filter fun i => !bitOf (bandMask k) i).length

/-- The link of a port that has taken a BAND_STATUS. -/
def bandLink (k : RxPacket) (missed : Nat) (l : LinkPort) : LinkPort :=
  { l with
    returnGrace := false
    resend := l.resend ++ (maskedRows (hdrBand k.header) (bandBlocked k)).filter fun r => !l.resend.contains r
    counts := { l.counts with rowsNotLatched := satAdd 32 l.counts.rowsNotLatched missed } }

/-- The port has taken a BAND_STATUS, before its echo and its flags are judged. -/
def bandTaken (p : Port) (k : RxPacket) (s : State) : State :=
  onLink p (bandLink k (rowsMissed k ((received p k s).link.get p))) (received p k s)

/-- The band's rows show what was sent, and its report has come in good time (R208, R339). -/
def bandEnded (p : Port) (k : RxPacket) (s : State) : State :=
  onPixels p (fun x => { x with reported := x.reported ||| BitVec.ofNat 32 (2 ^ hdrBand k.header) })
    (noteLatched p (hdrBand k.header) (bandMask k) s)

/-- The echo and the flags of a BAND_STATUS are judged. -/
def bandJudged (p : Port) (k : RxPacket) (s : State) : State :=
  judgeFlags p (hdrBand k.header) (bandMask k) (flaggedPixels (hdrBand k.header) k.payload)
    (judgeEcho p (hdrBand k.header) (bandMask k) (bandChecksum k) s)

/-- A port that hears a good packet of the type and length. -/
def Hears (s : State) (p : Port) (k : RxPacket) (ty n : Nat) : Prop :=
  hears s p ty = true ∧ packetGood k = true ∧ packetOfType k ty = true ∧ k.payload.length = n

theorem execBandStatus_judged {s p k} (h : Hears s p k 8 2056) :
    exec (.bandStatus p k) s = .next (bandEnded p k (bandJudged p k (bandTaken p k s))) := by
  obtain ⟨hhears, hgood, htype, hlength⟩ := h
  show Host.Outcome.next (receiveReturn p 8 (· == 2056) k _ s) = _
  rw [receiveReturn_taken hhears hgood htype (by simp [hlength])]
  rfl

theorem bandTaken_get (p k s) : (bandTaken p k s).link.get p = bandLink k (rowsMissed k (s.link.get p))
    (noteSequence (BitVec.ofNat 16 (hdrSequence k.header)) (s.link.get p)) := by
  rw [bandTaken, onLink_get, received_get]
  rfl

/-! ## The end of the report -/

/-- What a port's checks hold beside the rows shown and the bands reported. -/
def besideRows (x : PixelCheck) : PixelCheck := { x with latched := [], reported := 0 }

theorem noteLatched_beside (p band mask s) :
    besideRows ((noteLatched p band mask s).pixels.get p) = besideRows (s.pixels.get p) := by
  unfold noteLatched
  refine foldl_keeps (fun s : State => besideRows (s.pixels.get p)) (fun s r => ?_) _ _
  split
  · rw [onPixels_get]
    rfl
  · rfl

theorem bandEnded_beside (p k s) : besideRows ((bandEnded p k s).pixels.get p) = besideRows (s.pixels.get p) := by
  rw [bandEnded, onPixels_get]
  exact noteLatched_beside _ _ _ _

theorem bandEnded_frame (p k s) : Outside.pixels (bandEnded p k s) = Outside.pixels s := by
  rw [bandEnded, onPixels_frame, noteLatched_frame]

/-! ## The echo -/

/-- The echo is judged. -/
theorem judgeEcho_matched {p band mask w} {s : State}
    (h : echoOf (s.link.get p) (maskedRows band mask) = some w) :
    judgeEcho p band mask w s = onPixels p (fun x => { x with echoGood := x.echoGood + 1 }) s := if_pos h

theorem judgeEcho_mismatched {p band mask w} {s : State}
    (h : ¬echoOf (s.link.get p) (maskedRows band mask) = some w) : judgeEcho p band mask w s = echoMismatch p band s :=
  if_neg h

theorem judgeEcho_link (p band mask w s) :
    signalled {} ((judgeEcho p band mask w s).link.get p) = signalled {} (s.link.get p)
      ∧ ((s.link.get p).enable = false → ((judgeEcho p band mask w s).link.get p).enable = false) := by
  by_cases h : echoOf (s.link.get p) (maskedRows band mask) = some w
  · rw [judgeEcho_matched h]
    exact ⟨rfl, id⟩
  · obtain ⟨-, hlink, -, henable⟩ := echoMismatch_parts p band s
    rw [judgeEcho_mismatched h]
    exact ⟨hlink, henable⟩

/-! ## What a BAND_STATUS leaves -/

/-- What follows the judgement of the echo of a BAND_STATUS. -/
theorem bandJudged_work (p k s) : PixelWork (judgeEcho p (hdrBand k.header) (bandMask k) (bandChecksum k) s)
    (bandEnded p k (bandJudged p k s)) :=
  (judgeFlags_work _ _ _ _ _).trans (pixelWork_of_frame (bandEnded_frame _ _ _))

theorem bandJudged_echo (p k s) : echoView ((bandEnded p k (bandJudged p k s)).pixels.get p)
    = echoView ((judgeEcho p (hdrBand k.header) (bandMask k) (bandChecksum k) s).pixels.get p) :=
  (congrArg echoView (bandEnded_beside p k (bandJudged p k s)) :).trans (judgeFlags_echo _ _ _ _ _)

theorem noteSequence_rows (q l) : (noteSequence q l).counts.rowsNotLatched = l.counts.rowsNotLatched := by
  unfold noteSequence
  dsimp only
  split
  · split <;> rfl
  · rfl

/-- The link after a BAND_STATUS (R197, R203, R212, R228). -/
theorem bandStatus_link (p k s) (t : State) (ht : t = bandEnded p k (bandJudged p k (bandTaken p k s))) :
    (t.link.get p).returnGrace = false
      ∧ (t.link.get p).returnSeq = some (BitVec.ofNat 16 (hdrSequence k.header))
      ∧ (∀ r ∈ maskedRows (hdrBand k.header) (bandBlocked k), r ∈ (t.link.get p).resend)
      ∧ (t.link.get p).counts.rowsNotLatched
        = min ((s.link.get p).counts.rowsNotLatched + rowsMissed k (s.link.get p)) (2 ^ 32 - 1) := by
  have hquiet : signalled {} (t.link.get p) = signalled {} ((bandTaken p k s).link.get p) := by
    rw [ht, (bandJudged_work p k (bandTaken p k s)).link p, (judgeEcho_link _ _ _ _ _).1]
  rw [bandTaken_get] at hquiet
  have hresend : (t.link.get p).resend = _ := (congrArg LinkPort.resend hquiet :)
  have hrows : (t.link.get p).counts.rowsNotLatched = _ := (congrArg (fun l : LinkPort => l.counts.rowsNotLatched) hquiet :)
  refine ⟨(congrArg LinkPort.returnGrace hquiet :), (congrArg LinkPort.returnSeq hquiet :), fun r hr => ?_, ?_⟩
  · rw [hresend]
    refine List.mem_append.2 ?_
    by_cases hold : r ∈ (noteSequence (BitVec.ofNat 16 (hdrSequence k.header)) (s.link.get p)).resend
    · exact .inl hold
    · exact .inr (List.mem_filter.2 ⟨hr, by simpa using hold⟩)
  · rw [hrows]
    show min ((noteSequence _ (s.link.get p)).counts.rowsNotLatched + _) _ = _
    rw [noteSequence_rows]

theorem bandTaken_matched (p k s) : Matched k ((bandTaken p k s).link.get p) ↔ Matched k (s.link.get p) := by
  rw [bandTaken_get]
  rfl

/-- The echo counts after a BAND_STATUS (R338). -/
theorem bandStatus_echo (p k s) (t : State) (ht : t = bandEnded p k (bandJudged p k (bandTaken p k s))) :
    (Matched k (s.link.get p) → (t.pixels.get p).echoGood = (s.pixels.get p).echoGood + 1
        ∧ (t.pixels.get p).echoErrors = (s.pixels.get p).echoErrors)
      ∧ (¬Matched k (s.link.get p) → (t.pixels.get p).echoGood = 0
          ∧ (t.pixels.get p).echoErrors = min ((s.pixels.get p).echoErrors + 1) (2 ^ 32 - 1)
          ∧ (blockOf t 0x09).bits.getLsbD (kindBit 0x09 0x12) = true
          ∧ ((s.pixels.get p).echoFrame = false → (s.pixels.get p).echoRun ≥ 2 → (s.pixels.get p).echoHeld = false →
              (t.pixels.get p).echoHeld = true ∧ kindActive t 0x13 = true ∧ (t.link.get p).enable = false
              ∧ t.nvm.disabled.get p = if s.nvm.disabled.get p = 1 then 1 else 2)) := by
  have hecho := bandJudged_echo p k (bandTaken p k s)
  have hwork := bandJudged_work p k (bandTaken p k s)
  rw [← ht] at hecho hwork
  have hdisabled := hwork.disabled
  obtain ⟨-, hbits, hactive, henable⟩ := hwork
  simp only [echoView, Prod.mk.injEq] at hecho
  obtain ⟨hgood, herrors, hheld⟩ := hecho
  rw [← bandTaken_matched p k s]
  refine ⟨fun h => ?_, fun h => ?_⟩
  · rw [hgood, herrors, judgeEcho_matched h, onPixels_get]
    exact ⟨rfl, rfl⟩
  · rw [judgeEcho_mismatched h] at hgood herrors hheld hbits hactive henable hdisabled
    obtain ⟨hpixels, -, hbit, -⟩ := echoMismatch_parts p (hdrBand k.header) (bandTaken p k s)
    refine ⟨hgood.trans (congrArg PixelCheck.echoGood hpixels :), herrors.trans (congrArg PixelCheck.echoErrors hpixels :),
      hbits _ _ hbit, fun hframe hrun hfresh => ?_⟩
    obtain ⟨hholds, hkind, hdark, hrecord⟩ := echoMismatch_third (p := p) (band := hdrBand k.header)
      (s := bandTaken p k s) hframe hrun hfresh
    exact ⟨hheld.trans hholds, hactive _ hkind, henable p hdark, by rw [hdisabled, hrecord]; rfl⟩

/-- A mismatch leaves the candidates and the flags. -/
theorem judgeEcho_flags (p band mask w s) :
    ((judgeEcho p band mask w s).pixels.get p).candidates = (s.pixels.get p).candidates
      ∧ ((judgeEcho p band mask w s).pixels.get p).flagged = (s.pixels.get p).flagged := by
  by_cases h : echoOf (s.link.get p) (maskedRows band mask) = some w
  · rw [judgeEcho_matched h, onPixels_get]
    exact ⟨rfl, rfl⟩
  · obtain ⟨hpixels, -⟩ := echoMismatch_parts p band s
    rw [judgeEcho_mismatched h]
    exact ⟨(congrArg PixelCheck.candidates hpixels :), (congrArg PixelCheck.flagged hpixels :)⟩

/-- The port has taken a BAND_STATUS whose echo matched. -/
def bandMatched (p : Port) (k : RxPacket) (s : State) : State :=
  onPixels p (fun x => { x with echoGood := x.echoGood + 1 }) (bandTaken p k s)

theorem bandMatched_get (p k s) : (bandMatched p k s).pixels.get p
    = { s.pixels.get p with echoGood := (s.pixels.get p).echoGood + 1 } := onPixels_get _ _ _

theorem bandJudged_matched {p k s} (h : Matched k (s.link.get p)) : bandJudged p k (bandTaken p k s)
    = judgeFlags p (hdrBand k.header) (bandMask k) (flaggedPixels (hdrBand k.header) k.payload) (bandMatched p k s) :=
  congrArg (judgeFlags p _ _ _) (judgeEcho_matched ((bandTaken_matched p k s).2 h))

theorem bandMatched_reads (p k s) : (∀ sub, limitOf (bandMatched p k s) p sub = limitOf s p sub)
    ∧ (∀ i, statusOf (bandMatched p k s) p i = statusOf s p i)
    ∧ ((bandMatched p k s).link.get p).enable = (s.link.get p).enable
    ∧ ((bandMatched p k s).link.get p).half = (s.link.get p).half := by
  have hlink : (bandMatched p k s).link.get p = _ := bandTaken_get p k s
  rw [hlink]
  refine ⟨fun sub => ?_, fun i => ?_, rfl, rfl⟩
  · rw [limitOf, bandMatched_get]
    rfl
  · rw [statusOf, bandMatched_get]
    rfl

/-- The candidates after a BAND_STATUS (R331, R337). -/
theorem bandStatus_flags (p k s) (t : State) (ht : t = bandEnded p k (bandJudged p k (bandTaken p k s))) :
    ((s.link.get p).enable = false → (t.pixels.get p).candidates = (s.pixels.get p).candidates
        ∧ (t.pixels.get p).flagged = (s.pixels.get p).flagged)
      ∧ ((s.link.get p).enable = true → Matched k (s.link.get p) →
          (flaggedPixels (hdrBand k.header) k.payload).length > limitOf s p 0x13 →
          (t.pixels.get p).candidates = (s.pixels.get p).candidates
          ∧ (t.pixels.get p).storms = min ((s.pixels.get p).storms + 1) (2 ^ 32 - 1))
      ∧ ((s.link.get p).enable = true → Matched k (s.link.get p) →
          (flaggedPixels (hdrBand k.header) k.payload).length ≤ limitOf s p 0x13 →
          (s.pixels.get p).candidates.length + (flaggedPixels (hdrBand k.header) k.payload).length ≤ candidateLimit →
          ∀ i ∈ flaggedPixels (hdrBand k.header) k.payload, statusOf s p i = 0 →
            (∀ f ∈ (s.pixels.get p).confirms, f.pixel ≠ i) →
            inSf1 s p (i % 1024) (i / 1024) = true
              ∨ ((s.pixels.get p).flagged.contains i = true
                ∧ rowCounts (s.link.get p) (bandMask k) (i / 1024 % 16) = true) →
            i ∈ (t.pixels.get p).candidates) := by
  have hbeside := bandEnded_beside p k (bandJudged p k (bandTaken p k s))
  rw [← ht] at hbeside
  have hcandidates : (t.pixels.get p).candidates = _ := (congrArg PixelCheck.candidates hbeside :)
  have hflagged : (t.pixels.get p).flagged = _ := (congrArg PixelCheck.flagged hbeside :)
  have hstorms : (t.pixels.get p).storms = _ := (congrArg PixelCheck.storms hbeside :)
  obtain ⟨hlimit, hstatus, henable, hhalf⟩ := bandMatched_reads p k s
  rw [hcandidates, hflagged, hstorms]
  refine ⟨fun hlow => ?_, fun hhigh hmatch hmany => ?_, fun hhigh hmatch hfew hroom i hi hi0 hconfirms hcounts => ?_⟩
  · have hstays := (judgeEcho_link p (hdrBand k.header) (bandMask k) (bandChecksum k) (bandTaken p k s)).2
      (by rw [bandTaken_get]; exact hlow)
    obtain ⟨hsame, hflags⟩ := judgeEcho_flags p (hdrBand k.header) (bandMask k) (bandChecksum k) (bandTaken p k s)
    obtain ⟨hsame', hflags'⟩ := judgeFlags_low (p := p) (band := hdrBand k.header) (mask := bandMask k)
      (flags := flaggedPixels (hdrBand k.header) k.payload) hstays
    exact ⟨hsame'.trans hsame, hflags'.trans hflags⟩
  · have hstorm := judgeFlags_storm (band := hdrBand k.header) (mask := bandMask k) (henable.trans hhigh)
      ((hlimit 0x13).symm ▸ hmany)
    rw [bandJudged_matched hmatch]
    rw [bandMatched_get] at hstorm
    exact hstorm
  · rw [bandJudged_matched hmatch]
    refine judgeFlags_joins (henable.trans hhigh) (hfew.trans_eq (hlimit 0x13).symm) ?_ hi ((hstatus i).trans hi0) ?_ ?_
    · rw [bandMatched_get]
      exact hroom
    · rw [bandMatched_get]
      exact hconfirms
    · rw [bandMatched_get, rowCounts, hhalf]
      exact hcounts

end Sys2Proof.Laws
end

section
/-!
O30: a pixel gets its status (R329, R332 to R334, R336).
-/

namespace Sys2Proof.Laws

open Sys2Proof Sys2Proof.Machine

/-! ## Statuses beside the one that is written -/

theorem tableGet_tablePut_of_ne {d k j v : Nat} (h : j ≠ k) : ∀ t : Table, tableGet d j (tablePut d k v t) = tableGet d j t
  | [] => by
    rw [tablePut]
    split
    · rfl
    · exact if_neg (Ne.symm h)
  | (k', v') :: t => by
    have hskip : ∀ u : Table, tableGet d j ((k, v) :: u) = tableGet d j u := fun u => if_neg (Ne.symm h)
    rw [tablePut]
    split
    · split
      · rfl
      · exact hskip _
    · split
      · next hsame =>
        have hgone : tableGet d j ((k', v') :: t) = tableGet d j t := hsame ▸ if_neg (Ne.symm h)
        split
        · exact hgone.symm
        · exact (hskip _).trans hgone.symm
      · rw [tableGet, tableGet, tableGet_tablePut_of_ne h t]

/-- The status of another pixel stands. -/
theorem statusOf_putStatus_of_ne {p q : Port} {i j code : Nat} (s : State) (h : (p, i) ≠ (q, j)) :
    statusOf (putStatus q j code s) p i = statusOf s p i := by
  by_cases hport : p = q
  · subst hport
    have hget : (putStatus p j code s).pixels.get p = _ := onPixels_get _ _ _
    rw [statusOf, hget]
    exact tableGet_tablePut_of_ne (fun hi => h (by rw [hi])) _
  · rw [statusOf, putStatus, onPixels, perPort_get_modify_of_ne _ _ hport]
    rfl

/-! ## The CP's treatment of a pixel (R329, R336) -/

/-- What a port's checks hold beside statuses and the marks of their treatment. -/
def besideStatus (x : PixelCheck) : PixelCheck := { x with status := [], concealed := [], untreated := [] }

/-- The excluded pixel `i` of the port keeps its status `code`, and its checks differ in statuses and their treatment
alone. -/
def Treated (p : Port) (i code : Nat) (s t : State) : Prop :=
  (statusOf s p i = code → statusOf t p i = code)
    ∧ besideStatus (t.pixels.get p) = besideStatus (s.pixels.get p)

theorem Treated.trans {p i code} {s t u : State} (h : Treated p i code s t) (h' : Treated p i code t u) :
    Treated p i code s u := ⟨h'.1 ∘ h.1, h'.2.trans h.2⟩

theorem treated_of_pixels {p i code} {s t : State} (h : t.pixels = s.pixels) : Treated p i code s t := by
  simp only [Treated, statusOf, h, imp_self, true_and]

theorem treated_onPixels {p i code q f} {s : State} (hstatus : ∀ x, (f x).status = x.status)
    (hbeside : ∀ x, besideStatus (f x) = besideStatus x) : Treated p i code s (onPixels q f s) := by
  by_cases hport : p = q
  · subst hport
    simp only [Treated, statusOf, onPixels_get, hstatus, hbeside, imp_self, true_and]
  · simp only [Treated, statusOf, onPixels, perPort_get_modify_of_ne _ _ hport, imp_self, true_and]

theorem pixels_of_drive {s t : State} (h : Outside.drive t = Outside.drive s) : t.pixels = s.pixels :=
  (congrArg State.pixels h :)

theorem treated_putStatus {p i code q j c} {s : State} (h : (p, i) ≠ (q, j)) : Treated p i code s (putStatus q j c s) := by
  refine ⟨fun hstatus => (statusOf_putStatus_of_ne s h).trans hstatus, ?_⟩
  by_cases hport : p = q
  · subst hport
    rw [putStatus, onPixels_get]
    rfl
  · rw [putStatus, onPixels, perPort_get_modify_of_ne _ _ hport]

/-- A neighbour's boost touches no excluded pixel (R336). -/
theorem boostNeighbour_treated {p i code} (hexcluded : excludes code = true) (boost s q)
    (hstatus : statusOf s p i = code) : Treated p i code s (boostNeighbour boost s q) := by
  unfold boostNeighbour
  dsimp only
  split
  · exact treated_of_pixels rfl
  · next hplain =>
    have hqueue : ∀ x e b, Treated p i code s (queueTreatment x e b s) := fun x e b =>
      treated_of_pixels (pixels_of_drive (queueTreatment_frame x e b s))
    have hother : (p, i) ≠ (q.1, q.2) := fun hsame => hplain (by
      obtain ⟨rfl, rfl⟩ := Prod.mk.inj hsame
      rw [hstatus]
      exact hexcluded)
    split
    · exact (hqueue _ _ _).trans (treated_putStatus hother)
    · exact hqueue _ _ _

theorem boostNeighbours_treated {p i code} (hexcluded : excludes code = true) (boost) (qs : List (Port × Nat)) (s)
    (hstatus : statusOf s p i = code) : Treated p i code s (qs.foldl (boostNeighbour boost) s) := by
  induction qs generalizing s with
  | nil => exact treated_of_pixels rfl
  | cons q qs ih =>
    have hfirst := boostNeighbour_treated hexcluded boost s q hstatus
    exact hfirst.trans (ih _ (hfirst.1 hstatus))

theorem concealPixel_treated {p i code} (hexcluded : excludes code = true) (s) (hstatus : statusOf s p i = code) :
    Treated p i code s (concealPixel p i s) := by
  unfold concealPixel
  dsimp only
  split
  · have hmarked : Treated p i code s (onPixels p (fun x => { x with concealed := i :: x.concealed }) s) :=
      treated_onPixels (fun _ => rfl) fun _ => rfl
    exact hmarked.trans (boostNeighbours_treated hexcluded _ _ _ (hmarked.1 hstatus))
  · exact treated_of_pixels rfl

theorem treatOrWait_treated {p i code} (hexcluded : excludes code = true) (s) (hstatus : statusOf s p i = code) :
    Treated p i code s (treatOrWait p i s) := by
  unfold treatOrWait treatPixel
  dsimp only
  split
  · have hput : Treated p i code s (putMaster { masterOf s (p.num * 524288 + i) with status := statusOf s p i } s) :=
      treated_of_pixels (pixels_of_drive (putMaster_frame _ _))
    split
    · have hqueue := hput.trans (treated_of_pixels (pixels_of_drive (queueTreatment_frame (p.num * 524288 + i) true 0 _)))
      exact hqueue.trans (concealPixel_treated hexcluded _ (hqueue.1 hstatus))
    · exact hput.trans (concealPixel_treated hexcluded _ (hput.1 hstatus))
  · exact treated_onPixels (fun _ => rfl) fun _ => rfl

theorem treatOrWait_faults (p i s) : (treatOrWait p i s).faults = s.faults ∧ (treatOrWait p i s).nvm = s.nvm :=
  ⟨(congrArg State.faults (treatOrWait_frame p i s) :), (congrArg State.nvm (treatOrWait_frame p i s) :)⟩

/-! ## A decided status (R332, R333) -/

/-- A pixel has its status, is the last failed one and under confirmation no more, and kind 0x0F is noted. -/
def Decided (t : State) (p : Port) (i code : Nat) : Prop :=
  statusOf t p i = code ∧ (t.pixels.get p).lastFailed = BitVec.ofNat 32 (p.num * 524288 + i)
    ∧ (∀ f ∈ (t.pixels.get p).confirms, f.pixel ≠ i) ∧ (blockOf t 0x09).bits.getLsbD (kindBit 0x09 0x0F) = true

/-- The status is written and its kind raised, before the CP treats the pixel. -/
def statusRaised (p : Port) (i code vf : Nat) (s : State) : State :=
  raiseKind 0x0F { port := p.num, address := p.num * 524288 + i, figure := vf }
    (onPixels p (fun c => { c with lastFailed := BitVec.ofNat 32 (p.num * 524288 + i) })
      (putStatus p i code (endConfirm p i s)))

theorem statusRaised_get (p i code vf s) : (statusRaised p i code vf s).pixels.get p
    = { s.pixels.get p with
        lastFailed := BitVec.ofNat 32 (p.num * 524288 + i)
        status := tablePut 0 i code (s.pixels.get p).status
        confirms := (s.pixels.get p).confirms.filter fun f => f.pixel != i } := by
  rw [statusRaised, pixels_of_raise, onPixels_get, putStatus, onPixels_get, endConfirm, onPixels_get]

theorem excludes_ne_zero {code : Nat} (h : excludes code = true) : code ≠ 0 := by
  rintro rfl
  exact absurd h (by decide)

/-- The status of an excluded pixel is decided (R329, R332, R333). -/
theorem decideStatus_decided {code : Nat} (hexcluded : excludes code = true) (p i vf s) :
    Decided (decideStatus p i code vf s) p i code ∧ (decideStatus p i code vf s).nvm.disabled = s.nvm.disabled := by
  have hget := statusRaised_get p i code vf s
  have hstatus : statusOf (statusRaised p i code vf s) p i = code := by
    rw [statusOf, hget]
    exact tableGet_tablePut (excludes_ne_zero hexcluded) _
  have hnoted : (blockOf (statusRaised p i code vf s) 0x09).bits.getLsbD (kindBit 0x09 0x0F) = true :=
    (raiseKind_noted 0x0F { port := p.num, address := p.num * 524288 + i, figure := vf } _ rfl
      (show kindBit 0x09 0x0F < 16 by decide)).1
  have hdisabled : (statusRaised p i code vf s).nvm.disabled = s.nvm.disabled := disabled_of_raise _ _ _
  have heq : decideStatus p i code vf s = treatOrWait p i (statusRaised p i code vf s) := rfl
  obtain ⟨hkeeps, hbeside⟩ := treatOrWait_treated hexcluded (statusRaised p i code vf s) hstatus
  obtain ⟨hfaults, hnvm⟩ := treatOrWait_faults p i (statusRaised p i code vf s)
  rw [heq]
  generalize treatOrWait p i (statusRaised p i code vf s) = t at hkeeps hbeside hfaults hnvm
  have hlast : (t.pixels.get p).lastFailed = _ := (congrArg PixelCheck.lastFailed hbeside :)
  have hconfirms : (t.pixels.get p).confirms = _ := (congrArg PixelCheck.confirms hbeside :)
  rw [hget] at hlast hconfirms
  refine ⟨⟨hkeeps hstatus, hlast, fun f hf => ?_, bitsKept_of_blocks (congrArg Faults.blocks hfaults) _ _ hnoted⟩, ?_⟩
  · rw [hconfirms] at hf
    simpa using (List.mem_filter.1 hf).2
  · rw [hnvm, hdisabled]

/-! ## The SF1 reaction (R334) -/

/-- The reaction leaves the port's emitters disabled, and dark where its record is new. -/
theorem sf1Reaction_disables (p i s) : (sf1Reaction p i s).nvm.disabled.get p = 1
    ∧ (s.nvm.disabled.get p ≠ 1 → ((sf1Reaction p i s).link.get p).enable = false)
    ∧ (sf1Reaction p i s).pixels = s.pixels ∧ BitsKept s (sf1Reaction p i s) := by
  by_cases hstands : s.nvm.disabled.get p = 1
  · have heq : sf1Reaction p i s = s := if_pos hstands
    rw [heq]
    exact ⟨hstands, fun h => absurd hstands h, rfl, bitsKept_of_blocks rfl⟩
  · have heq : sf1Reaction p i s = dropEnables (raiseKind 0x10 { port := p.num, address := p.num * 524288 + i }
        (putRecord p 1 (BitVec.ofNat 32 (p.num * 524288 + i)) s)) := if_neg hstands
    have hbits := raiseKind_bitsKept 0x10 { port := p.num, address := p.num * 524288 + i }
      (putRecord p 1 (BitVec.ofNat 32 (p.num * 524288 + i)) s)
    have hrecord : (raiseKind 0x10 { port := p.num, address := p.num * 524288 + i }
        (putRecord p 1 (BitVec.ofNat 32 (p.num * 524288 + i)) s)).nvm.disabled.get p = 1 := by
      rw [disabled_of_raise]
      exact perPort_get_set_self _ _ _
    have hpixels := pixels_of_raise 0x10 { port := p.num, address := p.num * 524288 + i }
      (putRecord p 1 (BitVec.ofNat 32 (p.num * 524288 + i)) s)
    rw [heq]
    generalize raiseKind 0x10 { port := p.num, address := p.num * 524288 + i }
      (putRecord p 1 (BitVec.ofNat 32 (p.num * 524288 + i)) s) = r at hbits hrecord hpixels
    exact ⟨hrecord, fun _ => dropEnables_lowers (mayEmit_of_disabled (by rw [hrecord]; decide)), hpixels,
      BitsKept.of_start (hbits.trans (bitsKept_of_blocks rfl)) rfl⟩

theorem Decided.of_kept {s t : State} {p i code} (h : Decided s p i code) (hpixels : t.pixels = s.pixels)
    (hbits : BitsKept s t) : Decided t p i code := by
  obtain ⟨hstatus, hlast, hconfirms, hbit⟩ := h
  rw [Decided, statusOf, hpixels]
  exact ⟨hstatus, hlast, hconfirms, hbits _ _ hbit⟩

end Sys2Proof.Laws
end

section
/-!
O30: VF_SAMPLE (R209, R326, R331 to R334).
-/

namespace Sys2Proof.Laws

open Sys2Proof Sys2Proof.Machine

/-! ## The sample of a VF_SAMPLE with one entry (R209, R326) -/

/-- A port hears a good VF_SAMPLE of one entry. -/
def SampleHeard (s : State) (p : Port) (k : RxPacket) (e : Sample) : Prop :=
  Hears s p k 9 4 ∧ samplesOf (hdrBand k.header) k.payload = [e]

/-- The pixel of an entry is under confirmation, and its step has started. -/
def Confirming (s : State) (p : Port) (e : Sample) (f : Confirm) : Prop :=
  ((s.pixels.get p).confirms.find? fun g => g.pixel == e.pixel) = some f ∧ f.started = true

/-- A port has taken a VF_SAMPLE of these numbers of probe and sweep entries, before they are judged. -/
def sampleTaken (p : Port) (k : RxPacket) (probes sweep : Nat) (s : State) : State :=
  onPixels p (fun x => { x with
    displaced := satAdd 32 x.displaced (displacedBy x (hdrBand k.header) probes sweep) }) (received p k s)

theorem sampleTaken_get (p k probes sweep s) : (sampleTaken p k probes sweep s).pixels.get p
    = { s.pixels.get p with
        displaced := satAdd 32 (s.pixels.get p).displaced (displacedBy (s.pixels.get p) (hdrBand k.header) probes sweep) } :=
  onPixels_get _ _ _

/-- What the judgement of a sample reads stands when the port has taken it. -/
theorem sampleTaken_reads (p k probes sweep s) :
    (∀ sub, limitOf (sampleTaken p k probes sweep s) p sub = limitOf s p sub)
      ∧ (∀ i, statusOf (sampleTaken p k probes sweep s) p i = statusOf s p i)
      ∧ ((sampleTaken p k probes sweep s).pixels.get p).confirms = (s.pixels.get p).confirms := by
  refine ⟨fun sub => ?_, fun i => ?_, ?_⟩
  · rw [limitOf, sampleTaken_get]
    rfl
  · rw [statusOf, sampleTaken_get]
    rfl
  · rw [sampleTaken_get]

/-- The entries of a VF_SAMPLE are judged: those of probes, then those of the sweep. -/
def samplesJudged (p : Port) (k : RxPacket) (r : List Sample × List Sample) (s : State) : State :=
  r.2.foldl (fun s e => sweepSample p e s) (noteSampled p (hdrBand k.header) (reportEpoch s k) r.2
    (r.1.foldl (fun s e => probeSample p e s) (sampleTaken p k r.1.length r.2.length s)))

theorem execVfSample_judged {s p k e} (h : SampleHeard s p k e) :
    exec (.vfSample p k) s = .next (samplesJudged p k (splitSamples (s.pixels.get p).confirms [e]) s) := by
  obtain ⟨⟨hhears, hgood, htype, hlength⟩, hsamples⟩ := h
  show Host.Outcome.next (receiveReturn p 9 _ k _ s) = _
  rw [receiveReturn_taken hhears hgood htype (by simp [hlength]), ← hsamples]
  rfl

theorem Confirming.pixel {s p e f} (h : Confirming s p e f) : f.pixel = e.pixel := by
  simpa using List.find?_some h.1

theorem Confirming.mem {s p e f} (h : Confirming s p e f) : f ∈ (s.pixels.get p).confirms :=
  List.mem_of_find?_eq_some h.1

/-- The entry of a started confirmation is a probe's. -/
theorem execVfSample_probe {s p k e f} (h : SampleHeard s p k e) (hf : Confirming s p e f) :
    exec (.vfSample p k) s = .next (probeSample p e (sampleTaken p k 1 0 s)) := by
  have hany : ((s.pixels.get p).confirms.any fun f => f.pixel == e.pixel && f.started) = true :=
    List.any_eq_true.2 ⟨f, hf.mem, by simp [hf.pixel, hf.2]⟩
  have hsplit : splitSamples (s.pixels.get p).confirms [e] = ([e], []) := if_pos hany
  rw [execVfSample_judged h, hsplit]
  rfl

/-- The entry of a pixel that is not under confirmation is one of the sweep. -/
theorem execVfSample_sweep {s p k e} (h : SampleHeard s p k e)
    (hnone : ∀ f ∈ (s.pixels.get p).confirms, f.pixel ≠ e.pixel) : exec (.vfSample p k) s
      = .next (sweepSample p e (noteSampled p (hdrBand k.header) (reportEpoch s k) [e] (sampleTaken p k 0 1 s))) := by
  have hany : ¬((s.pixels.get p).confirms.any fun f => f.pixel == e.pixel && f.started) = true := fun hsome => by
    obtain ⟨f, hf, hsame⟩ := List.any_eq_true.1 hsome
    exact hnone f hf (by simpa using (Bool.and_eq_true_iff.1 hsame).1)
  have hsplit : splitSamples (s.pixels.get p).confirms [e] = ([], [e]) := if_neg hany
  rw [execVfSample_judged h, hsplit]
  rfl

/-! ## The steps of a confirmation (R332, R333) -/

theorem Confirming.taken {s p e f} (h : Confirming s p e f) (k probes sweep) :
    Confirming (sampleTaken p k probes sweep s) p e f := by
  rw [Confirming, (sampleTaken_reads p k probes sweep s).2.2]
  exact h

section

variable {s : State} {p : Port} {e : Sample} {f : Confirm} (h : Confirming s p e f)
include h

theorem probeSample_missed (hstate : e.state = 2) : probeSample p e s = missedSample p f s := by
  rw [probeSample, h.1]
  exact if_pos hstate

theorem probeSample_stepA (hstate : e.state = 1) (hstep : f.step = 0) : probeSample p e s = stepA p e.pixel e.vf s := by
  rw [probeSample, h.1]
  simp [hstate, hstep]

theorem probeSample_stepB (hstate : e.state = 1) (hstep : f.step = 1) : probeSample p e s = stepB p e.pixel e.vf s := by
  rw [probeSample, h.1]
  simp [hstate, hstep]

theorem probeSample_stepC (hstate : e.state = 0) (hstep : f.step = 2) : probeSample p e s = stepC p e.pixel e.vf s := by
  rw [probeSample, h.1]
  simp [hstate, hstep]

end

/-- A confirmation that goes to a step keeps its place among the confirmations. -/
theorem moveConfirm_mem {p f} {s : State} (h : f ∈ (s.pixels.get p).confirms) (step tries) :
    { f with step := step, tries := tries, started := false, raised := false, skip := none }
      ∈ ((moveConfirm p f.pixel step tries s).pixels.get p).confirms := by
  rw [moveConfirm, onPixels_get]
  exact List.mem_map.2 ⟨f, h, if_pos rfl⟩

theorem endConfirm_get (p i s) : (endConfirm p i s).pixels.get p
    = { s.pixels.get p with confirms := (s.pixels.get p).confirms.filter fun f => f.pixel != i } := onPixels_get _ _ _

/-- The pixel of an ended confirmation is under confirmation no more. -/
theorem endConfirm_ends (p i) (s : State) : ∀ f ∈ (s.pixels.get p).confirms.filter fun f => f.pixel != i, f.pixel ≠ i :=
  fun f hf => by simpa using (List.mem_filter.1 hf).2

/-- The result of step A in an SF1 cell: a stuck-lit pixel disables its port (R332, R334). -/
theorem stepA_sf1 {p i vf} {s : State} (hlit : vf ≥ limitOf s p 0x12) (hsf1 : inSf1 s p (i % 1024) (i / 1024) = true) :
    Decided (stepA p i vf s) p i 3 ∧ (stepA p i vf s).nvm.disabled.get p = 1
      ∧ (s.nvm.disabled.get p ≠ 1 → ((stepA p i vf s).link.get p).enable = false) := by
  have heq : stepA p i vf s = sf1Reaction p i (decideStatus p i 3 vf s) := (if_pos hlit).trans (if_pos hsf1)
  obtain ⟨hdecided, hrecord⟩ := decideStatus_decided (code := 3) rfl p i vf s
  obtain ⟨hdisabled, hdark, hpixels, hbits⟩ := sf1Reaction_disables p i (decideStatus p i 3 vf s)
  rw [heq]
  exact ⟨hdecided.of_kept hpixels hbits, hdisabled, fun hfresh => hdark (by rw [hrecord]; exact hfresh)⟩

/-- Elsewhere step A leads to step B or C. -/
theorem stepA_moves {p i vf} {s : State} (h : ¬(vf ≥ limitOf s p 0x12 ∧ inSf1 s p (i % 1024) (i / 1024) = true)) :
    stepA p i vf s = moveConfirm p i (if vf ≥ limitOf s p 0x12 then 1 else 2) 0 s := by
  unfold stepA
  by_cases hlit : vf ≥ limitOf s p 0x12
  · rw [if_pos hlit, if_pos hlit, if_neg fun hsf1 => h ⟨hlit, hsf1⟩]
  · rw [if_neg hlit, if_neg hlit]

theorem stepB_decided (p i vf s) : Decided (stepB p i vf s) p i (if vf ≥ limitOf s p 0x12 then 3 else 5) := by
  have hexcluded : excludes (if vf ≥ limitOf s p 0x12 then 3 else 5) = true := by
    split <;> rfl
  exact (decideStatus_decided hexcluded p i vf s).1

/-- The results of step C (R332). -/
theorem stepC_results (p i vf s) : (vf > limitOf s p 0x11 → Decided (stepC p i vf s) p i 1)
    ∧ (vf ≤ limitOf s p 0x11 → vf < limitOf s p 0x10 → Decided (stepC p i vf s) p i 2)
    ∧ (vf ≤ limitOf s p 0x11 → vf ≥ limitOf s p 0x10 → statusOf (stepC p i vf s) p i = statusOf s p i
      ∧ ((stepC p i vf s).pixels.get p).falseAlarms = min ((s.pixels.get p).falseAlarms + 1) (2 ^ 32 - 1)
      ∧ ∀ g ∈ ((stepC p i vf s).pixels.get p).confirms, g.pixel ≠ i) := by
  unfold stepC
  refine ⟨fun hopen => ?_, fun hlow hshort => ?_, fun hlow hhigh => ?_⟩
  · rw [if_pos hopen]
    exact (decideStatus_decided rfl p i vf s).1
  · rw [if_neg (Nat.not_lt.2 hlow), if_pos hshort]
    exact (decideStatus_decided rfl p i vf s).1
  · rw [if_neg (Nat.not_lt.2 hlow), if_neg (Nat.not_lt.2 hhigh), statusOf, onPixels_get, endConfirm_get]
    exact ⟨rfl, rfl, endConfirm_ends p i s⟩

/-- A sample that was not taken (R333): the step is repeated, up to three times in all. -/
theorem missedSample_results {p f} {s : State} (h : f ∈ (s.pixels.get p).confirms) :
    (f.tries < 2 → ∃ g ∈ ((missedSample p f s).pixels.get p).confirms,
        g = { f with tries := f.tries + 1, started := false, raised := false, skip := none })
      ∧ (f.tries ≥ 2 → f.step = 1 → Decided (missedSample p f s) p f.pixel 5)
      ∧ (f.tries ≥ 2 → f.step ≠ 1 →
        ((missedSample p f s).pixels.get p).dropped = min ((s.pixels.get p).dropped + 1) (2 ^ 32 - 1)
        ∧ statusOf (missedSample p f s) p f.pixel = statusOf s p f.pixel) := by
  unfold missedSample
  refine ⟨fun hfew => ?_, fun hmany hstep => ?_, fun hmany hstep => ?_⟩
  · rw [if_pos (by omega)]
    exact ⟨_, moveConfirm_mem h f.step (f.tries + 1), rfl⟩
  · rw [if_neg (by omega), if_pos hstep]
    exact (decideStatus_decided rfl p f.pixel 0 s).1
  · rw [if_neg (by omega), if_neg hstep, statusOf, onPixels_get, endConfirm_get]
    exact ⟨rfl, rfl⟩

/-! ## Samples of the sweep (R330, R331, R334) -/

theorem getEntry_putEntry {α : Type} (d : α) (k : Nat) (v : α) : ∀ t, getEntry d k (putEntry k v t) = v
  | [] => if_pos rfl
  | (k', v') :: t => by
    rw [putEntry]
    split
    · exact if_pos rfl
    · split
      · exact if_pos rfl
      · next hother => exact (if_neg (Ne.symm hother)).trans (getEntry_putEntry d k v t)

/-- The sample of a sweep entry is noted. -/
def sweepTaken (p : Port) (k : RxPacket) (e : Sample) (s : State) : State :=
  onPixels p (fun x => { x with
    samples := putEntry (sampleKey (hdrBand k.header) (phaseOf (e.pixel % 1024) (e.pixel / 1024))) (reportEpoch s k) x.samples })
    (sampleTaken p k 0 1 s)

theorem noteSampled_eq {p k} {e : Sample} {s : State} (hstate : e.state ≠ 2) :
    noteSampled p (hdrBand k.header) (reportEpoch s k) [e] (sampleTaken p k 0 1 s) = sweepTaken p k e s := if_neg hstate

/-- What the judgement of a sweep entry reads stands when its sample is noted. -/
theorem sweepTaken_reads (p k e s) :
    (∀ sub, limitOf (sweepTaken p k e s) p sub = limitOf s p sub)
      ∧ (∀ i, statusOf (sweepTaken p k e s) p i = statusOf s p i)
      ∧ ((sweepTaken p k e s).pixels.get p).confirms = (s.pixels.get p).confirms
      ∧ ((sweepTaken p k e s).pixels.get p).candidates = (s.pixels.get p).candidates
      ∧ getEntry 0 (sampleKey (hdrBand k.header) (phaseOf (e.pixel % 1024) (e.pixel / 1024)))
          ((sweepTaken p k e s).pixels.get p).samples = reportEpoch s k := by
  have hget : (sweepTaken p k e s).pixels.get p = _ := onPixels_get _ _ _
  rw [sampleTaken_get] at hget
  refine ⟨fun sub => ?_, fun i => ?_, ?_, ?_, ?_⟩
  · rw [limitOf, hget]
    rfl
  · rw [statusOf, hget]
    rfl
  · rw [hget]
  · rw [hget]
  · rw [hget]
    exact getEntry_putEntry _ _ _ _

/-- The record of samples stands whatever a sweep entry brings. -/
theorem sweepSample_samples (p e s) : ((sweepSample p e s).pixels.get p).samples = (s.pixels.get p).samples := by
  unfold sweepSample
  split
  · rw [pixels_of_drive (ageSample_frame p e s)]
  · split
    · split
      · rw [(sf1Reaction_disables p e.pixel s).2.2.1]
      · exact (congrArg PixelCheck.samples (addCandidate_beside p e.pixel s) :)
    · rfl

/-- A stuck-lit pixel in an SF1 cell disables its port (R334). -/
theorem sweepSample_sf1 {p e} {s : State} (hstate : e.state = 1) (hlit : e.vf ≥ limitOf s p 0x12)
    (hstatus : statusOf s p e.pixel = 3) (hsf1 : inSf1 s p (e.pixel % 1024) (e.pixel / 1024) = true) :
    sweepSample p e s = sf1Reaction p e.pixel s :=
  (if_neg (by omega)).trans ((if_pos ⟨hstate, hlit⟩).trans (if_pos ⟨hstatus, hsf1⟩))

/-- A conducting off-sample of another pixel makes a candidate (R331). -/
theorem sweepSample_candidate {p e} {s : State} (hstate : e.state = 1) (hlit : e.vf ≥ limitOf s p 0x12)
    (hstatus : statusOf s p e.pixel ≠ 3) : sweepSample p e s = addCandidate p e.pixel s :=
  (if_neg (by omega)).trans ((if_pos ⟨hstate, hlit⟩).trans (if_neg fun h => hstatus h.1))

end Sys2Proof.Laws
end

section
/-!
O30: return packets are judged.
-/

namespace Sys2Proof.Laws

open Sys2Proof Sys2Proof.Machine

section

variable {s : State} {p : Port} {k : RxPacket} {e : Sample} {f : Confirm}

/-- Step A (R332, R334). -/
theorem vfSample_stepA (h : SampleHeard s p k e) (hf : Confirming s p e f) (hstate : e.state = 1) (hstep : f.step = 0) :
    ∃ t, exec (.vfSample p k) s = .next t
      ∧ (e.vf ≥ limitOf s p 0x12 → inSf1 s p (e.pixel % 1024) (e.pixel / 1024) = true →
          Decided t p e.pixel 3 ∧ t.nvm.disabled.get p = 1 ∧ (s.nvm.disabled.get p ≠ 1 → (t.link.get p).enable = false))
      ∧ (¬(e.vf ≥ limitOf s p 0x12 ∧ inSf1 s p (e.pixel % 1024) (e.pixel / 1024) = true) →
          ∃ g ∈ (t.pixels.get p).confirms, g.pixel = e.pixel ∧ g.tries = 0 ∧ g.started = false
            ∧ g.step = if e.vf ≥ limitOf s p 0x12 then 1 else 2) := by
  have hf' := hf.taken k 1 0
  obtain ⟨hlimit, -, -⟩ := sampleTaken_reads p k 1 0 s
  refine ⟨_, execVfSample_probe h hf, ?_⟩
  rw [probeSample_stepA hf' hstate hstep, ← hlimit]
  refine ⟨fun hlit hsf1 => stepA_sf1 hlit hsf1, fun hplain => ?_⟩
  rw [stepA_moves hplain, ← hf.pixel]
  exact ⟨_, moveConfirm_mem hf'.mem _ _, rfl, rfl, rfl, rfl⟩

/-- Step B (R332). -/
theorem vfSample_stepB (h : SampleHeard s p k e) (hf : Confirming s p e f) (hstate : e.state = 1) (hstep : f.step = 1) :
    ∃ t, exec (.vfSample p k) s = .next t ∧ Decided t p e.pixel (if e.vf ≥ limitOf s p 0x12 then 3 else 5) := by
  refine ⟨_, execVfSample_probe h hf, ?_⟩
  rw [probeSample_stepB (hf.taken k 1 0) hstate hstep, ← (sampleTaken_reads p k 1 0 s).1]
  exact stepB_decided _ _ _ _

/-- Step C (R332). -/
theorem vfSample_stepC (h : SampleHeard s p k e) (hf : Confirming s p e f) (hstate : e.state = 0) (hstep : f.step = 2) :
    ∃ t, exec (.vfSample p k) s = .next t
      ∧ (e.vf > limitOf s p 0x11 → Decided t p e.pixel 1)
      ∧ (e.vf ≤ limitOf s p 0x11 → e.vf < limitOf s p 0x10 → Decided t p e.pixel 2)
      ∧ (e.vf ≤ limitOf s p 0x11 → e.vf ≥ limitOf s p 0x10 → statusOf t p e.pixel = statusOf s p e.pixel
          ∧ (t.pixels.get p).falseAlarms = min ((s.pixels.get p).falseAlarms + 1) (2 ^ 32 - 1)
          ∧ ∀ g ∈ (t.pixels.get p).confirms, g.pixel ≠ e.pixel) := by
  refine ⟨_, execVfSample_probe h hf, ?_⟩
  obtain ⟨hlimit, hstatus, -⟩ := sampleTaken_reads p k 1 0 s
  have hresults := stepC_results p e.pixel e.vf (sampleTaken p k 1 0 s)
  rw [hlimit, hlimit, hstatus, sampleTaken_get] at hresults
  rw [probeSample_stepC (hf.taken k 1 0) hstate hstep]
  exact hresults

/-- A missed sample (R333). -/
theorem vfSample_missed (h : SampleHeard s p k e) (hf : Confirming s p e f) (hstate : e.state = 2) :
    ∃ t, exec (.vfSample p k) s = .next t
      ∧ (f.tries < 2 → ∃ g ∈ (t.pixels.get p).confirms,
          g = { f with tries := f.tries + 1, started := false, raised := false, skip := none })
      ∧ (f.tries ≥ 2 → f.step = 1 → Decided t p e.pixel 5)
      ∧ (f.tries ≥ 2 → f.step ≠ 1 → (t.pixels.get p).dropped = min ((s.pixels.get p).dropped + 1) (2 ^ 32 - 1)
          ∧ statusOf t p e.pixel = statusOf s p e.pixel) := by
  have hf' := hf.taken k 1 0
  refine ⟨_, execVfSample_probe h hf, ?_⟩
  have hresults := missedSample_results hf'.mem
  rw [(sampleTaken_reads p k 1 0 s).2.1, sampleTaken_get] at hresults
  rw [probeSample_missed hf' hstate, ← hf.pixel]
  exact hresults

/-- A sample of the sweep (R330, R331, R334). -/
theorem vfSample_sweep (h : SampleHeard s p k e) (hnone : ∀ f ∈ (s.pixels.get p).confirms, f.pixel ≠ e.pixel)
    (hstate : e.state ≠ 2) : ∃ t, exec (.vfSample p k) s = .next t
      ∧ getEntry 0 (sampleKey (hdrBand k.header) (phaseOf (e.pixel % 1024) (e.pixel / 1024))) (t.pixels.get p).samples
          = reportEpoch s k
      ∧ (e.state = 1 → e.vf ≥ limitOf s p 0x12 → statusOf s p e.pixel = 3 →
          inSf1 s p (e.pixel % 1024) (e.pixel / 1024) = true →
          t.nvm.disabled.get p = 1 ∧ (s.nvm.disabled.get p ≠ 1 → (t.link.get p).enable = false))
      ∧ (e.state = 1 → e.vf ≥ limitOf s p 0x12 → statusOf s p e.pixel = 0 → e.pixel ∉ (s.pixels.get p).candidates →
          (s.pixels.get p).candidates.length < candidateLimit →
          (t.pixels.get p).candidates = (s.pixels.get p).candidates ++ [e.pixel]) := by
  obtain ⟨hlimit, hstatus, hconfirms, hcandidates, hsample⟩ := sweepTaken_reads p k e s
  refine ⟨_, execVfSample_sweep h hnone, ?_⟩
  rw [noteSampled_eq hstate, ← hlimit, ← hstatus, ← hcandidates]
  refine ⟨(congrArg (getEntry 0 _) (sweepSample_samples p e _)).trans hsample, fun hoff hlit hstuck hsf1 => ?_,
    fun hoff hlit hwhole hnew hroom => ?_⟩
  · rw [sweepSample_sf1 hoff hlit hstuck hsf1]
    obtain ⟨hdisabled, hdark, -⟩ := sf1Reaction_disables p e.pixel (sweepTaken p k e s)
    exact ⟨hdisabled, hdark⟩
  · rw [sweepSample_candidate hoff hlit (by omega)]
    exact addCandidate_joins hwhole hnew (by rw [hconfirms]; exact hnone) hroom

end

/-- A return packet that its port does not take (R189, R212, R342). -/
theorem exec_returns_untaken {s : State} {p : Port} {k : RxPacket} {c : Instr} {ty : Nat}
    (h : (ty, c) ∈ [(8, Instr.bandStatus p k), (9, .vfSample p k), (0xA, .temp p k), (0xB, .ack p k),
      (0xB, .laneFail p k), (0xB, .holdExpired p k)]) :
    (hears s p ty = false → exec c s = .next s)
      ∧ (hears s p ty = true → crcGood k = false → exec c s = .next { s with link := s.link.modify p fun l =>
          { l with codeErrors := l.codeErrors + k.codeErrors, counts := { l.counts with returnErrors := min (l.counts.returnErrors + 1) (2 ^ 32 - 1) } } })
      ∧ (hears s p ty = true → crcGood k = true → (k.codeErrors ≠ 0 ∨ packetOfType k ty = false) →
          exec c s = .next { s with link := s.link.modify p fun l => { l with codeErrors := l.codeErrors + k.codeErrors } }) := by
  obtain ⟨lengthOk, act, heq⟩ := exec_returns s h
  rw [heq]
  exact ⟨fun hdeaf => congrArg _ (receiveReturn_unheard hdeaf),
    fun hhears hcrc => congrArg _ (receiveReturn_badCrc hhears hcrc),
    fun hhears hcrc hbad => congrArg _ (receiveReturn_badForm hhears hcrc hbad)⟩

/-- Settles O30: a packet that is not taken changes counts alone (`exec_returns_untaken`); a BAND_STATUS is followed
through its parts, whose later ones keep what the earlier ones wrote (`PixelWork`); a sample leads to one step of its
pixel's confirmation or of the sweep. -/
theorem returnPacketsAreJudged : Obligations.ReturnPacketsAreJudged := by
  unfold Obligations.ReturnPacketsAreJudged
  refine ⟨fun s p k c ty h => ⟨rfl, exec_returns_untaken h⟩, fun s p k h => ?_, fun s p k e f => vfSample_stepB,
    fun s p k e f => vfSample_stepC, fun s p k e f => vfSample_stepA, fun s p k e f => vfSample_missed,
    fun s p k e => vfSample_sweep⟩
  obtain ⟨hgrace, hsequence, hresend, hrows⟩ := bandStatus_link p k s _ rfl
  obtain ⟨hmatched, hmismatched⟩ := bandStatus_echo p k s _ rfl
  obtain ⟨hlow, hstorm, hjoins⟩ := bandStatus_flags p k s _ rfl
  exact ⟨_, execBandStatus_judged h, hgrace, hsequence, hresend, hrows, hmatched, hmismatched, hlow, hstorm, hjoins⟩

end Sys2Proof.Laws
end
